-- ==== Sys2Proof/Word.lean ====
section
/-!
DEFINITION. Word.lean: the word and byte types, and the sparse table `Tab` in which the model keeps
everything that the spec numbers (registers by address, memories by index, objects by number).
-/

namespace Sys2Proof

/-- A register word: every register is 32 bits wide (R8). -/
abbrev Word := BitVec 32
/-- A byte of memory. -/
abbrev Byte := BitVec 8
/-- A 64-bit value: a count of T_exp units (R46), an instruction word (R213), a fabric word. -/
abbrev W64 := BitVec 64

/-- A sparse table in canonical form: entries by rising key, none equal to what an unlisted key reads as. -/
abbrev Tab (α : Type) := List (Nat × α)

/-- What the table holds under key `k`; an unlisted key reads as `d`. -/
def Tab.get {α : Type} (d : α) : Tab α → Nat → α
  | [], _ => d
  | (k', v) :: t, k => if k = k' then v else Tab.get d t k

/-- The table without an entry under `k`. -/
def Tab.erase {α : Type} : Tab α → Nat → Tab α
  | [], _ => []
  | (k', v) :: t, k => if k = k' then Tab.erase t k else (k', v) :: Tab.erase t k

/-- The table with `v` inserted under `k`, at the place that the key order gives. -/
def Tab.insert {α : Type} : Tab α → Nat → α → Tab α
  | [], k, v => [(k, v)]
  | (k', v') :: t, k, v =>
    if k < k' then (k, v) :: (k', v') :: t
    else if k = k' then (k, v) :: t
    else (k', v') :: Tab.insert t k v

/-- The table after writing `v` under `k`: writing what an unlisted key reads as removes the entry. -/
def Tab.set {α : Type} [DecidableEq α] (d : α) (t : Tab α) (k : Nat) (v : α) : Tab α :=
  if v = d then Tab.erase t k else Tab.insert t k v

/-- Every key of the table is above `lo`, keys rise strictly, and no entry equals the unlisted value. -/
def Tab.wfAbove {α : Type} [DecidableEq α] (d : α) : Option Nat → Tab α → Bool
  | _, [] => true
  | lo, (k, v) :: t =>
    (match lo with | none => true | some l => decide (l < k)) && decide (v ≠ d) && Tab.wfAbove d (some k) t

/-- The canonical form of a table. -/
def Tab.wf {α : Type} [DecidableEq α] (d : α) (t : Tab α) : Bool := Tab.wfAbove d none t

/-- A number as a signed value of `w` bits. -/
def sext (w n : Nat) : Int := (BitVec.ofNat w n).toInt

/-- `x` clamped into the range from `lo` to `hi`. -/
def clampI (lo hi x : Int) : Int := if x < lo then lo else if hi < x then hi else x

/-- Addition that stops at `0xFFFF_FFFF`: the saturating counters of the register tables. -/
def satAdd32 (n k : Nat) : Nat := min (n + k) 0xFFFFFFFF

end Sys2Proof
end

