-- ==== Sys2Proof/Syntax.lean ====
section
/-!
DEFINITION. Syntax.lean: the commands that the module takes, one constructor per row of the table of
operations and events. A row that a host function issues carries its packet or the function that makes
the access; a row that the module or its surroundings bring about carries the object concerned and the
physical facts that come with it (samples, readings, frames, test signatures).
-/

namespace Sys2Proof

/-- A command packet as fetched (R442): the function that owns its submission queue, the queue, the header
fields, the parameter words w0, w1, …, and the bytes with which host memory answers the command's read. -/
structure Pkt where
  /-- function: 0 PF0, 1–4 VF1–VF4 -/
  fn : Nat
  /-- submission queue -/
  sq : Nat
  op : Nat
  tag : Nat
  /-- LENGTH, in bytes -/
  len : Nat
  part : Nat
  flags : Nat
  target : Nat
  /-- the reserved header word -/
  rsv : Nat
  words : List Word
  /-- what the host's memory returns; shorter than the command needs when the request fails (R457) -/
  host : List Byte
  deriving DecidableEq, Repr

/-- What a NOP row is: a command packet (R453) or the sequencer instruction of opcode 0 (R214). -/
inductive NopOp
  | packet (p : Pkt)
  | instr (q : Nat)
  deriving DecidableEq, Repr

/-- What publishes an event: a source of the publisher table (R547), or a producer of partition `own`
that names channel `ch` itself (R546). -/
inductive EvSrc
  | table (src : Nat)
  | direct (own ch : Nat)
  deriving DecidableEq, Repr

/-- A complex sample, or a pair of codes. -/
abbrev IQ := Int × Int
/-- A code of an ADC (R253) and the module count at which it is sampled. -/
abbrev AdcCode := Nat × Int

/-- A trigger that reaches a capture unit (R328, R330): 0 software, 1 event, 2 marker edge with the T and FRAC that
the port's TDC measured, 3 the unit's own level detector. -/
structure Trig where
  src : Nat
  t : Nat
  frac : Nat
  deriving DecidableEq, Repr

/-- A Sync message of the precision time protocol with the delay measurement that goes with it (R65): the transport and the
PTP domain on which it comes, whether its sender is the master that the standard's algorithm selects, and the four times of
the end-to-end mechanism in nanoseconds: t1 and t4 the master's, t2 and t3 the module's own wall time at its port. -/
structure PtpSync where
  transport : Nat
  domain : Nat
  best : Bool
  t1 : Nat
  t2 : Nat
  t3 : Nat
  t4 : Nat
  deriving DecidableEq, Repr

/-- The commands and events of the module, one constructor per row of the table. -/
inductive Instr
  /-- NOP (R453): command packet NOP completes SUCCESS with no effect. -/
  | nop (o : NopOp)
  /-- HRT_IDENTIFY (R534): returns the ROM, patch and firmware versions in RESULT. -/
  | hrtIdentify (p : Pkt)
  /-- HRT_PATCH_LOAD (R509): verifies a patch image and installs it at a quiescent point. -/
  | hrtPatchLoad (p : Pkt)
  /-- HRT_PATCH_CLEAR (R509): disables every match register at a quiescent point. -/
  | hrtPatchClear (p : Pkt)
  /-- INT_SRC_SET (R534): writes INT_SRC_CFG entries of a range of interrupt sources. -/
  | intSrcSet (p : Pkt)
  /-- INT_TARGET_SET (R534): writes PRIGRP and MOD of an interrupt target. -/
  | intTargetSet (p : Pkt)
  /-- INT_SWI (R534): command that raises an event on a software interrupt source. -/
  | intSwi (p : Pkt)
  /-- INT_SWI_REGISTER_WRITE (R538): register write of INT_SWI.SW that raises an event on the named software source. -/
  | intSwiRegisterWrite (fn sw : Nat)
  /-- INT_CLAIM_READ (R526): atomic read that claims the most urgent eligible source of a target or returns VALID clear. -/
  | intClaimRead (fn t : Nat)
  /-- INT_COMPLETE_WRITE (R528): write that completes an active source, updates the running priority and re-evaluates eligibility. -/
  | intCompleteWrite (fn t id : Nat)
  /-- INT_DELIVERY (R530): A rise of REQ delivers an MSI-X message or an INTERRUPT trap. -/
  | intDelivery (t : Nat)
  /-- MODERATION_WINDOW_END (R531): A moderation window closes and a held rise of REQ is delivered if still high. -/
  | moderationWindowEnd (t : Nat)
  /-- FAULT_TRAP (R516): an uncorrectable Hearth path error or unused fetch traps at once. -/
  | faultTrap (kind upc : Nat)
  /-- INTERRUPT_TRAP (R518): hearth claims a target-0 source, logs it, performs its service action and completes it. -/
  | interruptTrap
  /-- TICK_TRAP (R516): hearth's 1 us service timer traps to run background and safety duties. -/
  | tickTrap
  /-- TRAP_RETURN (R517): A trap-return word restores the saved micro-state and applies held traps if depth falls. -/
  | trapReturn
  /-- ROUTINE_YIELD (R511): A routine stops at a yield word and Hearth switches to the next ready context. -/
  | routineYield (upc : Nat)
  /-- GROUP_RELEASE (R514): A routine releases a held group and its deferral buffer is applied in one step. -/
  | groupRelease (ctx grp : Nat)
  /-- EVR_CHAN_SET (R559): writes ENABLE, AO, WAKE and RATE_MAX of an event channel. -/
  | evrChanSet (p : Pkt)
  /-- EVR_CELL_STAGE (R559): stages the configuration of a logic cell. -/
  | evrCellStage (p : Pkt)
  /-- EVR_PUB_STAGE (R559): stages a publisher table entry. -/
  | evrPubStage (p : Pkt)
  /-- EVR_COMMIT (R553): checks and applies the caller's staged cells and entries on one tick, or fails with a status. -/
  | evrCommit (p : Pkt)
  /-- EVR_CTRL_COMMIT (R552): register bit that requests a commit of the staged router configuration. -/
  | evrCtrlCommit (fn : Nat)
  /-- EVR_DISCARD (R559): reloads the caller's staged cells and entries from the active copies. -/
  | evrDiscard (p : Pkt)
  /-- EVR_CTRL_DISCARD (R560): register bit that discards staged copies as EVR_DISCARD does. -/
  | evrCtrlDiscard (fn : Nat)
  /-- EVR_PUBLISH (R559): command that publishes one event on a channel, if R543 permits. -/
  | evrPublish (p : Pkt)
  /-- EVR_SW_PUB (R560): register write that publishes one event on a channel under R543. -/
  | evrSwPub (fn ch : Nat)
  /-- EVENT_PUBLICATION (R548): an event reaches a channel, passes cells and reaches every permitted consumer. -/
  | eventPublication (o : EvSrc)
  /-- CHAN_RATE_TRIP_CLEAR (R555): writing 1 to a channel's RATE_TRIP clears it and re-enables the channel. -/
  | chanRateTripClear (fn ch : Nat)
  /-- CELL_FILTER_SETTLED (R550): A cell output change has held for FILT always-on edges and reaches publication. -/
  | cellFilterSettled (c : Nat)
  /-- WAKE_EVENT (R557): an event on a WAKE channel in BANKED starts the wake. -/
  | wakeEvent (ch : Nat)
  /-- TIME_ANCHOR (R52): anchor request by command for an UNANCHORED domain on the timing master. -/
  | timeAnchor (p : Pkt)
  /-- TD_CTRL_ANCHOR (R87): register anchor request using TD_ANCHOR. -/
  | tdCtrlAnchor (fn d : Nat)
  /-- TIME_PROPAGATE (R52): command that sends an anchor frame carrying the domain's own count. -/
  | timePropagate (p : Pkt)
  /-- TD_CTRL_PROPAGATE (R87): register propagate request. -/
  | tdCtrlPropagate (fn d : Nat)
  /-- TIME_RELEASE (R52): command that returns an anchored domain of an IDLE partition to UNANCHORED. -/
  | timeRelease (p : Pkt)
  /-- TD_CTRL_RELEASE (R87): register release request. -/
  | tdCtrlRelease (fn d : Nat)
  /-- ANCHOR_LOAD (R693): at the last-bit edge of an accepted anchor frame the value is loaded and the domain becomes ANCHORED. -/
  | anchorLoad (d : Nat)
  /-- ANCHOR_FRAME_RECEIVE (R59): A whole anchor frame arrives on TIMING LINK IN and is loaded, ignored or rejected, and forwarded. -/
  | anchorFrameReceive (frame : BitVec 104)
  /-- ANCHOR_FRAME_FORWARD (R60): A received frame leaves TIMING LINK OUT four reference periods later with adjusted value and CRC. -/
  | anchorFrameForward
  /-- TIME_ALIGN (R69): command that performs converter alignment. -/
  | timeAlign (p : Pkt)
  /-- ALIGNMENT_VERIFY (R71): converter divider reports are checked after a pulse; retry or ALIGN_FAIL and SAFE. -/
  | alignmentVerify (ok : Bool)
  /-- TIME_WALL_RELOCK (R66): command that sets the wall-time step permission. -/
  | timeWallRelock (p : Pkt)
  /-- REF_LOST (R62): the reference stops or leaves its frequency limits; domains unanchor and the module enters SAFE. -/
  | refLost
  /-- REF_RESTORED (R63): after 10 ms of valid reference REF_OK sets, the PLL relocks and converters realign. -/
  | refRestored
  /-- PTP_SYNC (R66): A PTP offset measurement advances the wall-time state machine, stepping or rate-correcting. -/
  | ptpSync (m : PtpSync)
  /-- WALL_HOLDOVER (R66): no Sync for three announce intervals moves wall time to HOLDOVER. -/
  | wallHoldover
  /-- TTU_FIRE (R76): A time-trigger unit reaches its target and publishes an event, rearming in periodic mode. -/
  | ttuFire (n : Nat)
  /-- TCU_CAPTURE (R79): A time-capture unit captures the count on the selected input edge. -/
  | tcuCapture (n t frac : Nat)
  /-- TCU_TIME_HI_READ (R80): reading TCU_TIME_HI returns the held capture and clears VALID. -/
  | tcuTimeHiRead (fn n : Nat)
  /-- REG64_LOW_READ (R15): reading the low half of a 64-bit value copies the high half to the function's holding register. -/
  | reg64LowRead (fn a : Nat)
  /-- REG64_HIGH_WRITE (R16): writing the high half of a 64-bit value makes the held pair take effect in one step. -/
  | reg64HighWrite (fn a : Nat) (v : Word)
  /-- REGISTER_WRITE (R9): A register write without a row of its own, applied by field access kinds, R11 and R17. -/
  | registerWrite (fn a : Nat) (v : Word)
  /-- DRV_CONFIG (R127): writes DRV_CTRL and DRV_ATTEN of a drive channel. -/
  | drvConfig (p : Pkt)
  /-- DRV_FRAME_SET (R127): writes the frequency, phase and gain registers of a frame. -/
  | drvFrameSet (p : Pkt)
  /-- ENV_LOAD (R127): copies envelope samples from host memory into the envelope store. -/
  | envLoad (p : Pkt)
  /-- ENV_DESC_SET (R127): writes envelope descriptors that apply at the next shot boundary. -/
  | envDescSet (p : Pkt)
  /-- DRV_ENV_DATA_ACCESS (R131): read or write of DRV_ENV_DATA accesses the sample at ADDR and advances ADDR. -/
  | drvEnvDataAccess (fn q : Nat) (wr : Option Word)
  /-- DRV_HEAT_SET (R127): writes LIMIT and TAU_EXP of a heat-load guard. -/
  | drvHeatSet (p : Pkt)
  /-- DRV_TRIP_CLEAR (R127): command that clears a heat trip if the mean has fallen to seven eighths of the limit. -/
  | drvTripClear (p : Pkt)
  /-- HEAT_TRIP_WRITE (R113): writing 1 to HEAT_TRIP clears the trip only if the mean is at most 896 × LIMIT. -/
  | heatTripWrite (fn : Nat) (ch : Nat)
  /-- HEAT_TRIP (R112): the running mean passes the limit; the stream is forced to zero, muted, logged and marked. -/
  | heatTrip (ch : Nat)
  /-- DRV_SPARE_SWAP (R122): command that starts a planned swap of a drive spare. -/
  | drvSpareSwap (p : Pkt)
  /-- DRV_SPARE_RELEASE (R122): command that releases a serving drive spare. -/
  | drvSpareRelease (p : Pkt)
  /-- SPARE_CTRL_SWAP (R126): register bit that requests a planned swap of a spare group to TARGET. -/
  | spareCtrlSwap (fn g target : Nat)
  /-- SPARE_CTRL_RELEASE (R126): register bit that requests release of a serving spare. -/
  | spareCtrlRelease (fn g : Nat)
  /-- SPARE_COPY_COMPLETE (R126): A lane state copy ends and the crossbar switches at the next tick boundary. -/
  | spareCopyComplete (g : Nat)
  /-- DATAPATH_FAILURE (R123): A datapath reports an uncorrectable or compare fault and is swapped out without state copy. -/
  | datapathFailure (ch : Nat)
  /-- SPARE_FAILURE (R126): A spare itself fails and goes FAILED. -/
  | spareFailure (g : Nat)
  /-- EXT_MUTE_INPUT (R116): the external mute input is asserted or released. -/
  | extMuteInput (asserted : Bool)
  /-- FLX_CONFIG (R158): writes FLX_CTRL, FLX_PARK and FLX_DELAY and completes when any ramp ends. -/
  | flxConfig (p : Pkt)
  /-- FLX_GAIN_SET (R158): writes FLX_GAIN. -/
  | flxGainSet (p : Pkt)
  /-- FLX_PD_LOAD (R158): writes the inactive predistortion bank and commits it if requested. -/
  | flxPdLoad (p : Pkt)
  /-- FLX_PD_COMMIT (R148): register bit that validates the inactive bank and swaps it in. -/
  | flxPdCommit (fn ch : Nat)
  /-- FLX_SPARE_SWAP (R156): command that starts a planned swap of a flux spare. -/
  | flxSpareSwap (p : Pkt)
  /-- FLX_SPARE_RELEASE (R156): command that releases a serving flux spare. -/
  | flxSpareRelease (p : Pkt)
  /-- FLX_RAMP_END (R150): A flux ramp reaches its end value after 2^RAMP_EXP samples and RAMPING clears. -/
  | flxRampEnd (ch : Nat)
  /-- SEQ_CONFIG (R199): writes SEQ_CTRL and the image and entry registers of a sequencer. -/
  | seqConfig (p : Pkt)
  /-- SEQ_IMAGE_LOAD (R199): copies instructions from host memory into a sequencer image. -/
  | seqImageLoad (p : Pkt)
  /-- SEQ_JUMP (R192): command that latches an asynchronous jump request. -/
  | seqJump (p : Pkt)
  /-- SEQ_JUMP_REQ (R192): register write that latches an asynchronous jump request. -/
  | seqJumpReq (fn q vec : Nat)
  /-- SEQ_VECTOR_SET (R199): writes a jump vector, effective at the next run start. -/
  | seqVectorSet (p : Pkt)
  /-- SEQ_MARKER_MAP (R199): writes SEQ_K_SRC of a marker port. -/
  | seqMarkerMap (p : Pkt)
  /-- PART_ARM (R171): command that writes the partition registers and arms the partition. -/
  | partArm (p : Pkt)
  /-- PART_CTRL_ARM (R171): register arm request of a partition. -/
  | partCtrlArm (fn p : Nat)
  /-- PART_STOP (R171): command that requests a stop after the shot in flight. -/
  | partStop (p : Pkt)
  /-- PART_CTRL_STOP (R171): register stop request of a partition. -/
  | partCtrlStop (fn p : Nat)
  /-- PART_ABORT (R171): command that aborts the partition at once. -/
  | partAbort (p : Pkt)
  /-- PART_CTRL_ABORT (R697): register abort request, taking precedence over STOP and ARM. -/
  | partCtrlAbort (fn p : Nat)
  /-- ARMING_COMPLETE (R171): all windows of all enabled sequencers are resident and the partition becomes ARMED. -/
  | armingComplete (p : Nat)
  /-- RUN_START_CUT (R696): at start − 1,024 ticks the run-start loads and sequencer initialisation take place. -/
  | runStartCut (p : Nat)
  /-- START_TIME (R171): the start tick arrives; ARMED becomes RUNNING or ARMING fails with START_MISSED. -/
  | startTime (p : Nat)
  /-- REFILL_COMPLETE (R181): A program window refill ends and the half becomes resident. -/
  | refillComplete (q half : Nat)
  /-- BARRIER_NOTICE (R174): an arrival notice reaches a member and updates the computed release. -/
  | barrierNotice (p : Nat)
  /-- BARRIER_RELEASE (R174): the computed release tick of a barrier or region-entry hold arrives and members leave. -/
  | barrierRelease (p : Nat)
  /-- BARRIER_TIMEOUT (R178): A barrier has not released within PART_BARRIER_TIMEOUT and the partition goes to IDLE. -/
  | barrierTimeout (p : Nat)
  /-- REGION_ABORT_RECEIVE (R189): A propagated region abort reaches a group member, which aborts to its target. -/
  | regionAbortReceive (q : Nat)
  /-- JUMP_TAKEN (R193): A latched jump request is taken at a segment end. -/
  | jumpTaken (q : Nat)
  /-- MARKER_PULSE_END (R195): A marker signal falls after SEQ_MARK_WIDTH ticks. -/
  | markerPulseEnd (q b : Nat)
  /-- TIMELINE_EFFECT (R207): an executed instruction's effects take place at its timeline tick. -/
  | timelineEffect (q : Nat)
  /-- WAIT (R216): advances the timeline by its duration. -/
  | wait (q : Nat)
  /-- SEGMENT (R217): starts a segment, aligning to the previous end and raising markers. -/
  | segment (q : Nat)
  /-- SHOT_START (R218): partition barrier that starts a shot. -/
  | shotStart (q : Nat)
  /-- SHOT_END (R218): partition barrier that ends a shot. -/
  | shotEnd (q : Nat)
  /-- SYNC (R218): group barrier. -/
  | sync (q : Nat)
  /-- REGION_BEGIN (R186): declares a coherent region and enters it as a group barrier. -/
  | regionBegin (q : Nat)
  /-- REGION_END (R186): ends a coherent region. -/
  | regionEnd (q : Nat)
  /-- TESTWIN (R197): waits W ticks and opens a test window if permitted. -/
  | testwin (q : Nat)
  /-- PREFETCH (R220): names the next refill target. -/
  | prefetch (q : Nat)
  /-- END_RUN (R221): requests the run end at the next SHOT_END. -/
  | endRun (q : Nat)
  /-- JUMP (R227): transfers to an absolute address. -/
  | jump (q : Nat)
  /-- CALL (R228): pushes the return address and transfers. -/
  | call (q : Nat)
  /-- RET (R228): pops the return address into the PC. -/
  | ret (q : Nat)
  /-- LOOP (R229): pushes a loop entry or skips past the matching ENDLOOP. -/
  | loop (q : Nat)
  /-- ENDLOOP (R229): decrements the top loop count and jumps back or pops. -/
  | endloop (q : Nat)
  /-- REPEAT (R230): executes the next instruction COUNT times without interruption. -/
  | repeatN (q : Nat)
  /-- BRANCH_FLAG (R227): branches relative on an arithmetic or test flag condition. -/
  | branchFlag (q : Nat)
  /-- BRANCH_COND (R235): tests condition flags once, sets MATCH, branches and optionally consumes. -/
  | branchCond (q : Nat)
  /-- WAIT_COND (R236): waits for condition flags of MASK or a timeout. -/
  | waitCond (q : Nat)
  /-- WAIT_COND_RESOLVE (R236): the last flag of a waiting WAIT_COND becomes SET and it resolves. -/
  | waitCondResolve (q : Nat)
  /-- WAIT_COND_TIMEOUT (R236): A WAIT_COND timeout expires; TIMEOUT sets and execution falls through. -/
  | waitCondTimeout (q : Nat)
  /-- CLRC (R238): clears SET of the flags of MASK. -/
  | clrc (q : Nat)
  /-- GETC (R238): copies the VALUE of SET flags of MASK into Vd. -/
  | getc (q : Nat)
  /-- PLAY (R223): issues a drive, flux or probe play and advances the timeline. -/
  | play (q : Nat)
  /-- ACQUIRE (R224): opens integration windows on the named tones. -/
  | acquire (q : Nat)
  /-- FREQ (R225): phase-continuous frequency change of a frame or tone. -/
  | freq (q : Nat)
  /-- PHASE_ADD (R225): adds a phase offset to a frame or tone. -/
  | phaseAdd (q : Nat)
  /-- PHASE_SET (R225): sets the phase offset of a frame or tone. -/
  | phaseSet (q : Nat)
  /-- PHASE_ADD_V (R225): adds a phase taken from a value register. -/
  | phaseAddV (q : Nat)
  /-- FRAME_RESET (R225): reloads F and P of the named slots from their registers. -/
  | frameReset (q : Nat)
  /-- LEVEL (R226): sets the flux level H and advances the timeline. -/
  | level (q : Nat)
  /-- LDI (R240): loads an immediate into Vd. -/
  | ldi (q : Nat)
  /-- ADD (R240): saturating 16-bit add. -/
  | addv (q : Nat)
  /-- SUB (R240): saturating 16-bit subtract. -/
  | subv (q : Nat)
  /-- ADDI (R240): saturating add of an immediate. -/
  | addi (q : Nat)
  /-- CMP (R240): sets ZERO and NEG from Va − Vb. -/
  | cmp (q : Nat)
  /-- MUL (R240): ACC becomes Va × Vb. -/
  | mul (q : Nat)
  /-- MAC (R242): saturating multiply-accumulate into ACC. -/
  | mac (q : Nat)
  /-- MSU (R242): saturating multiply-subtract from ACC. -/
  | msu (q : Nat)
  /-- ACCV (R240): loads ACC with Va shifted left by S. -/
  | accv (q : Nat)
  /-- RND (R241): rounds ACC half up by S into Vd. -/
  | rnd (q : Nat)
  /-- EXP (R240): writes the exponent of ACC into Vd. -/
  | expo (q : Nat)
  /-- NORM (R240): normalises ACC and writes the exponent into Vd. -/
  | norm (q : Nat)
  /-- CLRF (R240): clears ACC_SAT and V_SAT. -/
  | clrf (q : Nat)
  /-- RDO_PROBE_CONFIG (R280): writes RDO_PRB_CTRL and RDO_PRB_ATTEN of a probe output. -/
  | rdoProbeConfig (p : Pkt)
  /-- RDO_ADC_CONFIG (R280): writes RDO_ADC_CTRL and completes when samples are valid. -/
  | rdoAdcConfig (p : Pkt)
  /-- TONE_SET (R280): writes the registers of a tone. -/
  | toneSet (p : Pkt)
  /-- KERNEL_LOAD (R280): copies matched-filter weights into a kernel store. -/
  | kernelLoad (p : Pkt)
  /-- RDO_KERN_Q_ACCESS (R283): read or write of RDO_KERN_Q accesses a whole kernel word and advances ADDR. -/
  | rdoKernQAccess (fn q : Nat) (wr : Option Word)
  /-- RDO_HEAT_SET (R280): writes the heat-guard fields of a probe output. -/
  | rdoHeatSet (p : Pkt)
  /-- RDO_TRIP_CLEAR (R280): clears a probe heat trip by R113. -/
  | rdoTripClear (p : Pkt)
  /-- RDO_SPARE_SWAP (R278): command that starts a planned swap of a probe or acquisition spare. -/
  | rdoSpareSwap (p : Pkt)
  /-- RDO_SPARE_RELEASE (R278): command that releases a probe or acquisition spare. -/
  | rdoSpareRelease (p : Pkt)
  /-- REC_RING_SET (R280): writes the result ring registers of a partition. -/
  | recRingSet (p : Pkt)
  /-- REC_CONS_WRITE (R272): the host advances the record consumer offset, freeing ring space. -/
  | recConsWrite (fn p : Nat) (v : Word)
  /-- WINDOW_END (R263): an integration window reaches its declared end and is discriminated into an outcome. -/
  | windowEnd (t : Nat) (adc : List AdcCode)
  /-- EARLY_DECISION (R264): the margin reaches THRESH and the window ends early with the best state. -/
  | earlyDecision (t : Nat) (adc : List AdcCode)
  /-- DEPLETION_START (R265): at the tick boundary after an early decision the probe lane is cut or a depletion play starts. -/
  | depletionStart (t : Nat)
  /-- OUTCOME_ARRIVAL (R288): an outcome reaches the decision engine and is routed to direct and gather lookups. -/
  | outcomeArrival (t : Nat)
  /-- RECORD_ASSEMBLED (R268): all windows of a shot have delivered and its result record is assembled. -/
  | recordAssembled (p : Nat)
  /-- RECORD_WRITE (R274): A waiting record is written to the ring once its header fits, truncated if needed. -/
  | recordWrite (p : Nat)
  /-- DEC_ROUTE_SET (R316): writes tone routes. -/
  | decRouteSet (p : Pkt)
  /-- DEC_GATHER_SET (R316): writes the registers of a gather unit. -/
  | decGatherSet (p : Pkt)
  /-- DEC_TABLE_LOAD (R316): copies decision-table entries from host memory. -/
  | decTableLoad (p : Pkt)
  /-- DEC_TABLE_CLEAR (R316): writes zero entries over a key range. -/
  | decTableClear (p : Pkt)
  /-- DEC_ENTRY_WRITE (R322): A write of word 3 writes the whole held table entry under R300. -/
  | decEntryWrite (fn key : Nat) (v : Word)
  /-- DEC_COMET_SET (R316): writes ACK_THRESH and ACK_INTERVAL. -/
  | decCometSet (p : Pkt)
  /-- DEC_DECODER_SET (R316): writes the external decoder node. -/
  | decDecoderSet (p : Pkt)
  /-- GATHER_COMPLETE (R292): A gather unit completes, forms W, looks up its key and may send a fragment. -/
  | gatherComplete (g : Nat)
  /-- GATHER_TIMEOUT (R291): GU_TIMEOUT ticks after the first member the unit completes with defaults for missing members. -/
  | gatherTimeout (g : Nat)
  /-- CHAIN_LOOKUP (R297): the chain port reads one queued entry and performs its actions. -/
  | chainLookup
  /-- COMET_RECEIVE (R307): A Comet message arrives and is discarded, reported lost, or applied. -/
  | cometReceive (w : BitVec 64)
  /-- COMET_ACK_SEND (R306): the receiver returns a cumulative acknowledgement at ACK_THRESH or ACK_INTERVAL. -/
  | cometAckSend (p node : Nat)
  /-- COMET_ACK_RECEIVE (R306): A sender takes or ignores an acknowledgement and frees window space. -/
  | cometAckReceive (p node a : Nat)
  /-- COMET_ACK_TIMEOUT (R308): no acknowledgement for 100 us; outstanding messages count as acknowledged. -/
  | cometAckTimeout (p node : Nat)
  /-- DECODER_UPDATE (R312): A decoder frame update arrives and toggles a Pauli frame, resolving its round if LAST. -/
  | decoderUpdate (src : Nat) (w : BitVec 64)
  /-- FRAME_BARRIER_PASS (R313): A round's deadline passes unresolved; LATE_ENTRY runs and DECODER_LATE is marked. -/
  | frameBarrierPass (g : Nat)
  /-- ACQ_CONFIG (R353): writes the registers of a capture unit. -/
  | acqConfig (p : Pkt)
  /-- ACQ_ARM (R333): command that arms a capture unit or its group. -/
  | acqArm (p : Pkt)
  /-- ACQ_CU_ARM (R333): register arm request of a capture unit. -/
  | acqCuArm (fn u : Nat)
  /-- ACQ_STOP (R333): command that stops a capture unit or its group. -/
  | acqStop (p : Pkt)
  /-- ACQ_CU_STOP (R333): register stop request of a capture unit. -/
  | acqCuStop (fn u : Nat)
  /-- ACQ_TRIGGER (R328): command that issues a software trigger. -/
  | acqTrigger (p : Pkt)
  /-- ACQ_CU_SW_TRIG (R328): register software trigger. -/
  | acqCuSwTrig (fn u : Nat)
  /-- ACQ_FETCH (R353): copies acquisition buffer pages to host memory. -/
  | acqFetch (p : Pkt)
  /-- ACQ_MASK_LOAD (R353): writes mask memory entries. -/
  | acqMaskLoad (p : Pkt)
  /-- ACQ_MASK_HI_ACCESS (R356): access to ACQ_MASK_HI writes or reads a whole mask entry and advances ADDR. -/
  | acqMaskHiAccess (fn q : Nat) (wr : Option Word)
  /-- ACQ_GROUP_SET (R353): writes the registers of a capture group. -/
  | acqGroupSet (p : Pkt)
  /-- ACQ_K_CONFIG (R351): writes the direction and event settings of a marker port. -/
  | acqKConfig (p : Pkt)
  /-- STR_RING_SET (R353): writes the stream ring registers of a capture unit. -/
  | strRingSet (p : Pkt)
  /-- STR_CONS_WRITE (R342): the host advances a stream ring consumer offset. -/
  | strConsWrite (fn u : Nat) (v : Word)
  /-- TRIGGER_ARRIVAL (R332): A trigger reaches a capture unit and is accepted, merged or missed. -/
  | triggerArrival (u : Nat) (adc : List AdcCode) (ts : List Trig)
  /-- CAPTURE_COMPLETE (R333): sample n0 + POST − 1 is written and the unit goes DONE or REARM. -/
  | captureComplete (u : Nat) (adc : List AdcCode)
  /-- REARM_END (R335): the dead time ends and the unit accepts triggers again. -/
  | rearmEnd (u : Nat) (adc : List AdcCode)
  /-- MASK_VIOLATION (R346): A sample violates its mask segment and the configured action follows. -/
  | maskViolation (u : Nat) (adc : List AdcCode)
  /-- RATE_CHANGE (R340): automatic rate control changes the decimation and writes a RATE mark. -/
  | rateChange (u : Nat) (adc : List AdcCode)
  /-- STREAM_GAP (R341): A full FIFO drops samples and a GAP mark records them. -/
  | streamGap (u : Nat) (adc : List AdcCode)
  /-- ITEM_FLUSH (R338): A DATA item closes FLUSH us after its first sample. -/
  | itemFlush (u : Nat) (adc : List AdcCode)
  /-- ITEM_WRITE (R342): A waiting item is written to the stream ring when room exists. -/
  | itemWrite (u : Nat)
  /-- GROUP_MESSAGE (R349): A capture-group ARM, READY, FIRE_REQ, FIRE or STOP message is received and acted on. -/
  | groupMessage (w t : BitVec 64)
  /-- MARKER_INPUT_EDGE (R351): an edge on a marker input feeds its TDC and may publish an event. -/
  | markerInputEdge (k : Nat) (rising : Bool)
  /-- BIAS_CONFIG (R393): writes the configuration registers of a bias output. -/
  | biasConfig (p : Pkt)
  /-- BIAS_SET (R363): command that writes BIAS_CODE. -/
  | biasSet (p : Pkt)
  /-- BIAS_CODE_WRITE (R363): register write of BIAS_CODE sets the target or pushes onto the queue. -/
  | biasCodeWrite (fn b : Nat) (v : Word)
  /-- BIAS_QUEUE_LOAD (R393): pushes codes onto a bias queue. -/
  | biasQueueLoad (p : Pkt)
  /-- BIAS_QUEUE_START (R364): starts the masked queue clocks on one edge. -/
  | biasQueueStart (p : Pkt)
  /-- BIAS_QSTART_WRITE (R396): register write starting queue clocks of 32 channels on one edge. -/
  | biasQstartWrite (fn q k : Nat) (v : Word)
  /-- BIAS_QUEUE_STOP (R393): stops the masked queue clocks and flushes if asked. -/
  | biasQueueStop (p : Pkt)
  /-- BIAS_RESTORE (R374): restores the masked pending outputs. -/
  | biasRestore (p : Pkt)
  /-- BIAS_POLICY_SET (R393): writes SAFE_POL, AUTO_RESTORE and WINDOW. -/
  | biasPolicySet (p : Pkt)
  /-- BIAS_QCMD_START (R364): register bit starting one queue clock. -/
  | biasQcmdStart (fn b : Nat)
  /-- BIAS_QCMD_STOP (R364): register bit stopping one queue clock. -/
  | biasQcmdStop (fn b : Nat)
  /-- BIAS_QCMD_FLUSH (R365): register bit emptying one queue. -/
  | biasQcmdFlush (fn b : Nat)
  /-- BIAS_QCMD_RESTORE (R374): register bit restoring one pending output. -/
  | biasQcmdRestore (fn b : Nat)
  /-- QUEUE_CLOCK_RELEASE (R364): A clocked queue releases an entry every PERIOD modulator clocks. -/
  | queueClockRelease (b : Nat)
  /-- PACE_EVENT (R365): an event on PACE_CHAN releases an entry, or is held or merged. -/
  | paceEvent (b : Nat)
  /-- PACE_HOLD_RELEASE (R365): A held pace event acts at the 10 us point. -/
  | paceHoldRelease (b : Nat)
  /-- BIAS_SLEW_END (R361): A bias slew or ramp reaches its target and RAMPING clears. -/
  | biasSlewEnd (b : Nat)
  /-- SPAN_SWITCH_END (R368): the 200 us safe-value hold of a span change ends and SPAN_CHANGING clears. -/
  | spanSwitchEnd (b : Nat)
  /-- BIAS_CONDITION_REPORT (R369): A compliance or open-loop condition has held or been absent for 100 us and is reported or cleared. -/
  | biasConditionReport (b : Nat) (comp opn : Bool)
  /-- COMPLIANCE_WINDOW_EXPIRE (R371): COMPLIANCE held for WINDOW ms makes the output DARK as a permanent fault. -/
  | complianceWindowExpire (b : Nat)
  /-- MON_CONFIG (R393): writes the registers of a monitor converter. -/
  | monConfig (p : Pkt)
  /-- MON_START (R382): command that starts the masked converters. -/
  | monStart (p : Pkt)
  /-- MON_CMD_START (R382): register regular start of a converter. -/
  | monCmdStart (fn m : Nat)
  /-- MON_STOP (R393): command that stops the masked converters. -/
  | monStop (p : Pkt)
  /-- MON_CMD_STOP (R397): register bit ending a burst after the conversion in progress. -/
  | monCmdStop (fn m : Nat)
  /-- MON_INJECT (R385): command issuing an injected conversion request. -/
  | monInject (p : Pkt)
  /-- MON_CMD_INJECT (R385): register injected conversion request. -/
  | monCmdInject (fn m : Nat)
  /-- MON_CALIBRATE (R389): command starting calibration of a quadrant's converters. -/
  | monCalibrate (p : Pkt)
  /-- MON_CAL_CTRL_START (R389): register bit starting calibration. -/
  | monCalCtrlStart (fn q : Nat)
  /-- MON_CAL_END (R389): an 18 ms calibration ends, writes factors and sets CAL_VALID. -/
  | monCalEnd (q : Nat)
  /-- MON_REF_SET (R380): writes MON_REF and completes when SETTLING clears. -/
  | monRefSet (p : Pkt)
  /-- MON_REF_SETTLED (R380): the settling time after a reference change ends. -/
  | monRefSettled (q : Nat)
  /-- MON_TDAC_SET (R391): writes the test DAC code. -/
  | monTdacSet (p : Pkt)
  /-- MON_COMMON_SET (R383): writes the common-trigger registers. -/
  | monCommonSet (p : Pkt)
  /-- MON_COMMON_FIRE (R383): command firing the common trigger. -/
  | monCommonFire (p : Pkt)
  /-- MON_COMMON_CMD_FIRE (R400): register bit firing the common trigger once. -/
  | monCommonCmdFire (fn : Nat)
  /-- MON_COMMON_CMD_RUN (R400): register bit starting the common-trigger timer. -/
  | monCommonCmdRun (fn : Nat)
  /-- MON_COMMON_CMD_HALT (R400): register bit stopping the common-trigger timer. -/
  | monCommonCmdHalt (fn : Nat)
  /-- MON_START_ARRIVAL (R384): A timer, event or common-trigger start reaches a converter and starts, merges or is missed. -/
  | monStartArrival (m : Nat)
  /-- CONVERSION_COMPLETE (R386): A conversion ends and its result is written into the data pair. -/
  | conversionComplete (m : Nat) (raw : Int)
  /-- MON_DATA_HI_READ (R387): reading MON_DATA_HI after MON_DATA_LO marks the result read. -/
  | monDataHiRead (fn m : Nat)
  /-- MEM_WRITE (R425): copies host memory into DDR4. -/
  | memWrite (p : Pkt)
  /-- MEM_READ (R425): copies DDR4 into host memory. -/
  | memRead (p : Pkt)
  /-- MEM_MAP_SET (R405): writes LOCAL and GRAIN_EXP. -/
  | memMapSet (p : Pkt)
  /-- MEM_HINT_SET (R425): writes MEM_HINT. -/
  | memHintSet (p : Pkt)
  /-- MEM_SCRUB_SET (R425): writes MEM_SCRUB_CFG. -/
  | memScrubSet (p : Pkt)
  /-- MEM_MARCH (R424): command running a march test and completing with the result. -/
  | memMarch (p : Pkt)
  /-- MEM_MARCH_CTRL_START (R424): register bit starting a march test. -/
  | memMarchCtrlStart (fn : Nat)
  /-- MEM_MARCH_STOP (R423): command stopping a march with result INCOMPLETE. -/
  | memMarchStop (p : Pkt)
  /-- MEM_MARCH_CTRL_STOP (R423): register bit stopping a march. -/
  | memMarchCtrlStop (fn : Nat)
  /-- MARCH_END (R423): A march reaches its terminal count or stops on fail. -/
  | marchEnd (fails first ops : Nat) (diff : BitVec 64) (chk : Nat)
  /-- MEM_RANK_RETIRE (R417): retires a rank, starting a move if rank 0. -/
  | memRankRetire (p : Pkt)
  /-- MEM_WIN_DATA_HI_ACCESS (R428): access to MEM_WIN_DATA_HI reads or writes a DDR4 word and advances the address. -/
  | memWinDataHiAccess (fn : Nat) (wr : Option Word)
  /-- REFRESH_DUE (R410): A rank refresh falls due and is issued, postponed or forced. -/
  | refreshDue (c r made : Nat) (busy : Bool)
  /-- DDR_ALERT (R411): A device raises ALERT and a replay incident begins or fails. -/
  | ddrAlert (c r : Nat)
  /-- SCRUB_READ (R416): the scrubber reads a burst or word on its schedule. -/
  | scrubRead (store quad err : Nat)
  /-- ROW_REPAIR_COMPLETE (R415): A failing on-die row is copied to a spare row. -/
  | rowRepairComplete (store quad : Nat)
  /-- RANK_MOVE_COMPLETE (R418): A rank move ends, rank 0 powers down and MOVING clears. -/
  | rankMoveComplete (c : Nat)
  /-- MEMORY_INIT_COMPLETE (R420): zero initialisation of DDR4 or a store ends and INIT_DONE sets. -/
  | memoryInitComplete (st : Nat)
  /-- SQ_TAIL_DOORBELL (R436): the host writes a submission queue tail and fetching may begin. -/
  | sqTailDoorbell (fn n : Nat) (v : Word)
  /-- CQ_HEAD_DOORBELL (R438): the host writes a completion queue head, freeing entries. -/
  | cqHeadDoorbell (fn n : Nat) (v : Word)
  /-- SQ_CTRL_ENABLE_WRITE (R440): enabling or disabling a submission queue. -/
  | sqCtrlEnableWrite (fn n : Nat) (v : Word)
  /-- PACKET_FETCH (R446): hearth fetches a packet and checks it in order. -/
  | packetFetch (n : Nat) (p : Pkt)
  /-- COMMAND_START (R447): an accepted packet's waits end and it begins execution. -/
  | commandStart (sq tag : Nat)
  /-- AT_SHOT_RELEASE (R443): the SHOT_START of shot S releases and an AT_SHOT command may execute or completes BOUNDARY_PAST. -/
  | atShotRelease (p : Nat)
  /-- COMPLETION_POST (R439): A finished command's completion is posted when the queue has room. -/
  | completionPost (n : Nat)
  /-- LINK_DOWN (R457): the host link goes down or bus mastering is cleared. -/
  | linkDown (phys : Bool)
  /-- LINK_UP (R457): the link returns and waiting writes resume in order. -/
  | linkUp (phys : Bool)
  /-- HOT_RESET (R457): hot reset disables every queue. -/
  | hotReset
  /-- VF_FLR (R457): function Level Reset of a VF aborts its partition and disables its queues. -/
  | vfFlr (k : Nat)
  /-- PF0_FLR (R457): FLR of PF0 or VF Enable cleared resets every function and aborts partitions. -/
  | pf0Flr
  /-- FUNCTION_D3HOT (R457): A function enters D3hot; its doorbells are ignored. -/
  | functionD3hot (fn : Nat)
  /-- HOST_MEMORY_FAIL (R457): A host-memory request fails; the command or ring write reports it. -/
  | hostMemoryFail (sq tag : Nat)
  /-- HOST_DMA_RETRY (R457): A failed ring write is retried after 1 ms. -/
  | hostDmaRetry
  /-- FAB_LANE_CONFIG (R499): writes a lane's configuration. -/
  | fabLaneConfig (p : Pkt)
  /-- FAB_LINK_TRAIN (R499): runs the bit-slip search on ALIGN lanes until the port is UP. -/
  | fabLinkTrain (p : Pkt)
  /-- FAB_PORT_CONFIG (R499): writes a port's control. -/
  | fabPortConfig (p : Pkt)
  /-- FAB_DISCOVER (R483): runs fabric discovery and address assignment from the root. -/
  | fabDiscover (p : Pkt)
  /-- FAB_ADDR_CLEAR (R499): clears ADDR_VALID. -/
  | fabAddrClear (p : Pkt)
  /-- FAB_ROUTE_SET (R499): writes manual routes. -/
  | fabRouteSet (p : Pkt)
  /-- FAB_PART_NODES_SET (R499): writes the node list of a partition. -/
  | fabPartNodesSet (p : Pkt)
  /-- FAB_TWIN_CONFIG (R499): writes the twin registers. -/
  | fabTwinConfig (p : Pkt)
  /-- FAB_TWIN_HANDOVER (R496): planned handover of the active role at a named shot boundary. -/
  | fabTwinHandover (p : Pkt)
  /-- FAB_LANE_RESTORE (R472): returns a retired lane to OFF. -/
  | fabLaneRestore (p : Pkt)
  /-- LANE_SLIP (R469): A SLIP write moves the block boundary one bit later. -/
  | laneSlip (fn l : Nat)
  /-- LANE_RETRAIN (R471): A RETRAIN write sends an ALIGNED lane back to ACQUIRE. -/
  | laneRetrain (fn l : Nat)
  /-- AUTO_SLIP_STEP (R470): one step of Hearth's automatic bit-slip search after its 1 us wait. -/
  | autoSlipStep (l : Nat)
  /-- LANE_CDR_LOCK (R471): clock recovery locks with LOS clear and the lane enters ALIGN. -/
  | laneCdrLock (l : Nat)
  /-- LANE_ALIGNED (R471): 64 consecutive valid markers make the lane ALIGNED. -/
  | laneAligned (l : Nat)
  /-- ALIGN_TIMEOUT (R471): 10 ms in ALIGN or an exhausted search returns the lane to ACQUIRE. -/
  | alignTimeout (l : Nat)
  /-- LANE_LOSS (R471): LOS or LOL on an ALIGNED lane; it reacquires and may be retired. -/
  | laneLoss (l : Nat)
  /-- FRAME_RECEIVE (R477): A fabric frame is received, checked and accepted or NAKed, and its words routed. -/
  | frameReceive (port : Nat) (line : List (List Bool))
  /-- LACK_STALL_TIMEOUT (R477): LACK makes no progress for 1 us and the sender resends from the oldest frame. -/
  | lackStallTimeout (port : Nat)
  /-- WORD_EXPIRE (R478): A word not sent within 4,096 ticks is discarded. -/
  | wordExpire (port : Nat)
  /-- FRAME_ACK_TIMEOUT (R479): A frame unacknowledged for 4,096 ticks sends the port to TRAINING. -/
  | frameAckTimeout (port : Nat)
  /-- HELLO_SEND (R479): A port sends HELLO on its 10 us or 1 ms timer. -/
  | helloSend (port : Nat)
  /-- HELLO (R479): A HELLO link word is received and may bring the port UP or down. -/
  | hello (port : Nat) (w : BitVec 64)
  /-- DISCOVER (R483): A DISCOVER link word is received, setting the parent port and forwarded. -/
  | discover (port : Nat) (w : BitVec 64)
  /-- ANNOUNCE (R483): an ANNOUNCE link word is received and forwarded toward the root. -/
  | announce (port : Nat) (w : BitVec 64)
  /-- ANNOUNCE_QUIET (R483): 100 us without a new ANNOUNCE; the root assigns addresses. -/
  | announceQuiet
  /-- ASSIGN (R483): an ASSIGN link word gives a module its address or refusal. -/
  | assign (port : Nat) (w : BitVec 64)
  /-- VECTOR_SEND (R484): every 2 us a module sends its route VECTOR words. -/
  | vectorSend
  /-- VECTOR (R484): A VECTOR link word is received and routes are recomputed. -/
  | vector (port : Nat) (w : BitVec 64)
  /-- MIRROR_LOOKUP (R491): the standby performs a LOOKUP mirror word on its own table. -/
  | mirrorLookup (w : BitVec 64)
  /-- COMET_APPLY (R491): the standby applies the held Comet message named by a COMET_APPLY word. -/
  | cometApply (w : BitVec 64)
  /-- SHOT_MARK (R492): the standby compares the active's shot digest and sets IN_STEP or diverges. -/
  | shotMark (w d : BitVec 64)
  /-- HEARTBEAT_SEND (R493): A twin member sends HEARTBEAT every 256 ticks. -/
  | heartbeatSend
  /-- HEARTBEAT (R493): A HEARTBEAT mirror word is received from the partner. -/
  | heartbeat (w : BitVec 64)
  /-- HEARTBEAT_TIMEOUT (R493): no mirror word for HB_TIMEOUT leads to takeover, FAILED or ACTIVE_ALONE. -/
  | heartbeatTimeout
  /-- FAIL (R493): A FAIL mirror word is received and the standby takes over or fails. -/
  | fail (w : BitVec 64)
  /-- TAKEN (R495): A TAKEN word tells a failed member to discard its withheld record. -/
  | taken (w : BitVec 64)
  /-- HANDOVER (R496): A HANDOVER word names the shot after which the roles swap. -/
  | handover (w : BitVec 64)
  /-- STATE (R498): A STATE mirror word announces the join image length. -/
  | state (w : BitVec 64)
  /-- JOIN_IMAGE_WORD (R498): A join image word is received and loaded by the joiner. -/
  | joinImageWord (w : BitVec 64)
  /-- TWIN_PARTNER_ABSENT (R493): no partner seen for 10 us after EN; the member goes ACTIVE_ALONE. -/
  | twinPartnerAbsent
  /-- TAKEOVER_BOUNDARY (R494): at the shot boundary after a failure the standby becomes ACTIVE_ALONE and writes takeover records. -/
  | takeoverBoundary (p : Nat)
  /-- LOG_FETCH (R588): copies log entries to host memory. -/
  | logFetch (p : Pkt)
  /-- LOG_NV_FETCH (R588): copies non-volatile records to host memory. -/
  | logNvFetch (p : Pkt)
  /-- LOG_CLEAR (R588): empties the log ring and writes LOG_CLEARED. -/
  | logClear (p : Pkt)
  /-- FLT_SAFE (R588): enters SAFE with cause HOST_REQUEST. -/
  | fltSafe (p : Pkt)
  /-- LOG_ENTRY_READ (R591): reading word 0 of a log entry holds its other words. -/
  | logEntryRead (fn k : Nat)
  /-- SAFE_ENTRY (R573): A SAFE cause arises and all SAFE actions take place on one tick. -/
  | safeEntry (cause : Nat)
  /-- NV_RECORD_WRITE (R586): A non-volatile record or retirement map write to flash completes or fails. -/
  | nvRecordWrite (ok : Bool)
  /-- BST_LOGIC_RUN (R595): runs logic self-test on named quadrant domains. -/
  | bstLogicRun (p : Pkt)
  /-- BST_SLICE_TEST (R603): tests one member of a spare group. -/
  | bstSliceTest (p : Pkt)
  /-- BST_CONFIG (R608): writes BST_CFG. -/
  | bstConfig (p : Pkt)
  /-- BST_ANALOG_RUN (R606): runs the analogue check on one port. -/
  | bstAnalogRun (p : Pkt)
  /-- BST_PROOF_READ (R608): copies the newest proofing record and its words to host memory. -/
  | bstProofRead (p : Pkt)
  /-- BST_STOP (R605): ends running slice turns with result INCOMPLETE. -/
  | bstStop (p : Pkt)
  /-- DOMAIN_TEST_END (R594): A logic domain scan reaches its count and is judged; the next domain starts. -/
  | domainTestEnd (d : Nat) (sig : BitVec 64)
  /-- SLICE_TURN (R603): A spare group's periodic turn falls due. -/
  | sliceTurn (g : Nat)
  /-- SLICE_TEST_END (R604): A slice test ends and is judged PASS, FAIL or INCOMPLETE. -/
  | sliceTestEnd (g : Nat) (sig : BitVec 64)
  /-- SLICE_TEST_ABANDON (R605): A running slice test is abandoned by a competing need. -/
  | sliceTestAbandon (g : Nat)
  /-- TURN_WAIT_EXPIRE (R603): A turn finds no usable window within WAIT seconds and is skipped. -/
  | turnWaitExpire (g : Nat)
  /-- ANALOG_CHECK (R606): A periodic analogue check of a channel runs and is judged. -/
  | analogCheck (kind ch : Nat) (stuck : Bool)
  /-- PROOF_ANOMALY (R601): while waiting after proofing, overvoltage or a thermal crossing writes an anomaly word. -/
  | proofAnomaly (kind : Nat)
  /-- PWR_BANK (R623): command running the bank sequence. -/
  | pwrBank (p : Pkt)
  /-- PWR_CTRL_BANK (R623): register bank request. -/
  | pwrCtrlBank (fn : Nat)
  /-- BANK_COMPLETE (R623): the last bank ramp ends; DDR4 self-refreshes, converters power down and the module is BANKED. -/
  | bankComplete
  /-- PWR_WAKE (R625): command that wakes the module. -/
  | pwrWake (p : Pkt)
  /-- PWR_CTRL_WAKE (R621): register wake request. -/
  | pwrCtrlWake (fn : Nat)
  /-- WAKE_COMPLETE (R70): the wake steps end and the module is READY. -/
  | wakeComplete
  /-- PWR_SAFE_EXIT (R576): command leaving SAFE when its pending causes allow. -/
  | pwrSafeExit (p : Pkt)
  /-- PWR_SHUTDOWN (R631): orderly shutdown with optional proofing pass. -/
  | pwrShutdown (p : Pkt)
  /-- PROOFING_PASS_END (R599): the proofing pass or settings copy ends, the record is written and POWER_GOOD falls. -/
  | proofingPassEnd (bad ranks : List Nat)
  /-- PWR_SETTINGS_SAVE (R628): command copying settings to flash. -/
  | pwrSettingsSave (p : Pkt)
  /-- PWR_CTRL_SAVE (R628): register settings save request. -/
  | pwrCtrlSave (fn : Nat)
  /-- AUTOSAVE (R628): AUTOSAVE minutes after a retained change the settings are saved. -/
  | autosave
  /-- PWR_CAP_SET (R638): writes PWR_CAP and sheds as needed. -/
  | pwrCapSet (p : Pkt)
  /-- PWR_SHED_RANK_SET (R638): writes partition shed ranks. -/
  | pwrShedRankSet (p : Pkt)
  /-- PWR_CFG_SET (R638): writes PWR_CFG. -/
  | pwrCfgSet (p : Pkt)
  /-- THM_SNAPSHOT_FETCH (R638): copies thermal shutdown snapshots to host memory. -/
  | thmSnapshotFetch (p : Pkt)
  /-- ENVELOPE_UPDATE (R613): every 10 us the input is measured and the envelope recomputed. -/
  | envelopeUpdate (vin iin : Nat)
  /-- SHED_STEP (R616): the governor sheds one channel when committed power exceeds the envelope. -/
  | shedStep
  /-- RESTORE_STEP (R619): the governor restores one shed channel when its condition holds. -/
  | restoreStep
  /-- INPUT_FAIL (R620): under- or overvoltage for 1 ms enters SAFE and powers down converters. -/
  | inputFail
  /-- INPUT_RECOVERED (R620): input in range for 100 ms clears PENDING bit 4. -/
  | inputRecovered
  /-- POWER_ON (R621): input in range for 10 ms with ENABLE_IN asserted starts the start-up sequence. -/
  | powerOn
  /-- STARTUP_STEP_END (R627): A start-up step ends and the next begins, ending in READY or SAFE. -/
  | startupStepEnd (ok : Bool) (bad : List Nat)
  /-- ENABLE_IN_RELEASE (R624): ENABLE_IN released for 10 ms starts the disable sequence or stops start-up. -/
  | enableInRelease
  /-- RESET_N_ASSERT (R621): RESET_N asserted puts the module OFF. -/
  | resetNAssert
  /-- RESET_N_RELEASE (R621): RESET_N released starts start-up without credit. -/
  | resetNRelease
  /-- POWER_LOSS (R621): input falls below 7.0 V and the module is OFF. -/
  | powerLoss
  /-- PRESENT_BREAK (R667): the PRESENT contact breaks; hardware mutes and disconnects bias within 100 us. -/
  | presentBreak
  /-- BANKED_DOORBELL (R622): A doorbell write in BANKED is held and starts the wake. -/
  | bankedDoorbell (fn n : Nat) (v : Word)
  /-- THERMAL_SAMPLE (R634): the sensors are sampled and thermal levels entered or left. -/
  | thermalSample (temps : List Int)
  /-- THM_CAP_STEP (R636): THM_CAP falls by 56 W every 100 ms or rises every 1 s. -/
  | thmCapStep
  /-- SEC_FW_UPDATE (R655): verifies a firmware image and writes it into the other slot. -/
  | secFwUpdate (p : Pkt)
  /-- SEC_CAL_LOAD (R653): verifies and writes the calibration image. -/
  | secCalLoad (p : Pkt)
  /-- SEC_ATTEST (R658): writes a signed attestation report. -/
  | secAttest (p : Pkt)
  /-- SEC_CERT_FETCH (R662): copies the identity certificate container. -/
  | secCertFetch (p : Pkt)
  /-- SEC_FUSE_PROGRAM (R662): burns a fuse map generation or customer field. -/
  | secFuseProgram (p : Pkt)
  /-- SEC_LC_ADVANCE (R644): advances the life-cycle state. -/
  | secLcAdvance (p : Pkt)
  /-- SEC_SVN_COMMIT (R656): raises minimum security versions to those in use. -/
  | secSvnCommit (p : Pkt)
  /-- IDENTITY_DERIVED (R657): identity key derivation completes and KEY_VALID sets. -/
  | identityDerived
  /-- SMBUS_READ (R677): an SMBus block read returns module status. -/
  | smbusRead (addr : Nat)
  /-- STATUS_DATAGRAM (R679): A UDP datagram on port 7330 is answered with status bytes. -/
  | statusDatagram
  /-- CHASSIS_ID_READ (R676): the chassis code is read every 1 s. -/
  | chassisIdRead (code : Nat)
  /-- MUTE_RELEASE (R117): at T_exp = start − 4,096 the drive and probe mutes of an armed partition begin releasing while a zero stream plays. -/
  | muteRelease (p : Nat)
  /-- PLAY_END (R100): A play reaches d = 16 × N × L, stops contributing to its lane, and LANE_BUSY clears. -/
  | playEnd (lane : Nat)
  /-- EXT_FAULT (R379): the external reference at M(16q + 15) leaves or returns to 2.0 V to 5.0 V, setting or clearing EXT_FAULT and thereby UNSETTLED marking. -/
  | extFault (q : Nat) (fault : Bool)
  /-- PPS_OUT (R68): PPS OUT rises at each wall-time second boundary and falls 1 ms later. -/
  | ppsOut
  /-- HIT_FORGOTTEN (R414): A location-table hit ages past 24 h of MTIME and is forgotten, changing HITS or clearing VALID of its entry. -/
  | hitForgotten (k : Nat)
  /-- FUNCTION_D0 (R457): A function returns from D3hot to D0, so its doorbells act again and its waiting completions, records and items resume. -/
  | functionD0 (fn : Nat)
  /-- CONVENTIONAL_RESET (R431): PERST_N on the host connector asserts a conventional PCI Express reset of the link and functions. -/
  | conventionalReset
  /-- BOUNDARY_SCAN (R660): A JTAG instruction is shifted in and takes effect, acting as EXTEST only when permitted and otherwise as BYPASS. -/
  | boundaryScan (instr : Nat)
  /-- DENIED_READ (R19): A VF read of a location outside its partition returns zero and increments the VF's DENIED counter. -/
  | deniedRead (fn a : Nat)
  deriving DecidableEq, Repr

end Sys2Proof
end

