-- ==== Sys2Proof/Decode.lean ====
section
/-!
DEFINITION. Decode.lean: the command that a word spells by the table's bits. The module is no processor: the
table gives no row any bits, so no word spells a command.
-/

namespace Sys2Proof

/-- The command whose row gives the bits of `w`: the table gives none. -/
def decodeTableWord (_nbits _w : Nat) : Option Instr := none

end Sys2Proof
end

