-- ==== Sys2Proof/Config.lean ====
section
/-!
DEFINITION. Config.lean: what an implementation fixes and the spec does not give, as constants without a
body, and the free values. No proof can see what they are, so a claim holds whatever they are.
-/

namespace Sys2Proof.Config
open Sys2Proof

/-- A value that the spec leaves open, numbered by the state's counter `free`. -/
opaque freeVal : Nat → Nat

/-- Master interpolation kernel H(P, i) of R694 for phases other than 0: fixed in the quadrant mask, and
readable, but not given in the manual. Phase 0 is given and is not read from here. -/
opaque kernel : Nat → Int → BitVec 18

/-- The version of the control ASIC's mask ROM (R535). -/
opaque romVersion : BitVec 16
/-- The ROM control word at a micro-address (R506, R507): the microcode is the maker's. -/
opaque romWord : Nat → BitVec 192
/-- The firmware of the module as delivered: version (R535). -/
opaque factoryFw : BitVec 32
/-- Its security version and its container (R647). -/
opaque factorySvn : BitVec 8
opaque factoryFwBytes : List (BitVec 8)
/-- Fused identity: the PCI vendor (R431), the ordering code 1 or 2 (R1), and the module ID of 48 bits. -/
opaque vendorId : BitVec 16
opaque orderCode : Bool
/-- CODE of the ordering code: 1 for TZQ128-AC, 2 for TZQ128-CC (R2, R431). -/
def orderNum : Nat := if orderCode then 2 else 1
opaque moduleId : BitVec 48

/-- SHA-3-family digest of a byte string (the security chapter names the function; its body is a standard's). -/
opaque shake256 : Nat → List (BitVec 8) → List (BitVec 8)
/-- Whether signature bytes verify over a message under a key (the standard's algorithm). -/
opaque sigVerify : List (BitVec 8) → List (BitVec 8) → List (BitVec 8) → Bool
/-- The root and customer public keys, and the identity key pair derived from the module's secret (R657). -/
opaque rootKey : List (BitVec 8)
opaque identityKey : List (BitVec 8)
opaque sigSign : List (BitVec 8) → List (BitVec 8)
opaque identityCert : List (BitVec 8)

/-- The fabric word of an acknowledgement (R306): the spec gives its content, not its format. Partition, epoch, sender's node and
member, and the next expected SEQ. -/
opaque ackWord : Nat → Nat → Nat → Nat → Nat → BitVec 64

/-- The CRC-32 that closes a fuse map generation, and a generation whose burn failed (R643, R646). -/
opaque fuseCrc : List (BitVec 8) → List (BitVec 8)
opaque badGeneration : Nat → List (BitVec 8)

/-- Expected signature of a logic domain (R594) and of a slice test for a number of patterns (R604). -/
opaque domainSig : Nat → BitVec 64
opaque sliceSig : Nat → Nat → BitVec 64

/-- What a self-calibration of a bias output measures for a span (R376): offset in bits 15:0, gain in bits 39:16. -/
opaque biasFactor : Nat → Nat
/-- Whether it measures a gain more than 2 % from 1.0 or an offset above 0.5 % of full scale in some span: the output is stuck. -/
opaque biasStuck : Nat → Bool

/-- The channelizer's filter (R256): the coefficient, I and Q, by which channel `c` weighs the code that lies `d` units of
T_exp after its output's stamp, and the places by which the sum is shifted. The spec gives the filter's response, not its
coefficients. -/
opaque chanTap : Nat → Int → Int × Int
opaque chanShift : Nat

/-! The microcode's own conventions (R507): the table gives the places of the fields, not the encodings within ALU, BUS and
COND. -/
/-- Micro-addresses at which the handler of a trap cause begins, a routine for an opcode, and the dispatch of SEQ_OP 5. -/
opaque trapVector : Nat → Nat
opaque routineAt : Nat → Nat
opaque dispatchAt : Nat → Nat
/-- What an ALU field does with its immediate, the micro-registers and the flags (Z, N, C, V from bit 0): the destination, its
value, and the flags. -/
opaque aluOp : BitVec 33 → BitVec 64 → List (BitVec 64) → Nat → Nat × BitVec 64 × Nat
/-- The micro-register into which a BUS field reads, if it reads. -/
opaque busDest : BitVec 64 → Option Nat
/-- Whether a COND holds, by the flags and by a value that stands for the statuses it may test. -/
opaque condHolds : Nat → Nat → Nat → Bool
/-- The micro-register in which a call keeps the address that its return goes to. -/
opaque linkReg : Nat

end Sys2Proof.Config
end

