-- ==== Sys2Proof/Machine/RegMap.lean ====
section
/-!
DEFINITION. Machine/RegMap.lean: the register map of the module, one row per register of the spec's
register tables (R18 and the tables of the block chapters): its name, its PF0 BAR0 address, how it
repeats, who sees it, what locks it, and each field's bits, access kind and reset. The field constants
that the meanings use stand in namespace `F`: a register's offset from its page and the field's bits.
-/

namespace Sys2Proof

/-- The access kinds of R9; an RS field names its scope (R10). -/
inductive Acc | rw | ro | w1c | w1s | wo | rsSeg | rsShot | rsRun | rl
  deriving DecidableEq, Repr

/-- The Reset column of R14: a number, retained (with its factory value), or fused. -/
inductive Rst | num (n : Nat) | ret (factory : Nat) | fuse
  deriving DecidableEq, Repr

/-- Who sees a register through a VF view: the class of object that it belongs to (R19, R433). -/
inductive Vis
  | all | bias | biasq | cu | dec | desc | dom | drv | envw | evcell | evch | evpub | evr | fab | fabr | fn | grp | gu | hrt | intsrc | inttgt | kern | kq | mon | monc | monq | part | pauli | pf0 | pwr | queue | rdo | route | seq | tcu | tone | ttu
  deriving DecidableEq, Repr

/-- Which block counts as running for a register's RL fields (R11, R190 and the block chapters). -/
inductive Lck
  | anyPart | anyRun | bias | bst | cu | desc | drv | evcell | fab | fabr | grp | gu | lane | mem | mon | none | part | qown | queue | rdo | route | seq | tone | twin
  deriving DecidableEq, Repr

/-- One field of a register: name, bits, access kind, reset, and whether only PF0 writes it. -/
structure FieldDesc where
  name : String
  hi : Nat
  lo : Nat
  acc : Acc
  rst : Rst
  pf0w : Bool
  deriving DecidableEq, Repr

/-- One register of the map: `dims` gives each index's count and stride, widest stride first. -/
structure RegDesc where
  name : String
  base : Nat
  dims : List (Nat × Nat)
  vis : Vis
  lck : Lck
  flds : List FieldDesc
  deriving DecidableEq, Repr

/-- A field within a page: the register's byte offset from the page, and the field's bits. -/
structure Fld where
  off : Nat
  hi : Nat
  lo : Nat
  deriving DecidableEq, Repr

namespace F

def HRT_ID_PRODUCT : Fld := ⟨0x0, 15, 0⟩
def HRT_ID_CODE : Fld := ⟨0x0, 17, 16⟩
def HRT_VERSION_ROM_ROM : Fld := ⟨0x4, 15, 0⟩
def HRT_VERSION_PATCH_PATCH : Fld := ⟨0x8, 15, 0⟩
def HRT_VERSION_FW_FW : Fld := ⟨0xC, 31, 0⟩
def HRT_STATUS_STATE : Fld := ⟨0x10, 1, 0⟩
def HRT_STATUS_TRAP_DEPTH : Fld := ⟨0x10, 4, 2⟩
def HRT_STATUS_PATCH_ACTIVE : Fld := ⟨0x10, 5, 5⟩
def HRT_STATUS_PATCH_FAULT : Fld := ⟨0x10, 6, 6⟩
def HRT_STATUS_CONTEXTS : Fld := ⟨0x10, 12, 8⟩
def HRT_TRAPS : Fld := ⟨0x14, 31, 0⟩
def HRT_TRAPS_HELD : Fld := ⟨0x18, 31, 0⟩
def HRT_DEFERRALS : Fld := ⟨0x1C, 31, 0⟩
def HRT_LOCKED_WRITES : Fld := ⟨0x20, 31, 0⟩
def HRT_BUSY_REJECTS : Fld := ⟨0x24, 31, 0⟩
def HRT_CTX_STATE_STATE : Fld := ⟨0x0, 1, 0⟩
def HRT_CTX_STATE_INTERNAL : Fld := ⟨0x0, 2, 2⟩
def HRT_CTX_STATE_HELD : Fld := ⟨0x0, 6, 3⟩
def HRT_CTX_STATE_OPCODE : Fld := ⟨0x0, 31, 16⟩
def HRT_CTX_CMD_TAG : Fld := ⟨0x4, 15, 0⟩
def HRT_CTX_CMD_SQ : Fld := ⟨0x4, 21, 16⟩
def HRT_CTX_GROUPS_GROUP_LO : Fld := ⟨0x8, 15, 0⟩
def HRT_CTX_GROUPS_GROUP_HI : Fld := ⟨0x8, 31, 16⟩
def HRT_MATCH_EN : Fld := ⟨0x0, 0, 0⟩
def HRT_MATCH_ADDR : Fld := ⟨0x0, 15, 1⟩
def HRT_MATCH_PATCH : Fld := ⟨0x0, 25, 16⟩
def HRT_SQ_TAIL_INDEX : Fld := ⟨0x0, 15, 0⟩
def HRT_CQ_HEAD_INDEX : Fld := ⟨0x4, 15, 0⟩
def INT_LOCKED_WRITES : Fld := ⟨0x0, 31, 0⟩
def INT_BUSY_REJECTS : Fld := ⟨0x4, 31, 0⟩
def INT_SWI_SW : Fld := ⟨0x8, 3, 0⟩
def INT_MERGED : Fld := ⟨0xC, 31, 0⟩
def INT_CLAIM_ID : Fld := ⟨0x0, 9, 0⟩
def INT_CLAIM_PRIO : Fld := ⟨0x0, 23, 16⟩
def INT_CLAIM_VALID : Fld := ⟨0x0, 31, 31⟩
def INT_COMPLETE_ID : Fld := ⟨0x4, 9, 0⟩
def INT_PRIGRP_PRIGRP : Fld := ⟨0x8, 2, 0⟩
def INT_MOD_MOD : Fld := ⟨0xC, 11, 0⟩
def INT_TSTATUS_REQ : Fld := ⟨0x10, 0, 0⟩
def INT_TSTATUS_IDLE : Fld := ⟨0x10, 1, 1⟩
def INT_TSTATUS_HELD : Fld := ⟨0x10, 2, 2⟩
def INT_TSTATUS_RP_VALID : Fld := ⟨0x10, 3, 3⟩
def INT_TSTATUS_RP : Fld := ⟨0x10, 15, 8⟩
def INT_TSTATUS_ACTIVE : Fld := ⟨0x10, 20, 16⟩
def INT_SPURIOUS : Fld := ⟨0x14, 31, 0⟩
def INT_BAD_COMPLETE : Fld := ⟨0x18, 31, 0⟩
def INT_DELIVERIES : Fld := ⟨0x1C, 31, 0⟩
def INT_PENDING_BITS : Fld := ⟨0x0, 31, 0⟩
def INT_ACTIVE_BITS : Fld := ⟨0x100, 31, 0⟩
def INT_SRC_CFG_PRIO : Fld := ⟨0x0, 7, 0⟩
def INT_SRC_CFG_ENABLE : Fld := ⟨0x0, 8, 8⟩
def INT_SRC_CFG_TARGET : Fld := ⟨0x0, 11, 9⟩
def INT_SRC_CFG_KIND : Fld := ⟨0x0, 12, 12⟩
def INT_SRC_CFG_PENDING : Fld := ⟨0x0, 13, 13⟩
def INT_SRC_CFG_ACTIVE : Fld := ⟨0x0, 14, 14⟩
def INT_SRC_CFG_LEVEL : Fld := ⟨0x0, 15, 15⟩
def EVR_STATUS_COMMIT_BUSY : Fld := ⟨0x0, 0, 0⟩
def EVR_STATUS_LOOP_REJECT : Fld := ⟨0x0, 1, 1⟩
def EVR_STATUS_ALLOC_REJECT : Fld := ⟨0x0, 2, 2⟩
def EVR_STATUS_RATE_TRIP : Fld := ⟨0x0, 3, 3⟩
def EVR_STATUS_DENIED : Fld := ⟨0x0, 4, 4⟩
def EVR_CTRL_COMMIT : Fld := ⟨0x4, 0, 0⟩
def EVR_CTRL_DISCARD : Fld := ⟨0x4, 1, 1⟩
def EVR_COMMIT_RESULT_STATUS : Fld := ⟨0x8, 15, 0⟩
def EVR_COMMIT_RESULT_CHANNEL : Fld := ⟨0x8, 23, 16⟩
def EVR_SW_PUB_CHANNEL : Fld := ⟨0xC, 7, 0⟩
def EVR_SW_PUB_PUB : Fld := ⟨0xC, 8, 8⟩
def EVR_LOCKED_WRITES : Fld := ⟨0x10, 31, 0⟩
def EVR_BUSY_REJECTS : Fld := ⟨0x14, 31, 0⟩
def EVR_DENIED : Fld := ⟨0x18, 31, 0⟩
def EVR_COMMITS : Fld := ⟨0x1C, 31, 0⟩
def EVR_CHAN_CFG_OWNER : Fld := ⟨0x0, 2, 0⟩
def EVR_CHAN_CFG_ATTR : Fld := ⟨0x0, 4, 3⟩
def EVR_CHAN_CFG_ENABLE : Fld := ⟨0x0, 8, 8⟩
def EVR_CHAN_CFG_AO : Fld := ⟨0x0, 9, 9⟩
def EVR_CHAN_CFG_WAKE : Fld := ⟨0x0, 10, 10⟩
def EVR_CHAN_CFG_RATE_MAX : Fld := ⟨0x0, 25, 16⟩
def EVR_CHAN_STATUS_RATE_TRIP : Fld := ⟨0x4, 0, 0⟩
def EVR_CHAN_STATUS_IN_USE : Fld := ⟨0x4, 1, 1⟩
def EVR_CHAN_EVENTS : Fld := ⟨0x8, 31, 0⟩
def EVR_CHAN_MERGED : Fld := ⟨0xC, 31, 0⟩
def EVR_CELL_CFG_LUT : Fld := ⟨0x0, 15, 0⟩
def EVR_CELL_CFG_REG : Fld := ⟨0x0, 16, 16⟩
def EVR_CELL_CFG_CLK : Fld := ⟨0x0, 17, 17⟩
def EVR_CELL_CFG_FEEDBACK : Fld := ⟨0x0, 18, 18⟩
def EVR_CELL_CFG_INIT : Fld := ⟨0x0, 19, 19⟩
def EVR_CELL_CFG_OUT_MODE : Fld := ⟨0x0, 21, 20⟩
def EVR_CELL_CFG_FILT : Fld := ⟨0x0, 25, 22⟩
def EVR_CELL_CFG_EN : Fld := ⟨0x0, 26, 26⟩
def EVR_CELL_IN_IN0 : Fld := ⟨0x4, 7, 0⟩
def EVR_CELL_IN_IN1 : Fld := ⟨0x4, 15, 8⟩
def EVR_CELL_IN_IN2 : Fld := ⟨0x4, 23, 16⟩
def EVR_CELL_IN_IN3 : Fld := ⟨0x4, 31, 24⟩
def EVR_CELL_OUT_CHANNEL : Fld := ⟨0x8, 7, 0⟩
def EVR_CELL_OUT_ALLOC : Fld := ⟨0x8, 8, 8⟩
def EVR_CELL_CFG_A_LUT : Fld := ⟨0xC, 15, 0⟩
def EVR_CELL_CFG_A_REG : Fld := ⟨0xC, 16, 16⟩
def EVR_CELL_CFG_A_CLK : Fld := ⟨0xC, 17, 17⟩
def EVR_CELL_CFG_A_FEEDBACK : Fld := ⟨0xC, 18, 18⟩
def EVR_CELL_CFG_A_INIT : Fld := ⟨0xC, 19, 19⟩
def EVR_CELL_CFG_A_OUT_MODE : Fld := ⟨0xC, 21, 20⟩
def EVR_CELL_CFG_A_FILT : Fld := ⟨0xC, 25, 22⟩
def EVR_CELL_CFG_A_EN : Fld := ⟨0xC, 26, 26⟩
def EVR_CELL_IN_A_IN0 : Fld := ⟨0x10, 7, 0⟩
def EVR_CELL_IN_A_IN1 : Fld := ⟨0x10, 15, 8⟩
def EVR_CELL_IN_A_IN2 : Fld := ⟨0x10, 23, 16⟩
def EVR_CELL_IN_A_IN3 : Fld := ⟨0x10, 31, 24⟩
def EVR_CELL_OUT_A_CHANNEL : Fld := ⟨0x14, 7, 0⟩
def EVR_CELL_OUT_A_ALLOC : Fld := ⟨0x14, 8, 8⟩
def EVR_CELL_STATE_Q : Fld := ⟨0x18, 0, 0⟩
def EVR_CELL_STATE_OWNER : Fld := ⟨0x18, 3, 1⟩
def EVR_CELL_FIRES : Fld := ⟨0x1C, 31, 0⟩
def EVR_PUB_SRC : Fld := ⟨0x0, 9, 0⟩
def EVR_PUB_EN : Fld := ⟨0x0, 10, 10⟩
def EVR_PUB_ALLOC : Fld := ⟨0x0, 11, 11⟩
def EVR_PUB_CHANNEL : Fld := ⟨0x0, 23, 16⟩
def EVR_PUB_A_SRC : Fld := ⟨0x4, 9, 0⟩
def EVR_PUB_A_EN : Fld := ⟨0x4, 10, 10⟩
def EVR_PUB_A_ALLOC : Fld := ⟨0x4, 11, 11⟩
def EVR_PUB_A_CHANNEL : Fld := ⟨0x4, 23, 16⟩
def TIM_STATUS_REF_OK : Fld := ⟨0x0, 0, 0⟩
def TIM_STATUS_PLL_LOCK : Fld := ⟨0x0, 1, 1⟩
def TIM_STATUS_ALIGNED : Fld := ⟨0x0, 2, 2⟩
def TIM_STATUS_ANCHORED : Fld := ⟨0x0, 7, 3⟩
def TIM_STATUS_WALL_STATE : Fld := ⟨0x0, 9, 8⟩
def TIM_CTRL_MASTER : Fld := ⟨0x4, 0, 0⟩
def TIM_CTRL_LINK_OUT_EN : Fld := ⟨0x4, 1, 1⟩
def TIM_CTRL_LINK_COMP : Fld := ⟨0x4, 7, 4⟩
def TIM_CTRL_PPS_OUT_EN : Fld := ⟨0x4, 8, 8⟩
def TIM_CTRL_REF_OUT_A_EN : Fld := ⟨0x4, 9, 9⟩
def TIM_CTRL_REF_OUT_B_EN : Fld := ⟨0x4, 10, 10⟩
def TIM_CTRL_TENMHZ_OUT_EN : Fld := ⟨0x4, 11, 11⟩
def TIM_SKEW_SKEW : Fld := ⟨0x8, 11, 0⟩
def TIM_EVENTS_REF_LOST : Fld := ⟨0xC, 0, 0⟩
def TIM_EVENTS_REF_RESTORED : Fld := ⟨0xC, 1, 1⟩
def TIM_EVENTS_ANCHOR_CRC : Fld := ⟨0xC, 2, 2⟩
def TIM_EVENTS_ALIGN_RETRY : Fld := ⟨0xC, 3, 3⟩
def TIM_EVENTS_ALIGN_FAIL : Fld := ⟨0xC, 4, 4⟩
def TIM_EVENTS_WALL_STEP : Fld := ⟨0xC, 5, 5⟩
def TIM_EVENTS_WALL_BIG_OFFSET : Fld := ⟨0xC, 6, 6⟩
def TIM_EVENTS_WALL_HOLDOVER : Fld := ⟨0xC, 7, 7⟩
def TIM_EVENTS_CTRL_REFUSED : Fld := ⟨0xC, 8, 8⟩
def TIM_LOCKED_WRITES : Fld := ⟨0x10, 31, 0⟩
def TIM_BUSY_REJECTS : Fld := ⟨0x14, 31, 0⟩
def TIM_IGNORED_ANCHORS : Fld := ⟨0x18, 31, 0⟩
def TIM_ANCHOR_CRC_ERRORS : Fld := ⟨0x1C, 31, 0⟩
def TD_TEXP_LO : Fld := ⟨0x0, 31, 0⟩
def TD_TEXP_HI : Fld := ⟨0x4, 31, 0⟩
def TD_STATE_ANCHORED : Fld := ⟨0x8, 0, 0⟩
def TD_STATE_EPOCH : Fld := ⟨0x8, 7, 4⟩
def TD_ANCHOR_LO : Fld := ⟨0xC, 31, 0⟩
def TD_ANCHOR_HI : Fld := ⟨0x10, 31, 0⟩
def TD_CTRL_ANCHOR : Fld := ⟨0x14, 0, 0⟩
def TD_CTRL_PROPAGATE : Fld := ⟨0x14, 1, 1⟩
def TD_CTRL_RELEASE : Fld := ⟨0x14, 2, 2⟩
def TIM_WALL_SEC_LO : Fld := ⟨0x200, 31, 0⟩
def TIM_WALL_SEC_HI : Fld := ⟨0x204, 15, 0⟩
def TIM_WALL_NS : Fld := ⟨0x208, 29, 0⟩
def TIM_WALL_RATE : Fld := ⟨0x20C, 31, 0⟩
def TIM_WALL_OFFSET : Fld := ⟨0x210, 31, 0⟩
def TIM_PTP_CFG_ENABLE : Fld := ⟨0x214, 0, 0⟩
def TIM_PTP_CFG_TRANSPORT : Fld := ⟨0x214, 2, 1⟩
def TIM_PTP_CFG_DOMAIN_NUMBER : Fld := ⟨0x214, 15, 8⟩
def TTU_CTRL_ENABLE : Fld := ⟨0x0, 0, 0⟩
def TTU_CTRL_PERIODIC : Fld := ⟨0x0, 1, 1⟩
def TTU_CTRL_SOURCE : Fld := ⟨0x0, 4, 2⟩
def TTU_CTRL_CHANNEL : Fld := ⟨0x0, 15, 8⟩
def TTU_CTRL_WAKE : Fld := ⟨0x0, 16, 16⟩
def TTU_TARGET_LO : Fld := ⟨0x4, 31, 0⟩
def TTU_TARGET_HI : Fld := ⟨0x8, 31, 0⟩
def TTU_PERIOD_LO : Fld := ⟨0xC, 31, 0⟩
def TTU_PERIOD_HI : Fld := ⟨0x10, 31, 0⟩
def TTU_STATUS_FIRED : Fld := ⟨0x14, 0, 0⟩
def TTU_STATUS_LATE : Fld := ⟨0x14, 1, 1⟩
def TTU_STATUS_FIRE_COUNT : Fld := ⟨0x14, 31, 16⟩
def TCU_CTRL_ENABLE : Fld := ⟨0x0, 0, 0⟩
def TCU_CTRL_SOURCE : Fld := ⟨0x0, 3, 1⟩
def TCU_CTRL_INPUT_KIND : Fld := ⟨0x0, 4, 4⟩
def TCU_CTRL_INPUT : Fld := ⟨0x0, 15, 8⟩
def TCU_CTRL_EDGE : Fld := ⟨0x0, 16, 16⟩
def TCU_TIME_LO : Fld := ⟨0x4, 31, 0⟩
def TCU_TIME_HI : Fld := ⟨0x8, 31, 0⟩
def TCU_STATUS_FRAC : Fld := ⟨0xC, 3, 0⟩
def TCU_STATUS_FRAC_VALID : Fld := ⟨0xC, 4, 4⟩
def TCU_STATUS_VALID : Fld := ⟨0xC, 5, 5⟩
def TCU_STATUS_OVERRUN : Fld := ⟨0xC, 6, 6⟩
def TCU_STATUS_COALESCED : Fld := ⟨0xC, 31, 16⟩
def PWR_STATUS_STATE : Fld := ⟨0x0, 2, 0⟩
def PWR_STATUS_START_STEP : Fld := ⟨0x0, 7, 4⟩
def PWR_STATUS_SETTINGS_SRC : Fld := ⟨0x0, 9, 8⟩
def PWR_STATUS_ENABLE_IN : Fld := ⟨0x0, 10, 10⟩
def PWR_STATUS_POWER_GOOD : Fld := ⟨0x0, 11, 11⟩
def PWR_STATUS_OVER_RANGE : Fld := ⟨0x0, 12, 12⟩
def PWR_STATUS_SHEDDING : Fld := ⟨0x0, 13, 13⟩
def PWR_EVENTS_INPUT_SAG : Fld := ⟨0x4, 0, 0⟩
def PWR_EVENTS_INPUT_FAIL : Fld := ⟨0x4, 1, 1⟩
def PWR_EVENTS_SHED : Fld := ⟨0x4, 2, 2⟩
def PWR_EVENTS_RESTORED : Fld := ⟨0x4, 3, 3⟩
def PWR_EVENTS_SETTINGS_LOST : Fld := ⟨0x4, 4, 4⟩
def PWR_EVENTS_FACTORY_SETTINGS : Fld := ⟨0x4, 5, 5⟩
def PWR_EVENTS_BANK_REFUSED : Fld := ⟨0x4, 6, 6⟩
def PWR_EVENTS_WAKE_REFUSED : Fld := ⟨0x4, 7, 7⟩
def PWR_VIN_VIN : Fld := ⟨0x8, 15, 0⟩
def PWR_IIN_IIN : Fld := ⟨0xC, 15, 0⟩
def PWR_ENVELOPE_ENVELOPE : Fld := ⟨0x10, 15, 0⟩
def PWR_COMMITTED_COMMITTED : Fld := ⟨0x14, 15, 0⟩
def PWR_MEASURED_MEASURED : Fld := ⟨0x18, 15, 0⟩
def PWR_CAP_CAP : Fld := ⟨0x1C, 15, 0⟩
def PWR_CFG_AUTOSAVE : Fld := ⟨0x20, 7, 0⟩
def PWR_CFG_PROOF_ON_DISABLE : Fld := ⟨0x20, 8, 8⟩
def PWR_SHED_RANK_RANK : Fld := ⟨0x24, 14, 0⟩
def PWR_CTRL_BANK : Fld := ⟨0x28, 0, 0⟩
def PWR_CTRL_WAKE : Fld := ⟨0x28, 1, 1⟩
def PWR_CTRL_SAVE : Fld := ⟨0x28, 2, 2⟩
def PWR_REFUSALS : Fld := ⟨0x30, 31, 0⟩
def PWR_SHEDS : Fld := ⟨0x34, 31, 0⟩
def PWR_RESTORES : Fld := ⟨0x38, 31, 0⟩
def PWR_SAVES : Fld := ⟨0x3C, 31, 0⟩
def PWR_BANKED_ACCESSES : Fld := ⟨0x40, 31, 0⟩
def PWR_LOCKED_WRITES : Fld := ⟨0x44, 31, 0⟩
def PWR_BUSY_REJECTS : Fld := ⟨0x48, 31, 0⟩
def THM_STATUS_LEVEL : Fld := ⟨0x0, 1, 0⟩
def THM_STATUS_FAST : Fld := ⟨0x0, 2, 2⟩
def THM_STATUS_BROKEN_ANY : Fld := ⟨0x0, 3, 3⟩
def THM_STATUS_HOTTEST : Fld := ⟨0x0, 14, 8⟩
def THM_EVENTS_WARNING : Fld := ⟨0x4, 0, 0⟩
def THM_EVENTS_THROTTLE : Fld := ⟨0x4, 1, 1⟩
def THM_EVENTS_SHUTDOWN : Fld := ⟨0x4, 2, 2⟩
def THM_EVENTS_SENSOR_BROKEN : Fld := ⟨0x4, 3, 3⟩
def THM_MAX_MAX : Fld := ⟨0x8, 15, 0⟩
def THM_CAP_CAP : Fld := ⟨0xC, 15, 0⟩
def THM_SNAPSHOTS : Fld := ⟨0x10, 31, 0⟩
def THM_SENSOR_TEMP : Fld := ⟨0x0, 15, 0⟩
def THM_SENSOR_BROKEN : Fld := ⟨0x0, 16, 16⟩
def THM_SENSOR_CLASS : Fld := ⟨0x0, 19, 17⟩
def THM_SENSOR_LEVEL : Fld := ⟨0x0, 21, 20⟩
def SEC_STATUS_LIFECYCLE : Fld := ⟨0x0, 3, 0⟩
def SEC_STATUS_KEY_VALID : Fld := ⟨0x0, 4, 4⟩
def SEC_STATUS_FW_FALLBACK : Fld := ⟨0x0, 5, 5⟩
def SEC_STATUS_FUSE_PENDING : Fld := ⟨0x0, 6, 6⟩
def SEC_STATUS_REJECT : Fld := ⟨0x0, 7, 7⟩
def SEC_STATUS_BURN_FAIL : Fld := ⟨0x0, 8, 8⟩
def SEC_STATUS_PMAP_FAULT : Fld := ⟨0x0, 9, 9⟩
def SEC_STATUS_LC_INVALID : Fld := ⟨0x0, 10, 10⟩
def SEC_STATUS_RECOVERY : Fld := ⟨0x0, 11, 11⟩
def SEC_STATUS_CUST_VALID : Fld := ⟨0x0, 12, 12⟩
def SEC_STATUS_CUST_REQUIRED : Fld := ⟨0x0, 13, 13⟩
def SEC_FW_SLOT_RUNNING : Fld := ⟨0x4, 0, 0⟩
def SEC_FW_SLOT_A_VALID : Fld := ⟨0x4, 1, 1⟩
def SEC_FW_SLOT_B_VALID : Fld := ⟨0x4, 2, 2⟩
def SEC_SVN_SVN_FW : Fld := ⟨0x8, 7, 0⟩
def SEC_SVN_MIN_FW : Fld := ⟨0x8, 15, 8⟩
def SEC_SVN_MIN_PATCH : Fld := ⟨0x8, 23, 16⟩
def SEC_SVN_MIN_CAL : Fld := ⟨0x8, 31, 24⟩
def SEC_GEN_PMAP_USED : Fld := ⟨0xC, 2, 0⟩
def SEC_GEN_PMAP_GOV : Fld := ⟨0xC, 5, 3⟩
def SEC_GEN_EVMAP_USED : Fld := ⟨0xC, 8, 6⟩
def SEC_GEN_EVMAP_GOV : Fld := ⟨0xC, 11, 9⟩
def SEC_JTAG_EXTEST_EN : Fld := ⟨0x10, 0, 0⟩
def SEC_LOCKED_WRITES : Fld := ⟨0x14, 31, 0⟩
def SEC_BUSY_REJECTS : Fld := ⟨0x18, 31, 0⟩
def SEC_REJECTS : Fld := ⟨0x1C, 31, 0⟩
def SEC_ATTESTS : Fld := ⟨0x20, 31, 0⟩
def HIF_LINK_SPEED : Fld := ⟨0x0, 2, 0⟩
def HIF_LINK_WIDTH : Fld := ⟨0x0, 6, 3⟩
def HIF_LINK_DL_UP : Fld := ⟨0x0, 7, 7⟩
def HIF_PCI_ID_VENDOR : Fld := ⟨0x4, 15, 0⟩
def HIF_PCI_ID_CODE : Fld := ⟨0x4, 17, 16⟩
def HIF_LINK_DOWNS : Fld := ⟨0x8, 31, 0⟩
def HIF_DMA_ERRORS : Fld := ⟨0xC, 31, 0⟩
def HIF_LOCKED_WRITES : Fld := ⟨0x10, 31, 0⟩
def HIF_BUSY_REJECTS : Fld := ⟨0x14, 31, 0⟩
def HIF_INFLIGHT_EXECUTING : Fld := ⟨0x18, 4, 0⟩
def HIF_INFLIGHT_FETCHED : Fld := ⟨0x18, 14, 8⟩
def HIF_FN_REJECT_ADDR_ADDR : Fld := ⟨0x0, 25, 0⟩
def HIF_FN_REJECT_STATUS_STATUS : Fld := ⟨0x4, 15, 0⟩
def HIF_FN_DENIED : Fld := ⟨0x8, 31, 0⟩
def HIF_FN_TAGS_OUTSTANDING : Fld := ⟨0xC, 16, 0⟩
def HIF_FN_DUP_TAGS : Fld := ⟨0x10, 31, 0⟩
def HIF_Q_OWNER_FN : Fld := ⟨0x0, 2, 0⟩
def SQ_BASE_LO_BASE_LO : Fld := ⟨0x0, 31, 12⟩
def SQ_BASE_HI_BASE_HI : Fld := ⟨0x4, 31, 0⟩
def SQ_SIZE_LOG2 : Fld := ⟨0x8, 4, 0⟩
def SQ_CTRL_ENABLE : Fld := ⟨0xC, 0, 0⟩
def SQ_CTRL_CQ : Fld := ⟨0xC, 13, 8⟩
def SQ_CTRL_WEIGHT : Fld := ⟨0xC, 19, 16⟩
def SQ_HEAD_HEAD : Fld := ⟨0x10, 15, 0⟩
def SQ_HEAD_IDLE : Fld := ⟨0x10, 16, 16⟩
def SQ_STATUS_BAD_DOORBELL : Fld := ⟨0x14, 0, 0⟩
def SQ_STATUS_BAD_PACKET : Fld := ⟨0x14, 1, 1⟩
def SQ_STATUS_BAD_BIND : Fld := ⟨0x14, 2, 2⟩
def SQ_STATUS_DMA_ERROR : Fld := ⟨0x14, 3, 3⟩
def SQ_PACKETS : Fld := ⟨0x18, 31, 0⟩
def CQ_BASE_LO_BASE_LO : Fld := ⟨0x0, 31, 12⟩
def CQ_BASE_HI_BASE_HI : Fld := ⟨0x4, 31, 0⟩
def CQ_SIZE_LOG2 : Fld := ⟨0x8, 4, 0⟩
def CQ_CTRL_ENABLE : Fld := ⟨0xC, 0, 0⟩
def CQ_CTRL_VECTOR : Fld := ⟨0xC, 12, 8⟩
def CQ_TAIL_TAIL : Fld := ⟨0x10, 15, 0⟩
def CQ_TAIL_PHASE : Fld := ⟨0x10, 16, 16⟩
def CQ_STATUS_BAD_DOORBELL : Fld := ⟨0x14, 0, 0⟩
def CQ_STATUS_DMA_ERROR : Fld := ⟨0x14, 1, 1⟩
def CQ_STATUS_FULL : Fld := ⟨0x14, 2, 2⟩
def CQ_FULL_STALLS : Fld := ⟨0x18, 31, 0⟩
def FAB_CTRL_ENABLE : Fld := ⟨0x0, 0, 0⟩
def FAB_CTRL_ROOT : Fld := ⟨0x0, 1, 1⟩
def FAB_CTRL_ADDR_PREF : Fld := ⟨0x0, 7, 2⟩
def FAB_CTRL_PREF_VALID : Fld := ⟨0x0, 8, 8⟩
def FAB_CTRL_AUTO_REROUTE : Fld := ⟨0x0, 9, 9⟩
def FAB_CTRL_ROUTE_MANUAL : Fld := ⟨0x0, 10, 10⟩
def FAB_STATUS_NODE : Fld := ⟨0x4, 5, 0⟩
def FAB_STATUS_ADDR_VALID : Fld := ⟨0x4, 6, 6⟩
def FAB_STATUS_REFUSED : Fld := ⟨0x4, 7, 7⟩
def FAB_MODULE_ID_LO : Fld := ⟨0x8, 31, 0⟩
def FAB_MODULE_ID_HI : Fld := ⟨0xC, 15, 0⟩
def FAB_EVENTS_PORT_DOWN : Fld := ⟨0x10, 0, 0⟩
def FAB_EVENTS_PORT_UP : Fld := ⟨0x10, 1, 1⟩
def FAB_EVENTS_LANE_RETIRED : Fld := ⟨0x10, 2, 2⟩
def FAB_EVENTS_PEER_CHANGED : Fld := ⟨0x10, 3, 3⟩
def FAB_EVENTS_NODE_REFUSED : Fld := ⟨0x10, 4, 4⟩
def FAB_EVENTS_ROUTE_CHANGED : Fld := ⟨0x10, 5, 5⟩
def FAB_EVENTS_TWIN_TAKEOVER : Fld := ⟨0x10, 6, 6⟩
def FAB_EVENTS_TWIN_DIVERGED : Fld := ⟨0x10, 7, 7⟩
def FAB_EVENTS_TWIN_LOST : Fld := ⟨0x10, 8, 8⟩
def FAB_LOCKED_WRITES : Fld := ⟨0x14, 31, 0⟩
def FAB_BUSY_REJECTS : Fld := ⟨0x18, 31, 0⟩
def FAB_DISCARDS : Fld := ⟨0x1C, 31, 0⟩
def FAB_STALE : Fld := ⟨0x20, 31, 0⟩
def FAB_LANE_CFG_TX_EN : Fld := ⟨0x0, 0, 0⟩
def FAB_LANE_CFG_RX_EN : Fld := ⟨0x0, 1, 1⟩
def FAB_LANE_CFG_TX_INVERT : Fld := ⟨0x0, 4, 4⟩
def FAB_LANE_CFG_RX_INVERT : Fld := ⟨0x0, 5, 5⟩
def FAB_LANE_CFG_AUTO_SLIP : Fld := ⟨0x0, 6, 6⟩
def FAB_LANE_CFG_PEAK : Fld := ⟨0x0, 11, 8⟩
def FAB_LANE_CFG_TX_SLEEP : Fld := ⟨0x0, 2, 2⟩
def FAB_LANE_CFG_RX_SLEEP : Fld := ⟨0x0, 3, 3⟩
def FAB_LANE_CTRL_SLIP : Fld := ⟨0x4, 0, 0⟩
def FAB_LANE_CTRL_RETRAIN : Fld := ⟨0x4, 1, 1⟩
def FAB_LANE_STATUS_RX_STATE : Fld := ⟨0x8, 2, 0⟩
def FAB_LANE_STATUS_TX_STATE : Fld := ⟨0x8, 4, 3⟩
def FAB_LANE_STATUS_LOS : Fld := ⟨0x8, 5, 5⟩
def FAB_LANE_STATUS_LOL : Fld := ⟨0x8, 6, 6⟩
def FAB_LANE_STATUS_MARK_OK : Fld := ⟨0x8, 7, 7⟩
def FAB_LANE_STATUS_SLIP_POS : Fld := ⟨0x8, 14, 8⟩
def FAB_LANE_LOCK_LOSSES : Fld := ⟨0xC, 31, 0⟩
def FAB_LANE_STUFF_ERRORS : Fld := ⟨0x10, 31, 0⟩
def FAB_LANE_MARK_ERRORS : Fld := ⟨0x14, 31, 0⟩
def FAB_PORT_CTRL_ENABLE : Fld := ⟨0x0, 0, 0⟩
def FAB_PORT_STATUS_STATE : Fld := ⟨0x4, 1, 0⟩
def FAB_PORT_STATUS_TX_WIDTH : Fld := ⟨0x4, 4, 2⟩
def FAB_PORT_STATUS_RX_WIDTH : Fld := ⟨0x4, 7, 5⟩
def FAB_PORT_STATUS_TX_LANES : Fld := ⟨0x4, 11, 8⟩
def FAB_PORT_STATUS_RX_LANES : Fld := ⟨0x4, 15, 12⟩
def FAB_PORT_STATUS_PEER_NODE : Fld := ⟨0x4, 21, 16⟩
def FAB_PORT_STATUS_PEER_TWIN : Fld := ⟨0x4, 22, 22⟩
def FAB_PORT_STATUS_PEER_VALID : Fld := ⟨0x4, 23, 23⟩
def FAB_PORT_STATUS_TWIN_LINK : Fld := ⟨0x4, 24, 24⟩
def FAB_PORT_PEER_LO : Fld := ⟨0x8, 31, 0⟩
def FAB_PORT_PEER_HI : Fld := ⟨0xC, 15, 0⟩
def FAB_PORT_TX_WORDS_LO : Fld := ⟨0x10, 31, 0⟩
def FAB_PORT_TX_WORDS_HI : Fld := ⟨0x14, 31, 0⟩
def FAB_PORT_RX_WORDS_LO : Fld := ⟨0x18, 31, 0⟩
def FAB_PORT_RX_WORDS_HI : Fld := ⟨0x1C, 31, 0⟩
def FAB_PORT_CRC_ERRORS : Fld := ⟨0x20, 31, 0⟩
def FAB_PORT_RETRANSMITS : Fld := ⟨0x24, 31, 0⟩
def FAB_PORT_DISCARDS : Fld := ⟨0x28, 31, 0⟩
def FAB_PORT_DOWNS : Fld := ⟨0x2C, 31, 0⟩
def FAB_PORT_QUEUE_MAX : Fld := ⟨0x30, 31, 0⟩
def FAB_ROUTE_PORT_A : Fld := ⟨0x0, 2, 0⟩
def FAB_ROUTE_HOPS_A : Fld := ⟨0x0, 6, 3⟩
def FAB_ROUTE_PORT_B : Fld := ⟨0x0, 10, 8⟩
def FAB_ROUTE_HOPS_B : Fld := ⟨0x0, 14, 11⟩
def FAB_PART_NODES_LO : Fld := ⟨0x100, 31, 0⟩
def FAB_PART_NODES_HI : Fld := ⟨0x104, 31, 0⟩
def FAB_TWIN_CTRL_EN : Fld := ⟨0x0, 0, 0⟩
def FAB_TWIN_CTRL_TWIN_BIT : Fld := ⟨0x0, 1, 1⟩
def FAB_TWIN_CTRL_DEDICATED : Fld := ⟨0x0, 2, 2⟩
def FAB_TWIN_CTRL_HB_TIMEOUT : Fld := ⟨0x0, 15, 8⟩
def FAB_TWIN_STATUS_STATE : Fld := ⟨0x4, 2, 0⟩
def FAB_TWIN_STATUS_IN_STEP : Fld := ⟨0x4, 3, 3⟩
def FAB_TWIN_STATUS_PARTNER_SEEN : Fld := ⟨0x4, 4, 4⟩
def FAB_TWIN_PARTNER_LO : Fld := ⟨0x8, 31, 0⟩
def FAB_TWIN_PARTNER_HI : Fld := ⟨0xC, 15, 0⟩
def FAB_TWIN_SW_ACTIVE_PAT : Fld := ⟨0x10, 3, 0⟩
def FAB_TWIN_SW_STANDBY_PAT : Fld := ⟨0x10, 7, 4⟩
def FAB_TWIN_SW_OUT : Fld := ⟨0x10, 11, 8⟩
def FAB_TWIN_TAKEOVERS : Fld := ⟨0x14, 31, 0⟩
def FAB_TWIN_DIVERGENCES : Fld := ⟨0x18, 31, 0⟩
def FAB_TWIN_LAG_MAX : Fld := ⟨0x1C, 31, 0⟩
def FAB_TWIN_UNMATCHED : Fld := ⟨0x20, 31, 0⟩
def MEM_STATUS_INIT_DONE : Fld := ⟨0x0, 0, 0⟩
def MEM_STATUS_MOVING : Fld := ⟨0x0, 1, 1⟩
def MEM_STATUS_MARCH_BUSY : Fld := ⟨0x0, 2, 2⟩
def MEM_STATUS_UNCORR : Fld := ⟨0x0, 3, 3⟩
def MEM_STATUS_REPLAY_FAIL : Fld := ⟨0x0, 4, 4⟩
def MEM_STATUS_UNMAPPED : Fld := ⟨0x0, 5, 5⟩
def MEM_MAP_LOCAL : Fld := ⟨0x4, 4, 0⟩
def MEM_MAP_GRAIN_EXP : Fld := ⟨0x4, 12, 8⟩
def MEM_HINT_HOST : Fld := ⟨0x8, 0, 0⟩
def MEM_HINT_PROG : Fld := ⟨0x8, 1, 1⟩
def MEM_HINT_MOVE : Fld := ⟨0x8, 2, 2⟩
def MEM_HINT_OPEN_IDLE : Fld := ⟨0x8, 15, 8⟩
def MEM_REF_CFG_FGR : Fld := ⟨0xC, 1, 0⟩
def MEM_REF_CFG_POSTPONE : Fld := ⟨0xC, 7, 4⟩
def MEM_SCRUB_CFG_EN : Fld := ⟨0x10, 0, 0⟩
def MEM_SCRUB_CFG_HOURS : Fld := ⟨0x10, 15, 8⟩
def MEM_LOCKED_WRITES : Fld := ⟨0x20, 31, 0⟩
def MEM_BUSY_REJECTS : Fld := ⟨0x24, 31, 0⟩
def MEM_CORRECTED_LO : Fld := ⟨0x28, 31, 0⟩
def MEM_CORRECTED_HI : Fld := ⟨0x2C, 31, 0⟩
def MEM_UNCORRECTABLE : Fld := ⟨0x30, 31, 0⟩
def MEM_REPLAYS : Fld := ⟨0x34, 31, 0⟩
def MEM_RETRY_STALLS : Fld := ⟨0x38, 31, 0⟩
def MEM_REFRESH_FORCED : Fld := ⟨0x3C, 31, 0⟩
def MEM_LOC_EVICTIONS : Fld := ⟨0x40, 31, 0⟩
def MEM_SCRUB_PASSES : Fld := ⟨0x44, 31, 0⟩
def MEM_UNMAPPED : Fld := ⟨0x48, 31, 0⟩
def MEM_WIN_ADDR_LO_ADDR_LO : Fld := ⟨0x100, 31, 3⟩
def MEM_WIN_ADDR_HI_ADDR_HI : Fld := ⟨0x104, 4, 0⟩
def MEM_WIN_DATA_LO : Fld := ⟨0x108, 31, 0⟩
def MEM_WIN_DATA_HI : Fld := ⟨0x10C, 31, 0⟩
def MEM_MARCH_CTRL_STORE : Fld := ⟨0x200, 3, 0⟩
def MEM_MARCH_CTRL_QUAD : Fld := ⟨0x200, 5, 4⟩
def MEM_MARCH_CTRL_RANK : Fld := ⟨0x200, 6, 6⟩
def MEM_MARCH_CTRL_ALG : Fld := ⟨0x200, 8, 7⟩
def MEM_MARCH_CTRL_BG : Fld := ⟨0x200, 10, 9⟩
def MEM_MARCH_CTRL_ORDER : Fld := ⟨0x200, 12, 11⟩
def MEM_MARCH_CTRL_STOP_ON_FAIL : Fld := ⟨0x200, 13, 13⟩
def MEM_MARCH_CTRL_START : Fld := ⟨0x200, 16, 16⟩
def MEM_MARCH_CTRL_STOP : Fld := ⟨0x200, 17, 17⟩
def MEM_MARCH_FIRST_LO : Fld := ⟨0x204, 31, 0⟩
def MEM_MARCH_FIRST_HI : Fld := ⟨0x208, 31, 0⟩
def MEM_MARCH_COUNT_LO : Fld := ⟨0x20C, 31, 0⟩
def MEM_MARCH_COUNT_HI : Fld := ⟨0x210, 31, 0⟩
def MEM_MARCH_STATUS_RESULT : Fld := ⟨0x214, 1, 0⟩
def MEM_MARCH_FAIL_LO : Fld := ⟨0x218, 31, 0⟩
def MEM_MARCH_FAIL_HI : Fld := ⟨0x21C, 31, 0⟩
def MEM_MARCH_FAILS : Fld := ⟨0x220, 31, 0⟩
def MEM_MARCH_OPS_LO : Fld := ⟨0x224, 31, 0⟩
def MEM_MARCH_OPS_HI : Fld := ⟨0x228, 31, 0⟩
def MEM_MARCH_DIFF_LO : Fld := ⟨0x22C, 31, 0⟩
def MEM_MARCH_DIFF_HI : Fld := ⟨0x230, 31, 0⟩
def MEM_MARCH_DIFF_CHK_CHECK : Fld := ⟨0x234, 7, 0⟩
def MEM_CH_STATUS_RANK0 : Fld := ⟨0x400, 1, 0⟩
def MEM_CH_STATUS_RANK1 : Fld := ⟨0x400, 3, 2⟩
def MEM_CH_STATUS_FAILED : Fld := ⟨0x400, 4, 4⟩
def MEM_CH_MOVE_MOVE_PTR : Fld := ⟨0x404, 17, 0⟩
def MEM_CH_CORRECTED : Fld := ⟨0x408, 31, 0⟩
def MEM_CH_REPLAYS : Fld := ⟨0x40C, 31, 0⟩
def MEM_LOC_WHERE_STORE : Fld := ⟨0x0, 3, 0⟩
def MEM_LOC_WHERE_QUAD : Fld := ⟨0x0, 5, 4⟩
def MEM_LOC_WHERE_RANK : Fld := ⟨0x0, 6, 6⟩
def MEM_LOC_WHERE_VALID : Fld := ⟨0x0, 7, 7⟩
def MEM_LOC_INDEX_INDEX : Fld := ⟨0x4, 28, 0⟩
def MEM_LOC_HITS_HITS : Fld := ⟨0x8, 1, 0⟩
def MEM_LOC_FIRST_FIRST : Fld := ⟨0xC, 31, 0⟩
def BST_STATUS_LOGIC_BUSY : Fld := ⟨0x0, 0, 0⟩
def BST_STATUS_CREDIT : Fld := ⟨0x0, 1, 1⟩
def BST_STATUS_SLICE_FAIL : Fld := ⟨0x0, 2, 2⟩
def BST_STATUS_ANALOG_FAIL : Fld := ⟨0x0, 3, 3⟩
def BST_STATUS_INCOMPLETE_SEEN : Fld := ⟨0x0, 4, 4⟩
def BST_STATUS_WINDOW_MISSING : Fld := ⟨0x0, 5, 5⟩
def BST_CFG_STAGGER : Fld := ⟨0x4, 2, 0⟩
def BST_CFG_PERIODIC : Fld := ⟨0x4, 3, 3⟩
def BST_CFG_ANALOG_EN : Fld := ⟨0x4, 4, 4⟩
def BST_CFG_DDR4_PROOF : Fld := ⟨0x4, 5, 5⟩
def BST_CFG_PERIOD : Fld := ⟨0x4, 23, 8⟩
def BST_CFG_WAIT : Fld := ⟨0x4, 31, 24⟩
def BST_PROOF_FAILED : Fld := ⟨0x8, 4, 0⟩
def BST_PROOF_RESULT : Fld := ⟨0x8, 6, 5⟩
def BST_PASS_NUMBER : Fld := ⟨0xC, 31, 0⟩
def BST_SLICE_TESTS : Fld := ⟨0x10, 31, 0⟩
def BST_SLICE_FAILS : Fld := ⟨0x14, 31, 0⟩
def BST_ABANDONED : Fld := ⟨0x18, 31, 0⟩
def BST_SKIPPED : Fld := ⟨0x1C, 31, 0⟩
def BST_ANALOG_CHECKS : Fld := ⟨0x20, 31, 0⟩
def BST_ANALOG_FAILS : Fld := ⟨0x24, 31, 0⟩
def BST_LOCKED_WRITES : Fld := ⟨0x28, 31, 0⟩
def BST_BUSY_REJECTS : Fld := ⟨0x2C, 31, 0⟩
def BST_DOM_SIG_LO : Fld := ⟨0x0, 31, 0⟩
def BST_DOM_SIG_HI : Fld := ⟨0x4, 31, 0⟩
def BST_DOM_PATTERNS : Fld := ⟨0x8, 31, 0⟩
def BST_DOM_RESULT_RESULT : Fld := ⟨0xC, 1, 0⟩
def BST_GRP_STATE_NEXT : Fld := ⟨0x0, 3, 0⟩
def BST_GRP_STATE_STATE : Fld := ⟨0x0, 5, 4⟩
def BST_GRP_STATE_LAST_RESULT : Fld := ⟨0x0, 7, 6⟩
def BST_GRP_STATE_LAST_MEMBER : Fld := ⟨0x0, 11, 8⟩
def BST_GRP_PATTERNS : Fld := ⟨0x4, 31, 0⟩
def BST_GRP_SIG_LO : Fld := ⟨0x8, 31, 0⟩
def BST_GRP_SIG_HI : Fld := ⟨0xC, 31, 0⟩
def LOG_STATUS_SAFE : Fld := ⟨0x0, 0, 0⟩
def LOG_STATUS_PERM_UNACK : Fld := ⟨0x0, 1, 1⟩
def LOG_STATUS_NV_BUSY : Fld := ⟨0x0, 2, 2⟩
def LOG_STATUS_NV_FAIL : Fld := ⟨0x0, 3, 3⟩
def LOG_STATUS_WRAPPED : Fld := ⟨0x0, 4, 4⟩
def LOG_HEAD_INDEX : Fld := ⟨0x4, 13, 0⟩
def LOG_SEQ : Fld := ⟨0x8, 31, 0⟩
def LOG_OVERWRITES : Fld := ⟨0xC, 31, 0⟩
def LOG_SUPPRESSED : Fld := ⟨0x10, 31, 0⟩
def LOG_LOCKED_WRITES : Fld := ⟨0x14, 31, 0⟩
def LOG_BUSY_REJECTS : Fld := ⟨0x18, 31, 0⟩
def LOG_MTIME_LO : Fld := ⟨0x20, 31, 0⟩
def LOG_MTIME_HI : Fld := ⟨0x24, 31, 0⟩
def LOG_SAFE_FIRST : Fld := ⟨0x28, 7, 0⟩
def LOG_SAFE_PENDING : Fld := ⟨0x28, 14, 8⟩
def LOG_NV_COUNT : Fld := ⟨0x2C, 31, 0⟩
def LOG_NV_OVERWRITES : Fld := ⟨0x30, 31, 0⟩
def LOG_CFG_SUPPRESS : Fld := ⟨0x34, 7, 0⟩
def LOG_TRANSIENTS_LO : Fld := ⟨0x38, 31, 0⟩
def LOG_TRANSIENTS_HI : Fld := ⟨0x3C, 31, 0⟩
def LOG_PERMANENTS : Fld := ⟨0x40, 31, 0⟩
def LOG_CAUSE_COUNT : Fld := ⟨0x1000, 31, 0⟩
def DRV_CTRL_ENABLE : Fld := ⟨0x0, 0, 0⟩
def DRV_CTRL_MODE : Fld := ⟨0x0, 1, 1⟩
def DRV_CTRL_FORCE_MUTE : Fld := ⟨0x0, 2, 2⟩
def DRV_STATUS_ACTIVE : Fld := ⟨0x4, 0, 0⟩
def DRV_STATUS_MUTED : Fld := ⟨0x4, 1, 1⟩
def DRV_STATUS_DARK : Fld := ⟨0x4, 2, 2⟩
def DRV_STATUS_ON_SPARE : Fld := ⟨0x4, 3, 3⟩
def DRV_STATUS_SHED : Fld := ⟨0x4, 4, 4⟩
def DRV_STATUS_HEAT_TRIP : Fld := ⟨0x4, 5, 5⟩
def DRV_STATUS_CLIPPED : Fld := ⟨0x4, 6, 6⟩
def DRV_STATUS_FREQ_OOB : Fld := ⟨0x4, 7, 7⟩
def DRV_STATUS_OVERLAP : Fld := ⟨0x4, 8, 8⟩
def DRV_STATUS_BAD_ENV : Fld := ⟨0x4, 9, 9⟩
def DRV_STATUS_POWER_REFUSED : Fld := ⟨0x4, 10, 10⟩
def DRV_STATUS_MUTED_PLAY : Fld := ⟨0x4, 11, 11⟩
def DRV_ATTEN_ATTEN : Fld := ⟨0x8, 5, 0⟩
def DRV_HEAT_CFG_TAU_EXP : Fld := ⟨0xC, 4, 0⟩
def DRV_HEAT_LIMIT_LIMIT : Fld := ⟨0x10, 15, 0⟩
def DRV_HEAT_MEAN_MEAN : Fld := ⟨0x14, 15, 0⟩
def DRV_CLIP_COUNT : Fld := ⟨0x18, 31, 0⟩
def DRV_OVERLAPS : Fld := ⟨0x1C, 31, 0⟩
def DRV_BAD_PLAYS : Fld := ⟨0x20, 31, 0⟩
def DRV_MUTED_PLAYS : Fld := ⟨0x24, 31, 0⟩
def DRV_PLAYS_LO : Fld := ⟨0x28, 31, 0⟩
def DRV_PLAYS_HI : Fld := ⟨0x2C, 31, 0⟩
def DRV_FRAME_FREQ_LO : Fld := ⟨0x0, 31, 0⟩
def DRV_FRAME_FREQ_HI : Fld := ⟨0x4, 15, 0⟩
def DRV_FRAME_PHASE_LO : Fld := ⟨0x8, 31, 0⟩
def DRV_FRAME_PHASE_HI : Fld := ⟨0xC, 15, 0⟩
def DRV_FRAME_GAIN_GAIN : Fld := ⟨0x10, 15, 0⟩
def DRV_FRAME_STATE_PAULI_X : Fld := ⟨0x14, 0, 0⟩
def DRV_FRAME_STATE_PAULI_Z : Fld := ⟨0x14, 1, 1⟩
def DRV_FRAME_STATE_LANE_BUSY : Fld := ⟨0x14, 2, 2⟩
def DRV_LOCKED_WRITES : Fld := ⟨0x0, 31, 0⟩
def DRV_BUSY_REJECTS : Fld := ⟨0x4, 31, 0⟩
def DRV_ENV_ADDR_ADDR : Fld := ⟨0x8, 20, 0⟩
def DRV_ENV_DATA_I : Fld := ⟨0xC, 15, 0⟩
def DRV_ENV_DATA_Q : Fld := ⟨0xC, 31, 16⟩
def DRV_ENV_PART_DESC_DESC_BASE : Fld := ⟨0x0, 11, 0⟩
def DRV_ENV_PART_DESC_DESC_COUNT : Fld := ⟨0x0, 28, 16⟩
def DRV_ENV_PART_SAMP_SAMP_BASE : Fld := ⟨0x4, 11, 0⟩
def DRV_ENV_PART_SAMP_SAMP_COUNT : Fld := ⟨0x4, 28, 16⟩
def DRV_SPARE_CTRL_TARGET : Fld := ⟨0x0, 2, 0⟩
def DRV_SPARE_CTRL_SWAP : Fld := ⟨0x0, 8, 8⟩
def DRV_SPARE_CTRL_RELEASE : Fld := ⟨0x0, 9, 9⟩
def DRV_SPARE_STATUS_SERVING : Fld := ⟨0x4, 2, 0⟩
def DRV_SPARE_STATUS_STATE : Fld := ⟨0x4, 5, 3⟩
def DRV_SPARE_STATUS_RETIRED : Fld := ⟨0x4, 15, 8⟩
def DRV_SPARE_STATUS_SWAP_REFUSED : Fld := ⟨0x4, 16, 16⟩
def DRV_SPARE_SWAPS : Fld := ⟨0x8, 31, 0⟩
def DRV_ENV_DESC_LO_START : Fld := ⟨0x0, 20, 0⟩
def DRV_ENV_DESC_HI_LENGTH : Fld := ⟨0x4, 19, 0⟩
def DRV_ENV_DESC_HI_RATE : Fld := ⟨0x4, 21, 20⟩
def FLX_CTRL_ENABLE : Fld := ⟨0x0, 0, 0⟩
def FLX_CTRL_SPAN : Fld := ⟨0x0, 2, 1⟩
def FLX_CTRL_PD_EN : Fld := ⟨0x0, 3, 3⟩
def FLX_CTRL_FORCE_PARK : Fld := ⟨0x0, 4, 4⟩
def FLX_CTRL_RAMP_EXP : Fld := ⟨0x0, 12, 8⟩
def FLX_STATUS_ACTIVE : Fld := ⟨0x4, 0, 0⟩
def FLX_STATUS_QUIET : Fld := ⟨0x4, 1, 1⟩
def FLX_STATUS_RAMPING : Fld := ⟨0x4, 2, 2⟩
def FLX_STATUS_DARK : Fld := ⟨0x4, 3, 3⟩
def FLX_STATUS_ON_SPARE : Fld := ⟨0x4, 4, 4⟩
def FLX_STATUS_SHED : Fld := ⟨0x4, 5, 5⟩
def FLX_STATUS_ACTIVE_BANK : Fld := ⟨0x4, 6, 6⟩
def FLX_STATUS_COMMIT_PENDING : Fld := ⟨0x4, 7, 7⟩
def FLX_STATUS_CLIPPED : Fld := ⟨0x4, 8, 8⟩
def FLX_STATUS_OVERLAP : Fld := ⟨0x4, 9, 9⟩
def FLX_STATUS_BAD_ENV : Fld := ⟨0x4, 10, 10⟩
def FLX_STATUS_POWER_REFUSED : Fld := ⟨0x4, 11, 11⟩
def FLX_STATUS_SPAN_REFUSED : Fld := ⟨0x4, 12, 12⟩
def FLX_STATUS_PD_REJECT : Fld := ⟨0x4, 13, 13⟩
def FLX_PARK_PARK : Fld := ⟨0x8, 15, 0⟩
def FLX_GAIN_GAIN : Fld := ⟨0xC, 15, 0⟩
def FLX_DELAY_DELAY : Fld := ⟨0x10, 9, 0⟩
def FLX_PD_CTRL_COMMIT : Fld := ⟨0x14, 0, 0⟩
def FLX_CLIP_COUNT : Fld := ⟨0x18, 31, 0⟩
def FLX_OVERLAPS : Fld := ⟨0x1C, 31, 0⟩
def FLX_BAD_PLAYS : Fld := ⟨0x20, 31, 0⟩
def FLX_IIR_B0_B0 : Fld := ⟨0x100, 23, 0⟩
def FLX_IIR_B1_B1 : Fld := ⟨0x104, 23, 0⟩
def FLX_IIR_A1_A1 : Fld := ⟨0x108, 23, 0⟩
def FLX_FIR_C_C : Fld := ⟨0x140, 23, 0⟩
def FLX_PD_BYPASS_IIR_BYPASS : Fld := ⟨0x1E0, 3, 0⟩
def FLX_PD_BYPASS_FIR_BYPASS : Fld := ⟨0x1E0, 4, 4⟩
def FLX_LOCKED_WRITES : Fld := ⟨0x0, 31, 0⟩
def FLX_BUSY_REJECTS : Fld := ⟨0x4, 31, 0⟩
def FLX_SPARE_CTRL_TARGET : Fld := ⟨0x0, 2, 0⟩
def FLX_SPARE_CTRL_SWAP : Fld := ⟨0x0, 8, 8⟩
def FLX_SPARE_CTRL_RELEASE : Fld := ⟨0x0, 9, 9⟩
def FLX_SPARE_STATUS_SERVING : Fld := ⟨0x4, 2, 0⟩
def FLX_SPARE_STATUS_STATE : Fld := ⟨0x4, 5, 3⟩
def FLX_SPARE_STATUS_RETIRED : Fld := ⟨0x4, 15, 8⟩
def FLX_SPARE_STATUS_SWAP_REFUSED : Fld := ⟨0x4, 16, 16⟩
def FLX_SPARE_SWAPS : Fld := ⟨0x8, 31, 0⟩
def RDO_PRB_CTRL_ENABLE : Fld := ⟨0x0, 0, 0⟩
def RDO_PRB_CTRL_MODE : Fld := ⟨0x0, 1, 1⟩
def RDO_PRB_CTRL_FORCE_MUTE : Fld := ⟨0x0, 2, 2⟩
def RDO_PRB_STATUS_ACTIVE : Fld := ⟨0x4, 0, 0⟩
def RDO_PRB_STATUS_MUTED : Fld := ⟨0x4, 1, 1⟩
def RDO_PRB_STATUS_DARK : Fld := ⟨0x4, 2, 2⟩
def RDO_PRB_STATUS_ON_SPARE : Fld := ⟨0x4, 3, 3⟩
def RDO_PRB_STATUS_SHED : Fld := ⟨0x4, 4, 4⟩
def RDO_PRB_STATUS_HEAT_TRIP : Fld := ⟨0x4, 5, 5⟩
def RDO_PRB_STATUS_CLIPPED : Fld := ⟨0x4, 6, 6⟩
def RDO_PRB_STATUS_FREQ_OOB : Fld := ⟨0x4, 7, 7⟩
def RDO_PRB_STATUS_OVERLAP : Fld := ⟨0x4, 8, 8⟩
def RDO_PRB_STATUS_BAD_ENV : Fld := ⟨0x4, 9, 9⟩
def RDO_PRB_STATUS_POWER_REFUSED : Fld := ⟨0x4, 10, 10⟩
def RDO_PRB_STATUS_MUTED_PLAY : Fld := ⟨0x4, 11, 11⟩
def RDO_PRB_ATTEN_ATTEN : Fld := ⟨0x8, 5, 0⟩
def RDO_PRB_HEAT_CFG_TAU_EXP : Fld := ⟨0xC, 4, 0⟩
def RDO_PRB_HEAT_LIMIT_LIMIT : Fld := ⟨0x10, 15, 0⟩
def RDO_PRB_HEAT_MEAN_MEAN : Fld := ⟨0x14, 15, 0⟩
def RDO_PRB_CLIP_COUNT : Fld := ⟨0x18, 31, 0⟩
def RDO_PRB_OVERLAPS : Fld := ⟨0x1C, 31, 0⟩
def RDO_PRB_BAD_PLAYS : Fld := ⟨0x20, 31, 0⟩
def RDO_PRB_MUTED_PLAYS : Fld := ⟨0x24, 31, 0⟩
def RDO_PRB_PLAYS_LO : Fld := ⟨0x28, 31, 0⟩
def RDO_PRB_PLAYS_HI : Fld := ⟨0x2C, 31, 0⟩
def RDO_ADC_CTRL_ENABLE : Fld := ⟨0x40, 0, 0⟩
def RDO_ADC_STATUS_ACTIVE : Fld := ⟨0x44, 0, 0⟩
def RDO_ADC_STATUS_DARK : Fld := ⟨0x44, 1, 1⟩
def RDO_ADC_STATUS_ON_SPARE : Fld := ⟨0x44, 2, 2⟩
def RDO_ADC_STATUS_SHED : Fld := ⟨0x44, 3, 3⟩
def RDO_ADC_STATUS_CLIPPED : Fld := ⟨0x44, 4, 4⟩
def RDO_ADC_STATUS_POWER_REFUSED : Fld := ⟨0x44, 5, 5⟩
def RDO_ADC_CLIPS : Fld := ⟨0x48, 31, 0⟩
def RDO_WINDOWS_LO : Fld := ⟨0x4C, 31, 0⟩
def RDO_WINDOWS_HI : Fld := ⟨0x50, 31, 0⟩
def TONE_FREQ_LO : Fld := ⟨0x0, 31, 0⟩
def TONE_FREQ_HI : Fld := ⟨0x4, 15, 0⟩
def TONE_PHASE_LO : Fld := ⟨0x8, 31, 0⟩
def TONE_PHASE_HI : Fld := ⟨0xC, 15, 0⟩
def TONE_DEMOD_PHASE_LO : Fld := ⟨0x10, 31, 0⟩
def TONE_DEMOD_PHASE_HI : Fld := ⟨0x14, 15, 0⟩
def TONE_GAIN_GAIN : Fld := ⟨0x18, 15, 0⟩
def TONE_GAIN_CW_AMP : Fld := ⟨0x18, 31, 16⟩
def TONE_CTRL_CW : Fld := ⟨0x1C, 0, 0⟩
def TONE_CTRL_RECORD_IQ : Fld := ⟨0x1C, 1, 1⟩
def TONE_CTRL_EARLY_EN : Fld := ⟨0x1C, 2, 2⟩
def TONE_CTRL_DEPLETE : Fld := ⟨0x1C, 4, 3⟩
def TONE_CTRL_SHIFT : Fld := ⟨0x1C, 9, 5⟩
def TONE_WIN_LEN : Fld := ⟨0x20, 12, 0⟩
def TONE_WIN_NMIN : Fld := ⟨0x20, 28, 16⟩
def TONE_KERNEL_BASE : Fld := ⟨0x24, 14, 0⟩
def TONE_KERNEL_HOLD_EXP : Fld := ⟨0x24, 17, 15⟩
def TONE_KERNEL_KLEN : Fld := ⟨0x24, 30, 18⟩
def TONE_A_AI : Fld := ⟨0x28, 15, 0⟩
def TONE_A_AQ : Fld := ⟨0x28, 31, 16⟩
def TONE_B_B : Fld := ⟨0x34, 31, 0⟩
def TONE_BETA01_BETA0 : Fld := ⟨0x40, 15, 0⟩
def TONE_BETA01_BETA1 : Fld := ⟨0x40, 31, 16⟩
def TONE_THRESH_BETA2 : Fld := ⟨0x44, 15, 0⟩
def TONE_THRESH_THRESH : Fld := ⟨0x44, 31, 16⟩
def TONE_DEPL01_DESC0 : Fld := ⟨0x48, 11, 0⟩
def TONE_DEPL01_DESC1 : Fld := ⟨0x48, 27, 16⟩
def TONE_DEPL2_DESC2 : Fld := ⟨0x4C, 11, 0⟩
def TONE_DEPL2_EN : Fld := ⟨0x4C, 14, 12⟩
def TONE_DEPL2_DEPL_AMP : Fld := ⟨0x4C, 31, 16⟩
def TONE_STATUS_LAST_STATE : Fld := ⟨0x50, 1, 0⟩
def TONE_STATUS_LAST_EARLY : Fld := ⟨0x50, 2, 2⟩
def TONE_STATUS_WIN_OPEN : Fld := ⟨0x50, 3, 3⟩
def TONE_STATUS_OVERFLOW : Fld := ⟨0x50, 4, 4⟩
def TONE_STATUS_FREQ_OOB : Fld := ⟨0x50, 5, 5⟩
def TONE_STATUS_CHANNEL : Fld := ⟨0x50, 12, 8⟩
def TONE_LAST_I : Fld := ⟨0x54, 31, 0⟩
def TONE_LAST_Q : Fld := ⟨0x58, 31, 0⟩
def TONE_WINDOWS : Fld := ⟨0x5C, 31, 0⟩
def TONE_EARLY : Fld := ⟨0x60, 31, 0⟩
def TONE_OVERFLOWS : Fld := ⟨0x64, 31, 0⟩
def RDO_LOCKED_WRITES : Fld := ⟨0x0, 31, 0⟩
def RDO_BUSY_REJECTS : Fld := ⟨0x4, 31, 0⟩
def RDO_KERN_ADDR_ADDR : Fld := ⟨0x8, 14, 0⟩
def RDO_KERN_ADDR_INPUT : Fld := ⟨0x8, 18, 16⟩
def RDO_KERN_I_WI : Fld := ⟨0xC, 23, 0⟩
def RDO_KERN_Q_WQ : Fld := ⟨0x10, 23, 0⟩
def RDO_PRB_SPARE_CTRL_TARGET : Fld := ⟨0x0, 1, 0⟩
def RDO_PRB_SPARE_CTRL_SWAP : Fld := ⟨0x0, 8, 8⟩
def RDO_PRB_SPARE_CTRL_RELEASE : Fld := ⟨0x0, 9, 9⟩
def RDO_PRB_SPARE_STATUS_SERVING : Fld := ⟨0x4, 1, 0⟩
def RDO_PRB_SPARE_STATUS_STATE : Fld := ⟨0x4, 5, 3⟩
def RDO_PRB_SPARE_STATUS_RETIRED : Fld := ⟨0x4, 11, 8⟩
def RDO_PRB_SPARE_STATUS_SWAP_REFUSED : Fld := ⟨0x4, 16, 16⟩
def RDO_PRB_SPARE_SWAPS : Fld := ⟨0x8, 31, 0⟩
def RDO_ADC_SPARE_CTRL_TARGET : Fld := ⟨0x0, 1, 0⟩
def RDO_ADC_SPARE_CTRL_SWAP : Fld := ⟨0x0, 8, 8⟩
def RDO_ADC_SPARE_CTRL_RELEASE : Fld := ⟨0x0, 9, 9⟩
def RDO_ADC_SPARE_STATUS_SERVING : Fld := ⟨0x4, 1, 0⟩
def RDO_ADC_SPARE_STATUS_STATE : Fld := ⟨0x4, 5, 3⟩
def RDO_ADC_SPARE_STATUS_RETIRED : Fld := ⟨0x4, 11, 8⟩
def RDO_ADC_SPARE_STATUS_SWAP_REFUSED : Fld := ⟨0x4, 16, 16⟩
def RDO_ADC_SPARE_SWAPS : Fld := ⟨0x8, 31, 0⟩
def REC_CTRL_ENABLE : Fld := ⟨0x0, 0, 0⟩
def REC_STATUS_LENGTH_PENDING : Fld := ⟨0x4, 0, 0⟩
def REC_STATUS_RING_WAIT : Fld := ⟨0x4, 1, 1⟩
def REC_STATUS_BAD_CONS : Fld := ⟨0x4, 2, 2⟩
def REC_BASE_LO_BASE_LO : Fld := ⟨0x8, 31, 12⟩
def REC_BASE_HI_BASE_HI : Fld := ⟨0xC, 31, 0⟩
def REC_LEN_SIZE : Fld := ⟨0x10, 31, 12⟩
def REC_RESERVE_RESERVE : Fld := ⟨0x14, 20, 5⟩
def REC_PROD : Fld := ⟨0x18, 31, 0⟩
def REC_CONS : Fld := ⟨0x1C, 31, 0⟩
def REC_WAIT_TICKS_LO : Fld := ⟨0x20, 31, 0⟩
def REC_WAIT_TICKS_HI : Fld := ⟨0x24, 31, 0⟩
def REC_TRUNCATED : Fld := ⟨0x28, 31, 0⟩
def ACQ_CU_CTRL_MODE : Fld := ⟨0x0, 1, 0⟩
def ACQ_CU_CTRL_PARTITION : Fld := ⟨0x0, 4, 2⟩
def ACQ_CU_CTRL_GROUP_EN : Fld := ⟨0x0, 5, 5⟩
def ACQ_CU_CTRL_GROUP : Fld := ⟨0x0, 9, 6⟩
def ACQ_CU_CTRL_MASTER : Fld := ⟨0x0, 10, 10⟩
def ACQ_CU_CTRL_ARM : Fld := ⟨0x0, 16, 16⟩
def ACQ_CU_CTRL_STOP : Fld := ⟨0x0, 17, 17⟩
def ACQ_CU_CTRL_SW_TRIG : Fld := ⟨0x0, 18, 18⟩
def ACQ_CU_SRC_KIND : Fld := ⟨0x4, 2, 0⟩
def ACQ_CU_SRC_INDEX : Fld := ⟨0x4, 12, 3⟩
def ACQ_CU_SRC_K_MIN : Fld := ⟨0x4, 19, 16⟩
def ACQ_CU_SRC_K_MAX : Fld := ⟨0x4, 23, 20⟩
def ACQ_CU_SRC_AUTO : Fld := ⟨0x4, 24, 24⟩
def ACQ_CU_SRC_AUTO_DOWN : Fld := ⟨0x4, 25, 25⟩
def ACQ_CU_TRIG_TSRC : Fld := ⟨0x8, 2, 0⟩
def ACQ_CU_TRIG_SLOPE : Fld := ⟨0x8, 3, 3⟩
def ACQ_CU_TRIG_PLACE : Fld := ⟨0x8, 4, 4⟩
def ACQ_CU_TRIG_COMP : Fld := ⟨0x8, 5, 5⟩
def ACQ_CU_TRIG_TINDEX : Fld := ⟨0x8, 15, 8⟩
def ACQ_CU_LEVEL_LEVEL : Fld := ⟨0xC, 31, 0⟩
def ACQ_CU_HYST_HYST : Fld := ⟨0x10, 23, 0⟩
def ACQ_CU_PRE_PRE : Fld := ⟨0x14, 23, 0⟩
def ACQ_CU_POST_POST : Fld := ⟨0x18, 23, 0⟩
def ACQ_CU_COUNT : Fld := ⟨0x1C, 31, 0⟩
def ACQ_CU_HOLDOFF_HOLDOFF : Fld := ⟨0x20, 23, 0⟩
def ACQ_CU_BUF_BASE : Fld := ⟨0x24, 11, 0⟩
def ACQ_CU_BUF_LEN : Fld := ⟨0x24, 28, 16⟩
def ACQ_CU_MASK_MBASE : Fld := ⟨0x28, 10, 0⟩
def ACQ_CU_MASK_MCOUNT : Fld := ⟨0x28, 23, 12⟩
def ACQ_CU_MASK_MREL : Fld := ⟨0x28, 24, 24⟩
def ACQ_CU_MASK_MACTION : Fld := ⟨0x28, 26, 25⟩
def ACQ_CU_EVT_TRIG_EV_EN : Fld := ⟨0x2C, 0, 0⟩
def ACQ_CU_EVT_MASK_EV_EN : Fld := ⟨0x2C, 1, 1⟩
def ACQ_CU_EVT_TRIG_CHAN : Fld := ⟨0x2C, 15, 8⟩
def ACQ_CU_EVT_MASK_CHAN : Fld := ⟨0x2C, 23, 16⟩
def ACQ_CU_STATUS_STATE : Fld := ⟨0x30, 3, 0⟩
def ACQ_CU_STATUS_K : Fld := ⟨0x30, 7, 4⟩
def ACQ_CU_STATUS_GROUP_READY : Fld := ⟨0x30, 8, 8⟩
def ACQ_CU_STATUS_LENGTH_PENDING : Fld := ⟨0x30, 9, 9⟩
def ACQ_CU_STATUS_FULL : Fld := ⟨0x30, 10, 10⟩
def ACQ_CU_STATUS_PRE_SHORT : Fld := ⟨0x30, 11, 11⟩
def ACQ_CU_STATUS_MASK_VIOL : Fld := ⟨0x30, 12, 12⟩
def ACQ_CU_STATUS_GAP : Fld := ⟨0x30, 13, 13⟩
def ACQ_CU_STATUS_FIRE_OVERRUN : Fld := ⟨0x30, 14, 14⟩
def ACQ_CU_STATUS_BAD_CONS : Fld := ⟨0x30, 15, 15⟩
def ACQ_CAPTURES : Fld := ⟨0x34, 31, 0⟩
def ACQ_TRIG_MISSED : Fld := ⟨0x38, 31, 0⟩
def ACQ_COALESCED : Fld := ⟨0x3C, 31, 0⟩
def ACQ_DEAD_LAST : Fld := ⟨0x40, 31, 0⟩
def ACQ_DEAD_MAX : Fld := ⟨0x44, 31, 0⟩
def ACQ_MASK_VIOLATIONS : Fld := ⟨0x48, 31, 0⟩
def ACQ_RATE_CHANGES : Fld := ⟨0x4C, 31, 0⟩
def ACQ_DROPPED_LO : Fld := ⟨0x50, 31, 0⟩
def ACQ_DROPPED_HI : Fld := ⟨0x54, 31, 0⟩
def ACQ_LAST_TRIG_LO : Fld := ⟨0x58, 31, 0⟩
def ACQ_LAST_TRIG_HI : Fld := ⟨0x5C, 31, 0⟩
def ACQ_LAST_FRAC_FRAC : Fld := ⟨0x60, 3, 0⟩
def ACQ_LAST_FRAC_FRAC_VALID : Fld := ⟨0x60, 4, 4⟩
def STR_CTRL_ENABLE : Fld := ⟨0x80, 0, 0⟩
def STR_BASE_LO_BASE_LO : Fld := ⟨0x84, 31, 12⟩
def STR_BASE_HI_BASE_HI : Fld := ⟨0x88, 31, 0⟩
def STR_LEN_SIZE : Fld := ⟨0x8C, 31, 12⟩
def STR_PROD : Fld := ⟨0x90, 31, 0⟩
def STR_CONS : Fld := ⟨0x94, 31, 0⟩
def STR_FLUSH_FLUSH : Fld := ⟨0x98, 15, 0⟩
def ACQ_LOCKED_WRITES : Fld := ⟨0x0, 31, 0⟩
def ACQ_BUSY_REJECTS : Fld := ⟨0x4, 31, 0⟩
def ACQ_K_CFG_DIR : Fld := ⟨0x100, 0, 0⟩
def ACQ_K_CFG_TERM : Fld := ⟨0x100, 1, 1⟩
def ACQ_K_CFG_EV_EN : Fld := ⟨0x100, 2, 2⟩
def ACQ_K_CFG_EDGE : Fld := ⟨0x100, 4, 3⟩
def ACQ_K_CFG_CHANNEL : Fld := ⟨0x100, 15, 8⟩
def ACQ_MASK_ADDR_ADDR : Fld := ⟨0x200, 10, 0⟩
def ACQ_MASK_LO : Fld := ⟨0x204, 31, 0⟩
def ACQ_MASK_HI : Fld := ⟨0x208, 31, 0⟩
def ACQ_GRP_CTRL_EN : Fld := ⟨0x0, 0, 0⟩
def ACQ_GRP_CTRL_PARTITION : Fld := ⟨0x0, 3, 1⟩
def ACQ_GRP_LOCAL_MEMBERS : Fld := ⟨0x4, 31, 0⟩
def ACQ_GRP_NODES_LO : Fld := ⟨0x8, 31, 0⟩
def ACQ_GRP_NODES_HI : Fld := ⟨0xC, 31, 0⟩
def ACQ_FIRE_STALE : Fld := ⟨0x100, 31, 0⟩
def SEQ_CTRL_ENABLE : Fld := ⟨0x0, 0, 0⟩
def SEQ_CTRL_GROUP : Fld := ⟨0x0, 7, 4⟩
def SEQ_STATUS_STATE : Fld := ⟨0x4, 3, 0⟩
def SEQ_STATUS_IN_REGION : Fld := ⟨0x4, 4, 4⟩
def SEQ_STATUS_JUMP_LATCHED : Fld := ⟨0x4, 5, 5⟩
def SEQ_STATUS_SEG_SHORT : Fld := ⟨0x4, 6, 6⟩
def SEQ_STATUS_SEG_OVERRUN : Fld := ⟨0x4, 7, 7⟩
def SEQ_STATUS_REGION_ABORT : Fld := ⟨0x4, 8, 8⟩
def SEQ_STATUS_BAD_REGION : Fld := ⟨0x4, 9, 9⟩
def SEQ_STATUS_REGION_OPEN : Fld := ⟨0x4, 10, 10⟩
def SEQ_STATUS_JUMP_OVERRUN : Fld := ⟨0x4, 11, 11⟩
def SEQ_STATUS_TESTWIN_IGNORED : Fld := ⟨0x4, 12, 12⟩
def SEQ_STATUS_BAD_INSTR : Fld := ⟨0x4, 13, 13⟩
def SEQ_PC_PC : Fld := ⟨0x8, 23, 0⟩
def SEQ_WIN_WIN_A : Fld := ⟨0xC, 10, 0⟩
def SEQ_WIN_VALID_A : Fld := ⟨0xC, 11, 11⟩
def SEQ_WIN_WIN_B : Fld := ⟨0xC, 26, 16⟩
def SEQ_WIN_VALID_B : Fld := ⟨0xC, 27, 27⟩
def SEQ_IMAGE_LO_IMAGE_LO : Fld := ⟨0x10, 31, 16⟩
def SEQ_IMAGE_HI_IMAGE_HI : Fld := ⟨0x14, 4, 0⟩
def SEQ_IMAGE_LEN_IMAGE_LEN : Fld := ⟨0x18, 24, 0⟩
def SEQ_ENTRY_ENTRY : Fld := ⟨0x1C, 23, 0⟩
def SEQ_FIRST_REGION_FIRST_REGION : Fld := ⟨0x20, 23, 0⟩
def SEQ_MARK_WIDTH_MARK_WIDTH : Fld := ⟨0x24, 7, 0⟩
def SEQ_JUMP_VEC_VECTOR : Fld := ⟨0x40, 23, 0⟩
def SEQ_JUMP_REQ_VECTOR : Fld := ⟨0x60, 2, 0⟩
def SEQ_JUMP_REQ_REQ : Fld := ⟨0x60, 8, 8⟩
def SEQ_JUMP_SRC_CHANNEL : Fld := ⟨0x64, 7, 0⟩
def SEQ_JUMP_SRC_EVT_EN : Fld := ⟨0x64, 8, 8⟩
def SEQ_JUMP_SRC_EVT_VECTOR : Fld := ⟨0x64, 11, 9⟩
def SEQ_STALLS : Fld := ⟨0x80, 31, 0⟩
def SEQ_STALL_TICKS_LO : Fld := ⟨0x84, 31, 0⟩
def SEQ_STALL_TICKS_HI : Fld := ⟨0x88, 31, 0⟩
def SEQ_FETCH_TICKS_LO : Fld := ⟨0x8C, 31, 0⟩
def SEQ_FETCH_TICKS_HI : Fld := ⟨0x90, 31, 0⟩
def SEQ_REFILLS : Fld := ⟨0x94, 31, 0⟩
def SEQ_REGION_ABORTS : Fld := ⟨0x98, 31, 0⟩
def SEQ_SEG_OVERRUNS : Fld := ⟨0x9C, 31, 0⟩
def SEQ_JUMPS : Fld := ⟨0xA0, 31, 0⟩
def SEQ_JUMP_COALESCED : Fld := ⟨0xA4, 31, 0⟩
def SEQ_V : Fld := ⟨0xC0, 15, 0⟩
def SEQ_ACC_LO : Fld := ⟨0x100, 31, 0⟩
def SEQ_ACC_HI : Fld := ⟨0x104, 7, 0⟩
def SEQ_FLAGS_ZERO : Fld := ⟨0x108, 0, 0⟩
def SEQ_FLAGS_NEG : Fld := ⟨0x108, 1, 1⟩
def SEQ_FLAGS_ACC_SAT : Fld := ⟨0x108, 2, 2⟩
def SEQ_FLAGS_V_SAT : Fld := ⟨0x108, 3, 3⟩
def SEQ_FLAGS_TIMEOUT : Fld := ⟨0x108, 4, 4⟩
def SEQ_FLAGS_MATCH : Fld := ⟨0x108, 5, 5⟩
def SEQ_FLAGS_COND_OVERWRITE : Fld := ⟨0x108, 6, 6⟩
def SEQ_FLAGS_WIN_BUSY : Fld := ⟨0x108, 7, 7⟩
def SEQ_FLAGS_SLIP : Fld := ⟨0x108, 8, 8⟩
def SEQ_COND_SET : Fld := ⟨0x10C, 15, 0⟩
def SEQ_COND_VALUE : Fld := ⟨0x10C, 31, 16⟩
def SEQ_SLIPS : Fld := ⟨0x110, 31, 0⟩
def SEQ_BAD_INSTRS : Fld := ⟨0x114, 31, 0⟩
def SEQ_BAD_ADDR : Fld := ⟨0x118, 23, 0⟩
def SEQ_LOCKED_WRITES : Fld := ⟨0x0, 31, 0⟩
def SEQ_BUSY_REJECTS : Fld := ⟨0x4, 31, 0⟩
def SEQ_K_SRC_SEQUENCER : Fld := ⟨0x100, 5, 0⟩
def SEQ_K_SRC_BIT : Fld := ⟨0x100, 7, 6⟩
def SEQ_K_SRC_ENABLE : Fld := ⟨0x100, 8, 8⟩
def PART_STATE_STATE : Fld := ⟨0x0, 2, 0⟩
def PART_STATE_START_MISSED : Fld := ⟨0x0, 3, 3⟩
def PART_STATE_BARRIER_TIMEOUT : Fld := ⟨0x0, 4, 4⟩
def PART_CTRL_ARM : Fld := ⟨0x4, 0, 0⟩
def PART_CTRL_STOP : Fld := ⟨0x4, 1, 1⟩
def PART_CTRL_ABORT : Fld := ⟨0x4, 2, 2⟩
def PART_START_LO : Fld := ⟨0x8, 31, 0⟩
def PART_START_HI : Fld := ⟨0xC, 31, 0⟩
def PART_SHOTS_LO : Fld := ⟨0x10, 31, 0⟩
def PART_SHOTS_HI : Fld := ⟨0x14, 15, 0⟩
def PART_SHOT_PERIOD_PERIOD : Fld := ⟨0x18, 31, 0⟩
def PART_BARRIER_LAT_LAT : Fld := ⟨0x1C, 15, 0⟩
def PART_BARRIER_TIMEOUT_TIMEOUT : Fld := ⟨0x20, 31, 0⟩
def PART_SHOT_NUM_LO : Fld := ⟨0x24, 31, 0⟩
def PART_SHOT_NUM_HI : Fld := ⟨0x28, 15, 0⟩
def BIAS_CTRL_ENABLE : Fld := ⟨0x0, 0, 0⟩
def BIAS_CTRL_SPAN : Fld := ⟨0x0, 3, 1⟩
def BIAS_CTRL_LIMIT_ALL : Fld := ⟨0x0, 4, 4⟩
def BIAS_CTRL_SAFE_POL : Fld := ⟨0x0, 5, 5⟩
def BIAS_CTRL_AUTO_RESTORE : Fld := ⟨0x0, 6, 6⟩
def BIAS_CTRL_QMODE : Fld := ⟨0x0, 8, 7⟩
def BIAS_CODE_CODE : Fld := ⟨0x4, 19, 0⟩
def BIAS_OUT_OUT : Fld := ⟨0x8, 19, 0⟩
def BIAS_SLEW_SLEW : Fld := ⟨0xC, 15, 0⟩
def BIAS_QPERIOD_PERIOD : Fld := ⟨0x10, 19, 0⟩
def BIAS_QEVT_PACE_CHAN : Fld := ⟨0x14, 7, 0⟩
def BIAS_QEVT_START_CHAN : Fld := ⟨0x14, 15, 8⟩
def BIAS_QEVT_START_EV_EN : Fld := ⟨0x14, 16, 16⟩
def BIAS_QCMD_START : Fld := ⟨0x18, 0, 0⟩
def BIAS_QCMD_STOP : Fld := ⟨0x18, 1, 1⟩
def BIAS_QCMD_FLUSH : Fld := ⟨0x18, 2, 2⟩
def BIAS_QCMD_RESTORE : Fld := ⟨0x18, 3, 3⟩
def BIAS_STATUS_ACTIVE : Fld := ⟨0x1C, 0, 0⟩
def BIAS_STATUS_RAMPING : Fld := ⟨0x1C, 1, 1⟩
def BIAS_STATUS_SPAN_CHANGING : Fld := ⟨0x1C, 2, 2⟩
def BIAS_STATUS_RESTORE_PENDING : Fld := ⟨0x1C, 3, 3⟩
def BIAS_STATUS_QRUN : Fld := ⟨0x1C, 4, 4⟩
def BIAS_STATUS_QFILL : Fld := ⟨0x1C, 11, 5⟩
def BIAS_STATUS_DARK : Fld := ⟨0x1C, 12, 12⟩
def BIAS_STATUS_SHED : Fld := ⟨0x1C, 13, 13⟩
def BIAS_STATUS_COMPLIANCE : Fld := ⟨0x1C, 14, 14⟩
def BIAS_STATUS_OPEN_LOOP : Fld := ⟨0x1C, 15, 15⟩
def BIAS_STATUS_COMP_SEEN : Fld := ⟨0x1C, 16, 16⟩
def BIAS_STATUS_OPEN_SEEN : Fld := ⟨0x1C, 17, 17⟩
def BIAS_STATUS_UNDERRUN : Fld := ⟨0x1C, 18, 18⟩
def BIAS_STATUS_QUEUE_FULL : Fld := ⟨0x1C, 19, 19⟩
def BIAS_STATUS_PACE_OVERRUN : Fld := ⟨0x1C, 20, 20⟩
def BIAS_STATUS_POWER_REFUSED : Fld := ⟨0x1C, 21, 21⟩
def BIAS_STATUS_CODE_REFUSED : Fld := ⟨0x1C, 22, 22⟩
def BIAS_COMP_WINDOW_WINDOW : Fld := ⟨0x20, 15, 0⟩
def BIAS_UNDERRUNS : Fld := ⟨0x24, 31, 0⟩
def BIAS_QFULL : Fld := ⟨0x28, 31, 0⟩
def BIAS_COALESCED : Fld := ⟨0x2C, 31, 0⟩
def BIAS_CAL_OFFSET_BOFFSET : Fld := ⟨0x30, 15, 0⟩
def BIAS_CAL_GAIN_BGAIN : Fld := ⟨0x34, 23, 0⟩
def BIAS_LOCKED_WRITES : Fld := ⟨0x0, 31, 0⟩
def BIAS_BUSY_REJECTS : Fld := ⟨0x4, 31, 0⟩
def BIAS_QSTART_START : Fld := ⟨0x10, 31, 0⟩
def MON_CTRL_ENABLE : Fld := ⟨0x0, 0, 0⟩
def MON_CTRL_START_SRC : Fld := ⟨0x0, 2, 1⟩
def MON_CTRL_SEQ_LEN : Fld := ⟨0x0, 5, 3⟩
def MON_CTRL_INJ_EV_EN : Fld := ⟨0x0, 6, 6⟩
def MON_CTRL_START_CHAN : Fld := ⟨0x0, 15, 8⟩
def MON_CTRL_INJ_CHAN : Fld := ⟨0x0, 23, 16⟩
def MON_TIMER_PERIOD : Fld := ⟨0x4, 31, 0⟩
def MON_DELAY_DELAY : Fld := ⟨0x8, 15, 0⟩
def MON_BURST_BURST : Fld := ⟨0xC, 15, 0⟩
def MON_CMD_START : Fld := ⟨0x10, 0, 0⟩
def MON_CMD_STOP : Fld := ⟨0x10, 1, 1⟩
def MON_CMD_INJECT : Fld := ⟨0x10, 2, 2⟩
def MON_STATUS_ACTIVE : Fld := ⟨0x14, 0, 0⟩
def MON_STATUS_BUSY : Fld := ⟨0x14, 1, 1⟩
def MON_STATUS_INJ_PENDING : Fld := ⟨0x14, 2, 2⟩
def MON_STATUS_HELD : Fld := ⟨0x14, 3, 3⟩
def MON_STATUS_OVERRUN : Fld := ⟨0x14, 4, 4⟩
def MON_STATUS_START_OVERRUN : Fld := ⟨0x14, 5, 5⟩
def MON_STATUS_INJ_OVERRUN : Fld := ⟨0x14, 6, 6⟩
def MON_STATUS_CLIP : Fld := ⟨0x14, 7, 7⟩
def MON_STATUS_POWER_REFUSED : Fld := ⟨0x14, 8, 8⟩
def MON_STATUS_DARK : Fld := ⟨0x14, 9, 9⟩
def MON_STATUS_SHED : Fld := ⟨0x14, 10, 10⟩
def MON_ELEM_SRC : Fld := ⟨0x20, 1, 0⟩
def MON_ELEM_BIAS : Fld := ⟨0x20, 8, 2⟩
def MON_ELEM_RANGE : Fld := ⟨0x20, 10, 9⟩
def MON_INJ_ELEM_SRC : Fld := ⟨0x40, 1, 0⟩
def MON_INJ_ELEM_BIAS : Fld := ⟨0x40, 8, 2⟩
def MON_INJ_ELEM_RANGE : Fld := ⟨0x40, 10, 9⟩
def MON_DATA_LO_CODE : Fld := ⟨0x44, 17, 0⟩
def MON_DATA_LO_VALID : Fld := ⟨0x44, 18, 18⟩
def MON_DATA_LO_OVERRUN : Fld := ⟨0x44, 19, 19⟩
def MON_DATA_LO_INJ : Fld := ⟨0x44, 20, 20⟩
def MON_DATA_LO_PRE_CAL : Fld := ⟨0x44, 21, 21⟩
def MON_DATA_LO_UNSETTLED : Fld := ⟨0x44, 22, 22⟩
def MON_DATA_LO_UNCAL : Fld := ⟨0x44, 23, 23⟩
def MON_DATA_LO_CLIP : Fld := ⟨0x44, 24, 24⟩
def MON_DATA_LO_ELEM : Fld := ⟨0x44, 27, 25⟩
def MON_DATA_HI_STAMP : Fld := ⟨0x48, 31, 0⟩
def MON_CAL_OFFSET_OFFSET : Fld := ⟨0x4C, 15, 0⟩
def MON_CAL_GAIN_GAIN : Fld := ⟨0x50, 23, 0⟩
def MON_MISSED : Fld := ⟨0x54, 31, 0⟩
def MON_COALESCED : Fld := ⟨0x58, 31, 0⟩
def MON_OVERRUNS : Fld := ⟨0x5C, 31, 0⟩
def MON_LOCKED_WRITES : Fld := ⟨0x0, 31, 0⟩
def MON_BUSY_REJECTS : Fld := ⟨0x4, 31, 0⟩
def MON_REF_SEL : Fld := ⟨0x8, 1, 0⟩
def MON_REF_STATUS_SETTLING : Fld := ⟨0xC, 0, 0⟩
def MON_REF_STATUS_EXT_FAULT : Fld := ⟨0xC, 1, 1⟩
def MON_CAL_CTRL_START : Fld := ⟨0x10, 0, 0⟩
def MON_CAL_STATUS_BUSY : Fld := ⟨0x14, 0, 0⟩
def MON_CAL_STATUS_CAL_VALID : Fld := ⟨0x14, 1, 1⟩
def MON_CAL_STATUS_WAITING : Fld := ⟨0x14, 2, 2⟩
def MON_TDAC_CODE : Fld := ⟨0x18, 11, 0⟩
def MON_COMMON_CTRL_SRC : Fld := ⟨0x0, 1, 0⟩
def MON_COMMON_CTRL_CHANNEL : Fld := ⟨0x0, 15, 8⟩
def MON_COMMON_PERIOD_PERIOD : Fld := ⟨0x4, 31, 0⟩
def MON_COMMON_CMD_FIRE : Fld := ⟨0x8, 0, 0⟩
def MON_COMMON_CMD_RUN : Fld := ⟨0x8, 1, 1⟩
def MON_COMMON_CMD_HALT : Fld := ⟨0x8, 2, 2⟩
def DEC_STATUS_ROLE : Fld := ⟨0x0, 1, 0⟩
def DEC_STATUS_TABLE_ECC : Fld := ⟨0x0, 2, 2⟩
def DEC_STATUS_ACK_TIMEOUT : Fld := ⟨0x0, 3, 3⟩
def DEC_COMET_CFG_ACK_THRESH : Fld := ⟨0x4, 11, 0⟩
def DEC_COMET_CFG_ACK_INTERVAL : Fld := ⟨0x4, 27, 12⟩
def DEC_DECODER_NODE : Fld := ⟨0x8, 5, 0⟩
def DEC_DECODER_TWIN : Fld := ⟨0x8, 6, 6⟩
def DEC_DECODER_EN : Fld := ⟨0x8, 7, 7⟩
def DEC_LOCKED_WRITES : Fld := ⟨0x10, 31, 0⟩
def DEC_BUSY_REJECTS : Fld := ⟨0x14, 31, 0⟩
def DEC_LOOKUPS_LO : Fld := ⟨0x18, 31, 0⟩
def DEC_LOOKUPS_HI : Fld := ⟨0x1C, 31, 0⟩
def DEC_EMPTY_HITS : Fld := ⟨0x20, 31, 0⟩
def DEC_BAD_ACTIONS : Fld := ⟨0x24, 31, 0⟩
def DEC_CHAIN_LOOKUPS : Fld := ⟨0x28, 31, 0⟩
def DEC_GATHER_TIMEOUTS : Fld := ⟨0x2C, 31, 0⟩
def DEC_GATHER_OVERWRITES : Fld := ⟨0x30, 31, 0⟩
def DEC_COMET_SENT_LO : Fld := ⟨0x34, 31, 0⟩
def DEC_COMET_SENT_HI : Fld := ⟨0x38, 31, 0⟩
def DEC_COMET_APPLIED_LO : Fld := ⟨0x3C, 31, 0⟩
def DEC_COMET_APPLIED_HI : Fld := ⟨0x40, 31, 0⟩
def DEC_COMET_STALE : Fld := ⟨0x44, 31, 0⟩
def DEC_COMET_DUPLICATES : Fld := ⟨0x48, 31, 0⟩
def DEC_COMET_LOST : Fld := ⟨0x4C, 31, 0⟩
def DEC_COMET_WINDOW_STALLS : Fld := ⟨0x50, 31, 0⟩
def DEC_COMET_MAX_HOP : Fld := ⟨0x54, 31, 0⟩
def DEC_UPD_STALE : Fld := ⟨0x58, 31, 0⟩
def DEC_UPD_REJECTS : Fld := ⟨0x5C, 31, 0⟩
def DEC_SYND_STALLS : Fld := ⟨0x60, 31, 0⟩
def DEC_TWIN_MISMATCHES : Fld := ⟨0x64, 31, 0⟩
def DEC_ROUTE_MODE : Fld := ⟨0x0, 1, 0⟩
def DEC_ROUTE_INV_AS : Fld := ⟨0x0, 3, 2⟩
def DEC_ROUTE_LEAK_BIT : Fld := ⟨0x0, 4, 4⟩
def DEC_ROUTE_FLIP_EN : Fld := ⟨0x0, 5, 5⟩
def DEC_ROUTE_FLIP_FRAME : Fld := ⟨0x0, 15, 6⟩
def DEC_ROUTE_GU : Fld := ⟨0x0, 21, 16⟩
def DEC_ROUTE_POS : Fld := ⟨0x0, 27, 22⟩
def DEC_ROUTE_WIDTH : Fld := ⟨0x0, 28, 28⟩
def GU_CTRL_EN : Fld := ⟨0x0, 0, 0⟩
def GU_CTRL_PARTITION : Fld := ⟨0x0, 3, 1⟩
def GU_CTRL_KEY_BITS : Fld := ⟨0x0, 7, 4⟩
def GU_CTRL_LOOKUP : Fld := ⟨0x0, 8, 8⟩
def GU_CTRL_XOR_PREV : Fld := ⟨0x0, 9, 9⟩
def GU_CTRL_CLEAR_AT_SHOT : Fld := ⟨0x0, 10, 10⟩
def GU_CTRL_SYND : Fld := ⟨0x0, 11, 11⟩
def GU_CTRL_DONE_EN : Fld := ⟨0x0, 12, 12⟩
def GU_CTRL_LATE_EN : Fld := ⟨0x0, 13, 13⟩
def GU_BASE_BASE : Fld := ⟨0x4, 15, 9⟩
def GU_TIMEOUT_TIMEOUT : Fld := ⟨0x8, 15, 0⟩
def GU_DEADLINE_DEADLINE : Fld := ⟨0xC, 19, 0⟩
def GU_ENTRIES_DONE_ENTRY : Fld := ⟨0x10, 15, 0⟩
def GU_ENTRIES_LATE_ENTRY : Fld := ⟨0x10, 31, 16⟩
def GU_STATUS_ROUND : Fld := ⟨0x14, 15, 0⟩
def GU_STATUS_OUTSTANDING : Fld := ⟨0x14, 31, 16⟩
def GU_PREV_LO : Fld := ⟨0x18, 31, 0⟩
def GU_PREV_HI : Fld := ⟨0x1C, 31, 0⟩
def DEC_PAULI_XZ : Fld := ⟨0x3000, 31, 0⟩
def DEC_COMET_TX_NEXT : Fld := ⟨0x4000, 11, 0⟩
def DEC_COMET_TX_ACKED : Fld := ⟨0x4000, 27, 16⟩
def DEC_COMET_RX_EXPECTED : Fld := ⟨0x4004, 11, 0⟩

end F

/-! The base address of each row: its instance with every index 0. -/
namespace R

def HRT_ID : Nat := 0x0
def HRT_VERSION_ROM : Nat := 0x4
def HRT_VERSION_PATCH : Nat := 0x8
def HRT_VERSION_FW : Nat := 0xC
def HRT_STATUS : Nat := 0x10
def HRT_TRAPS : Nat := 0x14
def HRT_TRAPS_HELD : Nat := 0x18
def HRT_DEFERRALS : Nat := 0x1C
def HRT_LOCKED_WRITES : Nat := 0x20
def HRT_BUSY_REJECTS : Nat := 0x24
def HRT_CTX_STATE : Nat := 0x100
def HRT_CTX_CMD : Nat := 0x104
def HRT_CTX_GROUPS : Nat := 0x108
def HRT_MATCH : Nat := 0x400
def HRT_SQ_TAIL : Nat := 0x1000
def HRT_CQ_HEAD : Nat := 0x1004
def INT_LOCKED_WRITES : Nat := 0x100000
def INT_BUSY_REJECTS : Nat := 0x100004
def INT_SWI : Nat := 0x100008
def INT_MERGED : Nat := 0x10000C
def INT_CLAIM : Nat := 0x100100
def INT_COMPLETE : Nat := 0x100104
def INT_PRIGRP : Nat := 0x100108
def INT_MOD : Nat := 0x10010C
def INT_TSTATUS : Nat := 0x100110
def INT_SPURIOUS : Nat := 0x100114
def INT_BAD_COMPLETE : Nat := 0x100118
def INT_DELIVERIES : Nat := 0x10011C
def INT_PENDING : Nat := 0x100800
def INT_ACTIVE : Nat := 0x100900
def INT_SRC_CFG : Nat := 0x101000
def EVR_STATUS : Nat := 0x200000
def EVR_CTRL : Nat := 0x200004
def EVR_COMMIT_RESULT : Nat := 0x200008
def EVR_SW_PUB : Nat := 0x20000C
def EVR_LOCKED_WRITES : Nat := 0x200010
def EVR_BUSY_REJECTS : Nat := 0x200014
def EVR_DENIED : Nat := 0x200018
def EVR_COMMITS : Nat := 0x20001C
def EVR_CHAN_CFG : Nat := 0x201000
def EVR_CHAN_STATUS : Nat := 0x201004
def EVR_CHAN_EVENTS : Nat := 0x201008
def EVR_CHAN_MERGED : Nat := 0x20100C
def EVR_CELL_CFG : Nat := 0x202000
def EVR_CELL_IN : Nat := 0x202004
def EVR_CELL_OUT : Nat := 0x202008
def EVR_CELL_CFG_A : Nat := 0x20200C
def EVR_CELL_IN_A : Nat := 0x202010
def EVR_CELL_OUT_A : Nat := 0x202014
def EVR_CELL_STATE : Nat := 0x202018
def EVR_CELL_FIRES : Nat := 0x20201C
def EVR_PUB : Nat := 0x203000
def EVR_PUB_A : Nat := 0x203004
def TIM_STATUS : Nat := 0x300000
def TIM_CTRL : Nat := 0x300004
def TIM_SKEW : Nat := 0x300008
def TIM_EVENTS : Nat := 0x30000C
def TIM_LOCKED_WRITES : Nat := 0x300010
def TIM_BUSY_REJECTS : Nat := 0x300014
def TIM_IGNORED_ANCHORS : Nat := 0x300018
def TIM_ANCHOR_CRC_ERRORS : Nat := 0x30001C
def TD_TEXP_LO : Nat := 0x300100
def TD_TEXP_HI : Nat := 0x300104
def TD_STATE : Nat := 0x300108
def TD_ANCHOR_LO : Nat := 0x30010C
def TD_ANCHOR_HI : Nat := 0x300110
def TD_CTRL : Nat := 0x300114
def TIM_WALL_SEC_LO : Nat := 0x300200
def TIM_WALL_SEC_HI : Nat := 0x300204
def TIM_WALL_NS : Nat := 0x300208
def TIM_WALL_RATE : Nat := 0x30020C
def TIM_WALL_OFFSET : Nat := 0x300210
def TIM_PTP_CFG : Nat := 0x300214
def TTU_CTRL : Nat := 0x301000
def TTU_TARGET_LO : Nat := 0x301004
def TTU_TARGET_HI : Nat := 0x301008
def TTU_PERIOD_LO : Nat := 0x30100C
def TTU_PERIOD_HI : Nat := 0x301010
def TTU_STATUS : Nat := 0x301014
def TCU_CTRL : Nat := 0x302000
def TCU_TIME_LO : Nat := 0x302004
def TCU_TIME_HI : Nat := 0x302008
def TCU_STATUS : Nat := 0x30200C
def PWR_STATUS : Nat := 0x400000
def PWR_EVENTS : Nat := 0x400004
def PWR_VIN : Nat := 0x400008
def PWR_IIN : Nat := 0x40000C
def PWR_ENVELOPE : Nat := 0x400010
def PWR_COMMITTED : Nat := 0x400014
def PWR_MEASURED : Nat := 0x400018
def PWR_CAP : Nat := 0x40001C
def PWR_CFG : Nat := 0x400020
def PWR_SHED_RANK : Nat := 0x400024
def PWR_CTRL : Nat := 0x400028
def PWR_REFUSALS : Nat := 0x400030
def PWR_SHEDS : Nat := 0x400034
def PWR_RESTORES : Nat := 0x400038
def PWR_SAVES : Nat := 0x40003C
def PWR_BANKED_ACCESSES : Nat := 0x400040
def PWR_LOCKED_WRITES : Nat := 0x400044
def PWR_BUSY_REJECTS : Nat := 0x400048
def THM_STATUS : Nat := 0x408000
def THM_EVENTS : Nat := 0x408004
def THM_MAX : Nat := 0x408008
def THM_CAP : Nat := 0x40800C
def THM_SNAPSHOTS : Nat := 0x408010
def THM_SENSOR : Nat := 0x408100
def SEC_STATUS : Nat := 0x500000
def SEC_FW_SLOT : Nat := 0x500004
def SEC_SVN : Nat := 0x500008
def SEC_GEN : Nat := 0x50000C
def SEC_JTAG : Nat := 0x500010
def SEC_LOCKED_WRITES : Nat := 0x500014
def SEC_BUSY_REJECTS : Nat := 0x500018
def SEC_REJECTS : Nat := 0x50001C
def SEC_ATTESTS : Nat := 0x500020
def HIF_LINK : Nat := 0x600000
def HIF_PCI_ID : Nat := 0x600004
def HIF_LINK_DOWNS : Nat := 0x600008
def HIF_DMA_ERRORS : Nat := 0x60000C
def HIF_LOCKED_WRITES : Nat := 0x600010
def HIF_BUSY_REJECTS : Nat := 0x600014
def HIF_INFLIGHT : Nat := 0x600018
def HIF_FN_REJECT_ADDR : Nat := 0x600200
def HIF_FN_REJECT_STATUS : Nat := 0x600204
def HIF_FN_DENIED : Nat := 0x600208
def HIF_FN_TAGS : Nat := 0x60020C
def HIF_FN_DUP_TAGS : Nat := 0x600210
def HIF_Q_OWNER : Nat := 0x600400
def SQ_BASE_LO : Nat := 0x601000
def SQ_BASE_HI : Nat := 0x601004
def SQ_SIZE : Nat := 0x601008
def SQ_CTRL : Nat := 0x60100C
def SQ_HEAD : Nat := 0x601010
def SQ_STATUS : Nat := 0x601014
def SQ_PACKETS : Nat := 0x601018
def CQ_BASE_LO : Nat := 0x602000
def CQ_BASE_HI : Nat := 0x602004
def CQ_SIZE : Nat := 0x602008
def CQ_CTRL : Nat := 0x60200C
def CQ_TAIL : Nat := 0x602010
def CQ_STATUS : Nat := 0x602014
def CQ_FULL_STALLS : Nat := 0x602018
def FAB_CTRL : Nat := 0x700000
def FAB_STATUS : Nat := 0x700004
def FAB_MODULE_ID_LO : Nat := 0x700008
def FAB_MODULE_ID_HI : Nat := 0x70000C
def FAB_EVENTS : Nat := 0x700010
def FAB_LOCKED_WRITES : Nat := 0x700014
def FAB_BUSY_REJECTS : Nat := 0x700018
def FAB_DISCARDS : Nat := 0x70001C
def FAB_STALE : Nat := 0x700020
def FAB_LANE_CFG : Nat := 0x701000
def FAB_LANE_CTRL : Nat := 0x701004
def FAB_LANE_STATUS : Nat := 0x701008
def FAB_LANE_LOCK_LOSSES : Nat := 0x70100C
def FAB_LANE_STUFF_ERRORS : Nat := 0x701010
def FAB_LANE_MARK_ERRORS : Nat := 0x701014
def FAB_PORT_CTRL : Nat := 0x702000
def FAB_PORT_STATUS : Nat := 0x702004
def FAB_PORT_PEER_LO : Nat := 0x702008
def FAB_PORT_PEER_HI : Nat := 0x70200C
def FAB_PORT_TX_WORDS_LO : Nat := 0x702010
def FAB_PORT_TX_WORDS_HI : Nat := 0x702014
def FAB_PORT_RX_WORDS_LO : Nat := 0x702018
def FAB_PORT_RX_WORDS_HI : Nat := 0x70201C
def FAB_PORT_CRC_ERRORS : Nat := 0x702020
def FAB_PORT_RETRANSMITS : Nat := 0x702024
def FAB_PORT_DISCARDS : Nat := 0x702028
def FAB_PORT_DOWNS : Nat := 0x70202C
def FAB_PORT_QUEUE_MAX : Nat := 0x702030
def FAB_ROUTE : Nat := 0x703000
def FAB_PART_NODES_LO : Nat := 0x703100
def FAB_PART_NODES_HI : Nat := 0x703104
def FAB_TWIN_CTRL : Nat := 0x704000
def FAB_TWIN_STATUS : Nat := 0x704004
def FAB_TWIN_PARTNER_LO : Nat := 0x704008
def FAB_TWIN_PARTNER_HI : Nat := 0x70400C
def FAB_TWIN_SW : Nat := 0x704010
def FAB_TWIN_TAKEOVERS : Nat := 0x704014
def FAB_TWIN_DIVERGENCES : Nat := 0x704018
def FAB_TWIN_LAG_MAX : Nat := 0x70401C
def FAB_TWIN_UNMATCHED : Nat := 0x704020
def MEM_STATUS : Nat := 0x800000
def MEM_MAP : Nat := 0x800004
def MEM_HINT : Nat := 0x800008
def MEM_REF_CFG : Nat := 0x80000C
def MEM_SCRUB_CFG : Nat := 0x800010
def MEM_LOCKED_WRITES : Nat := 0x800020
def MEM_BUSY_REJECTS : Nat := 0x800024
def MEM_CORRECTED_LO : Nat := 0x800028
def MEM_CORRECTED_HI : Nat := 0x80002C
def MEM_UNCORRECTABLE : Nat := 0x800030
def MEM_REPLAYS : Nat := 0x800034
def MEM_RETRY_STALLS : Nat := 0x800038
def MEM_REFRESH_FORCED : Nat := 0x80003C
def MEM_LOC_EVICTIONS : Nat := 0x800040
def MEM_SCRUB_PASSES : Nat := 0x800044
def MEM_UNMAPPED : Nat := 0x800048
def MEM_WIN_ADDR_LO : Nat := 0x800100
def MEM_WIN_ADDR_HI : Nat := 0x800104
def MEM_WIN_DATA_LO : Nat := 0x800108
def MEM_WIN_DATA_HI : Nat := 0x80010C
def MEM_MARCH_CTRL : Nat := 0x800200
def MEM_MARCH_FIRST_LO : Nat := 0x800204
def MEM_MARCH_FIRST_HI : Nat := 0x800208
def MEM_MARCH_COUNT_LO : Nat := 0x80020C
def MEM_MARCH_COUNT_HI : Nat := 0x800210
def MEM_MARCH_STATUS : Nat := 0x800214
def MEM_MARCH_FAIL_LO : Nat := 0x800218
def MEM_MARCH_FAIL_HI : Nat := 0x80021C
def MEM_MARCH_FAILS : Nat := 0x800220
def MEM_MARCH_OPS_LO : Nat := 0x800224
def MEM_MARCH_OPS_HI : Nat := 0x800228
def MEM_MARCH_DIFF_LO : Nat := 0x80022C
def MEM_MARCH_DIFF_HI : Nat := 0x800230
def MEM_MARCH_DIFF_CHK : Nat := 0x800234
def MEM_CH_STATUS : Nat := 0x800400
def MEM_CH_MOVE : Nat := 0x800404
def MEM_CH_CORRECTED : Nat := 0x800408
def MEM_CH_REPLAYS : Nat := 0x80040C
def MEM_LOC_WHERE : Nat := 0x801000
def MEM_LOC_INDEX : Nat := 0x801004
def MEM_LOC_HITS : Nat := 0x801008
def MEM_LOC_FIRST : Nat := 0x80100C
def BST_STATUS : Nat := 0xA00000
def BST_CFG : Nat := 0xA00004
def BST_PROOF : Nat := 0xA00008
def BST_PASS_NUMBER : Nat := 0xA0000C
def BST_SLICE_TESTS : Nat := 0xA00010
def BST_SLICE_FAILS : Nat := 0xA00014
def BST_ABANDONED : Nat := 0xA00018
def BST_SKIPPED : Nat := 0xA0001C
def BST_ANALOG_CHECKS : Nat := 0xA00020
def BST_ANALOG_FAILS : Nat := 0xA00024
def BST_LOCKED_WRITES : Nat := 0xA00028
def BST_BUSY_REJECTS : Nat := 0xA0002C
def BST_DOM_SIG_LO : Nat := 0xA00100
def BST_DOM_SIG_HI : Nat := 0xA00104
def BST_DOM_PATTERNS : Nat := 0xA00108
def BST_DOM_RESULT : Nat := 0xA0010C
def BST_GRP_STATE : Nat := 0xA00400
def BST_GRP_PATTERNS : Nat := 0xA00404
def BST_GRP_SIG_LO : Nat := 0xA00408
def BST_GRP_SIG_HI : Nat := 0xA0040C
def LOG_STATUS : Nat := 0xC00000
def LOG_HEAD : Nat := 0xC00004
def LOG_SEQ : Nat := 0xC00008
def LOG_OVERWRITES : Nat := 0xC0000C
def LOG_SUPPRESSED : Nat := 0xC00010
def LOG_LOCKED_WRITES : Nat := 0xC00014
def LOG_BUSY_REJECTS : Nat := 0xC00018
def LOG_MTIME_LO : Nat := 0xC00020
def LOG_MTIME_HI : Nat := 0xC00024
def LOG_SAFE : Nat := 0xC00028
def LOG_NV_COUNT : Nat := 0xC0002C
def LOG_NV_OVERWRITES : Nat := 0xC00030
def LOG_CFG : Nat := 0xC00034
def LOG_TRANSIENTS_LO : Nat := 0xC00038
def LOG_TRANSIENTS_HI : Nat := 0xC0003C
def LOG_PERMANENTS : Nat := 0xC00040
def LOG_CAUSE_COUNT : Nat := 0xC01000
def DRV_CTRL : Nat := 0x1000000
def DRV_STATUS : Nat := 0x1000004
def DRV_ATTEN : Nat := 0x1000008
def DRV_HEAT_CFG : Nat := 0x100000C
def DRV_HEAT_LIMIT : Nat := 0x1000010
def DRV_HEAT_MEAN : Nat := 0x1000014
def DRV_CLIP_COUNT : Nat := 0x1000018
def DRV_OVERLAPS : Nat := 0x100001C
def DRV_BAD_PLAYS : Nat := 0x1000020
def DRV_MUTED_PLAYS : Nat := 0x1000024
def DRV_PLAYS_LO : Nat := 0x1000028
def DRV_PLAYS_HI : Nat := 0x100002C
def DRV_FRAME_FREQ_LO : Nat := 0x1000100
def DRV_FRAME_FREQ_HI : Nat := 0x1000104
def DRV_FRAME_PHASE_LO : Nat := 0x1000108
def DRV_FRAME_PHASE_HI : Nat := 0x100010C
def DRV_FRAME_GAIN : Nat := 0x1000110
def DRV_FRAME_STATE : Nat := 0x1000114
def DRV_LOCKED_WRITES : Nat := 0x1020000
def DRV_BUSY_REJECTS : Nat := 0x1020004
def DRV_ENV_ADDR : Nat := 0x1020008
def DRV_ENV_DATA : Nat := 0x102000C
def DRV_ENV_PART_DESC : Nat := 0x1020040
def DRV_ENV_PART_SAMP : Nat := 0x1020044
def DRV_SPARE_CTRL : Nat := 0x1020100
def DRV_SPARE_STATUS : Nat := 0x1020104
def DRV_SPARE_SWAPS : Nat := 0x1020108
def DRV_ENV_DESC_LO : Nat := 0x1040000
def DRV_ENV_DESC_HI : Nat := 0x1040004
def FLX_CTRL : Nat := 0x1080000
def FLX_STATUS : Nat := 0x1080004
def FLX_PARK : Nat := 0x1080008
def FLX_GAIN : Nat := 0x108000C
def FLX_DELAY : Nat := 0x1080010
def FLX_PD_CTRL : Nat := 0x1080014
def FLX_CLIP_COUNT : Nat := 0x1080018
def FLX_OVERLAPS : Nat := 0x108001C
def FLX_BAD_PLAYS : Nat := 0x1080020
def FLX_IIR_B0 : Nat := 0x1080100
def FLX_IIR_B1 : Nat := 0x1080104
def FLX_IIR_A1 : Nat := 0x1080108
def FLX_FIR_C : Nat := 0x1080140
def FLX_PD_BYPASS : Nat := 0x10801E0
def FLX_LOCKED_WRITES : Nat := 0x10A0000
def FLX_BUSY_REJECTS : Nat := 0x10A0004
def FLX_SPARE_CTRL : Nat := 0x10A0100
def FLX_SPARE_STATUS : Nat := 0x10A0104
def FLX_SPARE_SWAPS : Nat := 0x10A0108
def RDO_PRB_CTRL : Nat := 0x1100000
def RDO_PRB_STATUS : Nat := 0x1100004
def RDO_PRB_ATTEN : Nat := 0x1100008
def RDO_PRB_HEAT_CFG : Nat := 0x110000C
def RDO_PRB_HEAT_LIMIT : Nat := 0x1100010
def RDO_PRB_HEAT_MEAN : Nat := 0x1100014
def RDO_PRB_CLIP_COUNT : Nat := 0x1100018
def RDO_PRB_OVERLAPS : Nat := 0x110001C
def RDO_PRB_BAD_PLAYS : Nat := 0x1100020
def RDO_PRB_MUTED_PLAYS : Nat := 0x1100024
def RDO_PRB_PLAYS_LO : Nat := 0x1100028
def RDO_PRB_PLAYS_HI : Nat := 0x110002C
def RDO_ADC_CTRL : Nat := 0x1100040
def RDO_ADC_STATUS : Nat := 0x1100044
def RDO_ADC_CLIPS : Nat := 0x1100048
def RDO_WINDOWS_LO : Nat := 0x110004C
def RDO_WINDOWS_HI : Nat := 0x1100050
def TONE_FREQ_LO : Nat := 0x1108000
def TONE_FREQ_HI : Nat := 0x1108004
def TONE_PHASE_LO : Nat := 0x1108008
def TONE_PHASE_HI : Nat := 0x110800C
def TONE_DEMOD_PHASE_LO : Nat := 0x1108010
def TONE_DEMOD_PHASE_HI : Nat := 0x1108014
def TONE_GAIN : Nat := 0x1108018
def TONE_CTRL : Nat := 0x110801C
def TONE_WIN : Nat := 0x1108020
def TONE_KERNEL : Nat := 0x1108024
def TONE_A : Nat := 0x1108028
def TONE_B : Nat := 0x1108034
def TONE_BETA01 : Nat := 0x1108040
def TONE_THRESH : Nat := 0x1108044
def TONE_DEPL01 : Nat := 0x1108048
def TONE_DEPL2 : Nat := 0x110804C
def TONE_STATUS : Nat := 0x1108050
def TONE_LAST_I : Nat := 0x1108054
def TONE_LAST_Q : Nat := 0x1108058
def TONE_WINDOWS : Nat := 0x110805C
def TONE_EARLY : Nat := 0x1108060
def TONE_OVERFLOWS : Nat := 0x1108064
def RDO_LOCKED_WRITES : Nat := 0x1110000
def RDO_BUSY_REJECTS : Nat := 0x1110004
def RDO_KERN_ADDR : Nat := 0x1110008
def RDO_KERN_I : Nat := 0x111000C
def RDO_KERN_Q : Nat := 0x1110010
def RDO_PRB_SPARE_CTRL : Nat := 0x1110100
def RDO_PRB_SPARE_STATUS : Nat := 0x1110104
def RDO_PRB_SPARE_SWAPS : Nat := 0x1110108
def RDO_ADC_SPARE_CTRL : Nat := 0x1110140
def RDO_ADC_SPARE_STATUS : Nat := 0x1110144
def RDO_ADC_SPARE_SWAPS : Nat := 0x1110148
def REC_CTRL : Nat := 0x1110400
def REC_STATUS : Nat := 0x1110404
def REC_BASE_LO : Nat := 0x1110408
def REC_BASE_HI : Nat := 0x111040C
def REC_LEN : Nat := 0x1110410
def REC_RESERVE : Nat := 0x1110414
def REC_PROD : Nat := 0x1110418
def REC_CONS : Nat := 0x111041C
def REC_WAIT_TICKS_LO : Nat := 0x1110420
def REC_WAIT_TICKS_HI : Nat := 0x1110424
def REC_TRUNCATED : Nat := 0x1110428
def ACQ_CU_CTRL : Nat := 0x1180000
def ACQ_CU_SRC : Nat := 0x1180004
def ACQ_CU_TRIG : Nat := 0x1180008
def ACQ_CU_LEVEL : Nat := 0x118000C
def ACQ_CU_HYST : Nat := 0x1180010
def ACQ_CU_PRE : Nat := 0x1180014
def ACQ_CU_POST : Nat := 0x1180018
def ACQ_CU_COUNT : Nat := 0x118001C
def ACQ_CU_HOLDOFF : Nat := 0x1180020
def ACQ_CU_BUF : Nat := 0x1180024
def ACQ_CU_MASK : Nat := 0x1180028
def ACQ_CU_EVT : Nat := 0x118002C
def ACQ_CU_STATUS : Nat := 0x1180030
def ACQ_CAPTURES : Nat := 0x1180034
def ACQ_TRIG_MISSED : Nat := 0x1180038
def ACQ_COALESCED : Nat := 0x118003C
def ACQ_DEAD_LAST : Nat := 0x1180040
def ACQ_DEAD_MAX : Nat := 0x1180044
def ACQ_MASK_VIOLATIONS : Nat := 0x1180048
def ACQ_RATE_CHANGES : Nat := 0x118004C
def ACQ_DROPPED_LO : Nat := 0x1180050
def ACQ_DROPPED_HI : Nat := 0x1180054
def ACQ_LAST_TRIG_LO : Nat := 0x1180058
def ACQ_LAST_TRIG_HI : Nat := 0x118005C
def ACQ_LAST_FRAC : Nat := 0x1180060
def STR_CTRL : Nat := 0x1180080
def STR_BASE_LO : Nat := 0x1180084
def STR_BASE_HI : Nat := 0x1180088
def STR_LEN : Nat := 0x118008C
def STR_PROD : Nat := 0x1180090
def STR_CONS : Nat := 0x1180094
def STR_FLUSH : Nat := 0x1180098
def ACQ_LOCKED_WRITES : Nat := 0x1188000
def ACQ_BUSY_REJECTS : Nat := 0x1188004
def ACQ_K_CFG : Nat := 0x1188100
def ACQ_MASK_ADDR : Nat := 0x1188200
def ACQ_MASK_LO : Nat := 0x1188204
def ACQ_MASK_HI : Nat := 0x1188208
def ACQ_GRP_CTRL : Nat := 0x1189000
def ACQ_GRP_LOCAL : Nat := 0x1189004
def ACQ_GRP_NODES_LO : Nat := 0x1189008
def ACQ_GRP_NODES_HI : Nat := 0x118900C
def ACQ_FIRE_STALE : Nat := 0x1189100
def SEQ_CTRL : Nat := 0x1200000
def SEQ_STATUS : Nat := 0x1200004
def SEQ_PC : Nat := 0x1200008
def SEQ_WIN : Nat := 0x120000C
def SEQ_IMAGE_LO : Nat := 0x1200010
def SEQ_IMAGE_HI : Nat := 0x1200014
def SEQ_IMAGE_LEN : Nat := 0x1200018
def SEQ_ENTRY : Nat := 0x120001C
def SEQ_FIRST_REGION : Nat := 0x1200020
def SEQ_MARK_WIDTH : Nat := 0x1200024
def SEQ_JUMP_VEC : Nat := 0x1200040
def SEQ_JUMP_REQ : Nat := 0x1200060
def SEQ_JUMP_SRC : Nat := 0x1200064
def SEQ_STALLS : Nat := 0x1200080
def SEQ_STALL_TICKS_LO : Nat := 0x1200084
def SEQ_STALL_TICKS_HI : Nat := 0x1200088
def SEQ_FETCH_TICKS_LO : Nat := 0x120008C
def SEQ_FETCH_TICKS_HI : Nat := 0x1200090
def SEQ_REFILLS : Nat := 0x1200094
def SEQ_REGION_ABORTS : Nat := 0x1200098
def SEQ_SEG_OVERRUNS : Nat := 0x120009C
def SEQ_JUMPS : Nat := 0x12000A0
def SEQ_JUMP_COALESCED : Nat := 0x12000A4
def SEQ_V : Nat := 0x12000C0
def SEQ_ACC_LO : Nat := 0x1200100
def SEQ_ACC_HI : Nat := 0x1200104
def SEQ_FLAGS : Nat := 0x1200108
def SEQ_COND : Nat := 0x120010C
def SEQ_SLIPS : Nat := 0x1200110
def SEQ_BAD_INSTRS : Nat := 0x1200114
def SEQ_BAD_ADDR : Nat := 0x1200118
def SEQ_LOCKED_WRITES : Nat := 0x1228000
def SEQ_BUSY_REJECTS : Nat := 0x1228004
def SEQ_K_SRC : Nat := 0x1228100
def PART_STATE : Nat := 0x1230000
def PART_CTRL : Nat := 0x1230004
def PART_START_LO : Nat := 0x1230008
def PART_START_HI : Nat := 0x123000C
def PART_SHOTS_LO : Nat := 0x1230010
def PART_SHOTS_HI : Nat := 0x1230014
def PART_SHOT_PERIOD : Nat := 0x1230018
def PART_BARRIER_LAT : Nat := 0x123001C
def PART_BARRIER_TIMEOUT : Nat := 0x1230020
def PART_SHOT_NUM_LO : Nat := 0x1230024
def PART_SHOT_NUM_HI : Nat := 0x1230028
def BIAS_CTRL : Nat := 0x1300000
def BIAS_CODE : Nat := 0x1300004
def BIAS_OUT : Nat := 0x1300008
def BIAS_SLEW : Nat := 0x130000C
def BIAS_QPERIOD : Nat := 0x1300010
def BIAS_QEVT : Nat := 0x1300014
def BIAS_QCMD : Nat := 0x1300018
def BIAS_STATUS : Nat := 0x130001C
def BIAS_COMP_WINDOW : Nat := 0x1300020
def BIAS_UNDERRUNS : Nat := 0x1300024
def BIAS_QFULL : Nat := 0x1300028
def BIAS_COALESCED : Nat := 0x130002C
def BIAS_CAL_OFFSET : Nat := 0x1300030
def BIAS_CAL_GAIN : Nat := 0x1300034
def BIAS_LOCKED_WRITES : Nat := 0x1300800
def BIAS_BUSY_REJECTS : Nat := 0x1300804
def BIAS_QSTART : Nat := 0x1300810
def MON_CTRL : Nat := 0x1380000
def MON_TIMER : Nat := 0x1380004
def MON_DELAY : Nat := 0x1380008
def MON_BURST : Nat := 0x138000C
def MON_CMD : Nat := 0x1380010
def MON_STATUS : Nat := 0x1380014
def MON_ELEM : Nat := 0x1380020
def MON_INJ_ELEM : Nat := 0x1380040
def MON_DATA_LO : Nat := 0x1380044
def MON_DATA_HI : Nat := 0x1380048
def MON_CAL_OFFSET : Nat := 0x138004C
def MON_CAL_GAIN : Nat := 0x1380050
def MON_MISSED : Nat := 0x1380054
def MON_COALESCED : Nat := 0x1380058
def MON_OVERRUNS : Nat := 0x138005C
def MON_LOCKED_WRITES : Nat := 0x1390000
def MON_BUSY_REJECTS : Nat := 0x1390004
def MON_REF : Nat := 0x1390008
def MON_REF_STATUS : Nat := 0x139000C
def MON_CAL_CTRL : Nat := 0x1390010
def MON_CAL_STATUS : Nat := 0x1390014
def MON_TDAC : Nat := 0x1390018
def MON_COMMON_CTRL : Nat := 0x1390100
def MON_COMMON_PERIOD : Nat := 0x1390104
def MON_COMMON_CMD : Nat := 0x1390108
def DEC_STATUS : Nat := 0x2000000
def DEC_COMET_CFG : Nat := 0x2000004
def DEC_DECODER : Nat := 0x2000008
def DEC_LOCKED_WRITES : Nat := 0x2000010
def DEC_BUSY_REJECTS : Nat := 0x2000014
def DEC_LOOKUPS_LO : Nat := 0x2000018
def DEC_LOOKUPS_HI : Nat := 0x200001C
def DEC_EMPTY_HITS : Nat := 0x2000020
def DEC_BAD_ACTIONS : Nat := 0x2000024
def DEC_CHAIN_LOOKUPS : Nat := 0x2000028
def DEC_GATHER_TIMEOUTS : Nat := 0x200002C
def DEC_GATHER_OVERWRITES : Nat := 0x2000030
def DEC_COMET_SENT_LO : Nat := 0x2000034
def DEC_COMET_SENT_HI : Nat := 0x2000038
def DEC_COMET_APPLIED_LO : Nat := 0x200003C
def DEC_COMET_APPLIED_HI : Nat := 0x2000040
def DEC_COMET_STALE : Nat := 0x2000044
def DEC_COMET_DUPLICATES : Nat := 0x2000048
def DEC_COMET_LOST : Nat := 0x200004C
def DEC_COMET_WINDOW_STALLS : Nat := 0x2000050
def DEC_COMET_MAX_HOP : Nat := 0x2000054
def DEC_UPD_STALE : Nat := 0x2000058
def DEC_UPD_REJECTS : Nat := 0x200005C
def DEC_SYND_STALLS : Nat := 0x2000060
def DEC_TWIN_MISMATCHES : Nat := 0x2000064
def DEC_ROUTE : Nat := 0x2001000
def GU_CTRL : Nat := 0x2002000
def GU_BASE : Nat := 0x2002004
def GU_TIMEOUT : Nat := 0x2002008
def GU_DEADLINE : Nat := 0x200200C
def GU_ENTRIES : Nat := 0x2002010
def GU_STATUS : Nat := 0x2002014
def GU_PREV_LO : Nat := 0x2002018
def GU_PREV_HI : Nat := 0x200201C
def DEC_PAULI : Nat := 0x2003000
def DEC_COMET_TX : Nat := 0x2004000
def DEC_COMET_RX : Nat := 0x2004004
/-- The low registers of the 64-bit values (R15, R16), by row. -/
def lowHalves : List Nat :=
  [TD_TEXP_LO, TD_ANCHOR_LO, TIM_WALL_SEC_LO, TTU_TARGET_LO, TTU_PERIOD_LO,
   TCU_TIME_LO, SQ_BASE_LO, CQ_BASE_LO, FAB_MODULE_ID_LO, FAB_PORT_PEER_LO,
   FAB_PORT_TX_WORDS_LO, FAB_PORT_RX_WORDS_LO, FAB_PART_NODES_LO, FAB_TWIN_PARTNER_LO, MEM_CORRECTED_LO,
   MEM_WIN_ADDR_LO, MEM_WIN_DATA_LO, MEM_MARCH_FIRST_LO, MEM_MARCH_COUNT_LO, MEM_MARCH_FAIL_LO,
   MEM_MARCH_OPS_LO, MEM_MARCH_DIFF_LO, BST_DOM_SIG_LO, BST_GRP_SIG_LO, LOG_MTIME_LO,
   LOG_TRANSIENTS_LO, DRV_PLAYS_LO, DRV_FRAME_FREQ_LO, DRV_FRAME_PHASE_LO, DRV_ENV_DESC_LO,
   RDO_PRB_PLAYS_LO, RDO_WINDOWS_LO, TONE_FREQ_LO, TONE_PHASE_LO, TONE_DEMOD_PHASE_LO,
   REC_BASE_LO, REC_WAIT_TICKS_LO, ACQ_DROPPED_LO, ACQ_LAST_TRIG_LO, STR_BASE_LO,
   ACQ_MASK_LO, ACQ_GRP_NODES_LO, SEQ_IMAGE_LO, SEQ_STALL_TICKS_LO, SEQ_FETCH_TICKS_LO,
   SEQ_ACC_LO, PART_START_LO, PART_SHOTS_LO, PART_SHOT_NUM_LO, MON_DATA_LO,
   DEC_LOOKUPS_LO, DEC_COMET_SENT_LO, DEC_COMET_APPLIED_LO, GU_PREV_LO]

end R

/-- Registers of the HRT block, part 1. -/
def RegMap.hrt1 : List RegDesc := [
  ⟨"HRT_ID", 0x0, [], .hrt, .none, [⟨"PRODUCT", 15, 0, .ro, .num 20776, false⟩, ⟨"CODE", 17, 16, .ro, .fuse, false⟩]⟩,
  ⟨"HRT_VERSION_ROM", 0x4, [], .hrt, .none, [⟨"ROM", 15, 0, .ro, .num 0, false⟩]⟩,
  ⟨"HRT_VERSION_PATCH", 0x8, [], .hrt, .none, [⟨"PATCH", 15, 0, .ro, .num 0, false⟩]⟩,
  ⟨"HRT_VERSION_FW", 0xC, [], .hrt, .none, [⟨"FW", 31, 0, .ro, .num 0, false⟩]⟩,
  ⟨"HRT_STATUS", 0x10, [], .hrt, .none, [⟨"STATE", 1, 0, .ro, .num 0, false⟩, ⟨"TRAP_DEPTH", 4, 2, .ro, .num 0, false⟩, ⟨"PATCH_ACTIVE", 5, 5, .ro, .num 0, false⟩, ⟨"PATCH_FAULT", 6, 6, .w1c, .num 0, false⟩, ⟨"CONTEXTS", 12, 8, .ro, .num 0, false⟩]⟩,
  ⟨"HRT_TRAPS", 0x14, [], .hrt, .none, [⟨"VALUE", 31, 0, .ro, .num 0, false⟩]⟩,
  ⟨"HRT_TRAPS_HELD", 0x18, [], .hrt, .none, [⟨"VALUE", 31, 0, .ro, .num 0, false⟩]⟩,
  ⟨"HRT_DEFERRALS", 0x1C, [], .hrt, .none, [⟨"VALUE", 31, 0, .ro, .num 0, false⟩]⟩,
  ⟨"HRT_LOCKED_WRITES", 0x20, [], .hrt, .none, [⟨"VALUE", 31, 0, .ro, .num 0, false⟩]⟩,
  ⟨"HRT_BUSY_REJECTS", 0x24, [], .hrt, .none, [⟨"VALUE", 31, 0, .ro, .num 0, false⟩]⟩,
  ⟨"HRT_CTX_STATE", 0x100, [(20, 0x20)], .pf0, .none, [⟨"STATE", 1, 0, .ro, .num 0, false⟩, ⟨"INTERNAL", 2, 2, .ro, .num 0, false⟩, ⟨"HELD", 6, 3, .ro, .num 0, false⟩, ⟨"OPCODE", 31, 16, .ro, .num 0, false⟩]⟩,
  ⟨"HRT_CTX_CMD", 0x104, [(20, 0x20)], .pf0, .none, [⟨"TAG", 15, 0, .ro, .num 0, false⟩, ⟨"SQ", 21, 16, .ro, .num 0, false⟩]⟩,
  ⟨"HRT_CTX_GROUPS", 0x108, [(20, 0x20), (4, 0x4)], .pf0, .none, [⟨"GROUP_LO", 15, 0, .ro, .num 0, false⟩, ⟨"GROUP_HI", 31, 16, .ro, .num 0, false⟩]⟩,
  ⟨"HRT_MATCH", 0x400, [(32, 0x4)], .pf0, .none, [⟨"EN", 0, 0, .ro, .num 0, false⟩, ⟨"ADDR", 15, 1, .ro, .num 0, false⟩, ⟨"PATCH", 25, 16, .ro, .num 0, false⟩]⟩,
  ⟨"HRT_SQ_TAIL", 0x1000, [(64, 0x8)], .queue, .none, [⟨"INDEX", 15, 0, .rw, .num 0, false⟩]⟩,
  ⟨"HRT_CQ_HEAD", 0x1004, [(64, 0x8)], .queue, .none, [⟨"INDEX", 15, 0, .rw, .num 0, false⟩]⟩]

/-- Registers of the HRT block. -/
def RegMap.hrt : List RegDesc := RegMap.hrt1

/-- Registers of the INT block, part 1. -/
def RegMap.int1 : List RegDesc := [
  ⟨"INT_LOCKED_WRITES", 0x100000, [], .pf0, .none, [⟨"VALUE", 31, 0, .ro, .num 0, false⟩]⟩,
  ⟨"INT_BUSY_REJECTS", 0x100004, [], .pf0, .none, [⟨"VALUE", 31, 0, .ro, .num 0, false⟩]⟩,
  ⟨"INT_SWI", 0x100008, [], .pf0, .none, [⟨"SW", 3, 0, .wo, .num 0, false⟩]⟩,
  ⟨"INT_MERGED", 0x10000C, [], .pf0, .none, [⟨"VALUE", 31, 0, .ro, .num 0, false⟩]⟩,
  ⟨"INT_CLAIM", 0x100100, [(6, 0x20)], .inttgt, .none, [⟨"ID", 9, 0, .ro, .num 0, false⟩, ⟨"PRIO", 23, 16, .ro, .num 0, false⟩, ⟨"VALID", 31, 31, .ro, .num 0, false⟩]⟩,
  ⟨"INT_COMPLETE", 0x100104, [(6, 0x20)], .inttgt, .none, [⟨"ID", 9, 0, .wo, .num 0, false⟩]⟩,
  ⟨"INT_PRIGRP", 0x100108, [(6, 0x20)], .inttgt, .none, [⟨"PRIGRP", 2, 0, .rw, .ret 4, false⟩]⟩,
  ⟨"INT_MOD", 0x10010C, [(6, 0x20)], .inttgt, .none, [⟨"MOD", 11, 0, .rw, .ret 0, false⟩]⟩,
  ⟨"INT_TSTATUS", 0x100110, [(6, 0x20)], .inttgt, .none, [⟨"REQ", 0, 0, .ro, .num 0, false⟩, ⟨"IDLE", 1, 1, .ro, .num 1, false⟩, ⟨"HELD", 2, 2, .ro, .num 0, false⟩, ⟨"RP_VALID", 3, 3, .ro, .num 0, false⟩, ⟨"RP", 15, 8, .ro, .num 0, false⟩, ⟨"ACTIVE", 20, 16, .ro, .num 0, false⟩]⟩,
  ⟨"INT_SPURIOUS", 0x100114, [(6, 0x20)], .inttgt, .none, [⟨"VALUE", 31, 0, .ro, .num 0, false⟩]⟩,
  ⟨"INT_BAD_COMPLETE", 0x100118, [(6, 0x20)], .inttgt, .none, [⟨"VALUE", 31, 0, .ro, .num 0, false⟩]⟩,
  ⟨"INT_DELIVERIES", 0x10011C, [(6, 0x20)], .inttgt, .none, [⟨"VALUE", 31, 0, .ro, .num 0, false⟩]⟩,
  ⟨"INT_PENDING", 0x100800, [(32, 0x4)], .pf0, .none, [⟨"BITS", 31, 0, .ro, .num 0, false⟩]⟩,
  ⟨"INT_ACTIVE", 0x100900, [(32, 0x4)], .pf0, .none, [⟨"BITS", 31, 0, .ro, .num 0, false⟩]⟩,
  ⟨"INT_SRC_CFG", 0x101000, [(1024, 0x4)], .intsrc, .none, [⟨"PRIO", 7, 0, .rw, .ret 128, false⟩, ⟨"ENABLE", 8, 8, .rw, .ret 0, false⟩, ⟨"TARGET", 11, 9, .rw, .ret 0, false⟩, ⟨"KIND", 12, 12, .ro, .fuse, false⟩, ⟨"PENDING", 13, 13, .ro, .num 0, false⟩, ⟨"ACTIVE", 14, 14, .ro, .num 0, false⟩, ⟨"LEVEL", 15, 15, .ro, .num 0, false⟩]⟩]

/-- Registers of the INT block. -/
def RegMap.int : List RegDesc := RegMap.int1

/-- Registers of the EVR block, part 1. -/
def RegMap.evr1 : List RegDesc := [
  ⟨"EVR_STATUS", 0x200000, [], .evr, .none, [⟨"COMMIT_BUSY", 0, 0, .ro, .num 0, false⟩, ⟨"LOOP_REJECT", 1, 1, .w1c, .num 0, false⟩, ⟨"ALLOC_REJECT", 2, 2, .w1c, .num 0, false⟩, ⟨"RATE_TRIP", 3, 3, .w1c, .num 0, false⟩, ⟨"DENIED", 4, 4, .w1c, .num 0, false⟩]⟩,
  ⟨"EVR_CTRL", 0x200004, [], .evr, .none, [⟨"COMMIT", 0, 0, .wo, .num 0, false⟩, ⟨"DISCARD", 1, 1, .wo, .num 0, false⟩]⟩,
  ⟨"EVR_COMMIT_RESULT", 0x200008, [], .evr, .none, [⟨"STATUS", 15, 0, .ro, .num 0, false⟩, ⟨"CHANNEL", 23, 16, .ro, .num 0, false⟩]⟩,
  ⟨"EVR_SW_PUB", 0x20000C, [], .evr, .none, [⟨"CHANNEL", 7, 0, .wo, .num 0, false⟩, ⟨"PUB", 8, 8, .wo, .num 0, false⟩]⟩,
  ⟨"EVR_LOCKED_WRITES", 0x200010, [], .evr, .none, [⟨"VALUE", 31, 0, .ro, .num 0, false⟩]⟩,
  ⟨"EVR_BUSY_REJECTS", 0x200014, [], .evr, .none, [⟨"VALUE", 31, 0, .ro, .num 0, false⟩]⟩,
  ⟨"EVR_DENIED", 0x200018, [], .evr, .none, [⟨"VALUE", 31, 0, .ro, .num 0, false⟩]⟩,
  ⟨"EVR_COMMITS", 0x20001C, [], .evr, .none, [⟨"VALUE", 31, 0, .ro, .num 0, false⟩]⟩,
  ⟨"EVR_CHAN_CFG", 0x201000, [(256, 0x10)], .evch, .none, [⟨"OWNER", 2, 0, .ro, .fuse, false⟩, ⟨"ATTR", 4, 3, .ro, .fuse, false⟩, ⟨"ENABLE", 8, 8, .rw, .ret 1, false⟩, ⟨"AO", 9, 9, .rw, .ret 0, false⟩, ⟨"WAKE", 10, 10, .rw, .ret 0, false⟩, ⟨"RATE_MAX", 25, 16, .rw, .ret 64, false⟩]⟩,
  ⟨"EVR_CHAN_STATUS", 0x201004, [(256, 0x10)], .evch, .none, [⟨"RATE_TRIP", 0, 0, .w1c, .num 0, false⟩, ⟨"IN_USE", 1, 1, .ro, .num 0, false⟩]⟩,
  ⟨"EVR_CHAN_EVENTS", 0x201008, [(256, 0x10)], .evch, .none, [⟨"VALUE", 31, 0, .ro, .num 0, false⟩]⟩,
  ⟨"EVR_CHAN_MERGED", 0x20100C, [(256, 0x10)], .evch, .none, [⟨"VALUE", 31, 0, .ro, .num 0, false⟩]⟩,
  ⟨"EVR_CELL_CFG", 0x202000, [(64, 0x20)], .evcell, .evcell, [⟨"LUT", 15, 0, .rw, .ret 0, false⟩, ⟨"REG", 16, 16, .rw, .ret 0, false⟩, ⟨"CLK", 17, 17, .rw, .ret 0, false⟩, ⟨"FEEDBACK", 18, 18, .rw, .ret 0, false⟩, ⟨"INIT", 19, 19, .rw, .ret 0, false⟩, ⟨"OUT_MODE", 21, 20, .rw, .ret 0, false⟩, ⟨"FILT", 25, 22, .rw, .ret 0, false⟩, ⟨"EN", 26, 26, .rw, .ret 0, false⟩]⟩,
  ⟨"EVR_CELL_IN", 0x202004, [(64, 0x20)], .evcell, .evcell, [⟨"IN0", 7, 0, .rw, .ret 0, false⟩, ⟨"IN1", 15, 8, .rw, .ret 0, false⟩, ⟨"IN2", 23, 16, .rw, .ret 0, false⟩, ⟨"IN3", 31, 24, .rw, .ret 0, false⟩]⟩,
  ⟨"EVR_CELL_OUT", 0x202008, [(64, 0x20)], .evcell, .evcell, [⟨"CHANNEL", 7, 0, .rw, .ret 0, false⟩, ⟨"ALLOC", 8, 8, .rw, .ret 0, false⟩]⟩,
  ⟨"EVR_CELL_CFG_A", 0x20200C, [(64, 0x20)], .evcell, .none, [⟨"LUT", 15, 0, .ro, .ret 0, false⟩, ⟨"REG", 16, 16, .ro, .ret 0, false⟩, ⟨"CLK", 17, 17, .ro, .ret 0, false⟩, ⟨"FEEDBACK", 18, 18, .ro, .ret 0, false⟩, ⟨"INIT", 19, 19, .ro, .ret 0, false⟩, ⟨"OUT_MODE", 21, 20, .ro, .ret 0, false⟩, ⟨"FILT", 25, 22, .ro, .ret 0, false⟩, ⟨"EN", 26, 26, .ro, .ret 0, false⟩]⟩,
  ⟨"EVR_CELL_IN_A", 0x202010, [(64, 0x20)], .evcell, .none, [⟨"IN0", 7, 0, .ro, .ret 0, false⟩, ⟨"IN1", 15, 8, .ro, .ret 0, false⟩, ⟨"IN2", 23, 16, .ro, .ret 0, false⟩, ⟨"IN3", 31, 24, .ro, .ret 0, false⟩]⟩,
  ⟨"EVR_CELL_OUT_A", 0x202014, [(64, 0x20)], .evcell, .none, [⟨"CHANNEL", 7, 0, .ro, .ret 0, false⟩, ⟨"ALLOC", 8, 8, .ro, .ret 0, false⟩]⟩,
  ⟨"EVR_CELL_STATE", 0x202018, [(64, 0x20)], .evcell, .evcell, [⟨"Q", 0, 0, .ro, .num 0, false⟩, ⟨"OWNER", 3, 1, .rl, .ret 0, false⟩]⟩,
  ⟨"EVR_CELL_FIRES", 0x20201C, [(64, 0x20)], .evcell, .evcell, [⟨"VALUE", 31, 0, .ro, .num 0, false⟩]⟩]

/-- Registers of the EVR block, part 2. -/
def RegMap.evr2 : List RegDesc := [
  ⟨"EVR_PUB", 0x203000, [(64, 0x8)], .evpub, .none, [⟨"SRC", 9, 0, .rw, .ret 0, false⟩, ⟨"EN", 10, 10, .rw, .ret 0, false⟩, ⟨"ALLOC", 11, 11, .rw, .ret 0, false⟩, ⟨"CHANNEL", 23, 16, .rw, .ret 0, false⟩]⟩,
  ⟨"EVR_PUB_A", 0x203004, [(64, 0x8)], .evpub, .none, [⟨"SRC", 9, 0, .ro, .ret 0, false⟩, ⟨"EN", 10, 10, .ro, .ret 0, false⟩, ⟨"ALLOC", 11, 11, .ro, .ret 0, false⟩, ⟨"CHANNEL", 23, 16, .ro, .ret 0, false⟩]⟩]

/-- Registers of the EVR block. -/
def RegMap.evr : List RegDesc := RegMap.evr1 ++ RegMap.evr2

/-- Registers of the TIM block, part 1. -/
def RegMap.tim1 : List RegDesc := [
  ⟨"TIM_STATUS", 0x300000, [], .all, .none, [⟨"REF_OK", 0, 0, .ro, .num 0, false⟩, ⟨"PLL_LOCK", 1, 1, .ro, .num 0, false⟩, ⟨"ALIGNED", 2, 2, .ro, .num 0, false⟩, ⟨"ANCHORED", 7, 3, .ro, .num 0, false⟩, ⟨"WALL_STATE", 9, 8, .ro, .num 0, false⟩]⟩,
  ⟨"TIM_CTRL", 0x300004, [], .pf0, .anyRun, [⟨"MASTER", 0, 0, .rl, .ret 0, false⟩, ⟨"LINK_OUT_EN", 1, 1, .rw, .ret 0, false⟩, ⟨"LINK_COMP", 7, 4, .rl, .ret 0, false⟩, ⟨"PPS_OUT_EN", 8, 8, .rw, .ret 0, false⟩, ⟨"REF_OUT_A_EN", 9, 9, .rw, .ret 0, false⟩, ⟨"REF_OUT_B_EN", 10, 10, .rw, .ret 0, false⟩, ⟨"TENMHZ_OUT_EN", 11, 11, .rw, .ret 0, false⟩]⟩,
  ⟨"TIM_SKEW", 0x300008, [], .pf0, .anyRun, [⟨"SKEW", 11, 0, .rl, .ret 0, false⟩]⟩,
  ⟨"TIM_EVENTS", 0x30000C, [], .pf0, .none, [⟨"REF_LOST", 0, 0, .w1c, .num 0, false⟩, ⟨"REF_RESTORED", 1, 1, .w1c, .num 0, false⟩, ⟨"ANCHOR_CRC", 2, 2, .w1c, .num 0, false⟩, ⟨"ALIGN_RETRY", 3, 3, .w1c, .num 0, false⟩, ⟨"ALIGN_FAIL", 4, 4, .w1c, .num 0, false⟩, ⟨"WALL_STEP", 5, 5, .w1c, .num 0, false⟩, ⟨"WALL_BIG_OFFSET", 6, 6, .w1c, .num 0, false⟩, ⟨"WALL_HOLDOVER", 7, 7, .w1c, .num 0, false⟩, ⟨"CTRL_REFUSED", 8, 8, .w1c, .num 0, false⟩]⟩,
  ⟨"TIM_LOCKED_WRITES", 0x300010, [], .pf0, .none, [⟨"COUNT", 31, 0, .ro, .num 0, false⟩]⟩,
  ⟨"TIM_BUSY_REJECTS", 0x300014, [], .pf0, .none, [⟨"COUNT", 31, 0, .ro, .num 0, false⟩]⟩,
  ⟨"TIM_IGNORED_ANCHORS", 0x300018, [], .pf0, .none, [⟨"COUNT", 31, 0, .ro, .num 0, false⟩]⟩,
  ⟨"TIM_ANCHOR_CRC_ERRORS", 0x30001C, [], .pf0, .none, [⟨"COUNT", 31, 0, .ro, .num 0, false⟩]⟩,
  ⟨"TD_TEXP_LO", 0x300100, [(5, 0x20)], .dom, .none, [⟨"VALUE", 31, 0, .ro, .num 0, false⟩]⟩,
  ⟨"TD_TEXP_HI", 0x300104, [(5, 0x20)], .dom, .none, [⟨"VALUE", 31, 0, .ro, .num 0, false⟩]⟩,
  ⟨"TD_STATE", 0x300108, [(5, 0x20)], .dom, .none, [⟨"ANCHORED", 0, 0, .ro, .num 0, false⟩, ⟨"EPOCH", 7, 4, .ro, .num 0, false⟩]⟩,
  ⟨"TD_ANCHOR_LO", 0x30010C, [(5, 0x20)], .dom, .none, [⟨"VALUE", 31, 0, .rw, .num 0, false⟩]⟩,
  ⟨"TD_ANCHOR_HI", 0x300110, [(5, 0x20)], .dom, .none, [⟨"VALUE", 31, 0, .rw, .num 0, false⟩]⟩,
  ⟨"TD_CTRL", 0x300114, [(5, 0x20)], .dom, .none, [⟨"ANCHOR", 0, 0, .wo, .num 0, false⟩, ⟨"PROPAGATE", 1, 1, .wo, .num 0, false⟩, ⟨"RELEASE", 2, 2, .wo, .num 0, false⟩]⟩,
  ⟨"TIM_WALL_SEC_LO", 0x300200, [], .all, .none, [⟨"VALUE", 31, 0, .ro, .num 0, false⟩]⟩,
  ⟨"TIM_WALL_SEC_HI", 0x300204, [], .all, .none, [⟨"VALUE", 15, 0, .ro, .num 0, false⟩]⟩,
  ⟨"TIM_WALL_NS", 0x300208, [], .all, .none, [⟨"VALUE", 29, 0, .ro, .num 0, false⟩]⟩,
  ⟨"TIM_WALL_RATE", 0x30020C, [], .all, .none, [⟨"VALUE", 31, 0, .ro, .num 0, false⟩]⟩,
  ⟨"TIM_WALL_OFFSET", 0x300210, [], .all, .none, [⟨"VALUE", 31, 0, .ro, .num 0, false⟩]⟩,
  ⟨"TIM_PTP_CFG", 0x300214, [], .all, .none, [⟨"ENABLE", 0, 0, .rw, .ret 0, true⟩, ⟨"TRANSPORT", 2, 1, .rw, .ret 0, true⟩, ⟨"DOMAIN_NUMBER", 15, 8, .rw, .ret 0, true⟩]⟩]

/-- Registers of the TIM block, part 2. -/
def RegMap.tim2 : List RegDesc := [
  ⟨"TTU_CTRL", 0x301000, [(32, 0x20)], .ttu, .none, [⟨"ENABLE", 0, 0, .rw, .ret 0, false⟩, ⟨"PERIODIC", 1, 1, .rw, .ret 0, false⟩, ⟨"SOURCE", 4, 2, .rw, .ret 0, false⟩, ⟨"CHANNEL", 15, 8, .rw, .ret 0, false⟩, ⟨"WAKE", 16, 16, .rw, .ret 0, false⟩]⟩,
  ⟨"TTU_TARGET_LO", 0x301004, [(32, 0x20)], .ttu, .none, [⟨"VALUE", 31, 0, .rw, .ret 0, false⟩]⟩,
  ⟨"TTU_TARGET_HI", 0x301008, [(32, 0x20)], .ttu, .none, [⟨"VALUE", 31, 0, .rw, .ret 0, false⟩]⟩,
  ⟨"TTU_PERIOD_LO", 0x30100C, [(32, 0x20)], .ttu, .none, [⟨"VALUE", 31, 0, .rw, .ret 0, false⟩]⟩,
  ⟨"TTU_PERIOD_HI", 0x301010, [(32, 0x20)], .ttu, .none, [⟨"VALUE", 31, 0, .rw, .ret 0, false⟩]⟩,
  ⟨"TTU_STATUS", 0x301014, [(32, 0x20)], .ttu, .none, [⟨"FIRED", 0, 0, .w1c, .num 0, false⟩, ⟨"LATE", 1, 1, .w1c, .num 0, false⟩, ⟨"FIRE_COUNT", 31, 16, .ro, .num 0, false⟩]⟩,
  ⟨"TCU_CTRL", 0x302000, [(16, 0x20)], .tcu, .none, [⟨"ENABLE", 0, 0, .rw, .num 0, false⟩, ⟨"SOURCE", 3, 1, .rw, .num 0, false⟩, ⟨"INPUT_KIND", 4, 4, .rw, .num 0, false⟩, ⟨"INPUT", 15, 8, .rw, .num 0, false⟩, ⟨"EDGE", 16, 16, .rw, .num 0, false⟩]⟩,
  ⟨"TCU_TIME_LO", 0x302004, [(16, 0x20)], .tcu, .none, [⟨"VALUE", 31, 0, .ro, .num 0, false⟩]⟩,
  ⟨"TCU_TIME_HI", 0x302008, [(16, 0x20)], .tcu, .none, [⟨"VALUE", 31, 0, .ro, .num 0, false⟩]⟩,
  ⟨"TCU_STATUS", 0x30200C, [(16, 0x20)], .tcu, .none, [⟨"FRAC", 3, 0, .ro, .num 0, false⟩, ⟨"FRAC_VALID", 4, 4, .ro, .num 0, false⟩, ⟨"VALID", 5, 5, .ro, .num 0, false⟩, ⟨"OVERRUN", 6, 6, .w1c, .num 0, false⟩, ⟨"COALESCED", 31, 16, .ro, .num 0, false⟩]⟩]

/-- Registers of the TIM block. -/
def RegMap.tim : List RegDesc := RegMap.tim1 ++ RegMap.tim2

/-- Registers of the PWR and THM block, part 1. -/
def RegMap.pwr1 : List RegDesc := [
  ⟨"PWR_STATUS", 0x400000, [], .pwr, .none, [⟨"STATE", 2, 0, .ro, .num 0, false⟩, ⟨"START_STEP", 7, 4, .ro, .num 0, false⟩, ⟨"SETTINGS_SRC", 9, 8, .ro, .num 0, false⟩, ⟨"ENABLE_IN", 10, 10, .ro, .num 0, false⟩, ⟨"POWER_GOOD", 11, 11, .ro, .num 0, false⟩, ⟨"OVER_RANGE", 12, 12, .ro, .num 0, false⟩, ⟨"SHEDDING", 13, 13, .ro, .num 0, false⟩]⟩,
  ⟨"PWR_EVENTS", 0x400004, [], .pwr, .none, [⟨"INPUT_SAG", 0, 0, .w1c, .num 0, false⟩, ⟨"INPUT_FAIL", 1, 1, .w1c, .num 0, false⟩, ⟨"SHED", 2, 2, .w1c, .num 0, false⟩, ⟨"RESTORED", 3, 3, .w1c, .num 0, false⟩, ⟨"SETTINGS_LOST", 4, 4, .w1c, .num 0, false⟩, ⟨"FACTORY_SETTINGS", 5, 5, .w1c, .num 0, false⟩, ⟨"BANK_REFUSED", 6, 6, .w1c, .num 0, false⟩, ⟨"WAKE_REFUSED", 7, 7, .w1c, .num 0, false⟩]⟩,
  ⟨"PWR_VIN", 0x400008, [], .pwr, .none, [⟨"VIN", 15, 0, .ro, .num 0, false⟩]⟩,
  ⟨"PWR_IIN", 0x40000C, [], .pwr, .none, [⟨"IIN", 15, 0, .ro, .num 0, false⟩]⟩,
  ⟨"PWR_ENVELOPE", 0x400010, [], .pwr, .none, [⟨"ENVELOPE", 15, 0, .ro, .num 0, false⟩]⟩,
  ⟨"PWR_COMMITTED", 0x400014, [], .pwr, .none, [⟨"COMMITTED", 15, 0, .ro, .num 0, false⟩]⟩,
  ⟨"PWR_MEASURED", 0x400018, [], .pwr, .none, [⟨"MEASURED", 15, 0, .ro, .num 0, false⟩]⟩,
  ⟨"PWR_CAP", 0x40001C, [], .pwr, .none, [⟨"CAP", 15, 0, .rw, .ret 5600, false⟩]⟩,
  ⟨"PWR_CFG", 0x400020, [], .pwr, .none, [⟨"AUTOSAVE", 7, 0, .rw, .ret 10, false⟩, ⟨"PROOF_ON_DISABLE", 8, 8, .rw, .ret 1, false⟩]⟩,
  ⟨"PWR_SHED_RANK", 0x400024, [], .pwr, .none, [⟨"RANK", 14, 0, .rw, .ret 0, false⟩]⟩,
  ⟨"PWR_CTRL", 0x400028, [], .pwr, .none, [⟨"BANK", 0, 0, .wo, .num 0, false⟩, ⟨"WAKE", 1, 1, .wo, .num 0, false⟩, ⟨"SAVE", 2, 2, .wo, .num 0, false⟩]⟩,
  ⟨"PWR_REFUSALS", 0x400030, [], .pf0, .none, [⟨"COUNT", 31, 0, .ro, .num 0, false⟩]⟩,
  ⟨"PWR_SHEDS", 0x400034, [], .pf0, .none, [⟨"COUNT", 31, 0, .ro, .num 0, false⟩]⟩,
  ⟨"PWR_RESTORES", 0x400038, [], .pf0, .none, [⟨"COUNT", 31, 0, .ro, .num 0, false⟩]⟩,
  ⟨"PWR_SAVES", 0x40003C, [], .pf0, .none, [⟨"COUNT", 31, 0, .ro, .num 0, false⟩]⟩,
  ⟨"PWR_BANKED_ACCESSES", 0x400040, [], .pf0, .none, [⟨"COUNT", 31, 0, .ro, .num 0, false⟩]⟩,
  ⟨"PWR_LOCKED_WRITES", 0x400044, [], .pf0, .none, [⟨"COUNT", 31, 0, .ro, .num 0, false⟩]⟩,
  ⟨"PWR_BUSY_REJECTS", 0x400048, [], .pf0, .none, [⟨"COUNT", 31, 0, .ro, .num 0, false⟩]⟩,
  ⟨"THM_STATUS", 0x408000, [], .pf0, .none, [⟨"LEVEL", 1, 0, .ro, .num 0, false⟩, ⟨"FAST", 2, 2, .ro, .num 0, false⟩, ⟨"BROKEN_ANY", 3, 3, .ro, .num 0, false⟩, ⟨"HOTTEST", 14, 8, .ro, .num 0, false⟩]⟩,
  ⟨"THM_EVENTS", 0x408004, [], .pf0, .none, [⟨"WARNING", 0, 0, .w1c, .num 0, false⟩, ⟨"THROTTLE", 1, 1, .w1c, .num 0, false⟩, ⟨"SHUTDOWN", 2, 2, .w1c, .num 0, false⟩, ⟨"SENSOR_BROKEN", 3, 3, .w1c, .num 0, false⟩]⟩]

/-- Registers of the PWR and THM block, part 2. -/
def RegMap.pwr2 : List RegDesc := [
  ⟨"THM_MAX", 0x408008, [], .pf0, .none, [⟨"MAX", 15, 0, .ro, .num 0, false⟩]⟩,
  ⟨"THM_CAP", 0x40800C, [], .pf0, .none, [⟨"CAP", 15, 0, .ro, .num 5600, false⟩]⟩,
  ⟨"THM_SNAPSHOTS", 0x408010, [], .pf0, .none, [⟨"VALUE", 31, 0, .ro, .ret 0, false⟩]⟩,
  ⟨"THM_SENSOR", 0x408100, [(96, 0x4)], .pf0, .none, [⟨"TEMP", 15, 0, .ro, .num 0, false⟩, ⟨"BROKEN", 16, 16, .ro, .num 0, false⟩, ⟨"CLASS", 19, 17, .ro, .fuse, false⟩, ⟨"LEVEL", 21, 20, .ro, .num 0, false⟩]⟩]

/-- Registers of the PWR and THM block. -/
def RegMap.pwr : List RegDesc := RegMap.pwr1 ++ RegMap.pwr2

/-- Registers of the SEC block, part 1. -/
def RegMap.sec1 : List RegDesc := [
  ⟨"SEC_STATUS", 0x500000, [], .pf0, .none, [⟨"LIFECYCLE", 3, 0, .ro, .fuse, false⟩, ⟨"KEY_VALID", 4, 4, .ro, .num 0, false⟩, ⟨"FW_FALLBACK", 5, 5, .w1c, .num 0, false⟩, ⟨"FUSE_PENDING", 6, 6, .ro, .num 0, false⟩, ⟨"REJECT", 7, 7, .w1c, .num 0, false⟩, ⟨"BURN_FAIL", 8, 8, .w1c, .num 0, false⟩, ⟨"PMAP_FAULT", 9, 9, .w1c, .num 0, false⟩, ⟨"LC_INVALID", 10, 10, .ro, .fuse, false⟩, ⟨"RECOVERY", 11, 11, .ro, .num 0, false⟩, ⟨"CUST_VALID", 12, 12, .ro, .fuse, false⟩, ⟨"CUST_REQUIRED", 13, 13, .ro, .fuse, false⟩]⟩,
  ⟨"SEC_FW_SLOT", 0x500004, [], .pf0, .none, [⟨"RUNNING", 0, 0, .ro, .num 0, false⟩, ⟨"A_VALID", 1, 1, .ro, .num 0, false⟩, ⟨"B_VALID", 2, 2, .ro, .num 0, false⟩]⟩,
  ⟨"SEC_SVN", 0x500008, [], .pf0, .none, [⟨"SVN_FW", 7, 0, .ro, .num 0, false⟩, ⟨"MIN_FW", 15, 8, .ro, .fuse, false⟩, ⟨"MIN_PATCH", 23, 16, .ro, .fuse, false⟩, ⟨"MIN_CAL", 31, 24, .ro, .fuse, false⟩]⟩,
  ⟨"SEC_GEN", 0x50000C, [], .pf0, .none, [⟨"PMAP_USED", 2, 0, .ro, .fuse, false⟩, ⟨"PMAP_GOV", 5, 3, .ro, .fuse, false⟩, ⟨"EVMAP_USED", 8, 6, .ro, .fuse, false⟩, ⟨"EVMAP_GOV", 11, 9, .ro, .fuse, false⟩]⟩,
  ⟨"SEC_JTAG", 0x500010, [], .pf0, .none, [⟨"EXTEST_EN", 0, 0, .rw, .num 0, false⟩]⟩,
  ⟨"SEC_LOCKED_WRITES", 0x500014, [], .pf0, .none, [⟨"VALUE", 31, 0, .ro, .num 0, false⟩]⟩,
  ⟨"SEC_BUSY_REJECTS", 0x500018, [], .pf0, .none, [⟨"VALUE", 31, 0, .ro, .num 0, false⟩]⟩,
  ⟨"SEC_REJECTS", 0x50001C, [], .pf0, .none, [⟨"VALUE", 31, 0, .ro, .num 0, false⟩]⟩,
  ⟨"SEC_ATTESTS", 0x500020, [], .pf0, .none, [⟨"VALUE", 31, 0, .ro, .num 0, false⟩]⟩]

/-- Registers of the SEC block. -/
def RegMap.sec : List RegDesc := RegMap.sec1

/-- Registers of the HIF block, part 1. -/
def RegMap.hif1 : List RegDesc := [
  ⟨"HIF_LINK", 0x600000, [], .pf0, .none, [⟨"SPEED", 2, 0, .ro, .num 0, false⟩, ⟨"WIDTH", 6, 3, .ro, .num 0, false⟩, ⟨"DL_UP", 7, 7, .ro, .num 0, false⟩]⟩,
  ⟨"HIF_PCI_ID", 0x600004, [], .pf0, .none, [⟨"VENDOR", 15, 0, .ro, .fuse, false⟩, ⟨"CODE", 17, 16, .ro, .fuse, false⟩]⟩,
  ⟨"HIF_LINK_DOWNS", 0x600008, [], .pf0, .none, [⟨"VALUE", 31, 0, .ro, .num 0, false⟩]⟩,
  ⟨"HIF_DMA_ERRORS", 0x60000C, [], .pf0, .none, [⟨"VALUE", 31, 0, .ro, .num 0, false⟩]⟩,
  ⟨"HIF_LOCKED_WRITES", 0x600010, [], .pf0, .none, [⟨"VALUE", 31, 0, .ro, .num 0, false⟩]⟩,
  ⟨"HIF_BUSY_REJECTS", 0x600014, [], .pf0, .none, [⟨"VALUE", 31, 0, .ro, .num 0, false⟩]⟩,
  ⟨"HIF_INFLIGHT", 0x600018, [], .pf0, .none, [⟨"EXECUTING", 4, 0, .ro, .num 0, false⟩, ⟨"FETCHED", 14, 8, .ro, .num 0, false⟩]⟩,
  ⟨"HIF_FN_REJECT_ADDR", 0x600200, [(5, 0x20)], .fn, .none, [⟨"ADDR", 25, 0, .ro, .num 0, false⟩]⟩,
  ⟨"HIF_FN_REJECT_STATUS", 0x600204, [(5, 0x20)], .fn, .none, [⟨"STATUS", 15, 0, .ro, .num 0, false⟩]⟩,
  ⟨"HIF_FN_DENIED", 0x600208, [(5, 0x20)], .fn, .none, [⟨"VALUE", 31, 0, .ro, .num 0, false⟩]⟩,
  ⟨"HIF_FN_TAGS", 0x60020C, [(5, 0x20)], .fn, .none, [⟨"OUTSTANDING", 16, 0, .ro, .num 0, false⟩]⟩,
  ⟨"HIF_FN_DUP_TAGS", 0x600210, [(5, 0x20)], .fn, .none, [⟨"VALUE", 31, 0, .ro, .num 0, false⟩]⟩,
  ⟨"HIF_Q_OWNER", 0x600400, [(64, 0x4)], .pf0, .qown, [⟨"FN", 2, 0, .rl, .ret 0, false⟩]⟩,
  ⟨"SQ_BASE_LO", 0x601000, [(64, 0x20)], .queue, .queue, [⟨"BASE_LO", 31, 12, .rl, .num 0, false⟩]⟩,
  ⟨"SQ_BASE_HI", 0x601004, [(64, 0x20)], .queue, .queue, [⟨"BASE_HI", 31, 0, .rl, .num 0, false⟩]⟩,
  ⟨"SQ_SIZE", 0x601008, [(64, 0x20)], .queue, .queue, [⟨"LOG2", 4, 0, .rl, .num 0, false⟩]⟩,
  ⟨"SQ_CTRL", 0x60100C, [(64, 0x20)], .queue, .queue, [⟨"ENABLE", 0, 0, .rw, .num 0, false⟩, ⟨"CQ", 13, 8, .rl, .num 0, false⟩, ⟨"WEIGHT", 19, 16, .rw, .num 0, false⟩]⟩,
  ⟨"SQ_HEAD", 0x601010, [(64, 0x20)], .queue, .queue, [⟨"HEAD", 15, 0, .ro, .num 0, false⟩, ⟨"IDLE", 16, 16, .ro, .num 1, false⟩]⟩,
  ⟨"SQ_STATUS", 0x601014, [(64, 0x20)], .queue, .queue, [⟨"BAD_DOORBELL", 0, 0, .w1c, .num 0, false⟩, ⟨"BAD_PACKET", 1, 1, .w1c, .num 0, false⟩, ⟨"BAD_BIND", 2, 2, .w1c, .num 0, false⟩, ⟨"DMA_ERROR", 3, 3, .w1c, .num 0, false⟩]⟩,
  ⟨"SQ_PACKETS", 0x601018, [(64, 0x20)], .queue, .queue, [⟨"VALUE", 31, 0, .ro, .num 0, false⟩]⟩]

/-- Registers of the HIF block, part 2. -/
def RegMap.hif2 : List RegDesc := [
  ⟨"CQ_BASE_LO", 0x602000, [(64, 0x20)], .queue, .queue, [⟨"BASE_LO", 31, 12, .rl, .num 0, false⟩]⟩,
  ⟨"CQ_BASE_HI", 0x602004, [(64, 0x20)], .queue, .queue, [⟨"BASE_HI", 31, 0, .rl, .num 0, false⟩]⟩,
  ⟨"CQ_SIZE", 0x602008, [(64, 0x20)], .queue, .queue, [⟨"LOG2", 4, 0, .rl, .num 0, false⟩]⟩,
  ⟨"CQ_CTRL", 0x60200C, [(64, 0x20)], .queue, .queue, [⟨"ENABLE", 0, 0, .rl, .num 0, false⟩, ⟨"VECTOR", 12, 8, .rw, .num 0, false⟩]⟩,
  ⟨"CQ_TAIL", 0x602010, [(64, 0x20)], .queue, .queue, [⟨"TAIL", 15, 0, .ro, .num 0, false⟩, ⟨"PHASE", 16, 16, .ro, .num 0, false⟩]⟩,
  ⟨"CQ_STATUS", 0x602014, [(64, 0x20)], .queue, .queue, [⟨"BAD_DOORBELL", 0, 0, .w1c, .num 0, false⟩, ⟨"DMA_ERROR", 1, 1, .w1c, .num 0, false⟩, ⟨"FULL", 2, 2, .ro, .num 0, false⟩]⟩,
  ⟨"CQ_FULL_STALLS", 0x602018, [(64, 0x20)], .queue, .queue, [⟨"VALUE", 31, 0, .ro, .num 0, false⟩]⟩]

/-- Registers of the HIF block. -/
def RegMap.hif : List RegDesc := RegMap.hif1 ++ RegMap.hif2

/-- Registers of the FAB block, part 1. -/
def RegMap.fab1 : List RegDesc := [
  ⟨"FAB_CTRL", 0x700000, [], .fab, .fab, [⟨"ENABLE", 0, 0, .rl, .ret 0, false⟩, ⟨"ROOT", 1, 1, .rl, .ret 0, false⟩, ⟨"ADDR_PREF", 7, 2, .rl, .ret 0, false⟩, ⟨"PREF_VALID", 8, 8, .rl, .ret 0, false⟩, ⟨"AUTO_REROUTE", 9, 9, .rw, .ret 1, false⟩, ⟨"ROUTE_MANUAL", 10, 10, .rl, .ret 0, false⟩]⟩,
  ⟨"FAB_STATUS", 0x700004, [], .fab, .fab, [⟨"NODE", 5, 0, .ro, .num 0, false⟩, ⟨"ADDR_VALID", 6, 6, .ro, .num 0, false⟩, ⟨"REFUSED", 7, 7, .ro, .num 0, false⟩]⟩,
  ⟨"FAB_MODULE_ID_LO", 0x700008, [], .fab, .fab, [⟨"VALUE", 31, 0, .ro, .fuse, false⟩]⟩,
  ⟨"FAB_MODULE_ID_HI", 0x70000C, [], .fab, .fab, [⟨"VALUE", 15, 0, .ro, .fuse, false⟩]⟩,
  ⟨"FAB_EVENTS", 0x700010, [], .fab, .fab, [⟨"PORT_DOWN", 0, 0, .w1c, .num 0, false⟩, ⟨"PORT_UP", 1, 1, .w1c, .num 0, false⟩, ⟨"LANE_RETIRED", 2, 2, .w1c, .num 0, false⟩, ⟨"PEER_CHANGED", 3, 3, .w1c, .num 0, false⟩, ⟨"NODE_REFUSED", 4, 4, .w1c, .num 0, false⟩, ⟨"ROUTE_CHANGED", 5, 5, .w1c, .num 0, false⟩, ⟨"TWIN_TAKEOVER", 6, 6, .w1c, .num 0, false⟩, ⟨"TWIN_DIVERGED", 7, 7, .w1c, .num 0, false⟩, ⟨"TWIN_LOST", 8, 8, .w1c, .num 0, false⟩]⟩,
  ⟨"FAB_LOCKED_WRITES", 0x700014, [], .pf0, .none, [⟨"COUNT", 31, 0, .ro, .num 0, false⟩]⟩,
  ⟨"FAB_BUSY_REJECTS", 0x700018, [], .pf0, .none, [⟨"COUNT", 31, 0, .ro, .num 0, false⟩]⟩,
  ⟨"FAB_DISCARDS", 0x70001C, [], .pf0, .none, [⟨"COUNT", 31, 0, .ro, .num 0, false⟩]⟩,
  ⟨"FAB_STALE", 0x700020, [], .pf0, .none, [⟨"COUNT", 31, 0, .ro, .num 0, false⟩]⟩,
  ⟨"FAB_LANE_CFG", 0x701000, [(32, 0x20)], .pf0, .lane, [⟨"TX_EN", 0, 0, .rw, .ret 1, false⟩, ⟨"RX_EN", 1, 1, .rw, .ret 1, false⟩, ⟨"TX_INVERT", 4, 4, .rw, .ret 0, false⟩, ⟨"RX_INVERT", 5, 5, .rw, .ret 0, false⟩, ⟨"AUTO_SLIP", 6, 6, .rw, .ret 1, false⟩, ⟨"PEAK", 11, 8, .rw, .ret 6, false⟩, ⟨"TX_SLEEP", 2, 2, .rw, .ret 0, false⟩, ⟨"RX_SLEEP", 3, 3, .rw, .ret 0, false⟩]⟩,
  ⟨"FAB_LANE_CTRL", 0x701004, [(32, 0x20)], .pf0, .lane, [⟨"SLIP", 0, 0, .wo, .num 0, false⟩, ⟨"RETRAIN", 1, 1, .wo, .num 0, false⟩]⟩,
  ⟨"FAB_LANE_STATUS", 0x701008, [(32, 0x20)], .pf0, .lane, [⟨"RX_STATE", 2, 0, .ro, .num 0, false⟩, ⟨"TX_STATE", 4, 3, .ro, .num 0, false⟩, ⟨"LOS", 5, 5, .ro, .num 0, false⟩, ⟨"LOL", 6, 6, .ro, .num 0, false⟩, ⟨"MARK_OK", 7, 7, .ro, .num 0, false⟩, ⟨"SLIP_POS", 14, 8, .ro, .num 0, false⟩]⟩,
  ⟨"FAB_LANE_LOCK_LOSSES", 0x70100C, [(32, 0x20)], .pf0, .lane, [⟨"VALUE", 31, 0, .ro, .num 0, false⟩]⟩,
  ⟨"FAB_LANE_STUFF_ERRORS", 0x701010, [(32, 0x20)], .pf0, .lane, [⟨"VALUE", 31, 0, .ro, .num 0, false⟩]⟩,
  ⟨"FAB_LANE_MARK_ERRORS", 0x701014, [(32, 0x20)], .pf0, .lane, [⟨"VALUE", 31, 0, .ro, .num 0, false⟩]⟩,
  ⟨"FAB_PORT_CTRL", 0x702000, [(8, 0x40)], .pf0, .fab, [⟨"ENABLE", 0, 0, .rl, .ret 0, false⟩]⟩,
  ⟨"FAB_PORT_STATUS", 0x702004, [(8, 0x40)], .pf0, .fab, [⟨"STATE", 1, 0, .ro, .num 0, false⟩, ⟨"TX_WIDTH", 4, 2, .ro, .num 0, false⟩, ⟨"RX_WIDTH", 7, 5, .ro, .num 0, false⟩, ⟨"TX_LANES", 11, 8, .ro, .num 0, false⟩, ⟨"RX_LANES", 15, 12, .ro, .num 0, false⟩, ⟨"PEER_NODE", 21, 16, .ro, .num 0, false⟩, ⟨"PEER_TWIN", 22, 22, .ro, .num 0, false⟩, ⟨"PEER_VALID", 23, 23, .ro, .num 0, false⟩, ⟨"TWIN_LINK", 24, 24, .ro, .num 0, false⟩]⟩,
  ⟨"FAB_PORT_PEER_LO", 0x702008, [(8, 0x40)], .pf0, .fab, [⟨"VALUE", 31, 0, .ro, .num 0, false⟩]⟩,
  ⟨"FAB_PORT_PEER_HI", 0x70200C, [(8, 0x40)], .pf0, .fab, [⟨"VALUE", 15, 0, .ro, .num 0, false⟩]⟩,
  ⟨"FAB_PORT_TX_WORDS_LO", 0x702010, [(8, 0x40)], .pf0, .fab, [⟨"VALUE", 31, 0, .ro, .num 0, false⟩]⟩]

/-- Registers of the FAB block, part 2. -/
def RegMap.fab2 : List RegDesc := [
  ⟨"FAB_PORT_TX_WORDS_HI", 0x702014, [(8, 0x40)], .pf0, .fab, [⟨"VALUE", 31, 0, .ro, .num 0, false⟩]⟩,
  ⟨"FAB_PORT_RX_WORDS_LO", 0x702018, [(8, 0x40)], .pf0, .fab, [⟨"VALUE", 31, 0, .ro, .num 0, false⟩]⟩,
  ⟨"FAB_PORT_RX_WORDS_HI", 0x70201C, [(8, 0x40)], .pf0, .fab, [⟨"VALUE", 31, 0, .ro, .num 0, false⟩]⟩,
  ⟨"FAB_PORT_CRC_ERRORS", 0x702020, [(8, 0x40)], .pf0, .fab, [⟨"VALUE", 31, 0, .ro, .num 0, false⟩]⟩,
  ⟨"FAB_PORT_RETRANSMITS", 0x702024, [(8, 0x40)], .pf0, .fab, [⟨"VALUE", 31, 0, .ro, .num 0, false⟩]⟩,
  ⟨"FAB_PORT_DISCARDS", 0x702028, [(8, 0x40)], .pf0, .fab, [⟨"VALUE", 31, 0, .ro, .num 0, false⟩]⟩,
  ⟨"FAB_PORT_DOWNS", 0x70202C, [(8, 0x40)], .pf0, .fab, [⟨"VALUE", 31, 0, .ro, .num 0, false⟩]⟩,
  ⟨"FAB_PORT_QUEUE_MAX", 0x702030, [(8, 0x40)], .pf0, .fab, [⟨"VALUE", 31, 0, .ro, .num 0, false⟩]⟩,
  ⟨"FAB_ROUTE", 0x703000, [(64, 0x4)], .fabr, .fabr, [⟨"PORT_A", 2, 0, .rl, .num 0, false⟩, ⟨"HOPS_A", 6, 3, .rl, .num 15, false⟩, ⟨"PORT_B", 10, 8, .rl, .num 0, false⟩, ⟨"HOPS_B", 14, 11, .rl, .num 15, false⟩]⟩,
  ⟨"FAB_PART_NODES_LO", 0x703100, [(5, 0x8)], .fabr, .fabr, [⟨"VALUE", 31, 0, .rl, .ret 0, true⟩]⟩,
  ⟨"FAB_PART_NODES_HI", 0x703104, [(5, 0x8)], .fabr, .fabr, [⟨"VALUE", 31, 0, .rl, .ret 0, true⟩]⟩,
  ⟨"FAB_TWIN_CTRL", 0x704000, [], .pf0, .twin, [⟨"EN", 0, 0, .rl, .ret 0, false⟩, ⟨"TWIN_BIT", 1, 1, .rl, .ret 0, false⟩, ⟨"DEDICATED", 2, 2, .rl, .ret 0, false⟩, ⟨"HB_TIMEOUT", 15, 8, .rw, .ret 10, false⟩]⟩,
  ⟨"FAB_TWIN_STATUS", 0x704004, [], .pf0, .twin, [⟨"STATE", 2, 0, .ro, .num 0, false⟩, ⟨"IN_STEP", 3, 3, .ro, .num 0, false⟩, ⟨"PARTNER_SEEN", 4, 4, .ro, .num 0, false⟩]⟩,
  ⟨"FAB_TWIN_PARTNER_LO", 0x704008, [], .pf0, .twin, [⟨"VALUE", 31, 0, .rl, .ret 0, false⟩]⟩,
  ⟨"FAB_TWIN_PARTNER_HI", 0x70400C, [], .pf0, .twin, [⟨"VALUE", 15, 0, .rl, .ret 0, false⟩]⟩,
  ⟨"FAB_TWIN_SW", 0x704010, [], .pf0, .twin, [⟨"ACTIVE_PAT", 3, 0, .rw, .ret 0, false⟩, ⟨"STANDBY_PAT", 7, 4, .rw, .ret 15, false⟩, ⟨"OUT", 11, 8, .ro, .num 15, false⟩]⟩,
  ⟨"FAB_TWIN_TAKEOVERS", 0x704014, [], .pf0, .twin, [⟨"VALUE", 31, 0, .ro, .num 0, false⟩]⟩,
  ⟨"FAB_TWIN_DIVERGENCES", 0x704018, [], .pf0, .twin, [⟨"VALUE", 31, 0, .ro, .num 0, false⟩]⟩,
  ⟨"FAB_TWIN_LAG_MAX", 0x70401C, [], .pf0, .twin, [⟨"VALUE", 31, 0, .ro, .num 0, false⟩]⟩,
  ⟨"FAB_TWIN_UNMATCHED", 0x704020, [], .pf0, .twin, [⟨"VALUE", 31, 0, .ro, .num 0, false⟩]⟩]

/-- Registers of the FAB block. -/
def RegMap.fab : List RegDesc := RegMap.fab1 ++ RegMap.fab2

/-- Registers of the MEM block, part 1. -/
def RegMap.mem1 : List RegDesc := [
  ⟨"MEM_STATUS", 0x800000, [], .pf0, .mem, [⟨"INIT_DONE", 0, 0, .ro, .num 0, false⟩, ⟨"MOVING", 1, 1, .ro, .num 0, false⟩, ⟨"MARCH_BUSY", 2, 2, .ro, .num 0, false⟩, ⟨"UNCORR", 3, 3, .w1c, .num 0, false⟩, ⟨"REPLAY_FAIL", 4, 4, .w1c, .num 0, false⟩, ⟨"UNMAPPED", 5, 5, .w1c, .num 0, false⟩]⟩,
  ⟨"MEM_MAP", 0x800004, [], .pf0, .mem, [⟨"LOCAL", 4, 0, .rl, .ret 8, false⟩, ⟨"GRAIN_EXP", 12, 8, .rl, .ret 12, false⟩]⟩,
  ⟨"MEM_HINT", 0x800008, [], .pf0, .mem, [⟨"HOST", 0, 0, .rw, .ret 1, false⟩, ⟨"PROG", 1, 1, .rw, .ret 1, false⟩, ⟨"MOVE", 2, 2, .rw, .ret 1, false⟩, ⟨"OPEN_IDLE", 15, 8, .rw, .ret 20, false⟩]⟩,
  ⟨"MEM_REF_CFG", 0x80000C, [], .pf0, .mem, [⟨"FGR", 1, 0, .rw, .ret 1, false⟩, ⟨"POSTPONE", 7, 4, .rw, .ret 8, false⟩]⟩,
  ⟨"MEM_SCRUB_CFG", 0x800010, [], .pf0, .mem, [⟨"EN", 0, 0, .rw, .ret 1, false⟩, ⟨"HOURS", 15, 8, .rw, .ret 12, false⟩]⟩,
  ⟨"MEM_LOCKED_WRITES", 0x800020, [], .pf0, .none, [⟨"COUNT", 31, 0, .ro, .num 0, false⟩]⟩,
  ⟨"MEM_BUSY_REJECTS", 0x800024, [], .pf0, .none, [⟨"COUNT", 31, 0, .ro, .num 0, false⟩]⟩,
  ⟨"MEM_CORRECTED_LO", 0x800028, [], .pf0, .none, [⟨"COUNT", 31, 0, .ro, .num 0, false⟩]⟩,
  ⟨"MEM_CORRECTED_HI", 0x80002C, [], .pf0, .none, [⟨"COUNT", 31, 0, .ro, .num 0, false⟩]⟩,
  ⟨"MEM_UNCORRECTABLE", 0x800030, [], .pf0, .none, [⟨"COUNT", 31, 0, .ro, .num 0, false⟩]⟩,
  ⟨"MEM_REPLAYS", 0x800034, [], .pf0, .none, [⟨"COUNT", 31, 0, .ro, .num 0, false⟩]⟩,
  ⟨"MEM_RETRY_STALLS", 0x800038, [], .pf0, .none, [⟨"COUNT", 31, 0, .ro, .num 0, false⟩]⟩,
  ⟨"MEM_REFRESH_FORCED", 0x80003C, [], .pf0, .none, [⟨"COUNT", 31, 0, .ro, .num 0, false⟩]⟩,
  ⟨"MEM_LOC_EVICTIONS", 0x800040, [], .pf0, .none, [⟨"COUNT", 31, 0, .ro, .num 0, false⟩]⟩,
  ⟨"MEM_SCRUB_PASSES", 0x800044, [], .pf0, .none, [⟨"COUNT", 31, 0, .ro, .num 0, false⟩]⟩,
  ⟨"MEM_UNMAPPED", 0x800048, [], .pf0, .none, [⟨"COUNT", 31, 0, .ro, .num 0, false⟩]⟩,
  ⟨"MEM_WIN_ADDR_LO", 0x800100, [], .pf0, .none, [⟨"ADDR_LO", 31, 3, .rw, .num 0, false⟩]⟩,
  ⟨"MEM_WIN_ADDR_HI", 0x800104, [], .pf0, .none, [⟨"ADDR_HI", 4, 0, .rw, .num 0, false⟩]⟩,
  ⟨"MEM_WIN_DATA_LO", 0x800108, [], .pf0, .none, [⟨"VALUE", 31, 0, .rw, .num 0, false⟩]⟩,
  ⟨"MEM_WIN_DATA_HI", 0x80010C, [], .pf0, .none, [⟨"VALUE", 31, 0, .rw, .num 0, false⟩]⟩]

/-- Registers of the MEM block, part 2. -/
def RegMap.mem2 : List RegDesc := [
  ⟨"MEM_MARCH_CTRL", 0x800200, [], .pf0, .none, [⟨"STORE", 3, 0, .rw, .num 0, false⟩, ⟨"QUAD", 5, 4, .rw, .num 0, false⟩, ⟨"RANK", 6, 6, .rw, .num 0, false⟩, ⟨"ALG", 8, 7, .rw, .num 0, false⟩, ⟨"BG", 10, 9, .rw, .num 0, false⟩, ⟨"ORDER", 12, 11, .rw, .num 0, false⟩, ⟨"STOP_ON_FAIL", 13, 13, .rw, .num 0, false⟩, ⟨"START", 16, 16, .wo, .num 0, false⟩, ⟨"STOP", 17, 17, .wo, .num 0, false⟩]⟩,
  ⟨"MEM_MARCH_FIRST_LO", 0x800204, [], .pf0, .none, [⟨"VALUE", 31, 0, .rw, .num 0, false⟩]⟩,
  ⟨"MEM_MARCH_FIRST_HI", 0x800208, [], .pf0, .none, [⟨"VALUE", 31, 0, .rw, .num 0, false⟩]⟩,
  ⟨"MEM_MARCH_COUNT_LO", 0x80020C, [], .pf0, .none, [⟨"VALUE", 31, 0, .rw, .num 0, false⟩]⟩,
  ⟨"MEM_MARCH_COUNT_HI", 0x800210, [], .pf0, .none, [⟨"VALUE", 31, 0, .rw, .num 0, false⟩]⟩,
  ⟨"MEM_MARCH_STATUS", 0x800214, [], .pf0, .none, [⟨"RESULT", 1, 0, .ro, .num 0, false⟩]⟩,
  ⟨"MEM_MARCH_FAIL_LO", 0x800218, [], .pf0, .none, [⟨"VALUE", 31, 0, .ro, .num 0, false⟩]⟩,
  ⟨"MEM_MARCH_FAIL_HI", 0x80021C, [], .pf0, .none, [⟨"VALUE", 31, 0, .ro, .num 0, false⟩]⟩,
  ⟨"MEM_MARCH_FAILS", 0x800220, [], .pf0, .none, [⟨"VALUE", 31, 0, .ro, .num 0, false⟩]⟩,
  ⟨"MEM_MARCH_OPS_LO", 0x800224, [], .pf0, .none, [⟨"VALUE", 31, 0, .ro, .num 0, false⟩]⟩,
  ⟨"MEM_MARCH_OPS_HI", 0x800228, [], .pf0, .none, [⟨"VALUE", 31, 0, .ro, .num 0, false⟩]⟩,
  ⟨"MEM_MARCH_DIFF_LO", 0x80022C, [], .pf0, .none, [⟨"VALUE", 31, 0, .ro, .num 0, false⟩]⟩,
  ⟨"MEM_MARCH_DIFF_HI", 0x800230, [], .pf0, .none, [⟨"VALUE", 31, 0, .ro, .num 0, false⟩]⟩,
  ⟨"MEM_MARCH_DIFF_CHK", 0x800234, [], .pf0, .none, [⟨"CHECK", 7, 0, .ro, .num 0, false⟩]⟩,
  ⟨"MEM_CH_STATUS", 0x800400, [(4, 0x20)], .pf0, .none, [⟨"RANK0", 1, 0, .ro, .ret 0, false⟩, ⟨"RANK1", 3, 2, .ro, .ret 0, false⟩, ⟨"FAILED", 4, 4, .ro, .ret 0, false⟩]⟩,
  ⟨"MEM_CH_MOVE", 0x800404, [(4, 0x20)], .pf0, .none, [⟨"MOVE_PTR", 17, 0, .ro, .num 0, false⟩]⟩,
  ⟨"MEM_CH_CORRECTED", 0x800408, [(4, 0x20)], .pf0, .none, [⟨"VALUE", 31, 0, .ro, .num 0, false⟩]⟩,
  ⟨"MEM_CH_REPLAYS", 0x80040C, [(4, 0x20)], .pf0, .none, [⟨"VALUE", 31, 0, .ro, .num 0, false⟩]⟩,
  ⟨"MEM_LOC_WHERE", 0x801000, [(256, 0x10)], .pf0, .none, [⟨"STORE", 3, 0, .ro, .ret 0, false⟩, ⟨"QUAD", 5, 4, .ro, .ret 0, false⟩, ⟨"RANK", 6, 6, .ro, .ret 0, false⟩, ⟨"VALID", 7, 7, .ro, .ret 0, false⟩]⟩,
  ⟨"MEM_LOC_INDEX", 0x801004, [(256, 0x10)], .pf0, .none, [⟨"INDEX", 28, 0, .ro, .ret 0, false⟩]⟩]

/-- Registers of the MEM block, part 3. -/
def RegMap.mem3 : List RegDesc := [
  ⟨"MEM_LOC_HITS", 0x801008, [(256, 0x10)], .pf0, .none, [⟨"HITS", 1, 0, .ro, .ret 0, false⟩]⟩,
  ⟨"MEM_LOC_FIRST", 0x80100C, [(256, 0x10)], .pf0, .none, [⟨"FIRST", 31, 0, .ro, .ret 0, false⟩]⟩]

/-- Registers of the MEM block. -/
def RegMap.mem : List RegDesc := RegMap.mem1 ++ RegMap.mem2 ++ RegMap.mem3

/-- Registers of the BST block, part 1. -/
def RegMap.bst1 : List RegDesc := [
  ⟨"BST_STATUS", 0xA00000, [], .pf0, .bst, [⟨"LOGIC_BUSY", 0, 0, .ro, .num 0, false⟩, ⟨"CREDIT", 1, 1, .ro, .num 0, false⟩, ⟨"SLICE_FAIL", 2, 2, .w1c, .num 0, false⟩, ⟨"ANALOG_FAIL", 3, 3, .w1c, .num 0, false⟩, ⟨"INCOMPLETE_SEEN", 4, 4, .w1c, .num 0, false⟩, ⟨"WINDOW_MISSING", 5, 5, .w1c, .num 0, false⟩]⟩,
  ⟨"BST_CFG", 0xA00004, [], .pf0, .bst, [⟨"STAGGER", 2, 0, .rw, .ret 4, false⟩, ⟨"PERIODIC", 3, 3, .rw, .ret 1, false⟩, ⟨"ANALOG_EN", 4, 4, .rw, .ret 1, false⟩, ⟨"DDR4_PROOF", 5, 5, .rw, .ret 0, false⟩, ⟨"PERIOD", 23, 8, .rw, .ret 60, false⟩, ⟨"WAIT", 31, 24, .rw, .ret 10, false⟩]⟩,
  ⟨"BST_PROOF", 0xA00008, [], .pf0, .bst, [⟨"FAILED", 4, 0, .ro, .num 0, false⟩, ⟨"RESULT", 6, 5, .ro, .num 0, false⟩]⟩,
  ⟨"BST_PASS_NUMBER", 0xA0000C, [], .pf0, .bst, [⟨"VALUE", 31, 0, .ro, .num 0, false⟩]⟩,
  ⟨"BST_SLICE_TESTS", 0xA00010, [], .pf0, .bst, [⟨"VALUE", 31, 0, .ro, .num 0, false⟩]⟩,
  ⟨"BST_SLICE_FAILS", 0xA00014, [], .pf0, .bst, [⟨"VALUE", 31, 0, .ro, .num 0, false⟩]⟩,
  ⟨"BST_ABANDONED", 0xA00018, [], .pf0, .bst, [⟨"VALUE", 31, 0, .ro, .num 0, false⟩]⟩,
  ⟨"BST_SKIPPED", 0xA0001C, [], .pf0, .bst, [⟨"VALUE", 31, 0, .ro, .num 0, false⟩]⟩,
  ⟨"BST_ANALOG_CHECKS", 0xA00020, [], .pf0, .bst, [⟨"VALUE", 31, 0, .ro, .num 0, false⟩]⟩,
  ⟨"BST_ANALOG_FAILS", 0xA00024, [], .pf0, .bst, [⟨"VALUE", 31, 0, .ro, .num 0, false⟩]⟩,
  ⟨"BST_LOCKED_WRITES", 0xA00028, [], .pf0, .bst, [⟨"VALUE", 31, 0, .ro, .num 0, false⟩]⟩,
  ⟨"BST_BUSY_REJECTS", 0xA0002C, [], .pf0, .bst, [⟨"VALUE", 31, 0, .ro, .num 0, false⟩]⟩,
  ⟨"BST_DOM_SIG_LO", 0xA00100, [(20, 0x10)], .pf0, .none, [⟨"VALUE", 31, 0, .ro, .num 0, false⟩]⟩,
  ⟨"BST_DOM_SIG_HI", 0xA00104, [(20, 0x10)], .pf0, .none, [⟨"VALUE", 31, 0, .ro, .num 0, false⟩]⟩,
  ⟨"BST_DOM_PATTERNS", 0xA00108, [(20, 0x10)], .pf0, .none, [⟨"VALUE", 31, 0, .ro, .num 0, false⟩]⟩,
  ⟨"BST_DOM_RESULT", 0xA0010C, [(20, 0x10)], .pf0, .none, [⟨"RESULT", 1, 0, .ro, .num 0, false⟩]⟩,
  ⟨"BST_GRP_STATE", 0xA00400, [(48, 0x10)], .pf0, .none, [⟨"NEXT", 3, 0, .ro, .num 0, false⟩, ⟨"STATE", 5, 4, .ro, .num 0, false⟩, ⟨"LAST_RESULT", 7, 6, .ro, .num 0, false⟩, ⟨"LAST_MEMBER", 11, 8, .ro, .num 0, false⟩]⟩,
  ⟨"BST_GRP_PATTERNS", 0xA00404, [(48, 0x10)], .pf0, .none, [⟨"VALUE", 31, 0, .ro, .num 0, false⟩]⟩,
  ⟨"BST_GRP_SIG_LO", 0xA00408, [(48, 0x10)], .pf0, .none, [⟨"VALUE", 31, 0, .ro, .num 0, false⟩]⟩,
  ⟨"BST_GRP_SIG_HI", 0xA0040C, [(48, 0x10)], .pf0, .none, [⟨"VALUE", 31, 0, .ro, .num 0, false⟩]⟩]

/-- Registers of the BST block. -/
def RegMap.bst : List RegDesc := RegMap.bst1

/-- Registers of the LOG block, part 1. -/
def RegMap.log1 : List RegDesc := [
  ⟨"LOG_STATUS", 0xC00000, [], .pf0, .none, [⟨"SAFE", 0, 0, .ro, .num 0, false⟩, ⟨"PERM_UNACK", 1, 1, .w1c, .num 0, false⟩, ⟨"NV_BUSY", 2, 2, .ro, .num 0, false⟩, ⟨"NV_FAIL", 3, 3, .w1c, .num 0, false⟩, ⟨"WRAPPED", 4, 4, .ro, .num 0, false⟩]⟩,
  ⟨"LOG_HEAD", 0xC00004, [], .pf0, .none, [⟨"INDEX", 13, 0, .ro, .num 0, false⟩]⟩,
  ⟨"LOG_SEQ", 0xC00008, [], .pf0, .none, [⟨"VALUE", 31, 0, .ro, .num 0, false⟩]⟩,
  ⟨"LOG_OVERWRITES", 0xC0000C, [], .pf0, .none, [⟨"VALUE", 31, 0, .ro, .num 0, false⟩]⟩,
  ⟨"LOG_SUPPRESSED", 0xC00010, [], .pf0, .none, [⟨"VALUE", 31, 0, .ro, .num 0, false⟩]⟩,
  ⟨"LOG_LOCKED_WRITES", 0xC00014, [], .pf0, .none, [⟨"VALUE", 31, 0, .ro, .num 0, false⟩]⟩,
  ⟨"LOG_BUSY_REJECTS", 0xC00018, [], .pf0, .none, [⟨"VALUE", 31, 0, .ro, .num 0, false⟩]⟩,
  ⟨"LOG_MTIME_LO", 0xC00020, [], .pf0, .none, [⟨"VALUE", 31, 0, .ro, .num 0, false⟩]⟩,
  ⟨"LOG_MTIME_HI", 0xC00024, [], .pf0, .none, [⟨"VALUE", 31, 0, .ro, .num 0, false⟩]⟩,
  ⟨"LOG_SAFE", 0xC00028, [], .pf0, .none, [⟨"FIRST", 7, 0, .ro, .num 0, false⟩, ⟨"PENDING", 14, 8, .ro, .num 0, false⟩]⟩,
  ⟨"LOG_NV_COUNT", 0xC0002C, [], .pf0, .none, [⟨"VALUE", 31, 0, .ro, .ret 0, false⟩]⟩,
  ⟨"LOG_NV_OVERWRITES", 0xC00030, [], .pf0, .none, [⟨"VALUE", 31, 0, .ro, .ret 0, false⟩]⟩,
  ⟨"LOG_CFG", 0xC00034, [], .pf0, .none, [⟨"SUPPRESS", 7, 0, .rw, .ret 1, false⟩]⟩,
  ⟨"LOG_TRANSIENTS_LO", 0xC00038, [], .pf0, .none, [⟨"VALUE", 31, 0, .ro, .num 0, false⟩]⟩,
  ⟨"LOG_TRANSIENTS_HI", 0xC0003C, [], .pf0, .none, [⟨"VALUE", 31, 0, .ro, .num 0, false⟩]⟩,
  ⟨"LOG_PERMANENTS", 0xC00040, [], .pf0, .none, [⟨"VALUE", 31, 0, .ro, .ret 0, false⟩]⟩,
  ⟨"LOG_CAUSE_COUNT", 0xC01000, [(256, 0x4)], .pf0, .none, [⟨"COUNT", 31, 0, .ro, .num 0, false⟩]⟩]

/-- Registers of the LOG block. -/
def RegMap.log : List RegDesc := RegMap.log1

/-- Registers of the DRV block, part 1. -/
def RegMap.drv1 : List RegDesc := [
  ⟨"DRV_CTRL", 0x1000000, [(4, 0x400000), (32, 0x1000)], .drv, .drv, [⟨"ENABLE", 0, 0, .rl, .ret 0, false⟩, ⟨"MODE", 1, 1, .rl, .ret 0, false⟩, ⟨"FORCE_MUTE", 2, 2, .rw, .num 0, false⟩]⟩,
  ⟨"DRV_STATUS", 0x1000004, [(4, 0x400000), (32, 0x1000)], .drv, .none, [⟨"ACTIVE", 0, 0, .ro, .num 0, false⟩, ⟨"MUTED", 1, 1, .ro, .num 1, false⟩, ⟨"DARK", 2, 2, .ro, .ret 0, false⟩, ⟨"ON_SPARE", 3, 3, .ro, .ret 0, false⟩, ⟨"SHED", 4, 4, .ro, .num 0, false⟩, ⟨"HEAT_TRIP", 5, 5, .w1c, .num 0, false⟩, ⟨"CLIPPED", 6, 6, .w1c, .num 0, false⟩, ⟨"FREQ_OOB", 7, 7, .w1c, .num 0, false⟩, ⟨"OVERLAP", 8, 8, .w1c, .num 0, false⟩, ⟨"BAD_ENV", 9, 9, .w1c, .num 0, false⟩, ⟨"POWER_REFUSED", 10, 10, .w1c, .num 0, false⟩, ⟨"MUTED_PLAY", 11, 11, .w1c, .num 0, false⟩]⟩,
  ⟨"DRV_ATTEN", 0x1000008, [(4, 0x400000), (32, 0x1000)], .drv, .drv, [⟨"ATTEN", 5, 0, .rsShot, .ret 63, false⟩]⟩,
  ⟨"DRV_HEAT_CFG", 0x100000C, [(4, 0x400000), (32, 0x1000)], .drv, .drv, [⟨"TAU_EXP", 4, 0, .rw, .ret 20, true⟩]⟩,
  ⟨"DRV_HEAT_LIMIT", 0x1000010, [(4, 0x400000), (32, 0x1000)], .drv, .drv, [⟨"LIMIT", 15, 0, .rw, .ret 4096, true⟩]⟩,
  ⟨"DRV_HEAT_MEAN", 0x1000014, [(4, 0x400000), (32, 0x1000)], .drv, .drv, [⟨"MEAN", 15, 0, .ro, .num 0, false⟩]⟩,
  ⟨"DRV_CLIP_COUNT", 0x1000018, [(4, 0x400000), (32, 0x1000)], .drv, .none, [⟨"COUNT", 31, 0, .ro, .num 0, false⟩]⟩,
  ⟨"DRV_OVERLAPS", 0x100001C, [(4, 0x400000), (32, 0x1000)], .drv, .none, [⟨"COUNT", 31, 0, .ro, .num 0, false⟩]⟩,
  ⟨"DRV_BAD_PLAYS", 0x1000020, [(4, 0x400000), (32, 0x1000)], .drv, .none, [⟨"COUNT", 31, 0, .ro, .num 0, false⟩]⟩,
  ⟨"DRV_MUTED_PLAYS", 0x1000024, [(4, 0x400000), (32, 0x1000)], .drv, .none, [⟨"COUNT", 31, 0, .ro, .num 0, false⟩]⟩,
  ⟨"DRV_PLAYS_LO", 0x1000028, [(4, 0x400000), (32, 0x1000)], .drv, .none, [⟨"COUNT", 31, 0, .ro, .num 0, false⟩]⟩,
  ⟨"DRV_PLAYS_HI", 0x100002C, [(4, 0x400000), (32, 0x1000)], .drv, .none, [⟨"COUNT", 31, 0, .ro, .num 0, false⟩]⟩,
  ⟨"DRV_FRAME_FREQ_LO", 0x1000100, [(4, 0x400000), (32, 0x1000), (8, 0x20)], .drv, .drv, [⟨"VALUE", 31, 0, .rsRun, .ret 0, false⟩]⟩,
  ⟨"DRV_FRAME_FREQ_HI", 0x1000104, [(4, 0x400000), (32, 0x1000), (8, 0x20)], .drv, .drv, [⟨"VALUE", 15, 0, .rsRun, .ret 0, false⟩]⟩,
  ⟨"DRV_FRAME_PHASE_LO", 0x1000108, [(4, 0x400000), (32, 0x1000), (8, 0x20)], .drv, .drv, [⟨"VALUE", 31, 0, .rsRun, .ret 0, false⟩]⟩,
  ⟨"DRV_FRAME_PHASE_HI", 0x100010C, [(4, 0x400000), (32, 0x1000), (8, 0x20)], .drv, .drv, [⟨"VALUE", 15, 0, .rsRun, .ret 0, false⟩]⟩,
  ⟨"DRV_FRAME_GAIN", 0x1000110, [(4, 0x400000), (32, 0x1000), (8, 0x20)], .drv, .drv, [⟨"GAIN", 15, 0, .rsShot, .ret 32768, false⟩]⟩,
  ⟨"DRV_FRAME_STATE", 0x1000114, [(4, 0x400000), (32, 0x1000), (8, 0x20)], .drv, .drv, [⟨"PAULI_X", 0, 0, .ro, .num 0, false⟩, ⟨"PAULI_Z", 1, 1, .ro, .num 0, false⟩, ⟨"LANE_BUSY", 2, 2, .ro, .num 0, false⟩]⟩,
  ⟨"DRV_LOCKED_WRITES", 0x1020000, [(4, 0x400000)], .envw, .none, [⟨"VALUE", 31, 0, .ro, .num 0, false⟩]⟩,
  ⟨"DRV_BUSY_REJECTS", 0x1020004, [(4, 0x400000)], .envw, .none, [⟨"VALUE", 31, 0, .ro, .num 0, false⟩]⟩]

/-- Registers of the DRV block, part 2. -/
def RegMap.drv2 : List RegDesc := [
  ⟨"DRV_ENV_ADDR", 0x1020008, [(4, 0x400000)], .envw, .none, [⟨"ADDR", 20, 0, .rw, .num 0, false⟩]⟩,
  ⟨"DRV_ENV_DATA", 0x102000C, [(4, 0x400000)], .envw, .none, [⟨"I", 15, 0, .rw, .num 0, false⟩, ⟨"Q", 31, 16, .rw, .num 0, false⟩]⟩,
  ⟨"DRV_ENV_PART_DESC", 0x1020040, [(4, 0x400000), (5, 0x8)], .pf0, .part, [⟨"DESC_BASE", 11, 0, .rl, .ret 0, false⟩, ⟨"DESC_COUNT", 28, 16, .rl, .ret 4096, false⟩]⟩,
  ⟨"DRV_ENV_PART_SAMP", 0x1020044, [(4, 0x400000), (5, 0x8)], .pf0, .part, [⟨"SAMP_BASE", 11, 0, .rl, .ret 0, false⟩, ⟨"SAMP_COUNT", 28, 16, .rl, .ret 4096, false⟩]⟩,
  ⟨"DRV_SPARE_CTRL", 0x1020100, [(4, 0x400000), (4, 0x20)], .pf0, .none, [⟨"TARGET", 2, 0, .rw, .num 0, false⟩, ⟨"SWAP", 8, 8, .wo, .num 0, false⟩, ⟨"RELEASE", 9, 9, .wo, .num 0, false⟩]⟩,
  ⟨"DRV_SPARE_STATUS", 0x1020104, [(4, 0x400000), (4, 0x20)], .pf0, .none, [⟨"SERVING", 2, 0, .ro, .ret 0, false⟩, ⟨"STATE", 5, 3, .ro, .ret 0, false⟩, ⟨"RETIRED", 15, 8, .ro, .ret 0, false⟩, ⟨"SWAP_REFUSED", 16, 16, .w1c, .num 0, false⟩]⟩,
  ⟨"DRV_SPARE_SWAPS", 0x1020108, [(4, 0x400000), (4, 0x20)], .pf0, .none, [⟨"VALUE", 31, 0, .ro, .num 0, false⟩]⟩,
  ⟨"DRV_ENV_DESC_LO", 0x1040000, [(4, 0x400000), (4096, 0x8)], .desc, .desc, [⟨"START", 20, 0, .rsShot, .num 0, false⟩]⟩,
  ⟨"DRV_ENV_DESC_HI", 0x1040004, [(4, 0x400000), (4096, 0x8)], .desc, .desc, [⟨"LENGTH", 19, 0, .rsShot, .num 0, false⟩, ⟨"RATE", 21, 20, .rsShot, .num 0, false⟩]⟩]

/-- Registers of the DRV block. -/
def RegMap.drv : List RegDesc := RegMap.drv1 ++ RegMap.drv2

/-- Registers of the FLX block, part 1. -/
def RegMap.flx1 : List RegDesc := [
  ⟨"FLX_CTRL", 0x1080000, [(4, 0x400000), (32, 0x1000)], .drv, .drv, [⟨"ENABLE", 0, 0, .rl, .ret 0, false⟩, ⟨"SPAN", 2, 1, .rl, .ret 0, false⟩, ⟨"PD_EN", 3, 3, .rsShot, .ret 0, false⟩, ⟨"FORCE_PARK", 4, 4, .rw, .num 0, false⟩, ⟨"RAMP_EXP", 12, 8, .rw, .ret 16, false⟩]⟩,
  ⟨"FLX_STATUS", 0x1080004, [(4, 0x400000), (32, 0x1000)], .drv, .none, [⟨"ACTIVE", 0, 0, .ro, .num 0, false⟩, ⟨"QUIET", 1, 1, .ro, .num 1, false⟩, ⟨"RAMPING", 2, 2, .ro, .num 0, false⟩, ⟨"DARK", 3, 3, .ro, .ret 0, false⟩, ⟨"ON_SPARE", 4, 4, .ro, .ret 0, false⟩, ⟨"SHED", 5, 5, .ro, .num 0, false⟩, ⟨"ACTIVE_BANK", 6, 6, .ro, .ret 0, false⟩, ⟨"COMMIT_PENDING", 7, 7, .ro, .num 0, false⟩, ⟨"CLIPPED", 8, 8, .w1c, .num 0, false⟩, ⟨"OVERLAP", 9, 9, .w1c, .num 0, false⟩, ⟨"BAD_ENV", 10, 10, .w1c, .num 0, false⟩, ⟨"POWER_REFUSED", 11, 11, .w1c, .num 0, false⟩, ⟨"SPAN_REFUSED", 12, 12, .w1c, .num 0, false⟩, ⟨"PD_REJECT", 13, 13, .w1c, .num 0, false⟩]⟩,
  ⟨"FLX_PARK", 0x1080008, [(4, 0x400000), (32, 0x1000)], .drv, .drv, [⟨"PARK", 15, 0, .rl, .ret 0, false⟩]⟩,
  ⟨"FLX_GAIN", 0x108000C, [(4, 0x400000), (32, 0x1000)], .drv, .drv, [⟨"GAIN", 15, 0, .rsShot, .ret 32768, false⟩]⟩,
  ⟨"FLX_DELAY", 0x1080010, [(4, 0x400000), (32, 0x1000)], .drv, .drv, [⟨"DELAY", 9, 0, .rl, .ret 0, false⟩]⟩,
  ⟨"FLX_PD_CTRL", 0x1080014, [(4, 0x400000), (32, 0x1000)], .drv, .drv, [⟨"COMMIT", 0, 0, .wo, .num 0, false⟩]⟩,
  ⟨"FLX_CLIP_COUNT", 0x1080018, [(4, 0x400000), (32, 0x1000)], .drv, .none, [⟨"COUNT", 31, 0, .ro, .num 0, false⟩]⟩,
  ⟨"FLX_OVERLAPS", 0x108001C, [(4, 0x400000), (32, 0x1000)], .drv, .none, [⟨"COUNT", 31, 0, .ro, .num 0, false⟩]⟩,
  ⟨"FLX_BAD_PLAYS", 0x1080020, [(4, 0x400000), (32, 0x1000)], .drv, .none, [⟨"COUNT", 31, 0, .ro, .num 0, false⟩]⟩,
  ⟨"FLX_IIR_B0", 0x1080100, [(4, 0x400000), (32, 0x1000), (4, 0x10)], .drv, .none, [⟨"B0", 23, 0, .rw, .ret 0, false⟩]⟩,
  ⟨"FLX_IIR_B1", 0x1080104, [(4, 0x400000), (32, 0x1000), (4, 0x10)], .drv, .none, [⟨"B1", 23, 0, .rw, .ret 0, false⟩]⟩,
  ⟨"FLX_IIR_A1", 0x1080108, [(4, 0x400000), (32, 0x1000), (4, 0x10)], .drv, .none, [⟨"A1", 23, 0, .rw, .ret 0, false⟩]⟩,
  ⟨"FLX_FIR_C", 0x1080140, [(4, 0x400000), (32, 0x1000), (40, 0x4)], .drv, .none, [⟨"C", 23, 0, .rw, .ret 0, false⟩]⟩,
  ⟨"FLX_PD_BYPASS", 0x10801E0, [(4, 0x400000), (32, 0x1000)], .drv, .none, [⟨"IIR_BYPASS", 3, 0, .rw, .ret 0, false⟩, ⟨"FIR_BYPASS", 4, 4, .rw, .ret 0, false⟩]⟩,
  ⟨"FLX_LOCKED_WRITES", 0x10A0000, [(4, 0x400000)], .pf0, .none, [⟨"COUNT", 31, 0, .ro, .num 0, false⟩]⟩,
  ⟨"FLX_BUSY_REJECTS", 0x10A0004, [(4, 0x400000)], .pf0, .none, [⟨"COUNT", 31, 0, .ro, .num 0, false⟩]⟩,
  ⟨"FLX_SPARE_CTRL", 0x10A0100, [(4, 0x400000), (4, 0x20)], .pf0, .none, [⟨"TARGET", 2, 0, .rw, .num 0, false⟩, ⟨"SWAP", 8, 8, .wo, .num 0, false⟩, ⟨"RELEASE", 9, 9, .wo, .num 0, false⟩]⟩,
  ⟨"FLX_SPARE_STATUS", 0x10A0104, [(4, 0x400000), (4, 0x20)], .pf0, .none, [⟨"SERVING", 2, 0, .ro, .ret 0, false⟩, ⟨"STATE", 5, 3, .ro, .ret 0, false⟩, ⟨"RETIRED", 15, 8, .ro, .ret 0, false⟩, ⟨"SWAP_REFUSED", 16, 16, .w1c, .num 0, false⟩]⟩,
  ⟨"FLX_SPARE_SWAPS", 0x10A0108, [(4, 0x400000), (4, 0x20)], .pf0, .none, [⟨"VALUE", 31, 0, .ro, .num 0, false⟩]⟩]

/-- Registers of the FLX block. -/
def RegMap.flx : List RegDesc := RegMap.flx1

/-- Registers of the RDO block, part 1. -/
def RegMap.rdo1 : List RegDesc := [
  ⟨"RDO_PRB_CTRL", 0x1100000, [(4, 0x400000), (8, 0x1000)], .rdo, .rdo, [⟨"ENABLE", 0, 0, .rl, .ret 0, false⟩, ⟨"MODE", 1, 1, .rl, .ret 0, false⟩, ⟨"FORCE_MUTE", 2, 2, .rw, .num 0, false⟩]⟩,
  ⟨"RDO_PRB_STATUS", 0x1100004, [(4, 0x400000), (8, 0x1000)], .rdo, .none, [⟨"ACTIVE", 0, 0, .ro, .num 0, false⟩, ⟨"MUTED", 1, 1, .ro, .num 1, false⟩, ⟨"DARK", 2, 2, .ro, .ret 0, false⟩, ⟨"ON_SPARE", 3, 3, .ro, .ret 0, false⟩, ⟨"SHED", 4, 4, .ro, .num 0, false⟩, ⟨"HEAT_TRIP", 5, 5, .w1c, .num 0, false⟩, ⟨"CLIPPED", 6, 6, .w1c, .num 0, false⟩, ⟨"FREQ_OOB", 7, 7, .w1c, .num 0, false⟩, ⟨"OVERLAP", 8, 8, .w1c, .num 0, false⟩, ⟨"BAD_ENV", 9, 9, .w1c, .num 0, false⟩, ⟨"POWER_REFUSED", 10, 10, .w1c, .num 0, false⟩, ⟨"MUTED_PLAY", 11, 11, .w1c, .num 0, false⟩]⟩,
  ⟨"RDO_PRB_ATTEN", 0x1100008, [(4, 0x400000), (8, 0x1000)], .rdo, .rdo, [⟨"ATTEN", 5, 0, .rsShot, .ret 63, false⟩]⟩,
  ⟨"RDO_PRB_HEAT_CFG", 0x110000C, [(4, 0x400000), (8, 0x1000)], .rdo, .rdo, [⟨"TAU_EXP", 4, 0, .rw, .ret 20, true⟩]⟩,
  ⟨"RDO_PRB_HEAT_LIMIT", 0x1100010, [(4, 0x400000), (8, 0x1000)], .rdo, .rdo, [⟨"LIMIT", 15, 0, .rw, .ret 4096, true⟩]⟩,
  ⟨"RDO_PRB_HEAT_MEAN", 0x1100014, [(4, 0x400000), (8, 0x1000)], .rdo, .rdo, [⟨"MEAN", 15, 0, .ro, .num 0, false⟩]⟩,
  ⟨"RDO_PRB_CLIP_COUNT", 0x1100018, [(4, 0x400000), (8, 0x1000)], .rdo, .none, [⟨"COUNT", 31, 0, .ro, .num 0, false⟩]⟩,
  ⟨"RDO_PRB_OVERLAPS", 0x110001C, [(4, 0x400000), (8, 0x1000)], .rdo, .none, [⟨"COUNT", 31, 0, .ro, .num 0, false⟩]⟩,
  ⟨"RDO_PRB_BAD_PLAYS", 0x1100020, [(4, 0x400000), (8, 0x1000)], .rdo, .none, [⟨"COUNT", 31, 0, .ro, .num 0, false⟩]⟩,
  ⟨"RDO_PRB_MUTED_PLAYS", 0x1100024, [(4, 0x400000), (8, 0x1000)], .rdo, .none, [⟨"COUNT", 31, 0, .ro, .num 0, false⟩]⟩,
  ⟨"RDO_PRB_PLAYS_LO", 0x1100028, [(4, 0x400000), (8, 0x1000)], .rdo, .none, [⟨"COUNT", 31, 0, .ro, .num 0, false⟩]⟩,
  ⟨"RDO_PRB_PLAYS_HI", 0x110002C, [(4, 0x400000), (8, 0x1000)], .rdo, .none, [⟨"COUNT", 31, 0, .ro, .num 0, false⟩]⟩,
  ⟨"RDO_ADC_CTRL", 0x1100040, [(4, 0x400000), (8, 0x1000)], .rdo, .rdo, [⟨"ENABLE", 0, 0, .rl, .ret 0, false⟩]⟩,
  ⟨"RDO_ADC_STATUS", 0x1100044, [(4, 0x400000), (8, 0x1000)], .rdo, .rdo, [⟨"ACTIVE", 0, 0, .ro, .num 0, false⟩, ⟨"DARK", 1, 1, .ro, .ret 0, false⟩, ⟨"ON_SPARE", 2, 2, .ro, .ret 0, false⟩, ⟨"SHED", 3, 3, .ro, .num 0, false⟩, ⟨"CLIPPED", 4, 4, .w1c, .num 0, false⟩, ⟨"POWER_REFUSED", 5, 5, .w1c, .num 0, false⟩]⟩,
  ⟨"RDO_ADC_CLIPS", 0x1100048, [(4, 0x400000), (8, 0x1000)], .rdo, .rdo, [⟨"VALUE", 31, 0, .ro, .num 0, false⟩]⟩,
  ⟨"RDO_WINDOWS_LO", 0x110004C, [(4, 0x400000), (8, 0x1000)], .rdo, .rdo, [⟨"VALUE", 31, 0, .ro, .num 0, false⟩]⟩,
  ⟨"RDO_WINDOWS_HI", 0x1100050, [(4, 0x400000), (8, 0x1000)], .rdo, .rdo, [⟨"VALUE", 31, 0, .ro, .num 0, false⟩]⟩,
  ⟨"TONE_FREQ_LO", 0x1108000, [(4, 0x400000), (256, 0x80)], .tone, .tone, [⟨"VALUE", 31, 0, .rsRun, .ret 0, false⟩]⟩,
  ⟨"TONE_FREQ_HI", 0x1108004, [(4, 0x400000), (256, 0x80)], .tone, .tone, [⟨"VALUE", 15, 0, .rsRun, .ret 0, false⟩]⟩,
  ⟨"TONE_PHASE_LO", 0x1108008, [(4, 0x400000), (256, 0x80)], .tone, .tone, [⟨"VALUE", 31, 0, .rsRun, .ret 0, false⟩]⟩]

/-- Registers of the RDO block, part 2. -/
def RegMap.rdo2 : List RegDesc := [
  ⟨"TONE_PHASE_HI", 0x110800C, [(4, 0x400000), (256, 0x80)], .tone, .tone, [⟨"VALUE", 15, 0, .rsRun, .ret 0, false⟩]⟩,
  ⟨"TONE_DEMOD_PHASE_LO", 0x1108010, [(4, 0x400000), (256, 0x80)], .tone, .tone, [⟨"VALUE", 31, 0, .rsShot, .ret 0, false⟩]⟩,
  ⟨"TONE_DEMOD_PHASE_HI", 0x1108014, [(4, 0x400000), (256, 0x80)], .tone, .tone, [⟨"VALUE", 15, 0, .rsShot, .ret 0, false⟩]⟩,
  ⟨"TONE_GAIN", 0x1108018, [(4, 0x400000), (256, 0x80)], .tone, .tone, [⟨"GAIN", 15, 0, .rsShot, .ret 32768, false⟩, ⟨"CW_AMP", 31, 16, .rsShot, .ret 0, false⟩]⟩,
  ⟨"TONE_CTRL", 0x110801C, [(4, 0x400000), (256, 0x80)], .tone, .tone, [⟨"CW", 0, 0, .rsShot, .ret 0, false⟩, ⟨"RECORD_IQ", 1, 1, .rsShot, .ret 0, false⟩, ⟨"EARLY_EN", 2, 2, .rsShot, .ret 0, false⟩, ⟨"DEPLETE", 4, 3, .rsShot, .ret 0, false⟩, ⟨"SHIFT", 9, 5, .rsShot, .ret 24, false⟩]⟩,
  ⟨"TONE_WIN", 0x1108020, [(4, 0x400000), (256, 0x80)], .tone, .tone, [⟨"LEN", 12, 0, .rsShot, .ret 500, false⟩, ⟨"NMIN", 28, 16, .rsShot, .ret 16, false⟩]⟩,
  ⟨"TONE_KERNEL", 0x1108024, [(4, 0x400000), (256, 0x80)], .tone, .tone, [⟨"BASE", 14, 0, .rsShot, .ret 0, false⟩, ⟨"HOLD_EXP", 17, 15, .rsShot, .ret 0, false⟩, ⟨"KLEN", 30, 18, .rsShot, .ret 0, false⟩]⟩,
  ⟨"TONE_A", 0x1108028, [(4, 0x400000), (256, 0x80), (3, 0x4)], .tone, .tone, [⟨"AI", 15, 0, .rsShot, .ret 0, false⟩, ⟨"AQ", 31, 16, .rsShot, .ret 0, false⟩]⟩,
  ⟨"TONE_B", 0x1108034, [(4, 0x400000), (256, 0x80), (3, 0x4)], .tone, .tone, [⟨"B", 31, 0, .rsShot, .ret 0, false⟩]⟩,
  ⟨"TONE_BETA01", 0x1108040, [(4, 0x400000), (256, 0x80)], .tone, .tone, [⟨"BETA0", 15, 0, .rsShot, .ret 0, false⟩, ⟨"BETA1", 31, 16, .rsShot, .ret 0, false⟩]⟩,
  ⟨"TONE_THRESH", 0x1108044, [(4, 0x400000), (256, 0x80)], .tone, .tone, [⟨"BETA2", 15, 0, .rsShot, .ret 0, false⟩, ⟨"THRESH", 31, 16, .rsShot, .ret 2358, false⟩]⟩,
  ⟨"TONE_DEPL01", 0x1108048, [(4, 0x400000), (256, 0x80)], .tone, .tone, [⟨"DESC0", 11, 0, .rsShot, .ret 0, false⟩, ⟨"DESC1", 27, 16, .rsShot, .ret 0, false⟩]⟩,
  ⟨"TONE_DEPL2", 0x110804C, [(4, 0x400000), (256, 0x80)], .tone, .tone, [⟨"DESC2", 11, 0, .rsShot, .ret 0, false⟩, ⟨"EN", 14, 12, .rsShot, .ret 0, false⟩, ⟨"DEPL_AMP", 31, 16, .rsShot, .ret 0, false⟩]⟩,
  ⟨"TONE_STATUS", 0x1108050, [(4, 0x400000), (256, 0x80)], .tone, .tone, [⟨"LAST_STATE", 1, 0, .ro, .num 0, false⟩, ⟨"LAST_EARLY", 2, 2, .ro, .num 0, false⟩, ⟨"WIN_OPEN", 3, 3, .ro, .num 0, false⟩, ⟨"OVERFLOW", 4, 4, .w1c, .num 0, false⟩, ⟨"FREQ_OOB", 5, 5, .w1c, .num 0, false⟩, ⟨"CHANNEL", 12, 8, .ro, .num 0, false⟩]⟩,
  ⟨"TONE_LAST_I", 0x1108054, [(4, 0x400000), (256, 0x80)], .tone, .tone, [⟨"VALUE", 31, 0, .ro, .num 0, false⟩]⟩,
  ⟨"TONE_LAST_Q", 0x1108058, [(4, 0x400000), (256, 0x80)], .tone, .tone, [⟨"VALUE", 31, 0, .ro, .num 0, false⟩]⟩,
  ⟨"TONE_WINDOWS", 0x110805C, [(4, 0x400000), (256, 0x80)], .tone, .tone, [⟨"VALUE", 31, 0, .ro, .num 0, false⟩]⟩,
  ⟨"TONE_EARLY", 0x1108060, [(4, 0x400000), (256, 0x80)], .tone, .tone, [⟨"VALUE", 31, 0, .ro, .num 0, false⟩]⟩,
  ⟨"TONE_OVERFLOWS", 0x1108064, [(4, 0x400000), (256, 0x80)], .tone, .tone, [⟨"VALUE", 31, 0, .ro, .num 0, false⟩]⟩,
  ⟨"RDO_LOCKED_WRITES", 0x1110000, [(4, 0x400000)], .kern, .none, [⟨"VALUE", 31, 0, .ro, .num 0, false⟩]⟩]

/-- Registers of the RDO block, part 3. -/
def RegMap.rdo3 : List RegDesc := [
  ⟨"RDO_BUSY_REJECTS", 0x1110004, [(4, 0x400000)], .kern, .none, [⟨"VALUE", 31, 0, .ro, .num 0, false⟩]⟩,
  ⟨"RDO_KERN_ADDR", 0x1110008, [(4, 0x400000)], .kern, .none, [⟨"ADDR", 14, 0, .rw, .num 0, false⟩, ⟨"INPUT", 18, 16, .rw, .num 0, false⟩]⟩,
  ⟨"RDO_KERN_I", 0x111000C, [(4, 0x400000)], .kern, .none, [⟨"WI", 23, 0, .rw, .num 0, false⟩]⟩,
  ⟨"RDO_KERN_Q", 0x1110010, [(4, 0x400000)], .kern, .none, [⟨"WQ", 23, 0, .rw, .num 0, false⟩]⟩,
  ⟨"RDO_PRB_SPARE_CTRL", 0x1110100, [(4, 0x400000), (2, 0x20)], .pf0, .none, [⟨"TARGET", 1, 0, .rw, .num 0, false⟩, ⟨"SWAP", 8, 8, .wo, .num 0, false⟩, ⟨"RELEASE", 9, 9, .wo, .num 0, false⟩]⟩,
  ⟨"RDO_PRB_SPARE_STATUS", 0x1110104, [(4, 0x400000), (2, 0x20)], .pf0, .none, [⟨"SERVING", 1, 0, .ro, .ret 0, false⟩, ⟨"STATE", 5, 3, .ro, .ret 0, false⟩, ⟨"RETIRED", 11, 8, .ro, .ret 0, false⟩, ⟨"SWAP_REFUSED", 16, 16, .w1c, .num 0, false⟩]⟩,
  ⟨"RDO_PRB_SPARE_SWAPS", 0x1110108, [(4, 0x400000), (2, 0x20)], .pf0, .none, [⟨"VALUE", 31, 0, .ro, .num 0, false⟩]⟩,
  ⟨"RDO_ADC_SPARE_CTRL", 0x1110140, [(4, 0x400000), (2, 0x20)], .pf0, .none, [⟨"TARGET", 1, 0, .rw, .num 0, false⟩, ⟨"SWAP", 8, 8, .wo, .num 0, false⟩, ⟨"RELEASE", 9, 9, .wo, .num 0, false⟩]⟩,
  ⟨"RDO_ADC_SPARE_STATUS", 0x1110144, [(4, 0x400000), (2, 0x20)], .pf0, .none, [⟨"SERVING", 1, 0, .ro, .ret 0, false⟩, ⟨"STATE", 5, 3, .ro, .ret 0, false⟩, ⟨"RETIRED", 11, 8, .ro, .ret 0, false⟩, ⟨"SWAP_REFUSED", 16, 16, .w1c, .num 0, false⟩]⟩,
  ⟨"RDO_ADC_SPARE_SWAPS", 0x1110148, [(4, 0x400000), (2, 0x20)], .pf0, .none, [⟨"VALUE", 31, 0, .ro, .num 0, false⟩]⟩,
  ⟨"REC_CTRL", 0x1110400, [(5, 0x40)], .part, .part, [⟨"ENABLE", 0, 0, .rl, .ret 0, false⟩]⟩,
  ⟨"REC_STATUS", 0x1110404, [(5, 0x40)], .part, .part, [⟨"LENGTH_PENDING", 0, 0, .ro, .num 0, false⟩, ⟨"RING_WAIT", 1, 1, .ro, .num 0, false⟩, ⟨"BAD_CONS", 2, 2, .w1c, .num 0, false⟩]⟩,
  ⟨"REC_BASE_LO", 0x1110408, [(5, 0x40)], .part, .part, [⟨"BASE_LO", 31, 12, .rl, .ret 0, false⟩]⟩,
  ⟨"REC_BASE_HI", 0x111040C, [(5, 0x40)], .part, .part, [⟨"BASE_HI", 31, 0, .rl, .ret 0, false⟩]⟩,
  ⟨"REC_LEN", 0x1110410, [(5, 0x40)], .part, .part, [⟨"SIZE", 31, 12, .rw, .ret 0, false⟩]⟩,
  ⟨"REC_RESERVE", 0x1110414, [(5, 0x40)], .part, .part, [⟨"RESERVE", 20, 5, .rw, .ret 128, false⟩]⟩,
  ⟨"REC_PROD", 0x1110418, [(5, 0x40)], .part, .part, [⟨"VALUE", 31, 0, .ro, .num 0, false⟩]⟩,
  ⟨"REC_CONS", 0x111041C, [(5, 0x40)], .part, .part, [⟨"VALUE", 31, 0, .rw, .num 0, false⟩]⟩,
  ⟨"REC_WAIT_TICKS_LO", 0x1110420, [(5, 0x40)], .part, .part, [⟨"VALUE", 31, 0, .ro, .num 0, false⟩]⟩,
  ⟨"REC_WAIT_TICKS_HI", 0x1110424, [(5, 0x40)], .part, .part, [⟨"VALUE", 31, 0, .ro, .num 0, false⟩]⟩]

/-- Registers of the RDO block, part 4. -/
def RegMap.rdo4 : List RegDesc := [
  ⟨"REC_TRUNCATED", 0x1110428, [(5, 0x40)], .part, .part, [⟨"VALUE", 31, 0, .ro, .num 0, false⟩]⟩]

/-- Registers of the RDO block. -/
def RegMap.rdo : List RegDesc := RegMap.rdo1 ++ RegMap.rdo2 ++ RegMap.rdo3 ++ RegMap.rdo4

/-- Registers of the ACQ block, part 1. -/
def RegMap.acq1 : List RegDesc := [
  ⟨"ACQ_CU_CTRL", 0x1180000, [(4, 0x400000), (8, 0x1000)], .cu, .cu, [⟨"MODE", 1, 0, .rl, .ret 0, false⟩, ⟨"PARTITION", 4, 2, .rl, .ret 0, false⟩, ⟨"GROUP_EN", 5, 5, .rl, .ret 0, false⟩, ⟨"GROUP", 9, 6, .rl, .ret 0, false⟩, ⟨"MASTER", 10, 10, .rl, .ret 0, false⟩, ⟨"ARM", 16, 16, .wo, .num 0, false⟩, ⟨"STOP", 17, 17, .wo, .num 0, false⟩, ⟨"SW_TRIG", 18, 18, .wo, .num 0, false⟩]⟩,
  ⟨"ACQ_CU_SRC", 0x1180004, [(4, 0x400000), (8, 0x1000)], .cu, .cu, [⟨"KIND", 2, 0, .rl, .ret 0, false⟩, ⟨"INDEX", 12, 3, .rl, .ret 0, false⟩, ⟨"K_MIN", 19, 16, .rl, .ret 0, false⟩, ⟨"K_MAX", 23, 20, .rl, .ret 0, false⟩, ⟨"AUTO", 24, 24, .rl, .ret 0, false⟩, ⟨"AUTO_DOWN", 25, 25, .rl, .ret 0, false⟩]⟩,
  ⟨"ACQ_CU_TRIG", 0x1180008, [(4, 0x400000), (8, 0x1000)], .cu, .cu, [⟨"TSRC", 2, 0, .rl, .ret 0, false⟩, ⟨"SLOPE", 3, 3, .rl, .ret 0, false⟩, ⟨"PLACE", 4, 4, .rl, .ret 0, false⟩, ⟨"COMP", 5, 5, .rl, .ret 0, false⟩, ⟨"TINDEX", 15, 8, .rl, .ret 0, false⟩]⟩,
  ⟨"ACQ_CU_LEVEL", 0x118000C, [(4, 0x400000), (8, 0x1000)], .cu, .cu, [⟨"LEVEL", 31, 0, .rl, .ret 0, false⟩]⟩,
  ⟨"ACQ_CU_HYST", 0x1180010, [(4, 0x400000), (8, 0x1000)], .cu, .cu, [⟨"HYST", 23, 0, .rl, .ret 0, false⟩]⟩,
  ⟨"ACQ_CU_PRE", 0x1180014, [(4, 0x400000), (8, 0x1000)], .cu, .cu, [⟨"PRE", 23, 0, .rl, .ret 0, false⟩]⟩,
  ⟨"ACQ_CU_POST", 0x1180018, [(4, 0x400000), (8, 0x1000)], .cu, .cu, [⟨"POST", 23, 0, .rl, .ret 0, false⟩]⟩,
  ⟨"ACQ_CU_COUNT", 0x118001C, [(4, 0x400000), (8, 0x1000)], .cu, .cu, [⟨"COUNT", 31, 0, .rl, .ret 0, false⟩]⟩,
  ⟨"ACQ_CU_HOLDOFF", 0x1180020, [(4, 0x400000), (8, 0x1000)], .cu, .cu, [⟨"HOLDOFF", 23, 0, .rl, .ret 0, false⟩]⟩,
  ⟨"ACQ_CU_BUF", 0x1180024, [(4, 0x400000), (8, 0x1000)], .cu, .cu, [⟨"BASE", 11, 0, .rl, .ret 0, false⟩, ⟨"LEN", 28, 16, .rl, .ret 0, false⟩]⟩,
  ⟨"ACQ_CU_MASK", 0x1180028, [(4, 0x400000), (8, 0x1000)], .cu, .cu, [⟨"MBASE", 10, 0, .rl, .ret 0, false⟩, ⟨"MCOUNT", 23, 12, .rl, .ret 0, false⟩, ⟨"MREL", 24, 24, .rl, .ret 0, false⟩, ⟨"MACTION", 26, 25, .rl, .ret 0, false⟩]⟩,
  ⟨"ACQ_CU_EVT", 0x118002C, [(4, 0x400000), (8, 0x1000)], .cu, .cu, [⟨"TRIG_EV_EN", 0, 0, .rl, .ret 0, false⟩, ⟨"MASK_EV_EN", 1, 1, .rl, .ret 0, false⟩, ⟨"TRIG_CHAN", 15, 8, .rl, .ret 0, false⟩, ⟨"MASK_CHAN", 23, 16, .rl, .ret 0, false⟩]⟩,
  ⟨"ACQ_CU_STATUS", 0x1180030, [(4, 0x400000), (8, 0x1000)], .cu, .cu, [⟨"STATE", 3, 0, .ro, .num 0, false⟩, ⟨"K", 7, 4, .ro, .num 0, false⟩, ⟨"GROUP_READY", 8, 8, .ro, .num 0, false⟩, ⟨"LENGTH_PENDING", 9, 9, .ro, .num 0, false⟩, ⟨"FULL", 10, 10, .ro, .num 0, false⟩, ⟨"PRE_SHORT", 11, 11, .w1c, .num 0, false⟩, ⟨"MASK_VIOL", 12, 12, .w1c, .num 0, false⟩, ⟨"GAP", 13, 13, .w1c, .num 0, false⟩, ⟨"FIRE_OVERRUN", 14, 14, .w1c, .num 0, false⟩, ⟨"BAD_CONS", 15, 15, .w1c, .num 0, false⟩]⟩,
  ⟨"ACQ_CAPTURES", 0x1180034, [(4, 0x400000), (8, 0x1000)], .cu, .cu, [⟨"VALUE", 31, 0, .ro, .num 0, false⟩]⟩,
  ⟨"ACQ_TRIG_MISSED", 0x1180038, [(4, 0x400000), (8, 0x1000)], .cu, .cu, [⟨"VALUE", 31, 0, .ro, .num 0, false⟩]⟩,
  ⟨"ACQ_COALESCED", 0x118003C, [(4, 0x400000), (8, 0x1000)], .cu, .cu, [⟨"VALUE", 31, 0, .ro, .num 0, false⟩]⟩,
  ⟨"ACQ_DEAD_LAST", 0x1180040, [(4, 0x400000), (8, 0x1000)], .cu, .cu, [⟨"VALUE", 31, 0, .ro, .num 0, false⟩]⟩,
  ⟨"ACQ_DEAD_MAX", 0x1180044, [(4, 0x400000), (8, 0x1000)], .cu, .cu, [⟨"VALUE", 31, 0, .ro, .num 0, false⟩]⟩,
  ⟨"ACQ_MASK_VIOLATIONS", 0x1180048, [(4, 0x400000), (8, 0x1000)], .cu, .cu, [⟨"VALUE", 31, 0, .ro, .num 0, false⟩]⟩,
  ⟨"ACQ_RATE_CHANGES", 0x118004C, [(4, 0x400000), (8, 0x1000)], .cu, .cu, [⟨"VALUE", 31, 0, .ro, .num 0, false⟩]⟩]

/-- Registers of the ACQ block, part 2. -/
def RegMap.acq2 : List RegDesc := [
  ⟨"ACQ_DROPPED_LO", 0x1180050, [(4, 0x400000), (8, 0x1000)], .cu, .cu, [⟨"VALUE", 31, 0, .ro, .num 0, false⟩]⟩,
  ⟨"ACQ_DROPPED_HI", 0x1180054, [(4, 0x400000), (8, 0x1000)], .cu, .cu, [⟨"VALUE", 31, 0, .ro, .num 0, false⟩]⟩,
  ⟨"ACQ_LAST_TRIG_LO", 0x1180058, [(4, 0x400000), (8, 0x1000)], .cu, .cu, [⟨"VALUE", 31, 0, .ro, .num 0, false⟩]⟩,
  ⟨"ACQ_LAST_TRIG_HI", 0x118005C, [(4, 0x400000), (8, 0x1000)], .cu, .cu, [⟨"VALUE", 31, 0, .ro, .num 0, false⟩]⟩,
  ⟨"ACQ_LAST_FRAC", 0x1180060, [(4, 0x400000), (8, 0x1000)], .cu, .cu, [⟨"FRAC", 3, 0, .ro, .num 0, false⟩, ⟨"FRAC_VALID", 4, 4, .ro, .num 0, false⟩]⟩,
  ⟨"STR_CTRL", 0x1180080, [(4, 0x400000), (8, 0x1000)], .cu, .cu, [⟨"ENABLE", 0, 0, .rl, .ret 0, false⟩]⟩,
  ⟨"STR_BASE_LO", 0x1180084, [(4, 0x400000), (8, 0x1000)], .cu, .cu, [⟨"BASE_LO", 31, 12, .rl, .ret 0, false⟩]⟩,
  ⟨"STR_BASE_HI", 0x1180088, [(4, 0x400000), (8, 0x1000)], .cu, .cu, [⟨"BASE_HI", 31, 0, .rl, .ret 0, false⟩]⟩,
  ⟨"STR_LEN", 0x118008C, [(4, 0x400000), (8, 0x1000)], .cu, .cu, [⟨"SIZE", 31, 12, .rw, .ret 0, false⟩]⟩,
  ⟨"STR_PROD", 0x1180090, [(4, 0x400000), (8, 0x1000)], .cu, .cu, [⟨"VALUE", 31, 0, .ro, .num 0, false⟩]⟩,
  ⟨"STR_CONS", 0x1180094, [(4, 0x400000), (8, 0x1000)], .cu, .cu, [⟨"VALUE", 31, 0, .rw, .num 0, false⟩]⟩,
  ⟨"STR_FLUSH", 0x1180098, [(4, 0x400000), (8, 0x1000)], .cu, .cu, [⟨"FLUSH", 15, 0, .rw, .ret 100, false⟩]⟩,
  ⟨"ACQ_LOCKED_WRITES", 0x1188000, [(4, 0x400000)], .kq, .none, [⟨"VALUE", 31, 0, .ro, .num 0, false⟩]⟩,
  ⟨"ACQ_BUSY_REJECTS", 0x1188004, [(4, 0x400000)], .kq, .none, [⟨"VALUE", 31, 0, .ro, .num 0, false⟩]⟩,
  ⟨"ACQ_K_CFG", 0x1188100, [(4, 0x400000), (16, 0x4)], .kq, .none, [⟨"DIR", 0, 0, .rw, .ret 0, false⟩, ⟨"TERM", 1, 1, .rw, .ret 1, false⟩, ⟨"EV_EN", 2, 2, .rw, .ret 0, false⟩, ⟨"EDGE", 4, 3, .rw, .ret 0, false⟩, ⟨"CHANNEL", 15, 8, .rw, .ret 0, false⟩]⟩,
  ⟨"ACQ_MASK_ADDR", 0x1188200, [(4, 0x400000)], .kq, .none, [⟨"ADDR", 10, 0, .rw, .num 0, false⟩]⟩,
  ⟨"ACQ_MASK_LO", 0x1188204, [(4, 0x400000)], .kq, .none, [⟨"VALUE", 31, 0, .rw, .num 0, false⟩]⟩,
  ⟨"ACQ_MASK_HI", 0x1188208, [(4, 0x400000)], .kq, .none, [⟨"VALUE", 31, 0, .rw, .num 0, false⟩]⟩,
  ⟨"ACQ_GRP_CTRL", 0x1189000, [(16, 0x10)], .grp, .grp, [⟨"EN", 0, 0, .rl, .ret 0, false⟩, ⟨"PARTITION", 3, 1, .rl, .ret 0, false⟩]⟩,
  ⟨"ACQ_GRP_LOCAL", 0x1189004, [(16, 0x10)], .grp, .grp, [⟨"MEMBERS", 31, 0, .ro, .num 0, false⟩]⟩]

/-- Registers of the ACQ block, part 3. -/
def RegMap.acq3 : List RegDesc := [
  ⟨"ACQ_GRP_NODES_LO", 0x1189008, [(16, 0x10)], .grp, .grp, [⟨"VALUE", 31, 0, .rl, .ret 0, false⟩]⟩,
  ⟨"ACQ_GRP_NODES_HI", 0x118900C, [(16, 0x10)], .grp, .grp, [⟨"VALUE", 31, 0, .rl, .ret 0, false⟩]⟩,
  ⟨"ACQ_FIRE_STALE", 0x1189100, [], .grp, .grp, [⟨"VALUE", 31, 0, .ro, .num 0, false⟩]⟩]

/-- Registers of the ACQ block. -/
def RegMap.acq : List RegDesc := RegMap.acq1 ++ RegMap.acq2 ++ RegMap.acq3

/-- Registers of the SEQ block, part 1. -/
def RegMap.seq1 : List RegDesc := [
  ⟨"SEQ_CTRL", 0x1200000, [(4, 0x400000), (40, 0x1000)], .seq, .seq, [⟨"ENABLE", 0, 0, .rl, .ret 0, false⟩, ⟨"GROUP", 7, 4, .rl, .ret 0, false⟩]⟩,
  ⟨"SEQ_STATUS", 0x1200004, [(4, 0x400000), (40, 0x1000)], .seq, .none, [⟨"STATE", 3, 0, .ro, .num 0, false⟩, ⟨"IN_REGION", 4, 4, .ro, .num 0, false⟩, ⟨"JUMP_LATCHED", 5, 5, .ro, .num 0, false⟩, ⟨"SEG_SHORT", 6, 6, .w1c, .num 0, false⟩, ⟨"SEG_OVERRUN", 7, 7, .w1c, .num 0, false⟩, ⟨"REGION_ABORT", 8, 8, .w1c, .num 0, false⟩, ⟨"BAD_REGION", 9, 9, .w1c, .num 0, false⟩, ⟨"REGION_OPEN", 10, 10, .w1c, .num 0, false⟩, ⟨"JUMP_OVERRUN", 11, 11, .w1c, .num 0, false⟩, ⟨"TESTWIN_IGNORED", 12, 12, .w1c, .num 0, false⟩, ⟨"BAD_INSTR", 13, 13, .w1c, .num 0, false⟩]⟩,
  ⟨"SEQ_PC", 0x1200008, [(4, 0x400000), (40, 0x1000)], .seq, .none, [⟨"PC", 23, 0, .ro, .num 0, false⟩]⟩,
  ⟨"SEQ_WIN", 0x120000C, [(4, 0x400000), (40, 0x1000)], .seq, .none, [⟨"WIN_A", 10, 0, .ro, .num 0, false⟩, ⟨"VALID_A", 11, 11, .ro, .num 0, false⟩, ⟨"WIN_B", 26, 16, .ro, .num 0, false⟩, ⟨"VALID_B", 27, 27, .ro, .num 0, false⟩]⟩,
  ⟨"SEQ_IMAGE_LO", 0x1200010, [(4, 0x400000), (40, 0x1000)], .seq, .seq, [⟨"IMAGE_LO", 31, 16, .rl, .ret 0, false⟩]⟩,
  ⟨"SEQ_IMAGE_HI", 0x1200014, [(4, 0x400000), (40, 0x1000)], .seq, .seq, [⟨"IMAGE_HI", 4, 0, .rl, .ret 0, false⟩]⟩,
  ⟨"SEQ_IMAGE_LEN", 0x1200018, [(4, 0x400000), (40, 0x1000)], .seq, .seq, [⟨"IMAGE_LEN", 24, 0, .rl, .ret 0, false⟩]⟩,
  ⟨"SEQ_ENTRY", 0x120001C, [(4, 0x400000), (40, 0x1000)], .seq, .seq, [⟨"ENTRY", 23, 0, .rl, .ret 0, false⟩]⟩,
  ⟨"SEQ_FIRST_REGION", 0x1200020, [(4, 0x400000), (40, 0x1000)], .seq, .seq, [⟨"FIRST_REGION", 23, 0, .rl, .ret 16777215, false⟩]⟩,
  ⟨"SEQ_MARK_WIDTH", 0x1200024, [(4, 0x400000), (40, 0x1000)], .seq, .seq, [⟨"MARK_WIDTH", 7, 0, .rw, .ret 8, false⟩]⟩,
  ⟨"SEQ_JUMP_VEC", 0x1200040, [(4, 0x400000), (40, 0x1000), (8, 0x4)], .seq, .seq, [⟨"VECTOR", 23, 0, .rsRun, .ret 0, false⟩]⟩,
  ⟨"SEQ_JUMP_REQ", 0x1200060, [(4, 0x400000), (40, 0x1000)], .seq, .none, [⟨"VECTOR", 2, 0, .wo, .num 0, false⟩, ⟨"REQ", 8, 8, .wo, .num 0, false⟩]⟩,
  ⟨"SEQ_JUMP_SRC", 0x1200064, [(4, 0x400000), (40, 0x1000)], .seq, .none, [⟨"CHANNEL", 7, 0, .rw, .ret 0, false⟩, ⟨"EVT_EN", 8, 8, .rw, .ret 0, false⟩, ⟨"EVT_VECTOR", 11, 9, .rw, .ret 0, false⟩]⟩,
  ⟨"SEQ_STALLS", 0x1200080, [(4, 0x400000), (40, 0x1000)], .seq, .none, [⟨"VALUE", 31, 0, .ro, .num 0, false⟩]⟩,
  ⟨"SEQ_STALL_TICKS_LO", 0x1200084, [(4, 0x400000), (40, 0x1000)], .seq, .none, [⟨"VALUE", 31, 0, .ro, .num 0, false⟩]⟩,
  ⟨"SEQ_STALL_TICKS_HI", 0x1200088, [(4, 0x400000), (40, 0x1000)], .seq, .none, [⟨"VALUE", 31, 0, .ro, .num 0, false⟩]⟩,
  ⟨"SEQ_FETCH_TICKS_LO", 0x120008C, [(4, 0x400000), (40, 0x1000)], .seq, .none, [⟨"VALUE", 31, 0, .ro, .num 0, false⟩]⟩,
  ⟨"SEQ_FETCH_TICKS_HI", 0x1200090, [(4, 0x400000), (40, 0x1000)], .seq, .none, [⟨"VALUE", 31, 0, .ro, .num 0, false⟩]⟩,
  ⟨"SEQ_REFILLS", 0x1200094, [(4, 0x400000), (40, 0x1000)], .seq, .none, [⟨"VALUE", 31, 0, .ro, .num 0, false⟩]⟩,
  ⟨"SEQ_REGION_ABORTS", 0x1200098, [(4, 0x400000), (40, 0x1000)], .seq, .none, [⟨"VALUE", 31, 0, .ro, .num 0, false⟩]⟩]

/-- Registers of the SEQ block, part 2. -/
def RegMap.seq2 : List RegDesc := [
  ⟨"SEQ_SEG_OVERRUNS", 0x120009C, [(4, 0x400000), (40, 0x1000)], .seq, .none, [⟨"VALUE", 31, 0, .ro, .num 0, false⟩]⟩,
  ⟨"SEQ_JUMPS", 0x12000A0, [(4, 0x400000), (40, 0x1000)], .seq, .none, [⟨"VALUE", 31, 0, .ro, .num 0, false⟩]⟩,
  ⟨"SEQ_JUMP_COALESCED", 0x12000A4, [(4, 0x400000), (40, 0x1000)], .seq, .none, [⟨"VALUE", 31, 0, .ro, .num 0, false⟩]⟩,
  ⟨"SEQ_V", 0x12000C0, [(4, 0x400000), (40, 0x1000), (16, 0x4)], .seq, .none, [⟨"VALUE", 15, 0, .ro, .num 0, false⟩]⟩,
  ⟨"SEQ_ACC_LO", 0x1200100, [(4, 0x400000), (40, 0x1000)], .seq, .none, [⟨"VALUE", 31, 0, .ro, .num 0, false⟩]⟩,
  ⟨"SEQ_ACC_HI", 0x1200104, [(4, 0x400000), (40, 0x1000)], .seq, .none, [⟨"VALUE", 7, 0, .ro, .num 0, false⟩]⟩,
  ⟨"SEQ_FLAGS", 0x1200108, [(4, 0x400000), (40, 0x1000)], .seq, .none, [⟨"ZERO", 0, 0, .ro, .num 0, false⟩, ⟨"NEG", 1, 1, .ro, .num 0, false⟩, ⟨"ACC_SAT", 2, 2, .ro, .num 0, false⟩, ⟨"V_SAT", 3, 3, .ro, .num 0, false⟩, ⟨"TIMEOUT", 4, 4, .ro, .num 0, false⟩, ⟨"MATCH", 5, 5, .ro, .num 0, false⟩, ⟨"COND_OVERWRITE", 6, 6, .w1c, .num 0, false⟩, ⟨"WIN_BUSY", 7, 7, .w1c, .num 0, false⟩, ⟨"SLIP", 8, 8, .w1c, .num 0, false⟩]⟩,
  ⟨"SEQ_COND", 0x120010C, [(4, 0x400000), (40, 0x1000)], .seq, .none, [⟨"SET", 15, 0, .ro, .num 0, false⟩, ⟨"VALUE", 31, 16, .ro, .num 0, false⟩]⟩,
  ⟨"SEQ_SLIPS", 0x1200110, [(4, 0x400000), (40, 0x1000)], .seq, .none, [⟨"VALUE", 31, 0, .ro, .num 0, false⟩]⟩,
  ⟨"SEQ_BAD_INSTRS", 0x1200114, [(4, 0x400000), (40, 0x1000)], .seq, .none, [⟨"VALUE", 31, 0, .ro, .num 0, false⟩]⟩,
  ⟨"SEQ_BAD_ADDR", 0x1200118, [(4, 0x400000), (40, 0x1000)], .seq, .none, [⟨"VALUE", 23, 0, .ro, .num 0, false⟩]⟩,
  ⟨"SEQ_LOCKED_WRITES", 0x1228000, [(4, 0x400000)], .kq, .none, [⟨"VALUE", 31, 0, .ro, .num 0, false⟩]⟩,
  ⟨"SEQ_BUSY_REJECTS", 0x1228004, [(4, 0x400000)], .kq, .none, [⟨"VALUE", 31, 0, .ro, .num 0, false⟩]⟩,
  ⟨"SEQ_K_SRC", 0x1228100, [(4, 0x400000), (16, 0x4)], .kq, .none, [⟨"SEQUENCER", 5, 0, .rw, .ret 0, false⟩, ⟨"BIT", 7, 6, .rw, .ret 0, false⟩, ⟨"ENABLE", 8, 8, .rw, .ret 0, false⟩]⟩,
  ⟨"PART_STATE", 0x1230000, [(5, 0x100)], .part, .part, [⟨"STATE", 2, 0, .ro, .num 0, false⟩, ⟨"START_MISSED", 3, 3, .w1c, .num 0, false⟩, ⟨"BARRIER_TIMEOUT", 4, 4, .w1c, .num 0, false⟩]⟩,
  ⟨"PART_CTRL", 0x1230004, [(5, 0x100)], .part, .part, [⟨"ARM", 0, 0, .wo, .num 0, false⟩, ⟨"STOP", 1, 1, .wo, .num 0, false⟩, ⟨"ABORT", 2, 2, .wo, .num 0, false⟩]⟩,
  ⟨"PART_START_LO", 0x1230008, [(5, 0x100)], .part, .part, [⟨"VALUE", 31, 0, .rl, .num 0, false⟩]⟩,
  ⟨"PART_START_HI", 0x123000C, [(5, 0x100)], .part, .part, [⟨"VALUE", 31, 0, .rl, .num 0, false⟩]⟩,
  ⟨"PART_SHOTS_LO", 0x1230010, [(5, 0x100)], .part, .part, [⟨"VALUE", 31, 0, .rl, .ret 0, false⟩]⟩,
  ⟨"PART_SHOTS_HI", 0x1230014, [(5, 0x100)], .part, .part, [⟨"VALUE", 15, 0, .rl, .ret 0, false⟩]⟩]

/-- Registers of the SEQ block, part 3. -/
def RegMap.seq3 : List RegDesc := [
  ⟨"PART_SHOT_PERIOD", 0x1230018, [(5, 0x100)], .part, .part, [⟨"PERIOD", 31, 0, .rl, .ret 0, false⟩]⟩,
  ⟨"PART_BARRIER_LAT", 0x123001C, [(5, 0x100)], .part, .part, [⟨"LAT", 15, 0, .rl, .ret 16, false⟩]⟩,
  ⟨"PART_BARRIER_TIMEOUT", 0x1230020, [(5, 0x100)], .part, .part, [⟨"TIMEOUT", 31, 0, .rl, .ret 1000000, false⟩]⟩,
  ⟨"PART_SHOT_NUM_LO", 0x1230024, [(5, 0x100)], .part, .part, [⟨"VALUE", 31, 0, .ro, .ret 0, false⟩]⟩,
  ⟨"PART_SHOT_NUM_HI", 0x1230028, [(5, 0x100)], .part, .part, [⟨"VALUE", 15, 0, .ro, .ret 0, false⟩]⟩]

/-- Registers of the SEQ block. -/
def RegMap.seq : List RegDesc := RegMap.seq1 ++ RegMap.seq2 ++ RegMap.seq3

/-- Registers of the BIAS block, part 1. -/
def RegMap.bias1 : List RegDesc := [
  ⟨"BIAS_CTRL", 0x1300000, [(4, 0x400000), (128, 0x1000)], .bias, .bias, [⟨"ENABLE", 0, 0, .rl, .ret 0, false⟩, ⟨"SPAN", 3, 1, .rl, .ret 0, false⟩, ⟨"LIMIT_ALL", 4, 4, .rw, .ret 1, false⟩, ⟨"SAFE_POL", 5, 5, .rw, .ret 0, true⟩, ⟨"AUTO_RESTORE", 6, 6, .rw, .ret 0, true⟩, ⟨"QMODE", 8, 7, .rl, .ret 0, false⟩]⟩,
  ⟨"BIAS_CODE", 0x1300004, [(4, 0x400000), (128, 0x1000)], .bias, .bias, [⟨"CODE", 19, 0, .rw, .ret 0, false⟩]⟩,
  ⟨"BIAS_OUT", 0x1300008, [(4, 0x400000), (128, 0x1000)], .bias, .bias, [⟨"OUT", 19, 0, .ro, .num 0, false⟩]⟩,
  ⟨"BIAS_SLEW", 0x130000C, [(4, 0x400000), (128, 0x1000)], .bias, .bias, [⟨"SLEW", 15, 0, .rw, .ret 1024, false⟩]⟩,
  ⟨"BIAS_QPERIOD", 0x1300010, [(4, 0x400000), (128, 0x1000)], .bias, .bias, [⟨"PERIOD", 19, 0, .rl, .ret 500, false⟩]⟩,
  ⟨"BIAS_QEVT", 0x1300014, [(4, 0x400000), (128, 0x1000)], .bias, .bias, [⟨"PACE_CHAN", 7, 0, .rw, .ret 0, false⟩, ⟨"START_CHAN", 15, 8, .rw, .ret 0, false⟩, ⟨"START_EV_EN", 16, 16, .rw, .ret 0, false⟩]⟩,
  ⟨"BIAS_QCMD", 0x1300018, [(4, 0x400000), (128, 0x1000)], .bias, .bias, [⟨"START", 0, 0, .wo, .num 0, false⟩, ⟨"STOP", 1, 1, .wo, .num 0, false⟩, ⟨"FLUSH", 2, 2, .wo, .num 0, false⟩, ⟨"RESTORE", 3, 3, .wo, .num 0, false⟩]⟩,
  ⟨"BIAS_STATUS", 0x130001C, [(4, 0x400000), (128, 0x1000)], .bias, .none, [⟨"ACTIVE", 0, 0, .ro, .num 0, false⟩, ⟨"RAMPING", 1, 1, .ro, .num 0, false⟩, ⟨"SPAN_CHANGING", 2, 2, .ro, .num 0, false⟩, ⟨"RESTORE_PENDING", 3, 3, .ro, .num 0, false⟩, ⟨"QRUN", 4, 4, .ro, .num 0, false⟩, ⟨"QFILL", 11, 5, .ro, .num 0, false⟩, ⟨"DARK", 12, 12, .ro, .ret 0, false⟩, ⟨"SHED", 13, 13, .ro, .num 0, false⟩, ⟨"COMPLIANCE", 14, 14, .ro, .num 0, false⟩, ⟨"OPEN_LOOP", 15, 15, .ro, .num 0, false⟩, ⟨"COMP_SEEN", 16, 16, .w1c, .num 0, false⟩, ⟨"OPEN_SEEN", 17, 17, .w1c, .num 0, false⟩, ⟨"UNDERRUN", 18, 18, .w1c, .num 0, false⟩, ⟨"QUEUE_FULL", 19, 19, .w1c, .num 0, false⟩, ⟨"PACE_OVERRUN", 20, 20, .w1c, .num 0, false⟩, ⟨"POWER_REFUSED", 21, 21, .w1c, .num 0, false⟩, ⟨"CODE_REFUSED", 22, 22, .w1c, .num 0, false⟩]⟩,
  ⟨"BIAS_COMP_WINDOW", 0x1300020, [(4, 0x400000), (128, 0x1000)], .bias, .bias, [⟨"WINDOW", 15, 0, .rw, .ret 100, true⟩]⟩,
  ⟨"BIAS_UNDERRUNS", 0x1300024, [(4, 0x400000), (128, 0x1000)], .bias, .bias, [⟨"VALUE", 31, 0, .ro, .num 0, false⟩]⟩,
  ⟨"BIAS_QFULL", 0x1300028, [(4, 0x400000), (128, 0x1000)], .bias, .bias, [⟨"VALUE", 31, 0, .ro, .num 0, false⟩]⟩,
  ⟨"BIAS_COALESCED", 0x130002C, [(4, 0x400000), (128, 0x1000)], .bias, .bias, [⟨"VALUE", 31, 0, .ro, .num 0, false⟩]⟩,
  ⟨"BIAS_CAL_OFFSET", 0x1300030, [(4, 0x400000), (128, 0x1000)], .bias, .none, [⟨"BOFFSET", 15, 0, .ro, .num 0, false⟩]⟩,
  ⟨"BIAS_CAL_GAIN", 0x1300034, [(4, 0x400000), (128, 0x1000)], .bias, .none, [⟨"BGAIN", 23, 0, .ro, .num 4194304, false⟩]⟩,
  ⟨"BIAS_LOCKED_WRITES", 0x1300800, [(4, 0x400000)], .biasq, .none, [⟨"VALUE", 31, 0, .ro, .num 0, false⟩]⟩,
  ⟨"BIAS_BUSY_REJECTS", 0x1300804, [(4, 0x400000)], .biasq, .none, [⟨"VALUE", 31, 0, .ro, .num 0, false⟩]⟩,
  ⟨"BIAS_QSTART", 0x1300810, [(4, 0x400000), (4, 0x4)], .biasq, .none, [⟨"START", 31, 0, .wo, .num 0, false⟩]⟩]

/-- Registers of the BIAS block. -/
def RegMap.bias : List RegDesc := RegMap.bias1

/-- Registers of the MON block, part 1. -/
def RegMap.mon1 : List RegDesc := [
  ⟨"MON_CTRL", 0x1380000, [(4, 0x400000), (16, 0x1000)], .mon, .mon, [⟨"ENABLE", 0, 0, .rl, .ret 0, false⟩, ⟨"START_SRC", 2, 1, .rl, .ret 0, false⟩, ⟨"SEQ_LEN", 5, 3, .rl, .ret 0, false⟩, ⟨"INJ_EV_EN", 6, 6, .rl, .ret 0, false⟩, ⟨"START_CHAN", 15, 8, .rl, .ret 0, false⟩, ⟨"INJ_CHAN", 23, 16, .rl, .ret 0, false⟩]⟩,
  ⟨"MON_TIMER", 0x1380004, [(4, 0x400000), (16, 0x1000)], .mon, .mon, [⟨"PERIOD", 31, 0, .rl, .ret 1000000, false⟩]⟩,
  ⟨"MON_DELAY", 0x1380008, [(4, 0x400000), (16, 0x1000)], .mon, .mon, [⟨"DELAY", 15, 0, .rl, .ret 0, false⟩]⟩,
  ⟨"MON_BURST", 0x138000C, [(4, 0x400000), (16, 0x1000)], .mon, .mon, [⟨"BURST", 15, 0, .rl, .ret 1, false⟩]⟩,
  ⟨"MON_CMD", 0x1380010, [(4, 0x400000), (16, 0x1000)], .mon, .mon, [⟨"START", 0, 0, .wo, .num 0, false⟩, ⟨"STOP", 1, 1, .wo, .num 0, false⟩, ⟨"INJECT", 2, 2, .wo, .num 0, false⟩]⟩,
  ⟨"MON_STATUS", 0x1380014, [(4, 0x400000), (16, 0x1000)], .mon, .none, [⟨"ACTIVE", 0, 0, .ro, .num 0, false⟩, ⟨"BUSY", 1, 1, .ro, .num 0, false⟩, ⟨"INJ_PENDING", 2, 2, .ro, .num 0, false⟩, ⟨"HELD", 3, 3, .ro, .num 0, false⟩, ⟨"OVERRUN", 4, 4, .w1c, .num 0, false⟩, ⟨"START_OVERRUN", 5, 5, .w1c, .num 0, false⟩, ⟨"INJ_OVERRUN", 6, 6, .w1c, .num 0, false⟩, ⟨"CLIP", 7, 7, .w1c, .num 0, false⟩, ⟨"POWER_REFUSED", 8, 8, .w1c, .num 0, false⟩, ⟨"DARK", 9, 9, .ro, .ret 0, false⟩, ⟨"SHED", 10, 10, .ro, .num 0, false⟩]⟩,
  ⟨"MON_ELEM", 0x1380020, [(4, 0x400000), (16, 0x1000), (8, 0x4)], .mon, .mon, [⟨"SRC", 1, 0, .rl, .ret 0, false⟩, ⟨"BIAS", 8, 2, .rl, .ret 0, false⟩, ⟨"RANGE", 10, 9, .rl, .ret 0, false⟩]⟩,
  ⟨"MON_INJ_ELEM", 0x1380040, [(4, 0x400000), (16, 0x1000)], .mon, .mon, [⟨"SRC", 1, 0, .rl, .ret 0, false⟩, ⟨"BIAS", 8, 2, .rl, .ret 0, false⟩, ⟨"RANGE", 10, 9, .rl, .ret 0, false⟩]⟩,
  ⟨"MON_DATA_LO", 0x1380044, [(4, 0x400000), (16, 0x1000)], .mon, .none, [⟨"CODE", 17, 0, .ro, .num 0, false⟩, ⟨"VALID", 18, 18, .ro, .num 0, false⟩, ⟨"OVERRUN", 19, 19, .ro, .num 0, false⟩, ⟨"INJ", 20, 20, .ro, .num 0, false⟩, ⟨"PRE_CAL", 21, 21, .ro, .num 0, false⟩, ⟨"UNSETTLED", 22, 22, .ro, .num 0, false⟩, ⟨"UNCAL", 23, 23, .ro, .num 0, false⟩, ⟨"CLIP", 24, 24, .ro, .num 0, false⟩, ⟨"ELEM", 27, 25, .ro, .num 0, false⟩]⟩,
  ⟨"MON_DATA_HI", 0x1380048, [(4, 0x400000), (16, 0x1000)], .mon, .none, [⟨"STAMP", 31, 0, .ro, .num 0, false⟩]⟩,
  ⟨"MON_CAL_OFFSET", 0x138004C, [(4, 0x400000), (16, 0x1000)], .mon, .mon, [⟨"OFFSET", 15, 0, .rw, .num 0, false⟩]⟩,
  ⟨"MON_CAL_GAIN", 0x1380050, [(4, 0x400000), (16, 0x1000)], .mon, .mon, [⟨"GAIN", 23, 0, .rw, .num 4194304, false⟩]⟩,
  ⟨"MON_MISSED", 0x1380054, [(4, 0x400000), (16, 0x1000)], .mon, .mon, [⟨"VALUE", 31, 0, .ro, .num 0, false⟩]⟩,
  ⟨"MON_COALESCED", 0x1380058, [(4, 0x400000), (16, 0x1000)], .mon, .mon, [⟨"VALUE", 31, 0, .ro, .num 0, false⟩]⟩,
  ⟨"MON_OVERRUNS", 0x138005C, [(4, 0x400000), (16, 0x1000)], .mon, .mon, [⟨"VALUE", 31, 0, .ro, .num 0, false⟩]⟩,
  ⟨"MON_LOCKED_WRITES", 0x1390000, [(4, 0x400000)], .monq, .none, [⟨"VALUE", 31, 0, .ro, .num 0, false⟩]⟩,
  ⟨"MON_BUSY_REJECTS", 0x1390004, [(4, 0x400000)], .monq, .none, [⟨"VALUE", 31, 0, .ro, .num 0, false⟩]⟩,
  ⟨"MON_REF", 0x1390008, [(4, 0x400000)], .monq, .none, [⟨"SEL", 1, 0, .rw, .ret 0, true⟩]⟩,
  ⟨"MON_REF_STATUS", 0x139000C, [(4, 0x400000)], .monq, .none, [⟨"SETTLING", 0, 0, .ro, .num 0, false⟩, ⟨"EXT_FAULT", 1, 1, .ro, .num 0, false⟩]⟩,
  ⟨"MON_CAL_CTRL", 0x1390010, [(4, 0x400000)], .monq, .none, [⟨"START", 0, 0, .wo, .num 0, false⟩]⟩]

/-- Registers of the MON block, part 2. -/
def RegMap.mon2 : List RegDesc := [
  ⟨"MON_CAL_STATUS", 0x1390014, [(4, 0x400000)], .monq, .none, [⟨"BUSY", 0, 0, .ro, .num 0, false⟩, ⟨"CAL_VALID", 1, 1, .ro, .num 0, false⟩, ⟨"WAITING", 2, 2, .ro, .num 0, false⟩]⟩,
  ⟨"MON_TDAC", 0x1390018, [(4, 0x400000)], .monq, .none, [⟨"CODE", 11, 0, .rw, .ret 2048, true⟩]⟩,
  ⟨"MON_COMMON_CTRL", 0x1390100, [], .monc, .none, [⟨"SRC", 1, 0, .rw, .ret 0, true⟩, ⟨"CHANNEL", 15, 8, .rw, .ret 0, true⟩]⟩,
  ⟨"MON_COMMON_PERIOD", 0x1390104, [], .monc, .none, [⟨"PERIOD", 31, 0, .rw, .ret 0, true⟩]⟩,
  ⟨"MON_COMMON_CMD", 0x1390108, [], .monc, .none, [⟨"FIRE", 0, 0, .wo, .num 0, true⟩, ⟨"RUN", 1, 1, .wo, .num 0, true⟩, ⟨"HALT", 2, 2, .wo, .num 0, true⟩]⟩]

/-- Registers of the MON block. -/
def RegMap.mon : List RegDesc := RegMap.mon1 ++ RegMap.mon2

/-- Registers of the DEC block, part 1. -/
def RegMap.dec1 : List RegDesc := [
  ⟨"DEC_STATUS", 0x2000000, [], .dec, .anyPart, [⟨"ROLE", 1, 0, .ro, .num 0, false⟩, ⟨"TABLE_ECC", 2, 2, .w1c, .num 0, false⟩, ⟨"ACK_TIMEOUT", 3, 3, .w1c, .num 0, false⟩]⟩,
  ⟨"DEC_COMET_CFG", 0x2000004, [], .dec, .anyPart, [⟨"ACK_THRESH", 11, 0, .rw, .ret 256, false⟩, ⟨"ACK_INTERVAL", 27, 12, .rw, .ret 256, false⟩]⟩,
  ⟨"DEC_DECODER", 0x2000008, [], .dec, .anyPart, [⟨"NODE", 5, 0, .rl, .ret 0, false⟩, ⟨"TWIN", 6, 6, .rl, .ret 0, false⟩, ⟨"EN", 7, 7, .rl, .ret 0, false⟩]⟩,
  ⟨"DEC_LOCKED_WRITES", 0x2000010, [], .pf0, .none, [⟨"COUNT", 31, 0, .ro, .num 0, false⟩]⟩,
  ⟨"DEC_BUSY_REJECTS", 0x2000014, [], .pf0, .none, [⟨"COUNT", 31, 0, .ro, .num 0, false⟩]⟩,
  ⟨"DEC_LOOKUPS_LO", 0x2000018, [], .pf0, .none, [⟨"COUNT", 31, 0, .ro, .num 0, false⟩]⟩,
  ⟨"DEC_LOOKUPS_HI", 0x200001C, [], .pf0, .none, [⟨"COUNT", 31, 0, .ro, .num 0, false⟩]⟩,
  ⟨"DEC_EMPTY_HITS", 0x2000020, [], .pf0, .none, [⟨"COUNT", 31, 0, .ro, .num 0, false⟩]⟩,
  ⟨"DEC_BAD_ACTIONS", 0x2000024, [], .pf0, .none, [⟨"COUNT", 31, 0, .ro, .num 0, false⟩]⟩,
  ⟨"DEC_CHAIN_LOOKUPS", 0x2000028, [], .pf0, .none, [⟨"COUNT", 31, 0, .ro, .num 0, false⟩]⟩,
  ⟨"DEC_GATHER_TIMEOUTS", 0x200002C, [], .pf0, .none, [⟨"COUNT", 31, 0, .ro, .num 0, false⟩]⟩,
  ⟨"DEC_GATHER_OVERWRITES", 0x2000030, [], .pf0, .none, [⟨"COUNT", 31, 0, .ro, .num 0, false⟩]⟩,
  ⟨"DEC_COMET_SENT_LO", 0x2000034, [], .pf0, .none, [⟨"COUNT", 31, 0, .ro, .num 0, false⟩]⟩,
  ⟨"DEC_COMET_SENT_HI", 0x2000038, [], .pf0, .none, [⟨"COUNT", 31, 0, .ro, .num 0, false⟩]⟩,
  ⟨"DEC_COMET_APPLIED_LO", 0x200003C, [], .pf0, .none, [⟨"COUNT", 31, 0, .ro, .num 0, false⟩]⟩,
  ⟨"DEC_COMET_APPLIED_HI", 0x2000040, [], .pf0, .none, [⟨"COUNT", 31, 0, .ro, .num 0, false⟩]⟩,
  ⟨"DEC_COMET_STALE", 0x2000044, [], .pf0, .none, [⟨"COUNT", 31, 0, .ro, .num 0, false⟩]⟩,
  ⟨"DEC_COMET_DUPLICATES", 0x2000048, [], .pf0, .none, [⟨"COUNT", 31, 0, .ro, .num 0, false⟩]⟩,
  ⟨"DEC_COMET_LOST", 0x200004C, [], .pf0, .none, [⟨"COUNT", 31, 0, .ro, .num 0, false⟩]⟩,
  ⟨"DEC_COMET_WINDOW_STALLS", 0x2000050, [], .pf0, .none, [⟨"COUNT", 31, 0, .ro, .num 0, false⟩]⟩]

/-- Registers of the DEC block, part 2. -/
def RegMap.dec2 : List RegDesc := [
  ⟨"DEC_COMET_MAX_HOP", 0x2000054, [], .pf0, .none, [⟨"COUNT", 31, 0, .ro, .num 0, false⟩]⟩,
  ⟨"DEC_UPD_STALE", 0x2000058, [], .pf0, .none, [⟨"COUNT", 31, 0, .ro, .num 0, false⟩]⟩,
  ⟨"DEC_UPD_REJECTS", 0x200005C, [], .pf0, .none, [⟨"COUNT", 31, 0, .ro, .num 0, false⟩]⟩,
  ⟨"DEC_SYND_STALLS", 0x2000060, [], .pf0, .none, [⟨"COUNT", 31, 0, .ro, .num 0, false⟩]⟩,
  ⟨"DEC_TWIN_MISMATCHES", 0x2000064, [], .pf0, .none, [⟨"COUNT", 31, 0, .ro, .num 0, false⟩]⟩,
  ⟨"DEC_ROUTE", 0x2001000, [(1024, 0x4)], .route, .route, [⟨"MODE", 1, 0, .rl, .ret 0, false⟩, ⟨"INV_AS", 3, 2, .rl, .ret 0, false⟩, ⟨"LEAK_BIT", 4, 4, .rl, .ret 0, false⟩, ⟨"FLIP_EN", 5, 5, .rl, .ret 0, false⟩, ⟨"FLIP_FRAME", 15, 6, .rl, .ret 0, false⟩, ⟨"GU", 21, 16, .rl, .ret 0, false⟩, ⟨"POS", 27, 22, .rl, .ret 0, false⟩, ⟨"WIDTH", 28, 28, .rl, .ret 0, false⟩]⟩,
  ⟨"GU_CTRL", 0x2002000, [(64, 0x20)], .gu, .gu, [⟨"EN", 0, 0, .rl, .ret 0, false⟩, ⟨"PARTITION", 3, 1, .rl, .ret 0, false⟩, ⟨"KEY_BITS", 7, 4, .rl, .ret 0, false⟩, ⟨"LOOKUP", 8, 8, .rl, .ret 0, false⟩, ⟨"XOR_PREV", 9, 9, .rl, .ret 0, false⟩, ⟨"CLEAR_AT_SHOT", 10, 10, .rl, .ret 0, false⟩, ⟨"SYND", 11, 11, .rl, .ret 0, false⟩, ⟨"DONE_EN", 12, 12, .rl, .ret 0, false⟩, ⟨"LATE_EN", 13, 13, .rl, .ret 0, false⟩]⟩,
  ⟨"GU_BASE", 0x2002004, [(64, 0x20)], .gu, .gu, [⟨"BASE", 15, 9, .rl, .ret 0, false⟩]⟩,
  ⟨"GU_TIMEOUT", 0x2002008, [(64, 0x20)], .gu, .gu, [⟨"TIMEOUT", 15, 0, .rl, .ret 0, false⟩]⟩,
  ⟨"GU_DEADLINE", 0x200200C, [(64, 0x20)], .gu, .gu, [⟨"DEADLINE", 19, 0, .rl, .ret 0, false⟩]⟩,
  ⟨"GU_ENTRIES", 0x2002010, [(64, 0x20)], .gu, .gu, [⟨"DONE_ENTRY", 15, 0, .rl, .ret 0, false⟩, ⟨"LATE_ENTRY", 31, 16, .rl, .ret 0, false⟩]⟩,
  ⟨"GU_STATUS", 0x2002014, [(64, 0x20)], .gu, .gu, [⟨"ROUND", 15, 0, .ro, .num 0, false⟩, ⟨"OUTSTANDING", 31, 16, .ro, .num 0, false⟩]⟩,
  ⟨"GU_PREV_LO", 0x2002018, [(64, 0x20)], .gu, .gu, [⟨"VALUE", 31, 0, .ro, .num 0, false⟩]⟩,
  ⟨"GU_PREV_HI", 0x200201C, [(64, 0x20)], .gu, .gu, [⟨"VALUE", 31, 0, .ro, .num 0, false⟩]⟩,
  ⟨"DEC_PAULI", 0x2003000, [(64, 0x4)], .pauli, .none, [⟨"XZ", 31, 0, .ro, .num 0, false⟩]⟩,
  ⟨"DEC_COMET_TX", 0x2004000, [(320, 0x8)], .pauli, .none, [⟨"NEXT", 11, 0, .ro, .num 0, false⟩, ⟨"ACKED", 27, 16, .ro, .num 0, false⟩]⟩,
  ⟨"DEC_COMET_RX", 0x2004004, [(320, 0x8)], .pauli, .none, [⟨"EXPECTED", 11, 0, .ro, .num 0, false⟩]⟩]

/-- Registers of the DEC block. -/
def RegMap.dec : List RegDesc := RegMap.dec1 ++ RegMap.dec2

/-- The rows of the block that holds address `a` (the address map of R18). -/
def RegMap.block (a : Nat) : List RegDesc :=
  if a < 0x100000 then RegMap.hrt
  else if a < 0x200000 then RegMap.int
  else if a < 0x300000 then RegMap.evr
  else if a < 0x400000 then RegMap.tim
  else if a < 0x500000 then RegMap.pwr
  else if a < 0x600000 then RegMap.sec
  else if a < 0x700000 then RegMap.hif
  else if a < 0x800000 then RegMap.fab
  else if a < 0xA00000 then RegMap.mem
  else if a < 0xC00000 then RegMap.bst
  else if a < 0x1000000 then RegMap.log
  else if 0x2000000 ≤ a then RegMap.dec
  else match (a / 0x80000) % 8 with
    | 0 => RegMap.drv
    | 1 => RegMap.flx
    | 2 => RegMap.rdo
    | 3 => RegMap.acq
    | 6 => RegMap.bias
    | 7 => RegMap.mon
    | _ => RegMap.seq

/-- The indices that offset `r` from a register's base stands for, or `none` if it is no instance of it. -/
def dimIdx : List (Nat × Nat) → Nat → Option (List Nat)
  | [], r => if r = 0 then some [] else none
  | (n, st) :: ds, r =>
    if r / st < n then (dimIdx ds (r % st)).map (fun l => r / st :: l) else none

/-- The register at address `a` among the rows, with its indices. -/
def RegMap.find : List RegDesc → Nat → Option (RegDesc × List Nat)
  | [], _ => none
  | r :: rs, a =>
    if a < r.base then RegMap.find rs a
    else match dimIdx r.dims (a - r.base) with
      | some ix => some (r, ix)
      | none => RegMap.find rs a

/-- The register at PF0 BAR0 address `a`, with its indices; `none` where the map lists nothing. -/
def regAt (a : Nat) : Option (RegDesc × List Nat) :=
  RegMap.find (RegMap.block a) a

end Sys2Proof
end

