-- ==== Sys2Proof/Machine/State.lean ====
section
/-!
DEFINITION. Machine/State.lean: everything that the spec gives the machine to hold, as plain data. The
registers of the register map stand in one table by address; what the spec keeps beside them (counts,
stores, queues, stacks, pins, mirrored copies) stands in one structure per block. Sets of numbers and
families of objects are sparse tables by number; the value an unlisted number has is named `zero`.
-/

namespace Sys2Proof.Machine
open Sys2Proof

/-- Reasons for which a step stops the machine. The spec describes an effect for every command, so no
meaning raises one; the constructor keeps the type inhabited. Safe: a stop proves nothing false. -/
inductive Fault
  /-- Raised by no meaning. Safe. -/
  | none
  deriving DecidableEq, Repr

/-- Reasons for which a step has no meaning to run. -/
inductive Refusal
  /-- Raised by an arm of `exec` whose command has no meaning yet. Safe: nothing is claimed of it. -/
  | notModelled (mnemonic : String)
  deriving DecidableEq, Repr

/-! ### Time (R46–R80) -/

/-- A time domain: its offset from the module count (R50), and an accepted anchor request that waits for
the last-bit edge of its frame (R693): the value and the epoch it will take. -/
structure Dom where
  off : W64
  pend : Option (W64 × Nat)
  deriving DecidableEq, Repr
def Dom.zero : Dom := ⟨0, none⟩

/-- An anchor frame of TIMING LINK OUT (R58): its 104 bits, and the module count at the reference edge at which bit 0
leaves. -/
structure AFrame where
  bits : BitVec 104
  start : Nat
  deriving DecidableEq, Repr

structure Tim where
  /-- the module count of R47 in 62.5 ps units, interpolated between its edges. It is kept without end: the counts that the
  module shows are this one modulo 2^64 (R48) -/
  texp : Nat
  /-- the module count at the last edge that stepped it: a reference edge, or while the reference is lost one of the
  always-on clock (R47, R62) -/
  edge : Nat
  /-- a valid reference stands at REF IN: restored, and not lost since (R62, R63) -/
  refIn : Bool
  /-- SKEW in effect since the last alignment pulse (R61, R69) -/
  skew : Nat
  doms : Tab Dom
  /-- frames that have been given to TIMING LINK OUT, oldest first -/
  linkOut : List AFrame
  /-- received frames that wait to be forwarded (R60) -/
  fwd : List AFrame
  /-- wall time in nanoseconds since the PTP epoch, and its fraction in 2^-44 ns (R64) -/
  wallNs : Nat
  wallFrac : Nat
  /-- the step permission of R66 -/
  stepOk : Bool
  /-- consecutive valid offset measurements (FREE), or Sync messages below 1 µs (ACQUIRING) -/
  nValid : Nat
  /-- a pulse of PPS OUT is in progress (R68) -/
  ppsOut : Bool
  /-- alignment pulses made since the alignment began (R71); none while no alignment runs -/
  tries : Option Nat
  /-- TIME_ALIGN command that waits for it -/
  alignOwed : Option (Nat × Nat)
  /-- trigger units: 0 armed, 1 the target was already past (R77), 2 fired and not periodic; and the module count of
  the first tick on which the unit may fire -/
  ttu : Tab Nat
  ttuFrom : Tab Nat
  /-- capture units: the tick of the last capture, plus 1 (R80) -/
  tcuAt : Tab Nat
  deriving DecidableEq, Repr

/-! ### Output channels: drive, probe and flux -/

/-- A play in progress on a lane (R99–R102): the descriptor's values when it was issued, the first
sample and sub-sample place, the scale S, and the Pauli row. -/
structure Play where
  /-- first envelope sample's address within the quadrant, number of samples, and interpolation factor L -/
  start : Nat
  len : Nat
  l : Nat
  /-- T_s in T_exp units of the partition's domain, and f in 1/16 sample -/
  ts : Nat
  f : Nat
  s : Int
  pauli : Nat
  /-- T_exp from which a play cut short contributes nothing; none for a whole one -/
  cut : Option Nat
  /-- counted as a muted play (R118) -/
  muted : Bool
  deriving DecidableEq, Repr

/-- A frame or tone oscillator: live F and P (R72), and the values that earlier samples of the present tick
still have: (sample from which they no longer hold, F, P), oldest first. -/
structure Osc where
  f : Nat
  p : Nat
  old : List (Nat × Nat × Nat)
  deriving DecidableEq, Repr
def Osc.zero : Osc := ⟨0, 0, []⟩

/-- The analogue and guard state of a drive or probe output (R109–R118). -/
structure Outp where
  /-- the heat mean m of R111, 48 bits -/
  heat : Nat
  /-- the mute's release is complete -/
  released : Bool
  /-- T_exp at which a release in progress is complete; none while the mute is engaged -/
  unmuteAt : Option Nat
  /-- the code at the DAC -/
  code : Int
  /-- quiet by a region abort until the abort target's first instruction executes (R118) -/
  aborted : Bool
  deriving DecidableEq, Repr
def Outp.zero : Outp := ⟨0, false, none, 0, false⟩

/-- A spare group (R119–R126): the copy in progress, who waits for it, and the failed part that it replaces. -/
structure Spare where
  /-- channel that a TRANSFER copies, and whether Hearth's self-test asked for it -/
  copyTo : Option Nat
  forTest : Bool
  /-- completion owed to a command: its submission queue and tag -/
  owed : Option (Nat × Nat)
  /-- datapaths held out of service while the self-test judges them (R569) -/
  held : List Nat
  /-- channels DARK for want of this spare, in the order in which they failed (R124) -/
  waiting : List Nat
  deriving DecidableEq, Repr
def Spare.zero : Spare := ⟨none, false, none, [], []⟩

/-- A flux channel: level, predistortion history (R143–R145), ramp and output. -/
structure Flx where
  /-- the level H of R140, and the level that the second sample of the present tick takes (R226) -/
  h : Int
  h1 : Option Int
  /-- last input and output of each IIR section -/
  iir : Tab (Int × Int)
  /-- the FIR delay line, newest first -/
  fir : List Int
  /-- a ramp of R150: x0, x1, N, and the number of samples made -/
  ramp : Option (Int × Int × Nat × Nat)
  /-- the chain input of the last sample, and the code at the DAC -/
  x : Int
  code : Int
  /-- quiet by a region abort until the abort target's first instruction executes (R142) -/
  aborted : Bool
  /-- command that waits for the ramp -/
  owed : Option (Nat × Nat)
  deriving DecidableEq, Repr
def Flx.zero : Flx := ⟨0, none, [], [], none, 0, 0, false, none⟩

/-- Drive, probe and flux synthesis. Drive outputs are numbered 0–127, probe outputs 128–159. -/
structure Syn where
  /-- envelope samples by quadrant × 2^21 + address; I in bits 15:0, Q in bits 31:16 -/
  env : Tab Word
  /-- live frames by local frame number, and live tones by 1024 + tone -/
  osc : Tab Osc
  /-- plays by lane: 8 × drive channel + lane; 1024 + tone; 2048 + 2 × flux channel + lane -/
  play : Tab (List Play)
  outp : Tab Outp
  flx : Tab Flx
  /-- spare groups: 0–15 drive, 16–31 flux, 32–39 probe, 40–47 acquisition -/
  spare : Tab Spare
  /-- errors of each datapath in MTIME: last two (R568, R569), by 0–127 D, 128–159 P, 160–287 Z, 288–319 A -/
  errs : Tab (List Nat)
  /-- the level of the external mute input (R116) -/
  extMute : Bool
  deriving DecidableEq, Repr

/-! ### Sequencers and partitions -/

/-- An entry of a shot's result record (R271): END, TONE, and its one or two words. -/
structure RecEnt where
  end_ : Nat
  tone : Nat
  words : List W64
  deriving DecidableEq, Repr

/-- An effect that an executed instruction has at its timeline tick (R207). -/
inductive Eff
  /-- a play request, due when it is issued, 76 ticks before its timeline tick (R119, R277) -/
  | playReq (lane desc sub : Nat) (amp : Int) (pauli : Bool)
  /-- the play that a request has issued, due at its timeline tick -/
  | playOn (lane : Nat) (pl : Play)
  | freq (slot off v : Nat)
  | phaseAdd (slot off v : Nat)
  | phaseSet (slot off v : Nat)
  | frameReset (slots off : Nat)
  | level (h : Int) (fs : Nat)
  | acquire (tones len : Nat) (early : Bool)
  | seg (m : Nat)
  | testwin (w : Nat)
  /-- a member reaches a barrier of this kind -/
  | arrive (kind : Nat)
  deriving DecidableEq, Repr

/-- A store half (R180–R183): the window it holds, the window being refilled into it, and whether that
refill is suspended by a region (R182). -/
structure Half where
  win : Option Nat
  fill : Option Nat
  susp : Bool
  deriving DecidableEq, Repr

/-- A WAIT_COND in progress (R236). -/
structure Wc where
  mask : Nat
  pat : Nat
  target : Nat
  cons : Bool
  tw : Nat
  tmo : Option Nat
  next : Nat
  deriving DecidableEq, Repr

/-- The region a sequencer is entering or inside (R186): start, length, abort target. -/
structure Region where
  start : Nat
  len : Nat
  abort : Nat
  deriving DecidableEq, Repr

/-- A region that the executed instructions have left (R189, R194, R207): which one of its group it was since the run start,
and the timeline ticks on which it began and ends. -/
structure LeftRegion where
  reg : Region
  no : Nat
  beg : Nat
  fin : Nat
  deriving DecidableEq, Repr

structure Seq where
  /-- address of the next instruction -/
  pc : Nat
  /-- address of the last issued instruction (SEQ_PC) -/
  last : Nat
  /-- SEQ_STATUS.STATE -/
  st : Nat
  sub : List Nat
  loops : List (Nat × Nat)
  v : Tab (BitVec 16)
  acc : BitVec 40
  zero : Bool
  neg : Bool
  accSat : Bool
  vSat : Bool
  timeout : Bool
  mtch : Bool
  set : BitVec 16
  value : BitVec 16
  /-- T_exp tick on which each flag was last raised (R233) -/
  cfAt : Tab Nat
  /-- the tick of each flag's last raise, and its place in the order of R302 -/
  cfBy : Tab (Nat × Nat)
  /-- timeline tick of the next instruction, in ticks of the domain (R207) -/
  tau : Nat
  /-- first tick on which the next instruction may execute -/
  ready : Nat
  /-- executions left of a REPEAT's instruction -/
  rep : Option Nat
  /-- the segment in progress: start tick, and end if declared (R166) -/
  seg : Option (Nat × Option Nat)
  /-- latched jump request: vector and timeline tick of its arrival (R192, R208) -/
  jump : Option (Nat × Nat)
  /-- the region entered, and whether the entry is still a barrier -/
  region : Option Region
  entering : Bool
  a : Half
  b : Half
  /-- window named by the last PREFETCH (R181) -/
  pref : Option Nat
  /-- tick on which a fetch wait began (R183) -/
  fetchAt : Option Nat
  wc : Option Wc
  /-- close tick of an open test window (R197), and how many swaps each spare group has made in it -/
  testwin : Option Nat
  winSwaps : List Nat
  /-- marker signals that are high: the tick on which each falls (R195) -/
  mark : Tab Nat
  /-- effects that wait for their timeline tick, in program order -/
  eff : List (Nat × Eff)
  /-- before the first SHOT_START of the run (R212) -/
  first : Bool
  /-- at an abort target, where an error ends the run (R244) -/
  atAbort : Bool
  /-- held at a region entry (R188): SEQ_STATUS.STATE HOLD, until the release tick -/
  hold : Bool
  /-- a region abort is on its way to it: the first tick on which it takes place (R189), and its abort target -/
  abortIn : Option Nat
  abortTo : Nat
  /-- the region entered: which one of its group it is since the run start, and the timeline tick on which it begins; and
  the regions left whose end the T_exp tick had not reached at the last segment (R189, R194, R207) -/
  regNo : Nat
  regBeg : Nat
  left : List LeftRegion
  /-- timeline tick on which the last REPEAT began, and those on which earlier ones of the segment began and ended (R231) -/
  repBeg : Nat
  reps : List (Nat × Nat)
  /-- the next instruction is the target of a taken jump request, and must be a SEGMENT (R193) -/
  vec : Bool
  deriving DecidableEq, Repr
def Half.empty : Half := ⟨none, none, false⟩
def Seq.init : Seq :=
  ⟨0, 0, 0, [], [], [], 0, false, false, false, false, false, false, 0, 0, [], [], 0, 0, none, none, none, none, false,
   .empty, .empty, none, none, none, none, [], [], [], false, false, false, none, 0, 0, 0, [], 0, [], false⟩

/-- One barrier in progress (R174): its kind (0 SHOT_START, 1 SHOT_END, 2 SYNC, 3 REGION_BEGIN) and group. -/
structure Bar where
  kind : Nat
  grp : Nat
  /-- local members that have arrived: member, arrival tick, ready on arrival; and those that became ready later -/
  arr : List (Nat × Nat × Bool)
  rdy : List (Nat × Nat)
  /-- notices of other nodes (R487): node, arrival tick, and the ready tick once a notice has READY -/
  nodes : List (Nat × Nat × Option Nat)
  /-- timeline tick on which this module learned that another node's members arrived not ready (R188, R208) -/
  holdFrom : Option Nat
  /-- the earliest arrival tick, for the timeout of R178 -/
  since : Nat
  /-- the computed release tick, once every needed notice has been learned -/
  rel : Option Nat
  /-- the tick on which this module's members count as arrived at a SHOT_START, once R273 has settled it -/
  own : Option Nat
  /-- the local notices of R488 have been sent: the arrival's, and the one with READY -/
  sent : Bool
  sentRdy : Bool
  deriving DecidableEq, Repr

/-- A shot whose SHOT_END has released, until its record is assembled (R268): shot number, start in T_exp of
the domain, marks, stall ticks, and its entries. -/
structure Shot where
  num : Nat
  start : Nat
  marks : Nat
  stall : Nat
  ents : List RecEnt
  deriving DecidableEq, Repr

structure Part where
  /-- shots whose SHOT_END has released in this run -/
  done : Nat
  /-- the run-start cut has been made for this arming (R696) -/
  cut : Bool
  /-- END_RUN executed: sequencer and timeline tick (R221) -/
  endReqs : List (Nat × Nat)
  /-- the first SHOT_START is still to be released -/
  firstShot : Bool
  /-- a shot is between its SHOT_START and SHOT_END releases; its start, in T_exp of the domain -/
  inShot : Bool
  shotStart : Nat
  /-- marks, stall ticks and entries of the shot in progress, or kept for the next one (R695) -/
  marks : Nat
  stall : Nat
  ents : List RecEnt
  /-- shots that wait for assembly, oldest first -/
  asm : List Shot
  bars : List Bar
  /-- barriers released since the run start, by kind × 16 + group (INST of R487) -/
  bcnt : Tab Nat
  /-- command that waits for ARMED, and those that wait for IDLE -/
  armOwed : Option (Nat × Nat)
  stopOwed : List (Nat × Nat)
  /-- mutes have been told to release at start − 4,096 (R117) -/
  unmuted : Bool
  /-- the start tick of the run, and T_exp ticks held for ring space by the SHOT_START that waits (R273) -/
  start : Nat
  ringWait : Option Nat
  deriving DecidableEq, Repr
def Part.init : Part :=
  ⟨0, false, [], false, false, 0, 0, 0, [], [], [], [], none, [], false, 0, none⟩

structure Sqr where
  seq : Tab Seq
  part : Tab Part
  /-- resident instruction words by ((sequencer × 2 + half) × 8,192 + index) -/
  store : Tab W64
  deriving DecidableEq, Repr

/-! ### Read-out -/

/-- An open integration window (R258–R264). -/
structure Win where
  /-- T_exp of the first sample, and the number of samples -/
  topen : Nat
  len : Nat
  early : Bool
  /-- BASE, HOLD_EXP and KLEN in effect when the window opened (R259) -/
  base : Nat
  hold : Nat
  klen : Nat
  /-- index of the window in its shot, and whether it opened within the shot -/
  index : Nat
  inShot : Bool
  /-- an unplanned chain swap has touched it (R279) -/
  bad : Bool
  /-- weights overwritten while it is open: T_exp of the write, the store's address, the old word (R259) -/
  kernOld : List (Nat × Nat × BitVec 48)
  deriving DecidableEq, Repr

/-- A complete result record that waits for its ring (R274): its header fields and entries. -/
structure Record where
  shot : Shot
  twin : Nat
  node : Nat
  deriving DecidableEq, Repr

/-- An outcome on its way to the decision engine (R263, R287). -/
structure Outc where
  state : Nat
  early : Bool
  cause : Nat
  index : Nat
  /-- the shot in whose record its window stands -/
  shot : Option Nat
  deriving DecidableEq, Repr

structure Rdo where
  win : Tab (Option Win)
  /-- kernel words by input × 32,768 + address: I in bits 23:0, Q in bits 47:24 (R259) -/
  kern : Tab (BitVec 48)
  /-- the held first half of a kernel write, by function × 4 + quadrant (R283) -/
  kernHeld : Tab Word
  /-- windows opened in the shot, by tone -/
  idx : Tab Nat
  /-- records that wait for ring space, by partition, oldest first -/
  recs : Tab (List Record)
  /-- outcomes that wait for the decision engine, by tone, oldest first -/
  outc : Tab (List Outc)
  /-- early decisions whose action on the probe lane falls due, by tone: 1 + state (R265) -/
  depl : Tab Nat
  /-- T_exp until which windows that open on an input are touched by an unplanned swap (R279) -/
  swapTo : Tab Nat
  /-- command that waits for an input's samples to be valid, by input -/
  owed : Tab (Option (Nat × Nat))
  /-- ring length that waits, with whether REC_PROD has wrapped (R275), by partition -/
  lenPend : Tab (Option (Nat × Bool))
  /-- codes other than 0 that an input's ADC has given, with the module count of each, by input (R253); and the module
  count from which its codes are still to come -/
  adc : Tab (List (Nat × Int))
  adcTo : Tab Nat
  deriving DecidableEq, Repr

/-! ### Decisions -/

/-- A gather unit's round in progress and its history (R291–R293, R310, R313). -/
structure Gath where
  g : W64
  got : List Nat
  /-- T_exp tick of the first member -/
  first : Nat
  done : Bool
  prev : W64
  /-- rounds sent and not yet resolved: round number and deadline -/
  out : List (Nat × Nat)
  /-- words of completions that have fallen due and not yet taken place, oldest first; the tick of the last completion (R298) -/
  due : List W64
  lastAt : Option Nat
  /-- on a standby: words of own completions that no LOOKUP of the active has matched yet, and LOOKUPs that came first (R314) -/
  own : List W64
  ahead : Nat
  deriving DecidableEq, Repr
def Gath.zero : Gath := ⟨0, [], 0, false, 0, [], [], none, [], 0⟩

/-- The sender's and the receiver's state of one Comet pair (R306). -/
structure Pair where
  next : Nat
  acked : Nat
  /-- messages that wait for window space -/
  wait : List W64
  /-- T_exp tick of the last acknowledgement -/
  lastAck : Nat
  expected : Nat
  unacked : Nat
  /-- T_exp tick of the first message not yet acknowledged by this receiver -/
  since : Nat
  deriving DecidableEq, Repr
def Pair.zero : Pair := ⟨0, 0, [], 0, 0, 0, 0⟩

structure Dec where
  gu : Tab Gath
  /-- decision-table entries by key -/
  tab : Tab (BitVec 128)
  /-- words held by each function for an entry write: (function × 65,536 + key) × 4 + word -/
  held : Tab Word
  x : Tab Bool
  z : Tab Bool
  /-- chained lookups that wait: key, links followed to it, and the partition (R297) -/
  chain : List (Nat × Nat × Nat)
  pair : Tab Pair
  /-- partition × 65,536 + key of the lookups that a standby's own outcomes would have made, and of the active's, not yet
  compared, oldest first (R314) -/
  own : List Nat
  act : List Nat
  /-- words of the table that read as uncorrectable: 2 × key, or 2 × key + 1 (R301, R413) -/
  bad : Tab Bool
  /-- reads that met one in the present step: the partition and the word -/
  ecc : List (Nat × Nat)
  deriving DecidableEq, Repr

/-! ### Capture units -/

/-- An accepted trigger (R334, R339): its T, FRAC and FRAC_VALID, whether another member fired it, the stamp of its
trigger sample, and the tick on which it was accepted. -/
structure Shoot where
  t : Nat
  frac : Nat
  fv : Bool
  group : Bool
  stamp : Nat
  at_ : Nat
  deriving DecidableEq, Repr

/-- Stream samples of the DATA item that is open: stamp of the first, and the samples newest first. -/
structure OpenItem where
  first : Nat
  samples : List IQ
  deriving DecidableEq, Repr

/-- An item of a stream (R337) that waits for the ring: KIND 1 DATA with its samples oldest first, or 2 MARK with SUB, COUNT,
ARG, FRAC, FRAC_VALID and DEAD; its T, and K. Its INDEX is given as it is written. -/
structure SItem where
  kind : Nat
  t : Nat
  k : Nat
  samples : List IQ := []
  sub : Nat := 0
  count : Nat := 0
  arg : Nat := 0
  frac : Nat := 0
  fv : Bool := false
  dead : Nat := 0
  deriving DecidableEq, Repr

/-- A trigger that a group's master is about to accept (R349): the earliest of the present tick, and the local member whose
own it is. -/
structure GrpReq where
  t : Nat
  frac : Nat
  fv : Bool
  own : Option Nat
  deriving DecidableEq, Repr

structure Cu where
  /-- decimation exponent in use, and one that waits for its sample (R340) -/
  k : Nat
  kNew : Option Nat
  /-- module count of the next source sample, and the source samples of the block that is not yet whole (R325) -/
  next : Nat
  blk : List IQ
  /-- output samples held, newest first, and the stamp of the newest -/
  hist : List IQ
  last : Nat
  /-- captures made, and the byte offset in the pages where the next goes -/
  caps : Nat
  off : Nat
  shoot : Option Shoot
  /-- T_exp at which the dead time in progress ends, and the stamp of its trigger sample (R335) -/
  rearm : Option (Nat × Nat)
  /-- dead time of the previous trigger, for the next item -/
  dead : Nat
  /-- level detector (R329): primed, and firings not yet taken: stamp, s[n − 1], s[n] -/
  primed : Bool
  fires : List (Nat × Int × Int)
  /-- mask (R345): segment in use if any, samples into it, whether this pass has violated, and violations not yet
  taken: stamp, segment, first of its pass -/
  seg : Option Nat
  segPos : Nat
  segHit : Bool
  viols : List (Nat × Nat × Bool)
  /-- stamp at which segment 0 starts for an accepted trigger (R345), and stamps of the violations acted on (R346) -/
  segAt : Option Nat
  hits : List Nat
  /-- stamp from which a mask stop takes place (R346) -/
  stopAt : Option Nat
  /-- triggers missed since the last TRIGGER mark -/
  missed : Nat
  /-- stream: the open DATA item, items that wait for the ring, the next item's number -/
  opn : Option OpenItem
  fifo : List SItem
  item : Nat
  /-- stamp of the last sample written to the stream -/
  lastPut : Nat
  /-- a gap in progress: first missing stamp, samples missing, cause; stamp until which samples are invalid (R341) -/
  gap : Option (Nat × Nat × Nat)
  badTo : Nat
  /-- T_exp of the last change of k, and from which the FIFO has been below one eighth -/
  changed : Nat
  lowAt : Option Nat
  /-- own triggers sent as FIRE_REQ: T and FRAC (R349); and the one of the present tick that is about to be sent, with
  FRAC_VALID -/
  asked : List (Nat × Nat)
  req : Option (Nat × Nat × Bool)
  owed : Option (Nat × Nat)
  /-- ring length that waits, with whether STR_PROD has wrapped, and a LENGTH mark due at offset 0 (R343) -/
  lenPend : Option (Nat × Bool)
  lenMark : Option Nat
  deriving DecidableEq, Repr
def Cu.zero : Cu :=
  ⟨0, none, 0, [], [], 0, 0, 0, none, none, 0, false, [], none, 0, false, [], none, [], none, 0, none, [], 0, 0, none, 0, 0,
   none, [], none, none, none, none⟩

structure Acq where
  cu : Tab Cu
  /-- nodes whose READY a group's master has (R349) -/
  ready : Tab (List Nat)
  /-- a trigger of the present tick that the master here accepts, by group -/
  req : Tab (Option GrpReq)
  /-- mask entries by quadrant × 2,048 + entry -/
  mask : Tab W64
  /-- acquisition buffer bytes by quadrant × 2^24 + address -/
  buf : Tab Byte
  /-- marker port levels, as seen at the connector -/
  kin : Tab Bool
  deriving DecidableEq, Repr

/-! ### Bias and monitor -/

structure Bias where
  /-- the code that BIAS_OUT moves to: BIAS_CODE, or the safe value -/
  dest : Int
  /-- BIAS_OUT -/
  out : Int
  /-- a slew: its start code and the modulator edge from which its clocks count (R361) -/
  slewing : Bool
  from_ : Int
  t0 : Nat
  /-- what follows when the ramp ends: 0 nothing, 1 the range switch of R368, 2 disconnection, 3 power-down -/
  next : Nat
  /-- T_exp at which the 200 µs hold of R368 ends -/
  holdTo : Option Nat
  /-- the span that the stage keeps until a change of SPAN switches it (R368) -/
  span : Option Nat
  /-- the output stage is connected -/
  conn : Bool
  queue : List Int
  /-- T_exp of the next release of a running queue clock -/
  clock : Option Nat
  /-- a pace event is held; T_exp of the last paced release -/
  held : Bool
  lastRel : Option Nat
  /-- T_exp at which RAMPING last cleared (R606) -/
  still : Nat
  /-- live compliance and open-loop conditions, and T_exp of their last change -/
  comp : Bool
  open_ : Bool
  compAt : Nat
  openAt : Nat
  /-- commands that wait for a span change or ramp -/
  owed : List (Nat × Nat)
  deriving DecidableEq, Repr
def Bias.zero : Bias :=
  ⟨0, 0, false, 0, 0, 0, none, none, false, [], none, false, none, 0, false, false, 0, 0, []⟩

structure Mon where
  /-- element reached in the pass, passes left (none: continuous), and whether a burst runs -/
  pos : Nat
  left : Option Nat
  run : Bool
  /-- the burst ends after the conversion in progress -/
  stop : Bool
  /-- an injected request waits; an injected conversion is in progress -/
  inj : Bool
  injNow : Bool
  /-- regular conversions are held by a calibration -/
  held : Bool
  /-- the converter's timer runs: T_exp of the START that runs it -/
  timer : Option Nat
  /-- T_exp of the sampling instant of the regular and of the injected conversion in progress or next -/
  at_ : Nat
  injAt : Nat
  /-- tick of the last accepted regular start -/
  startAt : Option Nat
  /-- SETTLING or EXT_FAULT stood at the sampling instant -/
  uns : Bool
  /-- MON_DATA_LO has been read since the result was written (R387) -/
  loRead : Bool
  deriving DecidableEq, Repr
def Mon.zero : Mon := ⟨0, none, false, false, false, false, false, none, 0, 0, none, false, false⟩

structure Bm where
  bias : Tab Bias
  mon : Tab Mon
  /-- calibration of a quadrant's converters: command that waits, and T_exp at which step 3 of R389 began -/
  calOwed : Tab (Option (Nat × Nat))
  calAt : Tab Nat
  /-- commands that wait for a reference to settle, and T_exp at which it has -/
  refOwed : Tab (List (Nat × Nat))
  refAt : Tab Nat
  /-- the common-trigger timer runs (R400): T_exp of its start -/
  commonRun : Option Nat
  /-- number of the last self-calibration of the bias outputs: 0 before the first, else of a free value (R376) -/
  calNo : Nat
  deriving DecidableEq, Repr

/-! ### Memory -/

/-- The march in progress: what MEM_MARCH_CTRL, FIRST and COUNT held when it started (R421, R429), and its command. -/
structure March where
  run : Bool
  store : Nat
  quad : Nat
  rank : Nat
  alg : Nat
  bg : Nat
  stopOnFail : Bool
  first : Nat
  count : Nat
  owed : Option (Nat × Nat)
  deriving DecidableEq, Repr
def March.zero : March := ⟨false, 0, 0, 0, 0, 0, false, 0, 0, none⟩

structure Mem where
  /-- DDR4 bytes by channel × 2^35 + channel offset (R402) -/
  ddr : Tab Byte
  /-- words that read as uncorrectable until written (R413), by the same number divided by 8 -/
  poison : Tab Bool
  /-- refreshes postponed, by channel × 2 + rank (R410) -/
  postponed : Tab Nat
  /-- T_exp at which a refresh of the rank last fell due (R409) -/
  refAt : Tab Nat
  /-- the incident of a channel (R411): alerts raised, T_exp of the last, and the ranks addressed (1 for rank 0, 2 for 1) -/
  replays : Tab (Nat × Nat × Nat)
  /-- burst or word index each scrubber reads next, by store × 4 + quadrant -/
  scrub : Tab Nat
  /-- spare rows used, by store × 4 + quadrant; rows that wait for repair -/
  spareRows : Tab Nat
  repairs : List (Nat × Nat × Nat)
  march : March
  /-- passes that each channel's scrubber has made (R416) -/
  passes : Tab Nat
  /-- T_exp of the last read of each scrubber, plus 1, and HOURS of its pass, by store × 4 + quadrant (R416) -/
  scrubAt : Tab (Nat × Nat)
  /-- MTIME of the oldest and the newest hit of each entry of the location table (R414) -/
  hits : Tab (Nat × Nat)
  /-- stores still to be initialised (R420) -/
  initLeft : List Nat
  deriving DecidableEq, Repr

/-! ### The host interface -/

inductive SlotSt | waiting | executing | done
  deriving DecidableEq, Repr

/-- A fetched packet that has not yet completed (R441, R445–R447). -/
structure Slot where
  p : Pkt
  st : SlotSt
  /-- the shot of AT_SHOT, while its SHOT_START has not yet released (R443) -/
  shot : Option Nat
  /-- SQ_HEAD after the fetch -/
  head : Nat
  /-- T_exp at the start of execution -/
  t0 : Nat
  status : Nat
  detail : Nat
  word : Nat
  result : W64
  /-- the completion is discarded when it is due (R457) -/
  drop : Bool
  /-- execution has begun: the packet's checks are past -/
  begun : Bool
  /-- the registers of its function (R447), as address ranges -/
  holds : List (Nat × Nat)
  deriving DecidableEq, Repr

/-- One MSI-X vector of a function (R455). -/
structure Msix where
  addr : W64
  data : Word
  masked : Bool
  deriving DecidableEq, Repr

/-- A vector after reset: masked. -/
def Msix.zero : Msix := ⟨0, 0, true⟩

structure Hif where
  /-- fetched packets in fetch order -/
  slots : List Slot
  /-- the round robin of R441: queue served and packets it has given -/
  rrQ : Nat
  rrN : Nat
  /-- vectors by function × 32 + vector, and the pending bits -/
  msix : Tab Msix
  pba : Tab Bool
  linkUp : Bool
  bme : Bool
  /-- functions in D3hot -/
  d3 : Tab Bool
  /-- ring writes that failed and wait for the 1 ms retry: queue or ring number -/
  retry : List Nat
  /-- bytes that the module has written to host memory -/
  hostMem : Tab Byte
  deriving DecidableEq, Repr

/-! ### The fabric and twins -/

/-- A slot of a fabric frame (R475): TYPE, DST, TWINS and its word; the two slots of a
two-word message carry the same three. -/
structure FSlot where
  typ : Nat
  dst : Nat
  twins : Nat
  w : BitVec 64
  deriving DecidableEq, Repr

/-- The fields of a fabric frame (R473 to R475): whether its CRC holds, FTYPE, the header's numbers and bits, and its slots. -/
structure FabFrame where
  crcOk : Bool
  data : Bool
  lseq : Nat
  lack : Nat
  nak : Bool
  retry : Bool
  rxLanes : Nat
  slots : List FSlot
  deriving DecidableEq, Repr

/-- The scrambler and stuffer of a lane's transmitter (R464, R465): the last 51 scrambled bits, newest in bit 0; the last
line bit and the length of its run. -/
structure LineTx where
  hist : BitVec 51
  last : Bool
  run : Nat
  deriving DecidableEq, Repr
def LineTx.zero : LineTx := ⟨0, false, 0⟩

/-- A lane's receiver (R464, R465, R468, R469): the last 51 destuffed bits, newest in bit 0; the last line bit and the length of
its run; bits yet to pass before the block begins; the bits of the block so far and how many; consecutive valid markers, and
consecutive invalid ones. -/
structure LineRx where
  hist : BitVec 51
  last : Bool
  run : Nat
  skip : Nat
  blk : Nat
  n : Nat
  good : Nat
  bad : Nat
  deriving DecidableEq, Repr
def LineRx.zero : LineRx := ⟨0, false, 0, 0, 0, 0, 0, 0⟩

structure Lane where
  /-- MTIME of the losses of lock of the last 24 h, and alignments failed in a row (R472) -/
  losses : List Nat
  fails : Nat
  /-- slip steps of the search in progress (R470) -/
  search : Option Nat
  /-- T_exp of the entry into ALIGN -/
  alignAt : Nat
  /-- the line coding of both directions, and the line bits of the frame last sent -/
  tx : LineTx
  rx : LineRx
  out : List Bool
  deriving DecidableEq, Repr
def Lane.zero : Lane := ⟨[], 0, none, 0, .zero, .zero, []⟩

/-- A word of the fabric, of one or two slots (R475): TYPE, DST, TWINS, its 64-bit words, and the module tick
on which it arrived here or was made (R478). -/
structure FWord where
  typ : Nat
  dst : Nat
  twins : Nat
  ws : List W64
  born : Nat
  deriving DecidableEq, Repr

/-- A DATA frame sent and not yet acknowledged: link sequence number, words, and the module tick of its first
transmission (R475–R479). -/
structure FFrame where
  lseq : Nat
  words : List FWord
  sent : Nat
  deriving DecidableEq, Repr

structure FPort where
  /-- words that wait to be sent, in arrival order (R480) -/
  queue : List FWord
  /-- frames sent and not acknowledged -/
  replay : List FFrame
  nextSeq : Nat
  expected : Nat
  /-- module tick from which the 1 µs without progress of LACK counts -/
  lastAckAt : Nat
  /-- the next frame sent carries NAK -/
  nakSent : Bool
  /-- the last RX_LANES received -/
  peerLanes : Nat
  /-- module tick of the last HELLO sent, plus 1 -/
  hello : Nat
  /-- FAB_LINK_TRAIN that waits for UP -/
  owed : Option (Nat × Nat)
  /-- module tick of the last FAB_WORD_DISCARD entry, plus 1 (R478) -/
  discLog : Nat
  /-- frames to be sent again, oldest first (R477) -/
  again : List FFrame
  /-- blocks dealt to the usable lanes so far (R476), and the width in effect -/
  dealt : Nat
  width : Nat
  /-- blocks of the frame that comes in, by index (R476) -/
  blocks : Tab (Option Nat)
  deriving DecidableEq, Repr
def FPort.zero : FPort := ⟨[], [], 0, 0, 0, false, 0, 0, none, 0, [], 0, 0, []⟩

structure Fab where
  lane : Tab Lane
  port : Tab FPort
  /-- words delivered to this module whose consumer has not yet taken them -/
  inbox : List FWord
  /-- discovery (R483): number of the last one seen (16: none), parent port, claims heard (module ID, address, valid,
  firm), tick of the last new announce, command that waits, its end (tick, status, addresses assigned), and the tick
  until which a discovery counts as running here -/
  discNo : Nat
  parent : Option Nat
  claims : List (Nat × Nat × Bool × Bool)
  lastAnn : Nat
  discOwed : Option (Nat × Nat)
  discEnd : Option (Nat × Nat × Nat)
  discUntil : Nat
  /-- hop counts received per port, by node × 2 + member (R484) -/
  vec : Tab (Tab Nat)
  /-- twin: tick of the last mirror word heard, of the own FAIL, of the setting of EN, and of the last HEARTBEAT sent -/
  heardAt : Nat
  failAt : Nat
  enabledAt : Nat
  beatAt : Nat
  /-- a takeover that waits for the shot boundary: FAIL's cause code; the shot in flight then, plus 1, and the last
  SHOT_MARK received, plus 1, by partition; and the tick before which this member arrives at no SHOT_START (R494) -/
  takeover : Option Nat
  takeAt : Tab Nat
  marked : Tab Nat
  holdTo : Tab Nat
  /-- records that this member has assembled and may not write (R491, R495) -/
  withheld : List (Nat × Record)
  /-- Comet messages that a standby holds (R491) -/
  comets : List W64
  /-- own and received digests plus 1, by twice (partition × 2^48 + shot), the received one at the odd number (R492) -/
  digest : Tab Nat
  /-- a planned handover: partition and last shot; command that waits for it (R496) -/
  handShot : Option (Nat × Nat)
  handOwed : Option (Nat × Nat)
  /-- the partner asks for the join copy; the copy has been sent -/
  joinAsk : Option Bool
  /-- the joiner: image words still to come and those received, and mirror words that wait for the image's end (R498) -/
  joinLeft : Nat
  joinWords : List W64
  joinHeld : List W64
  /-- the joiner has loaded the copy and waits for the next SHOT_START (R493) -/
  joined : Bool
  /-- TWIN_MUTE is driven low (R497) -/
  twinMute : Bool
  deriving DecidableEq, Repr

/-! ### Hearth, interrupts, events -/

/-- The micro-state of R515. -/
structure Micro where
  upc : Nat
  mregs : Tab W64
  z : Bool
  n : Bool
  c : Bool
  v : Bool
  ctx : Nat
  deriving DecidableEq, Repr
def Micro.zero : Micro := ⟨0, [], false, false, false, false, 0⟩

/-- A routine context (R511): free, executing, ready or stopped at a yield word; its command; what it holds. -/
structure Ctx where
  st : Nat
  internal : Bool
  op : Nat
  tag : Nat
  sq : Nat
  /-- groups held (R512, R513), and the address ranges of the registers that they stand for -/
  groups : List Nat
  holds : List (Nat × Nat)
  /-- its micro-state while it does not execute -/
  micro : Micro := .zero
  deriving DecidableEq, Repr
def Ctx.zero : Ctx := ⟨0, false, 0, 0, 0, [], [], .zero⟩

/-- A handler's change that waits for its group's release (R514): register, bits set, bits cleared, count added. -/
structure DeferOp where
  addr : Nat
  setB : Word
  clrB : Word
  add : Nat
  deriving DecidableEq, Repr

structure Hrt where
  ctx : Tab Ctx
  cur : Micro
  /-- trap frames, newest first: the saved micro-state, the trap's cause, and a source it claimed -/
  frames : List (Micro × Nat × Option Nat)
  /-- pending traps: 2 INTERRUPT, 3 TICK -/
  traps : List Nat
  /-- patch memory by word, and the patch image that waits for a quiescent point -/
  patch : Tab (BitVec 192)
  quiesce : Option (List Byte × Option (Nat × Nat))
  defer : Tab (List DeferOp)
  /-- T_exp of the last TICK of the service timer (R516) -/
  tickAt : Option Nat
  deriving DecidableEq, Repr

structure Int' where
  /-- edge sources that are pending -/
  pend : Tab Bool
  /-- active sources: target + 1 -/
  act : Tab Nat
  /-- targets whose present REQ has been delivered, and T_exp at which their window ends -/
  sent : Tab Bool
  win : Tab Nat
  deriving DecidableEq, Repr

structure Cell where
  /-- output before and after the filter, and always-on edges for which a change has held -/
  out : Bool
  pub : Bool
  held : Nat
  deriving DecidableEq, Repr
def Cell.zero : Cell := ⟨false, false, 0⟩

structure Evr where
  /-- channels that carry an event on this tick, and since the last always-on edge -/
  now : Tab Bool
  since : Tab Bool
  cell : Tab Cell
  /-- events of each channel in the window numbered `winNo` -/
  cnt : Tab Nat
  winNo : Nat
  deriving DecidableEq, Repr

/-! ### Faults, log, self-test -/

/-- A log entry (R582). -/
structure LogEnt where
  mtime : W64
  ns : Nat
  sec : Nat
  seq : Nat
  cause : Nat
  kind : Nat
  part : Nat
  wallValid : Bool
  nv : Bool
  source : Nat
  detail : Nat
  repeat_ : Nat
  deriving DecidableEq, Repr
def LogEnt.zero : LogEnt := ⟨0, 0, 0, 0, 0, 0, 0, false, false, 0, 0, 0⟩

/-- An entry of the retirement map (R571): kind and number of the retired part. -/
structure Retired where
  kind : Nat
  num : Nat
  deriving DecidableEq, Repr

structure Log where
  ring : Tab LogEnt
  /-- entries now in the ring (R581) -/
  count : Nat
  mtime : W64
  /-- per source × 256 + cause: MTIME of the last entry and occurrences suppressed since (R585) -/
  last : Tab (Nat × Nat)
  nv : Tab LogEnt
  nvNext : Nat
  /-- flash writes that wait: map entries and records, oldest first; a retry has been made -/
  flashQ : List (Sum Retired LogEnt)
  retried : Bool
  retired : List Retired
  /-- the console (R678): entries that wait for their line, with the T_exp of each; lines dropped since the last one sent; the
  characters of the last line; and the T_exp at which it ends -/
  uartQ : List (Nat × LogEnt)
  uartLost : Nat
  uart : List Byte
  uartEnd : Nat
  deriving DecidableEq, Repr

structure Slice where
  /-- member under test, or next; T_exp at which its test began -/
  member : Nat
  t0 : Nat
  /-- MTIME at which the turn's wait ends -/
  until_ : Nat
  /-- command that waits for the test's end -/
  owed : Option (Nat × Nat)
  /-- the test of a datapath that an unplanned swap removed (R569) -/
  forced : Bool
  deriving DecidableEq, Repr
def Slice.zero : Slice := ⟨0, 0, 0, none, false⟩

/-- A proofing record (R600): its 32 words, whether its consumption word has been written (R602) and an anomaly word
follows it (R601), and what those two words hold. -/
structure Proof where
  words : List Word
  used : Bool
  anomaly : Bool
  useWord : Word
  anomWord : Word
  deriving DecidableEq, Repr

structure Bst where
  /-- domains still to test in the run in progress, those now tested with the MTIME at which each began, and those ended
  with their results -/
  left : List Nat
  now : List (Nat × Nat)
  ended : List (Nat × Nat)
  owed : Option (Nat × Nat)
  /-- why the run was made: 0 command, 1 start-up, 2 proofing -/
  why : Nat
  slice : Tab Slice
  /-- channels whose last analogue check failed, by kind × 1,024 + port -/
  fails : Tab Bool
  /-- MTIME + 1 of each group's last turn (R603), and of each channel's last periodic check (R606) -/
  turns : Tab Nat
  checks : Tab Nat
  /-- the newest 16 proofing records, newest first -/
  proofs : List Proof
  /-- the module waits after a proofing pass for its input power to be removed (R601) -/
  after : Bool
  deriving DecidableEq, Repr

/-! ### Power, security, pins -/

inductive Mode | off | banked | ready | safe
  deriving DecidableEq, Repr

/-- What the module is doing while its state changes: start-up, wake, bank, shutdown, proofing. -/
inductive Busy
  | none
  | startup (step : Nat)
  | wake
  | bank
  /-- the ramps of PWR_SHUTDOWN or of the disable sequence run; whether a proofing pass follows -/
  | stop (proof : Bool)
  /-- the proofing pass, or the settings copy -/
  | proofing (proof : Bool)
  deriving DecidableEq, Repr

structure Pwr where
  /-- input power is present (above 7.0 V), and the voltage last measured at the input, in 10 mV (R612) -/
  input : Bool
  vin : Nat
  /-- T_exp since which the voltage has stayed within 9 V to 60 V, and since which it has stayed where INPUT_FAIL follows
  (R612, R620) -/
  inRange : Option Nat
  outRange : Option Nat
  /-- T_exp at which the input was last measured (R612) -/
  takenAt : Option Nat
  /-- a start waits for the input to be in its operating range again (R612) -/
  waitIn : Bool
  /-- the module is OFF, BANKED, SAFE or in READY, ARMED, RUNNING by R28 -/
  mode : Mode
  busy : Busy
  /-- the module state as last logged (R583) -/
  last : Nat
  /-- RESET_N is released; ENABLE_IN is asserted -/
  resetN : Bool
  enableIn : Bool
  /-- the converters are powered; T_exp at which a thermal or input shutdown powers them down -/
  convOn : Bool
  convDue : Option Nat
  /-- BANKED power configuration while SAFE (R575) -/
  deep : Bool
  /-- channels that the governor has shed, in shed order, newest first: kind × 1024 + channel (R616) -/
  shed : List Nat
  /-- an episode of shedding is in progress -/
  episode : Bool
  /-- T_exp of the governor's last step; T_exp from which the next channel's restore condition has held; restoring has
  begun (R619) -/
  stepAt : Option Nat
  okAt : Option Nat
  restoring : Bool
  /-- settings: the retained SRAM block is valid; ret fields have been restored -/
  retValid : Bool
  restored : Bool
  ret : Tab Word
  /-- the settings copies in flash, newest first: sequence number and contents -/
  flash : List (Nat × Tab Word)
  /-- MTIME of the change of a retained field from which AUTOSAVE counts -/
  changedAt : Option Nat
  /-- the start in progress is a cold start; has earned credit; stops at the end of its step (R626) -/
  cold : Bool
  credit : Bool
  stopping : Bool
  /-- ENABLE_IN has been asserted again while the module had still to end what it was doing (R626) -/
  again : Bool
  /-- commands that wait for the sequence in progress -/
  owed : List (Nat × Nat)
  /-- held doorbells of BANKED (R622): function, queue, index -/
  doorbells : List (Nat × Nat × Nat)
  safeExit : Option (Nat × Nat)
  deriving DecidableEq, Repr

structure Thm where
  /-- last readings in 0.1 °C by sensor -/
  temp : Tab Int
  /-- level of each class (R634) -/
  level : Tab Nat
  /-- shutdown snapshots in flash, newest first -/
  snaps : List (List Word)
  /-- T_exp of the last change of THM_CAP, or of the last throttle level left (R636) -/
  capAt : Nat
  /-- T_exp of the last samples (R633) -/
  readAt : Option Nat
  deriving DecidableEq, Repr

/-- The one-time fuses (R643–R646). -/
structure Fuses where
  lifecycle : Nat
  custDigest : Option Nat
  custRequired : Bool
  minFw : Nat
  minPatch : Nat
  minCal : Nat
  /-- map generations burned after generation 0: resource → partition, event channel → OWNER and ATTR; none fails
  its CRC -/
  pmaps : List (Option (Tab Nat))
  evmaps : List (Option (Tab Nat))
  secretBlown : Bool
  deriving DecidableEq, Repr

/-- A signed image held in flash (R647): its type, version numbers, who signed it, and its bytes. -/
structure Image where
  version : Nat
  svn : Nat
  cust : Bool
  bytes : List Byte
  deriving DecidableEq, Repr

structure Sec where
  fuses : Fuses
  /-- fuse changes burned and not yet loaded (R645) -/
  pendFuses : Option Fuses
  /-- none: slot A holds the firmware as delivered; the other slots, nothing -/
  fwA : Option Image
  fwB : Option Image
  patch : Option Image
  cal : Option Image
  running : Nat
  /-- the patch installed and the calibration image applied -/
  inPatch : Option Image
  inCal : Option Image
  keyValid : Bool
  /-- attestations that wait for the key (R657) -/
  owed : List (Nat × Nat)
  jtag : Nat
  deriving DecidableEq, Repr

/-- The pins and ports of the connectors that the other structures do not hold. -/
structure Pins where
  /-- PRESENT contact made -/
  present : Bool
  chassis : Nat
  /-- T_exp at which the chassis code was last read (R676) -/
  chassisAt : Option Nat
  /-- bytes answered to the last SMBus read, and to the last status datagram -/
  smbus : List Byte
  udp : List Byte
  /-- the word that the last register read returned to its function -/
  rdata : Word
  deriving DecidableEq, Repr

/-- The module. -/
structure State where
  /-- commands that wait, first in, first out -/
  pending : List Instr
  /-- registers by PF0 BAR0 address, at their values in effect -/
  regs : Tab Word
  /-- shadow copies that wait for their boundary (R10), by address -/
  shadow : Tab (Option Word)
  /-- halves held for reads (R15) and writes (R16), by function × 2^26 + address -/
  heldRd : Tab Word
  heldWr : Tab Word
  /-- numbers the free values that the module has taken: the model's own field, not the spec's -/
  free : Nat
  tim : Tim
  syn : Syn
  sqr : Sqr
  rdo : Rdo
  dec : Dec
  acq : Acq
  bm : Bm
  mem : Mem
  hif : Hif
  fab : Fab
  hrt : Hrt
  int : Int'
  evr : Evr
  log : Log
  bst : Bst
  pwr : Pwr
  thm : Thm
  sec : Sec
  pins : Pins
  deriving DecidableEq, Repr

/-- The fuses as manufactured (R643, R646): CUSTOMER_OPEN, every resource in partition 0. -/
def Fuses.factory : Fuses := ⟨1, none, false, 0, 0, 0, [], [], false⟩

/-- The module before input power is applied for the first time. -/
def State.reset : State where
  pending := []
  regs := []
  shadow := []
  heldRd := []
  heldWr := []
  free := 0
  tim := { texp := 0, edge := 0, refIn := false, skew := 0, doms := [], linkOut := [], fwd := [], wallNs := 0, wallFrac := 0
           stepOk := true, nValid := 0, ppsOut := false, tries := none, alignOwed := none, ttu := [], ttuFrom := []
           tcuAt := [] }
  syn := ⟨[], [], [], [], [], [], [], false⟩
  sqr := ⟨[], [], []⟩
  rdo := ⟨[], [], [], [], [], [], [], [], [], [], [], []⟩
  dec := ⟨[], [], [], [], [], [], [], [], [], [], []⟩
  acq := ⟨[], [], [], [], [], []⟩
  bm := ⟨[], [], [], [], [], [], none, 0⟩
  mem := ⟨[], [], [], [], [], [], [], [], .zero, [], [], [], []⟩
  hif := ⟨[], 0, 0, [], [], false, false, [], [], []⟩
  fab := { lane := [], port := [], inbox := [], discNo := 16, parent := none, claims := [], lastAnn := 0, discOwed := none
           discEnd := none, discUntil := 0, vec := [], heardAt := 0, failAt := 0, enabledAt := 0, beatAt := 0, takeover := none
           takeAt := [], marked := [], holdTo := [], withheld := [], comets := [], digest := [], handShot := none
           handOwed := none, joinAsk := none, joinLeft := 0, joinWords := [], joinHeld := [], joined := false
           twinMute := false }
  hrt := ⟨[], .zero, [], [], [], none, [], none⟩
  int := ⟨[], [], [], []⟩
  evr := ⟨[], [], [], [], 0⟩
  log := ⟨[], 0, 0, [], [], 0, [], false, [], [], 0, [], 0⟩
  bst := ⟨[], [], [], none, 0, [], [], [], [], [], false⟩
  pwr := ⟨false, 0, none, none, none, false, .off, .none, 0, true, false, false, none, false, [], false, none, none, false, false, false, [], [],
          none, false, false, false, false, [], [], none⟩
  thm := ⟨[], [], [], 0, none⟩
  sec := ⟨.factory, none, none, none, none, none, 0, none, none, false, [], 0⟩
  pins := ⟨false, 0, none, [], [], 0⟩

end Sys2Proof.Machine
end

