-- ==== Sys2Proof/Machine/Ops.lean ====
section
/-!
DEFINITION. Machine/Ops.lean: the named operations that the meanings share: reading and writing registers
and their fields, counters, time, the log, interrupt sources, host memory, and completing a command.
-/

namespace Sys2Proof.Machine
open Sys2Proof

/-- What a step answers. -/
abbrev Out := Host.Outcome State Fault Refusal

/-- The state that an outcome leaves, where it is a next state. -/
def State.via (s : State) (f : State → Out) : State := match f s with | .next t => t | _ => s

/-! ### Bits of a register -/

/-- The CRC-32 of R473, R600 and R637 over one more bit: polynomial 0x04C1_1DB7, unreflected. -/
def crc32Bit (c : Nat) (b : Bool) : Nat :=
  let f : Bool := (c / 2 ^ 31 = 1) != b
  let d := c * 2 % 2 ^ 32
  if f then d ^^^ 0x04C11DB7 else d

/-- The bits `hi` to `lo` of a word, as a number. -/
def wget (w : Word) (hi lo : Nat) : Nat := (w.toNat / 2 ^ lo) % 2 ^ (hi + 1 - lo)

/-- The word with ones in bits `hi` to `lo`. -/
def wmask (hi lo : Nat) : Word := BitVec.ofNat 32 ((2 ^ (hi + 1 - lo) - 1) * 2 ^ lo)

/-- The word with `v` in bits `hi` to `lo`. -/
def wput (w : Word) (hi lo v : Nat) : Word :=
  (w &&& ~~~ wmask hi lo) ||| (BitVec.ofNat 32 (v * 2 ^ lo) &&& wmask hi lo)

/-! ### The registers -/

/-- What the fields of a row read as after reset: the numbers of the Reset column (R14). -/
def rowReset : List FieldDesc → Word
  | [] => 0
  | f :: fs => match f.rst with
    | .num n => wput (rowReset fs) f.hi f.lo n
    | _ => rowReset fs

/-- The bits of a row whose fields the retained settings hold (R14). -/
def rowRet : List FieldDesc → Word
  | [] => 0
  | f :: fs => match f.rst with
    | .ret _ => wmask f.hi f.lo ||| rowRet fs
    | _ => rowRet fs

/-- The factory values of a row's retained fields. -/
def rowFactory : List FieldDesc → Word
  | [] => 0
  | f :: fs => match f.rst with
    | .ret n => wput (rowFactory fs) f.hi f.lo n
    | _ => rowFactory fs

/-- The bits of a row that have access kind `k`. -/
def rowAcc (k : Acc) : List FieldDesc → Word
  | [] => 0
  | f :: fs => if f.acc = k then wmask f.hi f.lo ||| rowAcc k fs else rowAcc k fs

/-- The fields of the register at `a`. -/
def fieldsAt (a : Nat) : List FieldDesc := match regAt a with | some (r, _) => r.flds | none => []

/-- The word that the register at `a` reads as after reset. -/
def resetWord (a : Nat) : Word := rowReset (fieldsAt a)
/-- The retained bits of the register at `a`. -/
def retMask (a : Nat) : Word := rowRet (fieldsAt a)

/-- The owner that the factory gives an event-router cell (R562). -/
def factoryCellOwner (c : Nat) : Nat := if c < 16 then 0 else 1 + (c - 16) / 12
/-- The owner function that the factory gives queue `n` (R435). -/
def factoryQueueOwner (n : Nat) : Nat := if n < 32 then 0 else 1 + (n - 32) / 8

/-- Factory values that differ from instance to instance of one row: predistortion (R149), the descriptor
and sample windows (R98), queue owners (R435), cell owners (R562), and interrupt targets (R521). -/
def factoryAt (base : Nat) (ix : List Nat) (w : Word) : Word :=
  if base = R.FLX_IIR_B0 then 0x400000
  else if base = R.FLX_FIR_C then (if ix.getD 2 0 = 0 then 0x400000 else 0)
  else if base = R.DRV_ENV_PART_DESC ∨ base = R.DRV_ENV_PART_SAMP then (if ix.getD 1 0 = 0 then w else 0)
  else if base = R.HIF_Q_OWNER then BitVec.ofNat 32 (factoryQueueOwner (ix.getD 0 0))
  else if base = R.EVR_CELL_STATE then BitVec.ofNat 32 (2 * factoryCellOwner (ix.getD 0 0))
  else w

/-- The factory value of the retained bits of the register at `a`. -/
def factoryWord (a : Nat) : Word :=
  match regAt a with
  | some (r, ix) => factoryAt r.base ix (rowFactory r.flds)
  | none => 0

/-- The register at `a`: its own bits, and its retained bits once the settings are restored (R14, R629). -/
def State.reg (s : State) (a : Nat) : Word :=
  (s.regs.get (resetWord a) a &&& ~~~ retMask a) |||
    (if s.pwr.restored then s.pwr.ret.get (factoryWord a) a &&& retMask a else 0)

/-- The module count of R47, without its wrap. -/
def State.now (s : State) : Nat := s.tim.texp

/-- Write the register at `a`. A change of a retained field is kept in the retained settings and starts
the AUTOSAVE time of R628 if none runs. -/
def State.setReg (s : State) (a : Nat) (w : Word) : State :=
  { s with
    regs := s.regs.set (resetWord a) a (w &&& ~~~ retMask a)
    pwr.ret := if s.pwr.restored then s.pwr.ret.set (factoryWord a) a (w &&& retMask a) else s.pwr.ret
    pwr.changedAt :=
      if s.pwr.restored ∧ s.pwr.changedAt = none ∧ (w &&& retMask a) ≠ (s.reg a &&& retMask a)
      then some s.log.mtime.toNat else s.pwr.changedAt }

/-- Field `f` of the register in page `pg`. -/
def State.g (s : State) (pg : Nat) (f : Fld) : Nat := wget (s.reg (pg + f.off)) f.hi f.lo
/-- Write field `f` of the register in page `pg`. -/
def State.p (s : State) (pg : Nat) (f : Fld) (v : Nat) : State :=
  s.setReg (pg + f.off) (wput (s.reg (pg + f.off)) f.hi f.lo v)
/-- Whether a one-bit field is set. -/
def State.on (s : State) (pg : Nat) (f : Fld) : Bool := s.g pg f ≠ 0
/-- Field `f` as a signed value. -/
def State.gi (s : State) (pg : Nat) (f : Fld) : Int := sext (f.hi + 1 - f.lo) (s.g pg f)
/-- A low and high pair as a 64-bit value; `f` is the low register. -/
def State.g64 (s : State) (pg : Nat) (f : Fld) : Nat :=
  (s.reg (pg + f.off)).toNat + (s.reg (pg + f.off + 4)).toNat * 2 ^ 32
/-- Write a low and high pair. -/
def State.p64 (s : State) (pg : Nat) (f : Fld) (v : Nat) : State :=
  (s.setReg (pg + f.off) (BitVec.ofNat 32 v)).setReg (pg + f.off + 4) (BitVec.ofNat 32 (v / 2 ^ 32))
/-- Count in a saturating counter. -/
def State.bump (s : State) (pg : Nat) (f : Fld) (n : Nat := 1) : State :=
  s.setReg (pg + f.off) (BitVec.ofNat 32 (satAdd32 (s.reg (pg + f.off)).toNat n))
/-- Count in a wrapping 32-bit counter. -/
def State.bumpW (s : State) (pg : Nat) (f : Fld) (n : Nat := 1) : State :=
  s.setReg (pg + f.off) (BitVec.ofNat 32 ((s.reg (pg + f.off)).toNat + n))
/-- Count in a 64-bit pair that wraps. -/
def State.bump64 (s : State) (pg : Nat) (f : Fld) (n : Nat := 1) : State :=
  s.p64 pg f ((s.g64 pg f + n) % 2 ^ 64)
/-- Whether a function sees and writes everything: PF0 (R432), and Hearth, which is number 5 on the register path and
holds its own halves of 64-bit values (R15, R16). -/
def full (fn : Nat) : Bool := fn = 0 || fn = 5
/-- The function whose BAR0 a function's accesses use: Hearth's are PF0's. -/
def hostFn (fn : Nat) : Nat := if fn = 5 then 0 else fn

/-- Set a one-bit field. -/
def State.flag (s : State) (pg : Nat) (f : Fld) : State := s.p pg f 1
/-- Clear a one-bit field. -/
def State.unflag (s : State) (pg : Nat) (f : Fld) : State := s.p pg f 0

/-- Do an operation if a condition holds. -/
def State.when (s : State) (c : Prop) [Decidable c] (f : State → State) : State := if c then f s else s

/-- Do an operation for each number of a list, in order. -/
def forEach : List Nat → State → (State → Nat → State) → State
  | [], s, _ => s
  | n :: l, s, f => forEach l (f s n) f

/-- The next free value below `2 ^ bits`: a value that the spec leaves open. -/
def State.fresh (s : State) (bits : Nat) : State × Nat :=
  ({ s with free := s.free + 1 }, Config.freeVal s.free % 2 ^ bits)

/-! ### Pages: where each object's registers stand -/

namespace Page
def tim : Nat := 0x300000
def td (d : Nat) : Nat := 0x300100 + d * 0x20
def ttu (n : Nat) : Nat := 0x301000 + n * 0x20
def tcu (n : Nat) : Nat := 0x302000 + n * 0x20
/-- Base of quadrant `q`. -/
def quad (q : Nat) : Nat := 0x1000000 + q * 0x400000
def envPart (q p : Nat) : Nat := quad q + 0x20040 + p * 8
def drv (n : Nat) : Nat := quad (n / 32) + (n % 32) * 0x1000
def frame (n k : Nat) : Nat := drv n + 0x100 + k * 0x20
def drvq (q : Nat) : Nat := quad q + 0x20000
def desc (q e : Nat) : Nat := quad q + 0x40000 + e * 8
def flx (n : Nat) : Nat := quad (n / 32) + 0x80000 + (n % 32) * 0x1000
def flxq (q : Nat) : Nat := quad q + 0xA0000
def rdo (m : Nat) : Nat := quad (m / 8) + 0x100000 + (m % 8) * 0x1000
def tone (t : Nat) : Nat := quad (t / 256) + 0x108000 + (t % 256) * 0x80
def rdoq (q : Nat) : Nat := quad q + 0x110000
def ring (p : Nat) : Nat := 0x1110400 + p * 0x40
/-- Spare group `g`: 0–15 drive, 16–31 flux, 32–39 probe, 40–47 acquisition. -/
def spare (g : Nat) : Nat :=
  if g < 16 then quad (g / 4) + 0x20100 + (g % 4) * 0x20
  else if g < 32 then quad ((g - 16) / 4) + 0xA0100 + (g % 4) * 0x20
  else if g < 40 then quad ((g - 32) / 2) + 0x110100 + (g % 2) * 0x20
  else quad ((g - 40) / 2) + 0x110140 + (g % 2) * 0x20
def cu (u : Nat) : Nat := quad (u / 8) + 0x180000 + (u % 8) * 0x1000
def acqq (q : Nat) : Nat := quad q + 0x188000
def grp (g : Nat) : Nat := 0x1189000 + g * 0x10
/-- Sequencer `s`: 0–127 QS000–QS127, 128–159 RS00–RS31. -/
def seq (s : Nat) : Nat :=
  if s < 128 then quad (s / 32) + 0x200000 + (s % 32) * 0x1000
  else quad ((s - 128) / 8) + 0x200000 + (32 + (s - 128) % 8) * 0x1000
def seqq (q : Nat) : Nat := quad q + 0x228000
def part (p : Nat) : Nat := 0x1230000 + p * 0x100
def bias (b : Nat) : Nat := quad (b / 128) + 0x300000 + (b % 128) * 0x1000
def biasq (q : Nat) : Nat := quad q + 0x300800
def mon (m : Nat) : Nat := quad (m / 16) + 0x380000 + (m % 16) * 0x1000
def monq (q : Nat) : Nat := quad q + 0x390000
def monc : Nat := 0x1390100
def dec : Nat := 0x2000000
def route (t : Nat) : Nat := 0x2001000 + t * 4
def gu (g : Nat) : Nat := 0x2002000 + g * 0x20
def mem : Nat := 0x800000
def memCh (c : Nat) : Nat := 0x800000 + c * 0x20
def loc (i : Nat) : Nat := 0x801000 + i * 16
def hif : Nat := 0x600000
def fn (f : Nat) : Nat := 0x600200 + f * 0x20
def qown (n : Nat) : Nat := 0x600400 + n * 4
def sq (n : Nat) : Nat := 0x601000 + n * 0x20
def cq (n : Nat) : Nat := 0x602000 + n * 0x20
def db (n : Nat) : Nat := 0x1000 + n * 8
def fab : Nat := 0x700000
def lane (l : Nat) : Nat := 0x701000 + l * 0x20
def port (p : Nat) : Nat := 0x702000 + p * 0x40
def froute (n : Nat) : Nat := 0x703000 + n * 4
def fnodes (p : Nat) : Nat := 0x703000 + p * 8
def twin : Nat := 0x704000
def hrt : Nat := 0
def hctx (c : Nat) : Nat := 0x100 + c * 0x20
def hmatch (n : Nat) : Nat := 0x400 + n * 4
def int : Nat := 0x100000
def tgt (t : Nat) : Nat := 0x100100 + t * 0x20
def src (n : Nat) : Nat := 0x101000 + n * 4
def evr : Nat := 0x200000
def evch (n : Nat) : Nat := 0x201000 + n * 0x10
def evcell (c : Nat) : Nat := 0x202000 + c * 0x20
def evpub (e : Nat) : Nat := 0x203000 + e * 8
def log : Nat := 0xC00000
def cause (k : Nat) : Nat := 0xC00000 + k * 4
def bst : Nat := 0xA00000
def dom (d : Nat) : Nat := 0xA00100 + d * 0x10
def grpS (g : Nat) : Nat := 0xA00400 + g * 0x10
def pwr : Nat := 0x400000
def thm : Nat := 0x408000
def sensor (n : Nat) : Nat := 0x408100 + n * 4
def sec : Nat := 0x500000
end Page

/-! ### Time -/

/-- The count of domain `d` (R50). -/
def State.cnt (s : State) (d : Nat) : W64 := BitVec.ofNat 64 s.tim.texp + (s.tim.doms.get Dom.zero d).off
/-- The tick of domain `d` in progress. -/
def State.tk (s : State) (d : Nat) : Nat := (s.cnt d).toNat / 16
/-- The reference is valid by R62 and R63, as TIM_STATUS shows it. -/
def State.refOk (s : State) : Bool := s.on Page.tim F.TIM_STATUS_REF_OK
/-- Whether domain `d` is ANCHORED (R52). -/
def State.anchored (s : State) (d : Nat) : Bool := s.on (Page.td d) F.TD_STATE_ANCHORED
/-- A number of seconds, as 62.5 ps units. -/
def secs (n : Nat) : Nat := n * 16000000000
/-- A number of milliseconds, as 62.5 ps units. -/
def msecs (n : Nat) : Nat := n * 16000000
/-- A number of microseconds, as 62.5 ps units. -/
def usecs (n : Nat) : Nat := n * 16000
/-- What comes round every `n` units is due: `n` units have passed since it last came, if it has come. -/
def State.due (s : State) (last : Option Nat) (n : Nat) : Bool := match last with | none => true | some t => t + n ≤ s.now
/-- Whole seconds, and nanoseconds within the second, of wall time (R64). -/
def State.wallSec (s : State) : Nat := (s.tim.wallNs / 1000000000) % 2 ^ 48
def State.wallNs (s : State) : Nat := s.tim.wallNs % 1000000000

/-- The life-cycle state (R644): a value that the thermometer code does not have counts as DECOMMISSIONED. -/
def Fuses.lc (f : Fuses) : Nat := if f.lifecycle ∈ [0, 1, 3] then f.lifecycle else 7

/-! ### Partitions and ownership -/

/-- Entry `r` of a partition map (R646): an index that the map does not list, and a fused value from 5 to 7,
give partition 0. -/
def mapOwner (m : Tab Nat) (r : Nat) : Nat := let v := m.get 0 r; if v < 5 then v else 0

/-- The governing generation of a map: the last one whose CRC holds (R646). -/
def lastMap : List (Option (Tab Nat)) → Option (Tab Nat)
  | [] => none
  | m :: l => match lastMap l with
    | some x => some x
    | none => m

/-- The partition that owns resource `r`: 0–127 qubit channels, 128–159 read-out channels, 160–671 bias
outputs, 672–735 monitor inputs (R646). -/
def State.owner (s : State) (r : Nat) : Nat :=
  match lastMap s.sec.fuses.pmaps with
  | some m => mapOwner m r
  | none => 0
/-- The partition of local frame `n` and of tone `t`, which follow their channel (R23, R163). -/
def State.frameOwner (s : State) (n : Nat) : Nat := s.owner (n / 8)
def State.toneOwner (s : State) (t : Nat) : Nat := s.owner (128 + t / 32)
def State.biasOwner (s : State) (b : Nat) : Nat := s.owner (160 + b)
def State.monOwner (s : State) (m : Nat) : Nat := s.owner (672 + m)

/-- Owner and attribute of event channel `ch` (R543): bits 2:0 and 4:3 of its fuse entry. -/
def State.evOwner (s : State) (ch : Nat) : Nat :=
  match lastMap s.sec.fuses.evmaps with
  | some m => let v := m.get 0 ch % 8; if v < 5 then v else 0
  | none => if ch < 128 then 0 else 1 + (ch - 128) / 32
def State.evAttr (s : State) (ch : Nat) : Nat :=
  match lastMap s.sec.fuses.evmaps with
  | some m => m.get 0 ch / 8 % 4
  | none => 0
/-- R543: may partition `p` publish on, or receive from, channel `ch`. -/
def State.mayPublish (s : State) (p ch : Nat) : Bool :=
  match s.evAttr ch with
  | 2 => true
  | 3 => p = 0
  | _ => p = s.evOwner ch
def State.maySubscribe (s : State) (p ch : Nat) : Bool :=
  match s.evAttr ch with
  | 1 | 3 => true
  | _ => p = s.evOwner ch

/-- PART_STATE.STATE (R170): 0 IDLE, 1 ARMING, 2 ARMED, 3 RUNNING, 4 DRAINING. -/
def State.pst (s : State) (p : Nat) : Nat := s.g (Page.part p) F.PART_STATE_STATE
def State.idle (s : State) (p : Nat) : Bool := s.pst p = 0
def State.running (s : State) (p : Nat) : Bool := 3 ≤ s.pst p
def State.anyPart (_s : State) (f : Nat → Bool) : Bool := f 0 || f 1 || f 2 || f 3 || f 4

/-- The module state with the encoding of R583, by R28: 0 OFF, 1 BANKED, 2 READY, 3 ARMED, 4 RUNNING, 5 SAFE. -/
def State.modeNum (s : State) : Nat :=
  match s.pwr.mode with
  | .off => 0
  | .banked => 1
  | .safe => 5
  | .ready =>
    if s.anyPart s.running then 4 else if s.anyPart (fun p => s.pst p = 2) then 3 else 2
/-- Whether Hearth and the host interface serve commands: READY, ARMED, RUNNING or SAFE. -/
def State.serving (s : State) : Bool := s.pwr.mode = .ready || s.pwr.mode = .safe

/-- Start-up holds in recovery with the host link up (R654). -/
def State.recovery (s : State) : Bool := s.on Page.sec F.SEC_STATUS_RECOVERY

/-! ### Objects of the structures -/

def State.sqs (s : State) (i : Nat) : Seq := s.sqr.seq.get Seq.init i
def State.setSq (s : State) (i : Nat) (q : Seq) : State := { s with sqr.seq := s.sqr.seq.set Seq.init i q }
def State.prt (s : State) (p : Nat) : Part := s.sqr.part.get Part.init p
def State.setPrt (s : State) (p : Nat) (x : Part) : State := { s with sqr.part := s.sqr.part.set Part.init p x }
def State.osc (s : State) (k : Nat) : Osc := s.syn.osc.get Osc.zero k
def State.setOsc (s : State) (k : Nat) (o : Osc) : State := { s with syn.osc := s.syn.osc.set Osc.zero k o }
def State.plays (s : State) (k : Nat) : List Play := s.syn.play.get [] k
def State.setPlays (s : State) (k : Nat) (l : List Play) : State :=
  { s with syn.play := s.syn.play.set [] k l }
def State.outp (s : State) (k : Nat) : Outp := s.syn.outp.get Outp.zero k
def State.setOutp (s : State) (k : Nat) (o : Outp) : State := { s with syn.outp := s.syn.outp.set Outp.zero k o }
def State.flx (s : State) (k : Nat) : Flx := s.syn.flx.get Flx.zero k
def State.setFlx (s : State) (k : Nat) (o : Flx) : State := { s with syn.flx := s.syn.flx.set Flx.zero k o }
def State.spare (s : State) (g : Nat) : Spare := s.syn.spare.get Spare.zero g
def State.setSpare (s : State) (g : Nat) (o : Spare) : State :=
  { s with syn.spare := s.syn.spare.set Spare.zero g o }
def State.bias (s : State) (b : Nat) : Bias := s.bm.bias.get Bias.zero b
def State.setBias (s : State) (b : Nat) (x : Bias) : State := { s with bm.bias := s.bm.bias.set Bias.zero b x }
def State.mon (s : State) (m : Nat) : Mon := s.bm.mon.get Mon.zero m
def State.setMon (s : State) (m : Nat) (x : Mon) : State := { s with bm.mon := s.bm.mon.set Mon.zero m x }
def State.cu (s : State) (u : Nat) : Cu := s.acq.cu.get Cu.zero u
def State.setCu (s : State) (u : Nat) (x : Cu) : State := { s with acq.cu := s.acq.cu.set Cu.zero u x }
def State.gath (s : State) (g : Nat) : Gath := s.dec.gu.get Gath.zero g
def State.setGath (s : State) (g : Nat) (x : Gath) : State := { s with dec.gu := s.dec.gu.set Gath.zero g x }
/-- The Comet pair of partition `p` and peer node `n`, member `tw`. -/
def State.pair (s : State) (k : Nat) : Pair := s.dec.pair.get Pair.zero k
def State.setPair (s : State) (k : Nat) (x : Pair) : State := { s with dec.pair := s.dec.pair.set Pair.zero k x }
def State.lane (s : State) (l : Nat) : Lane := s.fab.lane.get Lane.zero l
def State.setLane (s : State) (l : Nat) (x : Lane) : State := { s with fab.lane := s.fab.lane.set Lane.zero l x }
def State.port (s : State) (p : Nat) : FPort := s.fab.port.get FPort.zero p
def State.setPort (s : State) (p : Nat) (x : FPort) : State := { s with fab.port := s.fab.port.set FPort.zero p x }
def State.slice (s : State) (g : Nat) : Slice := s.bst.slice.get Slice.zero g
def State.setSlice (s : State) (g : Nat) (x : Slice) : State :=
  { s with bst.slice := s.bst.slice.set Slice.zero g x }
def State.hctx (s : State) (c : Nat) : Ctx := s.hrt.ctx.get Ctx.zero c
def State.setHctx (s : State) (c : Nat) (x : Ctx) : State := { s with hrt.ctx := s.hrt.ctx.set Ctx.zero c x }

/-! ### The log (R564–R586) -/

/-! Cause codes of R565 that other rules name. -/
namespace Cause
def refLost : Nat := 0x01
def alignFail : Nat := 0x02
def barrierTimeout : Nat := 0x10
def badInstr : Nat := 0x11
def overflow : Nat := 0x12
def heatGuard : Nat := 0x13
def datapathError : Nat := 0x20
def datapathRetired : Nat := 0x21
def spareFailed : Nat := 0x22
def analogStuck : Nat := 0x23
def bstFail : Nat := 0x24
def bstIncomplete : Nat := 0x25
def biasCompliance : Nat := 0x28
def biasOpenLoop : Nat := 0x29
def memCorrected : Nat := 0x30
def memUncorrectable : Nat := 0x31
def memReplay : Nat := 0x32
def memReplayFail : Nat := 0x33
def memLocation : Nat := 0x34
def memRankRetired : Nat := 0x35
def memChannelLost : Nat := 0x36
def memSpareRows : Nat := 0x37
def cometLost : Nat := 0x40
def cometAckTimeout : Nat := 0x41
def hostLinkDown : Nat := 0x48
def hostDma : Nat := 0x49
def fabFrameCrc : Nat := 0x50
def fabLaneLock : Nat := 0x51
def fabLaneRetired : Nat := 0x52
def fabWordDiscard : Nat := 0x53
def fabPortDown : Nat := 0x54
def nodeLimit : Nat := 0x55
def twinDiverged : Nat := 0x58
def twinLost : Nat := 0x59
def twinNotInStep : Nat := 0x5A
def twinTakeover : Nat := 0x5B
def hearthPatchEcc : Nat := 0x60
def hearthRom : Nat := 0x61
def asicLost : Nat := 0x62
def evrLoopRate : Nat := 0x68
def thermalWarning : Nat := 0x70
def thermalThrottle : Nat := 0x71
def thermalShutdown : Nat := 0x72
def sensorBroken : Nat := 0x73
def inputSag : Nat := 0x74
def inputFail : Nat := 0x75
def hostRequest : Nat := 0x78
def stateModule : Nat := 0xC0
def statePartition : Nat := 0xC1
def stateDomain : Nat := 0xC2
def stateTwin : Nat := 0xC3
def stateWallStep : Nat := 0xC4
def secEvent : Nat := 0xE0
def logCleared : Nat := 0xF0
end Cause

/-- KIND of a cause (R564, R565): 0 transient, 1 permanent, 2 report, 3 state, 4 security, 5 log. -/
def causeKind (c : Nat) : Nat :=
  if c ∈ [0x12, 0x20, 0x28, 0x29, 0x30, 0x31, 0x32, 0x49, 0x50, 0x51, 0x68] then 0
  else if c ∈ [0x21, 0x22, 0x23, 0x24, 0x33, 0x34, 0x35, 0x36, 0x37, 0x52, 0x61, 0x62] then 1
  else if 0xF0 ≤ c then 5 else if 0xE0 ≤ c then 4 else if 0xC0 ≤ c then 3 else 2

/-- A group ID of R512: block code and index. -/
def gid (code ix : Nat) : Nat := code * 2048 + ix

/-- Write an entry at the head of the ring (R581, R582). -/
def State.logWrite (s : State) (cause kind part source detail repeat_ : Nat) : State :=
  let head := s.g Page.log F.LOG_HEAD_INDEX
  let nv := kind = 1 ∨ cause = Cause.thermalShutdown
  let e : LogEnt :=
    { mtime := s.log.mtime, ns := s.wallNs, sec := s.wallSec % 2 ^ 34, seq := s.g Page.log F.LOG_SEQ
      cause := cause, kind := kind, part := part
      wallValid := s.g Page.tim F.TIM_STATUS_WALL_STATE ≠ 0, nv := nv
      source := source, detail := detail % 2 ^ 48, repeat_ := repeat_ }
  let s := s.when (s.log.count = 16384) (fun s => (s.bump Page.log F.LOG_OVERWRITES).flag Page.log F.LOG_STATUS_WRAPPED)
  let s := { s with
    log.ring := s.log.ring.set LogEnt.zero head e
    log.count := min (s.log.count + 1) 16384
    log.last := s.log.last.set (0, 0) (source * 256 + cause) (s.log.mtime.toNat + 1, 0)
    log.flashQ := if nv then s.log.flashQ ++ [Sum.inr e] else s.log.flashQ
    log.uartQ := s.log.uartQ ++ [(s.now, e)] }
  let s := s.p Page.log F.LOG_HEAD_INDEX ((head + 1) % 16384)
  let s := s.bumpW Page.log F.LOG_SEQ
  if nv then s.flag Page.log F.LOG_STATUS_NV_BUSY else s

/-- An occurrence of a cause (R564–R566, R585, R586): it is counted; a transient or report occurrence less
than SUPPRESS ms after the last entry of its source and cause is only counted; a permanent fault sets PERM_UNACK. -/
def State.logAs (s : State) (cause kind part source detail : Nat) : State :=
  let s := s.bump (Page.cause cause) F.LOG_CAUSE_COUNT
  let s := s.when (kind = 0) (fun s => s.bump64 Page.log F.LOG_TRANSIENTS_LO)
  let s := s.when (kind = 1) (fun s => (s.bump Page.log F.LOG_PERMANENTS).flag Page.log F.LOG_STATUS_PERM_UNACK)
  let l := s.log.last.get (0, 0) (source * 256 + cause)
  let sup := s.g Page.log F.LOG_CFG_SUPPRESS
  if (kind = 0 ∨ kind = 2) ∧ sup ≠ 0 ∧ l.1 ≠ 0 ∧ s.log.mtime.toNat < l.1 - 1 + msecs sup then
    let s := s.bump Page.log F.LOG_SUPPRESSED
    { s with log.last := s.log.last.set (0, 0) (source * 256 + cause) (l.1, min (l.2 + 1) 0xFFFF) }
  else s.logWrite cause kind part source detail l.2

/-- An occurrence of a cause, with the KIND that its class gives it. -/
def State.logIt (s : State) (cause part source detail : Nat) : State :=
  s.logAs cause (causeKind cause) part source detail

/-! ### Interrupt sources (R520–R522) -/

/-- An event on edge source `n`: it becomes pending, or merges with one that is. -/
def State.intEdge (s : State) (n : Nat) : State :=
  if s.int.pend.get false n then s.bump Page.int F.INT_MERGED
  else { s with int.pend := s.int.pend.set false n true }

/-! ### Host memory -/

/-- Write bytes into host memory from an address on. -/
def writeBytes : Tab Byte → Nat → List Byte → Tab Byte
  | m, _, [] => m
  | m, a, b :: bs => writeBytes (m.set 0 a b) (a + 1) bs

def State.hostWrite (s : State) (a : Nat) (bs : List Byte) : State :=
  { s with hif.hostMem := writeBytes s.hif.hostMem a bs }

/-- `n` bytes of a table from key `a` on. -/
def readBytes (m : Tab Byte) (a : Nat) : Nat → List Byte
  | 0 => []
  | n + 1 => m.get 0 a :: readBytes m (a + 1) n

/-- The `n` least significant bytes of a number, least significant first. -/
def leBytes : Nat → Nat → List Byte
  | 0, _ => []
  | n + 1, v => BitVec.ofNat 8 v :: leBytes n (v / 256)

/-- The number that bytes spell, least significant first. -/
def leNat : List Byte → Nat
  | [] => 0
  | b :: bs => b.toNat + 256 * leNat bs

/-- Bytes as little-endian words of `k` bytes; bytes that do not fill a word are left out. -/
def chunks (k : Nat) : Nat → List Byte → List Nat
  | 0, _ => []
  | n + 1, bs => if bs.length < k then [] else leNat (bs.take k) :: chunks k n (bs.drop k)

/-- The bytes of 32-bit words. -/
def wordBytes (ws : List Word) : List Byte := ws.flatMap (fun w => leBytes 4 w.toNat)

/-! ### Status codes (R452) and completions -/

namespace St
def success : Nat := 0
def targetDark : Nat := 0x0001
def badHeader : Nat := 0x0100
def badLength : Nat := 0x0101
def duplicateTag : Nat := 0x0102
def badOpcode : Nat := 0x0103
def invalidParam : Nat := 0x0104
def badState : Nat := 0x0105
def busyCommand : Nat := 0x0106
def powerLimit : Nat := 0x0107
def unanchored : Nat := 0x0108
def startPast : Nat := 0x0109
def startMissed : Nat := 0x010A
def tableFull : Nat := 0x010B
def boundaryPast : Nat := 0x010C
def hostMemory : Nat := 0x010D
def aborted : Nat := 0x010E
def internalError : Nat := 0x010F
def noChannel : Nat := 0x0110
def loopCombinational : Nat := 0x0111
def nodeLimit : Nat := 0x0112
def signatureInvalid : Nat := 0x0113
def rollback : Nat := 0x0114
def fuseLocked : Nat := 0x0115
def notSupported : Nat := 0x0116
end St

/-- A refused packet's status, the DETAIL byte and the WORD field (R444). -/
structure Fail where
  status : Nat
  detail : Nat
  word : Nat
  deriving DecidableEq, Repr

def Fail.plain (st : Nat) : Fail := ⟨st, 0xFF, 0⟩
/-- The parameter word `i` is at fault. -/
def Fail.atWord (st i : Nat) : Fail := ⟨st, if i ≤ 252 then i else 0xFD, i⟩
/-- The target is at fault. -/
def Fail.target : Fail := ⟨St.invalidParam, 0xFE, 0⟩

/-- Whether a slot holds the packet of queue `sq` and tag `tag`, not yet done. -/
def Slot.isOf (sl : Slot) (sq tag : Nat) : Bool := sl.p.sq = sq && sl.p.tag = tag && sl.st ≠ .done

/-- Mark the first live slot of (sq, tag) done with a result; `none` if there is none. -/
def markDone (sq tag : Nat) (f : Slot → Slot) : List Slot → Option (List Slot)
  | [] => none
  | sl :: l =>
    if sl.isOf sq tag then some ({ f sl with st := .done } :: l)
    else (markDone sq tag f l).map (sl :: ·)

/-- Mark the first live slot of (sq, tag), if any. -/
def markFirst (sq tag : Nat) (f : Slot → Slot) : List Slot → Option (List Slot)
  | [] => none
  | sl :: l => if sl.isOf sq tag then some (f sl :: l) else (markFirst sq tag f l).map (sl :: ·)

/-- A slot for a packet. -/
def State.newSlot (s : State) (p : Pkt) (st : SlotSt) : Slot :=
  { p := p, st := st, shot := none, head := s.g (Page.sq p.sq) F.SQ_HEAD_HEAD, t0 := s.now
    status := 0, detail := 0xFF, word := 0, result := 0, drop := false, begun := false, holds := [] }

/-! ### Routine contexts and held groups (R511 to R514) -/

/-- Apply one deferred change of a handler: bits set and cleared, and a count added (R514). -/
def State.applyDefer (s : State) (d : DeferOp) : State :=
  let w := (s.reg d.addr &&& ~~~ d.clrB) ||| d.setB
  s.setReg d.addr (if d.add = 0 then w else BitVec.ofNat 32 (satAdd32 w.toNat d.add))

/-- Apply and empty the deferral buffer of group `g`, in one step. -/
def State.applyDefers (s : State) (g : Nat) : State :=
  let l := s.hrt.defer.get [] g
  let s := { s with hrt.defer := s.hrt.defer.set [] g [] }
  l.foldl State.applyDefer s

/-- After context `c`, the next ready one in round-robin order executes (R511): at once, or when the handlers that run have
returned. -/
def State.switchCtx (s : State) (c : Nat) : State :=
  if s.hrt.frames ≠ [] then s
  else match ((List.range 20).map (fun i => (c + 1 + i) % 20)).find? (fun k => (s.hctx k).st = 2) with
    | some k => { s.setHctx k { s.hctx k with st := 1 } with hrt.cur := { (s.hctx k).micro with ctx := k } }
    | none => s
/-- A context executes. -/
def State.ctxRuns (s : State) : Bool := s.hrt.ctx.any (fun c => c.2.st = 1)
/-- Context `k` is taken by a routine (R511): it executes, or is ready while another does. Its first word is the microcode's. -/
def State.takeCtx (s : State) (k : Nat) (x : Ctx) : State :=
  let m : Micro := { Micro.zero with ctx := k, upc := Config.routineAt x.op % 65536 }
  if s.ctxRuns || s.hrt.frames ≠ [] then s.setHctx k { x with st := 2, micro := m }
  else { s.setHctx k { x with st := 1, micro := m } with hrt.cur := m }

/-- A context's routine ends: its groups are released with their deferral buffers applied. -/
def State.freeCtx (s : State) (c : Nat) : State :=
  let x := s.hctx c
  let s := s.setHctx c Ctx.zero
  let s := forEach x.groups s State.applyDefers
  if x.st = 1 then s.switchCtx c else s

/-- The host context that serves the packet of queue `sq` and tag `tag`. -/
def State.ctxOf (s : State) (sq tag : Nat) : Option Nat :=
  (s.hrt.ctx.find? (fun c => c.2.st ≠ 0 && !c.2.internal && c.2.sq = sq && c.2.tag = tag)).map (·.1)

/-- The context of a command ends with the command. -/
def State.endCtx (s : State) (sq tag : Nat) : State :=
  match s.ctxOf sq tag with
  | some c => s.freeCtx c
  | none => s

/-- The lowest free context from `lo` on among `n` (R511). -/
def State.freeSlot (s : State) (lo n : Nat) : Option Nat :=
  (List.range n).findSome? (fun k => if (s.hctx (lo + k)).st = 0 then some (lo + k) else none)

/-- Finish a packet: its completion waits to be posted (R38, R439, R444). -/
def State.finish (s : State) (p : Pkt) (x : Fail) (result : Nat := 0) : State :=
  let s := s.endCtx p.sq p.tag
  let f := fun sl : Slot =>
    { sl with status := x.status, detail := x.detail, word := x.word, result := BitVec.ofNat 64 result }
  match markDone p.sq p.tag f s.hif.slots with
  | some l => { s with hif.slots := l }
  | none => { s with hif.slots := s.hif.slots ++ [{ f (s.newSlot p .done) with st := .done }] }

/-- Finish a packet with SUCCESS. -/
def State.succeed (s : State) (p : Pkt) (result : Nat := 0) : State := s.finish p (.plain St.success) result

/-- Finish the command that waits under (sq, tag), if one does. -/
def State.settle (s : State) (w : Option (Nat × Nat)) (status : Nat) (result : Nat := 0) : State :=
  match w with
  | none => s
  | some (sq, tag) =>
    let s := s.endCtx sq tag
    match markDone sq tag (fun sl => { sl with status := status, result := BitVec.ofNat 64 result }) s.hif.slots with
    | some l => { s with hif.slots := l }
    | none => s

/-- Finish every command of a list that waits. -/
def State.settleAll (s : State) (l : List (Nat × Nat)) (status : Nat) (result : Nat := 0) : State :=
  l.foldl (fun s w => s.settle (some w) status result) s

end Sys2Proof.Machine

namespace Sys2Proof
/-- Who waits for a command's end. -/
def Pkt.who (p : Pkt) : Option (Nat × Nat) := some (p.sq, p.tag)
end Sys2Proof
end

