-- ==== Sys2Proof/Machine/Access.lean ====
section
/-!
DEFINITION. Machine/Access.lean: the register path of R26: who sees what (R19, R433 and the view rules of
the block chapters), which block is running (R11), which register a command holds (R17), and what a write of
each access kind does (R9 to R16). Actions of WO bits belong to the block chapters and are performed by their meanings.
-/

namespace Sys2Proof.Machine
open Sys2Proof

/-! ### Whose object a register belongs to -/

/-! Functions are numbered 0 for PF0 and 1 to 4 for the VFs; 5 is Hearth, which uses the register path too (R15 to R17). -/

/-- Number of a capture unit's partition (ACQ_CU_CTRL.PARTITION), a group's, and a gather unit's. -/
def State.cuPart (s : State) (u : Nat) : Nat := s.g (Page.cu u) F.ACQ_CU_CTRL_PARTITION
def State.grpPart (s : State) (g : Nat) : Nat := s.g (Page.grp g) F.ACQ_GRP_CTRL_PARTITION
def State.guPart (s : State) (g : Nat) : Nat := s.g (Page.gu g) F.GU_CTRL_PARTITION
/-- Owner function of queue `n` (R435). -/
def State.queueOwner (s : State) (n : Nat) : Nat := s.g (Page.qown n) F.HIF_Q_OWNER_FN
/-- Owner of event cell `c` (R552). -/
def State.cellOwner (s : State) (c : Nat) : Nat := s.g (Page.evcell c) F.EVR_CELL_STATE_OWNER

/-- Owner of sequencer `i`: 0–127 QS000–QS127, 128–159 RS00–RS31; the channel's partition (R6, R163). -/
def State.seqOwner (s : State) (i : Nat) : Nat := s.owner i

/-- Sequencer of SRC code `n` of R547 (FA_SEQ numbering of R294). -/
def srcSeq (n : Nat) : Nat := n / 4
/-- Owner of publisher source `n` (R547). -/
def State.srcOwner (s : State) (n : Nat) : Nat :=
  if n < 640 then s.seqOwner (srcSeq n)
  else if 643 ≤ n ∧ n ≤ 647 then n - 643
  else if 648 ≤ n ∧ n ≤ 652 then n - 648
  else 0

/-- Owner of interrupt source `n`, as the number of a partition or of its function (R520). -/
def State.intOwner (s : State) (n : Nat) : Nat :=
  if n < 160 then s.owner n
  else if n < 192 then s.cuPart (n - 160)
  else if n < 256 then s.monOwner (n - 192)
  else if n < 768 then s.biasOwner (n - 256)
  else if n < 832 then s.queueOwner (n - 768)
  else if n < 837 then n - 832
  else if n < 864 then 0
  else if n < 928 then s.evOwner (n - 864)
  else if n < 992 then s.guPart (n - 928)
  else 0

/-- Whether a partition owns a drive, flux or probe channel of quadrant `q` (R134). -/
def State.ownsEnv (s : State) (p q : Nat) : Bool :=
  (List.range 32).any (fun c => s.owner (32 * q + c) = p) || (List.range 8).any (fun c => s.owner (128 + 8 * q + c) = p)
/-- Whether a partition owns any resource of quadrant `q`. -/
def State.ownsQuad (s : State) (p q : Nat) : Bool :=
  s.ownsEnv p q || (List.range 128).any (fun c => s.biasOwner (128 * q + c) = p)
    || (List.range 16).any (fun c => s.monOwner (16 * q + c) = p)
/-- Whether a partition owns a read-out channel of quadrant `q` (R286). -/
def State.ownsRdo (s : State) (p q : Nat) : Bool := (List.range 8).any (fun c => s.owner (128 + 8 * q + c) = p)

/-- First descriptor and number of descriptors of partition `p` in quadrant `q` (R98). -/
def State.descWin (s : State) (q p : Nat) : Nat × Nat :=
  (s.g (Page.envPart q p) F.DRV_ENV_PART_DESC_DESC_BASE, s.g (Page.envPart q p) F.DRV_ENV_PART_DESC_DESC_COUNT)
/-- First sample and number of samples of partition `p` in quadrant `q` (R98). -/
def State.sampWin (s : State) (q p : Nat) : Nat × Nat :=
  (512 * s.g (Page.envPart q p) F.DRV_ENV_PART_SAMP_SAMP_BASE, 512 * s.g (Page.envPart q p) F.DRV_ENV_PART_SAMP_SAMP_COUNT)
/-- Whether `n` lies in a window. -/
def inWin (w : Nat × Nat) (n : Nat) : Bool := w.1 ≤ n && n < w.1 + w.2
/-- The partition in whose descriptor window entry `e` lies, if any (R98, R190). -/
def State.descOwner (s : State) (q e : Nat) : Option Nat :=
  (List.range 5).find? (fun p => inWin (s.descWin q p) e)

/-- Number of a sequencer from its quadrant and local number (R204). -/
def seqNum (q l : Nat) : Nat := if l < 32 then 32 * q + l else 128 + 8 * q + (l - 32)

/-! ### Views (R19, R432–R434) -/

/-- The PF0 address that an offset in a VF's BAR2 stands for (R433). -/
def vfAddr (a : Nat) : Option Nat :=
  if a < 0x200000 then some (a / 0x20000 * 0x100000 + a % 0x20000)
  else if a < 0x210000 then some (0x2000000 + (a - 0x200000))
  else if 0x400000 ≤ a ∧ a < 0x600000 then some (0x2200000 + (a - 0x400000))
  else if 0x800000 ≤ a ∧ a < 0x1000000 then
    let q := (a - 0x800000) / 0x200000
    let o := (a - 0x800000) % 0x200000
    let b := 0x1000000 + q * 0x400000
    if o < 0x50000 then some (b + o)
    else if o < 0x80000 then some (b + 0x80000 + (o - 0x50000))
    else if o < 0xA0000 then some (b + 0x100000 + (o - 0x80000))
    else if o < 0xB0000 then some (b + 0x180000 + (o - 0xA0000))
    else if o < 0xF0000 then some (b + 0x200000 + (o - 0xB0000))
    else if o < 0x100000 then none
    else if o < 0x180000 then some (b + 0x300000 + (o - 0x100000))
    else if o < 0x1A0000 then some (b + 0x380000 + (o - 0x180000))
    else none
  else none

/-- Whether VF `f` sees an instance of a register, by the view rule of its block's chapter. -/
def State.seesReg (s : State) (f : Nat) (r : RegDesc) (ix : List Nat) : Bool :=
  let i := ix.getD 0 0
  let j := ix.getD 1 0
  match r.vis with
  | .all => true
  | .pf0 | .kq | .monq | .monc | .biasq | .dec | .grp =>
    -- INT_PENDING and INT_ACTIVE are in every view (R542); a group shows to its own partition (R358)
    if r.base = R.INT_PENDING ∨ r.base = R.INT_ACTIVE then true
    else r.vis = .grp && r.base ≠ R.ACQ_FIRE_STALE && s.grpPart i = f
  | .hrt => r.base ≤ R.HRT_VERSION_FW
  | .bias => s.biasOwner (128 * i + j) = f
  | .mon => s.monOwner (16 * i + j) = f
  | .cu => s.cuPart (8 * i + j) = f
  | .desc => s.descOwner i j = some f && s.ownsEnv f i
  | .dom => i = f
  | .drv => s.owner (32 * i + j) = f
  | .envw => (r.base = R.DRV_ENV_ADDR || r.base = R.DRV_ENV_DATA) && s.ownsEnv f i
  | .kern => R.RDO_KERN_ADDR ≤ r.base && s.ownsRdo f i
  | .rdo => s.owner (128 + 8 * i + j) = f
  | .tone => s.toneOwner (256 * i + j) = f
  | .seq => s.seqOwner (seqNum i j) = f
  | .part => i = f
  | .route => s.toneOwner i = f
  | .gu => s.guPart i = f
  | .pauli =>
    if r.base = R.DEC_PAULI then s.owner (2 * i) = f || s.owner (2 * i + 1) = f else i / 64 = f
  | .ttu => 8 + 6 * (f - 1) ≤ i && i ≤ 13 + 6 * (f - 1)
  | .tcu => 4 + 3 * (f - 1) ≤ i && i ≤ 6 + 3 * (f - 1)
  | .fn => i = f
  | .queue => s.queueOwner i = f
  | .inttgt => i = f + 1
  | .intsrc => s.intOwner i = f
  | .evr => r.base = R.EVR_CTRL || r.base = R.EVR_SW_PUB
  | .evch => true
  | .evcell => s.cellOwner i = f
  | .evpub => s.srcOwner (s.g (Page.evpub i) F.EVR_PUB_SRC) = f
  | .fab => r.base = R.FAB_STATUS
  | .fabr => (r.base = R.FAB_PART_NODES_LO || r.base = R.FAB_PART_NODES_HI) && i = f
  | .pwr => r.base = R.PWR_STATUS

/-- The partition that owns decision-table key `k`: the direct keys of a tone, and the banks of an enabled
gather unit (R289, R299). -/
def State.keyOwner (s : State) (k : Nat) : Option Nat :=
  if k < 4096 then some (s.toneOwner (k / 4))
  else ((List.range 64).find? (fun g => s.on (Page.gu g) F.GU_CTRL_EN
      && s.g (Page.gu g) F.GU_BASE_BASE ≤ k / 512
      && (k / 512 - s.g (Page.gu g) F.GU_BASE_BASE) * 512 < 2 ^ s.g (Page.gu g) F.GU_CTRL_KEY_BITS)).map s.guPart

/-- Whether function `fn` sees address `a`: PF0 sees everything (R432). -/
def State.sees (s : State) (fn a : Nat) : Bool :=
  full fn ||
  (match regAt a with
   | some (r, ix) => s.seesReg fn r ix
   | none =>
     -- the kernel coefficient windows (R694) and the partition's table entries (R323)
     if 0x1000000 ≤ a ∧ a < 0x2000000 ∧ 0x28000 ≤ a % 0x400000 ∧ a % 0x400000 < 0x30000 then true
     else if 0x2200000 ≤ a ∧ a < 0x2400000 then s.keyOwner ((a - 0x2200000) / 32) = some fn
     -- MSI-X structures of the function's own BAR (R455)
     else (0x610000 ≤ a && a < 0x610200) || (0x611000 ≤ a && a < 0x611008))

/-- Count a denied access of VF `fn` (R19). -/
def State.deny (s : State) (fn : Nat) : State := s.when (¬ full fn) (·.bump (Page.fn fn) F.HIF_FN_DENIED)

/-- Registers that answer in BANKED: PWR, THM, TIM, EVR, LOG and the doorbells (R622). -/
def bankedAddr (a : Nat) : Bool :=
  (0x400000 ≤ a && a < 0x500000) || (0x300000 ≤ a && a < 0x400000) || (0x200000 ≤ a && a < 0x300000)
    || (0xC00000 ≤ a && a < 0x1000000) || (0x1000 ≤ a && a < 0x1200)
/-- The register path keeps the limits of R622: BANKED, and SAFE entered from BANKED (R575, R625). -/
def State.bankedLimits (s : State) : Bool := s.pwr.mode = .banked || s.pwr.deep

/-! ### Which block runs (R11, R190 and the block chapters) -/

def State.anyBusyPart (s : State) : Bool := s.anyPart (fun p => !s.idle p)

/-- A capture unit runs in every state but IDLE, DONE and STOPPED (R333). -/
def State.cuRuns (s : State) (u : Nat) : Bool := !(s.g (Page.cu u) F.ACQ_CU_STATUS_STATE ∈ [0, 4, 6])
/-- A capture unit is a member of group `g` (R348). -/
def State.cuMember (s : State) (g u : Nat) : Bool :=
  s.on (Page.cu u) F.ACQ_CU_CTRL_GROUP_EN && s.g (Page.cu u) F.ACQ_CU_CTRL_GROUP = g
/-- A packet of queue `n` is fetched and not complete. -/
def State.sqBusy (s : State) (n : Nat) : Bool := s.hif.slots.any (fun sl => sl.p.sq = n)

/-- Whether the owning block of a register runs, for its RL fields and, where it has any, its RS fields. -/
def State.runs (s : State) (r : RegDesc) (ix : List Nat) : Bool :=
  let i := ix.getD 0 0
  let j := ix.getD 1 0
  match r.lck with
  | .none => false
  | .anyPart | .evcell | .fab | .fabr | .lane | .twin => s.anyBusyPart
  | .anyRun => s.anyPart (fun p => s.pst p = 2 || s.pst p = 3)
  | .bias => !s.idle (s.biasOwner (128 * i + j))
  | .mon => !s.idle (s.monOwner (16 * i + j))
  | .bst => s.on Page.bst F.BST_STATUS_LOGIC_BUSY
  | .cu => s.cuRuns (8 * i + j)
  | .grp => (List.range 32).any (fun u => s.cuMember i u && s.cuRuns u)
  | .desc => (match s.descOwner i j with | some p => !s.idle p | none => false)
  | .drv => !s.idle (s.owner (32 * i + j))
  | .rdo => !s.idle (s.owner (128 + 8 * i + j))
  | .tone => !s.idle (s.toneOwner (256 * i + j))
  | .seq => !s.idle (s.seqOwner (seqNum i j))
  | .route => !s.idle (s.toneOwner i)
  | .gu => !s.idle (s.guPart i)
  | .part => (if r.base = R.DRV_ENV_PART_DESC ∨ r.base = R.DRV_ENV_PART_SAMP then !s.idle j else !s.idle i)
  | .mem => s.anyBusyPart || s.hrt.ctx.any (fun c => c.2.st ≠ 0 && c.2.op / 256 = 8)
      || (List.range 4).any (fun c => s.g (Page.memCh c) F.MEM_CH_STATUS_RANK0 = 1 || s.g (Page.memCh c) F.MEM_CH_STATUS_RANK1 = 1)
  | .queue =>
    if r.base < R.CQ_BASE_LO then s.on (Page.sq i) F.SQ_CTRL_ENABLE
    else (List.range 64).any (fun n => s.g (Page.sq n) F.SQ_CTRL_CQ = i
      && (s.on (Page.sq n) F.SQ_CTRL_ENABLE || s.sqBusy n))
  | .qown => s.on (Page.sq i) F.SQ_CTRL_ENABLE || s.on (Page.cq i) F.CQ_CTRL_ENABLE

/-! ### Rejections (R11, R17, R448) -/

/-- Address of the LOCKED_WRITES counter of the block that holds `a`; BUSY_REJECTS follows it. -/
def lockedCounter (a : Nat) : Nat :=
  if a < 0x100000 then 0x20
  else if a < 0x200000 then 0x100000
  else if a < 0x300000 then 0x200010
  else if a < 0x400000 then 0x300010
  else if a < 0x500000 then 0x400044
  else if a < 0x600000 then 0x500014
  else if a < 0x700000 then 0x600010
  else if a < 0x800000 then 0x700014
  else if a < 0xA00000 then 0x800020
  else if a < 0xC00000 then 0xA00028
  else if a < 0x1000000 then 0xC00014
  else if 0x2000000 ≤ a then 0x2000010
  else
    let b := a / 0x400000 * 0x400000
    match (a / 0x80000) % 8 with
    | 0 => b + 0x20000
    | 1 => b + 0xA0000
    | 2 => b + 0x110000
    | 3 => b + 0x188000
    | 6 => b + 0x300800
    | 7 => b + 0x390000
    | _ => b + 0x228000

def State.bumpAt (s : State) (a : Nat) : State := s.setReg a (BitVec.ofNat 32 (satAdd32 (s.reg a).toNat 1))

/-- A write rejected by R11. -/
def State.lockedWrite (s : State) (a : Nat) : State := s.bumpAt (lockedCounter a)
/-- A write rejected by R17, as R448 records it. -/
def State.busyReject (s : State) (fn a : Nat) : State :=
  ((s.bumpAt (lockedCounter a + 4)).p (Page.fn fn) F.HIF_FN_REJECT_ADDR_ADDR a).p
    (Page.fn fn) F.HIF_FN_REJECT_STATUS_STATUS St.busyCommand

/-- Whether a command that is executing holds the register at `a` (R17, R513). -/
def State.held (s : State) (a : Nat) : Bool :=
  s.hrt.ctx.any (fun c => c.2.st ≠ 0 && c.2.holds.any (fun w => inWin w a))

/-! ### Encodings that a table marks reserved (R13) -/

/-- Whether VF `fn` (or PF0, which may name any) may name channel `ch` as a consumer or a producer (R544). -/
def State.chanSub (s : State) (fn ch : Nat) : Bool := full fn || s.maySubscribe fn ch
def State.chanPub (s : State) (fn ch : Nat) : Bool := full fn || s.mayPublish fn ch
/-- Whether a time-unit source is assigned, and in a VF's view its own domain or wall time (R81). -/
def srcOk (fn v : Nat) : Bool := v ≤ 5 && (full fn || v = fn || v = 5)
/-- Whether an element source names a bias output that function `fn` may measure (R401). -/
def State.elemOk (s : State) (fn q v : Nat) : Bool :=
  full fn || !(v % 4 ∈ [1, 2]) || s.biasOwner (128 * q + v / 4 % 128) = fn

/-- Whether windows of R98 would stay apart if partition `p`'s became `(b, n)`. -/
def winOk (p lim : Nat) (win : Nat → Nat × Nat) (b n : Nat) : Bool :=
  b + n ≤ lim && (List.range 5).all (fun p' => p' = p || n = 0 || (win p').2 = 0
    || b + n ≤ (win p').1 || (win p').1 + (win p').2 ≤ b)

/-- Whether value `v` of the field with lowest bit `lo` is an encoding that its table assigns, for a write
of word `w` by function `fn`. A value of SEQ_IMAGE_LEN above the range that R201 gives it counts as one that the table does
not assign: DESIGN CHOICE (log entry 63). -/
def State.legal (s : State) (fn : Nat) (r : RegDesc) (ix : List Nat) (lo v : Nat) (w : Word) : Bool :=
  let b := r.base
  let i := ix.getD 0 0
  if b = R.TTU_CTRL then (if lo = 2 then srcOk fn v else if lo = 8 then s.chanPub fn v else true)
  else if b = R.TCU_CTRL then
    (if lo = 1 then srcOk fn v
     else if lo = 8 then (if wget w 4 4 = 1 then v < 64 else s.chanSub fn v) else true)
  else if b = R.TIM_PTP_CFG then (lo ≠ 1 || v < 3)
  else if b = R.DRV_HEAT_CFG ∨ b = R.RDO_PRB_HEAT_CFG then 8 ≤ v && v ≤ 30
  else if b = R.FLX_CTRL then (if lo = 8 then v ≤ 20 else if lo = 1 then v ≤ 2 else true)
  else if b = R.DRV_ENV_PART_DESC then
    winOk (ix.getD 1 0) 4096 (s.descWin i) (wget w 11 0) (wget w 28 16)
  else if b = R.DRV_ENV_PART_SAMP then
    winOk (ix.getD 1 0) 2097152 (s.sampWin i) (512 * wget w 11 0) (512 * wget w 28 16)
  else if b = R.SEQ_K_SRC then (lo ≠ 0 || v < 40)
  else if b = R.SEQ_IMAGE_LEN then v ≤ 16777216
  else if b = R.SEQ_JUMP_SRC then (lo ≠ 0 || s.chanSub fn v)
  else if b = R.TONE_CTRL then (lo ≠ 3 || v ≤ 2)
  else if b = R.TONE_WIN then (lo ≠ 0 || (1 ≤ v && v ≤ 4096))
  else if b = R.TONE_KERNEL then (if lo = 15 then v ≤ 4 else if lo = 18 then v ≤ 4096 else true)
  else if b = R.REC_LEN then 1 ≤ v && v ≤ 262143
  else if b = R.DEC_COMET_CFG then (lo ≠ 0 || (1 ≤ v && v ≤ 2048))
  else if b = R.GU_CTRL then (lo ≠ 1 || v < 5)
  else if b = R.GU_BASE then 8 ≤ v
  else if b = R.ACQ_CU_CTRL then (lo ≠ 2 || (v < 5 && (full fn || v = fn)))
  else if b = R.ACQ_CU_SRC then (if lo = 16 ∨ lo = 20 then v ≤ 12 else if lo = 0 then v ≤ 5 else true)
  else if b = R.ACQ_CU_TRIG then
    (if lo = 0 then v ≤ 3
     else if lo = 5 then v = 0 || s.g (Page.cu (8 * i + ix.getD 1 0)) F.ACQ_CU_SRC_KIND ∈ [1, 2]
     else if lo = 8 then (if wget w 2 0 = 1 then s.chanSub fn v else wget w 2 0 ≠ 2 || v < 64)
     else true)
  else if b = R.ACQ_CU_POST then 1 ≤ v
  else if b = R.ACQ_CU_BUF then (lo ≠ 16 || (1 ≤ v && v ≤ 4096))
  else if b = R.ACQ_CU_MASK then (if lo = 12 then v ≤ 2048 else lo ≠ 25 || v ≤ 2)
  else if b = R.ACQ_CU_EVT then (lo < 8 || s.chanPub fn v)
  else if b = R.STR_LEN then 2 ≤ v && v ≤ 262143
  else if b = R.ACQ_K_CFG then (lo ≠ 3 || v ≤ 2)
  else if b = R.ACQ_GRP_CTRL then (lo ≠ 1 || (v < 5 && (full fn || v = fn)))
  else if b = R.BIAS_CTRL then (if lo = 7 then v ≤ 2 else if lo = 1 then v ≤ 5 else true)
  else if b = R.BIAS_QEVT then (lo = 16 || s.chanSub fn v)
  else if b = R.MON_CTRL then (lo < 8 || s.chanSub fn v)
  else if b = R.MON_ELEM then (lo ≠ 0 || s.elemOk fn i (wget w 8 2 * 4 + v))
  else if b = R.MON_INJ_ELEM then (lo ≠ 0 || s.elemOk fn i (wget w 8 2 * 4 + v % 4))
  else if b = R.MON_REF then v ≤ 2
  else if b = R.MON_COMMON_CTRL then (lo ≠ 0 || v ≤ 2)
  else if b = R.MEM_MAP then (if lo = 0 then v ≤ 16 else if lo = 8 then 8 ≤ v && v ≤ 16 else true)
  else if b = R.MEM_REF_CFG then (if lo = 4 then v ≤ 8 else if lo = 0 then v ≤ 2 else true)
  else if b = R.MEM_MARCH_CTRL then (if lo = 0 then v ≤ 11 else if lo = 7 ∨ lo = 11 then v ≤ 2 else true)
  else if b = R.HIF_Q_OWNER then v < 5
  else if b = R.SQ_SIZE ∨ b = R.CQ_SIZE then 4 ≤ v && v ≤ 16
  else if b = R.INT_MOD then v ≤ 4000
  else if b = R.INT_SRC_CFG then
    (lo ≠ 9 || (v < 6 && (v ≤ 1 || v = s.intOwner i + 1) && (full fn || v = 1 || v = fn + 1)))
  else if b = R.EVR_CHAN_CFG then (lo ≠ 16 || v ≤ 1000)
  else if b = R.EVR_CELL_CFG then (lo ≠ 20 || v ≤ 2)
  else if b = R.EVR_CELL_STATE then (lo ≠ 1 || v < 5)
  else if b = R.EVR_CELL_IN then full fn || (List.range 4).all (fun k => s.maySubscribe fn (v / 256 ^ k % 256))
  else if b = R.EVR_CELL_OUT then (lo ≠ 0 || s.chanPub fn v)
  else if b = R.EVR_PUB then
    (if lo = 0 then v < 656 && (full fn || s.srcOwner v = fn) else if lo = 16 then s.chanPub fn v else true)
  else if b = R.BST_CFG then (lo ≠ 0 || (1 ≤ v && v ≤ 4))
  else true

/-! ### Writing (R9–R16) -/

/-- The fields of a row that a write of `w` by `fn` may set: reserved encodings keep their previous value. -/
def State.legalMask (s : State) (fn : Nat) (r : RegDesc) (ix : List Nat) (w : Word) : List FieldDesc → Word
  | [] => 0
  | f :: fs =>
    let m := s.legalMask fn r ix w fs
    if s.legal fn r ix f.lo (wget w f.hi f.lo) w then m ||| wmask f.hi f.lo else m

/-- The bits that only PF0 writes (R114, R401, R561). -/
def pf0Mask : List FieldDesc → Word
  | [] => 0
  | f :: fs => if f.pf0w then pf0Mask fs ||| wmask f.hi f.lo else pf0Mask fs

/-- Bits of a row with RS access, of scopes up to `k`: 1 segment, 2 shot, 3 run. -/
def rsMask (k : Nat) (fs : List FieldDesc) : Word :=
  rowAcc .rsSeg fs ||| (if 2 ≤ k then rowAcc .rsShot fs else 0) ||| (if 3 ≤ k then rowAcc .rsRun fs else 0)

/-- Write `w` under mask `m` into RS bits: the shadow while the block runs, else at once (R10). The last write is the one
that counts: a shadow that an aborted run has left takes the bits of a write at once too. -/
def State.writeRs (s : State) (r : RegDesc) (ix : List Nat) (a : Nat) (m w : Word) : State :=
  let m := m &&& rsMask 3 r.flds
  if m = 0 then s
  else if s.runs r ix then
    let old := (s.shadow.get none a).getD (s.reg a)
    { s with shadow := s.shadow.set none a (some ((old &&& ~~~ m) ||| (w &&& m))) }
  else
    let s := s.setReg a ((s.reg a &&& ~~~ m) ||| (w &&& m))
    match s.shadow.get none a with
    | some old => { s with shadow := s.shadow.set none a (some ((old &&& ~~~ m) ||| (w &&& m))) }
    | none => s

/-- A command's write of an image: the bits of mask `m` of the register at `a` take `w` (R448, R450). -/
def State.putBits (s : State) (a : Nat) (m w : Word) : State :=
  match regAt a with
  | none => s
  | some (r, ix) =>
    let rs := rsMask 3 r.flds
    let d := m &&& ~~~ rs
    let s := if d = 0 then s else s.setReg a ((s.reg a &&& ~~~ d) ||| (w &&& d))
    s.writeRs r ix a m w

/-- A command's write of every writable bit of an image. -/
def State.putImg (s : State) (a : Nat) (w : Word) : State :=
  let fs := fieldsAt a
  s.putBits a (rowAcc .rw fs ||| rowAcc .rl fs ||| rsMask 3 fs) w

/-- A 64-bit value is written by R16: the low register at `base + 0`. -/
def isLow (base : Nat) : Bool := base ∈ R.lowHalves
def isHigh (base : Nat) : Bool := 4 ≤ base && isLow (base - 4)
/-- The key under which function `fn` holds a half of the register at `a` (R15, R16). -/
def holdKey (fn a : Nat) : Nat := fn * 2 ^ 26 + a

/-- Write the RW, RL, W1C, W1S and RS fields of one register, with the locks and reservations of R11 and
R13; WO fields act elsewhere. `low`: the held low half that takes effect with a high write. -/
def State.writeFields (s : State) (fn a : Nat) (r : RegDesc) (ix : List Nat) (w : Word) (low : Option Word) : State :=
  let fs := r.flds
  let pf := if full fn then 0 else pf0Mask fs
  let ok := s.legalMask fn r ix w fs &&& ~~~ pf
  -- a write of what only PF0 writes counts (R114); where a VF may write other fields of the register, one that would change it
  let mixed : Bool := (fs.any (fun f => !f.pf0w && f.acc ≠ .ro))
  let s := s.when (¬ full fn ∧ pf ≠ 0 ∧ (mixed = false ∨ (w &&& pf) ≠ (s.reg a &&& pf))) (·.deny fn)
  let lowFs := fieldsAt (a - 4)
  let rl := rowAcc .rl fs &&& ok
  let lowRl := rowAcc .rl lowFs
  let run := s.runs r ix
  let cur := s.reg a
  let changes : Bool := (w &&& rl) != (cur &&& rl) ||
    (match low with | some l => (l &&& lowRl) != (s.reg (a - 4) &&& lowRl) | none => false)
  let locked : Bool := run && (rl != 0 || (low.isSome && lowRl != 0))
  let s := s.when (locked ∧ changes) (·.lockedWrite a)
  -- the low half takes effect with the high one
  let s := match low with
    | some l =>
      if locked then s
      else
        let m := (rowAcc .rw lowFs ||| rowAcc .rl lowFs)
        let s := s.when (m ≠ 0) (·.setReg (a - 4) ((s.reg (a - 4) &&& ~~~ m) ||| (l &&& m)))
        (match regAt (a - 4) with | some (r', ix') => s.writeRs r' ix' (a - 4) (rsMask 3 lowFs) l | none => s)
    | none => s
  let m := (rowAcc .rw fs ||| (if run then 0 else rowAcc .rl fs)) &&& ok
  let c := rowAcc .w1c fs &&& w
  let t := rowAcc .w1s fs &&& w
  let new := ((((cur &&& ~~~ m) ||| (w &&& m)) &&& ~~~ c) ||| t)
  let s := s.when (new ≠ cur) (·.setReg a new)
  s.writeRs r ix a ok w

/-- A register write by function `fn` to PF0 address `a`: the low half of a 64-bit value is held, and the
high half takes the low half last written by the same function with it (R16). -/
def State.plainWrite (s : State) (fn a : Nat) (w : Word) : State :=
  match regAt a with
  | none => s
  | some (r, ix) =>
    let wr := rowAcc .rw r.flds ||| rowAcc .rl r.flds ||| rsMask 3 r.flds
    if isLow r.base ∧ wr ≠ 0 then
      { s with heldWr := s.heldWr.set 0 (holdKey fn a) w }
    else if isHigh r.base ∧ wr ≠ 0 then
      s.writeFields fn a r ix w (some (s.heldWr.get 0 (holdKey fn (a - 4))))
    else s.writeFields fn a r ix w none

/-- What the register path answers before the register's own rule: whether the access goes on. A VF's access
outside its view counts as denied (R19); the limits of BANKED hold (R622); a host's write into a function on which
a command executes is rejected (R17, R513). -/
def State.gate (s : State) (fn a : Nat) (write : Bool) : State × Bool :=
  if s.pwr.mode = .off ∧ ¬ s.recovery then (s, false)
  else if s.bankedLimits ∧ ¬ bankedAddr a then
    (if write then s.bump Page.pwr F.PWR_BANKED_ACCESSES else s, false)
  else if ¬ s.sees fn a then (s.deny fn, false)
  else if write ∧ fn ≠ 5 ∧ s.held a then (s.busyReject fn a, false)
  else (s, true)

/-- Perform a register write's effect if the register path lets it through. -/
def State.onWrite (s : State) (fn a : Nat) (f : State → State) : State :=
  match s.gate fn a true with
  | (s, true) => f s
  | (s, false) => s
/-- Perform a read's effect if the register path lets it through; else the read returns zero. -/
def State.onRead (s : State) (fn a : Nat) (f : State → State) : State :=
  match s.gate fn a false with
  | (s, true) => f s
  | (s, false) => { s with pins.rdata := 0 }

/-! ### Shadows at a boundary (R10, R190, R191) -/

/-- Take in shadow entry `a` for a boundary that takes scopes up to `k`. -/
def State.takeShadow (s : State) (k a : Nat) : State :=
  match s.shadow.get none a with
  | none => s
  | some w =>
    let fs := fieldsAt a
    let m := rsMask k fs
    let s := s.setReg a ((s.reg a &&& ~~~ m) ||| (w &&& m))
    let rest := rsMask 3 fs &&& ~~~ m
    if (w &&& rest) = (s.reg a &&& rest) then { s with shadow := s.shadow.set none a none } else s

/-- A boundary that takes scopes up to `k` of the registers for which `f` holds. -/
def State.boundary (s : State) (k : Nat) (f : RegDesc → List Nat → Bool) : State :=
  forEach ((s.shadow.map (·.1)).filter (fun a => match regAt a with | some (r, ix) => f r ix | none => false)) s
    (fun s a => s.takeShadow k a)

/-- Whether a shadowed register belongs to partition `p` (R190). -/
def State.inPart (s : State) (p : Nat) (r : RegDesc) (ix : List Nat) : Bool :=
  let i := ix.getD 0 0
  let j := ix.getD 1 0
  match r.lck with
  | .drv => s.owner (32 * i + j) = p
  | .rdo => s.owner (128 + 8 * i + j) = p
  | .tone => s.toneOwner (256 * i + j) = p
  | .desc => s.descOwner i j = some p
  | .seq => s.seqOwner (seqNum i j) = p
  | _ => (match r.vis with
    | .drv => s.owner (32 * i + j) = p
    | .rdo => s.owner (128 + 8 * i + j) = p
    | .tone => s.toneOwner (256 * i + j) = p
    | _ => false)

/-- Whether a shadowed register belongs to sequencer `q`: its channel, frames or tones (R163, R190). -/
def inSeq (q : Nat) (r : RegDesc) (ix : List Nat) : Bool :=
  let i := ix.getD 0 0
  let j := ix.getD 1 0
  match r.vis with
  | .drv => 32 * i + j = q
  | .rdo => 128 + 8 * i + j = q
  | .tone => 128 + (256 * i + j) / 32 = q
  | .seq => seqNum i j = q
  | _ => false

end Sys2Proof.Machine
end

