-- ==== Sys2Proof/Machine/MemOps.lean ====
section
/-!
DEFINITION. Machine/MemOps.lean: the DDR4 address map (R403, R404), reading and writing DDR4 bytes and words,
and the words that read as uncorrectable (R413, R418).
-/

namespace Sys2Proof.Machine
open Sys2Proof

/-- L, the size of each channel-local region, in bytes (R403). -/
def State.memL (s : State) : Nat := s.g Page.mem F.MEM_MAP_LOCAL * 2 ^ 30
/-- G, the interleave grain, in bytes. -/
def State.memG (s : State) : Nat := 2 ^ s.g Page.mem F.MEM_MAP_GRAIN_EXP
/-- C, the smallest capacity of a channel in service: halved once a rank is retired or moving (R403, R417). -/
def State.memC (s : State) : Nat :=
  if (List.range 4).any (fun c => s.g (Page.memCh c) F.MEM_CH_STATUS_RANK0 ≠ 0 || s.g (Page.memCh c) F.MEM_CH_STATUS_RANK1 ≠ 0)
  then 2 ^ 34 else 2 ^ 35

/-- Channel and channel offset of module address `a`; none where it is unmapped (R403). -/
def State.memMap (s : State) (a : Nat) : Option (Nat × Nat) :=
  let L := s.memL
  let G := s.memG
  if a < 4 * L then some (a / L, a % L)
  else if a < 4 * L + 4 * (s.memC - L) then
    let b := a - 4 * L
    some (b / G % 4, L + b / (4 * G) * G + b % G)
  else none

/-- The number under which the byte of a channel and offset is kept. -/
def ddrKey (x : Nat × Nat) : Nat := x.1 * 2 ^ 35 + x.2

/-- Whether every byte of `n` bytes from module address `a` on is mapped. -/
def State.memMapped (s : State) (a n : Nat) : Bool := a + n ≤ 4 * s.memL + 4 * (s.memC - s.memL)

/-- The byte at module address `a`; an unmapped one reads as zero (R404). -/
def State.ddrByte (s : State) (a : Nat) : Byte :=
  match s.memMap a with
  | some x => s.mem.ddr.get 0 (ddrKey x)
  | none => 0

/-- `n` bytes from module address `a` on. -/
def State.ddrRead (s : State) (a : Nat) : Nat → List Byte
  | 0 => []
  | n + 1 => s.ddrByte a :: s.ddrRead (a + 1) n

/-- One byte written at a channel and offset: its word is whole again. -/
def State.ddrPut (s : State) (x : Nat × Nat) (b : Byte) : State :=
  { s with mem.ddr := s.mem.ddr.set 0 (ddrKey x) b
           mem.poison := s.mem.poison.set false (ddrKey x / 8) false }

/-- Bytes written from module address `a` on; unmapped ones are ignored. -/
def State.ddrWrite (s : State) : Nat → List Byte → State
  | _, [] => s
  | a, b :: bs => ((match s.memMap a with | some x => s.ddrPut x b | none => s)).ddrWrite (a + 1) bs

/-- A word that reads as uncorrectable lies among `n` bytes from module address `a` on. -/
def State.ddrBad (s : State) (a n : Nat) : Bool :=
  s.mem.poison.any (fun w => (List.range ((n + 14) / 8)).any (fun i =>
    match s.memMap (a / 8 * 8 + 8 * i) with
    | some x => ddrKey x / 8 = w.1 && a / 8 * 8 + 8 * i < a + n
    | none => false))

/-- The rank that serves offset `o` of channel `c` (R402, R418). -/
def State.rankOf (s : State) (c o : Nat) : Nat :=
  match s.g (Page.memCh c) F.MEM_CH_STATUS_RANK0 with
  | 0 => o / 2 ^ 34
  | 1 => if o / 2 ^ 16 < s.g (Page.memCh c) F.MEM_CH_MOVE_MOVE_PTR then 1 else 0
  | _ => 1

/-- A location of R414 as DETAIL of R584 gives it: store code, quadrant, rank, and burst or word. -/
def locNum (store quad rank idx : Nat) : Nat := store + quad * 2 ^ 4 + rank * 2 ^ 6 + idx * 2 ^ 7
/-- The location of offset `o` of channel `c`. -/
def State.ddrLoc (s : State) (c o : Nat) : Nat := locNum c c (s.rankOf c o) (o % 2 ^ 34 / 64)

/-- A host march runs on a store that partition `p` uses (R424). -/
def State.marchOn (s : State) (p : Nat) : Bool :=
  let m := s.mem.march
  m.run && (m.store < 4 || 10 ≤ m.store || s.ownsQuad p m.quad)

/-- A logic self-test scans logic that partition `p` uses (R593, R597). -/
def State.scanOn (s : State) (p : Nat) : Bool :=
  (s.bst.left ++ s.bst.now.map (·.1)).any (fun d => 16 ≤ d || s.ownsQuad p (d / 4))

/-- `n` commands are issued on DDR4: how many of them wait for room in the retry buffer of 32 is left open, since the spec
gives no length for a command's alert window (R411). -/
def State.ddrIssue (s : State) (n : Nat) : State :=
  let v := s.fresh 32
  v.1.bump Page.mem F.MEM_RETRY_STALLS (v.2 % (n + 1))

/-- An unmapped access (R404). -/
def State.memUnmapped (s : State) : State := (s.flag Page.mem F.MEM_STATUS_UNMAPPED).bump Page.mem F.MEM_UNMAPPED

end Sys2Proof.Machine
end

