-- ==== Sys2Proof/Machine/FabOps.lean ====
section
/-!
DEFINITION. Machine/FabOps.lean: how a word enters the fabric: routes (R485), port queues (R480), delivery
to this module, and the words that sequencers exchange across modules (R487, R488).
-/

namespace Sys2Proof.Machine
open Sys2Proof

/-- This module's node address, and its member bit: 0 for A and for a module without a twin, 1 for B. -/
def State.node (s : State) : Nat := s.g Page.fab F.FAB_STATUS_NODE
def State.myTwin (s : State) : Nat :=
  if s.on Page.twin F.FAB_TWIN_CTRL_EN then s.g Page.twin F.FAB_TWIN_CTRL_TWIN_BIT else 0
/-- The twin's state (R493, R505): 0 NONE, 1 JOINING, 2 STANDBY, 3 ACTIVE, 4 ACTIVE_ALONE, 5 FAILED. -/
def State.twinState (s : State) : Nat := s.g Page.twin F.FAB_TWIN_STATUS_STATE

/-- The port toward member `x` of node `n`, if there is a route (R484, R485). -/
def State.routeTo (s : State) (n x : Nat) : Option Nat :=
  let h := s.g (Page.froute n) (if x = 0 then F.FAB_ROUTE_HOPS_A else F.FAB_ROUTE_HOPS_B)
  if h = 15 then none else some (s.g (Page.froute n) (if x = 0 then F.FAB_ROUTE_PORT_A else F.FAB_ROUTE_PORT_B))

/-- A word enters a port's queue (R480). -/
def State.fabQueue (s : State) (p : Nat) (w : FWord) : State :=
  let x := s.port p
  let q := x.queue ++ [w]
  let s := s.setPort p { x with queue := q }
  let pg := Page.port p
  if s.g pg F.FAB_PORT_QUEUE_MAX < q.length then s.p pg F.FAB_PORT_QUEUE_MAX q.length else s

/-- Fields of a barrier notice or region abort (R487). -/
def nPart (w : W64) : Nat := w.toNat % 8
def nEpoch (w : W64) : Nat := w.toNat / 2 ^ 3 % 16
def nKind (w : W64) : Nat := w.toNat / 2 ^ 7 % 4
def nGroup (w : W64) : Nat := w.toNat / 2 ^ 9 % 16
def nReady (w : W64) : Bool := w.toNat / 2 ^ 13 % 2 = 1
def nSrc (w : W64) : Nat := w.toNat / 2 ^ 14 % 64
def nInst (w : W64) : Nat := w.toNat / 2 ^ 21 % 8
def nTick (w : W64) : Nat := w.toNat / 2 ^ 24

/-- The notice or abort word of R487 with the given fields. -/
def noticeWord (p epoch kind grp : Nat) (ready : Bool) (node twin inst tick : Nat) : W64 :=
  BitVec.ofNat 64 (p + epoch * 2 ^ 3 + kind * 2 ^ 7 + grp * 2 ^ 9 + (if ready then 2 ^ 13 else 0)
    + node * 2 ^ 14 + twin * 2 ^ 20 + inst % 8 * 2 ^ 21 + tick % 2 ^ 40 * 2 ^ 24)

/-- The tick of domain `p` nearest the present one that has the 40 low bits `t`. -/
def State.fullTick (s : State) (p t : Nat) : Nat :=
  let n := s.tk p
  let b := n / 2 ^ 40 * 2 ^ 40 + t
  if n + 2 ^ 39 < b then b - 2 ^ 40 else if b + 2 ^ 39 < n then b + 2 ^ 40 else b

/-- TD_STATE.EPOCH of domain `p`. -/
def State.epoch (s : State) (p : Nat) : Nat := s.g (Page.td p) F.TD_STATE_EPOCH

/-- A barrier not yet computed, of partition `p`; `none` if none has begun. -/
def openBar (k g : Nat) (l : List Bar) : Option Bar :=
  l.find? (fun b => b.kind = k && b.grp = (if k ≤ 1 then 0 else g) && b.rel.isNone)

/-- INST of the barrier of kind `k` and group `g` that members arrive at next: how many came before it since the run start,
those counted whose release is computed and not yet reached (R487). -/
def State.barInst (s : State) (p k g : Nat) : Nat :=
  let x := s.prt p
  let g := if k ≤ 1 then 0 else g
  x.bcnt.get 0 (k * 16 + g) + (x.bars.filter (fun b => b.kind = k && b.grp = g && b.rel.isSome)).length

/-- The barrier in progress of kind `k` and group `g`, begun if need be, changed by `f` on an arrival of tick `tick`. -/
def State.onBar (s : State) (p k g tick : Nat) (f : Bar → Bar) : State :=
  let x := s.prt p
  let isB := fun b : Bar => b.kind = k && b.grp = (if k ≤ 1 then 0 else g) && b.rel.isNone
  let bs := if x.bars.any isB then x.bars
    else x.bars ++ [⟨k, if k ≤ 1 then 0 else g, [], [], [], none, tick, none, none, false, false⟩]
  s.setPrt p { x with bars := bs.map (fun b => if isB b then { f b with since := min b.since tick } else b) }

/-- The local members that have arrived at the entry of group `g` learn that a node's members arrived not ready: they hold
from timeline tick `t` on, or from their own arrival (R188). -/
def State.holdLearned (s : State) (p g t : Nat) : State :=
  match openBar 3 g (s.prt p).bars with
  | none => s
  | some b =>
    let t := min t (b.holdFrom.getD t)
    let s := s.onBar p 3 g b.since (fun b => { b with holdFrom := some t })
    forEach (b.arr.map (·.1)) s (fun s q => s.setSq q { s.sqs q with eff := (s.sqs q).eff ++ [(t, .arrive 3)] })

/-- A notice of another node reaches this module (R488): a stale epoch or unexpected instance is discarded. -/
def State.noticeIn (s : State) (w : W64) : State :=
  let p := nPart w
  let k := nKind w
  let g := if k ≤ 1 then 0 else nGroup w
  if 5 ≤ p ∨ nEpoch w ≠ s.epoch p ∨ nInst w ≠ s.barInst p k g % 8 then
    s.bump Page.fab F.FAB_STALE
  else
    let t := s.fullTick p (nTick w)
    let s := s.onBar p k g t (fun b => match b.nodes.find? (fun n => n.1 = nSrc w) with
      | none => { b with nodes := b.nodes ++ [(nSrc w, t, if nReady w then some t else none)] }
      | some n => { b with nodes := b.nodes.map (fun m => if m.1 = nSrc w then (n.1, n.2.1, if nReady w then some t else n.2.2) else m) })
    s.when (k = 3 ∧ ¬ nReady w) (·.holdLearned p g (max t (s.tk p + 100)))

/-- On timeline tick `r` a sequencer is inside a region (R189, R194, R208). -/
def Seq.inRegionAt (x : Seq) (r : Nat) : Bool :=
  (x.region.isSome && !x.entering && x.regBeg ≤ r) || x.left.any (fun l => l.beg ≤ r && r < l.fin)

/-- The region of number `no` at whose entry a sequencer waits or inside which it is on tick `r` (R189): one whose
REGION_END has executed and is not yet due counts. -/
def Seq.regionAt (x : Seq) (no r : Nat) : Option Region :=
  match x.region with
  | some g => if x.regNo = no then some g else (x.left.find? (fun l => l.no = no && r < l.fin)).map (·.reg)
  | none => (x.left.find? (fun l => l.no = no && r < l.fin)).map (·.reg)

/-- The members of group `g` of partition `p` on this module. -/
def State.inGroup (s : State) (p g q : Nat) : Bool :=
  s.seqOwner q = p && s.on (Page.seq q) F.SEQ_CTRL_ENABLE && s.g (Page.seq q) F.SEQ_CTRL_GROUP = g

/-- An abort of the region numbered `no` reaches the members of group `g` that it concerns on tick `r` (R189). -/
def State.abortGroup (s : State) (p g no r : Nat) : State :=
  forEach ((List.range 160).filter (s.inGroup p g)) s (fun s q =>
    match (s.sqs q).regionAt no r, (s.sqs q).abortIn with
    | some t, none => s.setSq q { s.sqs q with abortIn := some r, abortTo := t.abort }
    | _, _ => s)

/-- The numbers of the regions at or inside which a sequencer is on tick `r`. -/
def Seq.regionNos (x : Seq) (r : Nat) : List Nat :=
  (if x.region.isSome then [x.regNo] else []) ++ (x.left.filter (fun l => r < l.fin)).map (·.no)

/-- A region abort comes from another module (R488): the word names the group, and the region is the one that members of the
group here are at or inside, the earlier one where they are at two. -/
def State.abortIn (s : State) (p g r : Nat) : State :=
  match (((List.range 160).filter (s.inGroup p g)).flatMap (fun q => (s.sqs q).regionNos r)).min? with
  | none => s
  | some no => s.abortGroup p g no r

/-- A word whose consumer is on this module arrives at it. -/
def State.fabDeliver (s : State) (w : FWord) : State :=
  match w.typ with
  | 5 => s.noticeIn (w.ws.getD 0 0)
  | 6 => if nEpoch (w.ws.getD 0 0) = s.epoch (nPart (w.ws.getD 0 0)) then
           s.abortIn (nPart (w.ws.getD 0 0)) (nGroup (w.ws.getD 0 0)) (s.tk (nPart (w.ws.getD 0 0))) else s
  | _ => { s with fab.inbox := s.fab.inbox ++ [w] }

/-- A word is handled for each bit of its TWINS (R485). -/
def State.fabRoute (s : State) (w : FWord) : State :=
  let here := fun x => decide (w.dst = s.node ∧ w.twins / 2 ^ x % 2 = 1 ∧ x = s.myTwin)
  let away := fun x => decide (w.twins / 2 ^ x % 2 = 1 ∧ ¬ (w.dst = s.node ∧ x = s.myTwin))
  let s1 := if here 0 ∨ here 1 then s.fabDeliver w else s
  match (if away 0 then some (s.routeTo w.dst 0) else none), (if away 1 then some (s.routeTo w.dst 1) else none) with
  | none, none => s1
  | some none, none | none, some none => s1.bump Page.fab F.FAB_DISCARDS
  | some none, some none => s1.bump Page.fab F.FAB_DISCARDS 2
  | some (some a), none => s1.fabQueue a { w with twins := 1 }
  | none, some (some b) => s1.fabQueue b { w with twins := 2 }
  | some (some a), some none => (s1.fabQueue a { w with twins := 1 }).bump Page.fab F.FAB_DISCARDS
  | some none, some (some b) => (s1.fabQueue b { w with twins := 2 }).bump Page.fab F.FAB_DISCARDS
  | some (some a), some (some b) =>
    if a = b then s1.fabQueue a w else (s1.fabQueue a { w with twins := 1 }).fabQueue b { w with twins := 2 }

/-- Send a word made on this module. A module without a fabric, or refused in it, sends only to itself. -/
def State.fabSend (s : State) (typ dst twins : Nat) (ws : List W64) : State :=
  s.fabRoute ⟨typ, dst, twins, ws, s.now / 16⟩

/-- Nodes on which partition `p` runs, other than this one (R486). -/
def State.peerNodes (s : State) (p : Nat) : List Nat :=
  let w := s.g64 (Page.fnodes p) F.FAB_PART_NODES_LO
  (List.range 64).filter (fun n => w / 2 ^ n % 2 = 1 && n ≠ s.node)

/-- Whether this module sends for its node: every state but JOINING, STANDBY and FAILED (R491, R493). -/
def State.speaks (s : State) : Bool := s.twinState ∉ [1, 2, 5]

/-- The hops of R176: the largest over the listed nodes; `none` if a listed node has no route (R486). -/
def State.partHops (s : State) (p : Nat) : Option Nat :=
  (s.peerNodes p).foldl (fun h n => match h with
    | none => none
    | some h =>
      let a := s.g (Page.froute n) F.FAB_ROUTE_HOPS_A
      let b := s.g (Page.froute n) F.FAB_ROUTE_HOPS_B
      if a = 15 ∧ b = 15 then none
      else some (max h (max (if a = 15 then 0 else a) (if b = 15 then 0 else b)))) (some 0)

end Sys2Proof.Machine
end

