-- ==== Sys2Proof/Machine/Dsp.lean ====
section
/-!
DEFINITION. Machine/Dsp.lean: the exact integer arithmetic of the sample paths: rounding, the carrier's
cosine and sine (R109), oscillator phase (R72 to R75), the interpolation kernel (R694) and the resampler (R101).
-/

namespace Sys2Proof.Machine
open Sys2Proof

/-- round_half_up(x / 2^n): an exact half goes toward positive infinity. -/
def rhu (x : Int) (n : Nat) : Int := if n = 0 then x else (x + 2 ^ (n - 1)) / 2 ^ n
/-- Saturation to a signed value of `w` bits. -/
def sat (w : Nat) (x : Int) : Int := clampI (-(2 ^ (w - 1))) (2 ^ (w - 1) - 1) x

/-- 2π in units of 2^-60. -/
def twoPi60 : Int := 7244019458077122842

/-- The terms of cosine (`odd` 0) or sine (`odd` 1) of `x` in units of 2^-60, from term `t` on the term number `n`. -/
def trigTerms (x : Int) : Nat → Nat → Int → Int
  | 0, _, t => t
  | fuel + 1, n, t =>
    let d : Int := ((n + 1) * (n + 2) : Nat)
    t + trigTerms x fuel (n + 2) (-(t * x / 2 ^ 60 * x / 2 ^ 60) / d)

/-- Cosine and sine of r / 2^20 of a turn, for r from 0 to 2^18, in units of 2^-60. -/
def cosQ (r : Nat) : Int := trigTerms (twoPi60 * r / 2 ^ 20) 16 0 (2 ^ 60)
def sinQ (r : Nat) : Int := trigTerms (twoPi60 * r / 2 ^ 20) 16 1 (twoPi60 * r / 2 ^ 20)

/-- round(131071 × v) for v ≥ 0 in units of 2^-60. -/
def amp17 (v : Int) : Int := (131071 * v + 2 ^ 59) / 2 ^ 60

/-- The pair c = round(131071 cos(2πθ/2^20)), s = round(131071 sin(2πθ/2^20)) of R109. -/
def cosSin (θ : Nat) : Int × Int :=
  let r := θ % 2 ^ 18
  let c := amp17 (cosQ r)
  let s := amp17 (sinQ r)
  match θ / 2 ^ 18 % 4 with
  | 0 => (c, s)
  | 1 => (-s, c)
  | 2 => (-c, -s)
  | _ => (s, -c)

/-- R72: φ = (F × T + P) mod 2^48. -/
def phase (f p t : Nat) : Nat := (f * t + p) % 2 ^ 48
/-- R74: the P′ of a phase-continuous change from F to F′ at t0. -/
def retune (f p f' t0 : Nat) : Nat :=
  (((p : Int) + ((f : Int) - f') * t0) % 2 ^ 48).toNat
/-- R75: P after a phase update Z. -/
def addPhase (p z : Nat) : Nat := (p + z) % 2 ^ 48

/-- Coefficient H(P, i) of the master kernel, i from −7 to +8 (R694): phase 0 is given, the others are the mask's. -/
def kern (ph : Nat) (i : Int) : Int :=
  if ph = 0 then (if i = 0 then 65536 else 0) else (Config.kernel ph i).toInt

/-- The taps of R101. -/
def taps : List Int := [-7, -6, -5, -4, -3, -2, -1, 0, 1, 2, 3, 4, 5, 6, 7, 8]

/-- The resampler of R101 for interpolation factor `L` at position `d` ≥ 0 in units of 1/16 output sample. -/
def resample (L d : Nat) (s : Int → Int) : Int :=
  let k : Int := (d / (16 * L) : Nat)
  let ph := d % (16 * L) * 32 / L
  sat 16 (rhu ((taps.map (fun i => s (k + i) * kern ph i)).foldl (· + ·) 0) 16)

/-- The scale S of R108 and R141. -/
def scale (a : Int) (g : Nat) : Int := sat 16 (rhu (a * g) 15)

/-- One lane's sample y of R109: resampler outputs, scale, mirrored or not, and the phase. -/
def laneOut (i q s : Int) (mirror : Bool) (φ : Nat) : Int :=
  let eI := sat 16 (rhu (i * s) 15)
  let eQ := sat 16 (rhu ((if mirror then -q else q) * s) 15)
  let cs := cosSin (φ / 2 ^ 28)
  eI * cs.1 - eQ * cs.2

/-- The DAC code of R110 for a lane sum, before saturation. -/
def dacRaw (y : Int) : Int := (y + 2 ^ 18) / 2 ^ 19

/-- R107: envelope mirrored, and the phase offset used, for Pauli bits in `row` (bit 0 X, bit 1 Z). -/
def pauliPhase (row p : Nat) : Bool × Nat :=
  let x := row % 2 = 1
  let z := row / 2 % 2 = 1
  let p := if x then (2 ^ 48 - p) % 2 ^ 48 else p
  (x, if z then (p + 2 ^ 47) % 2 ^ 48 else p)

/-- R111: the running mean after one tick whose mean square code is `x`. -/
def heatStep (m x tau : Nat) : Nat := (((m : Int) + ((x * 2 ^ 22 : Nat) - (m : Int)) / 2 ^ tau) % 2 ^ 48).toNat

end Sys2Proof.Machine
end

