-- ==== Sys2Proof/Machine/BiasOps.lean ====
section
/-!
DEFINITION. Machine/BiasOps.lean: what bias outputs and monitor converters do whoever asks: targets, ramps,
queues and restores (R359 to R376), starts, injected requests and calibration (R381 to R390).
-/

namespace Sys2Proof.Machine
open Sys2Proof

/-! ### Bias outputs -/

/-- The register BIAS_CODE as a signed code. -/
def State.biasCode (s : State) (b : Nat) : Int := s.gi (Page.bias b) F.BIAS_CODE_CODE
def State.setBiasCode (s : State) (b : Nat) (c : Int) : State :=
  s.p (Page.bias b) F.BIAS_CODE_CODE (BitVec.ofInt 20 c).toNat

/-- Whether an output's stage follows its target: connected, and not in SAFE, dark, shed or being changed. -/
def State.biasLive (s : State) (b : Nat) : Bool :=
  let x := s.bias b
  s.on (Page.bias b) F.BIAS_CTRL_ENABLE && x.conn && x.next = 0 && x.holdTo.isNone && s.pwr.mode ≠ .safe
    && !s.on (Page.bias b) F.BIAS_STATUS_DARK && !s.on (Page.bias b) F.BIAS_STATUS_SHED

/-- A ramp of BIAS_OUT to `d` along the slew (R361, R362), with what follows at its end. -/
def State.biasRamp (s : State) (b : Nat) (d : Int) (next : Nat) : State :=
  let x := s.bias b
  (s.setBias b { x with dest := d, slewing := true, from_ := x.out, t0 := s.now / 320 * 320, next := next }).flag
    (Page.bias b) F.BIAS_STATUS_RAMPING

/-- BIAS_OUT moves to `d`: along a slew with LIMIT_ALL set or while a slew runs, else as a step (R361, R362). -/
def State.biasMove (s : State) (b : Nat) (d : Int) : State :=
  let x := s.bias b
  if s.on (Page.bias b) F.BIAS_CTRL_LIMIT_ALL ∨ x.slewing then s.biasRamp b d x.next
  else s.setBias b { x with dest := d }

/-- A restore (R374): the output ramps to BIAS_CODE and RESTORE_PENDING clears. -/
def State.biasRestore (s : State) (b : Nat) : State :=
  if s.on (Page.bias b) F.BIAS_STATUS_RESTORE_PENDING ∧ s.biasLive b then
    (s.biasRamp b (s.biasCode b) 0).unflag (Page.bias b) F.BIAS_STATUS_RESTORE_PENDING
  else s

/-- A new target (R361, R374): it stands in BIAS_CODE, a pending output restores to it, and a live one moves to it. -/
def State.biasTarget (s : State) (b : Nat) (c : Int) : State :=
  let s := s.setBiasCode b c
  if ¬ s.biasLive b then s
  else if s.on (Page.bias b) F.BIAS_STATUS_RESTORE_PENDING then s.biasRestore b
  else s.biasMove b c

/-- A write of BIAS_CODE, by register or command (R363, R365, R368). -/
def State.biasWrite (s : State) (b : Nat) (c : Int) : State :=
  let x := s.bias b
  let pg := Page.bias b
  if s.on pg F.BIAS_STATUS_SPAN_CHANGING then s.flag pg F.BIAS_STATUS_CODE_REFUSED
  else if s.g pg F.BIAS_CTRL_QMODE = 0 then s.biasTarget b c
  else if s.pwr.mode = .safe then s
  else if x.queue.length ≥ 64 then (s.flag pg F.BIAS_STATUS_QUEUE_FULL).bump pg F.BIAS_QFULL
  else s.setBias b { x with queue := x.queue ++ [c] }

/-- The queue clock starts at the first modulator edge after now; its first release comes PERIOD clocks later (R364). -/
def State.biasPeriod (s : State) (b : Nat) : Nat := 320 * max 500 (s.g (Page.bias b) F.BIAS_QPERIOD_PERIOD)
def State.biasClockStart (s : State) (b : Nat) : State :=
  let x := s.bias b
  if x.clock.isSome ∨ s.pwr.mode = .safe then s
  else s.setBias b { x with clock := some ((s.now / 320 + 1) * 320 + s.biasPeriod b) }
def State.biasClockStop (s : State) (b : Nat) : State := s.setBias b { s.bias b with clock := none }
def State.biasFlush (s : State) (b : Nat) : State := s.setBias b { s.bias b with queue := [] }

/-- An entry leaves the queue and becomes the target. -/
def State.biasPop (s : State) (b : Nat) : State :=
  let x := s.bias b
  match x.queue with
  | [] => s
  | c :: q => (s.setBias b { x with queue := q }).biasTarget b c

/-- A change of the slew: a slew in progress goes on from the present BIAS_OUT. -/
def State.biasReslew (s : State) (b : Nat) : State :=
  let x := s.bias b
  if x.slewing then s.setBias b { x with from_ := x.out, t0 := s.now / 320 * 320 } else s

/-- The span of the output stage: SPAN, or the one before it until a change has switched the range (R360, R368). -/
def State.spanNow (s : State) (b : Nat) : Nat := (s.bias b).span.getD (s.g (Page.bias b) F.BIAS_CTRL_SPAN)

/-- SPAN changes (R368). On an enabled output clock and queue stop, and the output ramps to the safe value; one whose stage is
disconnected, SHED or DARK, has no ramp to make. -/
def State.biasSpan (s : State) (b span : Nat) : State :=
  let old := s.spanNow b
  let s := s.p (Page.bias b) F.BIAS_CTRL_SPAN span
  if s.on (Page.bias b) F.BIAS_CTRL_ENABLE then
    let s := ((s.biasClockStop b).biasFlush b).flag (Page.bias b) F.BIAS_STATUS_SPAN_CHANGING
    if (s.bias b).conn then (s.setBias b { s.bias b with span := some old }).biasRamp b 0 1
    else s.setBias b { s.bias b with holdTo := some (s.now + usecs 200) }
  else s

/-- The output stage connects at the safe value; one that is still connected goes on from its present BIAS_OUT (R361, R367), and
a span change whose range switch is to come goes on to it (R368). -/
def State.biasConnect (s : State) (b : Nat) : State :=
  let x := s.bias b
  let next := if s.on (Page.bias b) F.BIAS_STATUS_SPAN_CHANGING ∧ x.holdTo.isNone then 1 else 0
  s.setBias b { x with conn := true, out := if x.conn then x.out else 0, dest := if x.conn then x.dest else 0, next := next }

/-- ENABLE is set (R367): the stage connects at the safe value, then ramps to the target. -/
def State.biasEnable (s : State) (b : Nat) : State :=
  let s := s.flag (Page.bias b) F.BIAS_CTRL_ENABLE
  if s.on (Page.bias b) F.BIAS_STATUS_DARK ∨ s.on (Page.bias b) F.BIAS_STATUS_SHED then s
  else
    let s := s.biasConnect b
    if s.on (Page.bias b) F.BIAS_STATUS_SPAN_CHANGING then s
    else if s.pwr.mode = .safe then s.flag (Page.bias b) F.BIAS_STATUS_RESTORE_PENDING
    else (s.biasRamp b (s.biasCode b) 0).unflag (Page.bias b) F.BIAS_STATUS_RESTORE_PENDING

/-- ENABLE is cleared (R367): the output ramps to the safe value, then disconnects. -/
def State.biasDisable (s : State) (b : Nat) : State :=
  let s := s.unflag (Page.bias b) F.BIAS_CTRL_ENABLE
  if (s.bias b).conn then s.biasRamp b 0 2 else s

/-- Commands that wait for an output end. -/
def State.biasSettle (s : State) (b : Nat) (st : Nat) : State :=
  let x := s.bias b
  (s.setBias b { x with owed := [] }).settleAll x.owed st

/-- The output disconnects; a span change in progress goes on to the range switch (R367, R368). -/
def State.biasCut (s : State) (b : Nat) : State :=
  let x := s.bias b
  let hold := if s.on (Page.bias b) F.BIAS_STATUS_SPAN_CHANGING ∧ x.holdTo.isNone then some (s.now + usecs 200) else x.holdTo
  (s.setBias b { x with conn := false, slewing := false, out := 0, dest := 0, next := 0, holdTo := hold, span := none, still := s.now }).unflag
    (Page.bias b) F.BIAS_STATUS_RAMPING

/-- The output goes DARK (R371): disconnected without a ramp. Its target, queue and clock go on; commands that wait for its ramp
end with TARGET_DARK. -/
def State.biasDark (s : State) (b : Nat) : State :=
  ((s.biasCut b).flag (Page.bias b) F.BIAS_STATUS_DARK).biasSettle b St.targetDark

/-- The output ramps to the safe value and awaits a restore: SAFE with SAFE_POL, and BANKED entry (R372, R373). -/
def State.biasToSafe (s : State) (b : Nat) : State :=
  if s.on (Page.bias b) F.BIAS_CTRL_ENABLE ∧ (s.bias b).conn then
    (s.biasRamp b 0 (s.bias b).next).flag (Page.bias b) F.BIAS_STATUS_RESTORE_PENDING
  else s

/-- SAFE entry at one output (R372). -/
def State.biasSafe (s : State) (b : Nat) : State :=
  let s := (s.biasClockStop b).biasFlush b
  if s.on (Page.bias b) F.BIAS_CTRL_SAFE_POL then s.biasToSafe b
  else
    let x := s.bias b
    if x.next = 0 then
      (s.setBias b { x with slewing := false, dest := x.out, still := s.now }).unflag (Page.bias b) F.BIAS_STATUS_RAMPING
    else s

/-- The output is shed (R375): it ramps to the safe value and powers down; its queue clock goes on (R364). -/
def State.biasShed (s : State) (b : Nat) : State :=
  let s := s.flag (Page.bias b) F.BIAS_STATUS_SHED
  if (s.bias b).conn then s.biasRamp b 0 3 else s
/-- The governor restores a shed output (R375, R374). -/
def State.biasUnshed (s : State) (b : Nat) : State :=
  let s := s.unflag (Page.bias b) F.BIAS_STATUS_SHED
  if s.on (Page.bias b) F.BIAS_CTRL_ENABLE then
    let s := (s.biasConnect b).flag (Page.bias b) F.BIAS_STATUS_RESTORE_PENDING
    if s.on (Page.bias b) F.BIAS_CTRL_AUTO_RESTORE then s.biasRestore b else s
  else s

/-- The factors of the span in use (R376): offset and gain, as the last self-calibration measured them; an output
that is DARK, or not yet calibrated, has 0 and 4,194,304. -/
def State.biasCal (s : State) (b : Nat) : Int × Nat :=
  if s.bm.calNo = 0 ∨ s.on (Page.bias b) F.BIAS_STATUS_DARK then (0, 4194304)
  else
    let v := Config.biasFactor ((s.bm.calNo * 512 + b) * 8 + s.spanNow b)
    (sext 16 (v % 65536), v / 65536 % 2 ^ 24)
/-- The modulator code of R376. -/
def State.biasMod (s : State) (b : Nat) : Int :=
  let c := s.biasCal b
  sat 20 (rhu (((s.bias b).out * 16 + c.1) * c.2) 26)

/-- The full scale of a span: nV in the voltage spans 0 to 2, fA in the current spans 3 to 5 (R360). -/
def biasFull (span : Nat) : Nat :=
  match span with
  | 0 => 2500000000 | 1 => 5000000000 | 2 => 10000000000
  | 3 => 100000000000 | 4 => 1000000000000 | 5 => 10000000000000
  | _ => 0
/-- Whether a span is one of current. -/
def isCurrent (span : Nat) : Bool := 3 ≤ span
/-- The output level of a connected output, code / 524,288 × full scale, in nV or fA (R360, R361, R376); none while it is
disconnected and presents 1 MΩ (R367). The current limit of 25 mA and the compliance of 12 V depend on the load. -/
def State.biasLevel (s : State) (b : Nat) : Option (Bool × Int) :=
  let span := s.spanNow b
  if (s.bias b).conn then some (isCurrent span, s.biasMod b * biasFull span / 524288) else none

/-- BIAS_OUT after `n` modulator clocks of a slew from `o` toward `t` (R361). -/
def slewed (o t : Int) (slew n : Nat) : Int :=
  let d : Int := (n * max 1 slew / 50 : Nat)
  if o ≤ t then min t (o + d) else max t (o - d)

/-- One modulator edge of an output: a slew advances, and a step is taken. -/
def State.biasEdge (s : State) (b : Nat) : State :=
  let x := s.bias b
  if x.out = x.dest then s
  else if x.slewing then
    s.setBias b { x with out := slewed x.from_ x.dest (s.g (Page.bias b) F.BIAS_SLEW_SLEW) ((s.now - x.t0) / 320) }
  else s.setBias b { x with out := x.dest }

/-! ### Monitor converters -/

/-- A converter works: powered, enabled, not DARK or SHED. -/
def State.monActive (s : State) (m : Nat) : Bool :=
  s.pwr.convOn && s.on (Page.mon m) F.MON_CTRL_ENABLE && !s.on (Page.mon m) F.MON_STATUS_DARK
    && !s.on (Page.mon m) F.MON_STATUS_SHED
/-- Step 3 of a calibration runs in quadrant `q` (R389). -/
def State.calRuns (s : State) (q : Nat) : Bool :=
  s.on (Page.monq q) F.MON_CAL_STATUS_BUSY && !s.on (Page.monq q) F.MON_CAL_STATUS_WAITING
/-- Step 2: conversions in progress complete. -/
def State.calWaits (s : State) (q : Nat) : Bool := s.on (Page.monq q) F.MON_CAL_STATUS_WAITING

/-- A regular start reaches a converter (R381, R382, R384, R385, R389). -/
def State.monStart (s : State) (m : Nat) : State :=
  let x := s.mon m
  let pg := Page.mon m
  if ¬ s.monActive m then s
  else if s.calRuns (m / 16) then s.bump pg F.MON_MISSED
  else if x.startAt = some s.now then s.bump pg F.MON_COALESCED
  else if x.run then
    ((s.setMon m { x with startAt := some s.now }).bump pg F.MON_MISSED).flag pg F.MON_STATUS_START_OVERRUN
  else
    let b := s.g pg F.MON_BURST_BURST
    let t := if x.injNow then x.injAt + 8000 else s.now
    s.setMon m { x with pos := 0, left := if b = 0 then none else some b, run := true, stop := false
                        held := s.calWaits (m / 16)
                        at_ := t + 16 * s.g pg F.MON_DELAY_DELAY, startAt := some s.now }

/-- A START by register or command also runs the converter's timer with START_SRC 1 (R381). -/
def State.monSoftStart (s : State) (m : Nat) : State :=
  let s := if s.g (Page.mon m) F.MON_CTRL_START_SRC = 1 ∧ s.monActive m then s.setMon m { s.mon m with timer := some s.now } else s
  s.monStart m

/-- STOP: the timer stops, and a burst ends after the conversion in progress. -/
def State.monStop (s : State) (m : Nat) : State :=
  let x := { s.mon m with timer := none }
  s.setMon m (if x.run ∧ ¬ x.held ∧ x.at_ ≤ s.now then { x with stop := true } else { x with run := false, held := false })

/-- An injected request reaches a converter (R385, R389). -/
def State.monInject (s : State) (m : Nat) : State :=
  let x := s.mon m
  let pg := Page.mon m
  if ¬ s.monActive m then s
  else if s.calRuns (m / 16) then s.bump pg F.MON_MISSED
  else if x.inj then (s.bump pg F.MON_COALESCED).flag pg F.MON_STATUS_INJ_OVERRUN
  else if x.injNow ∨ (x.run ∧ ¬ x.held ∧ x.at_ ≤ s.now) then s.setMon m { x with inj := true }
  else s.setMon m { x with injNow := true, injAt := s.now, at_ := max x.at_ (s.now + 8000) }

/-- The common trigger fires (R383). -/
def State.monCommon (s : State) : State :=
  forEach ((List.range 64).filter (fun m => s.g (Page.mon m) F.MON_CTRL_START_SRC = 3)) s State.monStart

/-- No conversion of quadrant `q` is in progress: step 3 of the calibration begins (R389). -/
def State.calSettle (s : State) (q : Nat) : State :=
  if s.calWaits q ∧ (List.range 16).all (fun c =>
      let x := s.mon (16 * q + c)
      !x.injNow && !x.inj && (!x.run || x.held)) then
    let s := s.unflag (Page.monq q) F.MON_CAL_STATUS_WAITING
    { s with bm.calAt := s.bm.calAt.set 0 q s.now }
  else s

/-- A calibration of quadrant `q` is requested (R389): one that runs makes it a request without effect. -/
def State.calStart (s : State) (q : Nat) : State :=
  if s.on (Page.monq q) F.MON_CAL_STATUS_BUSY then s
  else
    -- a burst whose next sampling instant is still to come is held at once
    let s := forEach ((List.range 16).filter (fun c => (s.mon (16 * q + c)).run && s.now < (s.mon (16 * q + c)).at_)) s
      (fun s c => s.setMon (16 * q + c) { s.mon (16 * q + c) with held := true })
    ((s.flag (Page.monq q) F.MON_CAL_STATUS_BUSY).flag (Page.monq q) F.MON_CAL_STATUS_WAITING).calSettle q

/-- The internal reference and the 5 V analogue supply, in mV; an external one is the voltage at M(16q + 15) (R379). -/
def monRefMv (sel ext : Nat) : Nat := match sel with | 0 => 4096 | 1 => ext | _ => 5000
/-- The full scale of an element, VREF × 2.5 / 2^RANGE, in µV, for a reference of `mv` mV (R378). -/
def monFull (mv range : Nat) : Nat := mv * 2500 / 2 ^ range
/-- The output of a quadrant's test DAC, in mV (R391). -/
def State.tdacMv (s : State) (q : Nat) : Int := ((s.g (Page.monq q) F.MON_TDAC_CODE : Nat) - 2048 : Int) * 5
/-- The scaling of a readback of a bias output (R377), in µV at the converter: a voltage is divided by 4, the full scale of a
current span reads 2.5 V. -/
def State.biasVoltBack (s : State) (b : Nat) : Option Int :=
  match s.biasLevel b with
  | some (false, nv) => some (nv / 4000)
  | _ => none
def State.biasAmpBack (s : State) (b : Nat) : Option Int :=
  match s.biasLevel b with
  | some (true, fa) => some (fa * 2500000 / biasFull (s.spanNow b))
  | _ => none

/-- T_exp units that a reference takes to settle (R379). -/
def refTime (sel : Nat) : Nat := match sel with | 0 => msecs 1 | 1 => msecs 2 | _ => usecs 200

/-- MON_REF.SEL is written (R379, R380). -/
def State.monRef (s : State) (q sel : Nat) : State :=
  if s.g (Page.monq q) F.MON_REF_SEL = sel then s
  else
    let s := s.p (Page.monq q) F.MON_REF_SEL sel
    let s := (s.flag (Page.monq q) F.MON_REF_STATUS_SETTLING).unflag (Page.monq q) F.MON_CAL_STATUS_CAL_VALID
    let s := if sel = 1 then s else s.unflag (Page.monq q) F.MON_REF_STATUS_EXT_FAULT
    { s with bm.refAt := s.bm.refAt.set 0 q (s.now + refTime sel) }

end Sys2Proof.Machine
end

