-- ==== Sys2Proof/Machine/Event.lean ====
section
/-!
DEFINITION. Machine/Event.lean: event channels: what a publication does (R543 to R548, R555, R556), logic
cells (R549 to R551), and the commit of a staged configuration (R552, R553).
-/

namespace Sys2Proof.Machine
open Sys2Proof

/-! ### Jump requests (R192) -/

/-- A jump request of vector `v` reaches sequencer `q`: its arrival counts as timeline tick r + 100 (R208). -/
def State.jumpRequest (s : State) (q v : Nat) : State :=
  let x := s.sqs q
  let t := s.tk (s.seqOwner q) + 100
  match x.jump with
  | none => s.setSq q { x with jump := some (v, t) }
  | some (v', t') =>
    if t' = t then (s.setSq q { x with jump := some (max v v', t) }).bump (Page.seq q) F.SEQ_JUMP_COALESCED
    else (s.setSq q { x with jump := some (v, t) }).flag (Page.seq q) F.SEQ_STATUS_JUMP_OVERRUN

/-! ### Publications -/

/-- A consumer that may not receive from a channel has an event withheld from it (R544). -/
def State.withhold (s : State) : State := s.bump Page.evr F.EVR_DENIED
/-- A publication that R543 does not permit is dropped, and EVR_DENIED and DENIED tell of it (R544). -/
def State.denyPub (s : State) : State := s.withhold.flag Page.evr F.EVR_STATUS_DENIED

/-- One consumer of partition `p`: the event reaches it, or is withheld. -/
def State.consume (s : State) (ch p : Nat) (f : State → State) : State :=
  if s.maySubscribe p ch then f s else s.withhold

/-- The consumers that take an event at once (R546): jump requests, queue clocks, injected requests; and the
events withheld from those whose reception is a row of its own (captures, triggers, pacing, starts). -/
def State.deliver (s : State) (ch : Nat) : State :=
  let s := forEach ((List.range 160).filter (fun q =>
      s.on (Page.seq q) F.SEQ_JUMP_SRC_EVT_EN && s.g (Page.seq q) F.SEQ_JUMP_SRC_CHANNEL = ch)) s
    (fun s q => s.consume ch (s.seqOwner q) (·.jumpRequest q (s.g (Page.seq q) F.SEQ_JUMP_SRC_EVT_VECTOR)))
  let s := forEach ((List.range 512).filter (fun b =>
      s.on (Page.bias b) F.BIAS_QEVT_START_EV_EN && s.g (Page.bias b) F.BIAS_QEVT_START_CHAN = ch)) s
    (fun s b => s.consume ch (s.biasOwner b) (·.biasClockStart b))
  let s := forEach ((List.range 64).filter (fun m =>
      s.on (Page.mon m) F.MON_CTRL_INJ_EV_EN && s.g (Page.mon m) F.MON_CTRL_INJ_CHAN = ch)) s
    (fun s m => s.consume ch (s.monOwner m) (·.monInject m))
  let s := forEach ((List.range 512).filter (fun b =>
      s.g (Page.bias b) F.BIAS_CTRL_QMODE = 2 && s.g (Page.bias b) F.BIAS_QEVT_PACE_CHAN = ch)) s
    (fun s b => s.consume ch (s.biasOwner b) id)
  let s := forEach ((List.range 64).filter (fun m =>
      s.on (Page.mon m) F.MON_CTRL_ENABLE && s.g (Page.mon m) F.MON_CTRL_START_SRC = 2
        && s.g (Page.mon m) F.MON_CTRL_START_CHAN = ch)) s
    (fun s m => s.consume ch (s.monOwner m) id)
  let s := forEach ((List.range 32).filter (fun u =>
      s.g (Page.cu u) F.ACQ_CU_TRIG_TSRC = 1 && s.g (Page.cu u) F.ACQ_CU_TRIG_TINDEX = ch)) s
    (fun s u => s.consume ch (s.cuPart u) id)
  let s := s.when (s.g Page.monc F.MON_COMMON_CTRL_SRC = 2 ∧ s.g Page.monc F.MON_COMMON_CTRL_CHANNEL = ch)
    (·.consume ch 0 id)
  forEach ((List.range 16).filter (fun n =>
      s.on (Page.tcu n) F.TCU_CTRL_ENABLE && !s.on (Page.tcu n) F.TCU_CTRL_INPUT_KIND
        && s.g (Page.tcu n) F.TCU_CTRL_INPUT = ch)) s
    (fun s n => s.consume ch (if n < 4 then 0 else (n - 4) / 3 + 1) id)

/-- The event that exceeds RATE_MAX in a window of 1 µs trips its channel (R555). -/
def State.rateCount (s : State) (ch : Nat) : State :=
  let w := (s.cnt 0).toNat / 16000
  let s := if s.evr.winNo = w then s else { s with evr.winNo := w, evr.cnt := [] }
  let n := s.evr.cnt.get 0 ch + 1
  let s := { s with evr.cnt := s.evr.cnt.set 0 ch n }
  let lim := s.g (Page.evch ch) F.EVR_CHAN_CFG_RATE_MAX
  if lim ≠ 0 ∧ lim < n ∧ ¬ s.on (Page.evch ch) F.EVR_CHAN_STATUS_RATE_TRIP then
    ((s.flag (Page.evch ch) F.EVR_CHAN_STATUS_RATE_TRIP).flag Page.evr F.EVR_STATUS_RATE_TRIP).logIt
      Cause.evrLoopRate (s.evOwner ch) (gid 2 ch) 0
  else s

/-- An event on channel `ch`: it is counted and reaches every permitted consumer (R546 to R548, R556). -/
def State.carry (s : State) (ch : Nat) : State :=
  let s := { s with evr.now := s.evr.now.set false ch true, evr.since := s.evr.since.set false ch true }
  let s := (s.bump (Page.evch ch) F.EVR_CHAN_EVENTS).rateCount ch
  let s := s.when (ch < 64) (·.intEdge (864 + ch))
  if s.pwr.mode = .banked then s else s.deliver ch

/-- A publication by a producer of partition `own` on channel `ch`. `ao`: the producer works in BANKED (R556). -/
def State.publish (s : State) (own ch : Nat) (ao : Bool := false) : State :=
  let pg := Page.evch ch
  if s.pwr.mode = .off ∨ (s.pwr.mode = .banked ∧ ¬ (ao ∧ s.on pg F.EVR_CHAN_CFG_AO)) then s
  else if ¬ s.on pg F.EVR_CHAN_CFG_ENABLE then s
  else if ¬ s.mayPublish own ch then s.denyPub
  else if s.evr.now.get false ch then s.bump pg F.EVR_CHAN_MERGED
  else if s.on pg F.EVR_CHAN_STATUS_RATE_TRIP then s
  else s.carry ch

/-- The event of publisher-table source `n` (R547): published on the channel of each enabled active entry. -/
def State.publishSrc (s : State) (n : Nat) : State :=
  let ao := decide (640 ≤ n ∧ n ≤ 642)
  forEach ((List.range 64).filter (fun e =>
      s.on (Page.evpub e) F.EVR_PUB_A_EN && s.g (Page.evpub e) F.EVR_PUB_A_SRC = n)) s
    (fun s e => s.publish (s.srcOwner n) (s.g (Page.evpub e) F.EVR_PUB_A_CHANNEL) ao)

/-! ### Logic cells -/

/-- Fields of a cell's active copy, at 0x0C to 0x14. -/
def State.cellF (s : State) (c : Nat) (f : Fld) : Nat := s.g (Page.evcell c + 0xC) f
/-- Input channel k of a cell's active copy. -/
def State.cellIn (s : State) (c k : Nat) : Nat := (s.reg (Page.evcell c + 0x10)).toNat / 256 ^ k % 256

/-- The LUT value of R549 for given inputs. -/
def lutBit (lut : Nat) (i : Nat → Bool) : Bool :=
  lut / 2 ^ ((if i 0 then 1 else 0) + (if i 1 then 2 else 0) + (if i 2 then 4 else 0) + (if i 3 then 8 else 0)) % 2 = 1

/-- f of cell `c`, reading channels through `ch`. -/
def State.cellF0 (s : State) (c : Nat) (ch : Tab Bool) : Bool :=
  lutBit (s.cellF c F.EVR_CELL_CFG_LUT) (fun k =>
    if k = 3 ∧ s.cellF c F.EVR_CELL_CFG_FEEDBACK ≠ 0 then s.on (Page.evcell c) F.EVR_CELL_STATE_Q
    else ch.get false (s.cellIn c k))

/-- Whether the LUT depends on input `k` (R553). -/
def lutDepends (lut k : Nat) : Bool :=
  (List.range 16).any (fun i => i / 2 ^ k % 2 = 0 && (lut / 2 ^ i % 2 ≠ lut / 2 ^ (i + 2 ^ k) % 2))

def State.cellEn (s : State) (c : Nat) : Bool := s.cellF c F.EVR_CELL_CFG_EN ≠ 0
def State.cellReg (s : State) (c : Nat) : Bool := s.cellF c F.EVR_CELL_CFG_REG ≠ 0
def State.cellAo (s : State) (c : Nat) : Bool := s.cellF c F.EVR_CELL_CFG_CLK ≠ 0

/-- One event of a cell on its OUT channel. -/
def State.cellFire (s : State) (c : Nat) : State :=
  (s.bump (Page.evcell c) F.EVR_CELL_FIRES).publish (s.cellOwner c) (s.cellF c ⟨8, 7, 0⟩) (s.cellAo c)

/-- Whether a filtered output that goes from `o` to `n` publishes, by OUT_MODE (R550). -/
def outFires (mode : Nat) (o n : Bool) : Bool :=
  match mode with
  | 0 => n
  | 1 => n && !o
  | 2 => n != o
  | _ => false

/-- The cell's output on this tick is `v`: with FILT 0 it is published; else its change waits (R550). -/
def State.cellOut (s : State) (c : Nat) (v : Bool) : State :=
  let x := s.evr.cell.get Cell.zero c
  if s.cellF c F.EVR_CELL_CFG_FILT = 0 then
    let s := { s with evr.cell := s.evr.cell.set Cell.zero c ⟨v, v, 0⟩ }
    s.when (outFires (s.cellF c F.EVR_CELL_CFG_OUT_MODE) x.pub v) (·.cellFire c)
  else
    let s := { s with evr.cell := s.evr.cell.set Cell.zero c { x with out := v, held := if v = x.out then x.held else 0 } }
    s.when (s.cellF c F.EVR_CELL_CFG_OUT_MODE = 0 ∧ x.pub) (·.cellFire c)

/-- The next unregistered cell to evaluate among `left`: one whose inputs no other of them drives (R551). -/
def State.nextCell (s : State) (left : List Nat) : Option Nat :=
  left.find? (fun c => (List.range 4).all (fun k =>
    !lutDepends (s.cellF c F.EVR_CELL_CFG_LUT) k
      || left.all (fun c' => c' = c || s.cellF c' ⟨8, 7, 0⟩ ≠ s.cellIn c k)))

/-- Unregistered cells take the events of the present tick, in the order in which they feed one another. -/
def State.combCells (s : State) : Nat → List Nat → State
  | 0, _ => s
  | n + 1, left =>
    match s.nextCell left with
    | none => s
    | some c => State.combCells (s.cellOut c (s.cellF0 c s.evr.now)) n (left.filter (· ≠ c))

/-- The enabled cells that work in the present mode: in BANKED those with CLK 1 only (R556). -/
def State.liveCells (s : State) : List Nat :=
  (List.range 64).filter (fun c => s.cellEn c && (s.pwr.mode ≠ .banked || s.cellAo c))

/-- The end of a tick: unregistered cells act, then registered cells with CLK 0 take their next state (R549). -/
def State.cellsTickEnd (s : State) : State :=
  let live := s.liveCells
  let s := s.combCells 64 (live.filter (fun c => !s.cellReg c))
  let now := s.evr.now
  let q := (live.filter (fun c => s.cellReg c && !s.cellAo c)).map (fun c => (c, s.cellF0 c now))
  let s := q.foldl (fun s cq => s.p (Page.evcell cq.1) F.EVR_CELL_STATE_Q (if cq.2 then 1 else 0)) s
  { s with evr.now := [] }

/-- An always-on edge: registered cells with CLK 1 take their next state, and held changes age (R549, R550). -/
def State.cellsAoEdge (s : State) : State :=
  let live := s.liveCells
  let since := s.evr.since
  let q := (live.filter (fun c => s.cellReg c && s.cellAo c)).map (fun c => (c, s.cellF0 c since))
  let s := q.foldl (fun s cq => s.p (Page.evcell cq.1) F.EVR_CELL_STATE_Q (if cq.2 then 1 else 0)) s
  let s := forEach live s (fun s c =>
    let x := s.evr.cell.get Cell.zero c
    if x.out ≠ x.pub then { s with evr.cell := s.evr.cell.set Cell.zero c { x with held := x.held + 1 } } else s)
  { s with evr.since := [] }

/-- The start of a tick: every registered cell's output is its Q (R549). -/
def State.cellsTickStart (s : State) : State :=
  forEach (s.liveCells.filter (fun c => s.cellReg c)) s
    (fun s c => s.cellOut c (s.on (Page.evcell c) F.EVR_CELL_STATE_Q))

/-! ### Commits (R552, R553) -/

/-- Whether channel `ch` is named by an enabled producer, consumer, cell or entry (EVR_CHAN_STATUS.IN_USE). -/
def State.inUse (s : State) (ch : Nat) : Bool :=
  (List.range 32).any (fun n => s.on (Page.ttu n) F.TTU_CTRL_ENABLE && s.g (Page.ttu n) F.TTU_CTRL_CHANNEL = ch)
  || (List.range 16).any (fun n => s.on (Page.tcu n) F.TCU_CTRL_ENABLE && !s.on (Page.tcu n) F.TCU_CTRL_INPUT_KIND
        && s.g (Page.tcu n) F.TCU_CTRL_INPUT = ch)
  || (List.range 32).any (fun u =>
        (s.on (Page.cu u) F.ACQ_CU_EVT_TRIG_EV_EN && s.g (Page.cu u) F.ACQ_CU_EVT_TRIG_CHAN = ch)
        || (s.on (Page.cu u) F.ACQ_CU_EVT_MASK_EV_EN && s.g (Page.cu u) F.ACQ_CU_EVT_MASK_CHAN = ch)
        || (s.g (Page.cu u) F.ACQ_CU_TRIG_TSRC = 1 && s.g (Page.cu u) F.ACQ_CU_TRIG_TINDEX = ch))
  || (List.range 64).any (fun k =>
        let w := s.reg (Page.acqq (k / 16) + 0x100 + k % 16 * 4)
        wget w 2 2 = 1 && wget w 15 8 = ch)
  || s.dec.tab.any (fun e => e.2.toNat % 2 = 1 && e.2.toNat / 8 % 2 = 1 && e.2.toNat / 2 ^ 56 % 256 = ch)
  || (List.range 160).any (fun q => s.on (Page.seq q) F.SEQ_JUMP_SRC_EVT_EN && s.g (Page.seq q) F.SEQ_JUMP_SRC_CHANNEL = ch)
  || (List.range 512).any (fun b =>
        (s.on (Page.bias b) F.BIAS_QEVT_START_EV_EN && s.g (Page.bias b) F.BIAS_QEVT_START_CHAN = ch)
        || (s.g (Page.bias b) F.BIAS_CTRL_QMODE = 2 && s.g (Page.bias b) F.BIAS_QEVT_PACE_CHAN = ch))
  || (List.range 64).any (fun m => s.on (Page.mon m) F.MON_CTRL_ENABLE
        && ((s.g (Page.mon m) F.MON_CTRL_START_SRC = 2 && s.g (Page.mon m) F.MON_CTRL_START_CHAN = ch)
          || (s.on (Page.mon m) F.MON_CTRL_INJ_EV_EN && s.g (Page.mon m) F.MON_CTRL_INJ_CHAN = ch)))
  || (s.g Page.monc F.MON_COMMON_CTRL_SRC = 2 && s.g Page.monc F.MON_COMMON_CTRL_CHANNEL = ch)
  || (ch < 64 && s.on (Page.src (864 + ch)) F.INT_SRC_CFG_ENABLE)
  || s.on (Page.evch ch) F.EVR_CHAN_CFG_WAKE
  || (List.range 64).any (fun c => s.cellEn c && (s.cellF c ⟨8, 7, 0⟩ = ch || (List.range 4).any (fun k => s.cellIn c k = ch)))
  || (List.range 64).any (fun e => s.on (Page.evpub e) F.EVR_PUB_A_EN && s.g (Page.evpub e) F.EVR_PUB_A_CHANNEL = ch)

/-- A configuration that a commit would make: for each cell CFG, IN, OUT and for each entry PUB, as words. -/
structure EvrConf where
  cells : List (Nat × Word × Word × Word)
  pubs : List (Nat × Word)

/-- The configuration that would result from function `fn`'s commit (R552). -/
def State.evrConf (s : State) (fn : Nat) : EvrConf where
  cells := (List.range 64).map (fun c =>
    let o := if full fn ∨ s.cellOwner c = fn then 0 else 0xC
    (c, s.reg (Page.evcell c + o), s.reg (Page.evcell c + o + 4), s.reg (Page.evcell c + o + 8)))
  pubs := (List.range 64).map (fun e =>
    let w := s.reg (Page.evpub e)
    (e, if full fn ∨ s.srcOwner (wget w 9 0) = fn then w else s.reg (Page.evpub e + 4)))

/-- Step 1 of R553 for one owner: the lowest enabled PRIVATE channel of `own` that is neither in use nor taken. -/
def State.allocChan (s : State) (own : Nat) (taken : List Nat) : Option Nat :=
  (List.range 256).find? (fun ch => s.evOwner ch = own && s.evAttr ch = 0
    && s.on (Page.evch ch) F.EVR_CHAN_CFG_ENABLE && !(ch ∈ taken) && !s.inUse ch)

/-- Step 1 of R553 over the cells, then the entries. -/
def State.allocCells (s : State) : List (Nat × Word × Word × Word) → List Nat →
    Option (List (Nat × Word × Word × Word) × List Nat)
  | [], t => some ([], t)
  | (c, g, i, o) :: l, t =>
    if wget o 8 8 = 1 then
      match s.allocChan (s.cellOwner c) t with
      | none => none
      | some ch => (s.allocCells l (ch :: t)).map (fun r => ((c, g, i, wput (wput o 8 8 0) 7 0 ch) :: r.1, r.2))
    else (s.allocCells l t).map (fun r => ((c, g, i, o) :: r.1, r.2))
def State.allocPubs (s : State) : List (Nat × Word) → List Nat → Option (List (Nat × Word))
  | [], _ => some []
  | (e, w) :: l, t =>
    if wget w 11 11 = 1 then
      match s.allocChan (s.srcOwner (wget w 9 0)) t with
      | none => none
      | some ch => (s.allocPubs l (ch :: t)).map ((e, wput (wput w 11 11 0) 23 16 ch) :: ·)
    else (s.allocPubs l t).map ((e, w) :: ·)

/-- The edges of the dependency graph of R553: from each input channel on which an enabled unregistered cell
depends to its OUT channel. With FEEDBACK set IN3 is ignored (R549). -/
def evrEdges (cells : List (Nat × Word × Word × Word)) : List (Nat × Nat) :=
  cells.flatMap (fun x =>
    let (_, g, i, o) := x
    if wget g 26 26 = 1 ∧ wget g 16 16 = 0 then
      ((List.range 4).filter (fun k => (k ≠ 3 || wget g 18 18 = 0) && lutDepends (wget g 15 0) k)).map
        (fun k => (i.toNat / 256 ^ k % 256, wget o 7 0))
    else [])

/-- The channels that `n` steps of edges reach from those of `from_`. -/
def evrReach (es : List (Nat × Nat)) : Nat → List Nat → List Nat
  | 0, l => l
  | n + 1, l =>
    let m := (es.filter (fun e => e.1 ∈ l && !(e.2 ∈ l))).map (·.2)
    if m = [] then l else evrReach es n (l ++ m.eraseDups)

/-- The lowest channel on a cycle, if there is one. -/
def evrCycle (es : List (Nat × Nat)) : Option Nat :=
  (List.range 256).find? (fun ch =>
    ch ∈ evrReach es 256 ((es.filter (fun e => e.1 = ch)).map (·.2)).eraseDups)

/-- Step 3 of R553: every channel named suits its owner, and FEEDBACK comes with REG (R562). -/
def State.evrPermitted (s : State) (k : EvrConf) : Bool :=
  k.cells.all (fun x =>
    let (c, g, i, o) := x
    let own := s.cellOwner c
    wget g 26 26 = 0 || ((wget g 18 18 = 0 || wget g 16 16 = 1)
      && s.mayPublish own (wget o 7 0)
      && (List.range 4).all (fun n => (n = 3 && wget g 18 18 = 1) || s.maySubscribe own (i.toNat / 256 ^ n % 256))))
  && k.pubs.all (fun x => wget x.2 10 10 = 0 || s.mayPublish (s.srcOwner (wget x.2 9 0)) (wget x.2 23 16))

/-- Apply a configuration to the active copies; a changed cell starts at INIT (R549, R553). -/
def State.applyConf (s : State) (fn : Nat) (k : EvrConf) : State :=
  let s := k.cells.foldl (fun s x =>
    let (c, g, i, o) := x
    let a := Page.evcell c
    let same : Bool := s.reg (a + 0xC) = g && s.reg (a + 0x10) = i && s.reg (a + 0x14) = o
    let s := ((s.setReg (a + 0xC) g).setReg (a + 0x10) i).setReg (a + 0x14) o
    let s := s.when (full fn ∨ s.cellOwner c = fn) (·.setReg (a + 8) o)
    if same then s
    else ({ s with evr.cell := s.evr.cell.set Cell.zero c Cell.zero }).p a F.EVR_CELL_STATE_Q (wget g 19 19)) s
  k.pubs.foldl (fun s x =>
    let a := Page.evpub x.1
    let s := s.when (full fn ∨ s.srcOwner (s.g a F.EVR_PUB_SRC) = fn) (·.setReg a x.2)
    s.setReg (a + 4) x.2) s

/-- A commit by function `fn` (R553): the new state, its status and the loop channel. -/
def State.evrCommit (s : State) (fn : Nat) : State × Nat × Nat :=
  let k := s.evrConf fn
  let fail := fun (st ch : Nat) (s : State) =>
    ((s.p Page.evr F.EVR_COMMIT_RESULT_STATUS st).p Page.evr F.EVR_COMMIT_RESULT_CHANNEL ch, st, ch)
  match s.allocCells k.cells [] with
  | none => fail St.noChannel 0 (s.flag Page.evr F.EVR_STATUS_ALLOC_REJECT)
  | some (cells, t) =>
    match s.allocPubs k.pubs t with
    | none => fail St.noChannel 0 (s.flag Page.evr F.EVR_STATUS_ALLOC_REJECT)
    | some pubs =>
      match evrCycle (evrEdges cells) with
      | some ch => fail St.loopCombinational ch (s.flag Page.evr F.EVR_STATUS_LOOP_REJECT)
      | none =>
        if ¬ s.evrPermitted ⟨cells, pubs⟩ then fail St.invalidParam 0 s
        else fail St.success 0 ((s.applyConf fn ⟨cells, pubs⟩).bump Page.evr F.EVR_COMMITS)

/-- Staged copies of `fn`'s cells and entries are reloaded from the active copies (R559). -/
def State.evrDiscard (s : State) (fn : Nat) : State :=
  let s := forEach ((List.range 64).filter (fun c => full fn || s.cellOwner c = fn)) s (fun s c =>
    let a := Page.evcell c
    ((s.setReg a (s.reg (a + 0xC))).setReg (a + 4) (s.reg (a + 0x10))).setReg (a + 8) (s.reg (a + 0x14)))
  forEach ((List.range 64).filter (fun e => full fn || s.srcOwner (s.g (Page.evpub e) F.EVR_PUB_SRC) = fn)) s (fun s e =>
    s.setReg (Page.evpub e) (s.reg (Page.evpub e + 4)))

/-- The wake's start, on an event of a WAKE channel in BANKED, is in Power; whether `ch` may cause it (R557). -/
def State.wakes (s : State) (ch : Nat) : Bool :=
  s.pwr.mode = .banked && s.on (Page.evch ch) F.EVR_CHAN_CFG_WAKE && s.on (Page.evch ch) F.EVR_CHAN_CFG_AO

end Sys2Proof.Machine
end

