-- ==== Sys2Proof/Machine/OutOps.lean ====
section
/-!
DEFINITION. Machine/OutOps.lean: drive, probe and flux outputs: plays and their samples (R99 to R110, R250,
R251), the heat-load guard (R111 to R114), mutes (R116 to R118), the flux chain and its ramps (R140 to R153),
and what one tick of 1 ns does to every output.
-/

namespace Sys2Proof.Machine
open Sys2Proof

/-! ### Members of a partition and of a group -/

/-- The enabled sequencers of partition `p` on this module (R164). -/
def State.members (s : State) (p : Nat) : List Nat :=
  (List.range 160).filter (fun q => s.owner q = p && s.on (Page.seq q) F.SEQ_CTRL_ENABLE)
/-- Those of synchronisation group `g`. -/
def State.groupOf (s : State) (p g : Nat) : List Nat :=
  (s.members p).filter (fun q => s.g (Page.seq q) F.SEQ_CTRL_GROUP = g)
/-- The members that a barrier of kind `k` and group `g` waits for (R218). -/
def State.barMembers (s : State) (p k g : Nat) : List Nat := if k ≤ 1 then s.members p else s.groupOf p g

/-- Whether member `q` is ready in a barrier: on arrival, or since. -/
def Bar.readyOf (b : Bar) (q : Nat) : Bool := b.arr.any (fun a => a.1 = q && a.2.2) || b.rdy.any (fun r => r.1 = q)

/-- On tick `t` a member of a region entry, here or on another node, has yet to become ready (R188). -/
def Bar.unreadyAt (b : Bar) (t : Nat) : Bool :=
  b.arr.any (fun a => !a.2.2 && !b.rdy.any (fun r => r.1 = a.1 && r.2 ≤ t))
    || b.nodes.any (fun n => match n.2.2 with | none => true | some r => r ≠ n.2.1 && t < r)

/-- Sequencer `q` is held at a region entry and the last member that was not ready has not become ready
(condition 7 of R116). -/
def State.heldUnready (s : State) (q : Nat) : Bool :=
  (s.sqs q).hold && (s.prt (s.seqOwner q)).bars.any (fun b =>
    b.kind = 3 && b.grp = s.g (Page.seq q) F.SEQ_CTRL_GROUP && b.unreadyAt (s.tk (s.seqOwner q)))

/-! ### Outputs: drive 0–127, probe 128–159 -/

def outPg (n : Nat) : Nat := if n < 128 then Page.drv n else Page.rdo (n - 128)
/-- The quadrant whose envelope store serves output `n`. -/
def outQuad (n : Nat) : Nat := if n < 128 then n / 32 else (n - 128) / 8
/-- The lanes of output `n`, which are also its oscillators. -/
def outLanes (n : Nat) : List Nat :=
  if n < 128 then (List.range 8).map (8 * n + ·) else (List.range 32).map (1024 + 32 * (n - 128) + ·)
/-- The output on which lane `k` sounds: a drive lane, or a tone. -/
def laneOut' (k : Nat) : Nat := if k < 1024 then k / 8 else 128 + (k - 1024) / 32
/-- Spare group and member of output `n`'s datapath, and of flux channel `n`'s. -/
def outMember (n : Nat) : Nat × Nat := if n < 128 then (n / 8, n % 8) else (32 + (n - 128) / 4, (n - 128) % 4)
def flxMember (n : Nat) : Nat × Nat := (16 + n / 8, n % 8)
/-- A channel's datapath has failed and its spare has not yet taken it: its output is zero (R124). -/
def State.dpAwaits (s : State) (m : Nat × Nat) : Bool := decide (m.2 ∈ (s.spare m.1).waiting)
/-- The partition of output `n`. -/
def State.outOwner (s : State) (n : Nat) : Nat := s.owner n

/-- The channel is enabled and neither DARK nor SHED (DRV_STATUS.ACTIVE). -/
def State.outActive (s : State) (n : Nat) : Bool :=
  s.on (outPg n) F.DRV_CTRL_ENABLE && !s.on (outPg n) F.DRV_STATUS_DARK && !s.on (outPg n) F.DRV_STATUS_SHED

/-- Condition 6 of R116: not running, and not within 256 ns of an armed start. -/
def State.outIdle (s : State) (n : Nat) : Bool :=
  let p := s.outOwner n
  !s.running p && !(s.pst p = 2 && (s.prt p).unmuted)

/-- Conditions 1, 3 and 5 of R116, and a region abort (R112, R118). -/
def State.outBlocked (s : State) (n : Nat) : Bool :=
  !s.outActive n || !(s.pwr.mode = .ready) || s.on (outPg n) F.DRV_STATUS_HEAT_TRIP || (s.outp n).aborted

/-- The digital stream of output `n` is zero (R112, R116 to R118): a hold keeps it so until the release tick (R117, R188). -/
def State.streamZero (s : State) (n : Nat) : Bool := s.outBlocked n || (s.sqs n).hold

/-- Whether the hardware mute is engaged, or would be: conditions 1 to 7 of R116, a region abort (R118), and
an open PRESENT contact (R667). -/
def State.muteWanted (s : State) (n : Nat) : Bool :=
  s.outBlocked n || s.heldUnready n || s.on (outPg n) F.DRV_CTRL_FORCE_MUTE || s.syn.extMute || s.outIdle n
    || !s.pins.present
/-- DRV_STATUS.MUTED: engaged or releasing. -/
def State.muted (s : State) (n : Nat) : Bool := s.muteWanted n || !(s.outp n).released

/-- The mute of output `n` follows its conditions: it engages at once, and a release takes from 60 to 100 ns (R116, R119). -/
def State.muteStep (s : State) (n : Nat) : State :=
  let o := s.outp n
  if s.muteWanted n then s.setOutp n { o with released := false, unmuteAt := none }
  else if o.released then s
  else match o.unmuteAt with
    | none => let (s, v) := s.fresh 16; s.setOutp n { o with unmuteAt := some (s.now + 960 + v % 641) }
    | some t => if t ≤ s.now then s.setOutp n { o with released := true, unmuteAt := none } else s

/-! ### Envelopes and plays -/

/-- Sample `a` of the envelope store of quadrant `q` (R93). -/
def State.env (s : State) (q a : Nat) : Word := s.syn.env.get 0 (q * 2097152 + a)
def State.setEnv (s : State) (q a : Nat) (w : Word) : State :=
  { s with syn.env := s.syn.env.set 0 (q * 2097152 + a) w }
/-- I or Q of envelope sample `j` of a play, zero outside it (R101). -/
def State.envAt (s : State) (q : Nat) (p : Play) (hi lo : Nat) (j : Int) : Int :=
  if 0 ≤ j ∧ j < p.len then sext 16 (wget (s.env q (p.start + j.toNat)) hi lo) else 0

/-- Descriptor `e` of quadrant `q` in effect, if partition `p` may play it (R95, R98): START, LENGTH, RATE. -/
def State.descOf (s : State) (q p e : Nat) : Option (Nat × Nat × Nat) :=
  let st := s.g (Page.desc q e) F.DRV_ENV_DESC_LO_START
  let n := s.g (Page.desc q e) F.DRV_ENV_DESC_HI_LENGTH
  let r := s.g (Page.desc q e) F.DRV_ENV_DESC_HI_RATE
  let w := s.sampWin q p
  if n = 0 ∨ 2097152 < st + n ∨ ¬ inWin (s.descWin q p) e ∨ st < w.1 ∨ w.1 + w.2 < st + n then none
  else some (st, n, r)

/-- The position d of R100 at sample `t`, in 1/16 sample of an output of `16 / step` GS/s; none before the play. -/
def Play.pos (p : Play) (step t : Nat) : Option Nat :=
  let a := 16 * t
  let b := 16 * p.ts + step * p.f
  if a < b then none else some ((a - b) / step)

/-- Whether a play contributes to sample `t`. -/
def Play.sounds (p : Play) (step t : Nat) : Bool :=
  match p.pos step t with
  | none => false
  | some d => decide (d < 16 * p.len * p.l) && (match p.cut with | none => true | some c => decide (t < c))

/-- The first sample to which a play contributes, as T_exp, with `step` units between samples. -/
def Play.first (p : Play) (step : Nat) : Nat := p.ts + (p.f + 15) / 16 * step
/-- The T_exp after its last sample. -/
def Play.last (p : Play) (step : Nat) : Nat :=
  let e := p.first step + p.len * p.l * step
  match p.cut with | none => e | some c => min e c

/-- Units of T_exp between the samples of lane `k`: 1 on drive and probe lanes, 8 on flux lanes. -/
def laneStep (k : Nat) : Nat := if k < 2048 then 1 else 8

/-- The oscillator of a lane at sample `t`: F and P (R72, R104). -/
def Osc.at (o : Osc) (t : Nat) : Nat × Nat :=
  match o.old.find? (fun x => t < x.1) with
  | some x => x.2
  | none => (o.f, o.p)

/-- Change F and P at sample `t0`: earlier samples keep the old values. -/
def Osc.change (o : Osc) (t0 f p : Nat) : Osc := { o with f := f, p := p, old := o.old ++ [(t0, o.f, o.p)] }

/-- A play starts on a lane (R102): an earlier play that still sounds ends at the new one's first sample. -/
def State.playStart (s : State) (k : Nat) (p : Play) : State × Bool :=
  let st := laneStep k
  let t := p.first st
  let l := s.plays k
  let past := l.any (fun q => decide (t < q.last st))
  (s.setPlays k (l.map (fun q => if t < q.last st then { q with cut := some t } else q) ++ [p]), past)

/-- The continuous signal of a CW tone sounds on lane `k` (R251). -/
def State.cwOn (s : State) (k : Nat) : Bool :=
  1024 ≤ k && s.running (s.toneOwner (k - 1024)) && s.on (Page.tone (k - 1024)) F.TONE_CTRL_CW

/-- y of a drive or probe lane at sample `t` (R109, R251). -/
def State.laneY (s : State) (k t : Nat) : Int :=
  let o := (s.osc k).at t
  let φ := fun (row : Nat) => let mp := pauliPhase row o.2; (mp.1, phase o.1 mp.2 t)
  match (s.plays k).find? (fun p => p.sounds 1 t) with
  | some p =>
    let d := (p.pos 1 t).getD 0
    let q := outQuad (laneOut' k)
    let mφ := φ p.pauli
    laneOut (resample p.l d (s.envAt q p 15 0)) (resample p.l d (s.envAt q p 31 16)) p.s mφ.1 mφ.2
  | none =>
    if s.cwOn k then
      let pg := Page.tone (k - 1024)
      laneOut 32767 0 (scale (s.gi pg F.TONE_GAIN_CW_AMP) (s.g pg F.TONE_GAIN_GAIN)) false (φ 0).2
    else 0

/-- The DAC code of output `n` at sample `t`, and whether it saturates (R110, R250). -/
def State.outCode (s : State) (n t : Nat) : Int × Bool :=
  let y := dacRaw (((outLanes n).map (s.laneY · t)).foldl (· + ·) 0)
  (sat 14 y, y ≠ sat 14 y)

/-- The codes of the tick that starts at T_exp `t` of the partition. -/
def State.tickCodes (s : State) (n t : Nat) : List (Int × Bool) := (List.range 16).map (fun i => s.outCode n (t + i))

/-- Whether output `n` has anything to compute: a play, a CW tone, a heat mean or a mute that moves. -/
def State.outBusy (s : State) (n : Nat) : Bool :=
  (s.outp n).heat ≠ 0 || (s.outp n).code ≠ 0 || (outLanes n).any (fun k => s.plays k ≠ [])
    || (s.running (s.outOwner n) && (outLanes n).any s.cwOn)

/-- Count the plays of output `n` that reach it while it is muted (R118). -/
def State.countMuted (s : State) (n t : Nat) : State :=
  forEach (outLanes n) s (fun s k =>
    let c := (s.plays k).filter (fun p => !p.muted && p.first 1 < t + 16 && t < p.last 1)
    if c = [] then s
    else
      let s := s.setPlays k ((s.plays k).map (fun p =>
        if p.first 1 < t + 16 ∧ t < p.last 1 then { p with muted := true } else p))
      (s.bump (outPg n) F.DRV_MUTED_PLAYS c.length).flag (outPg n) F.DRV_STATUS_MUTED_PLAY)

/-- The codes of a tick of output `n` at the point where the guard measures them, after the crossbar (R111, R324). -/
def State.guardCodes (s : State) (n t : Nat) : List Int :=
  if ¬ s.outBusy n ∨ s.streamZero n = true ∨ s.dpAwaits (outMember n) = true then List.replicate 16 0
  else (s.tickCodes n t).map (·.1)

/-- One tick of output `n`: samples, clips, heat mean and muted plays (R109 to R111, R118). -/
def State.outTick (s : State) (n : Nat) : State :=
  if ¬ s.outBusy n then s
  else
    let t := (s.cnt (s.outOwner n)).toNat
    let pg := outPg n
    let cs := s.tickCodes n t
    let clips := (cs.filter (·.2)).length
    let s := s.when (clips ≠ 0) (fun s => (s.bump pg F.DRV_CLIP_COUNT clips).flag pg F.DRV_STATUS_CLIPPED)
    let codes := s.guardCodes n t
    let x := ((codes.map (fun c => (c * c).toNat)).foldl (· + ·) 0) / 16
    let o := s.outp n
    let s := s.setOutp n { o with
      heat := heatStep o.heat x (s.g pg F.DRV_HEAT_CFG_TAU_EXP)
      code := codes.getLastD 0 }
    if s.muted n then s.countMuted n t else s

/-- The guard's comparison of R112. -/
def State.heatOver (s : State) (n : Nat) : Bool :=
  s.g (outPg n) F.DRV_HEAT_LIMIT_LIMIT * 1024 < (s.outp n).heat / 2 ^ 22

/-- Clear a trip if R113 permits it. -/
def State.tripClear (s : State) (n : Nat) : State :=
  if (s.outp n).heat / 2 ^ 22 ≤ 896 * s.g (outPg n) F.DRV_HEAT_LIMIT_LIMIT then
    s.unflag (outPg n) F.DRV_STATUS_HEAT_TRIP
  else s

/-- The frequency band of R106 for a word F and a DAC mode. -/
def inBand (mode f : Nat) : Bool :=
  if mode = 0 then 2 ^ 48 ≤ f * 160 && f * 32 ≤ 15 * 2 ^ 48 else 17 * 2 ^ 48 ≤ f * 32 && f * 8 ≤ 7 * 2 ^ 48

/-! ### Flux (R135 to R153) -/

def State.flxOwner (s : State) (n : Nat) : Nat := s.owner n

/-- The register of the active coefficient bank that stands behind address `a` of the inactive one (R147): the
retained settings hold both banks. -/
def actKey (a : Nat) : Nat := 2 ^ 30 + a
def State.actReg (s : State) (a : Nat) : Word := s.pwr.ret.get (factoryWord a) (actKey a)
def State.setActReg (s : State) (a : Nat) (w : Word) : State :=
  { s with pwr.ret := s.pwr.ret.set (factoryWord a) (actKey a) w }

/-- Offsets of a bank's registers within a flux channel's page (R160). -/
def bankOffs : List Nat :=
  (List.range 4).flatMap (fun i => [0x100 + i * 16, 0x104 + i * 16, 0x108 + i * 16])
    ++ (List.range 40).map (fun j => 0x140 + j * 4) ++ [0x1E0]
/-- Whether an offset within a flux page belongs to the bank registers. -/
def isBankOff (o : Nat) : Bool := o ∈ bankOffs

/-- The first non-bypassed section of the inactive bank whose A1 fails R148, if any. -/
def badA1 (byp : Nat) (a1 : Nat → Int) : Option Nat :=
  (List.range 4).find? (fun i => byp / 2 ^ i % 2 = 0 && (a1 i ≤ -4194304 || 4194304 ≤ a1 i))

/-- The inactive bank of channel `n` passes the validation of R148. -/
def State.bankOk (s : State) (n : Nat) : Bool :=
  (badA1 (s.g (Page.flx n) F.FLX_PD_BYPASS_IIR_BYPASS)
    (fun i => sext 24 (wget (s.reg (Page.flx n + 0x108 + i * 16)) 23 0))).isNone

/-- The banks exchange places (R148). -/
def State.bankSwap (s : State) (n : Nat) : State :=
  let s := forEach bankOffs s (fun s o =>
    let a := Page.flx n + o
    let x := s.reg a
    let y := s.actReg a
    (s.setReg a y).setActReg a x)
  let s := s.unflag (Page.flx n) F.FLX_STATUS_COMMIT_PENDING
  s.p (Page.flx n) F.FLX_STATUS_ACTIVE_BANK (1 - s.g (Page.flx n) F.FLX_STATUS_ACTIVE_BANK)

/-- COMMIT (R148). -/
def State.bankCommit (s : State) (n : Nat) : State :=
  if s.on (Page.flx n) F.FLX_STATUS_COMMIT_PENDING then s
  else if ¬ s.bankOk n then s.flag (Page.flx n) F.FLX_STATUS_PD_REJECT
  else if s.running (s.flxOwner n) then s.flag (Page.flx n) F.FLX_STATUS_COMMIT_PENDING
  else s.bankSwap n

/-- PARK as a signed code. -/
def State.park (s : State) (n : Nat) : Int := s.gi (Page.flx n) F.FLX_PARK_PARK
def State.flxActive (s : State) (n : Nat) : Bool :=
  s.on (Page.flx n) F.FLX_CTRL_ENABLE && !s.on (Page.flx n) F.FLX_STATUS_DARK && !s.on (Page.flx n) F.FLX_STATUS_SHED

/-- The channel is quiet (R142). -/
def State.flxQuiet (s : State) (n : Nat) : Bool :=
  let p := s.flxOwner n
  (!s.running p && !(s.prt p).inShot) || s.pwr.mode = .safe || (s.sqs n).hold || (s.flx n).aborted
    || s.on (Page.flx n) F.FLX_CTRL_FORCE_PARK

/-- A ramp of the chain input to `x1` begins at the present input (R150). -/
def State.flxRamp (s : State) (n : Nat) (x1 : Int) : State :=
  let f := s.flx n
  (s.setFlx n { f with ramp := some (f.x, x1, 2 ^ s.g (Page.flx n) F.FLX_CTRL_RAMP_EXP, 0) }).flag
    (Page.flx n) F.FLX_STATUS_RAMPING

/-- x[k] of R150. -/
def rampAt (x0 x1 : Int) (n k : Nat) : Int :=
  if n ≤ k then x1 else x0 + (2 * (x1 - x0) * k + n) / (2 * n)

/-- H returns to the park value (R140). -/
def State.levelPark (s : State) (n : Nat) : State := s.setFlx n { s.flx n with h := s.park n, h1 := none }

/-- A flux lane's contribution e at sample `t` (R138, R139, R141), and whether it saturates. -/
def State.flxLane (s : State) (k t : Nat) : Int × Bool :=
  match (s.plays k).find? (fun p => p.sounds 8 t) with
  | none => (0, false)
  | some p =>
    let e := rhu (resample p.l ((p.pos 8 t).getD 0) (s.envAt ((k - 2048) / 64) p 15 0) * p.s) 7
    (sat 24 e, e ≠ sat 24 e)

/-- Flux outputs stay at 0 V: their converters are off, or a bank or shutdown sequence has ramped them down (R152, R623,
R631). -/
def State.flxOff (s : State) : Bool :=
  !s.pwr.convOn || (match s.pwr.busy with | .bank => true | .stop _ => true | _ => false)

/-- The chain input of sample `t`, and whether it saturates (R141, R142, R150). -/
def State.flxInput (s : State) (n t : Nat) : Int × Bool :=
  match (s.flx n).ramp with
  | some (x0, x1, m, k) => (rampAt x0 x1 m k, false)
  | none =>
    if ¬ s.flxActive n ∨ s.flxOff then (0, false)
    else if s.flxQuiet n then (256 * s.park n, false)
    else
      let e0 := s.flxLane (2048 + 2 * n) t
      let e1 := s.flxLane (2049 + 2 * n) t
      let x := 256 * (s.flx n).h + e0.1 + e1.1
      (sat 24 x, e0.2 || e1.2 || x ≠ sat 24 x)

/-- One IIR section (R143): its output, whether it saturates, and its new history. -/
def iirStep (byp : Bool) (b0 b1 a1 u : Int) (h : Int × Int) : Int × Bool :=
  if byp then (u, false)
  else
    let y := (b0 * u + b1 * h.1 - a1 * h.2 + 2 ^ 21) / 2 ^ 22
    (sat 24 y, y ≠ sat 24 y)

/-- Sections `i` on, over input `u`. -/
def State.iirFrom (s : State) (n byp : Nat) : List Nat → Int → Bool → Tab (Int × Int) → Int × Bool × Tab (Int × Int)
  | [], u, c, h => (u, c, h)
  | i :: l, u, c, h =>
    let co := fun o => sext 24 (wget (s.actReg (Page.flx n + o + i * 16)) 23 0)
    let y := iirStep (byp / 2 ^ i % 2 = 1) (co 0x100) (co 0x104) (co 0x108) u (h.get (0, 0) i)
    s.iirFrom n byp l y.1 (c || y.2) (h.set (0, 0) i (u, y.1))

/-- The FIR sum of R144 over the delay line, newest first. -/
def firSum : List (Int × Int) → Int
  | [] => 0
  | (c, w) :: l => c * w + firSum l

/-- The sample of a ramp that follows. -/
def Flx.rampOn (f : Flx) : Flx := { f with ramp := f.ramp.map (fun r => (r.1, r.2.1, r.2.2.1, min (r.2.2.2 + 1) r.2.2.1)) }

/-- The chain of a working datapath makes one sample from its input (R143 to R146). -/
def State.flxChain (s : State) (n : Nat) (x : Int × Bool) : State :=
  let f := s.flx n
  let pg := Page.flx n
  let byp := if s.on pg F.FLX_CTRL_PD_EN then (s.actReg (pg + 0x1E0)).toNat % 32 else 31
  let r := s.iirFrom n byp [0, 1, 2, 3] x.1 x.2 f.iir
  let w := (r.1 :: f.fir).take 40
  let v := if byp / 16 % 2 = 1 then r.1
    else (firSum ((List.range 40).map (fun j => (sext 24 (wget (s.actReg (pg + 0x140 + j * 4)) 23 0), w.getD j 0))) + 2 ^ 21) / 2 ^ 22
  let c := (sat 24 v + 2 ^ 7) / 2 ^ 8
  let s := s.setFlx n { f.rampOn with iir := r.2.2, fir := w.take 39, x := x.1, code := sat 16 c }
  if r.2.1 ∨ v ≠ sat 24 v ∨ c ≠ sat 16 c then
    (s.bump pg F.FLX_CLIP_COUNT).flag pg F.FLX_STATUS_CLIPPED
  else s

/-- One flux sample (R143 to R146): the output of a channel that waits for its spare is zero (R124, R156). -/
def State.flxSample (s : State) (n t : Nat) : State :=
  let x := s.flxInput n t
  if s.dpAwaits (flxMember n) then s.setFlx n { (s.flx n).rampOn with x := x.1, code := 0 } else s.flxChain n x

/-- Plays that have begun on the lanes of a quiet channel end (R142). -/
def State.flxCut (s : State) (n t : Nat) : State :=
  forEach [2048 + 2 * n, 2049 + 2 * n] s (fun s k => s.setPlays k ((s.plays k).filter (fun p => decide (t ≤ p.first 8))))

/-- Whether flux channel `n` has anything to compute. -/
def State.flxBusy (s : State) (n : Nat) : Bool := s.flxActive n || s.flx n ≠ Flx.zero

/-- The first sample of a tick of flux channel `n`. -/
def State.flxFirst (s : State) (n : Nat) : State :=
  if ¬ s.flxBusy n then s
  else
    let t := (s.cnt (s.flxOwner n)).toNat
    (if s.flxQuiet n then s.flxCut n t else s).flxSample n t

/-- One tick of flux channel `n`: two samples. -/
def State.flxTick (s : State) (n : Nat) : State :=
  if ¬ s.flxBusy n then s
  else
    let t := (s.cnt (s.flxOwner n)).toNat
    let s := s.flxFirst n
    let f := s.flx n
    let s := match f.h1 with
      | some h => s.setFlx n { f with h := h, h1 := none }
      | none => s
    s.flxSample n (t + 8)

/-! ### Outputs at boundaries and aborts -/

/-- Forget oscillator values that no later sample needs. -/
def State.oscTrim (s : State) (k t : Nat) : State :=
  let o := s.osc k
  if o.old = [] then s else s.setOsc k { o with old := o.old.filter (fun x => decide (t < x.1)) }

/-- An output's plays in progress end, and nothing issued comes to sound (R118, R171, R207). -/
def State.laneClear (s : State) (k : Nat) : State := s.setPlays k []

/-- The outputs of sequencer `q` go quiet by a region abort (R118, R140, R142). -/
def State.seqQuiet (s : State) (q : Nat) : State :=
  let s := forEach (outLanes q) s State.laneClear
  let s := s.setOutp q { s.outp q with aborted := true, released := false, unmuteAt := none }
  if q < 128 then
    let s := forEach [2048 + 2 * q, 2049 + 2 * q] s State.laneClear
    s.setFlx q { s.flx q with aborted := true, h := s.park q, h1 := none }
  else s

/-- The outputs of sequencer `q` leave the quiet of a region abort: the abort target's first instruction executes. -/
def State.seqUnquiet (s : State) (q : Nat) : State :=
  let s := if (s.outp q).aborted then s.setOutp q { s.outp q with aborted := false } else s
  if q < 128 ∧ (s.flx q).aborted then s.setFlx q { s.flx q with aborted := false } else s

/-- The outputs of sequencer `q` go quiet at a partition abort or SAFE entry (R30, R171). -/
def State.seqSilence (s : State) (q : Nat) : State :=
  let s := forEach (outLanes q) s State.laneClear
  if q < 128 then
    (forEach [2048 + 2 * q, 2049 + 2 * q] s State.laneClear).levelPark q
  else s

/-- The level of marker signal `b` of sequencer `q` (R195): it rose and its pulse has not ended. -/
def State.marker (s : State) (q b : Nat) : Bool := (s.sqs q).mark.get 0 b ≠ 0
/-- The level at marker port K`k` as an output (R196, R30). -/
def State.kOut (s : State) (k : Nat) : Bool :=
  let a := Page.seqq (k / 16) + 0x100 + k % 16 * 4
  let w := s.reg a
  let q := seqNum (k / 16) (wget w 5 0)
  s.on (Page.acqq (k / 16) + k % 16 * 4) F.ACQ_K_CFG_DIR && wget w 8 8 = 1 && s.running (s.seqOwner q) && s.marker q (wget w 7 6)

end Sys2Proof.Machine
end

