-- ==== Sys2Proof/Machine/PowerOps.lean ====
section
/-!
DEFINITION. Machine/PowerOps.lean: the power governor: charges, admission, shedding and restoring (R613 to R619).
Channels of every kind are numbered kind × 1,024 + port, with the kinds in shed order: M, A, P, D, Z, B.
-/

namespace Sys2Proof.Machine
open Sys2Proof

/-- Ports of each kind, and the charge of one in 0.01 W (R614). -/
def kindPorts (k : Nat) : Nat := match k with | 0 => 64 | 1 => 32 | 2 => 32 | 3 => 128 | 4 => 128 | _ => 512
def kindCharge (k : Nat) : Nat := match k with | 0 => 5 | 1 => 200 | 2 => 140 | 3 => 140 | 4 => 60 | _ => 8

def chanKind (c : Nat) : Nat := c / 1024
def chanPort (c : Nat) : Nat := c % 1024
/-- Every governed channel. -/
def allChans : List Nat := (List.range 6).flatMap (fun k => (List.range (kindPorts k)).map (1024 * k + ·))

/-- Page and fields (ENABLE, SHED, DARK) of a channel. -/
def chanPage (c : Nat) : Nat :=
  let n := chanPort c
  match chanKind c with
  | 0 => Page.mon n
  | 1 | 2 => Page.rdo n
  | 3 => Page.drv n
  | 4 => Page.flx n
  | _ => Page.bias n
def fldEnable (c : Nat) : Fld :=
  match chanKind c with
  | 0 => F.MON_CTRL_ENABLE | 1 => F.RDO_ADC_CTRL_ENABLE | 2 | 3 => F.DRV_CTRL_ENABLE
  | 4 => F.FLX_CTRL_ENABLE | _ => F.BIAS_CTRL_ENABLE
def fldShed (c : Nat) : Fld :=
  match chanKind c with
  | 0 => F.MON_STATUS_SHED | 1 => F.RDO_ADC_STATUS_SHED | 2 | 3 => F.DRV_STATUS_SHED
  | 4 => F.FLX_STATUS_SHED | _ => F.BIAS_STATUS_SHED
def fldDark (c : Nat) : Fld :=
  match chanKind c with
  | 0 => F.MON_STATUS_DARK | 1 => F.RDO_ADC_STATUS_DARK | 2 | 3 => F.DRV_STATUS_DARK
  | 4 => F.FLX_STATUS_DARK | _ => F.BIAS_STATUS_DARK
def fldRefused (c : Nat) : Fld :=
  match chanKind c with
  | 0 => F.MON_STATUS_POWER_REFUSED | 1 => F.RDO_ADC_STATUS_POWER_REFUSED | 2 | 3 => F.DRV_STATUS_POWER_REFUSED
  | 4 => F.FLX_STATUS_POWER_REFUSED | _ => F.BIAS_STATUS_POWER_REFUSED

def State.chanOn (s : State) (c : Nat) : Bool := s.on (chanPage c) (fldEnable c)
def State.chanShed (s : State) (c : Nat) : Bool := s.on (chanPage c) (fldShed c)
def State.chanDark (s : State) (c : Nat) : Bool := s.on (chanPage c) (fldDark c)
/-- The partition that owns a channel. -/
def State.chanOwner (s : State) (c : Nat) : Nat :=
  let n := chanPort c
  match chanKind c with
  | 0 => s.monOwner n
  | 1 | 2 => s.owner (128 + n)
  | 3 | 4 => s.owner n
  | _ => s.biasOwner n

/-- The charge in force for a channel, in 0.01 W. -/
def State.charge (s : State) (c : Nat) : Nat :=
  if s.chanOn c && !s.chanShed c && !s.chanDark c then kindCharge (chanKind c) else 0
/-- The charges of the domains now scanned (R593, R614). -/
def State.scanCharge (s : State) : Nat := (s.bst.now.map (fun d => if d.1 < 16 then 3000 else 2000)).foldl (· + ·) 0
/-- The charges in force, in 0.01 W (R614); 0 in BANKED (R623) and OFF. -/
def State.committed (s : State) : Nat :=
  if s.pwr.mode = .ready ∨ (s.pwr.mode = .safe ∧ ¬ s.pwr.deep) then
    14000 + (allChans.map s.charge).foldl (· + ·) 0 + s.scanCharge
  else 0

/-- PWR_CAP in 0.1 W, as it runs. -/
def State.capW (s : State) : Nat := max 1400 (s.g Page.pwr F.PWR_CAP_CAP)
/-- The envelope of R613 in 0.1 W: the input voltage is in 10 mV. -/
def State.envelope (s : State) : Nat :=
  min (min 5600 (35 * s.pwr.vin / 10)) (min s.capW (s.g Page.thm F.THM_CAP_CAP))

/-- Whether enabling channel `c` fits the published envelope (R615). -/
def State.admits (s : State) (c : Nat) : Bool :=
  s.chanDark c || s.committed + kindCharge (chanKind c) ≤ 10 * s.g Page.pwr F.PWR_ENVELOPE_ENVELOPE
/-- A refused enable of a register write (R128, R615). -/
def State.refuseEnable (s : State) (c : Nat) : State :=
  (s.bump Page.pwr F.PWR_REFUSALS).flag (chanPage c) (fldRefused c)

/-- The place of a channel in the shed order (R617): the lowest goes first. -/
def State.shedKey (s : State) (c : Nat) : Nat :=
  let p := s.chanOwner c
  let rank := (s.reg (Page.pwr + 0x24)).toNat / 8 ^ p % 8
  (((if s.idle p then 0 else 1) * 8 + (7 - rank)) * 8 + chanKind c) * 1024 + (1023 - chanPort c)

/-- The channel to shed next among `l`. -/
def State.firstToShed (s : State) : List Nat → Option Nat
  | [] => none
  | c :: l => match s.firstToShed l with
    | none => some c
    | some d => if s.shedKey c ≤ s.shedKey d then some c else some d

def State.nextShed (s : State) : Option Nat :=
  s.firstToShed (allChans.filter (fun c => s.chanOn c && !s.chanShed c && !s.chanDark c))

/-- A channel is shed (R618). -/
def State.shedChan (s : State) (c : Nat) : State :=
  let n := chanPort c
  let s := match chanKind c with
    | 0 => (s.monStop n).flag (chanPage c) (fldShed c)
    | 4 => (s.flag (chanPage c) (fldShed c)).flxRamp n 0
    | 5 => s.biasShed n
    | _ => s.flag (chanPage c) (fldShed c)
  let s := { s with pwr.shed := c :: s.pwr.shed }
  (s.bump Page.pwr F.PWR_SHEDS).flag Page.pwr F.PWR_EVENTS_SHED

/-- A shed channel returns (R619). -/
def State.unshedChan (s : State) (c : Nat) : State :=
  let n := chanPort c
  let s := match chanKind c with
    | 4 => let s := s.unflag (chanPage c) (fldShed c); if s.flxActive n then s.flxRamp n (256 * s.park n) else s
    | 5 => s.biasUnshed n
    | _ => s.unflag (chanPage c) (fldShed c)
  let s := { s with pwr.shed := s.pwr.shed.filter (· ≠ c) }
  (s.bump Page.pwr F.PWR_RESTORES).flag Page.pwr F.PWR_EVENTS_RESTORED

/-- Enable channel `c` for a command that the governor has admitted: what its kind does then. -/
def State.enableChan (s : State) (c : Nat) : State :=
  let n := chanPort c
  match chanKind c with
  | 4 => let s := s.flag (chanPage c) (fldEnable c)
         if s.flxActive n then s.flxRamp n (256 * s.park n) else s
  | 5 => s.biasEnable n
  | _ => s.flag (chanPage c) (fldEnable c)
/-- Clear the enable of channel `c`. -/
def State.disableChan (s : State) (c : Nat) : State :=
  let n := chanPort c
  match chanKind c with
  | 0 => (s.monStop n).unflag (chanPage c) (fldEnable c)
  | 4 => (s.unflag (chanPage c) (fldEnable c)).flxRamp n 0
  | 5 => s.biasDisable n
  | _ => s.unflag (chanPage c) (fldEnable c)

/-- An enable field is written: set (and admitted), cleared, or unchanged. -/
def State.writeEnable (s : State) (c v : Nat) : State :=
  if v = s.g (chanPage c) (fldEnable c) then s
  else if v = 0 then s.disableChan c
  else if s.admits c then s.enableChan c
  else s.refuseEnable c

/-- The module state of R28 has changed: a STATE_MODULE entry (R621), and the events 653 and 654 of R547. -/
def State.settleMode (s : State) : State :=
  let n := s.modeNum
  let o := s.pwr.last
  if n = o then s
  else
    let s := { s with pwr.last := n }
    let s := s.logIt Cause.stateModule 0 (gid 4 2047) (o + 16 * n)
    if n = 2 then s.publishSrc 653 else if n = 5 then s.publishSrc 654 else s

end Sys2Proof.Machine
end

