-- ==== Sys2Proof/Machine/DecOps.lean ====
section
/-!
DEFINITION. Machine/DecOps.lean: the decision engine: condition flags and Pauli toggles (R302, R303), table
entries and their actions (R294 to R299), gather units (R290 to R293), syndromes (R309 to R313), and the
Comet pairs (R304 to R308). Also the marks of a partition's shot in flight (R695).
-/

namespace Sys2Proof.Machine
open Sys2Proof

/-! ### Marks (R270, R695) -/

/-- Set bit `b` in a number. -/
def setBit (n b : Nat) : Nat := if n / 2 ^ b % 2 = 1 then n else n + 2 ^ b

/-- Mark the last shot of a list, with `n` more stall ticks. -/
def markLast (b n : Nat) : List Shot → List Shot
  | [] => []
  | [x] => [{ x with marks := setBit x.marks b, stall := min (x.stall + n) 0xFFFFFFFF }]
  | x :: l => x :: markLast b n l

/-- Set mark `b` on the shot in flight of partition `p`, or on its next shot (R695), with `n` stall ticks (R168). -/
def State.markAdd (s : State) (p b n : Nat) : State :=
  let x := s.prt p
  if x.inShot then s.setPrt p { x with marks := setBit x.marks b, stall := min (x.stall + n) 0xFFFFFFFF }
  else if x.asm ≠ [] then s.setPrt p { x with asm := markLast b n x.asm }
  else if s.running p then s.setPrt p { x with marks := setBit x.marks b, stall := min (x.stall + n) 0xFFFFFFFF }
  else s
def State.mark (s : State) (p b : Nat) : State := s.markAdd p b 0

/-! ### Flags and frames -/

/-- Places in the order in which the raises of one tick are applied (R302): direct lookups in tone order, gather lookups in
unit order, the chain port, received Comets. -/
def rankGather : Nat := 1024
def rankChain : Nat := 2048
def rankComet : Nat := 2049

/-- Raise condition flag `n` of sequencer `q` (R233), at place `rank` of R302: of the raises of one tick the last in that order
gives VALUE. -/
def State.raiseFlag (s : State) (q n rank : Nat) (v : Bool) : State :=
  let x := s.sqs q
  let e := s.tk (s.seqOwner q)
  let by_ := x.cfBy.get (0, 0) n
  let late : Bool := x.set.getLsbD n && by_.1 = e && rank < by_.2
  let s := s.when (x.set.getLsbD n = true) (·.flag (Page.seq q) F.SEQ_FLAGS_COND_OVERWRITE)
  let m := BitVec.ofNat 16 (2 ^ n)
  s.setSq q { x with
    set := x.set ||| m
    value := if late then x.value else if v then x.value ||| m else x.value &&& ~~~ m
    -- the tick on which the flag became SET
    cfAt := if x.set.getLsbD n then x.cfAt else x.cfAt.set 0 n e
    cfBy := if late then x.cfBy else x.cfBy.set (0, 0) n (e, rank) }

/-- Toggle the Pauli bits of local frame `f` (R303): bit 0 of `xz` X, bit 1 Z. -/
def State.toggle (s : State) (f xz : Nat) : State :=
  let s := if xz % 2 = 1 then { s with dec.x := s.dec.x.set false f (!s.dec.x.get false f) } else s
  if xz / 2 % 2 = 1 then { s with dec.z := s.dec.z.set false f (!s.dec.z.get false f) } else s

/-- The Pauli row of frame `f`: bit 0 X, bit 1 Z. -/
def State.pauliRow (s : State) (f : Nat) : Nat :=
  (if s.dec.x.get false f then 1 else 0) + (if s.dec.z.get false f then 2 else 0)

/-- A skipped action (R296). -/
def State.badAction (s : State) : State := s.bump Page.dec F.DEC_BAD_ACTIONS

/-- A flag action on behalf of partition `p` (R296). -/
def State.actFlag (s : State) (p q n rank : Nat) (v : Bool) : State :=
  if q < 160 ∧ s.seqOwner q = p then s.raiseFlag q n rank v else s.badAction
/-- A Pauli action on behalf of partition `p`. -/
def State.actPauli (s : State) (p f xz : Nat) : State :=
  if xz = 0 then s else if s.frameOwner f = p then s.toggle f xz else s.badAction

/-! ### Comet messages -/

/-- Number of the pair of partition `p` and peer node `n`. -/
def pairKey (p n : Nat) : Nat := p * 64 + n

/-- Fields of a Comet message (R304). -/
def cmPart (w : W64) : Nat := w.toNat % 8
def cmEpoch (w : W64) : Nat := w.toNat / 2 ^ 3 % 16
def cmSeq (w : W64) : Nat := w.toNat / 2 ^ 7 % 4096
def cmSrc (w : W64) : Nat := w.toNat / 2 ^ 19 % 64
def cmTwin (w : W64) : Nat := w.toNat / 2 ^ 25 % 2
def cmKind (w : W64) : Nat := w.toNat / 2 ^ 32 % 4
def cmArg (w : W64) : Nat := w.toNat / 2 ^ 34 % 8192
def cmStamp (w : W64) : Nat := w.toNat / 2 ^ 47

/-- The message of R304 with the sender's fields filled in. -/
def State.cometWord (s : State) (p node kind arg seq : Nat) : W64 :=
  BitVec.ofNat 64 (p + s.epoch p * 2 ^ 3 + seq % 4096 * 2 ^ 7 + s.node * 2 ^ 19 + s.myTwin * 2 ^ 25
    + node * 2 ^ 26 + kind * 2 ^ 32 + arg * 2 ^ 34 + s.tk p % 2 ^ 17 * 2 ^ 47)

/-- Send one message of a pair whose window has room (R306). A standby only advances (R314). -/
def State.cometEmit (s : State) (p node kind arg : Nat) : State :=
  let k := pairKey p node
  let x := s.pair k
  let w := s.cometWord p node kind arg x.next
  let s := s.setPair k { x with next := (x.next + 1) % 4096,
                                lastAck := if x.next = x.acked then s.now / 16 else x.lastAck }
  let s := s.bump64 Page.dec F.DEC_COMET_SENT_LO
  if s.speaks then s.fabSend 1 node 3 [w] else s

/-- Whether a pair's window is full (R306). -/
def Pair.full (x : Pair) : Bool := 2048 ≤ (x.next + 4096 - x.acked) % 4096

/-- Send a Comet message, or let it wait (R306). -/
def State.cometSend (s : State) (p node kind arg : Nat) : State :=
  let k := pairKey p node
  let x := s.pair k
  if x.full ∨ x.wait ≠ [] then
    (s.setPair k { x with wait := x.wait ++ [BitVec.ofNat 64 (kind + 4 * arg)] }).bump Page.dec F.DEC_COMET_WINDOW_STALLS
  else s.cometEmit p node kind arg

/-- Messages that wait leave as the window frees. -/
def State.cometDrain (s : State) (p node : Nat) : Nat → State
  | 0 => s
  | n + 1 =>
    let k := pairKey p node
    let x := s.pair k
    match x.wait with
    | [] => s
    | w :: l =>
      if x.full then s
      else ((s.setPair k { x with wait := l }).cometEmit p node (w.toNat % 4) (w.toNat / 4)).cometDrain p node n

/-- Every pair of partition `p` restarts at 0 (R305). -/
def State.pairsRestart (s : State) (p : Nat) : State :=
  forEach (List.range 64) s (fun s n => s.setPair (pairKey p n) Pair.zero)

/-- The partner's TWINS bit. -/
def State.partnerBit (s : State) : Nat := if s.myTwin = 0 then 2 else 1
/-- Words of the mirror (R490): to the partner, over FP7. -/
def State.mirror (s : State) (ws : List W64) : State := s.fabQueue 7 ⟨7, s.node, s.partnerBit, ws, s.now / 16⟩
/-- HEARTBEAT, FAIL and TAKEN also go through the fabric when another route exists. -/
def State.mirrorAll (s : State) (ws : List W64) : State :=
  let s := s.mirror ws
  match s.routeTo s.node (1 - s.myTwin) with
  | some p => if p = 7 then s else s.fabQueue p ⟨7, s.node, s.partnerBit, ws, s.now / 16⟩
  | none => s
def State.mirrorWord (s : State) (mtype p rest : Nat) : W64 :=
  BitVec.ofNat 64 (mtype + p * 2 ^ 4 + s.epoch p * 2 ^ 7 + rest * 2 ^ 11)

/-- Perform the action of a message (R307). -/
def State.cometAct (s : State) (w : W64) : State :=
  let p := cmPart w
  let a := cmArg w
  match cmKind w with
  | 0 => s.actFlag p (a % 256) (a / 256 % 16) rankComet (a / 4096 % 2 = 1)
  | 1 => s.actPauli p (a % 1024) (a / 1024 % 4)
  | _ => s.badAction

/-- A message is applied: it is next in its pair (R307). -/
def State.cometTake (s : State) (w : W64) : State :=
  let p := cmPart w
  let k := pairKey p (cmSrc w)
  let x := s.pair k
  let age := (s.tk p + 2 ^ 17 - cmStamp w) % 2 ^ 17
  let s := s.setPair k { x with expected := (cmSeq w + 1) % 4096, unacked := x.unacked + 1,
                                since := if x.unacked = 0 then s.now / 16 else x.since }
  let s := s.bump64 Page.dec F.DEC_COMET_APPLIED_LO
  let s := s.when (s.g Page.dec F.DEC_COMET_MAX_HOP < age) (·.p Page.dec F.DEC_COMET_MAX_HOP age)
  let s := s.when (s.twinState = 3) (fun s => s.mirror
    [s.mirrorWord 1 p (cmSrc w + cmTwin w * 2 ^ 6 + cmSeq w * 2 ^ 7 + s.tk p % 2 ^ 34 * 2 ^ 19)])
  s.cometAct w

/-- A loss report (R308). -/
def State.cometLoss (s : State) (p node twin first d : Nat) : State :=
  let s := s.bump Page.dec F.DEC_COMET_LOST d
  let s := s.logIt Cause.cometLost p (gid 11 2047) (p + node * 2 ^ 3 + twin * 2 ^ 9 + first * 2 ^ 10 + d * 2 ^ 22)
  s.mark p 15

/-- An arriving message, by the first matching row of R307. -/
def State.cometIn (s : State) (w : W64) : State :=
  let p := cmPart w
  if 5 ≤ p ∨ s.idle p ∨ cmEpoch w ≠ s.epoch p then s.bump Page.dec F.DEC_COMET_STALE
  else if 16384 < (s.tk p + 2 ^ 17 - cmStamp w) % 2 ^ 17 then s.bump Page.dec F.DEC_COMET_STALE
  else
    let x := s.pair (pairKey p (cmSrc w))
    let d := (cmSeq w + 4096 - x.expected) % 4096
    if 2048 ≤ d then s.bump Page.dec F.DEC_COMET_DUPLICATES
    else
      let s := s.when (d ≠ 0) (·.cometLoss p (cmSrc w) (cmTwin w) x.expected d)
      s.cometTake w

/-! ### Entries (R294 to R299) -/

/-- Bits `hi` to `lo` of an entry. -/
def entF (e : BitVec 128) (hi lo : Nat) : Nat := e.toNat / 2 ^ lo % 2 ^ (hi + 1 - lo)

/-- Whether an entry has a reserved bit set, or bit 12 of the argument of a PAULI Comet (R296, R300). -/
def entBad (e : BitVec 128) : Bool :=
  entF e 2 2 = 1 || entF e 127 122 ≠ 0
    || (entF e 64 64 = 1 && entF e 71 71 = 1 && entF e 84 84 = 1)
    || (entF e 85 85 = 1 && entF e 92 92 = 1 && entF e 105 105 = 1)

/-- Perform entry `e` for partition `p`, `d` links deep, at place `rank` of R302 (R295 to R297). -/
def State.perform (s : State) (p : Nat) (e : BitVec 128) (d rank : Nat) : State :=
  let s := s.bump64 Page.dec F.DEC_LOOKUPS_LO
  if entF e 0 0 = 0 then s.bump Page.dec F.DEC_EMPTY_HITS
  else
    let s := s.when (entF e 4 4 = 1) (·.actFlag p (entF e 12 5) (entF e 16 13) rank (entF e 17 17 = 1))
    let s := s.when (entF e 18 18 = 1) (·.actFlag p (entF e 26 19) (entF e 30 27) rank (entF e 31 31 = 1))
    let s := s.actPauli p (entF e 41 32) (entF e 43 42)
    let s := s.actPauli p (entF e 53 44) (entF e 55 54)
    let s := s.when (entF e 64 64 = 1) (·.cometSend p (entF e 70 65) (entF e 71 71) (entF e 84 72))
    let s := s.when (entF e 85 85 = 1) (·.cometSend p (entF e 91 86) (entF e 92 92) (entF e 105 93))
    let s := s.when (entF e 3 3 = 1) (fun s =>
      if s.evOwner (entF e 63 56) = p then s.publish p (entF e 63 56) else s.badAction)
    if entF e 1 1 = 0 then s
    else if 16 ≤ d then s.badAction
    else { s with dec.chain := s.dec.chain ++ [(entF e 121 106, d + 1, p)] }

def State.entry (s : State) (k : Nat) : BitVec 128 := s.dec.tab.get 0 k

/-- The first word of entry `k` that reads as uncorrectable. -/
def State.entryEcc (s : State) (k : Nat) : Option Nat :=
  if s.dec.bad.get false (2 * k) then some (2 * k)
  else if s.dec.bad.get false (2 * k + 1) then some (2 * k + 1) else none

/-- Entry `k` is read for partition `p`, `d` links deep, and performed. One that reads as uncorrectable performs nothing,
and marks the partition's shot (R301); the row handles the error itself by R413. -/
def State.readEntry (s : State) (p k d rank : Nat) : State :=
  match s.entryEcc k with
  | none => s.perform p (s.entry k) d rank
  | some w =>
    let s := ((s.bump64 Page.dec F.DEC_LOOKUPS_LO).flag Page.dec F.DEC_STATUS_TABLE_ECC).mark p 9
    { s with dec.ecc := s.dec.ecc ++ [(p, w)] }

/-- The first number of a list that belongs to partition `p`. -/
def firstOwn (p : Nat) (l : List Nat) : Option Nat := l.find? (fun x => x / 65536 = p)

/-- Lookups of partition `p` by the standby's own outcomes and by the active are compared in order; each difference
counts (R314). -/
def State.compareOwn (s : State) (p : Nat) : State :=
  match firstOwn p s.dec.own, firstOwn p s.dec.act with
  | some a, some b =>
    let s := { s with dec.own := s.dec.own.erase a, dec.act := s.dec.act.erase b }
    if a = b then s else s.bump Page.dec F.DEC_TWIN_MISMATCHES
  | _, _ => s

/-- A direct or gather lookup (R289, R292): the active member of a pair mirrors it (R490, R491), and the outcomes of a
standby or a joining member drive nothing (R314). -/
def State.lookup (s : State) (p k rank : Nat) : State :=
  if s.twinState = 2 then ({ s with dec.own := s.dec.own ++ [p * 65536 + k] }).compareOwn p
  else if s.twinState ∈ [1, 5] then s
  else
    let s := s.when (s.twinState = 3) (fun s => s.mirror [s.mirrorWord 0 p (k + s.tk p % 2 ^ 36 * 2 ^ 16)])
    s.readEntry p k 0 rank

/-! ### Gather units -/

/-- The member tones of unit `g` (R290). -/
def State.guMembers (s : State) (g : Nat) : List Nat :=
  (List.range 1024).filter (fun t => 2 ≤ s.g (Page.route t) F.DEC_ROUTE_MODE && s.g (Page.route t) F.DEC_ROUTE_GU = g)

/-- Bits that tone `t` contributes, and its value for effective state `e` (R290). -/
def State.guWidth (s : State) (t : Nat) : Nat := if s.on (Page.route t) F.DEC_ROUTE_WIDTH then 2 else 1
def State.guValue (s : State) (t e : Nat) : Nat :=
  if s.on (Page.route t) F.DEC_ROUTE_WIDTH then (if e = 3 then 0 else e)
  else if e = 1 then 1 else if e = 2 then s.g (Page.route t) F.DEC_ROUTE_LEAK_BIT else 0

/-- G with the value of tone `t` put in its place. -/
def State.guPut (s : State) (t e : Nat) (G : W64) : W64 :=
  let pos := s.g (Page.route t) F.DEC_ROUTE_POS
  let m := BitVec.ofNat 64 ((2 ^ s.guWidth t - 1) * 2 ^ pos)
  (G &&& ~~~ m) ||| (BitVec.ofNat 64 (s.guValue t e * 2 ^ pos) &&& m)

/-- Discard partial gathers and clear PREV (R291). -/
def State.guClear (s : State) (g : Nat) : State :=
  s.setGath g { s.gath g with g := 0, got := [], first := 0, done := false, prev := 0 }

/-- WIDTH of a fragment (R309): the highest member bit plus 1. -/
def State.guTop (s : State) (g : Nat) : Nat :=
  (s.guMembers g).foldl (fun n t => max n (s.g (Page.route t) F.DEC_ROUTE_POS + s.guWidth t)) 0

/-- The two words of a fragment (R309). -/
def State.fragment (s : State) (g p round : Nat) (w : W64) : List W64 :=
  let n := s.guTop g
  [BitVec.ofNat 64 (p + s.epoch p * 2 ^ 3 + round * 2 ^ 7 + s.node * 2 ^ 23 + s.myTwin * 2 ^ 29 + g * 2 ^ 30
      + n * 2 ^ 36 + s.tk p % 2 ^ 21 * 2 ^ 43),
   BitVec.ofNat 64 (w.toNat % 2 ^ n)]

/-- A round of unit `g` completes with the word `w` (R309, R310, R313): its number advances, it is outstanding, and its fragment
leaves for the decoder, but from a standby (R314). -/
def State.guRound (s : State) (g : Nat) (w : W64) : State :=
  let pg := Page.gu g
  let p := s.guPart g
  if ¬ s.on pg F.GU_CTRL_SYND then s
  else
    let r := s.g pg F.GU_STATUS_ROUND
    let s := s.p pg F.GU_STATUS_ROUND ((r + 1) % 65536)
    if ¬ s.on Page.dec F.DEC_DECODER_EN then s
    else
      let dl := s.g pg F.GU_DEADLINE_DEADLINE
      let y := s.gath g
      let s := s.setGath g { y with out := y.out ++ [(r, if dl = 0 then 0 else s.tk p + dl)] }
      if s.speaks then
        s.fabSend 3 (s.g Page.dec F.DEC_DECODER_NODE) (if s.on Page.dec F.DEC_DECODER_TWIN then 2 else 1)
          (s.fragment g p r w)
      else s

/-- W of R292 for a word `G` of unit `g`. -/
def State.guWord (s : State) (g : Nat) (G : W64) : W64 :=
  if s.on (Page.gu g) F.GU_CTRL_XOR_PREV then G ^^^ (s.gath g).prev else G

/-- The first key of unit `g`, and the number of its keys (R293). -/
def State.guKeys (s : State) (g : Nat) : Nat × Nat :=
  (512 * s.g (Page.gu g) F.GU_BASE_BASE, 2 ^ s.g (Page.gu g) F.GU_CTRL_KEY_BITS)

/-- Whether the active's LOOKUPs, and not the own outcomes, drive unit `g` of a standby or a joining member (R314). -/
def State.guFollows (s : State) (g : Nat) : Bool := s.twinState ∈ [1, 2] && s.on (Page.gu g) F.GU_CTRL_LOOKUP

/-- A unit completes with the word `G` (R292). On a standby it is only compared, and kept for the active's LOOKUP. -/
def State.guComplete (s : State) (g : Nat) (G : W64) : State :=
  let x := s.gath g
  let p := s.guPart g
  let w := s.guWord g G
  let k := s.guKeys g
  let ask := fun (s : State) => s.when (s.on (Page.gu g) F.GU_CTRL_LOOKUP = true)
    (·.lookup p (k.1 + w.toNat % k.2) (rankGather + g))
  let x := { x with lastAt := some (s.now / 16) }
  if s.guFollows g then
    ask (s.setGath g (if x.ahead = 0 then { x with own := x.own ++ [G] } else { x with ahead := x.ahead - 1 }))
  else (ask (s.setGath g { x with prev := G })).guRound g w

/-- A standby performs the completion that a LOOKUP of the active with key `k` of unit `g` tells it of (R314): the key gives the
bits of W that it holds, and the own outcomes the others. -/
def State.guFollow (s : State) (g k : Nat) : State :=
  let x := s.gath g
  let b := s.guKeys g
  let m : W64 := BitVec.ofNat 64 (b.2 - 1)
  let low : W64 := BitVec.ofNat 64 (k - b.1)
  let own := x.own.headD x.g
  let G := (own &&& ~~~ m) ||| ((if s.on (Page.gu g) F.GU_CTRL_XOR_PREV then low ^^^ x.prev else low) &&& m)
  let w := s.guWord g G
  (s.setGath g { x with prev := G, own := x.own.drop 1, ahead := if x.own = [] then x.ahead + 1 else x.ahead }).guRound g w

/-- The unit, if any, to whose keys `k` belongs. -/
def State.keyUnit (s : State) (k : Nat) : Option Nat :=
  if k < 4096 then none
  else (List.range 64).find? (fun g => s.on (Page.gu g) F.GU_CTRL_EN && inWin (s.guKeys g) k)

/-- The gather of unit `g` falls due (R291): its word is kept for the completion, and what members deliver from now on counts
toward the next one (R298). While 32,768 rounds are outstanding it waits, and its members go on accumulating (R310). -/
def State.guDue (s : State) (g : Nat) : State :=
  let x := s.gath g
  if s.on (Page.gu g) F.GU_CTRL_SYND ∧ 32768 ≤ x.out.length then
    if x.done then s else (s.setGath g { x with done := true }).bump Page.dec F.DEC_SYND_STALLS
  else s.setGath g { x with g := 0, got := [], first := 0, done := false, due := x.due ++ [x.g] }

/-- The oldest completion of unit `g` that has fallen due takes place, 2 ns after the one before it at the earliest (R298). -/
def State.guServe (s : State) (g : Nat) : State :=
  let x := s.gath g
  match x.due with
  | [] => s
  | G :: l =>
    if x.lastAt.any (fun t => decide (s.now / 16 < t + 2)) then s
    else (s.setGath g { x with due := l }).guComplete g G

/-- Every member of unit `g` has delivered. -/
def State.guFull (s : State) (g : Nat) : Bool := (s.guMembers g).all (fun t => decide (t ∈ (s.gath g).got))

/-- Tone `t` delivers effective state `e` to unit `g` (R290, R291). -/
def State.guDeliver (s : State) (g t e : Nat) : State :=
  if ¬ s.on (Page.gu g) F.GU_CTRL_EN then s
  else
    let x := s.gath g
    let s := s.when (t ∈ x.got ∧ ¬ s.guFollows g) (·.bump Page.dec F.DEC_GATHER_OVERWRITES)
    let s := s.setGath g { x with
      g := s.guPut t e x.g
      got := if t ∈ x.got then x.got else x.got ++ [t]
      first := if x.got = [] then s.tk (s.guPart g) else x.first }
    if s.guFull g then s.guDue g else s

/-- Request entry `k` through the chain port (R297, R313). -/
def State.chainAsk (s : State) (k p : Nat) : State := { s with dec.chain := s.dec.chain ++ [(k, 0, p)] }

/-- Whether entry `k` belongs to partition `p` by R299. -/
def State.ownsKey (s : State) (p k : Nat) : Bool := s.keyOwner k = some p

/-- Banks of unit `g`: the first and the one after the last (R293). -/
def State.guBanks (s : State) (g : Nat) : Nat × Nat :=
  let b := s.g (Page.gu g) F.GU_BASE_BASE
  (b, b + (2 ^ s.g (Page.gu g) F.GU_CTRL_KEY_BITS + 511) / 512)

/-- The refusals of R293 for arming partition `p`: whether an enabled unit of it is at fault. -/
def State.guArmBad (s : State) (p : Nat) : Bool :=
  let en := (List.range 64).filter (fun g => s.on (Page.gu g) F.GU_CTRL_EN)
  en.any (fun g =>
    s.guPart g = p &&
    (let b := s.guBanks g
     let ms := s.guMembers g
     let bits := fun t => (s.g (Page.route t) F.DEC_ROUTE_POS, s.guWidth t)
     decide (65536 < 512 * s.g (Page.gu g) F.GU_BASE_BASE + 2 ^ s.g (Page.gu g) F.GU_CTRL_KEY_BITS)
     || en.any (fun h => h ≠ g && (let c := s.guBanks h; decide (b.1 < c.2) && decide (c.1 < b.2)))
     || ms.any (fun t => s.toneOwner t ≠ p)
     || ms.any (fun t => decide (64 < (bits t).1 + (bits t).2)
          || ms.any (fun u => u ≠ t && decide ((bits t).1 < (bits u).1 + (bits u).2) && decide ((bits u).1 < (bits t).1 + (bits t).2)))
     || (s.on (Page.gu g) F.GU_CTRL_DONE_EN && !s.ownsKey p (s.g (Page.gu g) F.GU_ENTRIES_DONE_ENTRY))
     || (s.on (Page.gu g) F.GU_CTRL_LATE_EN && !s.ownsKey p (s.g (Page.gu g) F.GU_ENTRIES_LATE_ENTRY))))

/-- The engine's part of the run-start cut (R291, R303, R309). -/
def State.decCut (s : State) (p : Nat) : State :=
  let s := forEach ((List.range 1024).filter (fun f => s.frameOwner f = p && (s.dec.x.get false f || s.dec.z.get false f))) s
    (fun s f => { s with dec.x := s.dec.x.set false f false, dec.z := s.dec.z.set false f false })
  forEach ((List.range 64).filter (fun g => s.guPart g = p)) s (fun s g =>
    let s := s.guClear g
    (s.setGath g { s.gath g with out := [], due := [], own := [], ahead := 0 }).p (Page.gu g) F.GU_STATUS_ROUND 0)

/-- The engine's part of a SHOT_START release (R291). -/
def State.decShot (s : State) (p : Nat) : State :=
  forEach ((List.range 64).filter (fun g => s.guPart g = p && s.on (Page.gu g) F.GU_CTRL_CLEAR_AT_SHOT)) s State.guClear

end Sys2Proof.Machine
end

