-- ==== Sys2Proof/Machine/RdoOps.lean ====
section
/-!
DEFINITION. Machine/RdoOps.lean: integration windows, the demodulator, the matched filter, the discriminator
and its outcomes (R247 to R267), result records and their rings (R268 to R275).
-/

namespace Sys2Proof.Machine
open Sys2Proof

/-- The acquisition input, and the probe output, of tone `t`. -/
def toneInput (t : Nat) : Nat := t / 32
/-- Oscillator and lane of tone `t`. -/
def toneLane (t : Nat) : Nat := 1024 + t

def State.win (s : State) (t : Nat) : Option Win := s.rdo.win.get none t
def State.setWin (s : State) (t : Nat) (w : Option Win) : State := { s with rdo.win := s.rdo.win.set none t w }

/-- The channel that a frequency word selects (R255). -/
def toneChannel (f : Nat) : Nat := (f + 2 ^ 41) / 2 ^ 42 % 32
/-- Whether a frequency word lies outside 4.0 to 8.0 GHz (R255). -/
def freqOob (f : Nat) : Bool := f < 2 ^ 46 || 2 ^ 47 < f

/-! ### Windows (R258, R259, R279) -/

/-- The first channelizer stamp at or after `t`. -/
def nextStamp (t : Nat) : Nat := (t + 31) / 32 * 32
/-- The stamp of the last sample of a window at its declared end (R258). -/
def Win.endAt (w : Win) : Nat := w.topen + 32 * (w.len - 1)

/-- The input of tone `t` is DARK, shed or not enabled (R267 cause 7). -/
def State.adcDark (s : State) (m : Nat) : Bool :=
  !s.on (Page.rdo m) F.RDO_ADC_CTRL_ENABLE || s.on (Page.rdo m) F.RDO_ADC_STATUS_DARK
    || s.on (Page.rdo m) F.RDO_ADC_STATUS_SHED

/-- ACQUIRE opens a window of `len` samples on tone `t` at timeline tick `τ` of its partition (R258, R259). -/
def State.openWin (s : State) (t τ len : Nat) (early : Bool) : State :=
  let p := s.toneOwner t
  let pg := Page.tone t
  let topen := nextStamp (16 * τ)
  let n := s.rdo.idx.get 0 t
  let s := { s with rdo.idx := s.rdo.idx.set 0 t (n + 1) }
  let bad : Bool := topen < s.rdo.swapTo.get 0 (toneInput t)
  let s := s.when (bad = true) (·.mark p 9)
  let s := s.setWin t (some {
    topen := topen, len := len, early := early
    base := s.g pg F.TONE_KERNEL_BASE, hold := s.g pg F.TONE_KERNEL_HOLD_EXP, klen := s.g pg F.TONE_KERNEL_KLEN
    index := min n 63, inShot := (s.prt p).inShot, bad := bad, kernOld := [] })
  let s := s.flag pg F.TONE_STATUS_WIN_OPEN
  s.when (freqOob ((s.osc (toneLane t)).at topen).1 = true) (·.flag pg F.TONE_STATUS_FREQ_OOB)

/-! ### The ADC and the channelizer (R253 to R256) -/

/-- The count of domain `p` that the module count `w` stands for (R50). -/
def State.stampOf (s : State) (p w : Nat) : Nat := (BitVec.ofNat 64 w + (s.tim.doms.get Dom.zero p).off).toNat

/-- The codes that the ADC of input `m` has given, with their stamps in the time of the input's partition; others are 0. -/
def State.adcCodes (s : State) (m : Nat) : List AdcCode :=
  (s.rdo.adc.get [] m).map (fun (e : AdcCode) => (s.stampOf (s.owner (128 + m)) e.1, e.2))

/-- Whether a code is a clip (R254). -/
def isClip (v : Int) : Bool := v = -2048 || v = 2047

/-- Codes that come from the ADC of input `m`, up to the present: they are kept, and clips counted (R253, R254). An input
that is DARK, shed or not enabled gives none. -/
def State.adcTake (s : State) (m : Nat) (l : List AdcCode) : State :=
  if s.adcDark m then s
  else
    let l := (l.filter (fun e => decide (e.1 % 2 = 0) && decide (s.rdo.adcTo.get 0 m ≤ e.1) && decide (e.1 ≤ s.now))).map
      (fun e => (e.1, sat 12 e.2))
    let n := (l.filter (fun e : AdcCode => isClip e.2)).length
    let s := { s with
      rdo.adc := s.rdo.adc.set [] m (s.rdo.adc.get [] m ++ l.filter (fun e : AdcCode => e.2 ≠ 0))
      rdo.adcTo := s.rdo.adcTo.set 0 m (s.now + 1) }
    s.when (n ≠ 0) (fun s => (s.bump (Page.rdo m) F.RDO_ADC_CLIPS n).flag (Page.rdo m) F.RDO_ADC_STATUS_CLIPPED)

/-- The filter's sum for channel `c` at stamp `T` (R256). -/
def chanSum (c T : Nat) : List AdcCode → IQ
  | [] => (0, 0)
  | (t, v) :: l =>
    let r := chanSum c T l
    let h := Config.chanTap c ((t : Int) - T)
    (r.1 + v * h.1, r.2 + v * h.2)

/-- The output of a channel from its sum: the translation by c × 250 MHz is a sign at the stamps of the grid, and each
component saturates to 24 bits (R256). -/
def chanOut (c T : Nat) (l : List AdcCode) : IQ :=
  let r := chanSum c T l
  let sg : Int := if c * (T / 32) % 2 = 1 then -1 else 1
  (sat 24 (rhu (sg * r.1) Config.chanShift), sat 24 (rhu (sg * r.2) Config.chanShift))

/-- Channelizer output u of channel `c` of input `m` at stamp `T`. -/
def State.chanAt (s : State) (m c T : Nat) : IQ := chanOut c T (s.adcCodes m)

/-- The channelizer outputs of the first `n` samples of tone `t` from stamp `T` on: at each, those of the channel that the
tone's frequency selects there (R255). -/
def State.toneIn (s : State) (t T n : Nat) : List IQ :=
  (List.range n).map (fun i => s.chanAt (toneInput t) (toneChannel ((s.osc (toneLane t)).at (T + 32 * i)).1) (T + 32 * i))

/-- Number of a window's samples whose stamps are not after `stamp`. -/
def Win.upTo (w : Win) (stamp : Nat) : Nat := if stamp < w.topen then 0 else min w.len ((stamp - w.topen) / 32 + 1)

/-- A clip lies within the span of a window's first `n` samples (R254). -/
def State.winClip (s : State) (t : Nat) (w : Win) (n : Nat) : Bool :=
  n ≠ 0 && (s.adcCodes (toneInput t)).any (fun e => isClip e.2 && w.topen ≤ e.1 && e.1 ≤ w.topen + 32 * (n - 1))

/-! ### Demodulation and matched filter (R257 to R262) -/

/-- R257: one demodulated sample. -/
def demod (u : IQ) (θ : Nat) : IQ :=
  let cs := cosSin (θ / 2 ^ 28)
  (sat 24 (rhu (u.1 * cs.1 + u.2 * cs.2) 17), sat 24 (rhu (u.2 * cs.1 - u.1 * cs.2) 17))

/-- θ of tone `t` at stamp `T` (R248). -/
def State.theta (s : State) (t T : Nat) : Nat :=
  let o := (s.osc (toneLane t)).at T
  (o.1 * T + o.2 + s.g64 (Page.tone t) F.TONE_DEMOD_PHASE_LO) % 2 ^ 48

/-- The word at address `a` of a store as it stood at stamp `T` of an open window: a later write does not reach it. -/
def Win.wordAt (w : Win) (a T : Nat) (v : BitVec 48) : BitVec 48 :=
  match w.kernOld.find? (fun e => e.2.1 = a && T < e.1) with
  | some e => e.2.2
  | none => v

/-- The weight of sample `n` (R259). -/
def State.weight (s : State) (m : Nat) (w : Win) (n : Nat) : IQ :=
  if w.klen = 0 then (8388607, 0)
  else
    let a := (w.base + min (n / 2 ^ w.hold) (w.klen - 1)) % 32768
    let v := w.wordAt a (w.topen + 32 * n) (s.rdo.kern.get 0 (m * 32768 + a))
    (sext 24 (v.toNat % 2 ^ 24), sext 24 (v.toNat / 2 ^ 24))

/-- Weight `a` of input `m` is overwritten: open windows keep the old word for the samples before (R259). -/
def State.weightSet (s : State) (m a : Nat) (v : BitVec 48) : State :=
  let old := s.rdo.kern.get 0 (m * 32768 + a)
  let s := forEach (((List.range 32).map (32 * m + ·)).filter (fun t => (s.win t).isSome)) s (fun s t =>
    s.setWin t ((s.win t).map (fun w => { w with kernOld := w.kernOld ++ [((s.cnt (s.toneOwner t)).toNat, a, old)] })))
  { s with rdo.kern := s.rdo.kern.set 0 (m * 32768 + a) v }

/-- An accumulator of R260 and R261: its sum, and whether it has left its range. -/
structure Accu where
  i : Int
  q : Int
  oi : Bool
  oq : Bool
  deriving DecidableEq, Repr

/-- One more sample of the filter (R260, R261): an accumulator that left its range holds the limit. -/
def Accu.step (a : Accu) (z w : IQ) : Accu :=
  let i := a.i + (z.1 * w.1 + z.2 * w.2)
  let q := a.q + (z.2 * w.1 - z.1 * w.2)
  { i := if a.oi then a.i else sat 56 i
    oi := a.oi || i ≠ sat 56 i
    q := if a.oq then a.q else sat 56 q
    oq := a.oq || q ≠ sat 56 q }
def Accu.overflowed (a : Accu) : Bool := a.oi || a.oq

/-- s(k) of R262 with shift `n`. -/
def Accu.scaled (a : Accu) (n : Nat) : IQ := (sat 32 (rhu a.i n), sat 32 (rhu a.q n))

/-! ### Discrimination (R263, R264) -/

/-- The constants of a tone's scores. -/
structure Disc where
  a : Nat → IQ
  b : Nat → Int
  beta : Nat → Int
  shift : Nat

def State.disc (s : State) (t : Nat) : Disc :=
  let pg := Page.tone t
  let w := fun o => s.reg (pg + o)
  { a := fun x => (sext 16 (wget (w (0x28 + 4 * x)) 15 0), sext 16 (wget (w (0x28 + 4 * x)) 31 16))
    b := fun x => sext 32 (w (0x34 + 4 * x)).toNat
    beta := fun x => sext 16 (match x with
      | 0 => s.g pg F.TONE_BETA01_BETA0 | 1 => s.g pg F.TONE_BETA01_BETA1 | _ => s.g pg F.TONE_THRESH_BETA2)
    shift := s.g pg F.TONE_CTRL_SHIFT }

/-- Λx(k) of R263. -/
def Disc.score (d : Disc) (sv : IQ) (k x : Nat) : Int :=
  sat 32 (rhu ((d.a x).1 * sv.1 + (d.a x).2 * sv.2) 16 + d.b x + k * d.beta x)

/-- The state with the largest score, the lowest on a tie, and the margin M (R263). -/
def bestOf (l0 l1 l2 : Int) : Nat × Int :=
  if l1 ≤ l0 ∧ l2 ≤ l0 then (0, l0 - max l1 l2)
  else if l2 ≤ l1 then (1, l1 - max l0 l2)
  else (2, l2 - max l0 l1)

/-- State and margin after `k` samples. -/
def Disc.best (d : Disc) (a : Accu) (k : Nat) : Nat × Int :=
  let v := a.scaled d.shift
  bestOf (d.score v k 0) (d.score v k 1) (d.score v k 2)

/-- What a window has come to over samples `u`: the accumulators, and the first sample count from `nmin` on
whose margin reaches `th` (R264). -/
def State.runWin (s : State) (t : Nat) (w : Win) (d : Disc) (test : Bool) (nmin th : Nat) :
    List IQ → Nat → Accu → Accu × Option Nat
  | [], _, a => (a, none)
  | u :: l, n, a =>
    let z := demod u (s.theta t (w.topen + 32 * n))
    let a := a.step z (s.weight (toneInput t) w n)
    if test && !a.overflowed && max nmin 1 ≤ n + 1 && (th : Int) ≤ (d.best a (n + 1)).2 then (a, some (n + 1))
    else s.runWin t w d test nmin th l (n + 1) a

/-- The evaluation of an open window over the channelizer samples `u`. -/
def State.evalWin (s : State) (t : Nat) (w : Win) (u : List IQ) : Accu × Option Nat :=
  let pg := Page.tone t
  let th := s.g pg F.TONE_THRESH_THRESH
  s.runWin t w (s.disc t) (w.early && s.on pg F.TONE_CTRL_EARLY_EN && th ≠ 0) (s.g pg F.TONE_WIN_NMIN) th u 0
    ⟨0, 0, false, false⟩

/-! ### Outcomes and entries (R266, R267, R271) -/

/-- The outcome word of R266. -/
def outcWord (t : Nat) (o : Outc) : Nat :=
  t + o.state * 2 ^ 10 + (if o.early then 2 ^ 12 else 0) + o.cause * 2 ^ 13 + o.index * 2 ^ 16

/-- The entry of a window (R271): `stamp` is its end, `m` the margin, `iq` the final s if it is recorded. -/
def mkEntry (t start stamp : Nat) (o : Outc) (clip : Bool) (m : Int) (iq : Option IQ) : RecEnt :=
  let e := min ((stamp - start) / 16) 0xFFFFFF
  let w := outcWord t o + (if clip then 2 ^ 22 else 0) + (if iq.isSome then 2 ^ 23 else 0) + e * 2 ^ 24
    + (if o.state = 3 then 0 else (min 65535 m).toNat) * 2 ^ 48
  ⟨e, t, BitVec.ofNat 64 w :: (match iq with
    | some v => [BitVec.ofNat 64 ((v.1 % 2 ^ 32).toNat + (v.2 % 2 ^ 32).toNat * 2 ^ 32)]
    | none => [])⟩

/-- A window closes at stamp `stamp` with outcome `o`: it enters its shot's record, it is counted, and its
outcome travels to the decision engine (R266, R268). -/
def State.closeWin (s : State) (t stamp : Nat) (w : Win) (o : Outc) (clip : Bool) (m : Int) (sv : IQ) : State :=
  let p := s.toneOwner t
  let x := s.prt p
  let pg := Page.tone t
  let iq := if s.on pg F.TONE_CTRL_RECORD_IQ ∧ o.state ≠ 3 then some sv else none
  let o := { o with index := w.index, shot := if w.inShot then some (s.g64 (Page.part p) F.PART_SHOT_NUM_LO) else none }
  let s := if w.inShot then s.setPrt p { x with ents := x.ents ++ [mkEntry t x.shotStart stamp o clip m iq] } else s
  let s := s.setWin t none
  let s := (s.bump pg F.TONE_WINDOWS).bump64 (Page.rdo (toneInput t)) F.RDO_WINDOWS_LO
  let s := s.p pg F.TONE_STATUS_LAST_STATE o.state
  let s := s.p pg F.TONE_STATUS_LAST_EARLY (if o.early then 1 else 0)
  let s := s.unflag pg F.TONE_STATUS_WIN_OPEN
  let s := if o.state = 3 then s else
    (s.setReg (pg + 0x54) (BitVec.ofInt 32 sv.1)).setReg (pg + 0x58) (BitVec.ofInt 32 sv.2)
  { s with rdo.outc := s.rdo.outc.set [] t (s.rdo.outc.get [] t ++ [o]) }

/-- The highest cause of R267 that a window has, `c` being the one at hand. -/
def State.winCause (s : State) (t : Nat) (w : Win) (c : Nat) : Nat :=
  if s.adcDark (toneInput t) then 7 else if w.bad then 6 else c

/-- An INVALID outcome. -/
def invalidOut (c : Nat) : Outc := ⟨3, false, c, 0, none⟩

/-- Accumulator overflow of a window (R261). -/
def State.toneOverflow (s : State) (t : Nat) : State :=
  ((s.flag (Page.tone t) F.TONE_STATUS_OVERFLOW).bump (Page.tone t) F.TONE_OVERFLOWS).logIt Cause.overflow
    (s.toneOwner t) (gid 14 t) 0

/-- A window closes at stamp `stamp` with the INVALID outcome of cause `c` after its first `n` samples: an overflow among
them is reported whatever the cause (R261, R267). -/
def State.voidWin (s : State) (t stamp : Nat) (w : Win) (n c : Nat) : State :=
  let ov := (s.evalWin t w (s.toneIn t w.topen n)).1.overflowed
  let clip := s.winClip t w n
  (s.when (ov = true) (·.toneOverflow t)).closeWin t stamp w (invalidOut c) clip 0 (0, 0)

/-- An open window of tone `t` is closed now for cause `c` (R267 causes 2 to 5). -/
def State.cutWin (s : State) (c t : Nat) : State :=
  match s.win t with
  | none => s
  | some w =>
    let stamp := 16 * s.tk (s.toneOwner t)
    s.voidWin t stamp w (w.upTo stamp) (s.winCause t w c)

/-- The tones of which sequencer `q` (RS00–RS31) opens windows. -/
def seqTones (q : Nat) : List Nat := if q < 128 then [] else (List.range 32).map (32 * (q - 128) + ·)
/-- Tones with an open window that partition `p` owns. -/
def State.openTones (s : State) (p : Nat) : List Nat := (s.rdo.win.map (·.1)).filter (fun t => s.toneOwner t = p)

/-- A window reaches its declared end, its samples being `u` (R261, R263, R267). -/
def State.endWin (s : State) (t : Nat) (w : Win) (u : List IQ) : State :=
  let r := s.evalWin t w u
  let c := s.winCause t w (if r.1.overflowed then 1 else 0)
  if c ≠ 0 then s.voidWin t w.endAt w w.len c
  else
    let d := s.disc t
    let b := d.best r.1 u.length
    s.closeWin t w.endAt w ⟨b.1, false, 0, 0, none⟩ (s.winClip t w w.len) b.2 (r.1.scaled d.shift)

/-- A window ends early after its samples `u`, the last of which brings the margin to THRESH (R264, R265). -/
def State.endEarly (s : State) (t : Nat) (w : Win) (u : List IQ) : State :=
  let r := s.evalWin t w u
  let d := s.disc t
  let b := d.best r.1 u.length
  let s := (s.bump (Page.tone t) F.TONE_EARLY).closeWin t (w.topen + 32 * (u.length - 1)) w ⟨b.1, true, 0, 0, none⟩
    (s.winClip t w u.length) b.2 (r.1.scaled d.shift)
  { s with rdo.depl := s.rdo.depl.set 0 t (1 + b.1) }

/-- A window of tone `t` has come to the present: it ends early where R264 says so, and at its declared end if `whole`. One
whose outcome is to be INVALID for a cause of R267 does not end early: it closes at its declared end. -/
def State.windowOf (s : State) (t : Nat) (whole : Bool) : State :=
  match s.win t with
  | none => s
  | some w =>
    let now := (s.cnt (s.toneOwner t)).toNat
    let u := s.toneIn t w.topen (w.upTo now)
    match if s.winCause t w 0 = 0 then (s.evalWin t w u).2 else none with
    | some k => s.endEarly t w (u.take k)
    | none => if whole = true ∧ w.endAt ≤ now then s.endWin t w u else s

/-! ### Rings and records (R268 to R275) -/

/-- Length in bytes of the ring of partition `p` in effect. -/
def State.recLen (s : State) (p : Nat) : Nat := 4096 * s.g (Page.ring p) F.REC_LEN_SIZE
def State.recProd (s : State) (p : Nat) : Nat := s.g (Page.ring p) F.REC_PROD
def State.recCons (s : State) (p : Nat) : Nat := s.g (Page.ring p) F.REC_CONS
def State.recBase (s : State) (p : Nat) : Nat := s.g64 (Page.ring p) F.REC_BASE_LO_BASE_LO

/-- A length is pending and REC_PROD has wrapped under it (R275). -/
def State.wrapHeld (s : State) (p : Nat) : Bool :=
  match s.rdo.lenPend.get none p with
  | some (_, w) => w
  | none => false

/-- The free space of R272; 0 between the wrap and the consumer's arrival with a pending length (R275). -/
def State.recFree (s : State) (p : Nat) : Nat :=
  let n := s.recLen p
  if n = 0 ∨ s.wrapHeld p = true then 0
  else (((s.recCons p : Int) - s.recProd p - 32) % n).toNat

/-- The ring of partition `p` accepts a shot: used, with REC_RESERVE free (R273). -/
def State.recRoom (s : State) (p : Nat) : Bool :=
  s.on (Page.ring p) F.REC_CTRL_ENABLE && 32 * s.g (Page.ring p) F.REC_RESERVE_RESERVE ≤ s.recFree p
/-- A pending length takes effect (R275). -/
def State.recTake (s : State) (p : Nat) : State :=
  match s.rdo.lenPend.get none p with
  | none => s
  | some (n, _) =>
    (({ s with rdo.lenPend := s.rdo.lenPend.set none p none }).p (Page.ring p) F.REC_LEN_SIZE n).unflag
      (Page.ring p) F.REC_STATUS_LENGTH_PENDING

/-- REC_PROD moves to `n`. At offset 0 a pending length waits for the consumer alone, and the free space counts as 0 until it
has come there (R275). -/
def State.recProdTo (s : State) (p n : Nat) : State :=
  let s := s.p (Page.ring p) F.REC_PROD n
  match s.rdo.lenPend.get none p with
  | none => s
  | some (m, _) =>
    if n ≠ 0 then s
    else if s.recCons p = 0 then s.recTake p
    else { s with rdo.lenPend := s.rdo.lenPend.set none p (some (m, true)) }

/-- REC_BASE changes, or ENABLE is set from 0: both offsets return to 0 (R272, R275). -/
def State.recRestart (s : State) (p : Nat) : State :=
  ((s.p (Page.ring p) F.REC_PROD 0).p (Page.ring p) F.REC_CONS 0).recTake p

/-- A length of `n` units of 4 KiB is written (R275). -/
def State.recResize (s : State) (p n : Nat) : State :=
  if s.idle p ∧ s.recProd p < 4096 * n ∧ s.recCons p < 4096 * n then
    (({ s with rdo.lenPend := s.rdo.lenPend.set none p none }).p (Page.ring p) F.REC_LEN_SIZE n).unflag
      (Page.ring p) F.REC_STATUS_LENGTH_PENDING
  else
    ({ s with rdo.lenPend := s.rdo.lenPend.set none p (some (n, s.wrapHeld p)) }).flag (Page.ring p) F.REC_STATUS_LENGTH_PENDING

/-- The host writes REC_CONS (R272, R275). -/
def State.recConsume (s : State) (p v : Nat) : State :=
  if v % 32 ≠ 0 ∨ s.recLen p ≤ v then s.flag (Page.ring p) F.REC_STATUS_BAD_CONS
  else
    let s := s.p (Page.ring p) F.REC_CONS v
    match s.rdo.lenPend.get none p with
    | some (_, true) => if v = 0 then s.recTake p else s
    | _ => s

/-- Entry words of a list of entries. -/
def entWords (l : List RecEnt) : List W64 := l.flatMap (·.words)
/-- LENGTH of a record with these entries (R269). -/
def recBytes (l : List RecEnt) : Nat := 32 + (8 * (entWords l).length + 31) / 32 * 32

/-- Bytes that wait in the record buffer of partition `p` (R274), which holds 64 KiB (R457). -/
def State.recHeld (s : State) (p : Nat) : Nat := ((s.rdo.recs.get [] p).map (fun r => recBytes r.shot.ents)).sum
/-- A record of partition `p` waits for the ring (R274), or the record buffer is full (R457). A record that only waits for the
link or for its turn is none of these. -/
def State.recWaits (s : State) (p : Nat) : Bool :=
  (s.rdo.recs.get [] p ≠ [] && s.recFree p < 32) || 65536 ≤ s.recHeld p
/-- Both conditions of R273. -/
def State.recReady (s : State) (p : Nat) : Bool := s.recRoom p && !s.recWaits p

/-- Ring space that a record of `n` bytes takes at offset `prod` of a ring of `len` bytes, a pad included. -/
def recNeed (len prod n : Nat) : Nat := if prod + n ≤ len then n else len - prod + n

/-- The entries that fit, dropping from the end (R274). -/
def recFit (len prod free : Nat) : List RecEnt → Nat → List RecEnt
  | l, 0 => l
  | l, n + 1 =>
    if l = [] ∨ ((entWords l).length ≤ 65535 ∧ recNeed len prod (recBytes l) ≤ free) then l
    else recFit len prod free (l.take (l.length - 1)) n

/-- Whether an entry's outcome is INVALID. -/
def RecEnt.invalid (e : RecEnt) : Bool := (e.words.getD 0 0).toNat / 2 ^ 10 % 4 = 3

/-- The bytes of a record with entries `l` (R269). -/
def Record.bytes (r : Record) (p : Nat) (l : List RecEnt) (trunc : Bool) : List Byte :=
  let marks := if l.any RecEnt.invalid then setBit r.shot.marks 11 else r.shot.marks
  let marks := if trunc then setBit marks 12 else marks
  let ws := entWords l
  leBytes 4 (0x7A51 + p * 2 ^ 20 + r.twin * 2 ^ 23 + r.node * 2 ^ 24) ++ leBytes 4 (recBytes l)
    ++ leBytes 8 (r.shot.num % 2 ^ 48 + ws.length * 2 ^ 48) ++ leBytes 4 marks
    ++ leBytes 4 (min r.shot.stall 0xFFFFFFFF) ++ leBytes 8 r.shot.start
    ++ ws.flatMap (fun w => leBytes 8 w.toNat)
    ++ List.replicate (recBytes l - 32 - 8 * ws.length) 0

/-- A pad header of `n` bytes (R269, R272). -/
def State.padBytes (s : State) (p n : Nat) : List Byte :=
  leBytes 4 (0x7A51 + 2 ^ 16 + p * 2 ^ 20 + s.myTwin * 2 ^ 23 + s.node * 2 ^ 24) ++ leBytes 4 n ++ List.replicate 24 0

/-- A pad fills the ring of partition `p` from the producer offset to its end (R272). -/
def State.recPad (s : State) (p : Nat) : State :=
  let n := s.recLen p - s.recProd p
  (s.hostWrite (s.recBase p + s.recProd p) (s.padBytes p n)).recProdTo p 0

/-- Record `r` is written at the producer offset with its first entries `l`. -/
def State.recPut (s : State) (p : Nat) (r : Record) (l : List RecEnt) : State :=
  let trunc : Bool := l.length < r.shot.ents.length
  let n := s.recProd p + recBytes l
  let s := { s with rdo.recs := s.rdo.recs.set [] p ((s.rdo.recs.get [] p).drop 1) }
  let s := s.when (trunc = true) (·.bump (Page.ring p) F.REC_TRUNCATED)
  let s := s.hostWrite (s.recBase p + s.recProd p) (r.bytes p l trunc)
  s.recProdTo p (if n = s.recLen p then 0 else n)

/-- The oldest waiting record of partition `p` is written if its header fits (R272, R274), after a pad where it would cross
the ring's end. Under a pending length the pad ends what the free space admits (R275): the record follows later. -/
def State.recWrite (s : State) (p : Nat) : State :=
  match s.rdo.recs.get [] p with
  | [] => s
  | r :: _ =>
    let len := s.recLen p
    let l := recFit len (s.recProd p) (s.recFree p) r.shot.ents (r.shot.ents.length + 1)
    if s.recFree p < recNeed len (s.recProd p) (recBytes l) then s
    else if s.recProd p + recBytes l ≤ len then s.recPut p r l
    else if (s.rdo.lenPend.get none p).isSome then s.recPad p
    else (s.recPad p).recPut p r l

/-- Entries ordered by END, and then by TONE (R271). -/
def entIns (e : RecEnt) : List RecEnt → List RecEnt
  | [] => [e]
  | f :: l => if e.end_ < f.end_ ∨ (e.end_ = f.end_ ∧ e.tone < f.tone) then e :: f :: l else f :: entIns e l
def entSort : List RecEnt → List RecEnt
  | [] => []
  | e :: l => entIns e (entSort l)

/-- Outcomes of shot `n` of partition `p` have yet to be delivered. -/
def State.outcDue (s : State) (p n : Nat) : Bool :=
  s.rdo.outc.any (fun x => s.toneOwner x.1 = p && x.2.any (fun o => o.shot = some n))

/-- The oldest shot of partition `p` that waits is assembled (R268). -/
def State.assemble (s : State) (p : Nat) : State :=
  let x := s.prt p
  match x.asm with
  | [] => s
  | sh :: rest =>
    if s.outcDue p sh.num then s
    else
      let s := s.setPrt p { x with asm := rest }
      let r : Record := ⟨{ sh with ents := entSort sh.ents }, s.myTwin, s.node⟩
      if s.speaks then { s with rdo.recs := s.rdo.recs.set [] p (s.rdo.recs.get [] p ++ [r]) }
      else { s with fab.withheld := s.fab.withheld ++ [(p, r)] }

end Sys2Proof.Machine
end

