-- ==== Sys2Proof/Machine/Run.lean ====
section
/-!
DEFINITION. Machine/Run.lean: sequencer stores and refills (R179 to R185), region aborts and instruction errors
(R186 to R189, R244), barriers (R174 to R178), shots (R167 to R169, R695), and partitions (R170 to R173, R696).
-/

namespace Sys2Proof.Machine
open Sys2Proof

/-! ### Program store (R179 to R183) -/

/-- Module address of a sequencer's image, and its length in instructions (R201). -/
def State.imgAddr (s : State) (q : Nat) : Nat := s.g64 (Page.seq q) F.SEQ_IMAGE_LO_IMAGE_LO
def State.imgLen (s : State) (q : Nat) : Nat := s.g (Page.seq q) F.SEQ_IMAGE_LEN_IMAGE_LEN

/-- The window of an instruction address. -/
def winOf (a : Nat) : Nat := a / 8192

def Seq.holds (x : Seq) (w : Nat) : Bool := x.a.win = some w || x.b.win = some w
def Seq.filling (x : Seq) (w : Nat) : Bool := x.a.fill = some w || x.b.fill = some w
/-- Inside a region, past its entry. -/
def Seq.inside (x : Seq) : Bool := x.region.isSome && !x.entering
/-- The next window of R181. -/
def Seq.next (x : Seq) : Nat := x.pref.getD (winOf x.pc + 1)

/-- Half `h` (0 A, 1 B) of a sequencer's store. -/
def Seq.half (x : Seq) (h : Nat) : Half := if h = 0 then x.a else x.b
def Seq.setHalf (x : Seq) (h : Nat) (v : Half) : Seq := if h = 0 then { x with a := v } else { x with b := v }
/-- A refill of window `w` into half `h` starts: the half holds nothing until it ends. -/
def Seq.fill (x : Seq) (h w : Nat) : Seq := x.setHalf h ⟨none, some w, false⟩

/-- The instruction word at address `a`, if it is resident. -/
def State.iword (s : State) (q a : Nat) : Option W64 :=
  let x := s.sqs q
  let w := some (winOf a)
  if x.a.win = w then some (s.sqr.store.get 0 (q * 2 * 8192 + a % 8192))
  else if x.b.win = w then some (s.sqr.store.get 0 ((q * 2 + 1) * 8192 + a % 8192))
  else none

/-- The refill of the next window starts where R181 lets it. -/
def State.wantNext (s : State) (q : Nat) : State :=
  let x := s.sqs q
  let cur := winOf x.pc
  let nx := x.next
  if x.inside ∨ s.imgLen q ≤ 8192 * nx ∨ nx = cur ∨ x.holds nx ∨ x.filling nx then s
  else if x.a.win = some cur then (if x.b.fill.isNone then s.setSq q (x.fill 1 nx) else s)
  else if x.b.win = some cur then (if x.a.fill.isNone then s.setSq q (x.fill 0 nx) else s)
  else s

/-- The half into which a missed window goes (R183). -/
def Seq.missHalf (x : Seq) : Nat :=
  let nx := some x.next
  if x.a.win.isNone ∧ x.a.fill.isNone then 0
  else if x.b.win.isNone ∧ x.b.fill.isNone then 1
  else if x.a.fill.isNone ∧ x.a.win ≠ nx then 0
  else if x.b.fill.isNone ∧ x.b.win ≠ nx then 1
  else if x.a.win ≠ nx ∧ x.a.fill.isSome then 0
  else 1

/-- Window `w` becomes the refill target (R183). -/
def State.wantWin (s : State) (q w : Nat) : State :=
  let x := s.sqs q
  if x.holds w ∨ x.filling w then s else s.setSq q (x.fill x.missHalf w)

/-- The words of window `w` as DDR4 holds them, from word `i` on. -/
def State.winWords (s : State) (q w : Nat) : Nat → Nat → List (Nat × W64)
  | _, 0 => []
  | i, n + 1 =>
    (i, BitVec.ofNat 64 (leNat (s.ddrRead (s.imgAddr q + 8 * (8192 * w + i)) 8))) :: s.winWords q w (i + 1) n

/-- Number of words of window `w` that the image has. -/
def State.winLen (s : State) (q w : Nat) : Nat := min 8192 (s.imgLen q - 8192 * w)

/-- Window `w` has come into half `h`. -/
def State.loadWin (s : State) (q h w : Nat) : State :=
  let base := (q * 2 + h) * 8192
  let old := s.sqr.store.filter (fun e => !(base ≤ e.1 && e.1 < base + 8192))
  let s' := { s with sqr.store :=
    (s.winWords q w 0 (s.winLen q w)).foldl (fun (t : Tab W64) (e : Nat × W64) => t.set 0 (base + e.1) e.2) old }
  (s'.setSq q ((s'.sqs q).setHalf h ⟨some w, none, false⟩)).bump (Page.seq q) F.SEQ_REFILLS

/-- Window `w` meets an uncorrectable word (R184). -/
def State.winBad (s : State) (q w : Nat) : Bool := s.ddrBad (s.imgAddr q + 65536 * w) (8 * s.winLen q w)

/-- Every instruction of a region is resident (R188); instructions past the image do not exist. -/
def State.regionWins (s : State) (q : Nat) (r : Region) : List Nat :=
  let last := min (r.start + r.len) (s.imgLen q) - 1
  (List.range (winOf last + 1 - winOf r.start)).map (winOf r.start + ·)
def State.regionReady (s : State) (q : Nat) (r : Region) : Bool := (s.regionWins q r).all (s.sqs q).holds

/-- The PC moves to `a`; the window that the last PREFETCH named is forgotten when the current window changes (R181). -/
def State.goto (s : State) (q a : Nat) : State :=
  let x := s.sqs q
  (s.setSq q { x with pc := a, pref := if winOf a = winOf x.pc then x.pref else none }).wantNext q

/-! ### Partition states (R170) -/

/-- PART_STATE.STATE changes: the change is logged (R583) and raises the partition's source (R520). -/
def State.setPst (s : State) (p v : Nat) : State :=
  let o := s.pst p
  if o = v then s
  else
    let s := s.p (Page.part p) F.PART_STATE_STATE v
    let s := s.logIt Cause.statePartition p (gid 16 (1024 + p)) (o + 16 * v)
    (s.intEdge (832 + p)).settleMode

/-- Commands of partition `p` that wait for a shot which has not started complete with `status` (R443, R451). -/
def State.dropShots (s : State) (p status : Nat) : State :=
  let n := s.g64 (Page.part p) F.PART_SHOT_NUM_LO
  let l := s.hif.slots.filter (fun sl => sl.st = .waiting && sl.p.part = p
    && (match sl.shot with | some k => n < k || (n = k && !(s.prt p).inShot) | none => false))
  s.settleAll (l.map (fun sl => (sl.p.sq, sl.p.tag))) status

/-- A member stops: its pending effects are cancelled and it is idle (R207). -/
def Seq.stop (x : Seq) : Seq :=
  { x with st := 0, eff := [], wc := none, rep := none, seg := none, region := none, entering := false
           hold := false, abortIn := none, left := [], reps := [], testwin := none, winSwaps := [], mark := []
           fetchAt := none, a := { x.a with susp := false }, b := { x.b with susp := false }, vec := false }

/-- A wait for a window ends: its ticks are counted (R183). -/
def State.endFetch (s : State) (q : Nat) : State :=
  match (s.sqs q).fetchAt with
  | none => s
  | some e0 =>
    (s.bump64 (Page.seq q) F.SEQ_FETCH_TICKS_LO (s.tk (s.seqOwner q) - e0)).setSq q { s.sqs q with fetchAt := none }

/-- The partition becomes IDLE: a pending arming ends with `arm`, the commands that wait for IDLE succeed. -/
def State.toIdle (s : State) (p arm : Nat) (shots : Nat := St.boundaryPast) : State :=
  if s.idle p then s
  else
    let s := forEach (s.members p) s (fun s q => let s := s.endFetch q; s.setSq q (s.sqs q).stop)
    let x := s.prt p
    let s := s.setPrt p { Part.init with asm := x.asm }
    let s := s.unflag (Page.ring p) F.REC_STATUS_RING_WAIT
    let s := s.setPst p 0
    let s := s.publishSrc (648 + p)
    let s := (s.settle x.armOwed arm).settleAll x.stopOwed St.success
    s.dropShots p shots

/-! ### Shots (R31, R167, R168, R270) -/

/-- The shot in progress ends without its SHOT_END release, or with it: it waits for its record's assembly, and
PART_SHOT_NUM names the next record (R31, R172). -/
def State.shotOver (s : State) (p : Nat) : State :=
  let x := s.prt p
  let n := s.g64 (Page.part p) F.PART_SHOT_NUM_LO
  let sh : Shot := ⟨n, x.shotStart, x.marks, x.stall, x.ents⟩
  let next := (n + 1) % 2 ^ 48
  let s := s.setPrt p { x with
    inShot := false, done := x.done + 1, ents := [], stall := 0, asm := x.asm ++ [sh]
    marks := if next = 0 then 2 ^ 10 else 0 }
  s.p64 (Page.part p) F.PART_SHOT_NUM_LO next

/-- Flux channels of partition `p` that take part. -/
def State.fluxOf (s : State) (p : Nat) : List Nat := (s.members p).filter (· < 128)

/-- Effects of partition `p`'s members from which an abort on tick `r` leaves only those that had taken place (R207). -/
def State.cancelEff (s : State) (q r : Nat) : State :=
  let x := s.sqs q
  s.setSq q { x with eff := x.eff.filter (fun e => decide (e.1 < r)) }

/-- The run of partition `p` ends at once (R171): outputs quiet, windows closed with cause `c`, mark `m`. -/
def State.runAbort (s : State) (p c m arm : Nat) (shots : Nat := St.boundaryPast) : State :=
  if s.idle p then s
  else if s.running p then
    let ms := s.members p
    let s := forEach ms s (fun s q => (s.cancelEff q 0).seqSilence q)
    let s := forEach (s.openTones p) s (fun s t => s.cutWin c t)
    let s := s.mark p m
    let s := if (s.prt p).inShot then s.shotOver p else s
    s.toIdle p arm shots
  else s.toIdle p arm shots

/-- An abort request (R171). -/
def State.partAbort (s : State) (p : Nat) : State := s.runAbort p 4 4 St.aborted

/-- A stop request (R171). -/
def State.partStop (s : State) (p : Nat) : State :=
  match s.pst p with
  | 1 | 2 => s.toIdle p St.aborted
  | 3 => s.setPst p 4
  | _ => s

/-! ### Region aborts (R189) -/

/-- A sequencer leaves every barrier that it has reached. -/
def State.leaveBars (s : State) (q : Nat) : State :=
  let p := s.seqOwner q
  let x := s.prt p
  let out := fun (b : Bar) =>
    { b with arr := b.arr.filter (fun a => decide (a.1 ≠ q))
             rdy := b.rdy.filter (fun a => decide (a.1 ≠ q)) }
  let bs := x.bars.map out
  s.setPrt p { x with bars := bs.filter (fun b => b.rel.isSome || b.arr ≠ [] || b.nodes ≠ []) }

/-- The regions that sequencer `x` has been in before tick `r`, on which it leaves the one that it is in. -/
def Seq.leftAt (x : Seq) (r : Nat) : List LeftRegion :=
  let l : List LeftRegion := match x.region with
    | some g => if x.entering then x.left else x.left ++ [⟨g, x.regNo, x.regBeg, r⟩]
    | none => x.left
  (l.filter (fun l => decide (l.beg < r))).map (fun l => { l with fin := min l.fin r })

/-- The region abort of sequencer `q` on tick `r` (R189): what it has executed and is not due before `r` has no effect
(R207), an END_RUN among it. -/
def State.regionAbort (s : State) (q r : Nat) : State :=
  let p := s.seqOwner q
  let s := (s.endFetch q).leaveBars q
  let x := s.sqs q
  let s := s.setSq q { x with
    eff := x.eff.filter (fun e => decide (e.1 < r)), sub := [], loops := [], region := none, entering := false
    left := x.leftAt r
    rep := none, wc := none, hold := false, abortIn := none, vec := false, st := 2, tau := r + 100
    ready := max x.ready r, atAbort := true
    seg := x.seg.filter (fun g => decide (g.1 < r))
    a := { x.a with susp := false }, b := { x.b with susp := false } }
  let y := s.prt p
  let s := s.setPrt p { y with endReqs := y.endReqs.filter (fun e => decide (e.1 ≠ q ∨ e.2 < r)) }
  let s := s.seqQuiet q
  let s := forEach ((seqTones q).filter (fun t => (s.win t).isSome)) s (fun s t => s.cutWin 2 t)
  let s := (s.bump (Page.seq q) F.SEQ_REGION_ABORTS).flag (Page.seq q) F.SEQ_STATUS_REGION_ABORT
  (s.mark p 2).goto q x.abortTo

/-- Words that carry a region abort to the other modules of the partition (R488). -/
def State.sendAbort (s : State) (p g r : Nat) : State :=
  if s.speaks then
    forEach (s.peerNodes p) s (fun s n =>
      s.fabSend 6 n 3 [noticeWord p (s.epoch p) 0 g false s.node s.myTwin 0 r])
  else s

/-- Sequencer `q` finds a region miss, an instruction error inside its region, or a malformed declaration on
tick `e`: it aborts on the tick after, at a malformed declaration not before the entry that it stands for, and the abort
propagates (R187, R189). -/
def State.regionMiss (s : State) (q e : Nat) : State :=
  let p := s.seqOwner q
  let g := s.g (Page.seq q) F.SEQ_CTRL_GROUP
  let x := s.sqs q
  let r := max (e + 1) (if x.entering then x.tau else 0)
  let s := s.setSq q { x with abortIn := some r, abortTo := (x.region.map (·.abort)).getD x.pc, ready := r, rep := none, wc := none }
  let s := s.abortGroup p g x.regNo r
  let s := s.sendAbort p g r
  if r ≤ e + 1 then s.regionAbort q r else s

/-- An instruction error at address `a` (R244). -/
def State.seqError (s : State) (q a e : Nat) : State :=
  let pg := Page.seq q
  let s := ((s.flag pg F.SEQ_STATUS_BAD_INSTR).p pg F.SEQ_BAD_ADDR (a % 2 ^ 24)).bump pg F.SEQ_BAD_INSTRS
  if (s.sqs q).inside then s.regionMiss q e
  else
    let p := s.seqOwner q
    (s.logIt Cause.badInstr p (gid 16 q) 0).partAbort p

/-! ### Barriers (R174 to R178, R188) -/

/-- Nodes listed for partition `p` (R486), and whether it runs on more than this one. -/
def State.listed (s : State) (p : Nat) : List Nat :=
  (List.range 64).filter (fun n => s.g64 (Page.fnodes p) F.FAB_PART_NODES_LO / 2 ^ n % 2 = 1)

/-- PART_BARRIER_LAT as it runs (R176). -/
def State.barLat (s : State) (p : Nat) : Nat := max 16 (s.g (Page.part p) F.PART_BARRIER_LAT_LAT)

/-- Sequencer `q` reaches a barrier of kind `k` at timeline tick `τ`, ready or not. -/
def State.arrive (s : State) (q k τ : Nat) (ready : Bool) : State :=
  s.onBar (s.seqOwner q) k (s.g (Page.seq q) F.SEQ_CTRL_GROUP) τ
    (fun b => { b with arr := b.arr ++ [(q, τ, ready)] })

/-- Member `q` of a region entry becomes ready on timeline tick `τ` (R188): by its arrival, or later. -/
def State.becomeReady (s : State) (q τ : Nat) : State :=
  s.onBar (s.seqOwner q) 3 (s.g (Page.seq q) F.SEQ_CTRL_GROUP) τ (fun b =>
    match b.arr.find? (fun a => a.1 = q) with
    | none => b
    | some a =>
      if b.readyOf q then b
      else if τ ≤ a.2.1 then { b with arr := b.arr.map (fun c => if c.1 = q then (c.1, c.2.1, true) else c) }
      else { b with rdy := b.rdy ++ [(q, τ)] })

/-- Every local member of a barrier has arrived. -/
def State.barLocal (s : State) (p : Nat) (b : Bar) : Bool :=
  (s.barMembers p b.kind b.grp).all (fun q => b.arr.any (fun a => a.1 = q))
/-- Every local member is ready. -/
def Bar.allReady (b : Bar) : Bool := b.arr.all (fun a => a.2.2 || b.rdy.any (fun r => r.1 = a.1))

def maxOf (l : List Nat) : Nat := l.foldl max 0
/-- Last local arrival, and last tick on which a local member that arrived not ready became ready. -/
def Bar.lastArr (b : Bar) : Nat := maxOf (b.arr.map (·.2.1))
def Bar.lastRdy (b : Bar) : Nat := maxOf (b.rdy.map (·.2))

/-- The other nodes whose notices a barrier needs: a standby also waits for its active's (R491). -/
def State.barNodes (s : State) (p : Nat) : List Nat :=
  s.peerNodes p ++ (if s.twinState = 2 ∧ s.fab.takeover = none then [s.node] else [])

/-- Send this module's notice of a barrier (R488). -/
def State.sendNotice (s : State) (p : Nat) (b : Bar) (ready : Bool) (tick : Nat) : State :=
  let w := noticeWord p (s.epoch p) b.kind b.grp ready s.node s.myTwin (s.barInst p b.kind b.grp) tick
  let s := forEach (s.peerNodes p) s (fun s n => s.fabSend 5 n 3 [w])
  if s.node ∈ s.listed p ∧ s.twinState ∈ [3, 4] then s.fabSend 5 s.node (if s.myTwin = 0 then 2 else 1) [w] else s

/-- This module sends the notices of partition `p`: as its node's speaker, or as a standby that takes over (R488, R494). -/
def State.notifies (s : State) : Bool := s.speaks || s.fab.takeover.isSome

/-- First tick at or after `t` on the period of R175 that starts at `t0`. -/
def periodic (t t0 per : Nat) : Nat :=
  if per = 0 then t else t + (per - (t - t0) % per) % per

/-- The tick on which this module arrives at a barrier: its last member's arrival; a new active arrives no earlier than
2 µs after the boundary of its takeover at a SHOT_START that would release before that (R494). -/
def State.ownArr (s : State) (p : Nat) (b : Bar) : Nat :=
  let h := s.fab.holdTo.get 0 p
  if b.kind = 0 ∧ periodic (b.lastArr + s.barLat p) (s.prt p).start (s.g (Page.part p) F.PART_SHOT_PERIOD_PERIOD) < h
  then max b.lastArr h else b.lastArr

/-- The notices that a barrier now owes are sent. -/
def State.notify (s : State) (p : Nat) (b : Bar) : State × Bar :=
  if b.own.isNone then (s, b)
  else
    let ready := b.kind = 3 && b.allReady
    let s1 := if ¬ b.sent ∧ s.notifies then
        s.sendNotice p b ready (if ready then max b.lastArr b.lastRdy else b.own.getD 0) else s
    let s2 := if b.sent ∧ ready ∧ ¬ b.sentRdy ∧ s.notifies then s1.sendNotice p b true (max b.lastArr b.lastRdy) else s1
    (s2, { b with sent := b.sent || s.notifies, sentRdy := b.sentRdy || (ready && s.notifies) })

/-- The release of a barrier by R174, R175 and R188, and the stall of a hold, once every arrival is known. -/
def State.release (s : State) (p : Nat) (b : Bar) (last : Nat) : Option (Nat × Option Nat) :=
  let lat := s.barLat p
  if b.kind = 3 then
    let remote := b.nodes.all (fun n => n.2.2.isSome)
    if ¬ b.allReady ∨ ¬ remote then none
    else
      let held := !b.arr.all (fun a => a.2.2) || b.nodes.any (fun n => n.2.2 ≠ some n.2.1)
      if held then
        let rdy := max b.lastRdy (maxOf (b.nodes.filterMap (·.2.2)))
        let t := max (rdy + max lat 256) (last + lat)
        some (t, some (t - (last + lat)))
      else some (last + lat, none)
  else if b.kind = 0 then
    some (periodic (last + lat) (s.prt p).start (s.g (Page.part p) F.PART_SHOT_PERIOD_PERIOD), none)
  else some (last + lat, none)

/-- The run ends at the SHOT_END that releases on tick `t` (R169, R171, R221): an END_RUN before it has a timeline tick
before its release, and one that follows it does not. -/
def State.lastShot (s : State) (p t : Nat) : Bool :=
  let x := s.prt p
  let n := s.g64 (Page.part p) F.PART_SHOTS_LO
  x.endReqs.any (fun e => e.2 < t) || s.pst p = 4 || (n ≠ 0 && n ≤ x.done + 1)

/-- A member leaves a barrier: its next instruction has timeline tick `t`. -/
def State.leave (s : State) (b : Bar) (q t rel : Nat) : State :=
  let x := s.sqs q
  let x := { x with tau := t, st := 2, ready := max x.ready (s.tk (s.seqOwner q))
                    seg := if b.kind ≤ 1 then none else x.seg }
  if b.kind = 3 then
    s.setSq q { x with entering := false, regBeg := rel
                       a := { x.a with susp := x.a.fill.isSome }, b := { x.b with susp := x.b.fill.isSome } }
  else s.setSq q x

/-- The stall of a region-entry hold, `n` ticks (R168, R188): it is known with the release. A hold that an abort ends has no
release and counts no ticks, though it counts in SEQ_STALLS and marks its shot: DESIGN CHOICE (log entry 64). -/
def State.countStall (s : State) (p : Nat) (b : Bar) (n : Nat) : State :=
  let s := forEach ((b.arr.filter (fun a => !a.2.2)).map (·.1)) s (fun s q =>
    s.bump64 (Page.seq q) F.SEQ_STALL_TICKS_LO n)
  s.markAdd p 0 n

/-- The tick on which this module's members count as arrived is settled once all of them have arrived: at a SHOT_START not
before the ring has space for the shot, and then with the issue lead (R273); until then they are held. -/
def State.ringGate (s : State) (p : Nat) (b : Bar) : State × Bar :=
  if b.own.isSome ∨ ¬ s.barLocal p b then (s, b)
  else
    let x := s.prt p
    let a := s.ownArr p b
    if b.kind ≠ 0 ∨ s.pst p = 4 ∨ (s.recReady p ∧ x.ringWait = none) then (s, { b with own := some a })
    else if s.recReady p then
      let t := max a (s.tk p + 100)
      let s := s.setPrt p { x with ringWait := none, marks := setBit x.marks 13 }
      ((s.unflag (Page.ring p) F.REC_STATUS_RING_WAIT).bump64 (Page.ring p) F.REC_WAIT_TICKS_LO (t - a), { b with own := some t })
    else ((s.setPrt p { x with ringWait := some a }).flag (Page.ring p) F.REC_STATUS_RING_WAIT, b)

/-- Put barrier `b` in place of the open one of its kind and group. -/
def State.putBar (s : State) (p : Nat) (b : Bar) : State :=
  let x := s.prt p
  s.setPrt p { x with bars := x.bars.map (fun c => if c.kind = b.kind ∧ c.grp = b.grp ∧ c.rel.isNone then b else c) }

/-- An arrival is learned (R174): if every member has arrived, the release is computed and the members go on. -/
def State.learn (s : State) (p : Nat) (b : Bar) : State :=
  let g := s.ringGate p b
  let sb := g.1.notify p g.2
  let b := sb.2
  let s := sb.1.putBar p b
  if ¬ (s.barNodes p).all (fun n => b.nodes.any (fun m => m.1 = n)) then s
  else if s.pst p = 4 ∧ b.kind = 0 then s
  else
    match b.own with
    | none => s
    | some a =>
      let ext := maxOf ((b.nodes.filter (fun m => m.1 ≠ s.node)).map (·.2.1))
      let own := match b.nodes.find? (fun m => m.1 = s.node) with | some m => m.2.1 | none => a
      match s.release p b (max ext own) with
      | none => s
      | some (t, stall) =>
        let rel := max t b.lastArr
        let lag := b.lastArr - own
        let s := s.when (s.twinState = 2 ∧ s.g Page.twin F.FAB_TWIN_LAG_MAX < lag) (·.p Page.twin F.FAB_TWIN_LAG_MAX lag)
        let learned := s.tk p + 100
        let late : Bool := rel < learned
        let s := match stall with | some n => s.countStall p b n | none => s
        let s := s.when (late = true) (·.mark p 3)
        let go := if late then learned else rel
        let s := if decide (b.kind = 1) && s.lastShot p go then s
          else forEach (b.arr.map (·.1)) s (fun s q => s.leave b q go rel)
        s.putBar p { b with rel := some go }

/-- BARRIER_NOTICE: every barrier in progress takes account of what has arrived. -/
def State.learnAll (s : State) (p : Nat) : State :=
  let s := ((s.prt p).bars.filter (fun b => b.rel.isNone)).foldl (fun s b => s.learn p b) s
  -- DRAINING: every member has arrived at the next SHOT_START, which is not released (R171)
  if s.pst p = 4 ∧ (s.prt p).bars.any (fun b => b.kind = 0 && b.rel.isNone && s.barLocal p b
      && (s.barNodes p).all (fun n => b.nodes.any (fun m => m.1 = n))) then s.toIdle p St.success
  else s

/-! ### Shot boundaries -/

/-- CRC-64 of R492 over 64-bit words, most significant bit first. -/
def crc64Bit (c : W64) (b : Bool) : W64 :=
  if (c.getMsbD 0 ^^ b) then (c <<< 1) ^^^ 0x42F0E1EBA9EA3693#64 else c <<< 1
def crc64Word (c w : W64) : W64 := (List.range 64).foldl (fun c i => crc64Bit c (w.getMsbD i)) c
def crc64 (l : List W64) : W64 := l.foldl crc64Word 0

/-- SEQ_FLAGS and SEQ_COND of a sequencer (R246). -/
def State.seqFlags (s : State) (q : Nat) : Word :=
  let x := s.sqs q
  let b := fun (c : Bool) (n : Nat) => if c then 2 ^ n else 0
  (s.reg (Page.seq q + 0x108) &&& 0x1C0#32) |||
    BitVec.ofNat 32 (b x.zero 0 + b x.neg 1 + b x.accSat 2 + b x.vSat 3 + b x.timeout 4 + b x.mtch 5)
def State.seqCond (s : State) (q : Nat) : Word := (s.sqs q).value ++ (s.sqs q).set

/-- Eight entries of a stack, the bottom first. -/
def stack8 (l : List W64) : List W64 := (List.range 8).map (fun i => l.reverse.getD i 0)

/-- The image words of one sequencer (R498). -/
def State.seqImage (s : State) (q : Nat) : List W64 :=
  let x := s.sqs q
  let v := fun i => (x.v.get 0 i).toNat
  BitVec.ofNat 64 x.pc
    :: stack8 (x.loops.map (fun l => BitVec.ofNat 64 (l.1 + l.2 * 2 ^ 24)))
    ++ stack8 (x.sub.map (BitVec.ofNat 64))
    ++ (List.range 4).map (fun i => BitVec.ofNat 64
        (v (4 * i) + v (4 * i + 1) * 2 ^ 16 + v (4 * i + 2) * 2 ^ 32 + v (4 * i + 3) * 2 ^ 48))
    ++ [BitVec.ofNat 64 x.acc.toNat, s.seqCond q ++ s.seqFlags q, BitVec.ofNat 64 x.tau]

/-- DEC_PAULI word `n`: the X and Z bits of sixteen frames (R321). -/
def State.pauliWord (s : State) (n : Nat) : Word :=
  (List.range 16).foldl (fun w i => w ||| BitVec.ofNat 32 (s.pauliRow (16 * n + i) * 4 ^ i)) 0

/-- GU_STATUS of a unit (R320). -/
def State.guStatus (s : State) (g : Nat) : Nat :=
  s.g (Page.gu g) F.GU_STATUS_ROUND + min 65535 (s.gath g).out.length * 2 ^ 16

/-- DEC_COMET_TX and DEC_COMET_RX of a pair (R321). -/
def Pair.txWord (x : Pair) : Word := BitVec.ofNat 32 (x.next + x.acked * 2 ^ 16)
def Pair.rxWord (x : Pair) : Word := BitVec.ofNat 32 x.expected

/-- The image of the join copy for partition `p` (R498). -/
def State.joinPart (s : State) (p : Nat) : List W64 :=
  let fr := (List.range 1024).filter (fun f => s.frameOwner f = p)
  let tn := (List.range 1024).filter (fun t => s.toneOwner t = p)
  let fp := fun k => [BitVec.ofNat 64 (s.osc k).f, BitVec.ofNat 64 (s.osc k).p]
  BitVec.ofNat 64 (p + s.epoch p * 2 ^ 3 + s.g64 (Page.part p) F.PART_SHOT_NUM_LO * 2 ^ 16)
    :: (s.members p).flatMap s.seqImage
    ++ fr.flatMap fp ++ tn.flatMap (fun t => fp (toneLane t))
    ++ ((List.range 32).filter (fun n => fr.any (fun f => f / 32 = n))).map
        (fun n => s.pauliWord (2 * n + 1) ++ s.pauliWord (2 * n))
    ++ ((List.range 64).filter (fun g => s.guPart g = p && s.on (Page.gu g) F.GU_CTRL_EN)).flatMap (fun g =>
        (s.gath g).prev :: BitVec.ofNat 64 (s.guStatus g)
          :: (List.range 512).map (fun i => BitVec.ofNat 64
              (((s.gath g).out.filter (fun r => r.1 % 32768 / 64 = i)).foldl (fun n r => n + 2 ^ (r.1 % 64)) 0)))
    ++ (List.range 64).map (fun n => (s.pair (pairKey p n)).rxWord ++ (s.pair (pairKey p n)).txWord)

/-- Partitions that run on this module. -/
def State.runParts (s : State) : List Nat := (List.range 5).filter (fun p => !s.idle p)
def State.joinImage (s : State) : List W64 := s.runParts.flatMap s.joinPart

/-- Key of the own digest of shot `n` of partition `p`; the received one follows it. -/
def digKey (p n : Nat) : Nat := 2 * (p * 2 ^ 48 + n)

/-- The digest of R492 is taken at a SHOT_END release. -/
def State.takeDigest (s : State) (p n : Nat) : State :=
  if s.twinState ∈ [2, 3, 4] then
    { s with fab.digest := s.fab.digest.set 0 (digKey p n) ((crc64 s.joinImage).toNat + 1) }
  else s

/-- Flux channels of the partition go to their park level (R140), and pending bank swaps take effect (R148). -/
def State.fluxBoundary (s : State) (p : Nat) (swap : Bool) : State :=
  forEach ((List.range 128).filter (fun n => s.owner n = p)) s (fun s n =>
    let s := if (s.flx n).h = s.park n then s else s.levelPark n
    if swap ∧ s.on (Page.flx n) F.FLX_STATUS_COMMIT_PENDING then s.bankSwap n else s)

/-- SHOT_START releases on tick `t`: a shot begins (R167, R269, R291). -/
def State.shotBegin (s : State) (p t : Nat) : State :=
  let x := s.prt p
  let s := s.setPrt p { x with inShot := true, shotStart := 16 * t }
  let s := forEach ((s.rdo.idx.map (·.1)).filter (fun n => s.toneOwner n = p)) s
    (fun s n => { s with rdo.idx := s.rdo.idx.set 0 n 0 })
  let s := s.when ((List.range 160).any (fun n => s.owner n = p && s.on (outPg n) F.DRV_STATUS_HEAT_TRIP) = true) (·.mark p 8)
  (s.fluxBoundary p false).decShot p

/-- SHOT_END releases: the shot's windows are cut, its record waits for assembly, and shadows of shot and segment
scope take effect (R167, R190, R267). -/
def State.shotFinish (s : State) (p : Nat) : State :=
  let n := s.g64 (Page.part p) F.PART_SHOT_NUM_LO
  let s := forEach (s.openTones p) s (fun s t => s.cutWin 3 t)
  let s := s.shotOver p
  let s := s.boundary 2 (s.inPart p)
  let s := s.fluxBoundary p true
  s.takeDigest p n

/-- A barrier's computed release arrives. -/
def State.barRelease (s : State) (p : Nat) (b : Bar) (t : Nat) : State :=
  let x := s.prt p
  let k := b.kind * 16 + b.grp
  let s := s.setPrt p { x with bars := x.bars.filter (fun c => c ≠ b), bcnt := x.bcnt.set 0 k (x.bcnt.get 0 k + 1) }
  match b.kind with
  | 0 => if s.pst p = 4 then s.toIdle p St.success else s.shotBegin p t
  | 1 =>
    let fin := s.lastShot p t
    let s := s.shotFinish p
    if fin then s.toIdle p St.success else s
  | 3 => forEach (b.arr.map (·.1)) s (fun s q => s.setSq q { s.sqs q with hold := false })
  | _ => s

/-- Barriers of partition `p` whose release tick has come. -/
def State.dueBars (s : State) (p : Nat) : List (Bar × Nat) :=
  (s.prt p).bars.filterMap (fun b => match b.rel with
    | some t => if t ≤ s.tk p then some (b, t) else none
    | none => none)

/-! ### Arming and starting (R171, R173, R696) -/

/-- The first region of an enabled sequencer fits the two windows of arming (R173). -/
def State.firstRegionOk (s : State) (q : Nat) : Bool :=
  let a := s.g (Page.seq q) F.SEQ_FIRST_REGION_FIRST_REGION
  if a = 0xFFFFFF then true
  else
    let w := leNat (s.ddrRead (s.imgAddr q + 8 * a) 8)
    let n := w / 2 ^ 24 % 2 ^ 15
    let e := winOf (s.g (Page.seq q) F.SEQ_ENTRY_ENTRY)
    decide (a < s.imgLen q) && w / 2 ^ 58 = 6 && w / 2 ^ 39 % 2 ^ 19 = 0 && 1 ≤ n && n ≤ 16384
      && e ≤ winOf a && winOf (a + n - 1) ≤ e + 1

/-- The image lies in the channel-local region of the sequencer's quadrant (R179). -/
def State.imageOk (s : State) (q : Nat) : Bool :=
  let c := if q < 128 then q / 32 else (q - 128) / 8
  s.memL * c ≤ s.imgAddr q && s.imgAddr q + 8 * s.imgLen q ≤ s.memL * (c + 1)

/-- The refusal of an arm request for partition `p` that would start at T_exp `start` with latency `lat` (R55,
R152, R171, R173, R176, R179, R273, R293, R424, R486). -/
def State.armRefusal (s : State) (p start lat : Nat) : Option Fail :=
  let ms := s.members p
  if ¬ s.idle p then some (.plain St.badState)
  else if s.pwr.mode ≠ .ready ∨ s.pwr.busy ≠ .none ∨ s.marchOn p ∨ s.scanOn p then some (.plain St.badState)
  else if ¬ s.anchored p then some (.plain St.unanchored)
  else if (List.range 128).any (fun n => s.owner n = p && s.on (Page.flx n) F.FLX_STATUS_RAMPING) then some (.plain St.badState)
  else if start % 16 ≠ 0 then some (.atWord St.invalidParam 0)
  else if start ≤ (s.cnt p).toNat then some (.plain St.startPast)
  else if ms.any (fun q => s.imgLen q = 0 || s.imgLen q ≤ s.g (Page.seq q) F.SEQ_ENTRY_ENTRY
      || !s.imageOk q || !s.firstRegionOk q) then some (.plain St.invalidParam)
  else match s.partHops p with
    | none => some (.plain St.badState)
    | some h =>
      if s.peerNodes p ≠ [] ∧ lat < 16 + 64 * h then some (.atWord St.invalidParam 5)
      else if ¬ s.recRoom p then some (.plain St.badState)
      else if s.guArmBad p then some (.plain St.invalidParam)
      else none

/-- An accepted arm request: the windows of every enabled sequencer are fetched (R173). Registers and flags of the
sequencers stand until the run start (R212, R233). -/
def State.arm (s : State) (p start : Nat) (owed : Option (Nat × Nat)) : State :=
  let s := forEach (s.members p) s (fun s q =>
    let e := s.g (Page.seq q) F.SEQ_ENTRY_ENTRY
    let w := winOf e
    let b : Half := if s.imgLen q ≤ 8192 * (w + 1) then .empty else ⟨none, some (w + 1), false⟩
    s.setSq q { (s.sqs q).stop with pc := e, pref := none, a := ⟨none, some w, false⟩, b := b })
  let x := s.prt p
  let s := s.setPrt p { Part.init with asm := x.asm, armOwed := owed, start := start / 16, firstShot := true }
  s.setPst p 1

/-- The windows of arming are all resident. -/
def State.armedReady (s : State) (p : Nat) : Bool :=
  (s.members p).all (fun q => (s.sqs q).a.fill.isNone && (s.sqs q).b.fill.isNone)

/-- Frame or tone `k`'s oscillator loads F and P from its registers (R104, R248). -/
def State.oscRegs (s : State) (k : Nat) : Nat × Nat :=
  let pg := if k < 1024 then Page.frame (k / 8) (k % 8) else Page.tone (k - 1024)
  (s.g64 pg F.DRV_FRAME_FREQ_LO % 2 ^ 48, s.g64 pg F.DRV_FRAME_PHASE_LO % 2 ^ 48)

/-- The run-start cut of R696. -/
def State.runCut (s : State) (p : Nat) : State :=
  let x := s.prt p
  let s := s.setPrt p { x with cut := true }
  let s := s.boundary 3 (s.inPart p)
  let s := s.fluxBoundary p true
  let ks := ((List.range 1024).filter (fun f => s.frameOwner f = p))
    ++ ((List.range 1024).filter (fun t => s.toneOwner t = p)).map (1024 + ·)
  let s := forEach ks s (fun s k => let fp := s.oscRegs k; s.setOsc k ⟨fp.1, fp.2, []⟩)
  let s := forEach (s.members p) s (fun s q =>
    let y := s.sqs q
    s.setSq q { Seq.init with pc := s.g (Page.seq q) F.SEQ_ENTRY_ENTRY, st := 1, a := y.a, b := y.b, jump := y.jump, last := y.last
                              tau := x.start, ready := s.tk p, first := true })
  s.decCut p

/-- The start tick arrives (R171): ARMED becomes RUNNING; ARMING fails with START_MISSED. -/
def State.runStart (s : State) (p : Nat) : State :=
  let x := s.prt p
  if s.pst p = 1 then
    (s.toIdle p St.startMissed).flag (Page.part p) F.PART_STATE_START_MISSED
  else if s.pst p = 2 then
    let s := if x.cut then s else s.runCut p
    let s := s.p (Page.td p) F.TD_STATE_EPOCH ((s.epoch p + 1) % 16)
    let s := s.pairsRestart p
    let s := s.setPst p 3
    let s := s.publishSrc (643 + p)
    let y := s.prt p
    (s.setPrt p { y with firstShot := false, bcnt := y.bcnt.set 0 0 1 }).shotBegin p x.start
  else s

end Sys2Proof.Machine
end

