-- ==== Sys2Proof/Machine/AcqOps.lean ====
section
/-!
DEFINITION. Machine/AcqOps.lean: capture units: sources and decimation (R324 to R327), detectors and mask tests
(R329, R345), triggers and captures (R330 to R336), items and streams (R337 to R343), capture groups (R347 to R350).
-/

namespace Sys2Proof.Machine
open Sys2Proof

/-! ### Sources (R324 to R327) -/

/-- The first grid point at or after `t`. -/
def gridUp (t spc : Nat) : Nat := (t + spc - 1) / spc * spc

/-- Spacing of a source's samples, bytes of one sample in memory, and its rate in GB/s. -/
def srcSpacing (kind : Nat) : Nat := match kind with | 0 => 2 | 1 | 2 => 32 | 5 => 8 | _ => 1
def srcBytes (kind : Nat) : Nat := match kind with | 1 | 2 => 8 | _ => 2
def srcRate (kind : Nat) : Nat := match kind with | 0 => 16 | 3 | 4 => 32 | _ => 4

def State.cuKind (s : State) (u : Nat) : Nat := s.g (Page.cu u) F.ACQ_CU_SRC_KIND
def State.cuIndex (s : State) (u : Nat) : Nat := s.g (Page.cu u) F.ACQ_CU_SRC_INDEX
def State.cuState (s : State) (u : Nat) : Nat := s.g (Page.cu u) F.ACQ_CU_STATUS_STATE
def State.setCuState (s : State) (u v : Nat) : State := s.p (Page.cu u) F.ACQ_CU_STATUS_STATE v
/-- Spacing of a unit's output samples, spacing_k. -/
def State.cuSpc (s : State) (u : Nat) : Nat := srcSpacing (s.cuKind u) * 2 ^ (s.cu u).k
def State.cuBytes (s : State) (u : Nat) : Nat := srcBytes (s.cuKind u)
/-- First byte of a unit's pages in the quadrants' buffers, and number of bytes. -/
def State.cuBase (s : State) (u : Nat) : Nat := u / 8 * 2 ^ 24 + 4096 * s.g (Page.cu u) F.ACQ_CU_BUF_BASE
def State.cuRoom (s : State) (u : Nat) : Nat := 4096 * s.g (Page.cu u) F.ACQ_CU_BUF_LEN

/-- Resource that owns a source (numbered as the partition map numbers it), if the index names one. -/
def State.cuSource (s : State) (u : Nat) : Option Nat :=
  let q := u / 8
  let i := s.cuIndex u
  match s.cuKind u with
  | 0 => if i < 8 then some (128 + 8 * q + i) else none
  | 1 | 2 => if i < 256 then some (128 + 8 * q + i / 32) else none
  | 3 | 5 => if i < 32 then some (32 * q + i) else none
  | 4 => if i < 8 then some (128 + 8 * q + i) else none
  | _ => none

/-- Whether a unit's source is enabled and not DARK. -/
def State.srcLive (s : State) (u : Nat) : Bool :=
  match s.cuSource u with
  | none => false
  | some r =>
    match s.cuKind u with
    | 0 | 1 | 2 => s.on (Page.rdo (r - 128)) F.RDO_ADC_CTRL_ENABLE && !s.on (Page.rdo (r - 128)) F.RDO_ADC_STATUS_DARK
    | 3 => s.on (Page.drv r) F.DRV_CTRL_ENABLE && !s.on (Page.drv r) F.DRV_STATUS_DARK
    | 4 => s.on (Page.rdo (r - 128)) F.DRV_CTRL_ENABLE && !s.on (Page.rdo (r - 128)) F.DRV_STATUS_DARK
    | _ => s.on (Page.flx r) F.FLX_CTRL_ENABLE && !s.on (Page.flx r) F.FLX_STATUS_DARK

/-! ### Items (R337) -/

/-- A header's fields, with the samples' bytes; filler to 32 bytes. -/
def State.itemBytes (s : State) (u kind k t item frac fv count sub arg dead : Nat) (body : List Byte) : List Byte :=
  let n := 32 + (body.length + 31) / 32 * 32
  leBytes 4 (0x7A52 + kind * 2 ^ 16 + s.cuPart u * 2 ^ 20 + s.myTwin * 2 ^ 23 + s.node * 2 ^ 24)
    ++ leBytes 4 n ++ leBytes 8 t
    ++ leBytes 4 (item % 2 ^ 16 + frac * 2 ^ 16 + fv * 2 ^ 20 + k * 2 ^ 21 + u * 2 ^ 25)
    ++ leBytes 4 count ++ leBytes 4 (sub + arg % 2 ^ 24 * 2 ^ 8) ++ leBytes 4 (min dead 0xFFFFFFFF)
    ++ body ++ List.replicate (n - 32 - body.length) 0

/-- One sample as bytes in the format of R324. -/
def sampleBytes (kind : Nat) (y : IQ) : List Byte :=
  if srcBytes kind = 8 then leBytes 4 (y.1 % 2 ^ 32).toNat ++ leBytes 4 (y.2 % 2 ^ 32).toNat
  else leBytes 2 (y.1 % 2 ^ 16).toNat

/-- A stream item of unit `u` as bytes, under item number `n`. -/
def State.sitemBytes (s : State) (u n : Nat) (it : SItem) : List Byte :=
  s.itemBytes u it.kind it.k it.t n it.frac (if it.fv then 1 else 0) (if it.kind = 1 then it.samples.length else it.count)
    it.sub it.arg it.dead (it.samples.flatMap (sampleBytes (s.cuKind u)))

/-! ### The stream FIFO (R338 to R341) -/

/-- Bytes that an item of `n` samples takes. -/
def State.itemSize (s : State) (u n : Nat) : Nat := 32 + (n * s.cuBytes u + 31) / 32 * 32
/-- The fill F of the FIFO: the items that wait and the open one. -/
def State.fifoFill (s : State) (u : Nat) : Nat :=
  ((s.cu u).fifo.map (fun it => s.itemSize u it.samples.length)).sum
    + (match (s.cu u).opn with | none => 0 | some o => s.itemSize u o.samples.length)

/-- The FIFO's fill has changed: the time below one eighth is kept (R340). -/
def State.lowMark (s : State) (u : Nat) : State :=
  let x := s.cu u
  let low : Bool := 8 * s.fifoFill u < s.cuRoom u
  if low then (if x.lowAt.isSome then s else s.setCu u { x with lowAt := some s.now })
  else if x.lowAt.isSome then s.setCu u { x with lowAt := none } else s

/-- The open item as it would close now. -/
def Cu.openItem (x : Cu) : List SItem :=
  match x.opn with
  | none => []
  | some o => [{ kind := 1, t := o.first, k := x.k, samples := o.samples.reverse }]

/-- The open DATA item closes with its samples (R338). -/
def State.closeItem (s : State) (u : Nat) : State :=
  let x := s.cu u
  s.setCu u { x with opn := none, fifo := x.fifo ++ x.openItem }

/-- Number of a DATA item's samples that lie before `t`, at spacing `spc`. -/
def SItem.before (it : SItem) (t spc : Nat) : Nat :=
  if t ≤ it.t then 0 else min it.samples.length ((t + spc - 1 - it.t) / spc)

/-- A mark takes its place in stamp order: right after the samples before its T, where a DATA item is cut in two (R338).
`sp` is the spacing of the source. -/
def insMark (sp : Nat) (m : SItem) : List SItem → List SItem
  | [] => [m]
  | it :: l =>
    if it.kind = 1 then
      let spc := sp * 2 ^ it.k
      let n := it.before m.t spc
      if n = it.samples.length then it :: insMark sp m l
      else if n = 0 then m :: it :: l
      else { it with samples := it.samples.take n } :: m
        :: { it with t := it.t + n * spc, samples := it.samples.drop n } :: l
    else if m.t < it.t then m :: it :: l
    else it :: insMark sp m l

/-- A mark enters the stream: the open item closes at it, and the samples from its T on stay open. -/
def State.putMark (s : State) (u : Nat) (m : SItem) : State :=
  let x := s.cu u
  let l := insMark (srcSpacing (s.cuKind u)) m (x.fifo ++ x.openItem)
  match x.opn.isSome, l.getLast? with
  | true, some it =>
    if it.kind = 1 then s.setCu u { x with fifo := l.dropLast, opn := some ⟨it.t, it.samples.reverse⟩ }
    else s.setCu u { x with fifo := l, opn := none }
  | _, _ => s.setCu u { x with fifo := l }

/-- The gap in progress ends with its mark (R341). -/
def State.endGap (s : State) (u : Nat) : State :=
  match (s.cu u).gap with
  | none => s
  | some (t, n, c) =>
    let x := s.cu u
    (s.setCu u { x with gap := none }).putMark u { kind := 2, sub := 3, t := t, k := x.k, count := min n 0xFFFFFFFF, arg := c }

/-- A mark of kind `sub` (R337): a gap that began no later than its T ends before it. -/
def State.cuMark (s : State) (u sub t count arg frac : Nat) (fv : Bool) (dead : Nat) : State :=
  let s := match (s.cu u).gap with
    | some g => if g.1 ≤ t then s.endGap u else s
    | none => s
  s.putMark u { kind := 2, sub := sub, t := t, k := (s.cu u).k, count := count, arg := arg, frac := frac, fv := fv, dead := dead }

/-- A sample is lost to the stream for cause `c` (R341). -/
def State.streamDrop (s : State) (u stamp c : Nat) : State :=
  let s := match (s.cu u).gap with
    | some (t, n, c') => if c' = c then s.setCu u { s.cu u with gap := some (t, n + 1, c) }
        else let s := s.endGap u; s.setCu u { s.cu u with gap := some (stamp, 1, c) }
    | none => s.setCu u { s.cu u with gap := some (stamp, 1, c) }
  (s.bump64 (Page.cu u) F.ACQ_DROPPED_LO).flag (Page.cu u) F.ACQ_CU_STATUS_GAP

/-- A sample joins the open item, which closes when it is full (R338). -/
def State.streamAdd (s : State) (u stamp : Nat) (y : IQ) : State :=
  let x := s.cu u
  let o := match x.opn with
    | some o => { o with samples := y :: o.samples }
    | none => ⟨stamp, [y]⟩
  let s := s.setCu u { x with opn := some o, lastPut := stamp }
  if 4064 < (o.samples.length + 1) * s.cuBytes u then s.closeItem u else s

/-- One output sample enters the stream (R338, R341): it is lost while the FIFO is full, until one full DATA item fits, or
while the source's samples are invalid. -/
def State.streamPut (s : State) (u stamp : Nat) (y : IQ) : State :=
  let x := s.cu u
  let full : Bool := match x.gap with | some (_, _, 0) => true | _ => false
  let need := if full then 4096 else if x.opn.isSome then 32 else 64
  let s := if stamp < x.badTo then s.streamDrop u stamp 1
    else if s.fifoFill u + need ≤ s.cuRoom u then (s.endGap u).streamAdd u stamp y
    else s.streamDrop u stamp 0
  s.lowMark u

/-! ### Detectors (R329, R345) -/

/-- The component that COMP selects. -/
def State.cuComp (s : State) (u : Nat) (y : IQ) : Int := if s.on (Page.cu u) F.ACQ_CU_TRIG_COMP then y.2 else y.1

/-- The level detector takes one output sample; `p` is the one before it. -/
def State.levelStep (s : State) (u stamp : Nat) (p c : Int) : State :=
  let pg := Page.cu u
  let x := s.cu u
  let lv := s.gi pg F.ACQ_CU_LEVEL_LEVEL
  let h : Int := s.g pg F.ACQ_CU_HYST_HYST
  let dn := s.on pg F.ACQ_CU_TRIG_SLOPE
  let hit : Bool := if dn then c ≤ lv else lv ≤ c
  let arm : Bool := if dn then lv + h ≤ c else c ≤ lv - h
  if x.primed && hit then s.setCu u { x with primed := false, fires := x.fires ++ [(stamp, p, c)] }
  else if arm && !x.primed then s.setCu u { x with primed := true } else s

/-- Entry `e` of the mask memory of quadrant `q` (R344): LEN, LO, HI. -/
def State.maskEntry (s : State) (q e : Nat) : Nat × Int × Int :=
  let w := (s.acq.mask.get 0 (q * 2048 + e % 2048)).toNat
  (w % 2 ^ 16, sext 24 (w / 2 ^ 16), sext 24 (w / 2 ^ 40))

/-- The mask's pass starts at the stamp that an accepted trigger has set (R345). -/
def Cu.maskBegin (x : Cu) (stamp : Nat) : Cu :=
  match x.segAt with
  | some n => if n ≤ stamp then { x with seg := some 0, segPos := 0, segHit := false, segAt := none } else x
  | none => x

/-- The mask takes one output sample (R345). -/
def State.maskStep (s : State) (u stamp : Nat) (c : Int) : State :=
  let pg := Page.cu u
  let n := s.g pg F.ACQ_CU_MASK_MCOUNT
  let x := (s.cu u).maskBegin stamp
  match (if n = 0 then none else x.seg) with
  | none => s
  | some g =>
    let e := s.maskEntry (u / 8) (s.g pg F.ACQ_CU_MASK_MBASE + g)
    let bad : Bool := c < e.2.1 || e.2.2 < c
    let x := { x with viols := if bad then x.viols ++ [(stamp, g, !x.segHit)] else x.viols
                      segHit := x.segHit || bad, segPos := x.segPos + 1 }
    s.setCu u (if e.1 ≠ 0 ∧ e.1 ≤ x.segPos then
        { x with segPos := 0, segHit := false
                 seg := if g + 1 < n then some (g + 1)
                        else if s.on pg F.ACQ_CU_MASK_MREL then none else some 0 }
      else x)

/-- Samples held that have stamps in a range, oldest first, with their stamps. -/
def State.heldFrom (s : State) (u lo hi : Nat) : List (Nat × IQ) :=
  let x := s.cu u
  let spc := s.cuSpc u
  ((List.range x.hist.length).zip x.hist |>.map (fun e => (x.last - e.1 * spc, e.2))
    |>.filter (fun e => decide (lo ≤ e.1) && decide (e.1 ≤ hi))).reverse

/-- With MREL 1 a trigger starts the mask at its trigger sample: samples already held from there on are tested again, under
the new pass alone. -/
def State.maskRestart (s : State) (u stamp : Nat) : State :=
  let pg := Page.cu u
  if s.on pg F.ACQ_CU_MASK_MREL ∧ s.g pg F.ACQ_CU_MASK_MCOUNT ≠ 0 then
    let x := s.cu u
    let s := s.setCu u { x with segAt := some stamp, viols := x.viols.filter (fun v => decide (v.1 < stamp)) }
    (s.heldFrom u stamp x.last).foldl (fun s e => s.maskStep u e.1 (s.cuComp u e.2)) s
  else s

/-! ### Samples (R325) -/

/-- Number of samples that a unit's pages can hold after its last stored capture (R336). -/
def State.histCap (s : State) (u : Nat) : Nat := (s.cuRoom u - (s.cu u).off) / s.cuBytes u

/-- One output sample: history, detectors and stream. -/
def State.emit (s : State) (u stamp : Nat) (y : IQ) : State :=
  let x := s.cu u
  let c := s.cuComp u y
  let s := s.levelStep u stamp (match x.hist with | [] => c | p :: _ => s.cuComp u p) c
  let s := s.maskStep u stamp c
  let cap := s.histCap u
  let x := s.cu u
  let s := s.setCu u { x with hist := (y :: x.hist).take (max cap 1), last := stamp }
  if s.cuState u = 5 then s.streamPut u stamp y else s

/-- A new k takes effect at source stamp `st`: what the old k made is closed off before the RATE mark (R338, R340, R341). -/
def State.rateNow (s : State) (u st k' : Nat) : State :=
  let k := (s.cu u).k
  let s := (s.closeItem u).endGap u
  let s := (s.setCu u { s.cu u with k := k', kNew := none }).p (Page.cu u) F.ACQ_CU_STATUS_K k'
  (s.bump (Page.cu u) F.ACQ_RATE_CHANGES).cuMark u 2 st 0 (k' + 16 * k) 0 false 0

/-- One source sample of stamp `st`, whose module count is `w` (R325, R340). -/
def State.feedOne (s : State) (u w st : Nat) (v : IQ) : State :=
  let x := s.cu u
  let sp := srcSpacing (s.cuKind u)
  let s := match x.kNew with
    | some k' => if x.blk = [] ∧ st / sp % 2 ^ max x.k k' = 0 then s.rateNow u st k' else s
    | none => s
  let x := s.cu u
  let s := s.setCu u { x with next := w + sp }
  if x.blk = [] ∧ st / sp % 2 ^ x.k ≠ 0 then s
  else
    let b := x.blk ++ [v]
    if b.length < 2 ^ x.k then s.setCu u { s.cu u with blk := b }
    else
      let y : IQ := (rhu (b.map (·.1)).sum x.k, rhu (b.map (·.2)).sum x.k)
      (s.setCu u { s.cu u with blk := [] }).emit u (st - sp * (2 ^ x.k - 1)) y

/-- Whether a unit takes samples: ARMED, CAPTURING, REARM or STREAMING. -/
def State.cuTakes (s : State) (u : Nat) : Bool := s.cuState u ∈ [1, 2, 3, 5]

/-- Source sample of a unit on an input's ADC or its chain, at stamp `T` (R276, R324): the code, the channel's output u, or
the tone's z. -/
def State.adcSample (s : State) (u T : Nat) : IQ :=
  let i := s.cuIndex u
  let m := 8 * (u / 8) + i / 32
  match s.cuKind u with
  | 0 => (((s.adcCodes (8 * (u / 8) + i)).find? (fun e => e.1 = T)).elim 0 (·.2), 0)
  | 1 => s.chanAt m (i % 32) T
  | _ =>
    let t := 256 * (u / 8) + i
    demod (s.chanAt m (toneChannel ((s.osc (toneLane t)).at T).1) T) (s.theta t T)

/-- The samples of an input's ADC or chain up to the present reach unit `u`. -/
def State.feedAdc (s : State) (u : Nat) : State :=
  let p := s.cuPart u
  let sp := srcSpacing (s.cuKind u)
  let st := gridUp (s.stampOf p (s.cu u).next) sp
  let w := (s.cu u).next + (st - s.stampOf p (s.cu u).next)
  forEach (List.range ((s.now + sp - w) / sp)) s (fun s i =>
    if s.cuTakes u then s.feedOne u (w + i * sp) (st + i * sp) (s.adcSample u (st + i * sp)) else s)

/-- Codes that the ADC of input `m` has given reach the chain and the units that tap the input (R253, R276, R324). -/
def State.adcIn (s : State) (m : Nat) (l : List AdcCode) : State :=
  let s := s.adcTake m l
  forEach ((List.range 32).filter (fun u => s.cuTakes u && s.cuKind u ≤ 2 && s.cuSource u = some (128 + m))) s State.feedAdc

/-- The codes of the present tick of the output that unit `u` taps, after the crossbar (R324). -/
def State.dacCodes (s : State) (u r : Nat) : List Int :=
  match s.cuKind u with
  | 5 => [((s.flxFirst r).flx r).code, ((s.flxTick r).flx r).code]
  | _ => s.guardCodes r (s.cnt (s.outOwner r)).toNat

/-- The codes of the present tick reach unit `u`, which taps output `r`. -/
def State.feedDac (s : State) (u r : Nat) : State :=
  let sp := srcSpacing (s.cuKind u)
  let w := s.now
  let st := s.stampOf (s.cuPart u) w
  let l := s.dacCodes u r
  forEach (List.range l.length) s (fun s i =>
    if s.cuTakes u then s.feedOne u (w + i * sp) (st + i * sp) (l.getD i 0, 0) else s)

/-- Outputs reach the units that tap them (R324), as they make the samples of the present tick. -/
def State.acqTick (s : State) : State :=
  forEach ((List.range 32).filter (fun u => s.cuTakes u && 3 ≤ s.cuKind u)) s (fun s u =>
    match s.cuSource u with | some r => s.feedDac u r | none => s)

/-! ### Groups (R347 to R349) -/

/-- Local members of group `g`: GROUP_EN, GROUP and the group's PARTITION. -/
def State.grpUnits (s : State) (g : Nat) : List Nat :=
  (List.range 32).filter (fun u => s.cuMember g u && s.cuPart u = s.grpPart g)
/-- The member with MASTER set on this module. -/
def State.grpMaster (s : State) (g : Nat) : Option Nat :=
  (s.grpUnits g).find? (fun u => s.on (Page.cu u) F.ACQ_CU_CTRL_MASTER)
/-- Other modules that a group's register lists. -/
def State.grpNodes (s : State) (g : Nat) : List Nat :=
  (List.range 64).filter (fun n => s.g64 (Page.grp g) F.ACQ_GRP_NODES_LO / 2 ^ n % 2 = 1 && n ≠ s.node)
def State.cuGroup (s : State) (u : Nat) : Nat := s.g (Page.cu u) F.ACQ_CU_CTRL_GROUP
/-- A unit is a member of an enabled group. -/
def State.cuGrouped (s : State) (u : Nat) : Bool :=
  s.on (Page.cu u) F.ACQ_CU_CTRL_GROUP_EN && s.on (Page.grp (s.cuGroup u)) F.ACQ_GRP_CTRL_EN
    && s.grpPart (s.cuGroup u) = s.cuPart u

/-- A unit accepts triggers: ARMED, or STREAMING outside its dead time (R333, R335). -/
def State.cuAccepts (s : State) (u : Nat) : Bool :=
  s.cuState u = 1 || (s.cuState u = 5 && (s.cu u).rearm.isNone)

/-- Word 0 of a group message (R348). -/
def State.grpWord (s : State) (g typ frac fv : Nat) : W64 :=
  let p := s.grpPart g
  BitVec.ofNat 64 (p + s.epoch p * 2 ^ 3 + g * 2 ^ 7 + typ * 2 ^ 11 + s.node * 2 ^ 14 + s.myTwin * 2 ^ 20
    + frac * 2 ^ 21 + fv * 2 ^ 25)
/-- A message to every listed module; a module that does not speak for its node sends none (R491). -/
def State.grpSend (s : State) (g typ t frac fv : Nat) : State :=
  if s.speaks then forEach (s.grpNodes g) s (fun s n => s.fabSend 4 n 3 [s.grpWord g typ frac fv, BitVec.ofNat 64 t])
  else s

/-- GROUP_READY of every local member. -/
def State.grpShow (s : State) (g : Nat) (v : Bool) : State :=
  forEach (s.grpUnits g) s (fun s u => s.p (Page.cu u) F.ACQ_CU_STATUS_GROUP_READY (if v then 1 else 0))

/-- Readiness of a group is formed anew (R349): a module without the master replies READY once its members accept. -/
def State.grpSettle (s : State) (g : Nat) : State :=
  let us := s.grpUnits g
  let all : Bool := us ≠ [] && us.all s.cuAccepts
  let was : Bool := us.any (fun u => s.on (Page.cu u) F.ACQ_CU_STATUS_GROUP_READY)
  match s.grpMaster g with
  | some m =>
    let rdy : Bool := all && (s.grpNodes g).all (fun n => n ∈ s.acq.ready.get [] g)
    let s := s.grpShow g rdy
    if rdy then
      let o := (s.cu m).owed
      (s.setCu m { s.cu m with owed := none }).settle o St.success
    else s
  | none =>
    let s := s.grpShow g all
    if all ∧ ¬ was then s.grpSend g 1 0 0 0 else s

/-! ### Triggers (R328 to R332) -/

/-- A trigger is dropped (R332). -/
def State.cuMiss (s : State) (u : Nat) : State :=
  let s := (s.bump (Page.cu u) F.ACQ_TRIG_MISSED).flag (Page.cu u) F.ACQ_CU_STATUS_FIRE_OVERRUN
  s.setCu u { s.cu u with missed := (s.cu u).missed + 1 }

/-- Stamp of the trigger sample of R331. -/
def trigStamp (t frac spc : Nat) : Nat := gridUp (16 * t + frac) (16 * spc) / 16

/-- Bytes that a whole capture takes (R336). -/
def State.capBytes (s : State) (u : Nat) : Nat :=
  32 + ((s.g (Page.cu u) F.ACQ_CU_PRE_PRE + s.g (Page.cu u) F.ACQ_CU_POST_POST) * s.cuBytes u + 31) / 32 * 32
def State.capFits (s : State) (u : Nat) : Bool := (s.cu u).off + s.capBytes u ≤ s.cuRoom u

/-- The trigger last accepted, in its registers (R355). -/
def State.lastTrig (s : State) (u t frac : Nat) (fv : Bool) : State :=
  let pg := Page.cu u
  ((s.p64 pg F.ACQ_LAST_TRIG_LO t).p pg F.ACQ_LAST_FRAC_FRAC frac).p pg F.ACQ_LAST_FRAC_FRAC_VALID (if fv then 1 else 0)

/-- A trigger at T, FRAC is accepted (R333, R334, R339). The TRIGGER mark of a stream is written as the tick ends, since
another trigger of the tick may yet merge with this one. -/
def State.cuTake (s : State) (u t frac : Nat) (fv group : Bool) : State :=
  let pg := Page.cu u
  let st := trigStamp t frac (s.cuSpc u)
  let e := s.tk (s.cuPart u)
  let s := s.lastTrig u t frac fv
  if s.cuState u = 1 ∧ ¬ s.capFits u then (s.flag pg F.ACQ_CU_STATUS_FULL).setCuState u 4
  else
    let s := s.setCu u { s.cu u with shoot := some ⟨t, frac, fv, group, st, e⟩ }
    let s := if s.cuState u = 1 then s.setCuState u 2
      else s.setCu u { s.cu u with rearm := some (16 * (e + max 1 (s.g pg F.ACQ_CU_HOLDOFF_HOLDOFF)), st) }
    (s.maskRestart u st).when (s.on pg F.ACQ_CU_EVT_TRIG_EV_EN = true) (·.publish (s.cuPart u) (s.g pg F.ACQ_CU_EVT_TRIG_CHAN))

/-- The trigger accepted on this tick moves to an earlier T, FRAC (R332). -/
def State.cuRetime (s : State) (u t frac : Nat) (fv : Bool) (h : Shoot) : State :=
  let st := trigStamp t frac (s.cuSpc u)
  let x := s.cu u
  ((s.setCu u { x with shoot := some { h with t := t, frac := frac, fv := fv, stamp := st }
                       rearm := x.rearm.map (fun r => (r.1, st)) }).lastTrig u t frac fv).maskRestart u st

/-- The TRIGGER mark of a stream's accepted trigger (R337, R339). -/
def State.trigMark (s : State) (u : Nat) : State :=
  match (s.cu u).shoot with
  | some h =>
    if s.cuState u = 5 then
      let x := s.cu u
      (s.setCu u { x with shoot := none, missed := 0 }).cuMark u 1 h.t 0
        ((if h.group then 1 else 0) + min x.missed 0xFFFF * 2 ^ 8) h.frac h.fv x.dead
    else s
  | none => s

/-- FIRE of a group at T, FRAC reaches the local members; `own` is the member whose trigger it was (R349). -/
def State.grpFire (s : State) (g t frac : Nat) (fv : Bool) (own : Option Nat) : State :=
  let s := { s with acq.ready := s.acq.ready.set [] g [] }
  let s := forEach (s.grpUnits g) s (fun s u =>
    let mine : Bool := own = some u || (t, frac) ∈ (s.cu u).asked
    let s := s.setCu u { s.cu u with asked := [], req := none }
    if s.cuAccepts u then s.cuTake u t frac fv (!mine) else s.cuMiss u)
  s.grpShow g false

/-- Whether T, FRAC lies before another. -/
def sooner (t frac t' frac' : Nat) : Bool := 16 * t + frac < 16 * t' + frac'

/-- A trigger or FIRE_REQ reaches the master `m` of group `g`, which is ready: those of one tick merge (R332, R349). -/
def State.grpAsk (s : State) (g m t frac : Nat) (fv : Bool) (own : Option Nat) : State :=
  match s.acq.req.get none g with
  | none => { s with acq.req := s.acq.req.set none g (some ⟨t, frac, fv, own⟩) }
  | some r =>
    let s := s.bump (Page.cu ((if r.own = own then own else none).getD m)) F.ACQ_COALESCED
    if sooner t frac r.t r.frac then { s with acq.req := s.acq.req.set none g (some ⟨t, frac, fv, own⟩) } else s

/-- A member without the master here asks for FIRE as the tick ends: its triggers of one tick merge. -/
def State.cuAsk (s : State) (u t frac : Nat) (fv : Bool) : State :=
  match (s.cu u).req with
  | none => s.setCu u { s.cu u with req := some (t, frac, fv) }
  | some (t', f', _) =>
    let s := s.bump (Page.cu u) F.ACQ_COALESCED
    if sooner t frac t' f' then s.setCu u { s.cu u with req := some (t, frac, fv) } else s

/-- A trigger placed at T, FRAC reaches unit `u` (R332, R349). -/
def State.cuTrigger (s : State) (u t frac : Nat) (fv : Bool) : State :=
  let g := s.cuGroup u
  match s.cuGrouped u, (s.cu u).shoot with
  | false, some h =>
    -- it merges with the one accepted on this tick
    if h.at_ = s.tk (s.cuPart u) then
      let s := s.bump (Page.cu u) F.ACQ_COALESCED
      if sooner t frac h.t h.frac then s.cuRetime u t frac fv h else s
    else s.cuMiss u
  | false, none => if s.cuAccepts u then s.cuTake u t frac fv false else s.cuMiss u
  | true, _ =>
    if ¬ s.cuAccepts u ∨ ¬ s.on (Page.cu u) F.ACQ_CU_STATUS_GROUP_READY then s.cuMiss u
    else match s.grpMaster g with
      | some m => s.grpAsk g m t frac fv (some u)
      | none => s.cuAsk u t frac fv

/-- The tick ends: the triggers accepted on it take their final form (R332, R339, R349). -/
def State.acqSettle (s : State) : State :=
  let s := forEach ((List.range 32).filter (fun u => (s.cu u).shoot.isSome)) s State.trigMark
  let s := forEach ((List.range 32).filter (fun u => (s.cu u).req.isSome)) s (fun s u =>
    match (s.cu u).req with
    | some (t, frac, fv) =>
      (s.setCu u { s.cu u with req := none, asked := (s.cu u).asked ++ [(t, frac)] }).grpSend (s.cuGroup u) 2 t frac
        (if fv then 1 else 0)
    | none => s)
  forEach (s.acq.req.map (·.1)) s (fun s g =>
    match s.acq.req.get none g with
    | some r =>
      let s := { s with acq.req := s.acq.req.set none g none }
      (s.grpSend g 3 r.t r.frac (if r.fv then 1 else 0)).grpFire g r.t r.frac r.fv r.own
    | none => s)

/-- T of a trigger that takes effect on the present tick: the first sample at or after its start (R330). -/
def State.cuNow (s : State) (u : Nat) : Nat := gridUp (16 * s.tk (s.cuPart u)) (s.cuSpc u)

/-- A trigger of R328 as a placed time, if the unit's TSRC takes it; a level trigger is the detector's oldest. -/
def State.place (s : State) (u : Nat) (r : Trig) : Option (Nat × Nat × Bool) :=
  let pg := Page.cu u
  let src := s.g pg F.ACQ_CU_TRIG_TSRC
  let spc := s.cuSpc u
  let fine := s.on pg F.ACQ_CU_TRIG_PLACE
  match r.src with
  | 0 => some (s.cuNow u, 0, false)
  | 1 => if src = 1 ∧ s.evr.now.get false (s.g pg F.ACQ_CU_TRIG_TINDEX) = true
      ∧ s.maySubscribe (s.cuPart u) (s.g pg F.ACQ_CU_TRIG_TINDEX) = true then some (s.cuNow u, 0, false) else none
  | 2 =>
    let k := s.g pg F.ACQ_CU_TRIG_TINDEX
    if src = 2 ∧ k < 64 ∧ ¬ s.on (Page.acqq (k / 16) + k % 16 * 4) F.ACQ_K_CFG_DIR then
      (if fine then some (r.t, r.frac % 16, true) else some (trigStamp r.t (r.frac % 16) spc, 0, false))
    else none
  | _ =>
    if src ≠ 3 then none
    else match (s.cu u).fires with
      | [] => none
      | (st, p, c) :: _ =>
        if fine then
          let lv := s.gi pg F.ACQ_CU_LEVEL_LEVEL
          let f := 16 * (st - spc) + 16 * spc * (lv - p).natAbs / (c - p).natAbs
          some (f / 16, f % 16, true)
        else some (st, 0, false)

/-- The earliest of a list of placed times. -/
def earliest : List (Nat × Nat × Bool) → Option (Nat × Nat × Bool)
  | [] => none
  | a :: l => match earliest l with
    | none => some a
    | some b => if 16 * b.1 + b.2.1 < 16 * a.1 + a.2.1 then some b else some a

/-- The placed times of a list of triggers; each level trigger takes the detector's oldest firing. -/
def State.placeAll (s : State) (u : Nat) : List Trig → State × List (Nat × Nat × Bool)
  | [] => (s, [])
  | r :: l =>
    let t := (s.place u r).toList
    let s := if 3 ≤ r.src then s.setCu u { s.cu u with fires := (s.cu u).fires.drop 1 } else s
    let k := s.placeAll u l
    (k.1, t ++ k.2)

/-- Triggers that reach a unit on one tick merge (R332). -/
def State.cuTriggers (s : State) (u : Nat) (ts : List Trig) : State :=
  let k := s.placeAll u ts
  match earliest k.2 with
  | none => k.1
  | some (t, f, v) => (k.1.when (1 < k.2.length) (·.bump (Page.cu u) F.ACQ_COALESCED (k.2.length - 1))).cuTrigger u t f v

/-! ### Captures (R334 to R336) -/

/-- Bytes written into the acquisition buffer. -/
def State.bufWrite (s : State) (a : Nat) (b : List Byte) : State :=
  { s with acq.buf := writeBytes s.acq.buf a b }

/-- A violation that MACTION acts on has a stamp from `lo` to `hi` (R337 flag MASK, R346). -/
def State.hitIn (s : State) (u lo hi : Nat) : Bool :=
  let x := s.cu u
  s.g (Page.cu u) F.ACQ_CU_MASK_MACTION ≠ 0
    && (x.hits ++ (x.viols.filter (·.2.2)).map (·.1)).any (fun t => lo ≤ t && t ≤ hi)

/-- The capture in progress is stored as one item. -/
def State.capStore (s : State) (u : Nat) (incomplete : Bool) : State :=
  match (s.cu u).shoot with
  | none => s
  | some h =>
    let pg := Page.cu u
    let spc := s.cuSpc u
    let pre := s.g pg F.ACQ_CU_PRE_PRE
    let lo := h.stamp - pre * spc
    let hi := h.stamp + (s.g pg F.ACQ_CU_POST_POST - 1) * spc
    let l := s.heldFrom u lo hi
    let np := (l.filter (fun e => decide (e.1 < h.stamp))).length
    let short : Bool := np < pre
    let x := s.cu u
    let sub := (if incomplete then 1 else 0) + (if short then 2 else 0) + (if h.group then 4 else 0)
      + (if s.hitIn u lo hi then 8 else 0)
    let b := s.itemBytes u 0 x.k h.t x.item h.frac (if h.fv then 1 else 0) l.length sub np x.dead
      (l.flatMap (fun e => sampleBytes (s.cuKind u) e.2))
    let s := s.bufWrite (s.cuBase u + x.off) b
    let s := s.setCu u { x with off := x.off + b.length, caps := x.caps + 1, item := x.item + 1, shoot := none }
    (s.bump pg F.ACQ_CAPTURES).when (short = true) (·.flag pg F.ACQ_CU_STATUS_PRE_SHORT)

/-- Sample n0 + POST − 1 is written. -/
def State.capWhole (s : State) (u : Nat) : Bool :=
  match (s.cu u).shoot with
  | none => false
  | some h => h.stamp + (s.g (Page.cu u) F.ACQ_CU_POST_POST - 1) * s.cuSpc u ≤ (s.cu u).last && (s.cu u).hist ≠ []

/-- The dead time of R335 in T_exp units, for MODE 1 and 2. -/
def State.deadUnits (s : State) (u : Nat) : Nat :=
  let pre := s.g (Page.cu u) F.ACQ_CU_PRE_PRE
  let post := s.g (Page.cu u) F.ACQ_CU_POST_POST
  max (post * s.cuSpc u + 256) ((post + pre) * s.cuSpc u)

/-- A capture is whole: the unit goes on by R333. One that a mask violation is to stop stays as it is until then (R346). -/
def State.capDone (s : State) (u : Nat) : State :=
  match (s.cu u).shoot with
  | none => s
  | some h =>
    let pg := Page.cu u
    let s := s.capStore u false
    let n := s.g pg F.ACQ_CU_COUNT
    if (s.cu u).stopAt.isSome then s
    else if s.g pg F.ACQ_CU_CTRL_MODE = 1 ∨ (n ≠ 0 ∧ n ≤ (s.cu u).caps) then s.setCuState u 4
    else if ¬ s.capFits u then (s.flag pg F.ACQ_CU_STATUS_FULL).setCuState u 4
    else (s.setCu u { s.cu u with rearm := some (h.stamp + s.deadUnits u, h.stamp) }).setCuState u 3

/-- The dead time ends (R335). -/
def State.deadOver (s : State) (u : Nat) : State :=
  match (s.cu u).rearm with
  | none => s
  | some (t, st) =>
    let pg := Page.cu u
    let d := (t - st + 15) / 16
    let s := s.setReg (pg + F.ACQ_DEAD_LAST.off) (BitVec.ofNat 32 (min d 0xFFFFFFFF))
    let s := s.when ((s.reg (pg + F.ACQ_DEAD_MAX.off)).toNat < d) (·.setReg (pg + F.ACQ_DEAD_MAX.off) (BitVec.ofNat 32 (min d 0xFFFFFFFF)))
    let s := s.setCu u { s.cu u with rearm := none, dead := d }
    let s := if s.cuState u = 3 ∧ (s.cu u).stopAt.isNone then s.setCuState u 1 else s
    if s.cuGrouped u then s.grpSettle (s.cuGroup u) else s

/-! ### Arming and stopping (R333, R347, R349) -/

/-- The rate of a unit at K_MIN (R327), in 4,096ths of a GB/s. -/
def State.cuRate (s : State) (u : Nat) : Nat := srcRate (s.cuKind u) * 4096 / 2 ^ s.g (Page.cu u) F.ACQ_CU_SRC_K_MIN

/-- The pages of two units meet (R327). -/
def State.pagesMeet (s : State) (u v : Nat) : Bool :=
  let b := fun w => s.g (Page.cu w) F.ACQ_CU_BUF_BASE
  let n := fun w => s.g (Page.cu w) F.ACQ_CU_BUF_LEN
  decide (b u < b v + n v) && decide (b v < b u + n u)

/-- The conditions on a unit that arms (R326, R327, R333), with the units `with_` that arm together with it: the refusal. -/
def State.cuRefusal (s : State) (u : Nat) (with_ : List Nat) : Option Nat :=
  let pg := Page.cu u
  let others := ((List.range 8).map (8 * (u / 8) + ·)).filter (fun v => v ≠ u && s.cuRuns v)
  let more := with_.filter (fun v => v ≠ u && v / 8 = u / 8 && !s.cuRuns v)
  if s.pwr.mode ≠ .ready ∨ s.cuRuns u = true then some St.badState
  else if ¬ s.srcLive u ∨ s.cuSource u ≠ none ∧ s.owner ((s.cuSource u).getD 0) ≠ s.cuPart u then some St.invalidParam
  else if ¬ s.anchored (s.cuPart u) then some St.unanchored
  else if 4096 < s.g pg F.ACQ_CU_BUF_BASE + s.g pg F.ACQ_CU_BUF_LEN ∨ others.any (s.pagesMeet u) = true then some St.invalidParam
  else if 64 * 4096 < s.cuRate u + (others.map s.cuRate).sum + (more.map s.cuRate).sum then some St.invalidParam
  else if s.g pg F.ACQ_CU_CTRL_MODE = 0 ∨ s.g pg F.ACQ_CU_SRC_K_MAX < s.g pg F.ACQ_CU_SRC_K_MIN
      ∨ (s.g pg F.ACQ_CU_CTRL_MODE = 3 ∧ ¬ s.on pg F.STR_CTRL_ENABLE) then some St.badState
  else none

/-- The refusal of an arm request, by R333, R326, R327 and R347. -/
def State.cuArmRefusal (s : State) (u : Nat) : Option Nat :=
  let pg := Page.cu u
  let us := if s.cuGrouped u then s.grpUnits (s.cuGroup u) else []
  match s.cuRefusal u us with
  | some e => some e
  | none =>
    if s.on pg F.ACQ_CU_CTRL_GROUP_EN = true ∧ ¬ s.on pg F.ACQ_CU_CTRL_MASTER then some St.badState
    else if us.any (fun v => s.g (Page.cu v) F.ACQ_CU_CTRL_MODE ≠ s.g pg F.ACQ_CU_CTRL_MODE) = true then some St.invalidParam
    else none

/-- A unit is armed (R333). -/
def State.cuStart (s : State) (u : Nat) : State :=
  let pg := Page.cu u
  let k := s.g pg F.ACQ_CU_SRC_K_MIN
  let sp := srcSpacing (s.cuKind u)
  let x := s.cu u
  let n := s.g pg F.ACQ_CU_MASK_MCOUNT
  let first := gridUp (s.cnt (s.cuPart u)).toNat sp
  let s := s.setCu u { Cu.zero with
    k := k, next := s.now + (first - (s.cnt (s.cuPart u)).toNat), changed := s.now, owed := x.owed, lenPend := x.lenPend, lenMark := x.lenMark
    seg := if n = 0 ∨ s.on pg F.ACQ_CU_MASK_MREL = true then none else some 0 }
  let s := { s with acq.buf := s.acq.buf.filter (fun e => !(s.cuBase u ≤ e.1 && e.1 < s.cuBase u + s.cuRoom u)) }
  let s := s.setReg (pg + F.ACQ_DEAD_MAX.off) 0
  let s := (s.p pg F.ACQ_CU_STATUS_K k).unflag pg F.ACQ_CU_STATUS_FULL
  if s.g pg F.ACQ_CU_CTRL_MODE = 3 then (s.setCuState u 5).cuMark u 0 (gridUp first (sp * 2 ^ k)) 0 k 0 false 0
  else s.setCuState u 1

/-- Local members arm on the master's request, where the conditions of R326, R327 and R333 admit them. -/
def State.grpArm (s : State) (g : Nat) : State :=
  forEach (s.grpUnits g) s (fun s u => if s.cuRefusal u [] = none then s.cuStart u else s)

/-- A group's arming starts afresh: no member has reported, and no request waits. -/
def State.grpClear (s : State) (g : Nat) : State :=
  { s with acq.ready := s.acq.ready.set [] g [], acq.req := s.acq.req.set none g none }

/-- An accepted arm request (R333, R349): the unit, or the group of which it is the master. -/
def State.cuArm (s : State) (u : Nat) (owed : Option (Nat × Nat)) : State :=
  let s := s.cuStart u
  if ¬ s.cuGrouped u then s.settle owed St.success
  else
    let g := s.cuGroup u
    let s := (s.setCu u { s.cu u with owed := owed }).grpClear g
    ((s.grpArm g).grpSend g 0 0 0 0).grpSettle g

/-- A stream ends with an END mark of T the last sample written: nothing follows it (R337, R338). -/
def State.streamEnd (s : State) (u cause : Nat) : State :=
  let s := ((s.trigMark u).closeItem u).endGap u
  let x := s.cu u
  s.setCu u { x with fifo := x.fifo ++ [{ kind := 2, sub := 6, t := x.lastPut, k := x.k, arg := cause }] }

/-- A unit ends: cause 0 stop, 1 mask stop, 2 SAFE, 3 DARK; it comes to state `v` (R333). -/
def State.cuEnd (s : State) (u cause v : Nat) : State :=
  let st := s.cuState u
  let s := if st = 2 then s.capStore u true else s
  let s := if st = 5 then s.streamEnd u cause else s
  let s := s.settle (s.cu u).owed St.aborted
  let x := s.cu u
  (s.setCu u { x with shoot := none, rearm := none, owed := none, asked := [], req := none, fires := [], stopAt := none,
                      gap := none, opn := none, blk := [], kNew := none }).setCuState u v

/-- The members of group `g` here end by a STOP (R349). -/
def State.grpStop (s : State) (g : Nat) : State :=
  let s := forEach (s.grpUnits g) s (fun s u => if s.cuState u = 0 then s else s.cuEnd u 0 0)
  { s with acq.req := s.acq.req.set none g none }.grpShow g false

/-- A stop request (R333, R349): a master stops its group. -/
def State.cuStop (s : State) (u : Nat) : State :=
  if s.cuGrouped u ∧ s.on (Page.cu u) F.ACQ_CU_CTRL_MASTER = true then
    (s.grpSend (s.cuGroup u) 4 0 0 0).grpStop (s.cuGroup u)
  else if s.cuState u = 0 then s else s.cuEnd u 0 0

/-- Units in any state but IDLE whose source has become DARK or disabled end (R333). -/
def State.acqSweep (s : State) : State :=
  forEach ((List.range 32).filter (fun u => s.cuState u ≠ 0 && !s.srcLive u)) s (fun s u => s.cuEnd u 3 0)

/-- SAFE entry ends every unit (R333). -/
def State.acqSafe (s : State) : State :=
  forEach ((List.range 32).filter (fun u => s.cuState u ≠ 0)) s (fun s u => s.cuEnd u 2 0)

/-- The epoch of partition `p` has changed: its groups are not ready, and masters send ARM again (R348). -/
def State.acqEpoch (s : State) (p : Nat) : State :=
  forEach ((List.range 16).filter (fun g => s.grpPart g = p && s.on (Page.grp g) F.ACQ_GRP_CTRL_EN
      && (s.grpUnits g).any s.cuRuns)) s (fun s g =>
    let s := { s with acq.ready := s.acq.ready.set [] g [], acq.req := s.acq.req.set none g none }
    let s := s.grpShow g false
    match s.grpMaster g with
    | some _ => (s.grpSend g 0 0 0 0).grpSettle g
    | none => s)

/-- A mask stop whose samples have come (R346). -/
def State.cuStopCheck (s : State) (u : Nat) : State :=
  match (s.cu u).stopAt with
  | none => s
  | some t =>
    if t ≤ (s.cu u).last then
      (if s.cuState u = 2 ∧ s.capWhole u = true then s.capStore u false else s).cuEnd u 1 6
    else s

/-- One violation is acted on (R346). -/
def State.violate (s : State) (u stamp seg : Nat) (first : Bool) : State :=
  let pg := Page.cu u
  let act := s.g pg F.ACQ_CU_MASK_MACTION
  let s := (s.bump pg F.ACQ_MASK_VIOLATIONS).flag pg F.ACQ_CU_STATUS_MASK_VIOL
  if ¬ first then s
  else
    let s := s.when (s.on pg F.ACQ_CU_EVT_MASK_EV_EN = true) (·.publish (s.cuPart u) (s.g pg F.ACQ_CU_EVT_MASK_CHAN))
    if act = 0 ∨ act = 3 then s
    else
      let s := if s.cuState u = 5 then s.cuMark u 4 stamp 0 seg 0 false 0
        else s.setCu u { s.cu u with hits := (s.cu u).hits ++ [stamp] }
      if act = 2 ∧ s.cuTakes u = true then
        let s := if s.cuState u = 1 then s.cuTrigger u stamp 0 false else s
        if (s.cu u).stopAt.isNone ∧ s.cuTakes u = true then
          s.setCu u { s.cu u with stopAt := some (stamp + s.g pg F.ACQ_CU_POST_POST * s.cuSpc u) }
        else s
      else s

/-! ### Stream rings (R342, R343) -/

def State.strLen (s : State) (u : Nat) : Nat := 4096 * s.g (Page.cu u) F.STR_LEN_SIZE
def State.strProd (s : State) (u : Nat) : Nat := s.g (Page.cu u) F.STR_PROD
def State.strCons (s : State) (u : Nat) : Nat := s.g (Page.cu u) F.STR_CONS
def State.strBase (s : State) (u : Nat) : Nat :=
  4096 * s.g (Page.cu u) F.STR_BASE_LO_BASE_LO + 2 ^ 32 * s.g (Page.cu u) F.STR_BASE_HI_BASE_HI
/-- STR_PROD has wrapped under a pending length. -/
def State.strHeld (s : State) (u : Nat) : Bool := match (s.cu u).lenPend with | some (_, w) => w | none => false
def State.strFree (s : State) (u : Nat) : Nat :=
  let n := s.strLen u
  if n = 0 ∨ s.strHeld u = true then 0 else (((s.strCons u : Int) - s.strProd u - 32) % n).toNat

/-- A pending length takes effect; a LENGTH mark falls due. -/
def State.strTake (s : State) (u : Nat) : State :=
  match (s.cu u).lenPend with
  | none => s
  | some (n, _) =>
    ((s.setCu u { s.cu u with lenPend := none, lenMark := some n }).p (Page.cu u) F.STR_LEN_SIZE n).unflag
      (Page.cu u) F.ACQ_CU_STATUS_LENGTH_PENDING

/-- STR_PROD moves to `n`; a pending length goes on as R275 says. -/
def State.strProdTo (s : State) (u n : Nat) : State :=
  let s := s.p (Page.cu u) F.STR_PROD n
  match (s.cu u).lenPend with
  | none => s
  | some (m, _) =>
    if n ≠ 0 then s
    else if s.strCons u = 0 then s.strTake u
    else s.setCu u { s.cu u with lenPend := some (m, true) }

/-- STR_BASE changes, or STR_CTRL.ENABLE is set from 0. -/
def State.strRestart (s : State) (u : Nat) : State :=
  ((s.p (Page.cu u) F.STR_PROD 0).p (Page.cu u) F.STR_CONS 0).strTake u

/-- A length of `n` units of 4 KiB is written (R343, R275). -/
def State.strResize (s : State) (u n : Nat) : State :=
  if ¬ s.cuRuns u ∧ s.strProd u < 4096 * n ∧ s.strCons u < 4096 * n then
    ((s.setCu u { s.cu u with lenPend := none, lenMark := some n }).p (Page.cu u) F.STR_LEN_SIZE n).unflag
      (Page.cu u) F.ACQ_CU_STATUS_LENGTH_PENDING
  else (s.setCu u { s.cu u with lenPend := some (n, s.strHeld u) }).flag (Page.cu u) F.ACQ_CU_STATUS_LENGTH_PENDING

/-- The host writes STR_CONS (R272, R342). -/
def State.strConsume (s : State) (u v : Nat) : State :=
  if v % 32 ≠ 0 ∨ s.strLen u ≤ v then s.flag (Page.cu u) F.ACQ_CU_STATUS_BAD_CONS
  else
    let s := s.p (Page.cu u) F.STR_CONS v
    match (s.cu u).lenPend with
    | some (_, true) => if v = 0 then s.strTake u else s
    | _ => s

/-- A PAD item fills the ring of unit `u` from the producer offset to its end (R337, R342). -/
def State.strPad (s : State) (u : Nat) : State :=
  let n := s.strLen u - s.strProd u
  (s.hostWrite (s.strBase u + s.strProd u) (leBytes 4 (0x7A52 + 3 * 2 ^ 16) ++ leBytes 4 n ++ List.replicate 24 0)).strProdTo u 0

/-- Item `b` is written at the producer offset. -/
def State.strStore (s : State) (u : Nat) (b : List Byte) : State :=
  let n := s.strProd u + b.length
  (s.hostWrite (s.strBase u + s.strProd u) b).strProdTo u (if n = s.strLen u then 0 else n)

/-- Item `b` goes to the ring if it fits, after a PAD item where it would cross the ring's end: the state, and whether the item
is written. Under a pending length the PAD ends what the free space admits (R275, R343): the item follows later. -/
def State.strPut (s : State) (u : Nat) (b : List Byte) : State × Bool :=
  let len := s.strLen u
  if s.strFree u < recNeed len (s.strProd u) b.length then (s, false)
  else if s.strProd u + b.length ≤ len then (s.strStore u b, true)
  else if (s.cu u).lenPend.isSome then (s.strPad u, false)
  else ((s.strPad u).strStore u b, true)

/-- The item that goes next, if one waits: a LENGTH mark is the first at offset 0 under a new length (R343). -/
def Cu.nextItem (x : Cu) (atZero : Bool) : Option SItem :=
  match x.fifo with
  | [] => none
  | it :: _ =>
    match x.lenMark with
    | some n => if atZero then some { kind := 2, sub := 5, t := 0, k := x.k, arg := n } else some it
    | none => some it

/-- The next item goes to the ring (R342, R343). -/
def State.strWrite (s : State) (u : Nat) : State :=
  if s.pwr.mode = .banked ∨ ¬ s.hif.linkUp ∨ ¬ s.hif.bme ∨ ¬ s.on (Page.cu u) F.STR_CTRL_ENABLE then s
  else
    let x := s.cu u
    let mark : Bool := x.lenMark.isSome && s.strProd u = 0
    match x.nextItem (s.strProd u = 0) with
    | none => s
    | some it =>
      let r := s.strPut u (s.sitemBytes u x.item it)
      if ¬ r.2 then r.1
      else
        let y := r.1.cu u
        (r.1.setCu u (if mark then { y with item := y.item + 1, lenMark := if y.lenMark = x.lenMark then none else y.lenMark }
          else { y with item := y.item + 1, fifo := y.fifo.drop 1 })).lowMark u

end Sys2Proof.Machine
end

