-- ==== Sys2Proof/Machine/Command.lean ====
section
/-!
DEFINITION. Machine/Command.lean: what every command packet goes through: the checks of R446 in order, the
waits of R443 and R447, the routine context and the groups that it holds (R511 to R513), and its execution.
-/

namespace Sys2Proof

/-! ### A packet's fields (R442, R443) -/

def Pkt.irq (p : Pkt) : Bool := p.flags % 2 = 1
def Pkt.fence (p : Pkt) : Bool := p.flags / 2 % 2 = 1
def Pkt.atShot (p : Pkt) : Bool := p.flags / 4 % 2 = 1
/-- Words of the shot prefix. -/
def Pkt.pre (p : Pkt) : Nat := if p.atShot then 2 else 0
/-- Parameter word w_i, after the shot prefix. -/
def Pkt.w (p : Pkt) (i : Nat) : Word := p.words.getD (p.pre + i) 0
def Pkt.n (p : Pkt) (i : Nat) : Nat := (p.w i).toNat
/-- A 64-bit parameter: low half first (R450). -/
def Pkt.w64 (p : Pkt) (i : Nat) : Nat := p.n i + p.n (i + 1) * 2 ^ 32
/-- The shot number of AT_SHOT. -/
def Pkt.shotNo (p : Pkt) : Nat := (p.words.getD 0 0).toNat + (p.words.getD 1 0).toNat % 2 ^ 16 * 2 ^ 32
/-- The parameter words after the prefix, from w_i on. -/
def Pkt.from (p : Pkt) (i : Nat) : List Word := p.words.drop (p.pre + i)

/-- A copy from host memory of `n` bytes: the bytes, if the host answered with all of them (R457). -/
def Pkt.data (p : Pkt) (n : Nat) : Option (List Byte) := if p.host.length < n then none else some (p.host.take n)

end Sys2Proof

namespace Sys2Proof.Machine
open Sys2Proof

/-! ### Commands -/

/-- A command of the opcode tables (R453, R454 and the command tables of the chapters). -/
structure Cmd where
  op : Nat
  /-- PF0-only (R434) -/
  pf0 : Bool := false
  /-- which TARGET values are in range (R449) -/
  tgt : Nat → Bool := fun t => t = 0
  /-- what in the target or parameters belongs to another partition than a VF's own (R434) -/
  view : State → Pkt → Option Fail := fun _ _ => none
  /-- number of parameter words, and the count word that gives it (R450) -/
  len : Pkt → Nat := fun _ => 0
  cnt : Option Nat := none
  /-- the first parameter word out of range, with reserved bits or with a reserved encoding (R446 step 6) -/
  bad : State → Pkt → Option Nat := fun _ _ => none
  /-- refused with AT_SHOT: needs its partition IDLE, or changes a field that does (R443) -/
  idle : State → Pkt → Bool := fun _ _ => false
  /-- the preconditions, in the order in which the chapter lists them (R446 step 7) -/
  chk : State → Pkt → Option Fail := fun _ _ => none
  /-- the registers of its function, as address ranges (first, length), and their groups (R17, R447, R512) -/
  holds : State → Pkt → List (Nat × Nat) := fun _ _ => []
  grps : Pkt → List Nat := fun _ => []
  /-- what a refusal by its checks leaves besides the completion -/
  rej : State → Pkt → Fail → State := fun s _ _ => s
  /-- what it does; it finishes the packet or leaves it executing -/
  run : State → Pkt → State

/-- The first check of a list that fails. -/
def firstFail : List (Bool × Fail) → Option Fail
  | [] => none
  | (b, f) :: l => if b then some f else firstFail l

/-- The first word of a list of (index, at fault) that is at fault. -/
def firstBad : List (Nat × Bool) → Option Nat
  | [] => none
  | (i, b) :: l => if b then some i else firstBad l

/-- The bits of a list of fields. -/
def fldMask : List Fld → Word
  | [] => 0
  | f :: l => wmask f.hi f.lo ||| fldMask l

/-- Whether word `w` is no proper image of fields `fl` of the register at `a`, for function `fn`: another bit set,
or a reserved encoding (R13, R450). -/
def State.badImg (s : State) (fn a : Nat) (fl : List Fld) (w : Word) : Bool :=
  (w &&& ~~~ fldMask fl) ≠ 0 ||
  (match regAt a with
   | none => false
   | some (r, ix) => fl.any (fun f => !s.legal fn r ix f.lo (wget w f.hi f.lo) w))

/-- As `badImg`, for every writable field of the register. -/
def State.badReg (s : State) (fn a : Nat) (w : Word) : Bool :=
  let fs := (fieldsAt a).filter (fun f => f.acc ∈ [Acc.rw, .rl, .rsSeg, .rsShot, .rsRun])
  s.badImg fn a (fs.map (fun f => ⟨0, f.hi, f.lo⟩)) w

/-- A host address must be 8-byte aligned (R450): the word index of its low half at fault. -/
def misaligned (p : Pkt) (i : Nat) : Nat × Bool := (i, p.n i % 8 ≠ 0)

/-- A VF's target must be its partition's (R434). -/
def ownTarget (own : Nat) (p : Pkt) : Option Fail := if p.fn ≠ 0 ∧ own ≠ p.fn then some Fail.target else none

/-- A tag is outstanding from the fetch until the completion is posted (R445). -/
def State.tagOut (s : State) (fn tag : Nat) : Bool := s.hif.slots.any (fun sl => sl.p.fn = fn && sl.p.tag = tag)

/-- The checks of R446 in order: the refusal, and whether it counts as denied (R434). -/
def State.check (s : State) (c : Option Cmd) (p : Pkt) : Option (Fail × Bool) :=
  if p.rsv ≠ 0 ∨ p.flags / 8 ≠ 0 ∨ 5 ≤ p.part ∨ p.len % 4 ≠ 0 ∨ 4096 < p.len then some (.plain St.badHeader, false)
  else if s.tagOut p.fn p.tag then some (.plain St.duplicateTag, false)
  else match c with
  | none => some (.plain St.badOpcode, false)
  | some c =>
    -- a recovery hold accepts HRT_IDENTIFY, LOG_FETCH and the SEC commands only (R654)
    if s.recovery ∧ ¬ (c.op = 0x0001 ∨ c.op = 0x0C00 ∨ c.op / 256 = 5) then some (.plain St.badState, false)
    else if p.fn ≠ 0 ∧ (p.part ≠ p.fn ∨ c.pf0) then some (.plain St.invalidParam, true)
    else match (if p.fn = 0 then none else c.view s p) with
    | some f => some (f, true)
    | none =>
      if p.len ≠ 4 * (p.pre + c.len p) ∨ p.words.length * 4 ≠ p.len then
        some ((match c.cnt with | some i => Fail.atWord St.badLength i | none => .plain St.badLength), false)
      else if ¬ c.tgt p.target then some (Fail.target, false)
      else if p.atShot ∧ (p.words.getD 1 0).toNat / 2 ^ 16 ≠ 0 then some (Fail.atWord St.invalidParam 1, false)
      else match c.bad s p with
      | some i => some (Fail.atWord St.invalidParam i, false)
      | none =>
        if p.atShot ∧ c.idle s p then some (.plain St.invalidParam, false)
        else if p.atShot ∧ p.shotNo < s.g64 (Page.part p.part) F.PART_SHOT_NUM_LO then
          some (.plain St.boundaryPast, false)
        else (c.chk s p).map (·, false)

/-- A refused packet completes without execution. -/
def State.refuse (s : State) (p : Pkt) (f : Fail) (denied : Bool) : State :=
  let s := s.when (denied = true) (·.deny p.fn)
  let s := s.when (f.status = St.duplicateTag) (·.bump (Page.fn p.fn) F.HIF_FN_DUP_TAGS)
  { s with hif.slots := s.hif.slots ++
      [{ s.newSlot p .done with status := f.status, detail := f.detail, word := f.word }] }

/-- Whether two address ranges meet. -/
def meets (x y : Nat × Nat) : Bool := x.1 < y.1 + y.2 && y.1 < x.1 + x.2

/-- Whether ranges meet what an executing command, or an internal routine, holds. -/
def State.overlaps (s : State) (hs : List (Nat × Nat)) : Bool :=
  s.hrt.ctx.any (fun c => c.2.st ≠ 0 && c.2.holds.any (fun x => hs.any (meets x)))

/-- Slots before the packet of (sq, tag) in fetch order. -/
def before (sq tag : Nat) : List Slot → List Slot
  | [] => []
  | sl :: l => if sl.isOf sq tag then [] else sl :: before sq tag l

/-- The shot of AT_SHOT has started: its SHOT_START has released (R443). -/
def State.shotBegun (s : State) (p : Pkt) : Bool :=
  let n := s.g64 (Page.part p.part) F.PART_SHOT_NUM_LO
  p.shotNo < n || (n = p.shotNo && (s.prt p.part).inShot)

/-- An earlier-fetched command that has not completed overlaps the function of the packet (R447). -/
def State.laterThan (s : State) (c : Cmd) (p : Pkt) : Bool :=
  (before p.sq p.tag s.hif.slots).any (fun sl => sl.st ≠ .done && sl.holds.any (fun x => (c.holds s p).any (meets x)))

/-- Whether every wait of R447 that applies to a packet has ended: AT_SHOT, FENCE, overlap, a free context. -/
def State.mayStart (s : State) (c : Cmd) (p : Pkt) : Bool :=
  (!p.atShot || s.shotBegun p)
    && (!p.fence || (before p.sq p.tag s.hif.slots).all (fun sl => sl.p.sq ≠ p.sq || sl.st = .done))
    && !s.laterThan c p && !s.overlaps (c.holds s p)
    && (s.freeSlot 0 16).isSome && s.hrt.quiesce.isNone

/-- The packet begins execution in the lowest free host context, which takes its groups (R447, R511, R513). -/
def State.begin (s : State) (c : Cmd) (p : Pkt) : State :=
  let s := match s.freeSlot 0 16 with
    | some k => s.takeCtx k { st := 1, internal := false, op := p.op, tag := p.tag, sq := p.sq, groups := c.grps p, holds := c.holds s p }
    | none => s
  match markFirst p.sq p.tag (fun sl => { sl with st := .executing, t0 := s.now, shot := none }) s.hif.slots with
  | some l => { s with hif.slots := l }
  | none => s

/-- The packet that COMMAND_START has started under this queue, tag and opcode, its effect not yet begun. -/
def State.started (s : State) (p : Pkt) : Option Pkt :=
  (s.hif.slots.find? (fun sl => sl.isOf p.sq p.tag && sl.p.op = p.op && sl.st = .executing && !sl.begun)).map (·.p)

/-- Accept a packet that passed its checks: it waits for what R447 names. -/
def State.accept (s : State) (c : Cmd) (p : Pkt) : State :=
  let sl := s.newSlot p .waiting
  { s with hif.slots := s.hif.slots ++
      [{ sl with shot := if p.atShot then some p.shotNo else none, holds := c.holds s p }] }

/-- Run the body of a command whose packet is executing. -/
def State.body (s : State) (c : Cmd) (p : Pkt) : State :=
  match markFirst p.sq p.tag (fun sl => { sl with begun := true }) s.hif.slots with
  | some l => c.run { s with hif.slots := l } p
  | none => c.run s p

/-- A command: the effect of a packet that COMMAND_START has started; otherwise the packet is checked, and
executes at once if nothing makes it wait. -/
def State.command (s : State) (c : Cmd) (p : Pkt) : State :=
  let p := { p with op := c.op }
  if ¬ s.serving ∧ ¬ s.recovery then s
  else match s.started p with
  | some x => s.body c { x with host := p.host }
  | none =>
    match s.check (some c) p with
    | some (f, d) => c.rej (s.refuse p f d) p f
    | none =>
      let s := s.accept c p
      if s.mayStart c p then (s.begin c p).body c p else s

/-- A host-memory request of a command fails: it completes with HOST_MEMORY (R457). -/
def State.hostFail (s : State) (p : Pkt) (result : Nat := 0) : State :=
  (s.bump Page.hif F.HIF_DMA_ERRORS).finish p (.plain St.hostMemory) result

/-- Run `f` on the bytes that a command copies from host memory; data that did arrive still stands. -/
def State.withData (s : State) (p : Pkt) (n : Nat) (f : State → List Byte → State) : State :=
  match p.data n with
  | some d => (f s d).succeed p
  | none => (f s p.host).hostFail p

end Sys2Proof.Machine
end

