-- ==== Sys2Proof/Machine/HostOps.lean ====
section
/-!
DEFINITION. Machine/HostOps.lean: doorbells and queues (R436 to R441), completions and messages (R444, R455),
and what resets of the link and its functions discard (R457).
-/

namespace Sys2Proof.Machine
open Sys2Proof

/-! ### Queues -/

def State.sqSize (s : State) (n : Nat) : Nat := 2 ^ s.g (Page.sq n) F.SQ_SIZE_LOG2
def State.cqSize (s : State) (n : Nat) : Nat := 2 ^ s.g (Page.cq n) F.CQ_SIZE_LOG2
def State.sqHead (s : State) (n : Nat) : Nat := s.g (Page.sq n) F.SQ_HEAD_HEAD
def State.sqTail (s : State) (n : Nat) : Nat := s.g (Page.db n) ⟨0, 15, 0⟩
def State.cqTail (s : State) (n : Nat) : Nat := s.g (Page.cq n) F.CQ_TAIL_TAIL
def State.cqHead (s : State) (n : Nat) : Nat := s.g (Page.db n) ⟨4, 15, 0⟩
/-- The completion queue to which submission queue `n` is bound. -/
def State.cqOf (s : State) (n : Nat) : Nat := s.g (Page.sq n) F.SQ_CTRL_CQ
/-- R439. -/
def State.cqFull (s : State) (n : Nat) : Bool := (s.cqTail n + 1) % s.cqSize n = s.cqHead n

/-- Host memory may be reached on behalf of function `fn` (R457). -/
def State.dma (s : State) (fn : Nat) : Bool := s.hif.linkUp && s.hif.bme && !s.hif.d3.get false fn

/-- A submission doorbell takes effect (R436, R437). -/
def State.ringSq (s : State) (n v : Nat) : State :=
  if s.hif.d3.get false (s.queueOwner n) then s
  else if s.sqSize n ≤ v then s.flag (Page.sq n) F.SQ_STATUS_BAD_DOORBELL
  else s.p (Page.db n) ⟨0, 15, 0⟩ v
/-- A completion doorbell takes effect (R438). -/
def State.ringCq (s : State) (n v : Nat) : State :=
  if s.hif.d3.get false (s.queueOwner n) then s
  else if s.cqSize n ≤ v then s.flag (Page.cq n) F.CQ_STATUS_BAD_DOORBELL
  else s.p (Page.db n) ⟨4, 15, 0⟩ v

/-- Held doorbells of BANKED take effect (R622, R625): queue numbers from 64 on stand for completion queues. -/
def State.ringHeld (s : State) : State :=
  let l := s.pwr.doorbells
  let s := { s with pwr.doorbells := [] }
  l.foldl (fun s d => if d.2.1 < 64 then s.ringSq d.2.1 d.2.2 else s.ringCq (d.2.1 - 64) d.2.2) s

/-- SQ_CTRL.ENABLE is written (R440). -/
def State.sqEnable (s : State) (n v : Nat) : State :=
  let pg := Page.sq n
  if v = 0 then s.unflag pg F.SQ_CTRL_ENABLE
  else if s.on pg F.SQ_CTRL_ENABLE then s
  else if s.on (Page.cq (s.cqOf n)) F.CQ_CTRL_ENABLE ∧ s.queueOwner (s.cqOf n) = s.queueOwner n then
    ((s.flag pg F.SQ_CTRL_ENABLE).p pg F.SQ_HEAD_HEAD 0).p (Page.db n) ⟨0, 15, 0⟩ 0
  else s.flag pg F.SQ_STATUS_BAD_BIND
/-- CQ_CTRL.ENABLE is written (R440). -/
def State.cqEnable (s : State) (n v : Nat) : State :=
  let pg := Page.cq n
  if v = 0 then s.unflag pg F.CQ_CTRL_ENABLE
  else if s.on pg F.CQ_CTRL_ENABLE then s
  else (((s.flag pg F.CQ_CTRL_ENABLE).p pg F.CQ_TAIL_TAIL 0).flag pg F.CQ_TAIL_PHASE).p (Page.db n) ⟨4, 15, 0⟩ 0

/-- A submission queue from which the module may fetch: enabled, holding packets, its completion queue not full. -/
def State.sqHolds (s : State) (n : Nat) : Bool :=
  s.on (Page.sq n) F.SQ_CTRL_ENABLE && s.sqHead n ≠ s.sqTail n && s.dma (s.queueOwner n) && !s.cqFull (s.cqOf n)
/-- WEIGHT as it runs. -/
def State.sqWeight (s : State) (n : Nat) : Nat :=
  let w := s.g (Page.sq n) F.SQ_CTRL_WEIGHT
  if w = 0 then 16 else w
/-- The queue that the weighted round robin serves next (R441). -/
def State.nextSq (s : State) : Option Nat :=
  let q := s.hif.rrQ
  if s.sqHolds q ∧ s.hif.rrN < s.sqWeight q then some q
  else ((List.range 64).map (fun i => (q + 1 + i) % 64)).find? s.sqHolds

/-! ### Messages and completions -/

/-- A message on vector `v` of function `fn` (R455): a masked vector becomes pending. -/
def State.msixSend (s : State) (fn v : Nat) : State :=
  let k := fn * 32 + v
  let x := s.hif.msix.get Msix.zero k
  if x.masked ∨ ¬ s.dma fn then { s with hif.pba := s.hif.pba.set false k true }
  else s.hostWrite x.addr.toNat (leBytes 4 x.data.toNat)

/-- A vector is unmasked: a pending message is sent. -/
def State.msixUnmask (s : State) (fn v : Nat) : State :=
  let k := fn * 32 + v
  if s.hif.pba.get false k ∧ ¬ (s.hif.msix.get Msix.zero k).masked ∧ s.dma fn then
    ({ s with hif.pba := s.hif.pba.set false k false }).msixSend fn v
  else s

/-- The 32 bytes of a completion entry (R444). -/
def State.entryBytes (s : State) (sl : Slot) (cq : Nat) : List Byte :=
  leBytes 4 (sl.p.tag % 2 ^ 16 + sl.status * 2 ^ 16)
    ++ leBytes 4 (sl.p.op % 2 ^ 16 + sl.p.sq * 2 ^ 16 + s.g (Page.cq cq) F.CQ_TAIL_PHASE * 2 ^ 23 + sl.detail * 2 ^ 24)
    ++ leBytes 4 (sl.head % 2 ^ 16 + sl.word * 2 ^ 16)
    ++ leBytes 4 (min ((s.now - sl.t0) / 16000) 0xFFFFFFFF)
    ++ leBytes 8 (s.cnt 0).toNat ++ leBytes 8 sl.result.toNat

/-- The first slot of each submission queue that is bound to completion queue `n` and is done. -/
def firstDone (bound : Nat → Bool) : List Slot → List Nat → Option Slot
  | [], _ => none
  | sl :: l, seen =>
    if sl.p.sq ∈ seen ∨ ¬ bound sl.p.sq then firstDone bound l seen
    else if sl.st = .done then some sl
    else firstDone bound l (sl.p.sq :: seen)

/-- The completion that queue `n` posts next: in submission order within a queue (R38). -/
def State.nextPost (s : State) (n : Nat) : Option Slot := firstDone (fun q => s.cqOf q = n) s.hif.slots []

/-- Take the first done slot of (sq, tag) out. -/
def dropDone (sq tag : Nat) : List Slot → List Slot
  | [] => []
  | sl :: l => if sl.p.sq = sq ∧ sl.p.tag = tag ∧ sl.st = .done then l else sl :: dropDone sq tag l

/-- Post the next completion of queue `n`, if there is one and room for it (R438, R439). -/
def State.post (s : State) (n : Nat) : State :=
  match s.nextPost n with
  | none => s
  | some sl =>
    let t := { s with hif.slots := dropDone sl.p.sq sl.p.tag s.hif.slots }
    if sl.drop then t
    else if s.cqFull n ∨ ¬ s.dma sl.p.fn ∨ ¬ s.on (Page.cq n) F.CQ_CTRL_ENABLE then s
    else
      let pg := Page.cq n
      let s := t.hostWrite (t.g64 pg F.CQ_BASE_LO_BASE_LO + 32 * t.cqTail n) (t.entryBytes sl n)
      let wrap : Bool := s.cqTail n + 1 = s.cqSize n
      let s := s.p pg F.CQ_TAIL_TAIL ((s.cqTail n + 1) % s.cqSize n)
      let s := s.when (wrap = true) (fun s => s.p pg F.CQ_TAIL_PHASE (1 - s.g pg F.CQ_TAIL_PHASE))
      let v := s.g pg F.CQ_CTRL_VECTOR
      if v = 0 then s.intEdge (768 + n) else s.when (sl.p.irq = true) (·.msixSend sl.p.fn v)

/-! ### Resets -/

/-- Queues of function `fn` are disabled, and what they have fetched is discarded: waiting and done packets at once,
those that execute when they finish. -/
def State.dropQueues (s : State) (fn : Nat) : State :=
  let s := forEach ((List.range 64).filter (fun n => s.queueOwner n = fn)) s
    (fun s n => (s.unflag (Page.sq n) F.SQ_CTRL_ENABLE).unflag (Page.cq n) F.CQ_CTRL_ENABLE)
  let l := s.hif.slots.filter (fun sl => sl.p.fn ≠ fn || sl.st = .executing)
  { s with hif.slots := l.map (fun sl => if sl.p.fn = fn then { sl with drop := true } else sl) }

/-- The MSI-X table of function `fn` is reset. -/
def State.msixReset (s : State) (fn : Nat) : State :=
  { s with hif.msix := s.hif.msix.filter (fun e => e.1 / 32 ≠ fn), hif.pba := s.hif.pba.filter (fun e => e.1 / 32 ≠ fn) }

/-- What the loss of the link, or of bus mastering, leaves besides (R457). -/
def State.linkLost (s : State) : State := (s.bump Page.hif F.HIF_LINK_DOWNS).logIt Cause.hostLinkDown 0 (gid 6 2047) 0
/-- The link goes down (R457, R458). -/
def State.linkFall (s : State) : State :=
  if ¬ s.hif.linkUp then s
  else
    let s := { s with hif.linkUp := false }
    (((s.p Page.hif F.HIF_LINK_SPEED 0).p Page.hif F.HIF_LINK_WIDTH 0).unflag Page.hif F.HIF_LINK_DL_UP).linkLost
/-- Bus Master Enable of PF0 is cleared (R457). -/
def State.bmeClear (s : State) : State := if ¬ s.hif.bme then s else { s with hif.bme := false }.linkLost

/-- Messages that waited for the link, or for their function to leave D3hot, are sent (R455, R457). -/
def State.msixResume (s : State) : State :=
  forEach (s.hif.pba.map (·.1)) s (fun s k => s.msixUnmask (k / 32) (k % 32))

end Sys2Proof.Machine
end

