-- ==== Sys2Proof/Machine/SliceOps.lean ====
section
/-!
DEFINITION. Machine/SliceOps.lean: spare groups, their members and crossbars (R119 to R126), and slice tests (R603 to R605).
-/

namespace Sys2Proof.Machine
open Sys2Proof

/-! ### Numbers -/

/-- Datapaths that a group serves; the member of that number is the spare itself. -/
def grpSize (g : Nat) : Nat := if g < 32 then 8 else 4
/-- The governed channel of member `i` of group `g`. -/
def grpChan (g i : Nat) : Nat :=
  if g < 16 then 3 * 1024 + 8 * g + i
  else if g < 32 then 4 * 1024 + 8 * (g - 16) + i
  else if g < 40 then 2 * 1024 + 4 * (g - 32) + i
  else 1024 + 4 * (g - 40) + i
/-- Group and member of datapath `d`. -/
def dpGroup (d : Nat) : Nat × Nat :=
  if d < 128 then (d / 8, d % 8)
  else if d < 160 then (32 + (d - 128) / 4, (d - 128) % 4)
  else if d < 288 then (16 + (d - 160) / 8, (d - 160) % 8)
  else (40 + (d - 288) / 4, (d - 288) % 4)
/-- Datapath of member `i` of group `g`. -/
def dpNum (g i : Nat) : Nat :=
  if g < 16 then 8 * g + i else if g < 32 then 160 + 8 * (g - 16) + i
  else if g < 40 then 128 + 4 * (g - 32) + i else 288 + 4 * (g - 40) + i
/-- SOURCE of member `i` (R512). -/
def dpGid (g i : Nat) : Nat :=
  gid (if g < 16 then 12 else if g < 32 then 13 else 14) (chanPort (grpChan g i))
/-- SOURCE of a spare: the group ID of its quadrant's block. -/
def spareGid (g : Nat) : Nat :=
  if g < 16 then gid 12 (2040 + g / 4) else if g < 32 then gid 13 (2040 + (g - 16) / 4)
  else if g < 40 then gid 14 (2040 + (g - 32) / 2) else gid 14 (2040 + (g - 40) / 2)
/-- The sequencer to which a governed channel of these kinds belongs. -/
def chanSeq (c : Nat) : Nat := if chanKind c ≤ 2 then 128 + chanPort c else chanPort c

def fldOnSpare (c : Nat) : Fld :=
  match chanKind c with
  | 1 => F.RDO_ADC_STATUS_ON_SPARE | 4 => F.FLX_STATUS_ON_SPARE | _ => F.DRV_STATUS_ON_SPARE

def State.spState (s : State) (g : Nat) : Nat := s.g (Page.spare g) F.DRV_SPARE_STATUS_STATE
def State.setSp (s : State) (g v : Nat) : State := s.p (Page.spare g) F.DRV_SPARE_STATUS_STATE v
def State.serves (s : State) (g : Nat) : Nat := s.g (Page.spare g) F.DRV_SPARE_STATUS_SERVING
def State.dpRetired (s : State) (g i : Nat) : Bool := s.g (Page.spare g) F.DRV_SPARE_STATUS_RETIRED / 2 ^ i % 2 = 1
/-- BST_GRP_STATE.STATE: 0 idle, 1 waiting for a window, 2 testing, 3 waiting to return. -/
def State.slSt (s : State) (g : Nat) : Nat := s.g (Page.grpS g) F.BST_GRP_STATE_STATE
def State.setSl (s : State) (g v : Nat) : State := s.p (Page.grpS g) F.BST_GRP_STATE_STATE v

/-- A crossbar switch: ON_SPARE of the channel, and the count. -/
def State.crossbar (s : State) (g i : Nat) (on : Bool) : State :=
  let c := grpChan g i
  (s.p (chanPage c) (fldOnSpare c) (if on then 1 else 0)).bumpW (Page.spare g) F.DRV_SPARE_SWAPS

/-! ### Slice tests (R603 to R605) -/

/-- T_exp units per pattern: 1,280 ns of drive and flux chains, 2,560 ns of probe and acquisition chains (R604). -/
def patUnits (g : Nat) : Nat := if g < 32 then 20480 else 40960

/-- A slice test of member `m` begins. -/
def State.sliceBegin (s : State) (g m : Nat) (forced : Bool) : State :=
  (s.setSlice g { s.slice g with member := m, t0 := s.now, forced := forced }).setSl g 2

/-- A slice test ends with result `r` (1 PASS, 2 FAIL, 3 INCOMPLETE) after `n` patterns. -/
def State.sliceEnd (s : State) (g r n : Nat) (sig : W64) : State :=
  let pg := Page.grpS g
  let x := s.slice g
  let s := ((s.p pg F.BST_GRP_STATE_LAST_RESULT r).p pg F.BST_GRP_STATE_LAST_MEMBER x.member).p64 pg F.BST_GRP_SIG_LO sig.toNat
  let s := (s.setReg (pg + F.BST_GRP_PATTERNS.off) (BitVec.ofNat 32 n)).bump Page.bst F.BST_SLICE_TESTS
  let s := s.when (r ≠ 3 ∧ ¬ x.forced ∧ x.owed = none) (·.p pg F.BST_GRP_STATE_NEXT ((x.member + 1) % (grpSize g + 1)))
  let s := match r with
    | 2 =>
      let (s, v) := s.fresh 48
      ((s.bump Page.bst F.BST_SLICE_FAILS).flag Page.bst F.BST_STATUS_SLICE_FAIL).logIt Cause.bstFail 0 (gid 9 2047) v
    | 3 => ((s.bump Page.bst F.BST_ABANDONED).flag Page.bst F.BST_STATUS_INCOMPLETE_SEEN).logIt
        Cause.bstIncomplete 0 (gid 9 2047) 0
    | _ => s
  (s.setSlice g { s.slice g with owed := none }).settle x.owed St.success r

/-- A running slice test of group `g` stops short (R605): its own state is left to the caller. -/
def State.sliceAbandon (s : State) (g : Nat) : State :=
  if s.slSt g = 2 then
    let n := min 8191 ((s.now - (s.slice g).t0) / patUnits g)
    let v := s.fresh 64  -- what the signature register holds then is left open
    (v.1.sliceEnd g 3 n (BitVec.ofNat 64 v.2)).setSl g 0
  else s

/-- A running slice test at SAFE entry (R605): the tested slice returns at once, without state copy. -/
def State.sliceSafe (s : State) (g : Nat) : State :=
  if s.slSt g ≠ 2 then s
  else
    let s := s.sliceAbandon g
    if s.spState g ≠ 4 then s
    else if s.serves g ∈ (s.spare g).held then s.setSp g 2
    else (s.crossbar g (s.serves g) false).setSp g 0

end Sys2Proof.Machine
end

