-- ==== Sys2Proof/Machine/SafeOps.lean ====
section
/-!
DEFINITION. Machine/SafeOps.lean: entry into SAFE (R573 to R578), the twin's part in it (R493, R495, R497), the
retirement of parts (R570 to R572), and what the loss of the reference does (R62).
-/

namespace Sys2Proof.Machine
open Sys2Proof

/-! ### Twin states (R493, R497) -/

/-- The pattern of SPARE_SW0 to SPARE_SW3 and TWIN_MUTE follow the twin state (R497). -/
def State.twinPat (s : State) : State :=
  let on : Bool := s.twinState ∈ [3, 4]
  let s := s.p Page.twin F.FAB_TWIN_SW_OUT
    (s.g Page.twin (if on then F.FAB_TWIN_SW_ACTIVE_PAT else F.FAB_TWIN_SW_STANDBY_PAT))
  { s with fab.twinMute := on }

/-- The twin state changes: it is logged, IN_STEP is set in STANDBY and ACTIVE only, and DEC_STATUS.ROLE and the patterns
follow (R493, R583). -/
def State.twinSet (s : State) (v : Nat) : State :=
  let o := s.twinState
  if o = v then s
  else
    let s := (s.p Page.twin F.FAB_TWIN_STATUS_STATE v).logIt Cause.stateTwin 0 (gid 7 40) (o + 16 * v)
    let s := s.p Page.twin F.FAB_TWIN_STATUS_IN_STEP (if v = 2 ∨ v = 3 then 1 else 0)
    let s := { s with dec.own := [], dec.act := [], fab.joinAsk := none, fab.joinLeft := 0, fab.joinWords := []
                      fab.joinHeld := [], fab.joined := false }
    let role := if v ∈ [3, 4] then 1 else if v = 0 then 0 else 2
    (s.p Page.dec F.DEC_STATUS_ROLE role).twinPat

/-- FAIL with a cause code goes to the partner (R490). -/
def State.twinFail (s : State) (cause : Nat) : State :=
  { (s.mirrorAll [s.mirrorWord 4 0 cause]).twinSet 5 with fab.failAt := s.now / 16 }

/-- A bias stage is off. -/
def State.biasOff (s : State) (b : Nat) : State :=
  if (s.bias b).conn then s.biasCut b else s

/-! ### SAFE -/

/-- PENDING bit of a SAFE cause (R574). -/
def safeBit (c : Nat) : Nat :=
  if c = Cause.refLost then 0 else if c = Cause.alignFail then 1 else if c = Cause.twinNotInStep then 2
  else if c = Cause.thermalShutdown then 3 else if c = Cause.inputFail then 4 else if c = Cause.hostRequest then 6 else 5

def State.safePending (s : State) : Nat := s.g Page.log F.LOG_SAFE_PENDING
def State.setPending (s : State) (b : Nat) : State := s.p Page.log F.LOG_SAFE_PENDING (setBit s.safePending b)
/-- Clear a bit of a number. -/
def clrBit (n b : Nat) : Nat := if n / 2 ^ b % 2 = 1 then n - 2 ^ b else n
def State.clearPending (s : State) (b : Nat) : State := s.p Page.log F.LOG_SAFE_PENDING (clrBit s.safePending b)
/-- FIRST takes the cause if it names none. -/
def State.firstCause (s : State) (c : Nat) : State :=
  s.when (s.g Page.log F.LOG_SAFE_FIRST = 0) (·.p Page.log F.LOG_SAFE_FIRST c)

/-- A bank sequence or a wake ends at SAFE entry, and the command that asked for it with ABORTED (R623, R625); an orderly
shutdown or disable sequence goes on. -/
def State.endBusy (s : State) : State :=
  match s.pwr.busy with
  | .stop _ => s
  | b =>
    let owed := s.pwr.owed
    let tries := if b = .wake then none else s.tim.tries
    -- a wake that ends leaves the converters powered down (R575)
    let s := s.when (b = .wake) (fun s => forEach (s.bm.bias.map (·.1)) { s with pwr.convOn := false } State.biasOff)
    let s := forEach (List.range' 16 4) s (fun s c => if (s.hctx c).internal ∧ (s.hctx c).op = 0x0400 then s.freeCtx c else s)
    ({ s with pwr.busy := .none, pwr.owed := [], tim.tries := tries }).settleAll owed St.aborted

/-- The actions of SAFE entry, on one tick (R573, R575). -/
def State.enterSafe (s : State) (cause : Nat) : State :=
  let banked : Bool := s.pwr.mode = .banked
  let s := (s.p Page.log F.LOG_SAFE_FIRST cause).flag Page.log F.LOG_STATUS_SAFE
  let s := ({ s with pwr.mode := .safe, pwr.deep := banked }).endBusy
  let s := forEach (List.range 48) s State.sliceSafe
  let s := forEach [0, 1, 2, 3, 4] s (fun s p => (s.runAbort p 5 5 St.aborted St.aborted).dropShots p St.aborted)
  let s := s.acqSafe
  let s := forEach (List.range 512) s State.biasSafe
  let s := s.when (s.twinState = 3) (·.twinFail cause)
  let s := s.settleMode
  -- out of BANKED, Hearth's clock runs again and held doorbells take effect (R625)
  if banked then s.ringHeld else s

/-- A SAFE cause that has been logged (R573, R574, R578). -/
def State.safeFor (s : State) (cause : Nat) : State :=
  let s := s.setPending (safeBit cause)
  match s.pwr.mode with
  | .off => s.firstCause cause
  | .safe => s
  | _ => s.enterSafe cause

/-- A SAFE cause arises: it is logged, sets its PENDING bit, and the module enters SAFE. -/
def State.raiseSafe (s : State) (cause part source detail : Nat) : State :=
  (s.logIt cause part source detail).safeFor cause

/-! ### Retirement (R570 to R572) -/

/-- Kinds of retired parts: 0 datapath, 1 spare, 2 analogue channel, 3 fabric lane, 4 rank, 5 store row, 6 module cause,
7 bias output, 8 monitor converter. -/
def State.retire (s : State) (kind num : Nat) : State :=
  let r : Retired := ⟨kind, num⟩
  if r ∈ s.log.retired then s
  else { s with log.flashQ := s.log.flashQ ++ [Sum.inl r] }.flag Page.log F.LOG_STATUS_NV_BUSY

/-- A bias output goes DARK for good (R371, R376, R570). -/
def State.biasLost (s : State) (b cause : Nat) : State :=
  ((s.retire 7 b).logAs cause 1 (s.biasOwner b) (gid 17 b) 0).biasDark b

/-- A permanent fault of the whole module (R572): the map's entry holds its cause, source and detail. -/
def State.moduleFault (s : State) (cause source detail : Nat) : State :=
  (s.retire 6 (cause + source % 2 ^ 16 * 2 ^ 8 + detail * 2 ^ 24)).raiseSafe cause 0 source detail

/-! ### The reference (R62) -/

/-- A domain becomes UNANCHORED (R52, R62). What becomes of an accepted anchor request that still waits for its load when
the reference is lost is not given: DESIGN CHOICE (log entry 58), it is dropped, since its last-bit edge does not come. -/
def State.unanchor (s : State) (d : Nat) : State :=
  let x := s.tim.doms.get Dom.zero d
  let s := { s with tim.doms := s.tim.doms.set Dom.zero d { x with pend := none } }
  if s.anchored d then
    (s.unflag (Page.td d) F.TD_STATE_ANCHORED).logIt Cause.stateDomain d (gid 3 d) 1
  else s

/-- The pulse of PPS OUT is over once its millisecond has passed, its enable is clear, or wall time is neither LOCKED nor
HOLDOVER (R68). -/
def State.ppsMay (s : State) : Bool :=
  s.on Page.tim F.TIM_CTRL_PPS_OUT_EN && s.g Page.tim F.TIM_STATUS_WALL_STATE ∈ [2, 3] && s.wallNs < 1000000
def State.ppsDrop (s : State) : State := { s with tim.ppsOut := s.tim.ppsOut && s.ppsMay }

/-- The reference is lost (R62): REF_OK clears, and wall time enters HOLDOVER. -/
def State.refFall (s : State) : State :=
  if ¬ s.tim.refIn then s
  else
    let s := { s with tim.refIn := false }
    let s := (s.unflag Page.tim F.TIM_STATUS_REF_OK).unflag Page.tim F.TIM_STATUS_PLL_LOCK
    let s := s.flag Page.tim F.TIM_EVENTS_REF_LOST
    let s := forEach [0, 1, 2, 3, 4] s State.unanchor
    let s := s.when (s.g Page.tim F.TIM_STATUS_WALL_STATE ≠ 3)
      (fun s => (s.p Page.tim F.TIM_STATUS_WALL_STATE 3).flag Page.tim F.TIM_EVENTS_WALL_HOLDOVER)
    s.raiseSafe Cause.refLost 0 (gid 3 2047) 0

/-! ### Enables -/

/-- Enable fields written by a command, in order, with the governor's admission (R128, R615): the first refusal. -/
def State.enableOk (s : State) (c v : Nat) : Bool := v = 0 || s.chanOn c || s.admits c
/-- An enable field is written; capture units whose source is no longer enabled end (R333). -/
def State.setEnable (s : State) (c v : Nat) : State := (s.writeEnable c v).acqSweep

end Sys2Proof.Machine
end

