-- ==== Sys2Proof/Machine/Operands.lean ====
section
/-!
DEFINITION. Machine/Operands.lean: the fields of sequencer instruction words (R213 to R240): their places, the
bits that a layout names, and the values outside their stated ranges (R244). The fields of command packets
stand in Machine/Command.lean.
-/

namespace Sys2Proof.Machine
open Sys2Proof

/-- Bits `hi` to `lo` of an instruction word. -/
def ifld (w : W64) (hi lo : Nat) : Nat := w.toNat / 2 ^ lo % 2 ^ (hi + 1 - lo)
/-- The opcode of a word. -/
def opc (w : W64) : Nat := ifld w 63 58

/-- Fields that several instructions have. -/
def fVsel (w : W64) : Bool := ifld w 24 24 = 1
def fVidx (w : W64) : Nat := ifld w 28 25
def fMask (w : W64) : Nat := ifld w 15 0
def fPattern (w : W64) : Nat := ifld w 31 16
def fOffset (w : W64) : Int := sext 16 (ifld w 47 32)
def fConsume (w : W64) : Bool := ifld w 48 48 = 1
def fD (w : W64) : Nat := ifld w 3 0
def fA (w : W64) : Nat := ifld w 7 4
def fB (w : W64) : Nat := ifld w 11 8
def fImm (w : W64) : Int := sext 16 (ifld w 27 12)
def fS (w : W64) : Nat := ifld w 16 12
def fSlot (w : W64) : Nat := ifld w 4 0
def fOff (w : W64) : Nat := ifld w 8 5
def fValue (w : W64) : Nat := ifld w 56 9
def fTarget (w : W64) : Nat := ifld w 23 0

/-- The opcodes of R214. -/
def opcodes : List Nat :=
  [0, 1, 2, 3, 4, 5, 6, 7, 8, 9, 0xA, 0x10, 0x11, 0x12, 0x13, 0x14, 0x15, 0x16, 0x17, 0x18, 0x19,
   0x20, 0x21, 0x22, 0x23, 0x24, 0x25, 0x26, 0x27, 0x30, 0x31, 0x32, 0x33, 0x34, 0x35, 0x36, 0x37,
   0x38, 0x39, 0x3A, 0x3B, 0x3C, 0x3D]

/-- `n` ones from bit `lo` on. -/
def ones (n lo : Nat) : Nat := (2 ^ n - 1) * 2 ^ lo

/-- The bits of 57:0 that the layout of an opcode names (R215, R222, R227, R234, R240). -/
def named (op : Nat) : Nat :=
  match op with
  | 0x01 => ones 29 0
  | 0x02 => ones 24 0
  | 0x06 => ones 39 0
  | 0x08 => ones 20 0
  | 0x09 => ones 11 0
  | 0x10 | 0x11 | 0x15 => ones 24 0
  | 0x13 => ones 45 0
  | 0x16 => ones 4 0 + ones 16 32
  | 0x17 => ones 49 0
  | 0x18 => ones 52 0
  | 0x19 => ones 16 0
  | 0x20 | 0x22 | 0x23 | 0x24 => ones 57 0
  | 0x21 => ones 46 0
  | 0x25 => ones 13 0
  | 0x26 => ones 36 0
  | 0x27 => ones 35 0
  | 0x30 => ones 4 0 + ones 16 12
  | 0x31 | 0x32 => ones 12 0
  | 0x33 => ones 8 0 + ones 16 12
  | 0x34 | 0x35 | 0x36 | 0x37 => ones 8 4
  | 0x38 => ones 4 4 + ones 5 12
  | 0x39 => ones 4 0 + ones 5 12
  | 0x3A | 0x3B => ones 4 0
  | 0x3C => ones 20 0
  | _ => 0

/-- No bit that the layout does not name is set (R213). -/
def reservedOk (w : W64) : Bool := w.toNat % 2 ^ 58 &&& (2 ^ 58 - 1 - named (opc w)) = 0

/-- The field values lie in their stated ranges on a QS or an RS (R214, R222 to R229, R240). -/
def rangesOk (rs : Bool) (w : W64) : Bool :=
  match opc w with
  | 0x13 => ifld w 44 29 ≠ 0 && (!fVsel w || fTarget w = 0)
  | 0x16 => ifld w 3 0 ≤ 10
  | 0x20 =>
    (if rs then ifld w 17 17 = 0 && ifld w 43 43 = 0
     else ifld w 16 12 ≤ 7 && (ifld w 17 17 = 0 || ifld w 43 43 = 0))
      && (ifld w 42 42 = 0 || ifld w 41 30 = 0)
  | 0x21 => rs && ifld w 44 32 ≤ 4096
  | 0x22 | 0x23 | 0x24 | 0x25 => rs || fSlot w ≤ 7
  | 0x26 => rs || ifld w 31 8 = 0
  | 0x27 => !rs
  | 0x38 | 0x39 => fS w ≤ 24
  | _ => true

/-- A word is a well-formed instruction of a QS or an RS. -/
def wordOk (rs : Bool) (w : W64) : Bool := opc w ∈ opcodes && reservedOk w && rangesOk rs w

/-- The instructions that REPEAT may repeat (R230). -/
def repeatable (op : Nat) : Bool := op ∈ [0x00, 0x01, 0x20, 0x27, 0x22, 0x23, 0x25, 0x31, 0x32, 0x33, 0x36, 0x37]

/-- The timeout of WAIT_COND in ticks; none for code 7 (R236). -/
def condTimeout (w : W64) : Option Nat :=
  match ifld w 51 49 with
  | 0 => some 128 | 1 => some 512 | 2 => some 2048 | 3 => some 8192
  | 4 => some 32768 | 5 => some 131072 | 6 => some 524288 | _ => none

/-- A target relative to the instruction at `a`; none where it lies below the image (R213, R232). -/
def relTarget (a : Nat) (off : Int) : Option Nat := if (a : Int) + off < 0 then none else some ((a : Int) + off).toNat

end Sys2Proof.Machine
end

