-- ==== Sys2Proof/Machine/Flags.lean ====
section
/-!
DEFINITION. Machine/Flags.lean: the arithmetic unit of a sequencer (R240 to R243) and its flags: ZERO and NEG,
the sticky saturation flags, the condition tests of R227, and matches of condition flags (R234).
-/

namespace Sys2Proof.Machine
open Sys2Proof

/-- Value register i as a signed and as an unsigned number. -/
def Seq.vi (x : Seq) (i : Nat) : Int := (x.v.get 0 i).toInt
def Seq.vu (x : Seq) (i : Nat) : Nat := (x.v.get 0 i).toNat
def Seq.setV (x : Seq) (i : Nat) (v : Int) : Seq := { x with v := x.v.set 0 i (BitVec.ofInt 16 v) }
/-- ACC as a signed number. -/
def Seq.ac (x : Seq) : Int := x.acc.toInt
def Seq.setAc (x : Seq) (v : Int) : Seq := { x with acc := BitVec.ofInt 40 v }
/-- ZERO and NEG from a result. -/
def Seq.zn (x : Seq) (v : Int) : Seq := { x with zero := decide (v = 0), neg := decide (v < 0) }

/-- A 16-bit result in Vd, exact. -/
def Seq.res (x : Seq) (d : Nat) (v : Int) : Seq := (x.setV d v).zn v
/-- A 16-bit result in Vd, saturated (R242). -/
def Seq.resSat (x : Seq) (d : Nat) (v : Int) : Seq :=
  let y := x.res d (sat 16 v)
  { y with vSat := y.vSat || decide (v ≠ sat 16 v) }
/-- A result in ACC, which it fits. -/
def Seq.resAcc (x : Seq) (v : Int) : Seq := (x.setAc v).zn v
/-- A result in ACC, saturated (R242). -/
def Seq.resAccSat (x : Seq) (v : Int) : Seq :=
  let y := x.resAcc (sat 40 v)
  { y with accSat := y.accSat || decide (v ≠ sat 40 v) }

/-- The exponent e of R240: bits below bit 39 that equal it, from bit 38 downward. -/
def exponent (a : BitVec 40) : Nat :=
  ((List.range 39).find? (fun i => a.getLsbD (38 - i) ≠ a.getLsbD 39)).getD 39

/-- RND of R240: ACC rounded half up by S. -/
def rnd (a : Int) (n : Nat) : Int := rhu a n

/-- COND of BRANCH_FLAG (R227). -/
def Seq.cond (x : Seq) (c : Nat) : Bool :=
  match c with
  | 0 => true
  | 1 => x.zero
  | 2 => !x.zero
  | 3 => x.neg
  | 4 => !x.neg
  | 5 => x.accSat
  | 6 => x.vSat
  | 7 => x.timeout
  | 8 => !x.timeout
  | 9 => x.mtch
  | _ => !x.mtch

/-- Every flag of MASK is SET (R234). -/
def Seq.allSet (x : Seq) (m : Nat) : Bool := x.set &&& BitVec.ofNat 16 m = BitVec.ofNat 16 m
/-- A match (R234). -/
def Seq.matches_ (x : Seq) (m p : Nat) : Bool :=
  x.allSet m && (x.value ^^^ BitVec.ofNat 16 p) &&& BitVec.ofNat 16 m = 0
/-- SET of the flags of MASK is cleared. -/
def Seq.consume (x : Seq) (m : Nat) : Seq := { x with set := x.set &&& ~~~ BitVec.ofNat 16 m }
/-- The last tick on which a flag of MASK was raised. -/
def Seq.raisedAt (x : Seq) (m : Nat) : Nat :=
  ((List.range 16).map (fun i => if m / 2 ^ i % 2 = 1 then x.cfAt.get 0 i else 0)).foldl max 0

end Sys2Proof.Machine
end

