-- ==== Sys2Proof/Machine/Issue.lean ====
section
/-!
DEFINITION. Machine/Issue.lean: executing one sequencer instruction (R207 to R210, R230 to R232, R237) and the
effects that executed instructions have at their timeline ticks (R207, R211).
-/

namespace Sys2Proof.Machine
open Sys2Proof

/-! ### Execution -/

/-- What an instruction's own rule gives: the state, the next address (none: below the image), the execution
ticks and the timeline duration; or an instruction error; or a state in which the sequencer waits. -/
inductive Res
  | go (s : State) (nxt : Option Nat) (cost dur : Nat)
  | bad (s : State)
  | held (s : State)

/-- A read-out sequencer. -/
def isRs (q : Nat) : Bool := 128 ≤ q

/-- Sequencer `q` may issue on the present tick: its run has been cut, nothing waits, and no abort is due. -/
def State.canIssue (s : State) (q : Nat) : Bool :=
  let p := s.seqOwner q
  let x := s.sqs q
  let e := s.tk p
  q < 160 && s.on (Page.seq q) F.SEQ_CTRL_ENABLE && 2 ≤ s.pst p && (s.prt p).cut && x.st ∈ [1, 2, 5, 6] && x.wc.isNone
    && x.ready ≤ e && (match x.abortIn with | some r => e < r || x.rep.isSome | none => true)

/-- The declared end of the segment in progress; 0 if it has none. -/
def Seq.segEnd (x : Seq) : Nat := (x.seg.bind (·.2)).getD 0

/-- The lead of R209, and R234's wait for tick τ − 100. -/
def Seq.leads (x : Seq) (w : W64) (e : Nat) : Bool :=
  x.tau ≤ e + 1024 && (!(opc w ∈ [0x17, 0x18, 0x19, 0x3C]) || x.tau ≤ e + 100)
    && (opc w ≠ 2 || (match x.seg with | some (_, some t) => t ≤ e + 107 | _ => true))

/-- A fetch outside a region finds its instruction not resident (R183): the shot is marked FETCH_DELAY. -/
def State.fetchWait (s : State) (q e : Nat) : State :=
  let s := s.wantWin q (winOf (s.sqs q).pc)
  (s.setSq q { s.sqs q with st := 7, fetchAt := some e }).mark (s.seqOwner q) 1

/-- Timeline ticks later than `t0` move by `d` (R210): of those that a sequencer has before it, the declared end of its
segment, with the decision point. -/
def Seq.shift (x : Seq) (t0 d : Nat) : Seq :=
  { x with seg := x.seg.map (fun g => (g.1, g.2.map (fun t => if t0 < t then t + d else t))) }

/-- A slip of sequencer `q` (R210). -/
def State.slip (s : State) (q : Nat) : State :=
  ((s.bump (Page.seq q) F.SEQ_SLIPS).flag (Page.seq q) F.SEQ_FLAGS_SLIP).mark (s.seqOwner q) 7

/-- A REPEAT ends, or is skipped, at its instruction of address `a`: a continuation beyond the image is an error at the
REPEAT (R230 to R232). -/
def State.repeatDone (s : State) (q a e : Nat) : State :=
  let x := s.sqs q
  let s := s.setSq q { x with rep := none, reps := x.reps ++ [(x.repBeg, x.tau)] }
  if s.imgLen q ≤ a + 1 then s.seqError q (a - 1) e else s.goto q (a + 1)

/-- What follows an instruction of address `a` executed on tick `e`; `r0`: executions of a REPEAT that were left. -/
def State.after (s0 : State) (q a e : Nat) (r0 : Option Nat) (r : Res) : State :=
  match r with
  | .held s => s
  | .bad s => s.seqError q a e
  | .go s nxt cost dur =>
    let x := s.sqs q
    if (s0.sqs q).first ∧ dur ≠ 0 then s.seqError q a e
    else
      let y := { x with tau := x.tau + dur, ready := e + cost }
      match r0 with
      | some (n + 2) => s.setSq q { y with rep := some (n + 1) }
      | some _ => (s.setSq q y).repeatDone q a e
      | none =>
        match nxt with
        | none => s.seqError q a e
        | some t => (s.setSq q y).goto q t

/-- One instruction of opcode `op` executes on sequencer `q` by `body`, given the word, the execution tick and
the timeline tick. -/
def State.issue1 (s : State) (q op : Nat) (body : State → W64 → Nat → Nat → Res) : State :=
  let x := s.sqs q
  let e := s.tk (s.seqOwner q)
  if s.imgLen q ≤ x.pc then s.seqError q x.pc e
  else match s.iword q x.pc with
  | none => if x.inside then s.regionMiss q e else s.fetchWait q e
  | some w =>
    if x.vec ∧ opc w ≠ 2 then s.seqError q x.pc e
    else if x.rep.isSome ∧ ¬ repeatable (opc w) then s.seqError q (x.pc - 1) e
    else if ¬ x.leads w e then s
    else if ¬ wordOk (isRs q) w then s.seqError q x.pc e
    else if opc w ≠ op then s
    -- before the first SHOT_START, a SEGMENT that aligns to a later end has a duration (R212)
    else if op = 2 ∧ x.first ∧ x.tau < x.segEnd then s.seqError q x.pc e
    else
      let t0 := if op = 2 then max x.tau x.segEnd else x.tau
      let slips : Bool := t0 < e + 92
      let s := if slips then s.slip q else s
      let s := if x.atAbort then s.seqUnquiet q else s
      let τ := if slips then e + 92 else t0
      let x := { (s.sqs q).shift t0 (τ - t0) with tau := τ, st := 2, last := x.pc, atAbort := false, vec := false }
      let s := s.setSq q x
      s.after q x.pc e x.rep (body s w e τ)

/-- An instruction row: a REPEAT with COUNT 0 skips its instruction first (R230). -/
def State.issue (s : State) (q op : Nat) (body : State → W64 → Nat → Nat → Res) : State :=
  if ¬ s.canIssue q then s
  else
    let x := s.sqs q
    match x.rep, s.iword q x.pc with
    | some 0, some w =>
      if repeatable (opc w) ∧ x.pc < s.imgLen q then
        let s := s.repeatDone q x.pc (s.tk (s.seqOwner q))
        if s.canIssue q ∧ (s.sqs q).pc = x.pc + 1 then s.issue1 q op body else s
      else s.issue1 q op body
    | _, _ => s.issue1 q op body

/-- The address after the present instruction. -/
def State.nextA (s : State) (q : Nat) : Option Nat := some ((s.sqs q).pc + 1)
/-- The target of a transfer: one beyond the image is an error of the transfer (R232). -/
def State.target (s : State) (q a : Nat) : Option Nat := if s.imgLen q ≤ a then none else some a

/-- The next instruction after one tick and no timeline time, sequencer state changed by `f`. -/
def State.alu (s : State) (q : Nat) (f : Seq → Seq) : Res :=
  let s := s.setSq q (f (s.sqs q))
  .go s (s.nextA q) 1 0

/-- An effect is due on tick `t`. -/
def State.later (s : State) (q t : Nat) (f : Eff) : State :=
  let x := s.sqs q
  s.setSq q { x with eff := x.eff ++ [(t, f)] }

/-! ### Barriers (R218) -/

/-- A barrier instruction of kind `k` executes (R218). -/
def State.barrier (s : State) (q k e τ : Nat) (ready : Bool) : Res :=
  let x := s.sqs q
  if x.first then .bad s
  else
    let s := s.setSq q { x with st := 3, ready := e + 1 }
    let s := s.arrive q k τ ready
    .held (s.goto q (x.pc + 1))

/-- The region that a sequencer is inside ends on timeline tick `τ`; suspended refills resume (R182, R186). -/
def Seq.leave (x : Seq) (τ : Nat) : Seq :=
  { x with region := none, left := x.left ++ (x.region.map (fun g => ⟨g, x.regNo, x.regBeg, τ⟩)).toList
           a := { x.a with susp := false }, b := { x.b with susp := false } }

/-- SHOT_END ends an open region (R186). -/
def State.closeRegion (s : State) (q τ : Nat) : State :=
  let x := s.sqs q
  if x.inside then (s.setSq q (x.leave τ)).flag (Page.seq q) F.SEQ_STATUS_REGION_OPEN else s

/-! ### Segments and jumps (R166, R193, R194, R217) -/

/-- A decision point of tick `d` falls while a REPEAT of the segment runs (R231): from the tick on which it begins up to the
one on which it ends, that one not counted (DESIGN CHOICE, log entry 66). -/
def Seq.inRepeat (x : Seq) (d : Nat) : Bool := x.reps.any (fun r => r.1 ≤ d && d < r.2)

/-- The vector of a latched request that the decision point of the segment ending at `t` samples (R193, R194, R231). -/
def Seq.jumpDue (x : Seq) (t : Nat) : Option Nat :=
  match x.jump with
  | none => none
  | some (v, r) =>
    let d := t - 8
    if d < r ∨ x.inRegionAt d = true ∨ x.inRepeat d = true then none else some v

/-- Which request the segment end that sequencer `q` has reached takes. -/
def State.jumpNow (s : State) (q : Nat) : Option Nat :=
  match (s.sqs q).seg with
  | some (_, some t) => (s.sqs q).jumpDue t
  | _ => none

/-- A latched request is taken (R193). -/
def State.takeJump (s : State) (q v : Nat) : Res :=
  let x := s.sqs q
  let s := (s.setSq q { x with jump := none, loops := [], sub := [], seg := none, vec := true }).bump (Page.seq q) F.SEQ_JUMPS
  .go s (some (s.g (Page.seq q + 4 * v) F.SEQ_JUMP_VEC_VECTOR)) 3 0

/-- A new segment forgets the regions and REPEATs that no decision point to come, and no abort, can fall into. -/
def Seq.forget (x : Seq) (e : Nat) : Seq :=
  { x with left := x.left.filter (fun l => decide (e < l.fin)), reps := x.reps.filter (fun r => decide (e < r.2)) }

/-- The body of SEGMENT executed on tick `e` (R166, R217). -/
def State.segment (s : State) (q e τ : Nat) (w : W64) : Res :=
  let x := s.sqs q
  let past := match x.seg with | some (_, some t) => decide (t < τ) | _ => false
  let s := s.when (past = true) (fun s => (s.bump (Page.seq q) F.SEQ_SEG_OVERRUNS).flag (Page.seq q) F.SEQ_STATUS_SEG_OVERRUN)
  match s.jumpNow q with
  | some v => s.takeJump q v
  | none =>
    let l := ifld w 19 0
    let s := s.when (l ≠ 0 ∧ l < 16) (·.flag (Page.seq q) F.SEQ_STATUS_SEG_SHORT)
    let s := s.setSq q { (s.sqs q).forget e with seg := some (τ, if l = 0 then none else some (τ + max 16 l)) }
    let s := s.later q τ (.seg (ifld w 23 20))
    .go s (s.nextA q) 1 0

/-! ### Waits on conditions (R236) -/

/-- WAIT_COND resolves on tick `r`: the next timeline tick is `t`. -/
def State.condResolve (s : State) (q : Nat) (c : Wc) (t r : Nat) : State :=
  let x := s.sqs q
  let hit := x.matches_ c.mask c.pat
  let x := { x with timeout := false, mtch := hit, wc := none, st := 2, tau := t, ready := max x.ready r }
  let s := s.setSq q (if c.cons then x.consume c.mask else x)
  if hit then
    if s.imgLen q ≤ c.target then s.seqError q (c.next - 1) r else s.goto q c.target
  else s.goto q c.next

/-- The timeline tick that follows a resolution (R236): τw, or f + 100. -/
def Seq.condTick (x : Seq) (c : Wc) : Nat := max c.tw (x.raisedAt c.mask + 100)

/-! ### Effects at the timeline tick (R207, R211) -/

/-- Key of slot `k`'s oscillator and lane on sequencer `q`. -/
def slotKey (q k : Nat) : Nat := if q < 128 then 8 * q + k else 1024 + 32 * (q - 128) + k

/-- Order among effects of one tick (R211). -/
def effRank : Eff → Nat
  | .seg _ => 0
  | .frameReset _ _ => 1
  | .freq _ _ _ => 2
  | .phaseSet _ _ _ => 3
  | .phaseAdd _ _ _ => 4
  | _ => 5
def effOff : Eff → Nat
  | .frameReset _ o | .freq _ o _ | .phaseSet _ o _ | .phaseAdd _ o _ => o
  | _ => 0
/-- Effects are applied by drive sample, then by the order of R211. -/
def effKey (x : Nat × Eff) : Nat := (16 * x.1 + effOff x.2) * 8 + effRank x.2
def effIns (x : Nat × Eff) : List (Nat × Eff) → List (Nat × Eff)
  | [] => [x]
  | y :: l => if effKey x < effKey y then x :: y :: l else y :: effIns x l
/-- Stable sort: an effect goes behind those with its own key that came before it. -/
def effSort (l : List (Nat × Eff)) : List (Nat × Eff) := l.foldl (fun a x => effIns x a) []

/-- F and P of oscillator `k` change at drive sample `t0`. -/
def State.oscSet (s : State) (k t0 f p : Nat) : State := s.setOsc k ((s.osc k).change t0 f p)

/-- A play request without a valid descriptor (R95, R98, R137). -/
def State.badPlay (s : State) (k : Nat) : State :=
  if k < 2048 then (s.bump (outPg (laneOut' k)) F.DRV_BAD_PLAYS).flag (outPg (laneOut' k)) F.DRV_STATUS_BAD_ENV
  else (s.bump (Page.flx ((k - 2048) / 2)) F.FLX_BAD_PLAYS).flag (Page.flx ((k - 2048) / 2)) F.FLX_STATUS_BAD_ENV

/-- A play starts on lane `k`; an earlier play that still sounds counts as overlapped (R102, R136). -/
def State.startPlay (s : State) (k : Nat) (pl : Play) : State :=
  let r := s.playStart k pl
  r.1.when (r.2 = true) (fun s =>
    if k < 2048 then (s.bump (outPg (laneOut' k)) F.DRV_OVERLAPS).flag (outPg (laneOut' k)) F.DRV_STATUS_OVERLAP
    else (s.bump (Page.flx ((k - 2048) / 2)) F.FLX_OVERLAPS).flag (Page.flx ((k - 2048) / 2)) F.FLX_STATUS_OVERLAP)

/-- The play of descriptor `desc` for partition `p` on lane `k` at timeline tick `τ` (R99, R108, R138, R250); none
where the descriptor is invalid for it. -/
def State.makePlay (s : State) (p k desc sub : Nat) (amp : Int) (row τ : Nat) : Option Play :=
  if k < 2048 then
    let g := if k < 1024 then s.g (Page.frame (k / 8) (k % 8)) F.DRV_FRAME_GAIN_GAIN
             else s.g (Page.tone (k - 1024)) F.TONE_GAIN_GAIN
    (s.descOf (outQuad (laneOut' k)) p desc).map (fun d =>
      { start := d.1, len := d.2.1, l := 4 * 2 ^ d.2.2, ts := 16 * τ + sub / 16, f := sub % 16
        s := scale amp g, pauli := row, cut := none, muted := false })
  else
    let n := (k - 2048) / 2
    match s.descOf (n / 32) p desc with
    | none => none
    | some d =>
      if d.2.2 = 0 then none
      else some { start := d.1, len := d.2.1, l := 2 ^ (d.2.2 - 1), ts := 16 * τ
                  f := sub / 8 + s.g (Page.flx n) F.FLX_DELAY_DELAY
                  s := scale amp (s.g (Page.flx n) F.FLX_GAIN_GAIN), pauli := 0, cut := none, muted := false }

/-- The band check of R106 at the issue of a play on lane `k`. -/
def State.bandCheck (s : State) (k : Nat) : State :=
  let pg := outPg (laneOut' k)
  s.when (¬ inBand (s.g pg F.DRV_CTRL_MODE) (s.osc k).f) (·.flag pg F.DRV_STATUS_FREQ_OOB)

/-- A play request is issued for timeline tick `τ` (R99): gain and Pauli bits are sampled now. -/
def State.playReq (s : State) (q k desc sub : Nat) (amp : Int) (pauli : Bool) (τ : Nat) : State :=
  let row := if pauli then s.pauliRow k else 0
  let s := if k < 2048 then (s.bump64 (outPg (laneOut' k)) F.DRV_PLAYS_LO).bandCheck k else s
  match s.makePlay (s.seqOwner q) k desc sub amp row τ with
  | none => s.badPlay k
  | some pl => s.later q τ (.playOn k pl)

/-- A marker signal rises on timeline tick `τ`, or its pulse is extended (R195). -/
def State.markRise (s : State) (q b τ : Nat) : State :=
  let x := s.sqs q
  let high : Bool := x.mark.get 0 b ≠ 0
  let s := s.setSq q { x with mark := x.mark.set 0 b (τ + max 1 (s.g (Page.seq q) F.SEQ_MARK_WIDTH_MARK_WIDTH)) }
  if high then s else s.publishSrc (4 * q + b)

/-- By tick `t` this module knows that a member, here or on another node, has arrived not ready (R188). -/
def Bar.heldBy (b : Bar) (t : Nat) : Bool :=
  b.arr.any (fun a => !a.2.2 && a.2.1 ≤ t)
    || ((match b.holdFrom with | some h => decide (h ≤ t) | none => false) && b.nodes.any (fun n => n.2.2 ≠ some n.2.1))

/-- A member holds from here on (R188): one that is not ready counts it, and the shot is marked STALL (R168, R203). -/
def State.holdOn (s : State) (q : Nat) (ready : Bool) : State :=
  if (s.sqs q).hold then s
  else
    let s := s.setSq q { s.sqs q with hold := true }
    (s.when (ready = false) (·.bump (Page.seq q) F.SEQ_STALLS)).mark (s.seqOwner q) 0

/-- Sequencer `q` reaches a region entry, or learns of a member that is not ready: every member that has arrived by now
holds (R188). -/
def State.holdCheck (s : State) (q : Nat) : State :=
  let p := s.seqOwner q
  let t := s.tk p
  match (s.prt p).bars.find? (fun b => b.kind = 3 && b.arr.any (fun a => a.1 = q && a.2.1 ≤ t)) with
  | none => s
  | some b =>
    if b.heldBy t then
      (b.arr.filter (fun a => decide (a.2.1 ≤ t))).foldl (fun s a => s.holdOn a.1 a.2.2) s
    else s

/-- One effect takes place; `t` is the tick for which it was due. -/
def State.applyEff (s : State) (q t : Nat) (f : Eff) : State :=
  match f with
  | .playReq k desc sub amp pauli => s.playReq q k desc sub amp pauli (t + 76)
  | .playOn k pl => s.startPlay k pl
  | .freq slot off v =>
    let k := slotKey q slot
    let o := s.osc k
    s.oscSet k (16 * t + off) v (retune o.f o.p v (16 * t + off))
  | .phaseAdd slot off v => let k := slotKey q slot; s.oscSet k (16 * t + off) (s.osc k).f (addPhase (s.osc k).p v)
  | .phaseSet slot off v => let k := slotKey q slot; s.oscSet k (16 * t + off) (s.osc k).f v
  | .frameReset slots off =>
    forEach ((List.range 32).filter (fun i => slots / 2 ^ i % 2 = 1)) s (fun s i =>
      let k := slotKey q i
      let fp := s.oscRegs k
      s.oscSet k (16 * t + off) fp.1 fp.2)
  | .level h fs =>
    let x := s.flx q
    if fs = 0 then s.setFlx q { x with h := h } else s.setFlx q { x with h1 := some h }
  | .acquire tones len early =>
    forEach ((List.range 32).filter (fun j => tones / 2 ^ j % 2 = 1)) s (fun s j =>
      let tn := 32 * (q - 128) + j
      if (s.win tn).isSome then s.flag (Page.seq q) F.SEQ_FLAGS_WIN_BUSY
      else s.openWin tn t (if len = 0 then s.g (Page.tone tn) F.TONE_WIN_LEN else len) early)
  | .seg m =>
    let s := s.boundary 1 (inSeq q)
    forEach ((List.range 4).filter (fun b => m / 2 ^ b % 2 = 1)) s (fun s b => s.markRise q b t)
  | .testwin w => s.setSq q { s.sqs q with testwin := some (t + w), winSwaps := [] }
  | .arrive _ => s.holdCheck q

/-- The effects of sequencer `q` whose ticks have come take place, in order. -/
def State.applyDue (s : State) (q : Nat) : State :=
  let x := s.sqs q
  let now := s.tk (s.seqOwner q)
  let due := x.eff.filter (fun e => decide (e.1 ≤ now))
  let s := s.setSq q { x with eff := x.eff.filter (fun e => decide (now < e.1)) }
  (effSort due).foldl (fun s e => s.applyEff q e.1 e.2) s

end Sys2Proof.Machine
end

