-- ==== Sys2Proof/Machine/MemFault.lean ====
section
/-!
DEFINITION. Machine/MemFault.lean: errors of the memories: their count and report (R413), the location table (R414), row
repair (R415), rank retirement (R417), the failure of a channel (R419), and a refill that meets an error (R184).
-/

namespace Sys2Proof.Machine
open Sys2Proof

/-! ### Ranks and channels (R417, R419) -/

/-- Log detail of a channel, a rank and the replays made (R584). -/
def chDetail (c r n : Nat) : Nat := c + r * 2 ^ 2 + n * 2 ^ 3

/-- A channel fails (R419). -/
def State.chanFail (s : State) (c r n : Nat) : State :=
  (s.flag (Page.memCh c) F.MEM_CH_STATUS_FAILED).moduleFault Cause.memChannelLost (gid 8 c) (chDetail c r n)

/-- Capacity falls to one rank: addresses that become unmapped lose their data. -/
def State.memShrink (s : State) : State :=
  { s with mem.ddr := s.mem.ddr.filter (fun e => e.1 % 2 ^ 35 < 2 ^ 34)
           mem.poison := s.mem.poison.filter (fun e => e.1 % 2 ^ 32 < 2 ^ 31) }

/-- Rank `r` of channel `c` is retired (R417); the other rank must be in service and no move in progress (R419). -/
def State.rankRetire (s : State) (c r n : Nat) : State :=
  let pg := Page.memCh c
  if s.g pg F.MEM_CH_STATUS_RANK0 ≠ 0 ∨ s.g pg F.MEM_CH_STATUS_RANK1 ≠ 0 then s.chanFail c r n
  else
    let s := s.retire 4 (2 * c + r)
    let s := if r = 1 then s.p pg F.MEM_CH_STATUS_RANK1 2
      else ((s.p pg F.MEM_CH_STATUS_RANK0 1).p pg F.MEM_CH_MOVE_MOVE_PTR 0).flag Page.mem F.MEM_STATUS_MOVING
    s.memShrink.logIt Cause.memRankRetired 0 (gid 8 c) (chDetail c r n)

/-! ### Rows (R415) -/

/-- Words of an on-die store in one quadrant, or bursts of a rank. -/
def storeSize (store : Nat) : Nat :=
  match store with
  | 4 => 1048576
  | 5 => 4096
  | 6 => 655360
  | 7 => 262144
  | 8 => 2048
  | 9 => 2097152
  | 10 | 11 => 131072
  | _ => 2 ^ 28
/-- Spare rows of a store: one for every 4,096 words. -/
def spareCount (store : Nat) : Nat := (storeSize store + 4095) / 4096

/-- Row `row` of a store is to be repaired: it takes a spare row, or the store's ASIC is at its end. -/
def State.rowRepair (s : State) (store quad row : Nat) : State :=
  let k := store * 4 + quad
  if s.mem.spareRows.get 0 k < spareCount store then
    let s := s.retire 5 (k * 2 ^ 16 + row)
    { s with mem.spareRows := s.mem.spareRows.set 0 k (s.mem.spareRows.get 0 k + 1)
             mem.repairs := s.mem.repairs ++ [(store, quad, row)] }
  else s.moduleFault Cause.memSpareRows (gid 8 2047) 0

/-- A permanent fault at a location: its rank is retired or its row repaired. -/
def State.locLost (s : State) (d : Nat) : State :=
  let store := d % 16
  if store < 4 then s.rankRetire store (d / 2 ^ 6 % 2) 0 else s.rowRepair store (d / 2 ^ 4 % 4) (d / 2 ^ 7 / 64)

/-! ### The location table (R414, R430) -/

/-- 24 h of MTIME. -/
def day : Nat := secs 86400

def State.locValid (s : State) (i : Nat) : Bool := s.on (Page.loc i) F.MEM_LOC_WHERE_VALID
/-- The location of entry `i`. -/
def State.locOf (s : State) (i : Nat) : Nat :=
  (s.reg (Page.loc i)).toNat % 128 + s.g (Page.loc i) F.MEM_LOC_INDEX_INDEX * 128

/-- Entry `i` holds location `d` with hits from `o` to `n`, `h` of them. -/
def State.locPut (s : State) (i d h o n : Nat) : State :=
  let pg := Page.loc i
  let s := s.setReg pg (BitVec.ofNat 32 (d % 128 + 128))
  let s := (s.p pg F.MEM_LOC_INDEX_INDEX (d / 128)).p pg F.MEM_LOC_HITS_HITS h
  let s := s.setReg (pg + 12) (BitVec.ofNat 32 (o / 16000000000))
  { s with mem.hits := s.mem.hits.set (0, 0) i (o, n) }
/-- Entry `i` is cleared. -/
def State.locClear (s : State) (i : Nat) : State :=
  { (s.unflag (Page.loc i) F.MEM_LOC_WHERE_VALID).p (Page.loc i) F.MEM_LOC_HITS_HITS 0 with
    mem.hits := s.mem.hits.set (0, 0) i (0, 0) }

/-- The hits of an entry that lie within 24 h of MTIME `t`. -/
def State.locHits (s : State) (i t : Nat) : List Nat :=
  let h := s.mem.hits.get (0, 0) i
  (if s.g (Page.loc i) F.MEM_LOC_HITS_HITS = 2 then [h.1, h.2] else [h.1]).filter (fun x => t ≤ x + day)

/-- The entry whose newest hit is oldest, among `l`. -/
def State.locOldest (s : State) : List Nat → Nat
  | [] => 0
  | [i] => i
  | i :: l => let j := s.locOldest l
              if (s.mem.hits.get (0, 0) i).2 ≤ (s.mem.hits.get (0, 0) j).2 then i else j

/-- The entry for a new location: a free one, or the one it replaces. -/
def State.locSlot (s : State) : State × Nat :=
  match (List.range 256).find? (fun i => !s.locValid i) with
  | some i => (s, i)
  | none => (s.bump Page.mem F.MEM_LOC_EVICTIONS, s.locOldest (List.range 256))

/-- A hit at location `d`: the third within 24 h is a permanent fault (R414). The retirement map's entry is written before
the record of the fault (R571). -/
def State.locHit (s : State) (d source : Nat) : State :=
  let t := s.log.mtime.toNat
  match (List.range 256).find? (fun i => s.locValid i && s.locOf i = d) with
  | some i =>
    match s.locHits i t with
    | [] => s.locPut i d 1 t t
    | [a] => s.locPut i d 2 a t
    | _ => ((s.locClear i).locLost d).logIt Cause.memLocation 0 source d
  | none => let r := s.locSlot; r.1.locPut r.2 d 1 t t

/-! ### Errors (R413) -/

/-- Object of a location in the log. -/
def locGid (d : Nat) : Nat := gid 8 (if d % 16 < 4 then d % 16 else 2047)

/-- A corrected error at location `d`. -/
def State.memCorrect (s : State) (d : Nat) : State :=
  let s := (s.bump64 Page.mem F.MEM_CORRECTED_LO).when (d % 16 < 4) (·.bump (Page.memCh (d % 16)) F.MEM_CH_CORRECTED)
  (s.logIt Cause.memCorrected 0 (locGid d) d).locHit d (locGid d)
/-- An uncorrectable error at location `d`, met by partition `p`'s work. -/
def State.memBad (s : State) (p d : Nat) : State :=
  let s := (s.bump Page.mem F.MEM_UNCORRECTABLE).flag Page.mem F.MEM_STATUS_UNCORR
  (s.logIt Cause.memUncorrectable p (locGid d) d).locHit d (locGid d)

/-- An error on an internal path, which ends in no store (R25, R413): it is counted and logged as for a store, and nothing is
written back or entered; what the log's detail says of a path is left open. -/
def State.pathCorrect (s : State) : State :=
  let v := (s.bump64 Page.mem F.MEM_CORRECTED_LO).fresh 48
  v.1.logIt Cause.memCorrected 0 (gid 8 2047) v.2
def State.pathBad (s : State) : State :=
  let v := ((s.bump Page.mem F.MEM_UNCORRECTABLE).flag Page.mem F.MEM_STATUS_UNCORR).fresh 48
  v.1.logIt Cause.memUncorrectable 0 (gid 8 2047) v.2

/-- The entry reads of the step that met an uncorrectable word are counted, logged and entered (R301, R413, R414). -/
def State.eccReads (s : State) : State :=
  s.dec.ecc.foldl (fun s x => s.memBad x.1 (locNum 10 0 0 x.2)) { s with dec.ecc := [] }

/-- The first word of `n` bytes from module address `a` on that reads as uncorrectable. -/
def State.firstPoison (s : State) (a n : Nat) : Option Nat :=
  if s.mem.poison = [] then none
  else ((List.range (n / 8)).map (fun i => a + 8 * i)).find? (fun x => s.ddrBad x 8)
/-- The location of module address `a`. -/
def State.addrLoc (s : State) (a : Nat) : Nat := match s.memMap a with | some x => s.ddrLoc x.1 x.2 | none => 0

/-- A refill reads an uncorrectable word, and again when it retries the window (R184). -/
def State.refillFail (s : State) (q w : Nat) : State :=
  let p := s.seqOwner q
  let a := s.imgAddr q + 65536 * w
  let d := s.addrLoc ((s.firstPoison a (8 * s.winLen q w)).getD a)
  ((s.memBad p d).memBad p d).runAbort p 5 5 St.aborted

end Sys2Proof.Machine
end

