-- ==== Sys2Proof/Machine/SeqInstr.lean ====
section
/-!
DEFINITION. Machine/SeqInstr.lean: the sequencer instructions (R214 to R240), one meaning each, and the events
of a sequencer: refills, waits that resolve, region aborts, jumps, marker pulses and timeline effects.
-/

namespace Sys2Proof.Machine
open Sys2Proof

/-! ### Time, segments and barriers (R215 to R221) -/

/-- WAIT (R216). -/
def execWait (q : Nat) (s : State) : Out := .next (s.issue q 0x01 fun s w _ _ =>
  let x := s.sqs q
  let n := ifld w 23 0 + (if fVsel w then x.vu (fVidx w) else 0)
  let s := if n = 0 then s else s.setSq q { x with st := 5 }
  .go s (s.nextA q) 1 n)

/-- SEGMENT (R217). -/
def execSegment (q : Nat) (s : State) : Out := .next (s.issue q 0x02 fun s w e τ => s.segment q e τ w)

/-- SHOT_START (R218): the first of a run releases on the start tick (R174). -/
def execShotStart (q : Nat) (s : State) : Out := .next (s.issue q 0x03 fun s _ e τ =>
  let x := s.sqs q
  if x.first then
    let s := s.setSq q { x with first := false, tau := (s.prt (s.seqOwner q)).start, seg := none }
    .go s (s.nextA q) 1 0
  else s.barrier q 0 e τ true)

/-- SHOT_END (R218, R186). -/
def execShotEnd (q : Nat) (s : State) : Out := .next (s.issue q 0x04 fun s _ e τ =>
  (s.closeRegion q τ).barrier q 1 e τ true)

/-- SYNC (R218). -/
def execSync (q : Nat) (s : State) : Out := .next (s.issue q 0x05 fun s _ e τ => s.barrier q 2 e τ true)

/-- REGION_BEGIN (R186 to R188, R219). One met inside a region is malformed and aborts to its own target, not the open
region's: DESIGN CHOICE (log entry 62). -/
def execRegionBegin (q : Nat) (s : State) : Out := .next (s.issue q 0x06 fun s w e τ =>
  let x := s.sqs q
  let no := s.barInst (s.seqOwner q) 3 (s.g (Page.seq q) F.SEQ_CTRL_GROUP)
  let n := ifld w 38 24
  let r : Region := ⟨x.pc, n, ifld w 23 0⟩
  if x.first then .bad s
  else if n = 0 ∨ 16384 < n ∨ 16384 < x.pc % 8192 + n ∨ x.inside then
    let s := (s.setSq q { (if x.inside then x.leave τ else x) with region := some r, regNo := no, entering := true }).flag
      (Page.seq q) F.SEQ_STATUS_BAD_REGION
    .held (s.regionMiss q e)
  else
    let s := s.setSq q { x with region := some r, regNo := no, entering := true }
    let s := forEach (s.regionWins q r) s (fun s v => s.wantWin q v)
    (s.later q τ (.arrive 3)).barrier q 3 e τ (s.regionReady q r))

/-- REGION_END (R186, R219). -/
def execRegionEnd (q : Nat) (s : State) : Out := .next (s.issue q 0x07 fun s _ _ τ =>
  let x := s.sqs q
  let s := if x.inside then s.setSq q (x.leave τ) else s.flag (Page.seq q) F.SEQ_STATUS_BAD_REGION
  .go s (s.nextA q) 1 0)

/-- TESTWIN (R197, R198). -/
def execTestwin (q : Nat) (s : State) : Out := .next (s.issue q 0x08 fun s w _ τ =>
  let x := s.sqs q
  let n := ifld w 19 0
  let s := if x.inside ∨ n < 2048 then
      (s.setSq q { x with st := if n = 0 then 2 else 5 }).flag (Page.seq q) F.SEQ_STATUS_TESTWIN_IGNORED
    else (s.setSq q { x with st := 6 }).later q τ (.testwin n)
  .go s (s.nextA q) 1 n)

/-- PREFETCH (R220). -/
def execPrefetch (q : Nat) (s : State) : Out := .next (s.issue q 0x09 fun s w _ _ =>
  let n := ifld w 10 0
  if (s.imgLen q - 1) / 8192 < n then .bad s
  else s.alu q (fun x => { x with pref := some n }))

/-- END_RUN (R221): it requests the run end on its timeline tick. -/
def execEndRun (q : Nat) (s : State) : Out := .next (s.issue q 0x0A fun s _ _ τ =>
  let p := s.seqOwner q
  let s := s.setPrt p { s.prt p with endReqs := (s.prt p).endReqs ++ [(q, τ)] }
  .go s (s.nextA q) 1 0)

/-! ### Control flow (R227 to R232) -/

/-- JUMP (R227). -/
def execJump (q : Nat) (s : State) : Out := .next (s.issue q 0x10 fun s w _ _ => .go s (s.target q (fTarget w)) 3 0)

/-- CALL (R228). -/
def execCall (q : Nat) (s : State) : Out := .next (s.issue q 0x11 fun s w _ _ =>
  let x := s.sqs q
  if 8 ≤ x.sub.length then .bad s
  else .go (s.setSq q { x with sub := (x.pc + 1) :: x.sub }) (s.target q (fTarget w)) 3 0)

/-- RET (R228). -/
def execRet (q : Nat) (s : State) : Out := .next (s.issue q 0x12 fun s _ _ _ =>
  let x := s.sqs q
  match x.sub with
  | [] => .bad s
  | a :: l => .go (s.setSq q { x with sub := l }) (some a) 3 0)

/-- LOOP (R229). With a count of 0 it pushes nothing, and so skips at depth 8 too: DESIGN CHOICE (log entry 65). -/
def execLoop (q : Nat) (s : State) : Out := .next (s.issue q 0x13 fun s w _ _ =>
  let x := s.sqs q
  let c := if fVsel w then x.vu (fVidx w) else fTarget w
  if c = 0 then .go s (s.target q (x.pc + ifld w 44 29 + 1)) 3 0
  else if 8 ≤ x.loops.length then .bad s
  else s.alu q (fun x => { x with loops := (c, x.pc + 1) :: x.loops }))

/-- ENDLOOP (R229). -/
def execEndloop (q : Nat) (s : State) : Out := .next (s.issue q 0x14 fun s _ _ _ =>
  let x := s.sqs q
  match x.loops with
  | [] => .bad s
  | (c, a) :: l =>
    if c ≤ 1 then s.alu q (fun x => { x with loops := l })
    else .go (s.setSq q { x with loops := (c - 1, a) :: l }) (some a) 3 0)

/-- REPEAT (R230). -/
def execRepeatN (q : Nat) (s : State) : Out := .next (s.issue q 0x15 fun s w _ τ =>
  s.alu q (fun x => { x with rep := some (fTarget w), repBeg := τ }))

/-- BRANCH_FLAG (R227). -/
def execBranchFlag (q : Nat) (s : State) : Out := .next (s.issue q 0x16 fun s w _ _ =>
  let x := s.sqs q
  if x.cond (ifld w 3 0) then .go s ((relTarget x.pc (fOffset w)).bind (s.target q)) 3 0 else .go s (s.nextA q) 1 0)

/-- BRANCH_COND (R235). -/
def execBranchCond (q : Nat) (s : State) : Out := .next (s.issue q 0x17 fun s w _ _ =>
  let x := s.sqs q
  let hit := x.matches_ (fMask w) (fPattern w)
  let y := { x with mtch := hit }
  let s := s.setSq q (if fConsume w then y.consume (fMask w) else y)
  if hit then .go s ((relTarget x.pc (fOffset w)).bind (s.target q)) 3 0 else .go s (s.nextA q) 1 0)

/-- WAIT_COND (R236): it resolves on the tick on which it executes, or waits. -/
def execWaitCond (q : Nat) (s : State) : Out := .next (s.issue q 0x18 fun s w e τ =>
  let x := s.sqs q
  let c : Wc := ⟨fMask w, fPattern w, (relTarget x.pc (fOffset w)).getD (2 ^ 30), fConsume w, τ, condTimeout w, x.pc + 1⟩
  if x.allSet c.mask ∧ ¬ (x.first ∧ x.condTick c ≠ τ) then .held (s.condResolve q c (x.condTick c) (e + 1))
  else if x.first then .bad s
  else .held (s.setSq q { x with wc := some c, st := 5, ready := e + 1 }))

/-- CLRC (R238). -/
def execClrc (q : Nat) (s : State) : Out := .next (s.issue q 0x19 fun s w _ _ => s.alu q (·.consume (fMask w)))

/-- GETC (R238). -/
def execGetc (q : Nat) (s : State) : Out := .next (s.issue q 0x3C fun s w _ _ =>
  s.alu q (fun x => x.res (ifld w 19 16) (x.value &&& x.set &&& BitVec.ofNat 16 (fMask w)).toInt))

/-! ### Output instructions (R222 to R226) -/

/-- PLAY (R223): the play request is issued 76 ticks before the timeline tick. -/
def execPlay (q : Nat) (s : State) : Out := .next (s.issue q 0x20 fun s w _ τ =>
  let x := s.sqs q
  let slot := ifld w 16 12
  let amp := if ifld w 42 42 = 1 then x.vi (ifld w 29 26) else sext 16 (ifld w 41 26)
  let k := if ¬ isRs q ∧ ifld w 17 17 = 1 then 2048 + 2 * q + slot % 2 else slotKey q slot
  let s := s.later q (τ - 76) (.playReq k (ifld w 11 0) (ifld w 25 18) amp (ifld w 43 43 = 1))
  .go s (s.nextA q) 1 (ifld w 56 44))

/-- ACQUIRE (R224). -/
def execAcquire (q : Nat) (s : State) : Out := .next (s.issue q 0x21 fun s w _ τ =>
  let s := s.later q τ (.acquire (ifld w 31 0) (ifld w 44 32) (ifld w 45 45 = 1))
  .go s (s.nextA q) 1 0)

/-- FREQ (R225). -/
def execFreq (q : Nat) (s : State) : Out := .next (s.issue q 0x22 fun s w _ τ =>
  let s := s.later q τ (.freq (fSlot w) (fOff w) (fValue w))
  .go s (s.nextA q) 1 0)

/-- PHASE_ADD (R225). -/
def execPhaseAdd (q : Nat) (s : State) : Out := .next (s.issue q 0x23 fun s w _ τ =>
  let s := s.later q τ (.phaseAdd (fSlot w) (fOff w) (fValue w))
  .go s (s.nextA q) 1 0)

/-- PHASE_SET (R225). -/
def execPhaseSet (q : Nat) (s : State) : Out := .next (s.issue q 0x24 fun s w _ τ =>
  let s := s.later q τ (.phaseSet (fSlot w) (fOff w) (fValue w))
  .go s (s.nextA q) 1 0)

/-- PHASE_ADD_V (R225): Z is Vn × 2^32, modulo 2^48. -/
def execPhaseAddV (q : Nat) (s : State) : Out := .next (s.issue q 0x25 fun s w _ τ =>
  let s := s.later q τ (.phaseAdd (fSlot w) (fOff w) ((s.sqs q).vu (ifld w 12 9) * 2 ^ 32))
  .go s (s.nextA q) 1 0)

/-- FRAME_RESET (R225). -/
def execFrameReset (q : Nat) (s : State) : Out := .next (s.issue q 0x26 fun s w _ τ =>
  let s := s.later q τ (.frameReset (ifld w 31 0) (ifld w 35 32))
  .go s (s.nextA q) 1 0)

/-- LEVEL (R226). -/
def execLevel (q : Nat) (s : State) : Out := .next (s.issue q 0x27 fun s w _ τ =>
  let h := if ifld w 17 17 = 1 then (s.sqs q).vi (ifld w 21 18) else sext 16 (ifld w 15 0)
  let s := s.later q τ (.level h (ifld w 16 16))
  .go s (s.nextA q) 1 (ifld w 34 22))

/-! ### Arithmetic (R240 to R242) -/

/-- LDI (R240). -/
def execLdi (q : Nat) (s : State) : Out := .next (s.issue q 0x30 fun s w _ _ => s.alu q (·.res (fD w) (fImm w)))
/-- ADD (R240). -/
def execAddv (q : Nat) (s : State) : Out := .next (s.issue q 0x31 fun s w _ _ =>
  s.alu q (fun x => x.resSat (fD w) (x.vi (fA w) + x.vi (fB w))))
/-- SUB (R240). -/
def execSubv (q : Nat) (s : State) : Out := .next (s.issue q 0x32 fun s w _ _ =>
  s.alu q (fun x => x.resSat (fD w) (x.vi (fA w) - x.vi (fB w))))
/-- ADDI (R240). -/
def execAddi (q : Nat) (s : State) : Out := .next (s.issue q 0x33 fun s w _ _ =>
  s.alu q (fun x => x.resSat (fD w) (x.vi (fA w) + fImm w)))
/-- CMP (R240). -/
def execCmp (q : Nat) (s : State) : Out := .next (s.issue q 0x34 fun s w _ _ =>
  s.alu q (fun x => x.zn (x.vi (fA w) - x.vi (fB w))))
/-- MUL (R240). -/
def execMul (q : Nat) (s : State) : Out := .next (s.issue q 0x35 fun s w _ _ =>
  s.alu q (fun x => x.resAcc (x.vi (fA w) * x.vi (fB w))))

/-- A saturation of MAC or MSU counts as a transient fault with cause OVERFLOW (R242). -/
def State.accFault (s : State) (q : Nat) (v : Int) : State :=
  s.when (v ≠ sat 40 v) (·.logIt Cause.overflow (s.seqOwner q) (gid 16 q) 0)

/-- MAC (R240, R242). -/
def execMac (q : Nat) (s : State) : Out := .next (s.issue q 0x36 fun s w _ _ =>
  let x := s.sqs q
  let v := x.ac + x.vi (fA w) * x.vi (fB w)
  (s.accFault q v).alu q (·.resAccSat v))
/-- MSU (R240, R242). -/
def execMsu (q : Nat) (s : State) : Out := .next (s.issue q 0x37 fun s w _ _ =>
  let x := s.sqs q
  let v := x.ac - x.vi (fA w) * x.vi (fB w)
  (s.accFault q v).alu q (·.resAccSat v))
/-- ACCV (R240). -/
def execAccv (q : Nat) (s : State) : Out := .next (s.issue q 0x38 fun s w _ _ =>
  s.alu q (fun x => x.resAcc (x.vi (fA w) * 2 ^ fS w)))
/-- RND (R240, R241). -/
def execRnd (q : Nat) (s : State) : Out := .next (s.issue q 0x39 fun s w _ _ =>
  s.alu q (fun x => x.resSat (fD w) (rnd x.ac (fS w))))
/-- EXP (R240). -/
def execExpo (q : Nat) (s : State) : Out := .next (s.issue q 0x3A fun s w _ _ =>
  s.alu q (fun x => x.res (fD w) (exponent x.acc)))
/-- NORM (R240): ZERO and NEG describe ACC. -/
def execNorm (q : Nat) (s : State) : Out := .next (s.issue q 0x3B fun s w _ _ =>
  s.alu q (fun x =>
    let e := exponent x.acc
    (x.setV (fD w) e).resAcc (if e = 39 then x.ac else x.ac * 2 ^ e)))
/-- CLRF (R240). -/
def execClrf (q : Nat) (s : State) : Out := .next (s.issue q 0x3D fun s _ _ _ =>
  s.alu q (fun x => { x with accSat := false, vSat := false }))

/-! ### Events of a sequencer -/

/-- A refill ends (R181, R183, R184, R188): the half is resident, and whoever waited for it goes on. -/
def execRefillComplete (q half : Nat) (s : State) : Out :=
  let x := s.sqs q
  let p := s.seqOwner q
  match (x.half half).fill, (x.half half).susp, s.winBad q ((x.half half).fill.getD 0) with
  | some w, false, true => .next (s.refillFail q w)
  | some w, false, false =>
    let s := s.loadWin q half w
    let y := s.sqs q
    let e := s.tk p
    let s := if y.st = 7 ∧ y.holds (winOf y.pc) then
        let s := s.endFetch q
        s.setSq q { s.sqs q with st := 2, ready := max y.ready e }
      else s
    let s := match y.entering, y.region with
      | true, some r => if s.regionReady q r then s.becomeReady q (e + 100) else s
      | _, _ => s
    .next (if 2 ≤ s.pst p then s.wantNext q else s)
  | _, _, _ => .next s

/-- A propagated region abort, or one that waited for its region to begin, takes place (R189, R231). -/
def execRegionAbortReceive (q : Nat) (s : State) : Out :=
  let x := s.sqs q
  let e := s.tk (s.seqOwner q)
  match x.abortIn, x.rep with
  | some r, none => .next (if r ≤ e then s.regionAbort q e else s)
  | _, _ => .next s

/-- A latched jump request is taken at a segment end (R193): the SEGMENT that the stream has reached gives way. -/
def execJumpTaken (q : Nat) (s : State) : Out :=
  .next (if (s.jumpNow q).isSome then s.issue q 0x02 (fun s w e τ => s.segment q e τ w) else s)

/-- A marker pulse ends (R195). -/
def execMarkerPulseEnd (q b : Nat) (s : State) : Out :=
  let x := s.sqs q
  let t := x.mark.get 0 b
  .next (if t ≠ 0 ∧ t ≤ s.tk (s.seqOwner q) then s.setSq q { x with mark := x.mark.set 0 b 0 } else s)

/-- Executed instructions have their effects at their timeline tick (R207, R211). -/
def execTimelineEffect (q : Nat) (s : State) : Out := .next ((s.applyDue q).applyDue q)

/-- The last flag of a waiting WAIT_COND becomes SET (R236). -/
def execWaitCondResolve (q : Nat) (s : State) : Out :=
  let x := s.sqs q
  let e := s.tk (s.seqOwner q)
  match x.wc with
  | none => .next s
  | some c =>
    let inTime := match c.tmo with | some t => decide (x.raisedAt c.mask + 100 ≤ c.tw + t) | none => true
    .next (if x.allSet c.mask && inTime then s.condResolve q c (x.condTick c) e else s)

/-- A WAIT_COND times out (R236). -/
def execWaitCondTimeout (q : Nat) (s : State) : Out :=
  let x := s.sqs q
  let e := s.tk (s.seqOwner q)
  match x.wc with
  | none => .next s
  | some c =>
    match c.tmo with
    | none => .next s
    | some t =>
      .next (if c.tw + t ≤ e + 100 ∧ ¬ (x.allSet c.mask ∧ x.raisedAt c.mask + 100 ≤ c.tw + t) then
          (s.setSq q { x with
            wc := none, st := 2, timeout := true, mtch := false, tau := c.tw + t, ready := max x.ready e }).goto q c.next
        else s)

end Sys2Proof.Machine
end

