-- ==== Sys2Proof/Machine/CmdOps.lean ====
section
/-!
DEFINITION. Machine/CmdOps.lean: what several commands share: images of lists of registers (R450), the enables that
the power governor admits (R128, R615) and TARGET_DARK (R452).
-/

namespace Sys2Proof.Machine
open Sys2Proof

/-- The first word that is no proper image of its register, for a list of (word, register). -/
def State.badImgs (s : State) (p : Pkt) (l : List (Nat × Nat)) : Option Nat :=
  firstBad (l.map (fun x => (x.1, s.badReg p.fn x.2 (p.w x.1))))
/-- The words are written into their registers, in order (R448). -/
def State.putImgs (s : State) (p : Pkt) (l : List (Nat × Nat)) : State :=
  l.foldl (fun s x => s.putImg x.2 (p.w x.1)) s

/-- Words paired with registers at `pg` + offset, from word `i` on. -/
def wordsAt (pg : Nat) : Nat → List Nat → List (Nat × Nat)
  | _, [] => []
  | i, o :: l => (i, pg + o) :: wordsAt pg (i + 1) l

/-- A refusal with a plain status if a condition holds. -/
def need (c : Bool) (st : Nat) : Option Fail := if c then none else some (.plain st)
/-- The first refusal of a list. -/
def firstOf : List (Option Fail) → Option Fail
  | [] => none
  | some f :: _ => some f
  | none :: l => firstOf l

/-- Words of a count and its entries may not pass the packet's size: 1,024 words, less the shot prefix (R454). -/
def pktRoom (p : Pkt) : Nat := 1024 - p.pre

/-- Finish with TARGET_DARK if the channel that the command enabled or configured is DARK (R452). -/
def State.finishDark (s : State) (p : Pkt) (dark : Bool) : State :=
  s.finish p (.plain (if dark then St.targetDark else St.success))

end Sys2Proof.Machine
end

