-- ==== Sys2Proof/Machine/SpareOps.lean ====
section
/-!
DEFINITION. Machine/SpareOps.lean: spare groups of drive, flux, probe and acquisition datapaths (R121 to R126, R156,
R278, R279, R567 to R571) and the slice tests behind them (R603 to R605). Groups are numbered as BST numbers them
(R611): 0–15 drive, 16–31 flux, 32–39 probe, 40–47 acquisition. Datapaths: 0–127 D, 128–159 P, 160–287 Z, 288–319 A.
-/

namespace Sys2Proof.Machine
open Sys2Proof

/-! ### Loss of what a datapath held (R123, R156, R279) -/

/-- Lanes of a channel, with the units between their samples. -/
def chanLanes (c : Nat) : List Nat :=
  let n := chanPort c
  match chanKind c with
  | 3 => outLanes n
  | 2 => outLanes (128 + n)
  | 4 => [2048 + 2 * n, 2049 + 2 * n]
  | _ => []

/-- A play that a lane has been issued and that has not ended by `t`. -/
def State.laneSounds (s : State) (k t : Nat) : Bool := (s.plays k).any (fun p => decide (t < p.last (laneStep k)))

/-- The plays issued to a channel are lost; the shot that loses any is marked. -/
def State.losePlays (s : State) (c : Nat) : State :=
  let q := chanSeq c
  let p := s.owner q
  let ks := chanLanes c
  let x := s.sqs q
  let isOn := fun (e : Nat × Eff) => match e.2 with | .playOn k _ => decide (k ∈ ks) | _ => false
  let lost := ks.any (fun k => s.laneSounds k (s.cnt p).toNat) || x.eff.any isOn
  let s := s.setSq q { x with eff := x.eff.filter (fun e => !isOn e) }
  let s := forEach ks s (fun s k => s.setPlays k [])
  s.when (lost = true ∧ s.running p = true) (·.mark p 9)

/-- Capture unit `u` taps the chain of input `m`: its channels or its tones (R324). -/
def State.cuTaps (s : State) (u m : Nat) : Bool :=
  let k := s.g (Page.cu u) F.ACQ_CU_SRC_KIND
  let i := s.g (Page.cu u) F.ACQ_CU_SRC_INDEX
  (k = 1 || k = 2) && i < 256 && 8 * (u / 8) + i / 32 = m

/-- A switch without state copy at a channel. R156 says what the delay elements, the IIR states and the lanes of a flux
spare hold then; the level H goes on as it stands (DESIGN CHOICE, log entry 61). -/
def State.loseState (s : State) (c : Nat) : State :=
  let n := chanPort c
  match chanKind c with
  | 1 =>
    let p := s.owner (128 + n)
    let ts := (seqTones (128 + n)).filter (fun t => (s.win t).isSome)
    let s := forEach ts s (fun s t => s.setWin t ((s.win t).map (fun w => { w with bad := true })))
    let s := s.when (ts ≠ []) (·.mark p 9)
    let s := forEach ((List.range 32).filter (fun u => s.cuTaps u n)) s (fun s u =>
      s.setCu u { s.cu u with badTo := (s.cnt (s.cuPart u)).toNat + 2049 })
    { s with rdo.swapTo := s.rdo.swapTo.set 0 n ((s.cnt p).toNat + 2049) }
  | 4 =>
    let s := s.losePlays c
    let f := s.flx n
    s.setFlx n { f with iir := (List.range 4).foldl (fun t i => t.set (0, 0) i (f.x, f.x)) [], fir := List.replicate 39 f.x }
  | _ => s.losePlays c

/-- A channel goes DARK (R124, R125, R157, R279). -/
def State.darken (s : State) (c : Nat) : State := (s.flag (chanPage c) (fldDark c)).acqSweep

/-! ### The spare's states (R126) -/

/-- A planned swap of member `i` begins. -/
def State.spareGo (s : State) (g i : Nat) (owed : Option (Nat × Nat)) (test : Bool) : State :=
  -- the spare's own test gives way
  let s := if s.slSt g = 2 then s.sliceAbandon g else s
  let s := s.setSpare g { s.spare g with copyTo := some i, forTest := test, owed := owed }
  (s.p (Page.spare g) F.DRV_SPARE_STATUS_SERVING i).setSp g 1

/-- Whether a planned swap of member `i` is refused. -/
def State.swapBad (s : State) (g i : Nat) : Bool := s.spState g ≠ 0 || s.dpRetired g i
/-- Whether a release is refused: a datapath held out of service by R569 does not return before its test. -/
def State.releaseBadSp (s : State) (g : Nat) : Bool := s.spState g ≠ 2 || decide (s.serves g ∈ (s.spare g).held)

/-- A planned release begins. -/
def State.spareReturn (s : State) (g : Nat) (owed : Option (Nat × Nat)) : State :=
  (s.setSpare g { s.spare g with owed := owed, copyTo := none }).setSp g 3

def State.swapRefused (s : State) (g : Nat) : State := s.flag (Page.spare g) F.DRV_SPARE_STATUS_SWAP_REFUSED

/-- SWAP and RELEASE by register. -/
def State.spareSwapReg (s : State) (g i : Nat) : State :=
  if s.swapBad g i then s.swapRefused g else s.spareGo g i none false
def State.spareReleaseReg (s : State) (g : Nat) : State :=
  if s.releaseBadSp g then s.swapRefused g else s.spareReturn g none

/-- The datapath of member `i` is retired (R569, R570): the spare serves its channel for good. -/
def State.retireDp (s : State) (g i : Nat) : State :=
  if s.dpRetired g i then s
  else
    let s := s.retire 0 (dpNum g i)
    let s := s.logIt Cause.datapathRetired (s.chanOwner (grpChan g i)) (dpGid g i) 0
    let pg := Page.spare g
    let s := s.p pg F.DRV_SPARE_STATUS_RETIRED (setBit (s.g pg F.DRV_SPARE_STATUS_RETIRED) i)
    let x := s.spare g
    let s := s.setSpare g { x with held := x.held.filter (· ≠ i) }
    if s.spState g ∈ [2, 3, 4] ∧ s.serves g = i then s.setSp g 5 else s

/-- Channels that wait for a spare that will not come stay DARK for good. -/
def State.loseWaiting (s : State) (g : Nat) : State :=
  let w := (s.spare g).waiting
  let s := s.setSpare g { s.spare g with waiting := [] }
  forEach w s (fun s i => (s.darken (grpChan g i)).retireDp g i)

/-- The spare takes the channel of member `i` at once (R123), and the removed datapath is tested (R569). -/
def State.spareTake (s : State) (g i : Nat) : State :=
  let c := grpChan g i
  let s := s.sliceAbandon g
  let s := (s.p (Page.spare g) F.DRV_SPARE_STATUS_SERVING i).setSp g 2
  let s := (s.crossbar g i true).loseState c
  let x := s.spare g
  let dark : Bool := i ∈ x.waiting
  let s := s.setSpare g { x with waiting := x.waiting.filter (· ≠ i), held := if s.dpRetired g i then x.held else x.held ++ [i] }
  let s := s.when (dark = true) (·.unflag (chanPage c) (fldDark c))
  if s.dpRetired g i then s.setSp g 5
  else (s.sliceBegin g i true).setSp g 4

/-- A copy ends (R126). A failed channel that waits takes the spare next (R124). -/
def State.spareCopied (s : State) (g : Nat) : State :=
  let x := s.spare g
  let i := s.serves g
  let w := x.owed
  match s.spState g with
  | 1 =>
    let s := (s.setSpare g { x with owed := none }).crossbar g i true
    let s := (s.setSp g 2).settle w St.success
    if x.waiting ≠ [] then s.spareReturn g none
    else if x.forTest then (s.sliceBegin g i false).setSp g 4 else s
  | 3 =>
    let s := (s.setSpare g { x with owed := none }).crossbar g i false
    let s := (s.setSp g 0).settle w St.success
    let s := s.when (s.slSt g = 3) (·.setSl g 0)
    (match (s.spare g).waiting with
     | [] => s
     | j :: _ => s.spareTake g j)
  | _ => s

/-- Whether member `i`'s own datapath serves its channel. -/
def State.dpInUse (s : State) (g i : Nat) : Bool :=
  !((s.spState g ∈ [2, 3, 4, 5]) && s.serves g = i) && !(i ∈ (s.spare g).waiting) && !(i ∈ (s.spare g).held)
    && !s.dpRetired g i

/-- A datapath fails while its group's spare is busy in state `st` (R124). -/
def State.dpWait (s : State) (g i st : Nat) : State :=
  let x := s.spare g
  let s := s.setSpare g { x with waiting := x.waiting ++ [i] }
  if s.serves g ∈ x.held ∧ st ∈ [2, 4] then s.darken (grpChan g i)
  else
    -- the failed channel is silent until the spare takes it
    let s := s.losePlays (grpChan g i)
    if st = 4 then (s.sliceAbandon g).spareReturn g none
    else if st = 2 then s.spareReturn g none
    else s

/-- What becomes of the channel of a failed datapath (R123, R124). -/
def State.dpReplace (s : State) (g i : Nat) : State :=
  let st := s.spState g
  if st = 0 then s.spareTake g i
  else if st = 5 ∨ st = 6 then (s.darken (grpChan g i)).retireDp g i
  else s.dpWait g i st

/-- A failed datapath's error history takes the error: how many it has had within 24 h (R568, R569). -/
def State.dpErr (s : State) (d : Nat) : State × Nat :=
  let now := s.log.mtime.toNat
  let es := (s.syn.errs.get [] d).filter (fun t => decide (now < t + day)) ++ [now]
  ({ s with syn.errs := s.syn.errs.set [] d es }, es.length)

/-- A datapath reports an uncorrectable error or a compare fault (R123, R124, R567, R569). -/
def State.dpFail (s : State) (d : Nat) : State :=
  let g := (dpGroup d).1
  let i := (dpGroup d).2
  let s := s.logIt Cause.datapathError (s.chanOwner (grpChan g i)) (dpGid g i) 0
  let e := s.dpErr d
  let s := if e.1.dpInUse g i then e.1.dpReplace g i else e.1
  if 3 ≤ e.2 then
    let s := s.retireDp g i
    if s.spState g = 5 then s.loseWaiting g else s
  else s

/-- A spare itself fails (R126, R570). -/
def State.spareFail (s : State) (g : Nat) : State :=
  if s.spState g = 6 then s
  else
    let st := s.spState g
    let i := s.serves g
    let c := grpChan g i
    let s := (s.retire 1 g).logIt Cause.spareFailed 0 (spareGid g) 0
    let s := s.sliceAbandon g
    let x := s.spare g
    let s := s.setSpare g { x with owed := none, copyTo := none, held := [] }
    let s := (s.setSp g 6).settle x.owed St.internalError
    let s := if st ∈ [2, 3, 4, 5] then
        let s := s.crossbar g i false
        if s.dpRetired g i ∨ i ∈ x.held then (s.losePlays c).darken c else s.loseState c
      else s
    s.loseWaiting g

end Sys2Proof.Machine
end

