-- ==== Sys2Proof/Machine/DrvRows.lean ====
section
/-!
DEFINITION. Machine/DrvRows.lean: the drive chapter's commands and events (R93 to R98, R112 to R127, R131, R132), with the
spare groups' register bits, copies and failures of every kind of datapath, and the mutes of every output.
-/

namespace Sys2Proof.Machine
open Sys2Proof

/-- The fields that a DRV_CTRL or RDO_PRB_CTRL image of a command holds: ENABLE and MODE. -/
def ctrlFlds : List Fld := [F.DRV_CTRL_ENABLE, F.DRV_CTRL_MODE]
/-- A DRV_CTRL image changes ENABLE or MODE. -/
def State.ctrlChanges (s : State) (pg : Nat) (w : Word) : Bool :=
  wget w 0 0 ≠ s.g pg F.DRV_CTRL_ENABLE || wget w 1 1 ≠ s.g pg F.DRV_CTRL_MODE

/-- The refusals of DRV_CONFIG and RDO_PROBE_CONFIG (R127, R128, R190). -/
def State.outConfigBad (s : State) (c pg own : Nat) (w : Word) : Option Fail :=
  firstOf [need (!s.ctrlChanges pg w || s.idle own) St.badState, need (s.enableOk c (wget w 0 0)) St.powerLimit]
/-- Their effect. -/
def State.outConfig (s : State) (c pg : Nat) (p : Pkt) : State :=
  let s := s.setEnable c (wget (p.w 0) 0 0)
  let s := s.when (wget (p.w 0) 1 1 ≠ s.g pg F.DRV_CTRL_MODE) (·.p pg F.DRV_CTRL_MODE (wget (p.w 0) 1 1))
  let s := s.putImg (pg + 8) (p.w 1)
  s.finishDark p (s.chanDark c)

/-- Governed number of drive channel `n`. -/
def drvChan (n : Nat) : Nat := 3 * 1024 + n

def cDrvConfig : Cmd where
  op := 0x1000
  tgt := fun t => t < 128
  view := fun s p => ownTarget (s.owner p.target) p
  len := fun _ => 2
  bad := fun s p => firstBad [(0, s.badImg p.fn (Page.drv p.target) ctrlFlds (p.w 0)),
    (1, s.badReg p.fn (Page.drv p.target + 8) (p.w 1))]
  idle := fun s p => s.ctrlChanges (Page.drv p.target) (p.w 0)
  chk := fun s p => s.outConfigBad (drvChan p.target) (Page.drv p.target) (s.owner p.target) (p.w 0)
  holds := fun _ p => [(Page.drv p.target, 0x1000)]
  grps := fun p => [gid 12 p.target]
  run := fun s p => s.outConfig (drvChan p.target) (Page.drv p.target) p

/-- DRV_CONFIG (R127). -/
def execDrvConfig (p : Pkt) (s : State) : Out := .next (s.command cDrvConfig p)

/-- Words and registers of DRV_FRAME_SET for frame `f`. -/
def frameWords (f : Nat) : List (Nat × Nat) := wordsAt (Page.frame (f / 8) (f % 8)) 0 [0x00, 0x04, 0x08, 0x0C, 0x10]

def cDrvFrameSet : Cmd where
  op := 0x1001
  tgt := fun t => t < 1024
  view := fun s p => ownTarget (s.frameOwner p.target) p
  len := fun _ => 5
  bad := fun s p => s.badImgs p (frameWords p.target)
  holds := fun _ p => [(Page.drv (p.target / 8), 0x1000)]
  grps := fun p => [gid 12 p.target]
  run := fun s p => (s.putImgs p (frameWords p.target)).succeed p

/-- DRV_FRAME_SET (R127). -/
def execDrvFrameSet (p : Pkt) (s : State) : Out := .next (s.command cDrvFrameSet p)

/-- A range lies within a window. -/
def rangeIn (w : Nat × Nat) (a n : Nat) : Bool := w.1 ≤ a && a + n ≤ w.1 + w.2

/-- Samples written into the envelope store from address `a` on. -/
def State.envWrite (s : State) (q : Nat) : Nat → List Nat → State
  | _, [] => s
  | a, v :: l => (s.setEnv q a (BitVec.ofNat 32 v)).envWrite q (a + 1) l

/-- The quadrant's store and table registers, as a command's function (R127). -/
def envHolds (p : Pkt) : List (Nat × Nat) := [(Page.drvq p.target, 0x28000)]

def cEnvLoad : Cmd where
  op := 0x1002
  tgt := fun t => t < 4
  view := fun s p => if p.fn = 0 ∨ rangeIn (s.sampWin p.target p.fn) (p.n 0) (p.n 1) then none
    else some (.plain St.invalidParam)
  len := fun _ => 4
  bad := fun _ p => firstBad [(0, 2097152 ≤ p.n 0), (1, 2097152 < p.n 0 + p.n 1), misaligned p 2]
  holds := fun _ p => envHolds p
  grps := fun p => [gid 12 (2040 + p.target)]
  run := fun s p => s.withData p (4 * p.n 1) (fun s b => s.envWrite p.target (p.n 0) (chunks 4 (p.n 1) b))

/-- ENV_LOAD (R97, R98, R127). -/
def execEnvLoad (p : Pkt) (s : State) : Out := .next (s.command cEnvLoad p)

/-- Words 2 on of ENV_DESC_SET, with their registers. -/
def descWords (p : Pkt) : List (Nat × Nat) :=
  (List.range (2 * p.n 1)).map (fun i => (i + 2, Page.desc p.target (p.n 0 + i / 2) + i % 2 * 4))

def cEnvDescSet : Cmd where
  op := 0x1003
  tgt := fun t => t < 4
  view := fun s p => if p.fn = 0 ∨ rangeIn (s.descWin p.target p.fn) (p.n 0) (p.n 1) then none
    else some (.plain St.invalidParam)
  len := fun p => 2 + 2 * p.n 1
  cnt := some 1
  bad := fun s p =>
    match firstBad [(0, 4096 ≤ p.n 0), (1, p.n 1 = 0 || 511 < p.n 1 || 4096 < p.n 0 + p.n 1)] with
    | some i => some i
    | none => s.badImgs p (descWords p)
  holds := fun _ p => envHolds p
  grps := fun p => [gid 12 (2040 + p.target)]
  run := fun s p => (s.putImgs p (descWords p)).succeed p

/-- ENV_DESC_SET (R96, R98, R127). -/
def execEnvDescSet (p : Pkt) (s : State) : Out := .next (s.command cEnvDescSet p)

/-- A read or write of DRV_ENV_DATA (R98, R131): the sample at ADDR, which then advances. -/
def State.envData (s : State) (fn q : Nat) (wr : Option Word) : State :=
  let a := s.g (Page.drvq q) F.DRV_ENV_ADDR_ADDR
  if ¬ full fn ∧ ¬ inWin (s.sampWin q fn) a then { s.deny fn with pins.rdata := 0 }
  else
    let s := match wr with
      | some w => s.setEnv q a w
      | none => { s with pins.rdata := s.env q a }
    s.p (Page.drvq q) F.DRV_ENV_ADDR_ADDR ((a + 1) % 2097152)

/-- DRV_ENV_DATA_ACCESS (R131). -/
def execDrvEnvDataAccess (fn q : Nat) (wr : Option Word) (s : State) : Out :=
  .next (if q < 4 then
      (match wr with
       | some w => s.onWrite fn (Page.drvq q + 0xC) (fun s => s.envData fn q (some w))
       | none => s.onRead fn (Page.drvq q + 0xC) (fun s => s.envData fn q none))
    else s)

/-! ### The heat-load guard (R111 to R114) -/

def cDrvHeatSet : Cmd where
  op := 0x1004
  pf0 := true
  tgt := fun t => t < 128
  len := fun _ => 2
  bad := fun s p => s.badImgs p [(0, Page.drv p.target + 0x10), (1, Page.drv p.target + 0xC)]
  holds := fun _ p => [(Page.drv p.target, 0x1000)]
  grps := fun p => [gid 12 p.target]
  run := fun s p => (s.putImgs p [(0, Page.drv p.target + 0x10), (1, Page.drv p.target + 0xC)]).succeed p

/-- DRV_HEAT_SET (R114, R127). -/
def execDrvHeatSet (p : Pkt) (s : State) : Out := .next (s.command cDrvHeatSet p)

def cDrvTripClear : Cmd where
  op := 0x1005
  tgt := fun t => t < 128
  view := fun s p => ownTarget (s.owner p.target) p
  holds := fun _ p => [(Page.drv p.target, 0x1000)]
  grps := fun p => [gid 12 p.target]
  run := fun s p => (s.tripClear p.target).succeed p

/-- DRV_TRIP_CLEAR (R113, R127). -/
def execDrvTripClear (p : Pkt) (s : State) : Out := .next (s.command cDrvTripClear p)

/-- HEAT_TRIP_WRITE (R113): output 0–127 D, 128–159 P. -/
def execHeatTripWrite (fn : Nat) (ch : Nat) (s : State) : Out :=
  .next (if ch < 160 then s.onWrite fn (outPg ch + 4) (·.tripClear ch) else s)

/-- HEAT_TRIP (R112): the mean has passed the limit. -/
def execHeatTrip (ch : Nat) (s : State) : Out :=
  .next (if ch < 160 ∧ s.heatOver ch = true ∧ ¬ s.on (outPg ch) F.DRV_STATUS_HEAT_TRIP then
      let p := s.owner ch
      let s := s.flag (outPg ch) F.DRV_STATUS_HEAT_TRIP
      let s := s.logIt Cause.heatGuard p (if ch < 128 then gid 12 ch else gid 14 (ch - 128)) 0
      let s := s.when (s.running p = true) (·.mark p 8)
      s.muteStep ch
    else s)

/-! ### Spares (R121 to R126) -/

/-- A refused swap or release command sets SWAP_REFUSED (R126). -/
def rejSpare (g : Pkt → Nat) (s : State) (p : Pkt) (f : Fail) : State :=
  s.when (f.status = St.badState) (·.swapRefused (g p))

def cDrvSpareSwap : Cmd where
  op := 0x1006
  pf0 := true
  tgt := fun t => t < 128
  chk := fun s p => need (!s.swapBad (p.target / 8) (p.target % 8)) St.badState
  rej := rejSpare (fun p => p.target / 8)
  holds := fun _ p => [(Page.drv p.target, 0x1000)]
  grps := fun p => [gid 12 p.target]
  run := fun s p => s.spareGo (p.target / 8) (p.target % 8) p.who false

/-- DRV_SPARE_SWAP (R122, R127): it completes with the switch. -/
def execDrvSpareSwap (p : Pkt) (s : State) : Out := .next (s.command cDrvSpareSwap p)

def cDrvSpareRelease : Cmd where
  op := 0x1007
  pf0 := true
  tgt := fun t => t < 16
  chk := fun s p => need (!s.releaseBadSp p.target) St.badState
  rej := rejSpare (fun p => p.target)
  holds := fun _ p => [(Page.spare p.target, 0x20)]
  grps := fun p => [gid 12 (2040 + p.target / 4)]
  run := fun s p => s.spareReturn p.target p.who

/-- DRV_SPARE_RELEASE (R122, R127). -/
def execDrvSpareRelease (p : Pkt) (s : State) : Out := .next (s.command cDrvSpareRelease p)

/-- SPARE_CTRL_SWAP (R126, R132): TARGET is written and the swap requested. -/
def execSpareCtrlSwap (fn g target : Nat) (s : State) : Out :=
  .next (if g < 48 then s.onWrite fn (Page.spare g) (fun s =>
      let i := target % grpSize g
      (s.p (Page.spare g) F.DRV_SPARE_CTRL_TARGET i).spareSwapReg g i)
    else s)

/-- SPARE_CTRL_RELEASE (R126, R132). -/
def execSpareCtrlRelease (fn g : Nat) (s : State) : Out :=
  .next (if g < 48 then s.onWrite fn (Page.spare g) (·.spareReleaseReg g) else s)

/-- SPARE_COPY_COMPLETE (R122, R126). -/
def execSpareCopyComplete (g : Nat) (s : State) : Out := .next (if g < 48 then s.spareCopied g else s)

/-- DATAPATH_FAILURE (R123, R124): datapath 0–127 D, 128–159 P, 160–287 Z, 288–319 A. -/
def execDatapathFailure (ch : Nat) (s : State) : Out :=
  .next (if ch < 320 ∧ s.pwr.mode ≠ .off then s.dpFail ch else s)

/-- SPARE_FAILURE (R126). -/
def execSpareFailure (g : Nat) (s : State) : Out := .next (if g < 48 ∧ s.pwr.mode ≠ .off then s.spareFail g else s)

/-! ### Mutes and the ends of plays -/

/-- EXT_MUTE_INPUT (R116): every output's mute follows; a change is a module-level source of the router (R547). -/
def execExtMuteInput (asserted : Bool) (s : State) : Out :=
  let src := if asserted then 641 else 642
  .next ((forEach (List.range 160) { s with syn.extMute := asserted } State.muteStep).when
    (s.syn.extMute ≠ asserted) (·.publishSrc src))

/-- MUTE_RELEASE (R117): T_exp = start − 4,096. -/
def execMuteRelease (p : Nat) (s : State) : Out :=
  .next (if p < 5 ∧ s.pst p = 2 ∧ 16 * (s.prt p).start ≤ (s.cnt p).toNat + 4096 then
      let s := s.setPrt p { s.prt p with unmuted := true }
      forEach ((List.range 160).filter (fun n => s.owner n = p)) s State.muteStep
    else s)

/-- PLAY_END (R100): a lane's plays that have reached their end are over. -/
def execPlayEnd (lane : Nat) (s : State) : Out :=
  let st := laneStep lane
  let own := if lane < 1024 then s.owner (lane / 8) else if lane < 2048 then s.toneOwner (lane - 1024)
    else s.owner ((lane - 2048) / 2)
  let t := (s.cnt own).toNat
  .next (s.setPlays lane ((s.plays lane).filter (fun p => decide (t < p.last st))))

end Sys2Proof.Machine
end

