-- ==== Sys2Proof/Machine/RdoRows.lean ====
section
/-!
DEFINITION. Machine/RdoRows.lean: the read-out chapter's commands and events (R252 to R286): probe and acquisition
configuration, tones, kernels, spares, result rings, and what happens when windows end.
-/

namespace Sys2Proof.Machine
open Sys2Proof

/-- Governed numbers of probe output and acquisition input `m`. -/
def prbChan (m : Nat) : Nat := 2 * 1024 + m
def adcChan (m : Nat) : Nat := 1024 + m
/-- The registers of a read-out channel, as a command's function (R280). -/
def rdoHolds (p : Pkt) : List (Nat × Nat) := [(Page.rdo p.target, 0x1000)]

def cRdoProbeConfig : Cmd where
  op := 0x1200
  tgt := fun t => t < 32
  view := fun s p => ownTarget (s.owner (128 + p.target)) p
  len := fun _ => 2
  bad := fun s p => firstBad [(0, s.badImg p.fn (Page.rdo p.target) ctrlFlds (p.w 0)),
    (1, s.badReg p.fn (Page.rdo p.target + 8) (p.w 1))]
  idle := fun s p => s.ctrlChanges (Page.rdo p.target) (p.w 0)
  chk := fun s p => s.outConfigBad (prbChan p.target) (Page.rdo p.target) (s.owner (128 + p.target)) (p.w 0)
  holds := fun _ p => rdoHolds p
  grps := fun p => [gid 14 p.target]
  run := fun s p => s.outConfig (prbChan p.target) (Page.rdo p.target) p

/-- RDO_PROBE_CONFIG (R280). -/
def execRdoProbeConfig (p : Pkt) (s : State) : Out := .next (s.command cRdoProbeConfig p)

def cRdoAdcConfig : Cmd where
  op := 0x1201
  tgt := fun t => t < 32
  view := fun s p => ownTarget (s.owner (128 + p.target)) p
  len := fun _ => 1
  bad := fun s p => s.badImgs p [(0, Page.rdo p.target + 0x40)]
  idle := fun _ _ => true
  chk := fun s p => firstOf [need (s.idle (s.owner (128 + p.target))) St.badState,
    need (s.enableOk (adcChan p.target) (wget (p.w 0) 0 0)) St.powerLimit]
  holds := fun _ p => rdoHolds p
  grps := fun p => [gid 14 p.target]
  run := fun s p =>
    let was : Bool := s.on (Page.rdo p.target) F.RDO_ADC_CTRL_ENABLE
    let s := s.setEnable (adcChan p.target) (wget (p.w 0) 0 0)
    -- an input that powers up completes when its samples are valid
    if wget (p.w 0) 0 0 = 1 ∧ ¬ was ∧ ¬ s.chanDark (adcChan p.target) then
      { s with rdo.owed := s.rdo.owed.set none p.target p.who }
    else s.finishDark p (s.chanDark (adcChan p.target))

/-- RDO_ADC_CONFIG (R280). -/
def execRdoAdcConfig (p : Pkt) (s : State) : Out := .next (s.command cRdoAdcConfig p)

/-- Words and registers of TONE_SET for tone `t`. -/
def toneWords (t : Nat) : List (Nat × Nat) := (List.range 20).map (fun i => (i, Page.tone t + 4 * i))

/-- The first word of a VF's TONE_SET that names a descriptor outside its partition's window (R98). -/
def State.toneDescBad (s : State) (p : Pkt) : Option Nat :=
  if p.fn = 0 then none
  else
    let out := fun e => !inWin (s.descWin (p.target / 256) p.fn) e
    firstBad [(18, out (wget (p.w 18) 11 0) || out (wget (p.w 18) 27 16)), (19, out (wget (p.w 19) 11 0))]

def cToneSet : Cmd where
  op := 0x1202
  tgt := fun t => t < 1024
  view := fun s p => ownTarget (s.toneOwner p.target) p
  len := fun _ => 20
  bad := fun s p => match s.badImgs p (toneWords p.target) with
    | some i => some i
    | none => s.toneDescBad p
  holds := fun _ p => [(Page.tone p.target, 0x80)]
  grps := fun p => [gid 14 p.target]
  run := fun s p => (s.putImgs p (toneWords p.target)).succeed p

/-- TONE_SET (R98, R280). -/
def execToneSet (p : Pkt) (s : State) : Out := .next (s.command cToneSet p)

/-- Weights written into the kernel store of input `m` from address `a` on (R259). -/
def State.kernWrite (s : State) (m : Nat) : Nat → List Nat → State
  | _, [] => s
  | a, v :: l => (s.weightSet m a (BitVec.ofNat 48 v)).kernWrite m (a + 1) l

def cKernelLoad : Cmd where
  op := 0x1203
  tgt := fun t => t < 32
  view := fun s p => ownTarget (s.owner (128 + p.target)) p
  len := fun _ => 4
  bad := fun _ p => firstBad [(0, 32768 ≤ p.n 0), (1, 32768 < p.n 0 + p.n 1), misaligned p 2]
  holds := fun _ p => rdoHolds p
  grps := fun p => [gid 14 p.target]
  run := fun s p => s.withData p (8 * p.n 1) (fun s b => s.kernWrite p.target (p.n 0) (chunks 8 (p.n 1) b))

/-- KERNEL_LOAD (R259, R280). -/
def execKernelLoad (p : Pkt) (s : State) : Out := .next (s.command cKernelLoad p)

/-- A read or write of RDO_KERN_Q (R283, R286): a write stores the whole weight, with the half held for the function;
a read gives the half that the function's read of RDO_KERN_I has held. ADDR advances. -/
def State.kernQ (s : State) (fn q : Nat) (wr : Option Word) : State :=
  let pg := Page.rdoq q
  let m := 8 * q + s.g pg F.RDO_KERN_ADDR_INPUT
  let a := s.g pg F.RDO_KERN_ADDR_ADDR
  if ¬ full fn ∧ s.owner (128 + m) ≠ fn then { s.deny fn with pins.rdata := 0 }
  else
    let s := match wr with
      | some w => s.kernWrite m a [(s.rdo.kernHeld.get 0 (fn * 4 + q)).toNat % 2 ^ 24 + w.toNat % 2 ^ 24 * 2 ^ 24]
      | none => { s with pins.rdata := s.heldRd.get 0 (holdKey fn (pg + 0x10)) }
    s.p pg F.RDO_KERN_ADDR_ADDR ((a + 1) % 32768)

/-- A read of RDO_KERN_I reads the whole weight at the current address (R283). -/
def State.kernI (s : State) (fn q : Nat) : State :=
  let pg := Page.rdoq q
  let m := 8 * q + s.g pg F.RDO_KERN_ADDR_INPUT
  if ¬ full fn ∧ s.owner (128 + m) ≠ fn then { s.deny fn with pins.rdata := 0 }
  else
    let v := (s.rdo.kern.get 0 (m * 32768 + s.g pg F.RDO_KERN_ADDR_ADDR)).toNat
    { s with heldRd := s.heldRd.set 0 (holdKey fn (pg + 0x10)) (BitVec.ofNat 32 (v / 2 ^ 24))
             pins.rdata := BitVec.ofNat 32 (v % 2 ^ 24) }

/-- RDO_KERN_Q_ACCESS (R283). -/
def execRdoKernQAccess (fn q : Nat) (wr : Option Word) (s : State) : Out :=
  .next (if q < 4 then
      (match wr with
       | some w => s.onWrite fn (Page.rdoq q + 0x10) (fun s => s.kernQ fn q (some w))
       | none => s.onRead fn (Page.rdoq q + 0x10) (fun s => s.kernQ fn q none))
    else s)

/-! ### Guard and spares (R252, R278) -/

def cRdoHeatSet : Cmd where
  op := 0x1204
  pf0 := true
  tgt := fun t => t < 32
  len := fun _ => 2
  bad := fun s p => s.badImgs p [(0, Page.rdo p.target + 0x10), (1, Page.rdo p.target + 0xC)]
  holds := fun _ p => rdoHolds p
  grps := fun p => [gid 14 p.target]
  run := fun s p => (s.putImgs p [(0, Page.rdo p.target + 0x10), (1, Page.rdo p.target + 0xC)]).succeed p

/-- RDO_HEAT_SET (R280). -/
def execRdoHeatSet (p : Pkt) (s : State) : Out := .next (s.command cRdoHeatSet p)

def cRdoTripClear : Cmd where
  op := 0x1205
  tgt := fun t => t < 32
  view := fun s p => ownTarget (s.owner (128 + p.target)) p
  holds := fun _ p => rdoHolds p
  grps := fun p => [gid 14 p.target]
  run := fun s p => (s.tripClear (128 + p.target)).succeed p

/-- RDO_TRIP_CLEAR (R113, R280). -/
def execRdoTripClear (p : Pkt) (s : State) : Out := .next (s.command cRdoTripClear p)

/-- The spare group that a command of kind w0 (0 probe, 1 acquisition) names by channel. -/
def rdoGrp (p : Pkt) : Nat := (if p.n 0 = 0 then 32 else 40) + p.target / 4

def cRdoSpareSwap : Cmd where
  op := 0x1206
  pf0 := true
  tgt := fun t => t < 32
  len := fun _ => 1
  bad := fun _ p => firstBad [(0, 1 < p.n 0)]
  chk := fun s p => need (!s.swapBad (rdoGrp p) (p.target % 4)) St.badState
  rej := fun s p f => if p.n 0 ≤ 1 then rejSpare rdoGrp s p f else s
  holds := fun _ p => rdoHolds p
  grps := fun p => [gid 14 p.target]
  run := fun s p => s.spareGo (rdoGrp p) (p.target % 4) p.who false

/-- RDO_SPARE_SWAP (R278, R280). -/
def execRdoSpareSwap (p : Pkt) (s : State) : Out := .next (s.command cRdoSpareSwap p)

/-- The spare group that a command of kind w0 names by group. -/
def rdoRelGrp (p : Pkt) : Nat := (if p.n 0 = 0 then 32 else 40) + p.target

def cRdoSpareRelease : Cmd where
  op := 0x1207
  pf0 := true
  tgt := fun t => t < 8
  len := fun _ => 1
  bad := fun _ p => firstBad [(0, 1 < p.n 0)]
  chk := fun s p => need (!s.releaseBadSp (rdoRelGrp p)) St.badState
  rej := fun s p f => if p.n 0 ≤ 1 then rejSpare rdoRelGrp s p f else s
  holds := fun _ p => [(Page.spare (rdoRelGrp p), 0x20)]
  grps := fun p => [gid 14 (2040 + p.target / 2)]
  run := fun s p => s.spareReturn (rdoRelGrp p) p.who

/-- RDO_SPARE_RELEASE (R278, R280). -/
def execRdoSpareRelease (p : Pkt) (s : State) : Out := .next (s.command cRdoSpareRelease p)

/-! ### Result rings (R272 to R275) -/

/-- Words of REC_RING_SET with the registers of ring `p`: base, length, reserve, enable. -/
def ringWords (p : Nat) : List (Nat × Nat) :=
  [(0, Page.ring p + 8), (1, Page.ring p + 0xC), (2, Page.ring p + 0x10), (3, Page.ring p + 0x14), (4, Page.ring p)]

/-- Base and enable change. -/
def State.ringMoves (s : State) (p : Nat) (lo hi : Word) : Bool :=
  lo ≠ s.reg (Page.ring p + 8) || hi ≠ s.reg (Page.ring p + 0xC)

/-- Base and enable are written (R272). -/
def State.ringBase (s : State) (p : Nat) (lo hi : Word) (en : Nat) : State :=
  let again : Bool := s.ringMoves p lo hi || (en = 1 && !s.on (Page.ring p) F.REC_CTRL_ENABLE)
  let s := ((s.putImg (Page.ring p + 8) lo).putImg (Page.ring p + 0xC) hi).p (Page.ring p) F.REC_CTRL_ENABLE en
  s.when (again = true) (·.recRestart p)

def cRecRingSet : Cmd where
  op := 0x1210
  tgt := fun t => t < 5
  view := fun _ p => ownTarget p.target p
  len := fun _ => 5
  bad := fun s p => s.badImgs p (ringWords p.target)
  idle := fun s p => s.ringMoves p.target (p.w 0) (p.w 1) || wget (p.w 4) 0 0 ≠ s.g (Page.ring p.target) F.REC_CTRL_ENABLE
  chk := fun s p => need (s.idle p.target || !(s.ringMoves p.target (p.w 0) (p.w 1)
    || wget (p.w 4) 0 0 ≠ s.g (Page.ring p.target) F.REC_CTRL_ENABLE)) St.badState
  holds := fun _ p => [(Page.ring p.target, 0x40)]
  grps := fun p => [gid 14 p.target]
  run := fun s p =>
    let s := s.recResize p.target (wget (p.w 2) 31 12)
    let s := s.putImg (Page.ring p.target + 0x14) (p.w 3)
    (s.ringBase p.target (p.w 0) (p.w 1) (wget (p.w 4) 0 0)).succeed p

/-- REC_RING_SET (R272, R275, R280). -/
def execRecRingSet (p : Pkt) (s : State) : Out := .next (s.command cRecRingSet p)

/-- REC_CONS_WRITE (R272). -/
def execRecConsWrite (fn p : Nat) (v : Word) (s : State) : Out :=
  .next (if p < 5 then s.onWrite fn (Page.ring p + 0x1C) (·.recConsume p v.toNat) else s)

/-! ### Windows and outcomes -/

/-- WINDOW_END (R253, R263): `adc` are the codes that the tone's input has given since it last gave any. -/
def execWindowEnd (t : Nat) (adc : List AdcCode) (s : State) : Out :=
  .next (if t < 1024 then (s.adcIn (toneInput t) adc).windowOf t true else s)

/-- EARLY_DECISION (R253, R264). -/
def execEarlyDecision (t : Nat) (adc : List AdcCode) (s : State) : Out :=
  .next (if t < 1024 then (s.adcIn (toneInput t) adc).windowOf t false else s)

/-- The plays of lane `k` of sequencer `q`, issued or sounding, give nothing from tick `b` of the partition on. -/
def State.laneCut (s : State) (q k b : Nat) : State :=
  let cutAt := fun (pl : Play) => if 16 * b < pl.last 1 then { pl with cut := some (16 * b) } else pl
  let s := s.setPlays k ((s.plays k).map cutAt)
  let x := s.sqs q
  s.setSq q { x with eff := x.eff.map (fun e => match e.2 with
    | .playOn k' pl => if k' = k ∧ e.1 ≤ b then (e.1, Eff.playOn k' (cutAt pl)) else e
    | _ => e) }

/-- DESCx of a tone. -/
def State.deplDesc (s : State) (t x : Nat) : Nat :=
  s.g (Page.tone t) (match x with | 0 => F.TONE_DEPL01_DESC0 | 1 => F.TONE_DEPL01_DESC1 | _ => F.TONE_DEPL2_DESC2)

/-- A depletion play for decided state `x` is issued (R265, R281). -/
def State.deplPlay (s : State) (t x τ : Nat) : State :=
  let k := toneLane t
  let s := (s.bump64 (outPg (laneOut' k)) F.DRV_PLAYS_LO).bandCheck k
  match s.makePlay (s.toneOwner t) k (s.deplDesc t x) 0 (s.gi (Page.tone t) F.TONE_DEPL2_DEPL_AMP) 0 τ with
  | none => s.badPlay k
  | some pl => s.later (128 + t / 32) τ (.playOn k pl)

/-- DEPLETION_START (R265): the action at the P connector follows 76 ticks after the play is issued (R277). -/
def execDepletionStart (t : Nat) (s : State) : Out :=
  let d := s.rdo.depl.get 0 t
  .next (if d = 0 then s else
    let s := { s with rdo.depl := s.rdo.depl.set 0 t 0 }
    let m := s.g (Page.tone t) F.TONE_CTRL_DEPLETE
    let b := s.tk (s.toneOwner t) + 76
    if m = 1 ∨ m = 2 then
      let s := s.laneCut (128 + t / 32) (toneLane t) b
      if m = 2 ∧ s.g (Page.tone t) F.TONE_DEPL2_EN / 2 ^ (d - 1) % 2 = 1 then s.deplPlay t (d - 1) b else s
    else s)

/-- RECORD_ASSEMBLED (R268, R492): the last window of the oldest shot that waits has delivered its outcome. -/
def execRecordAssembled (p : Nat) (s : State) : Out :=
  .next (if 5 ≤ p then s else
    match (s.prt p).asm with
    | [] => s
    | sh :: _ =>
      if s.outcDue p sh.num then s
      else
        let d := s.fab.digest.get 0 (digKey p sh.num)
        let s := s.when (s.twinState = 3) (fun s => s.mirror [s.mirrorWord 2 p sh.num, BitVec.ofNat 64 (d - 1)])
        let s := if s.twinState = 2 then s else { s with fab.digest := s.fab.digest.set 0 (digKey p sh.num) 0 }
        s.assemble p)

/-- RECORD_WRITE (R272, R274). -/
def execRecordWrite (p : Nat) (s : State) : Out :=
  .next (if p < 5 ∧ s.dma p = true ∧ ¬ (64 + p) ∈ s.hif.retry then s.recWrite p else s)

end Sys2Proof.Machine
end

