-- ==== Sys2Proof/Machine/DecRows.lean ====
section
/-!
DEFINITION. Machine/DecRows.lean: the decision engine's commands and events (R287 to R323): outcomes, gather units, the
chain port, Comet messages and the external decoder.
-/

namespace Sys2Proof.Machine
open Sys2Proof

/-! ### Commands -/

/-- Tones that DEC_ROUTE_SET names. -/
def routeTones (p : Pkt) : List Nat := (List.range (p.n 0)).map (p.target + ·)
/-- Words and registers of DEC_ROUTE_SET. -/
def routeWords (p : Pkt) : List (Nat × Nat) := (List.range (p.n 0)).map (fun i => (i + 1, Page.route (p.target + i)))

def cDecRouteSet : Cmd where
  op := 0x2000
  tgt := fun t => t < 1024
  view := fun s p =>
    if p.fn = 0 then none
    else if s.toneOwner p.target ≠ p.fn then some Fail.target
    else if p.n 0 ≤ 1024 ∧ (routeTones p).any (fun t => t < 1024 && s.toneOwner t ≠ p.fn) then some (.plain St.invalidParam)
    else none
  len := fun p => 1 + p.n 0
  cnt := some 0
  bad := fun s p =>
    if p.n 0 = 0 ∨ 1023 < p.n 0 ∨ 1024 < p.target + p.n 0 then some 0 else s.badImgs p (routeWords p)
  idle := fun _ _ => true
  chk := fun s p => need ((routeTones p).all (fun t => s.idle (s.toneOwner t))) St.badState
  holds := fun _ p => [(Page.route p.target, 4 * p.n 0)]
  grps := fun p => [gid 11 p.target]
  run := fun s p => (s.putImgs p (routeWords p)).succeed p

/-- DEC_ROUTE_SET (R316). -/
def execDecRouteSet (p : Pkt) (s : State) : Out := .next (s.command cDecRouteSet p)

/-- Words and registers of DEC_GATHER_SET. -/
def guWords (g : Nat) : List (Nat × Nat) := wordsAt (Page.gu g) 0 [0x00, 0x04, 0x08, 0x0C, 0x10]

def cDecGatherSet : Cmd where
  op := 0x2001
  tgt := fun t => t < 64
  view := fun s p => ownTarget (s.guPart p.target) p
  len := fun _ => 5
  bad := fun s p => s.badImgs p (guWords p.target)
  idle := fun _ _ => true
  chk := fun s p => need (s.idle (s.guPart p.target)) St.badState
  holds := fun _ p => [(Page.gu p.target, 0x20)]
  grps := fun p => [gid 11 (1024 + p.target)]
  run := fun s p => (s.putImgs p (guWords p.target)).succeed p

/-- DEC_GATHER_SET (R316). -/
def execDecGatherSet (p : Pkt) (s : State) : Out := .next (s.command cDecGatherSet p)

/-- Whether the entry of key `k` may not be written now (R300). -/
def State.entryLocked (s : State) (k : Nat) : Bool :=
  match s.keyOwner k with
  | some p => !s.idle p
  | none => s.anyBusyPart

def State.setEntry (s : State) (k : Nat) (e : BitVec 128) : State :=
  { s with dec.tab := s.dec.tab.set 0 k e
           dec.bad := (s.dec.bad.set false (2 * k) false).set false (2 * k + 1) false }
/-- Entries written from key `k` on. -/
def State.entryWrite (s : State) : Nat → List Nat → State
  | _, [] => s
  | k, v :: l => (s.setEntry k (BitVec.ofNat 128 v)).entryWrite (k + 1) l

/-- Keys of a table command, as far as they exist. -/
def tabKeys (p : Pkt) : List Nat := ((List.range (min 65536 (p.n 0))).map (p.target + ·)).filter (fun k => decide (k < 65536))
/-- The refusals that table loads and clears share (R316). -/
def State.tabRefusal (s : State) (p : Pkt) : Option Fail :=
  firstOf [need (decide (p.target + p.n 0 ≤ 65536)) St.tableFull, need ((tabKeys p).all (fun k => !s.entryLocked k)) St.badState]
/-- A VF reaches its own entries only. -/
def State.tabView (s : State) (p : Pkt) : Option Fail :=
  if p.fn = 0 then none
  else if s.keyOwner p.target ≠ some p.fn then some Fail.target
  else if (tabKeys p).all (fun k => s.keyOwner k = some p.fn) then none else some (.plain St.invalidParam)
/-- The entries of a table command, as its function (R316). -/
def tabHolds (p : Pkt) : List (Nat × Nat) := [(0x2200000 + 32 * p.target, 32 * p.n 0)]

def cDecTableLoad : Cmd where
  op := 0x2002
  tgt := fun t => t < 65536
  view := State.tabView
  len := fun _ => 3
  bad := fun _ p => firstBad [misaligned p 1]
  idle := fun _ _ => true
  chk := State.tabRefusal
  holds := fun _ p => tabHolds p
  grps := fun p => [gid 11 (1088 + p.target / 512)]
  run := fun s p =>
    if (chunks 16 (p.n 0) p.host).any (fun v => entBad (BitVec.ofNat 128 v)) then s.finish p (.plain St.invalidParam)
    else s.withData p (16 * p.n 0) (fun s b => s.entryWrite p.target (chunks 16 (p.n 0) b))

/-- DEC_TABLE_LOAD (R300, R316). -/
def execDecTableLoad (p : Pkt) (s : State) : Out := .next (s.command cDecTableLoad p)

def cDecTableClear : Cmd where
  op := 0x2003
  tgt := fun t => t < 65536
  view := State.tabView
  len := fun _ => 1
  idle := fun _ _ => true
  chk := State.tabRefusal
  holds := fun _ p => tabHolds p
  grps := fun p => [gid 11 (1088 + p.target / 512)]
  run := fun s p =>
    { s with dec.tab := s.dec.tab.filter (fun e => !inWin (p.target, p.n 0) e.1)
             dec.bad := s.dec.bad.filter (fun e => !inWin (p.target, p.n 0) (e.1 / 2)) }.succeed p

/-- DEC_TABLE_CLEAR (R316). -/
def execDecTableClear (p : Pkt) (s : State) : Out := .next (s.command cDecTableClear p)

/-- Key under which function `fn` holds word `j` of entry `k` (R322). -/
def entHeld (fn k j : Nat) : Nat := (fn * 65536 + k) * 4 + j

/-- Word 3 of entry `k` is written by `fn` with the words that it holds (R300, R322). -/
def State.entryDone (s : State) (fn k : Nat) (v : Word) : State :=
  let h := fun j => (s.dec.held.get 0 (entHeld fn k j)).toNat
  let e := BitVec.ofNat 128 (h 0 + h 1 * 2 ^ 32 + h 2 * 2 ^ 64 + v.toNat * 2 ^ 96)
  if s.entryLocked k then s.lockedWrite 0x2200000
  else if entBad e then (s.setEntry k (e &&& ~~~ 1#128)).badAction
  else s.setEntry k e

/-- DEC_ENTRY_WRITE (R322). -/
def execDecEntryWrite (fn key : Nat) (v : Word) (s : State) : Out :=
  .next (if key < 65536 then s.onWrite fn (0x2200000 + 32 * key + 12) (·.entryDone fn key v) else s)

def cDecCometSet : Cmd where
  op := 0x2004
  pf0 := true
  len := fun _ => 1
  bad := fun s p => s.badImgs p [(0, Page.dec + 4)]
  holds := fun _ _ => [(Page.dec, 0x100)]
  grps := fun _ => [gid 11 2047]
  run := fun s p => (s.putImg (Page.dec + 4) (p.w 0)).succeed p

/-- DEC_COMET_SET (R316). -/
def execDecCometSet (p : Pkt) (s : State) : Out := .next (s.command cDecCometSet p)

def cDecDecoderSet : Cmd where
  op := 0x2005
  pf0 := true
  len := fun _ => 1
  bad := fun s p => s.badImgs p [(0, Page.dec + 8)]
  idle := fun _ _ => true
  chk := fun s _ => need (!s.anyBusyPart) St.badState
  holds := fun _ _ => [(Page.dec, 0x100)]
  grps := fun _ => [gid 11 2047]
  run := fun s p => (s.putImg (Page.dec + 8) (p.w 0)).succeed p

/-- DEC_DECODER_SET (R316). -/
def execDecDecoderSet (p : Pkt) (s : State) : Out := .next (s.command cDecDecoderSet p)

/-! ### Outcomes and gathers (R287 to R293) -/

/-- The effective state of an outcome on arrival (R288). -/
def State.effState (s : State) (t : Nat) (o : Outc) : Nat :=
  let pg := Page.route t
  let e := if o.state = 3 then s.g pg F.DEC_ROUTE_INV_AS else o.state
  if s.on pg F.DEC_ROUTE_FLIP_EN && decide (e ≤ 1) && s.dec.x.get false (s.g pg F.DEC_ROUTE_FLIP_FRAME) then 1 - e else e

/-- The engine treats an outcome by the tone's route (R287 to R290). -/
def State.routeOutc (s : State) (t : Nat) (o : Outc) : State :=
  let m := s.g (Page.route t) F.DEC_ROUTE_MODE
  let e := s.effState t o
  let g := s.g (Page.route t) F.DEC_ROUTE_GU
  let s := s.when (m = 1 ∨ m = 3) (·.lookup (s.toneOwner t) (4 * t + e) t)
  (s.when (2 ≤ m) (·.guDeliver g t e)).eccReads

/-- OUTCOME_ARRIVAL (R287, R288): the oldest outcome of tone `t` that is on its way. -/
def execOutcomeArrival (t : Nat) (s : State) : Out :=
  .next (match s.rdo.outc.get [] t with
    | [] => s
    | o :: l => { s with rdo.outc := s.rdo.outc.set [] t l }.routeOutc t o)

/-- GATHER_COMPLETE (R291, R292, R298): the oldest completion that has fallen due. -/
def execGatherComplete (g : Nat) (s : State) : Out :=
  .next (if g < 64 ∧ s.on (Page.gu g) F.GU_CTRL_EN = true then (s.guServe g).eccReads else s)

/-- The missing members of unit `g` contribute their INV_AS values (R291). -/
def State.guDefaults (s : State) (g : Nat) : State :=
  let x := s.gath g
  let miss := (s.guMembers g).filter (fun t => !decide (t ∈ x.got))
  let G := miss.foldl (fun G t => s.guPut t (s.g (Page.route t) F.DEC_ROUTE_INV_AS % 3) G) x.g
  (s.setGath g { x with g := G }).when (miss ≠ [] ∧ ¬ s.guFollows g) (·.bump Page.dec F.DEC_GATHER_TIMEOUTS)

/-- GATHER_TIMEOUT (R291). -/
def execGatherTimeout (g : Nat) (s : State) : Out :=
  let x := s.gath g
  let n := s.g (Page.gu g) F.GU_TIMEOUT_TIMEOUT
  .next (if g < 64 ∧ s.on (Page.gu g) F.GU_CTRL_EN = true ∧ n ≠ 0 ∧ x.got ≠ [] ∧ ¬ x.done ∧ x.first + n ≤ s.tk (s.guPart g) then
      (((s.guDefaults g).guDue g).guServe g).eccReads
    else s)

/-- CHAIN_LOOKUP (R297): the chain port serves the oldest request. -/
def execChainLookup (s : State) : Out :=
  .next (match s.dec.chain with
    | [] => s
    | (k, d, p) :: l =>
      let s := { s with dec.chain := l }
      if s.ownsKey p k then ((s.bump Page.dec F.DEC_CHAIN_LOOKUPS).readEntry p k d rankChain).eccReads else s.badAction)

/-! ### Comet messages (R304 to R308) -/

/-- A word delivered to this module is taken from those that wait. -/
def dropWord (typ : Nat) (w : W64) : List FWord → List FWord
  | [] => []
  | x :: l => if x.typ = typ ∧ x.ws.head? = some w then l else x :: dropWord typ w l
def State.takeWord (s : State) (typ : Nat) (w : W64) : State :=
  { s with fab.inbox := dropWord typ w s.fab.inbox }

/-- COMET_RECEIVE (R307, R491): a standby holds the message for its COMET_APPLY. -/
def execCometReceive (w : BitVec 64) (s : State) : Out :=
  .next (if s.pwr.mode = .off then s else
    let s := s.takeWord 1 w
    if s.twinState ∈ [1, 2] then { s with fab.comets := s.fab.comets ++ [w] } else s.cometIn w)

/-- ACK_INTERVAL as it runs (R317). -/
def State.ackInterval (s : State) : Nat := max 16 (s.g Page.dec F.DEC_COMET_CFG_ACK_INTERVAL)

/-- COMET_ACK_SEND (R306): the next expected SEQ is returned; the format of the word on the fabric is left open. -/
def execCometAckSend (p node : Nat) (s : State) : Out :=
  let x := s.pair (pairKey p node)
  .next (if p < 5 ∧ node < 64 ∧ x.unacked ≠ 0
      ∧ (s.g Page.dec F.DEC_COMET_CFG_ACK_THRESH ≤ x.unacked ∨ x.since + s.ackInterval ≤ s.now / 16) then
      let s := s.setPair (pairKey p node) { x with unacked := 0 }
      if s.speaks then
        s.fabSend 1 node 3 [Config.ackWord p (s.epoch p) s.node s.myTwin x.expected]
      else s
    else s)

/-- COMET_ACK_RECEIVE (R306): an acknowledgement with next expected value `a`. -/
def execCometAckReceive (p node a : Nat) (s : State) : Out :=
  let x := s.pair (pairKey p node)
  .next (if 5 ≤ p ∨ 64 ≤ node ∨ s.pwr.mode = .off then s
    else if (a + 4096 - x.acked) % 4096 ≤ (x.next + 4096 - x.acked) % 4096 then
      (s.setPair (pairKey p node) { x with acked := a % 4096, lastAck := s.now / 16 }).cometDrain p node x.wait.length
    else s.bump Page.dec F.DEC_COMET_STALE)

/-- COMET_ACK_TIMEOUT (R308): 100 µs without an acknowledgement. -/
def execCometAckTimeout (p node : Nat) (s : State) : Out :=
  let x := s.pair (pairKey p node)
  .next (if p < 5 ∧ node < 64 ∧ x.acked ≠ x.next ∧ x.lastAck + 100000 ≤ s.now / 16 then
      let s := (s.flag Page.dec F.DEC_STATUS_ACK_TIMEOUT).logIt Cause.cometAckTimeout p (gid 11 2047) 0
      (s.setPair (pairKey p node) { x with acked := x.next, lastAck := s.now / 16 }).cometDrain p node x.wait.length
    else s)

/-! ### The external decoder (R309 to R313) -/

/-- Round `r` of unit `g` is resolved (R310, R313). -/
def State.resolve (s : State) (g r : Nat) : State :=
  let x := s.gath g
  let s := s.setGath g { x with out := x.out.filter (fun o => o.1 ≠ r) }
  let s := s.when (s.on (Page.gu g) F.GU_CTRL_DONE_EN = true)
    (·.chainAsk (s.g (Page.gu g) F.GU_ENTRIES_DONE_ENTRY) (s.guPart g))
  if x.done then ((s.guDue g).guServe g).eccReads else s

/-- A frame update from node `src` (R311, R312). -/
def State.update (s : State) (src : Nat) (w : W64) : State :=
  let v := w.toNat
  let p := v % 8
  let r := v / 2 ^ 7 % 65536
  let f := v / 2 ^ 29 % 1024
  let g := v / 2 ^ 42 % 64
  if 5 ≤ p ∨ s.idle p ∨ v / 8 % 16 ≠ s.epoch p then s.bump Page.dec F.DEC_UPD_STALE
  else if src ≠ s.g Page.dec F.DEC_DECODER_NODE ∨ ¬ ((s.gath g).out.any (fun o => o.1 = r)) ∨ s.frameOwner f ≠ p then
    s.bump Page.dec F.DEC_UPD_REJECTS
  else
    let s := s.toggle f (v / 2 ^ 39 % 4)
    if v / 2 ^ 41 % 2 = 1 then s.resolve g r else s

/-- DECODER_UPDATE (R312). -/
def execDecoderUpdate (src : Nat) (w : BitVec 64) (s : State) : Out :=
  .next (if s.pwr.mode = .off then s else (s.takeWord 2 w).update src w)

/-- The first round whose barrier has passed: `t` is the tick. -/
def lateRound (t : Nat) : List (Nat × Nat) → Option Nat
  | [] => none
  | (r, dl) :: l => if dl ≠ 0 ∧ dl ≤ t then some r else lateRound t l

/-- FRAME_BARRIER_PASS (R313): a round is unresolved at its barrier. -/
def execFrameBarrierPass (g : Nat) (s : State) : Out :=
  let x := s.gath g
  let p := s.guPart g
  .next (match lateRound (s.tk p) x.out with
    | none => s
    | some r =>
      let s := s.setGath g { x with out := x.out.map (fun o => if o.1 = r then (r, 0) else o) }
      let s := s.when (s.on (Page.gu g) F.GU_CTRL_LATE_EN = true) (fun s =>
        (s.chainAsk (s.g (Page.gu g) F.GU_ENTRIES_LATE_ENTRY) p).intEdge (928 + g))
      s.mark p 16)

end Sys2Proof.Machine
end

