-- ==== Sys2Proof/Machine/LineOps.lean ====
section
/-!
DEFINITION. Machine/LineOps.lean: the line coding of the fabric: the scrambler and the stuffer (R464, R465), lane blocks and
their markers (R468, R469), and the content bits of a frame (R473 to R475).
-/

namespace Sys2Proof.Machine
open Sys2Proof

/-! ### The scrambler and the stuffer (R464, R465) -/

/-- Bit n − 19 xor bit n − 51 of a history. -/
def scrTap (h : BitVec 51) : Bool := h.getLsbD 18 ^^ h.getLsbD 50
/-- A history with one more bit. -/
def scrPush (h : BitVec 51) (b : Bool) : BitVec 51 := h <<< 1 ||| (if b then 1 else 0)

/-- Identical line bits after which one bit is stuffed. -/
def stuffRun : Nat := 24

/-- One block bit is sent: the line bits that it takes. -/
def LineTx.bit (c : LineTx) (d : Bool) : LineTx × List Bool :=
  let b := d ^^ scrTap c.hist
  let h := scrPush c.hist b
  let n := if b = c.last ∧ c.run ≠ 0 then c.run + 1 else 1
  if n = stuffRun then (⟨h, !b, 1⟩, [b, !b]) else (⟨h, b, n⟩, [b])

/-- A list of block bits is sent, bit 0 first. -/
def LineTx.bits (c : LineTx) : List Bool → LineTx × List Bool
  | [] => (c, [])
  | d :: l =>
    let r := c.bit d
    let q := r.1.bits l
    (q.1, r.2 ++ q.2)

/-- A stuffed bit is due. -/
def LineRx.stuffed (c : LineRx) : Bool := c.run = stuffRun

/-- One line bit is received: a stuffed bit is removed, and any other is descrambled. -/
def LineRx.bit (c : LineRx) (b : Bool) : LineRx × Option Bool :=
  if c.stuffed then ({ c with last := b, run := 1 }, none)
  else
    let n := if b = c.last ∧ c.run ≠ 0 then c.run + 1 else 1
    ({ c with hist := scrPush c.hist b, last := b, run := n }, some (b ^^ scrTap c.hist))

/-! ### Lane blocks (R468, R469) -/

/-- Bits of a lane block. -/
def blockLen : Nat := 84

/-- The block of index `b` of a frame, bit 0 first: the marker 0b10bb, then content bits 80b to 80b + 79. -/
def blockBits (b content : Nat) : List Bool :=
  (List.range 4).map (fun i => (8 + b).testBit i) ++ (List.range 80).map (fun i => content.testBit (80 * b + i))

/-- One descrambled bit joins the block: the block, if it is whole. -/
def LineRx.gather (c : LineRx) (d : Bool) : LineRx × Option Nat :=
  if c.skip ≠ 0 then ({ c with skip := c.skip - 1 }, none)
  else
    let v := c.blk + (if d then 2 ^ c.n else 0)
    if c.n + 1 = blockLen then ({ c with blk := 0, n := 0 }, some v) else ({ c with blk := v, n := c.n + 1 }, none)

/-- Whether a block has a valid marker: 0b10 in marker bits 3:2. -/
def markOk (v : Nat) : Bool := v / 4 % 4 = 2

/-- The runs of valid and of invalid markers after block `v`. -/
def LineRx.marked (c : LineRx) (v : Nat) : LineRx :=
  if markOk v then { c with good := c.good + 1, bad := 0 } else { c with good := 0, bad := c.bad + 1 }

/-- The boundary moves one bit later (R469). -/
def Lane.slip (x : Lane) : Lane := { x with rx := { x.rx with skip := x.rx.skip + 1, good := 0 } }

/-! ### Frames (R473 to R475) -/

/-- The CRC-32 of R473 over `n` bits of `v` from bit `lo` on. -/
def frameCrcFrom (v lo : Nat) : Nat → Nat → Nat
  | 0, crc => crc
  | n + 1, crc => frameCrcFrom v (lo + 1) n (crc32Bit crc (v.testBit lo))

/-- The 76 bits of a slot. -/
def FSlot.bits (x : FSlot) : Nat := x.typ % 16 + x.dst % 64 * 2 ^ 4 + x.twins % 4 * 2 ^ 10 + x.w.toNat * 2 ^ 12
/-- The slot of 76 bits. -/
def slotOf (v : Nat) : FSlot := ⟨v % 16, v / 2 ^ 4 % 64, v / 2 ^ 10 % 4, BitVec.ofNat 64 (v / 2 ^ 12)⟩

/-- Bits 0 to 287 of a frame. -/
def FabFrame.body (f : FabFrame) : Nat :=
  (if f.data then 1 else 0) + f.lseq % 1024 * 2 ^ 2 + f.lack % 1024 * 2 ^ 12 + (if f.nak then 2 ^ 22 else 0)
    + (if f.retry then 2 ^ 23 else 0) + f.rxLanes % 16 * 2 ^ 24
    + ((f.slots.getD 0 ⟨0, 0, 0, 0⟩).bits * 2 ^ 32 + (f.slots.getD 1 ⟨0, 0, 0, 0⟩).bits * 2 ^ 108
      + (f.slots.getD 2 ⟨0, 0, 0, 0⟩).bits * 2 ^ 184)
/-- The CRC of a frame's first 288 bits. -/
def frameCrc (v : Nat) : Nat := frameCrcFrom v 0 288 0xFFFFFFFF
/-- The 320 content bits of a frame. -/
def FabFrame.content (f : FabFrame) : Nat := f.body + frameCrc f.body * 2 ^ 288

/-- The frame of 320 content bits. -/
def frameOf (v : Nat) : FabFrame :=
  { crcOk := frameCrc v = v / 2 ^ 288 % 2 ^ 32, data := v % 4 = 1, lseq := v / 2 ^ 2 % 1024, lack := v / 2 ^ 12 % 1024
    nak := v.testBit 22, retry := v.testBit 23, rxLanes := v / 2 ^ 24 % 16
    slots := [slotOf (v / 2 ^ 32), slotOf (v / 2 ^ 108), slotOf (v / 2 ^ 184)] }

end Sys2Proof.Machine
end

