-- ==== Sys2Proof/Machine/LinkOps.lean ====
section
/-!
DEFINITION. Machine/LinkOps.lean: fabric lanes (R463 to R472), ports and their widths (R476, R479), routes (R484), and
the frames that a port sends (R475 to R480).
-/

namespace Sys2Proof.Machine
open Sys2Proof

/-! ### Lanes -/

def State.rxState (s : State) (l : Nat) : Nat := s.g (Page.lane l) F.FAB_LANE_STATUS_RX_STATE
def State.txState (s : State) (l : Nat) : Nat := s.g (Page.lane l) F.FAB_LANE_STATUS_TX_STATE
/-- The lanes of port `p` (R474). -/
def portLanes (p : Nat) : List Nat := [4 * p, 4 * p + 1, 4 * p + 2, 4 * p + 3]

/-- Bits of the four lanes of port `p` for which `f` holds. -/
def State.laneBits (_s : State) (p : Nat) (f : Nat → Bool) : Nat :=
  (if f (4 * p) then 1 else 0) + (if f (4 * p + 1) then 2 else 0) + (if f (4 * p + 2) then 4 else 0)
    + (if f (4 * p + 3) then 8 else 0)
/-- How many of four bits are set. -/
def pop4 (n : Nat) : Nat := n % 2 + n / 2 % 2 + n / 4 % 2 + n / 8 % 2

def State.portState (s : State) (p : Nat) : Nat := s.g (Page.port p) F.FAB_PORT_STATUS_STATE
def State.portUp (s : State) (p : Nat) : Bool := s.portState p = 2
def State.upPorts (s : State) : List Nat := (List.range 8).filter s.portUp
/-- At least one lane in each direction carries blocks: link words flow (R479). -/
def State.linkFlows (s : State) (p : Nat) : Bool :=
  s.portState p ≠ 0 && s.g (Page.port p) F.FAB_PORT_STATUS_TX_WIDTH ≠ 0 && s.g (Page.port p) F.FAB_PORT_STATUS_RX_WIDTH ≠ 0

/-! ### Routes (R484) -/

/-- This module is the twin of member `x` of node `n`, over FP7. -/
def State.isPartner (s : State) (n x : Nat) : Bool :=
  s.on (Page.port 7) F.FAB_PORT_STATUS_TWIN_LINK && s.on Page.twin F.FAB_TWIN_CTRL_EN && n = s.node && x = 1 - s.myTwin

/-- Hops that port `p`'s neighbour advertises toward member `x` of node `n`. -/
def State.advertised (s : State) (p n x : Nat) : Nat := Tab.get 15 (s.fab.vec.get [] p) (2 * n + x)

/-- The best of a list of ports: its hop count and the lowest port that has it. -/
def bestPort : List (Nat × Nat) → Nat × Nat
  | [] => (15, 0)
  | (h, p) :: l => let b := bestPort l; if h ≤ b.1 then (h, p) else b

/-- The hop count to member `x` of node `n` and the port toward it. -/
def State.hopsTo (s : State) (n x : Nat) : Nat × Nat :=
  if n = s.node ∧ x = s.myTwin then (0, 0)
  else if s.isPartner n x then (1, 7)
  else
    let ps := s.upPorts.filter (fun p => ¬ (p = 7 ∧ s.on Page.twin F.FAB_TWIN_CTRL_DEDICATED))
    let b := bestPort (ps.map (fun p => (s.advertised p n x, p)))
    if 14 < b.1 + 1 then (15, 0) else (b.1 + 1, b.2)

/-- A discovery runs, as far as this module can tell. -/
def State.discovering (s : State) : Bool := s.fab.discOwed.isSome || s.now / 16 < s.fab.discUntil

/-- One direction of a FAB_ROUTE entry: it changes when its hop count changes or its port has gone down. -/
def State.setRoute (s : State) (n x : Nat) : State :=
  let fh := if x = 0 then F.FAB_ROUTE_HOPS_A else F.FAB_ROUTE_HOPS_B
  let fp := if x = 0 then F.FAB_ROUTE_PORT_A else F.FAB_ROUTE_PORT_B
  let h := s.hopsTo n x
  let old := s.g (Page.froute n) fh
  if h.1 = old ∧ (old = 0 ∨ old = 15 ∨ s.portUp (s.g (Page.froute n) fp)) then s
  else ((s.p (Page.froute n) fh h.1).p (Page.froute n) fp h.2).flag Page.fab F.FAB_EVENTS_ROUTE_CHANGED

/-- The routes are computed again, where the module lets them change; BANKED keeps them (R505). -/
def State.reroute (s : State) : State :=
  if s.bankedLimits ∨ s.pwr.busy = .bank ∨ ¬ s.on Page.fab F.FAB_STATUS_ADDR_VALID ∨ s.on Page.fab F.FAB_CTRL_ROUTE_MANUAL
      ∨ (¬ s.on Page.fab F.FAB_CTRL_AUTO_REROUTE ∧ ¬ s.discovering) then s
  else forEach (List.range 128) s (fun s k => s.setRoute (k / 2) (k % 2))

/-! ### Ports (R476, R479) -/

/-- Words in a port's queue and replay buffer. -/
def FPort.words (x : FPort) : Nat := (x.replay.map (fun f => f.words.length)).foldl (· + ·) x.queue.length
def FPort.sentWords (x : FPort) : Nat := (x.replay.map (fun f => f.words.length)).foldl (· + ·) 0

/-- A port leaves UP: its peer is no longer known, and its routes go. -/
def State.portLeave (s : State) (p st : Nat) : State :=
  let pg := Page.port p
  let s := ((s.p pg F.FAB_PORT_STATUS_STATE st).unflag pg F.FAB_PORT_STATUS_PEER_VALID).unflag pg F.FAB_PORT_STATUS_TWIN_LINK
  s.setPort p { s.port p with hello := 0 }

/-- UP to TRAINING with a report (R479). -/
def State.portFall (s : State) (p : Nat) : State :=
  if s.portUp p then
    let s := (s.portLeave p 1).flag Page.fab F.FAB_EVENTS_PORT_DOWN
    (s.bump (Page.port p) F.FAB_PORT_DOWNS).logIt Cause.fabPortDown 0 (gid 7 (32 + p)) 0
  else s

/-- What the neighbour of a port that is not UP advertised no longer counts, and the routes follow. -/
def State.portGone (s : State) (p : Nat) : State :=
  if s.portUp p then s else ({ s with fab.vec := s.fab.vec.set [] p [] }).reroute

/-- The replay buffer is discarded, and its words counted; the next frame takes the number that the peer expects. -/
def State.dropReplay (s : State) (p : Nat) : State :=
  let x := s.port p
  let n := match x.replay with | f :: _ => f.lseq | [] => x.nextSeq
  (s.setPort p { x with replay := [], again := [], nextSeq := n }).bump (Page.port p) F.FAB_PORT_DISCARDS x.sentWords

/-- The usable lanes and widths of port `p` are taken again (R474, R476); below a width of 2 it leaves UP. -/
def State.portWidths (s : State) (p : Nat) : State :=
  let pg := Page.port p
  let rx := s.laneBits p (fun l => s.rxState l = 4)
  let tx := s.laneBits p (fun l => s.txState l = 2 && (s.port p).peerLanes / 2 ^ (l % 4) % 2 = 1)
  let s := ((s.p pg F.FAB_PORT_STATUS_RX_LANES rx).p pg F.FAB_PORT_STATUS_RX_WIDTH (pop4 rx))
  let s := ((s.p pg F.FAB_PORT_STATUS_TX_LANES tx).p pg F.FAB_PORT_STATUS_TX_WIDTH (pop4 tx))
  if s.portUp p ∧ (pop4 rx < 2 ∨ pop4 tx < 2) then s.portFall p else s

/-- A lane's states change, and its port's widths follow. -/
def State.setLaneRx (s : State) (l v : Nat) : State :=
  let s := s.p (Page.lane l) F.FAB_LANE_STATUS_RX_STATE v
  let s := s.when (v ≠ 3 ∧ v ≠ 4) (·.unflag (Page.lane l) F.FAB_LANE_STATUS_MARK_OK)
  let s := s.setLane l { s.lane l with search := if v = 3 then (s.lane l).search else none
                                       alignAt := if v = 3 then s.now else (s.lane l).alignAt }
  (s.portWidths (l / 4)).portGone (l / 4)

/-- The lane takes the states that its configuration gives it (R471): every lane sleeps from the first step of the bank
sequence on (R505, R623). -/
def State.laneApply (s : State) (l : Nat) : State :=
  let pg := Page.lane l
  if s.rxState l = 5 then s
  else
    let asleep : Bool := s.bankedLimits || s.pwr.busy = .bank
    let rx := if ¬ s.on pg F.FAB_LANE_CFG_RX_EN then 0
      else if s.on pg F.FAB_LANE_CFG_RX_SLEEP ∨ asleep then 1
      else if s.rxState l ≤ 1 then 2 else s.rxState l
    let tx := if ¬ s.on pg F.FAB_LANE_CFG_TX_EN then 0 else if s.on pg F.FAB_LANE_CFG_TX_SLEEP ∨ asleep then 1 else 2
    let s := s.p pg F.FAB_LANE_STATUS_TX_STATE tx
    -- the clock recovery of a receiver that powers up is not locked, and one that is off watches nothing (R467)
    let s := s.when (rx = 2 ∧ s.rxState l ≤ 1) (·.flag pg F.FAB_LANE_STATUS_LOL)
    let s := s.when (rx ≤ 1) (fun s => (s.unflag pg F.FAB_LANE_STATUS_LOS).unflag pg F.FAB_LANE_STATUS_LOL)
    if rx = s.rxState l then (s.portWidths (l / 4)).portGone (l / 4) else s.setLaneRx l rx

/-- Every lane follows its configuration: at BANKED entry, at the wake, and at the end of the settings restore. -/
def State.lanesApply (s : State) : State := forEach (List.range 32) s State.laneApply

/-- Retirement (R472). -/
def State.laneRetire (s : State) (l : Nat) : State :=
  let s := s.p (Page.lane l) F.FAB_LANE_STATUS_TX_STATE 3
  let s := (s.setLaneRx l 5).flag Page.fab F.FAB_EVENTS_LANE_RETIRED
  (s.retire 3 l).logIt Cause.fabLaneRetired 0 (gid 7 l) 0

/-- An alignment fails (R471, R472). -/
def State.alignFail (s : State) (l : Nat) : State :=
  let n := (s.lane l).fails + 1
  let s := s.setLane l { s.lane l with fails := n }
  if 4 ≤ n then s.laneRetire l else s.setLaneRx l 2

/-- A loss of lock (R471, R472): the third within 24 h retires the lane. -/
def State.lockLoss (s : State) (l : Nat) : State :=
  let t := s.log.mtime.toNat
  let ls := ((s.lane l).losses.filter (fun x => t < x + secs 86400)) ++ [t]
  let s := s.setLane l { s.lane l with losses := ls }
  let s := (s.bump (Page.lane l) F.FAB_LANE_LOCK_LOSSES).logIt Cause.fabLaneLock 0 (gid 7 l) 0
  if 3 ≤ ls.length then s.laneRetire l else s.setLaneRx l 2

/-- The block boundary moves one bit later (R469). -/
def State.laneSlip (s : State) (l : Nat) : State :=
  let pg := Page.lane l
  if s.rxState l = 3 then
    (s.setLane l (s.lane l).slip).p pg F.FAB_LANE_STATUS_SLIP_POS ((s.g pg F.FAB_LANE_STATUS_SLIP_POS + 1) % 84)
  else s
/-- RETRAIN (R471). -/
def State.laneRetrain (s : State) (l : Nat) : State := if s.rxState l = 4 then s.setLaneRx l 2 else s

/-- ENABLE of a port is set or cleared (R479). -/
def State.portEnable (s : State) (p v : Nat) : State :=
  let s := s.p (Page.port p) F.FAB_PORT_CTRL_ENABLE v
  if v = 1 then (if s.portState p = 0 then s.portLeave p 1 else s)
  else
    let x := s.port p
    let s := (s.setPort p { x with queue := [], replay := [], again := [], nextSeq := 0, expected := 0, nakSent := false, blocks := [] }).bump
      (Page.port p) F.FAB_PORT_DISCARDS x.words
    (s.portLeave p 0).portGone p

/-- The fabric after a start: lanes and ports follow the settings, and a twin looks for its partner (R471, R479, R493). -/
def State.fabStart (s : State) : State :=
  let s := s.lanesApply
  let s := forEach (List.range 8) s (fun s p => s.portEnable p (s.g (Page.port p) F.FAB_PORT_CTRL_ENABLE))
  ({ s with fab.enabledAt := s.now / 16 }).twinPat

/-! ### Frames that leave (R475 to R480) -/

/-- The class of a word (R480). -/
def wordClass (typ : Nat) : Nat :=
  match typ with | 8 => 1 | 6 => 2 | 5 => 3 | 1 | 2 => 4 | 4 => 5 | 3 => 6 | _ => 7

/-- The oldest word of class `c` of at most `room` slots at the head of its class, and the queue without it. -/
def takeClass (c room : Nat) : List FWord → Option (FWord × List FWord)
  | [] => none
  | w :: l =>
    if wordClass w.typ = c then (if w.ws.length ≤ room then some (w, l) else none)
    else (takeClass c room l).map (fun x => (x.1, w :: x.2))

/-- The next word to send: the highest class first. -/
def takeNext (room : Nat) (q : List FWord) : List Nat → Option (FWord × List FWord)
  | [] => none
  | c :: l => if q.any (fun w => wordClass w.typ = c) then takeClass c room q else takeNext room q l

/-- The words of one frame of three slots, and the rest of the queue. -/
def fillFrame (cs : List Nat) : Nat → Nat → List FWord → List FWord × List FWord
  | 0, _, q => ([], q)
  | n + 1, room, q =>
    match takeNext room q cs with
    | none => ([], q)
    | some (w, q) => let r := fillFrame cs n (room - w.ws.length) q; (w :: r.1, r.2)

/-- Frame period at the transmit width, in nanoseconds (R476). -/
def framePeriod (w : Nat) : Nat := if w = 4 then 3 else if w = 3 then 4 else if w = 2 then 6 else 12

/-- Slots of a frame's words (R475): a message of two words takes two. -/
def wordSlots (w : FWord) : List FSlot := w.ws.map (fun v => ⟨w.typ, w.dst, w.twins, v⟩)

/-- The frame of port `p` for a buffered DATA frame, or an IDLE one, with the header's present values (R474). -/
def State.frameOut (s : State) (p : Nat) (f : Option FFrame) (nak retry : Bool) : FabFrame :=
  { crcOk := true, data := f.isSome, lseq := f.elim 0 (·.lseq), lack := (s.port p).expected, nak := nak, retry := retry
    rxLanes := s.g (Page.port p) F.FAB_PORT_STATUS_RX_LANES, slots := f.elim [] (fun f => f.words.flatMap wordSlots) }

/-- One block goes to a lane: scrambled, stuffed, and inverted by TX_INVERT (R464 to R466). -/
def State.laneSend (s : State) (l : Nat) (b : List Bool) : State :=
  let y := s.lane l
  let r := y.tx.bits b
  let inv := s.on (Page.lane l) F.FAB_LANE_CFG_TX_INVERT
  s.setLane l { y with tx := r.1, out := y.out ++ r.2.map (fun x => x ^^ inv) }

/-- The lanes on which port `p` sends: the usable ones; while it has none, every ON lane, since the peer aligns on what it
receives: DESIGN CHOICE (log entry 73). -/
def State.sendLanes (s : State) (p : Nat) : List Nat :=
  let ls := (portLanes p).filter (fun l => s.g (Page.port p) F.FAB_PORT_STATUS_TX_LANES / 2 ^ (l % 4) % 2 = 1)
  if ls = [] then (portLanes p).filter (fun l => s.txState l = 2) else ls

/-- A frame's four blocks are dealt to the usable lanes, on from the last one (R476): a change of width takes effect at a
block 0. -/
def State.frameSend (s : State) (p : Nat) (f : FabFrame) : State :=
  let ls := s.sendLanes p
  let w := ls.length
  let x := s.port p
  let at_ := if x.width = w then x.dealt else 0
  let s := s.setPort p { x with dealt := (at_ + 4) % max 1 w, width := w }
  let s := forEach ls s (fun s l => s.setLane l { s.lane l with out := [] })
  forEach (List.range 4) s (fun s b => match ls[(at_ + b) % max 1 w]? with
    | some l => s.laneSend l (blockBits b f.content)
    | none => s)

/-- A frame leaves port `p` (R476, R477, R480): one to be sent again first, then one of words that wait; IDLE while the replay
buffer is full or no word waits. Before UP only link words flow, and before blocks flow in each direction none (R479). -/
def State.portSend (s : State) (p : Nat) : State :=
  let x := s.port p
  let nak := x.nakSent
  let s := s.setPort p { x with nakSent := false }
  match (if s.linkFlows p then x.again else []) with
  | f :: l => (s.setPort p { s.port p with again := l }).frameSend p (s.frameOut p (some f) nak true)
  | [] =>
    let cs := if s.portUp p ∧ ¬ s.on Page.fab F.FAB_STATUS_REFUSED then [1, 2, 3, 4, 5, 6, 7]
      else if s.linkFlows p then [1] else []
    let r := fillFrame cs 3 3 x.queue
    if 256 ≤ x.replay.length ∨ r.1 = [] then s.frameSend p (s.frameOut p none nak false)
    else
      let t := s.now / 16
      let f : FFrame := ⟨x.nextSeq, r.1, t⟩
      let s := s.setPort p { s.port p with queue := r.2, replay := x.replay ++ [f], nextSeq := (x.nextSeq + 1) % 1024
                                           lastAckAt := if x.replay = [] then t else x.lastAckAt }
      s.frameSend p (s.frameOut p (some f) nak false)

/-- The frames that leave on this tick. -/
def State.fabTick (s : State) : State :=
  forEach ((s.fab.port.map (·.1)).filter (fun p => p < 8 && s.portState p ≠ 0 && s.sendLanes p ≠ []
    && s.now / 16 % framePeriod (s.sendLanes p).length = 0)) s State.portSend

end Sys2Proof.Machine
end

