-- ==== Sys2Proof/Machine/PowSeq.lean ====
section
/-!
DEFINITION. Machine/PowSeq.lean: powering converters down and up (R152, R373, R376, R637), the start and the end of
the wake (R70, R625), and leaving SAFE (R576).
-/

namespace Sys2Proof.Machine
open Sys2Proof

/-! ### Converters -/

/-- A bias output ramps to the safe value whatever SAFE_POL holds, is then disconnected, and awaits a restore (R624,
R631, R637). -/
def State.biasDown (s : State) (b : Nat) : State :=
  let s := (s.biasClockStop b).biasFlush b
  if s.on (Page.bias b) F.BIAS_CTRL_ENABLE ∧ (s.bias b).conn then
    (s.biasRamp b 0 2).flag (Page.bias b) F.BIAS_STATUS_RESTORE_PENDING
  else s

/-- A bias output connects again at the safe value and awaits a restore (R373, R374). -/
def State.biasUp (s : State) (b : Nat) : State :=
  let pg := Page.bias b
  if s.on pg F.BIAS_CTRL_ENABLE ∧ ¬ s.on pg F.BIAS_STATUS_DARK ∧ ¬ s.on pg F.BIAS_STATUS_SHED then
    (s.setBias b { s.bias b with conn := true, out := 0, dest := 0, slewing := false, next := 0, still := s.now }).flag pg
      F.BIAS_STATUS_RESTORE_PENDING
  else s

/-- Every bias output of which the state holds something. -/
def State.biasList (s : State) : List Nat := s.bm.bias.map (·.1)
/-- Every flux channel of which the state holds something. -/
def State.flxList (s : State) : List Nat := s.syn.flx.map (·.1)

/-- Every enabled flux output ramps to 0 V (R152, R631). -/
def State.flxAllDown (s : State) : State :=
  forEach ((List.range 128).filter s.flxActive) s (fun s n => s.flxRamp n 0)
/-- Every enabled flux output ramps to its park value (R152, R629). -/
def State.flxAllUp (s : State) : State :=
  forEach ((List.range 128).filter s.flxActive) s (fun s n => (s.levelPark n).flxRamp n (256 * s.park n))
/-- Every bias output ramps down. -/
def State.biasAllDown (s : State) : State := forEach (List.range 512) s State.biasDown

/-- No flux or bias output ramps. -/
def State.rampsOver (s : State) : Bool :=
  s.syn.flx.all (fun e => e.2.ramp.isNone) && s.bm.bias.all (fun e => !e.2.slewing)
/-- No monitor burst or conversion runs. -/
def State.monsOver (s : State) : Bool := s.bm.mon.all (fun e => !e.2.run && !e.2.injNow)

/-- The converters are powered down; a flux channel then stands at 0 V. -/
def State.convDown (s : State) : State := { s with pwr.convOn := false, pwr.convDue := none }

/-- The self-calibration of a bias output that is not DARK (R376): one found stuck goes DARK. -/
def State.biasMeasure (s : State) (b : Nat) : State :=
  if ¬ s.on (Page.bias b) F.BIAS_STATUS_DARK ∧ Config.biasStuck (s.bm.calNo * 512 + b) = true then s.biasLost b Cause.analogStuck
  else s

/-- The converters are powered up and calibrated (R70, R376): the bias outputs connect at the safe value. -/
def State.convUp (s : State) : State :=
  let s := { s with pwr.convOn := true, pwr.convDue := none, bm.calNo := s.free + 1, free := s.free + 1 }
  forEach (List.range 512) s (fun s b => (s.biasMeasure b).biasUp b)

/-- Pending bias outputs with AUTO_RESTORE ramp to their targets, once the module is READY (R374). -/
def State.autoRestore (s : State) : State :=
  forEach ((List.range 512).filter (fun b => s.on (Page.bias b) F.BIAS_CTRL_AUTO_RESTORE)) s State.biasRestore

/-! ### Converter alignment and the wake -/

/-- TIM_SKEW, which an alignment pulse takes (R61, R69). -/
def State.skewSet (s : State) : Nat := s.g Page.tim F.TIM_SKEW_SKEW
/-- An alignment begins: its first pulse, delayed by TIM_SKEW (R61, R69). -/
def State.alignStart (s : State) : State := { s with tim.tries := some 0, tim.skew := s.skewSet }

/-- The steps of R70 begin: the main PLL locks, the converters power up and are calibrated, and the alignment pulse
follows. -/
def State.wakeSteps (s : State) : State :=
  ({ s.flag Page.tim F.TIM_STATUS_PLL_LOCK with pwr.busy := .wake }).convUp.alignStart

/-- A wake is asked for in BANKED (R621, R625). -/
def State.startWake (s : State) : State :=
  if s.pwr.mode ≠ .banked ∨ s.pwr.busy ≠ .none then s
  else if ¬ s.on Page.tim F.TIM_STATUS_REF_OK then s.flag Page.pwr F.PWR_EVENTS_WAKE_REFUSED
  else s.wakeSteps

/-- Heat means, monitor calibration and flux outputs after the steps of R70 (R111, R390). -/
def State.wakeUp (s : State) : State :=
  let s := forEach (s.syn.outp.map (·.1)) s (fun s n => s.setOutp n { s.outp n with heat := 0 })
  let s := forEach [0, 1, 2, 3] s (fun s q => s.unflag (Page.monq q) F.MON_CAL_STATUS_CAL_VALID)
  s.flxAllUp

/-! ### Leaving SAFE -/

/-- A FAILED member that leaves SAFE joins again if its partner is ACTIVE or ACTIVE_ALONE (R493). No word tells the
partner's state: the model leaves it open while the partner is heard. -/
def State.twinReturn (s : State) : State :=
  if s.twinState = 5 ∧ s.pwr.mode = .ready ∧ s.on Page.twin F.FAB_TWIN_STATUS_PARTNER_SEEN then
    let v := s.fresh 1
    if v.2 = 1 then v.1.twinSet 1 else v.1
  else s

/-- The last step of PWR_SAFE_EXIT (R576): READY, unless a cause has arisen since. No bias output moves. -/
def State.exitSafe (s : State) : State :=
  let w := s.pwr.safeExit
  let s := { s with pwr.safeExit := none }
  if s.safePending ≠ 0 then s.settle w St.badState
  else
    let s := if s.pwr.deep then s.wakeUp else s
    let s := { s with pwr.mode := .ready, pwr.deep := false, pwr.busy := .none }
    let s := s.lanesApply.twinReturn
    ((s.unflag Page.log F.LOG_STATUS_SAFE).settleMode).settle w St.success

end Sys2Proof.Machine
end

