-- ==== Sys2Proof/Machine/TimRows.lean ====
section
/-!
DEFINITION. Machine/TimRows.lean: the timing block's commands and events: anchoring (R52 to R60, R693, R698),
converter alignment (R69 to R71), the reference (R62, R63), wall time (R64 to R68), and the time-trigger and
time-capture units (R76 to R81).
-/

namespace Sys2Proof.Machine
open Sys2Proof

/-! ### Anchoring -/

/-- One bit of the CRC of R698. -/
def crc16Bit (crc : Nat) (b : Bool) : Nat :=
  let f : Bool := (crc / 32768 % 2 = 1) != b
  let c := crc * 2 % 65536
  if f then c ^^^ 0x1021 else c
/-- The CRC of bits `lo` to `lo + n − 1` of a frame, in send order. -/
def crc16 (f : Nat) (lo : Nat) : Nat → Nat → Nat
  | 0, crc => crc
  | n + 1, crc => crc16 f (lo + 1) n (crc16Bit crc (f / 2 ^ lo % 2 = 1))

/-- Fields of R58 in a frame. -/
def afPreamble (f : BitVec 104) : Nat := f.toNat % 65536
def afDomain (f : BitVec 104) : Nat := f.toNat / 2 ^ 16 % 8
def afEpoch (f : BitVec 104) : Nat := f.toNat / 2 ^ 19 % 16
def afValue (f : BitVec 104) : Nat := f.toNat / 2 ^ 24 % 2 ^ 64
/-- The CRC of frame bits 16 to 87 (R698). -/
def afCrc (f : Nat) : Nat := crc16 f 16 72 0xFFFF
def afCrcOk (f : BitVec 104) : Bool := afCrc f.toNat = f.toNat / 2 ^ 88 % 65536

/-- The 104 bits of an anchor frame (R58): preamble, domain, epoch, value, and the CRC, inverted if `bad` (R60). -/
def afBits (d e v : Nat) (bad : Bool) : BitVec 104 :=
  let f := 0xA5C3 + d % 8 * 2 ^ 16 + e % 16 * 2 ^ 19 + v % 2 ^ 64 * 2 ^ 24
  BitVec.ofNat 104 (f + (if bad then 65535 - afCrc f else afCrc f) * 2 ^ 88)

/-- The reference periods from bit 0 of a frame to its bit 103, and from bit 0 to the first bit that the next frame may
have: 104 bits and 8 idle periods (R58). -/
def lastBit : Nat := 103 * 160
def frameGap : Nat := 112 * 160

/-- The module count at the edge at which bit 0 of a frame can leave: the next reference edge, or the first one 8 idle
periods after the frame before (R58). -/
def State.linkFree (s : State) : Nat :=
  match s.tim.linkOut.getLast? with
  | some f => max (s.tim.edge + 160) (f.start + frameGap)
  | none => s.tim.edge + 160

/-- An anchor frame is handed to TIMING LINK OUT. -/
def State.linkSend (s : State) (f : AFrame) : State := { s with tim.linkOut := s.tim.linkOut ++ [f] }

/-- The level of TIMING LINK OUT at the last edge: the bit of the frame in progress, else idle at 0 (R58). -/
def State.linkLevel (s : State) : Bool :=
  s.tim.linkOut.any (fun f => f.start ≤ s.tim.edge && (s.tim.edge - f.start) / 160 < 104
    && f.bits.getLsbD ((s.tim.edge - f.start) / 160))
/-- An accepted anchor request of domain `d` is on its way to its load (R693). -/
def State.anchoring (s : State) (d : Nat) : Bool := (s.tim.doms.get Dom.zero d).pend.isSome
/-- The module count at the last edge that stepped the counts. -/
def State.refEdge (s : State) : Nat := s.tim.edge
/-- The count of domain `d` at the last reference edge. -/
def State.cntAtEdge (s : State) (d : Nat) : Nat := (s.refEdge + (s.tim.doms.get Dom.zero d).off.toNat) % 2 ^ 64
def State.master (s : State) : Bool := s.on Page.tim F.TIM_CTRL_MASTER

/-- The refusal of an anchor request of domain `d` with value `v` (R52, R693). -/
def State.anchorRefusal (s : State) (d v : Nat) : Option Fail :=
  if s.anchored d || s.anchoring d then some (.plain St.badState)
  else if v % 160 ≠ 0 then some (Fail.atWord St.invalidParam 0)
  else if ¬ s.master ∨ ¬ s.refOk then some (.plain St.badState)
  else none

/-- An accepted anchor request: the frame goes out if LINK_OUT_EN is set, and the load waits for its last bit. -/
def State.anchorAccept (s : State) (d v : Nat) : State :=
  let x := s.tim.doms.get Dom.zero d
  let e := (s.epoch d + 1) % 16
  let s := { s with tim.doms := s.tim.doms.set Dom.zero d { x with pend := some (BitVec.ofNat 64 v, e) } }
  s.when (s.on Page.tim F.TIM_CTRL_LINK_OUT_EN = true) (fun s => s.linkSend ⟨afBits d e v false, s.linkFree⟩)

/-- Domain `d` takes value `v` at the last reference edge, and an epoch (R52, R54, R305, R348). -/
def State.anchorTake (s : State) (d : Nat) (v : W64) (e : Nat) : State :=
  let off := v - BitVec.ofNat 64 s.refEdge
  let s := { s with tim.doms := s.tim.doms.set Dom.zero d ⟨off, none⟩ }
  let s := (s.p (Page.td d) F.TD_STATE_EPOCH e).flag (Page.td d) F.TD_STATE_ANCHORED
  ((s.logIt Cause.stateDomain d (gid 3 d) 16).pairsRestart d).acqEpoch d

/-- Whether a propagate request is refused (R52). -/
def State.propagateBad (s : State) (d : Nat) : Bool :=
  !s.anchored d || !s.master || !s.on Page.tim F.TIM_CTRL_LINK_OUT_EN
/-- A frame with the domain's own count at its last bit, which leaves `lastBit` after its first one. -/
def State.propagate (s : State) (d : Nat) : State :=
  let t := s.linkFree
  s.linkSend ⟨afBits d (s.epoch d) (s.cntAtEdge d + (t - s.tim.edge) + lastBit) false, t⟩

/-- Whether a release request is refused (R52). -/
def State.releaseBad (s : State) (d : Nat) : Bool := !s.anchored d || !s.idle d

/-- A TD_CTRL request that is refused (R52). -/
def State.ctrlRefused (s : State) : State := s.flag Page.tim F.TIM_EVENTS_CTRL_REFUSED

/-- TD_CTRL.ANCHOR, PROPAGATE and RELEASE of domain `d`. -/
def State.tdAnchor (s : State) (d : Nat) : State :=
  let v := s.g64 (Page.td d) F.TD_ANCHOR_LO
  if (s.anchorRefusal d v).isSome then s.ctrlRefused else s.anchorAccept d v
def State.tdPropagate (s : State) (d : Nat) : State := if s.propagateBad d then s.ctrlRefused else s.propagate d
def State.tdRelease (s : State) (d : Nat) : State := if s.releaseBad d then s.ctrlRefused else s.unanchor d

/-- Address of TD_CTRL of domain `d`. -/
def tdCtrlAt (d : Nat) : Nat := Page.td d + 0x14
/-- The registers of domain `d`, as a command's function. -/
def tdHolds (p : Pkt) : List (Nat × Nat) := [(Page.td p.target, 0x18)]

def cTimeAnchor : Cmd where
  op := 0x0300
  tgt := fun t => t < 5
  view := fun _ p => ownTarget p.target p
  len := fun _ => 2
  chk := fun s p => s.anchorRefusal p.target (p.w64 0)
  holds := fun _ p => tdHolds p
  grps := fun p => [gid 3 p.target]
  run := fun s p => (s.anchorAccept p.target (p.w64 0)).succeed p

def cTimePropagate : Cmd where
  op := 0x0301
  pf0 := true
  tgt := fun t => t < 5
  chk := fun s p => if s.propagateBad p.target then some (.plain St.badState) else none
  holds := fun _ p => tdHolds p
  grps := fun p => [gid 3 p.target]
  run := fun s p => (s.propagate p.target).succeed p

def cTimeRelease : Cmd where
  op := 0x0302
  tgt := fun t => t < 5
  view := fun _ p => ownTarget p.target p
  chk := fun s p => if s.releaseBad p.target then some (.plain St.badState) else none
  -- R52: the partition of the domain must be IDLE
  idle := fun _ _ => true
  holds := fun _ p => tdHolds p
  grps := fun p => [gid 3 p.target]
  run := fun s p => (s.unanchor p.target).succeed p

/-- TIME_ANCHOR (R52, R82). -/
def execTimeAnchor (p : Pkt) (s : State) : Out := .next (s.command cTimeAnchor p)
/-- TD_CTRL.ANCHOR (R87). -/
def execTdCtrlAnchor (fn d : Nat) (s : State) : Out :=
  .next (if d < 5 then s.onWrite fn (tdCtrlAt d) (·.tdAnchor d) else s)
/-- TIME_PROPAGATE (R52, R82). -/
def execTimePropagate (p : Pkt) (s : State) : Out := .next (s.command cTimePropagate p)
/-- TD_CTRL.PROPAGATE (R87). -/
def execTdCtrlPropagate (fn d : Nat) (s : State) : Out :=
  .next (if d < 5 then s.onWrite fn (tdCtrlAt d) (·.tdPropagate d) else s)
/-- TIME_RELEASE (R52, R82). -/
def execTimeRelease (p : Pkt) (s : State) : Out := .next (s.command cTimeRelease p)
/-- TD_CTRL.RELEASE (R87). -/
def execTdCtrlRelease (fn d : Nat) (s : State) : Out :=
  .next (if d < 5 then s.onWrite fn (tdCtrlAt d) (·.tdRelease d) else s)

/-- ANCHOR_LOAD (R52, R54, R693): the last-bit edge of the accepted frame. No load reaches an ANCHORED domain (R53). -/
def execAnchorLoad (d : Nat) (s : State) : Out :=
  .next (match (s.tim.doms.get Dom.zero d).pend with
    | some (v, e) => if s.anchored d then s else s.anchorTake d v e
    | none => s)

/-! ### Anchor frames on TIMING LINK IN -/

/-- A received frame as it is forwarded (R60): its value plus 160 × (LINK_COMP + 4), the CRC recomputed, and inverted if the
received one was wrong; bit 103 leaves 4 reference periods after the receiving edge. -/
def State.forwarded (s : State) (frame : BitVec 104) : AFrame :=
  ⟨afBits (afDomain frame) (afEpoch frame) (afValue frame + 160 * (s.g Page.tim F.TIM_CTRL_LINK_COMP + 4)) (!afCrcOk frame),
    s.tim.edge + 640 - lastBit⟩

/-- ANCHOR_FRAME_RECEIVE (R52, R59, R60): bit 103 of a frame is sampled at the last reference edge. The spec does not say
whether frames are received and forwarded in OFF and in BANKED: DESIGN CHOICE (log entry 55): the model
ignores them in OFF, where the start-up has not yet restored TIM_CTRL, and takes them in BANKED, whose always-on domain keeps
the counts. -/
def execAnchorFrameReceive (frame : BitVec 104) (s : State) : Out :=
  .next (if s.pwr.mode = .off ∨ afPreamble frame ≠ 0xA5C3 then s
    else
      let d := afDomain frame
      let comp := s.g Page.tim F.TIM_CTRL_LINK_COMP
      let ok := afCrcOk frame
      let s := s.when (s.on Page.tim F.TIM_CTRL_LINK_OUT_EN = true) (fun s =>
        { s with tim.fwd := s.tim.fwd ++ [s.forwarded frame] })
      if ¬ ok ∨ 5 ≤ d then
        (s.flag Page.tim F.TIM_EVENTS_ANCHOR_CRC).bump Page.tim F.TIM_ANCHOR_CRC_ERRORS
      else if s.anchored d || s.anchoring d then s.bump Page.tim F.TIM_IGNORED_ANCHORS
      else if ¬ s.refOk then s
      else s.anchorTake d (BitVec.ofNat 64 (afValue frame + 160 * comp)) (afEpoch frame))

/-- ANCHOR_FRAME_FORWARD (R60): the oldest frame to forward leaves TIMING LINK OUT, each bit on the edge that its receipt
has fixed. -/
def execAnchorFrameForward (s : State) : Out :=
  .next (match s.tim.fwd with
    | [] => s
    | f :: l => { s with tim.fwd := l, tim.linkOut := s.tim.linkOut ++ [f] })

/-! ### Converter alignment (R69 to R71) -/

/-- The registers common to the timing block, as a command's function (R17, R82, R512). -/
def timHolds : List (Nat × Nat) := [(Page.tim, 0x20), (Page.tim + 0x200, 0x18)]

def cTimeAlign : Cmd where
  op := 0x0303
  pf0 := true
  chk := fun s _ =>
    if s.modeNum ≠ 2 ∨ s.anyBusyPart ∨ ¬ s.refOk ∨ s.pwr.busy ≠ .none ∨ s.tim.tries.isSome then some (.plain St.badState)
    else none
  idle := fun _ _ => true
  holds := fun _ _ => timHolds
  grps := fun _ => [gid 3 2047]
  run := fun s p => { s.alignStart with tim.alignOwed := p.who }

/-- TIME_ALIGN (R69, R82): it completes with the verification. -/
def execTimeAlign (p : Pkt) (s : State) : Out := .next (s.command cTimeAlign p)

/-- The alignment has succeeded: PENDING bit 1 clears for PWR_SAFE_EXIT, which it lets end, and for a start-up (R574,
R576, R578). -/
def State.alignGood (s : State) : State :=
  let w := s.tim.alignOwed
  let s := { s with tim.tries := none, tim.alignOwed := none }
  let s := (s.flag Page.tim F.TIM_STATUS_ALIGNED).settle w St.success
  let s := s.when (s.pwr.safeExit.isSome = true ∨ s.pwr.mode = .off) (·.clearPending 1)
  if s.pwr.safeExit.isSome = true ∧ ¬ s.pwr.deep then s.exitSafe else s

/-- The third attempt has failed. -/
def State.alignBad (s : State) : State :=
  let w := s.tim.alignOwed
  let x := s.pwr.safeExit
  let s := { s with tim.tries := none, tim.alignOwed := none, pwr.safeExit := none }
  let s := ((s.unflag Page.tim F.TIM_STATUS_ALIGNED).flag Page.tim F.TIM_EVENTS_ALIGN_FAIL).settle w St.internalError
  let s := s.settle x St.badState
  s.raiseSafe Cause.alignFail 0 (gid 3 2047) 0

/-- ALIGNMENT_VERIFY (R71): the converters have reported after a pulse; `ok`: every report agrees. -/
def execAlignmentVerify (ok : Bool) (s : State) : Out :=
  .next (match s.tim.tries with
    | none => s
    | some n =>
      if ok then s.alignGood
      else if n < 2 then { s.flag Page.tim F.TIM_EVENTS_ALIGN_RETRY with tim.tries := some (n + 1), tim.skew := s.skewSet }
      else s.alignBad)

/-! ### The reference (R62, R63) -/

/-- REF_LOST (R62). -/
def execRefLost (s : State) : Out := .next s.refFall

/-- The start-up has come to the main PLL, the converters and their alignment (R627). -/
def State.startConv (s : State) : Bool := match s.pwr.busy with | .startup n => decide (11 ≤ n) | _ => false

/-- REF_RESTORED (R63): the PLL relocks and the converters realign, unless they are powered down. A wake that a
held doorbell asked for begins (R622). -/
def execRefRestored (s : State) : Out :=
  .next (if s.refOk || !s.pwr.input then s
    else
      let s := { s.flag Page.tim F.TIM_STATUS_REF_OK with tim.refIn := true }.flag Page.tim F.TIM_EVENTS_REF_RESTORED
      let s := s.clearPending 0
      if s.pwr.mode = .banked then
        (if s.pwr.doorbells ≠ [] ∨ s.pwr.owed ≠ [] then s.startWake else s)
      else if (s.pwr.mode = .off ∧ ¬ s.startConv) ∨ s.pwr.deep then s
      else (s.flag Page.tim F.TIM_STATUS_PLL_LOCK).alignStart)

/-! ### Wall time (R64 to R68) -/

def State.wallState (s : State) : Nat := s.g Page.tim F.TIM_STATUS_WALL_STATE
def State.setWall (s : State) (v : Nat) : State :=
  ({ s.p Page.tim F.TIM_STATUS_WALL_STATE v with tim.nValid := 0 }).ppsDrop
/-- A signed value as a 32-bit field, saturating. -/
def sat32 (x : Int) : Nat := (BitVec.ofInt 32 (clampI (-(2 ^ 31)) (2 ^ 31 - 1) x)).toNat

/-- A rate correction: the servo's new RATE is not given. While the reference is lost the last RATE stays (R64). -/
def State.rateFree (s : State) : State :=
  if ¬ s.refOk then s
  else
    let (s, v) := s.fresh 32
    s.p Page.tim F.TIM_WALL_RATE v

/-- Wall time steps by the measured offset from the master (R66). -/
def State.wallStep (s : State) (off : Int) : State :=
  let s := { s with tim.wallNs := ((s.tim.wallNs : Int) - off).toNat, tim.stepOk := false }
  (s.flag Page.tim F.TIM_EVENTS_WALL_STEP).logIt Cause.stateWallStep 0 (gid 3 2047) ((-off) % 2 ^ 48).toNat

def State.wallCount (s : State) : State := { s with tim.nValid := s.tim.nValid + 1 }

/-- A stamp of the module's own, in hardware at the port: 8 ns resolution (R65). -/
def portStamp (t : Nat) : Int := ((t / 8 * 8 : Nat) : Int)
/-- The offset from the master by the end-to-end mechanism of R65, in ns: with Sync sent at t1 and stamped here at t2, and
Delay_Req stamped here at t3 and received at t4, half of (t2 − t1) − (t4 − t3). -/
def ptpOffset (m : PtpSync) : Int := ((portStamp m.t2 - m.t1) - (m.t4 - portStamp m.t3)) / 2
/-- Whether a measurement is of the master that this ordinary clock follows: over the transport and in the PTP domain of
TIM_PTP_CFG (R65, R88), from the master that the standard's algorithm selects. -/
def State.ptpHeard (s : State) (m : PtpSync) : Bool :=
  s.on Page.tim F.TIM_PTP_CFG_ENABLE && m.best && s.g Page.tim F.TIM_PTP_CFG_TRANSPORT = m.transport
    && s.g Page.tim F.TIM_PTP_CFG_DOMAIN_NUMBER = m.domain

/-- PTP_SYNC (R64 to R67): a Sync message, with the delay measurement that goes with it. The measurement of a one-step and
of a two-step master is the same: where t1 comes from does not change it. -/
def execPtpSync (m : PtpSync) (s : State) : Out :=
  let offset := ptpOffset m
  .next (if s.pwr.mode = .off ∨ ¬ s.ptpHeard m then s
    else
      let s := s.p Page.tim F.TIM_WALL_OFFSET (sat32 offset)
      let st := s.wallState
      let s := s.when (st ∈ [1, 2] ∧ 1000000 < offset.natAbs) (·.flag Page.tim F.TIM_EVENTS_WALL_BIG_OFFSET)
      match st with
      | 0 =>
        let s := s.wallCount
        if s.tim.nValid < 4 then s
        else if s.tim.stepOk then (s.wallStep offset).setWall 1
        else s.rateFree.setWall 1
      | 1 =>
        let s := s.rateFree
        if offset.natAbs < 1000 then
          let s := s.wallCount
          if s.tim.nValid < 16 then s else s.setWall 2
        else { s with tim.nValid := 0 }
      | 2 => s.rateFree
      | _ => s.rateFree.setWall 1)

/-- WALL_HOLDOVER (R66): no Sync for three announce intervals. -/
def execWallHoldover (s : State) : Out :=
  .next (if s.wallState ∈ [1, 2] then (s.setWall 3).flag Page.tim F.TIM_EVENTS_WALL_HOLDOVER else s)

def cTimeWallRelock : Cmd where
  op := 0x0304
  pf0 := true
  chk := fun s _ => if s.on Page.tim F.TIM_PTP_CFG_ENABLE then none else some (.plain St.badState)
  holds := fun _ _ => timHolds
  grps := fun _ => [gid 3 2047]
  run := fun s p => ({ s with tim.stepOk := true }).succeed p

/-- TIME_WALL_RELOCK (R66, R82). -/
def execTimeWallRelock (p : Pkt) (s : State) : Out := .next (s.command cTimeWallRelock p)

/-- PPS_OUT (R68): at a second boundary of wall time a pulse begins; the output takes the level that wall time and its
enable give. -/
def execPpsOut (s : State) : Out := .next { s with tim.ppsOut := s.ppsMay }

/-- The levels of PPS OUT and 10 MHz OUT, and of the buffered copies of the reference on REF OUT A and REF OUT B (R56, R68,
R84). The phase of the divided output against the count is not given: DESIGN CHOICE (log entry 56), its period begins at a
multiple of 1,600 units of the module count. -/
def State.ppsLevel (s : State) : Bool := s.tim.ppsOut && s.ppsMay
def State.tenMhzOut (s : State) : Bool := s.on Page.tim F.TIM_CTRL_TENMHZ_OUT_EN && s.refOk && s.now % 1600 < 800
def State.refOutA (s : State) : Bool := s.on Page.tim F.TIM_CTRL_REF_OUT_A_EN && s.tim.refIn && s.now % 160 < 80
def State.refOutB (s : State) : Bool := s.on Page.tim F.TIM_CTRL_REF_OUT_B_EN && s.tim.refIn && s.now % 160 < 80

/-! ### Time-trigger units (R76 to R78) -/

/-- Owner of TTU `n` and of TCU `n` (R81). -/
def ttuOwner (n : Nat) : Nat := if n < 8 then 0 else 1 + (n - 8) / 6
def tcuOwner (n : Nat) : Nat := if n < 4 then 0 else 1 + (n - 4) / 3
/-- The present value of time source `c`: a domain's count, or wall time in ns. -/
def State.srcNow (s : State) (c : Nat) : Nat := if c = 5 then s.tim.wallNs else (s.cnt c).toNat
/-- Units of source `c` in one tick. -/
def srcTick (c : Nat) : Nat := if c = 5 then 1 else 16

/-- The module count at which the next tick begins. -/
def State.nextTick (s : State) : Nat := (s.now / 16 + 1) * 16
/-- TTU `n` is enabled or its target takes effect: it is late if its source stands at or past the target, and fires on the
next tick (R77). -/
def State.ttuArm (s : State) (n : Nat) : State :=
  let late : Bool := s.g64 (Page.ttu n) F.TTU_TARGET_LO ≤ s.srcNow (s.g (Page.ttu n) F.TTU_CTRL_SOURCE)
  { s with tim.ttu := s.tim.ttu.set 0 n (if late then 1 else 0)
           tim.ttuFrom := s.tim.ttuFrom.set 0 n (if late then s.nextTick else 0) }
/-- The target of TTU `n` applies from the following tick: late if its source will stand past it then (R77). -/
def State.ttuArmNext (s : State) (n : Nat) : State :=
  let c := s.g (Page.ttu n) F.TTU_CTRL_SOURCE
  let late : Bool := s.g64 (Page.ttu n) F.TTU_TARGET_LO < s.srcNow c + srcTick c
  { s with tim.ttu := s.tim.ttu.set 0 n (if late then 1 else 0), tim.ttuFrom := s.tim.ttuFrom.set 0 n s.nextTick }

/-- TTU `n` compares in the present power state (R78). -/
def State.ttuLive (s : State) (n : Nat) : Bool :=
  s.on (Page.ttu n) F.TTU_CTRL_ENABLE && s.pwr.mode ≠ .off
    && (s.pwr.mode ≠ .banked || s.on (Page.ttu n) F.TTU_CTRL_WAKE)
/-- Its target lies in the present tick or before it, or it is late. Wall time steps at clock edges only, and the spec does
not say which tick contains a target that lies between two of its values: DESIGN CHOICE (log entry 57), the first edge at
which wall time stands at or past the target. -/
def State.ttuDue (s : State) (n : Nat) : Bool :=
  let c := s.g (Page.ttu n) F.TTU_CTRL_SOURCE
  s.tim.ttuFrom.get 0 n ≤ s.now && (match s.tim.ttu.get 0 n with
    | 0 => decide (s.g64 (Page.ttu n) F.TTU_TARGET_LO < s.srcNow c + srcTick c)
    | 1 => true
    | _ => false)

/-- TTU `n` fires. -/
def State.ttuFire (s : State) (n : Nat) : State :=
  let pg := Page.ttu n
  let s := s.when (s.tim.ttu.get 0 n = 1) (·.flag pg F.TTU_STATUS_LATE)
  let s := (s.flag pg F.TTU_STATUS_FIRED).p pg F.TTU_STATUS_FIRE_COUNT ((s.g pg F.TTU_STATUS_FIRE_COUNT + 1) % 65536)
  let s := if s.on pg F.TTU_CTRL_PERIODIC then
      (s.p64 pg F.TTU_TARGET_LO
        ((s.g64 pg F.TTU_TARGET_LO + max 16 (s.g64 pg F.TTU_PERIOD_LO)) % 2 ^ 64)).ttuArm n
    else { s with tim.ttu := s.tim.ttu.set 0 n 2 }
  s.publish (ttuOwner n) (s.g pg F.TTU_CTRL_CHANNEL) (s.on pg F.TTU_CTRL_WAKE)

/-- The high half of the target of TTU `n` is written by `f` (R16, R77): an old target that matches on this tick fires, and
the new one then applies from the following tick. -/
def State.ttuRetarget (s : State) (n : Nat) (f : State → State) : State :=
  if ¬ s.on (Page.ttu n) F.TTU_CTRL_ENABLE then f s
  else if s.ttuLive n && s.ttuDue n then (f (s.ttuFire n)).ttuArmNext n
  else (f s).ttuArm n

/-- TTU_FIRE (R76 to R78). -/
def execTtuFire (n : Nat) (s : State) : Out :=
  .next (if n < 32 && s.ttuLive n && s.ttuDue n then s.ttuFire n else s)

/-! ### Time-capture units (R79, R80) -/

/-- The tick of an edge at time `t` of source `c`. Wall time does not change within a clock period: an edge of it counts
as one of the tick on which it is captured. -/
def State.tcuTick (s : State) (c t : Nat) : Nat := if c = 5 then s.now / 16 else t / 16

/-- An edge on tick `k` is captured by TCU `n` as time `t`, with a fraction if the port's TDC gave one. -/
def State.tcuTake (s : State) (n k t : Nat) (frac : Option Nat) : State :=
  let pg := Page.tcu n
  if s.tim.tcuAt.get 0 n = k + 1 then
    s.p pg F.TCU_STATUS_COALESCED ((s.g pg F.TCU_STATUS_COALESCED + 1) % 65536)
  else
    let s := { s with tim.tcuAt := s.tim.tcuAt.set 0 n (k + 1) }
    let s := s.when (s.on pg F.TCU_STATUS_VALID = true) (·.flag pg F.TCU_STATUS_OVERRUN)
    let s := (s.p64 pg F.TCU_TIME_LO t).flag pg F.TCU_STATUS_VALID
    match frac with
    | some f => (s.p pg F.TCU_STATUS_FRAC f).flag pg F.TCU_STATUS_FRAC_VALID
    | none => (s.p pg F.TCU_STATUS_FRAC 0).unflag pg F.TCU_STATUS_FRAC_VALID

/-- Marker port K`k` is configured as an input (R351). -/
def kCfgAt (k : Nat) : Nat := Page.acqq (k / 16) + 0x100 + k % 16 * 4
def State.kIsInput (s : State) (k : Nat) : Bool := wget (s.reg (kCfgAt k)) 0 0 = 0

/-- TCU_CAPTURE (R79, R80): the selected edge occurs: an event of this tick on the unit's channel, or an edge at its
port, which the port's TDC places at `t` and `frac`. -/
def execTcuCapture (n t frac : Nat) (s : State) : Out :=
  let pg := Page.tcu n
  let c := s.g pg F.TCU_CTRL_SOURCE
  let i := s.g pg F.TCU_CTRL_INPUT
  .next (if 16 ≤ n ∨ ¬ s.on pg F.TCU_CTRL_ENABLE ∨ ¬ s.serving then s
    else if s.on pg F.TCU_CTRL_INPUT_KIND then
      (if i < 64 ∧ s.kIsInput i = true ∧ t ≤ s.srcNow c ∧ (s.acq.kin.get false i = !s.on pg F.TCU_CTRL_EDGE) then
        s.tcuTake n (s.tcuTick c t) t (some (frac % 16))
      else s)
    else if s.evr.now.get false i = true ∧ s.maySubscribe (tcuOwner n) i = true then
      s.tcuTake n (s.tcuTick c (s.srcNow c)) (s.srcNow c / srcTick c * srcTick c) none
    else s)

/-- TCU_TIME_HI_READ (R80): the high half that the function's read of the low half held; VALID clears. -/
def execTcuTimeHiRead (fn n : Nat) (s : State) : Out :=
  let a := Page.tcu n + 8
  .next (if n < 16 then s.onRead fn a (fun s =>
      { s.unflag (Page.tcu n) F.TCU_STATUS_VALID with pins.rdata := s.heldRd.get 0 (holdKey fn a) })
    else s)

end Sys2Proof.Machine
end

