-- ==== Sys2Proof/Machine/AcqRows.lean ====
section
/-!
DEFINITION. Machine/AcqRows.lean: capture units: their commands and registers (R353 to R358), what happens as samples and
triggers reach them (R325 to R346), capture groups (R347 to R349) and marker ports (R351).
-/

namespace Sys2Proof.Machine
open Sys2Proof

/-- The registers of a capture unit, as a command's function. -/
def cuHolds (u : Nat) : List (Nat × Nat) := [(Page.cu u, 0x9C)]

/-! ### Configuration -/

/-- Words of ACQ_CONFIG with their registers. -/
def cuWords (u : Nat) : List (Nat × Nat) :=
  wordsAt (Page.cu u) 0 [0x00, 0x04, 0x08, 0x0C, 0x10, 0x14, 0x18, 0x1C, 0x20, 0x24, 0x28, 0x2C]

def cAcqConfig : Cmd where
  op := 0x1300
  tgt := fun t => t < 32
  view := fun s p => ownTarget (s.cuPart p.target) p
  len := fun _ => 12
  -- COMP is held against the source that the packet selects
  bad := fun s p => (s.putImg (Page.cu p.target + 4) (p.w 1)).badImgs p (cuWords p.target)
  chk := fun s p => need (!s.cuRuns p.target) St.badState
  holds := fun _ p => cuHolds p.target
  grps := fun p => [gid 15 p.target]
  run := fun s p => (s.putImgs p (cuWords p.target)).succeed p

/-- ACQ_CONFIG (R353, R354). -/
def execAcqConfig (p : Pkt) (s : State) : Out := .next (s.command cAcqConfig p)

def cAcqGroupSet : Cmd where
  op := 0x1306
  tgt := fun t => t < 16
  view := fun s p => ownTarget (s.grpPart p.target) p
  len := fun _ => 3
  bad := fun s p => s.badImgs p [(0, Page.grp p.target)]
  chk := fun s p => need (!(List.range 32).any (fun u => s.cuMember p.target u && s.cuRuns u)) St.badState
  holds := fun _ p => [(Page.grp p.target, 0x10)]
  grps := fun _ => [gid 15 2047]
  run := fun s p =>
    (s.putImgs p [(0, Page.grp p.target), (1, Page.grp p.target + 8), (2, Page.grp p.target + 0xC)]).succeed p

/-- ACQ_GROUP_SET (R353, R357). -/
def execAcqGroupSet (p : Pkt) (s : State) : Out := .next (s.command cAcqGroupSet p)

def cAcqKConfig : Cmd where
  op := 0x1307
  pf0 := true
  tgt := fun t => t < 4
  len := fun _ => 2
  bad := fun s p => firstBad [(0, 16 ≤ p.n 0), (1, s.badReg p.fn (kCfgAt (16 * p.target + p.n 0)) (p.w 1))]
  holds := fun _ p => [(kCfgAt (16 * p.target + p.n 0), 4)]
  grps := fun p => [gid 15 (2040 + p.target)]
  run := fun s p => (s.putImg (kCfgAt (16 * p.target + p.n 0)) (p.w 1)).succeed p

/-- ACQ_K_CONFIG (R351, R356). -/
def execAcqKConfig (p : Pkt) (s : State) : Out := .next (s.command cAcqKConfig p)

/-! ### Stream rings (R342, R343) -/

/-- Words of STR_RING_SET with their registers. -/
def strWords (u : Nat) : List (Nat × Nat) :=
  [(0, Page.cu u + 0x84), (1, Page.cu u + 0x88), (2, Page.cu u + 0x8C), (3, Page.cu u + 0x80)]

/-- Base changes. -/
def State.strMoves (s : State) (u : Nat) (lo hi : Word) : Bool :=
  lo ≠ s.reg (Page.cu u + 0x84) || hi ≠ s.reg (Page.cu u + 0x88)

/-- Base and enable are written. -/
def State.strBaseSet (s : State) (u : Nat) (lo hi : Word) (en : Nat) : State :=
  let again : Bool := s.strMoves u lo hi || (en = 1 && !s.on (Page.cu u) F.STR_CTRL_ENABLE)
  let s := ((s.putImg (Page.cu u + 0x84) lo).putImg (Page.cu u + 0x88) hi).p (Page.cu u) F.STR_CTRL_ENABLE en
  s.when (again = true) (·.strRestart u)

def cStrRingSet : Cmd where
  op := 0x1310
  tgt := fun t => t < 32
  view := fun s p => ownTarget (s.cuPart p.target) p
  len := fun _ => 4
  bad := fun s p => s.badImgs p (strWords p.target)
  chk := fun s p => need (!s.cuRuns p.target || !(s.strMoves p.target (p.w 0) (p.w 1)
    || wget (p.w 3) 0 0 ≠ s.g (Page.cu p.target) F.STR_CTRL_ENABLE)) St.badState
  holds := fun _ p => cuHolds p.target
  grps := fun p => [gid 15 p.target]
  run := fun s p =>
    ((s.strResize p.target (wget (p.w 2) 31 12)).strBaseSet p.target (p.w 0) (p.w 1) (wget (p.w 3) 0 0)).succeed p

/-- STR_RING_SET (R342, R343, R353). -/
def execStrRingSet (p : Pkt) (s : State) : Out := .next (s.command cStrRingSet p)

/-- STR_CONS_WRITE (R342). -/
def execStrConsWrite (fn u : Nat) (v : Word) (s : State) : Out :=
  .next (if u < 32 then s.onWrite fn (Page.cu u + 0x94) (·.strConsume u v.toNat) else s)

/-- ITEM_WRITE (R342, R343). -/
def execItemWrite (u : Nat) (s : State) : Out := .next (if u < 32 then s.strWrite u else s)

/-! ### Arming, stopping and software triggers -/

def cAcqArm : Cmd where
  op := 0x1301
  tgt := fun t => t < 32
  view := fun s p => ownTarget (s.cuPart p.target) p
  chk := fun s p => (s.cuArmRefusal p.target).map Fail.plain
  holds := fun _ p => cuHolds p.target
  grps := fun p => [gid 15 p.target]
  run := fun s p => s.cuArm p.target p.who

/-- ACQ_ARM (R326, R327, R333, R347, R349). -/
def execAcqArm (p : Pkt) (s : State) : Out := .next (s.command cAcqArm p)
/-- ACQ_CU_CTRL.ARM (R333, R354). -/
def execAcqCuArm (fn u : Nat) (s : State) : Out :=
  .next (if u < 32 then s.onWrite fn (Page.cu u) (fun s => s.when (s.cuArmRefusal u = none) (·.cuArm u none)) else s)

def cAcqStop : Cmd where
  op := 0x1302
  tgt := fun t => t < 32
  view := fun s p => ownTarget (s.cuPart p.target) p
  holds := fun _ p => cuHolds p.target
  grps := fun p => [gid 15 p.target]
  run := fun s p => (s.cuStop p.target).succeed p

/-- ACQ_STOP (R333, R349). -/
def execAcqStop (p : Pkt) (s : State) : Out := .next (s.command cAcqStop p)
/-- ACQ_CU_CTRL.STOP (R333, R354). -/
def execAcqCuStop (fn u : Nat) (s : State) : Out :=
  .next (if u < 32 then s.onWrite fn (Page.cu u) (·.cuStop u) else s)

def cAcqTrigger : Cmd where
  op := 0x1303
  tgt := fun t => t < 32
  view := fun s p => ownTarget (s.cuPart p.target) p
  holds := fun _ p => cuHolds p.target
  grps := fun p => [gid 15 p.target]
  run := fun s p => (s.cuTrigger p.target (s.cuNow p.target) 0 false).succeed p

/-- ACQ_TRIGGER (R328, R330, R332). -/
def execAcqTrigger (p : Pkt) (s : State) : Out := .next (s.command cAcqTrigger p)
/-- ACQ_CU_CTRL.SW_TRIG (R328, R354). -/
def execAcqCuSwTrig (fn u : Nat) (s : State) : Out :=
  .next (if u < 32 then s.onWrite fn (Page.cu u) (fun s => s.cuTrigger u (s.cuNow u) 0 false) else s)

/-! ### The acquisition buffer and the mask memory -/

/-- A range of pages of quadrant `q` meets the pages of a unit of another partition (R358). -/
def State.pagesForeign (s : State) (fn q a n : Nat) : Bool :=
  ((List.range 8).map (8 * q + ·)).any (fun u => s.cuPart u ≠ fn
    && meets (a, n) (s.g (Page.cu u) F.ACQ_CU_BUF_BASE, s.g (Page.cu u) F.ACQ_CU_BUF_LEN))

/-- Bytes that hold the history or the stream FIFO of a unit that runs: how they lie there is the unit's own (R336,
R340), so a copy of them has free values. -/
def State.bufLoose (s : State) (a : Nat) : Bool :=
  (List.range 32).any (fun u => s.cuRuns u && s.cuBase u + (s.cu u).off ≤ a && a < s.cuBase u + s.cuRoom u)

/-- `n` bytes of the buffers from `a` on. -/
def State.bufBytes (s : State) (a n : Nat) : List Byte :=
  (List.range n).map (fun i => if s.bufLoose (a + i) then BitVec.ofNat 8 (Config.freeVal (s.free + i))
    else s.acq.buf.get 0 (a + i))

def cAcqFetch : Cmd where
  op := 0x1304
  tgt := fun t => t < 4
  view := fun s p => if s.pagesForeign p.fn p.target (p.n 0) (p.n 1) then some (.atWord St.invalidParam 0) else none
  len := fun _ => 4
  bad := fun _ p => firstBad [(0, 4096 ≤ p.n 0), (1, 4096 < p.n 0 + p.n 1), misaligned p 2]
  holds := fun _ _ => []
  grps := fun p => [gid 15 (2040 + p.target)]
  run := fun s p =>
    let n := 4096 * p.n 1
    let b := s.bufBytes (p.target * 2 ^ 24 + 4096 * p.n 0) n
    ({ s with free := s.free + n }.hostWrite (p.w64 2) b).succeed p

/-- ACQ_FETCH (R353, R358). -/
def execAcqFetch (p : Pkt) (s : State) : Out := .next (s.command cAcqFetch p)

/-- A mask entry is in use by a unit that runs (R344). -/
def State.maskUsed (s : State) (q e : Nat) : Bool :=
  ((List.range 8).map (8 * q + ·)).any (fun u => s.cuRuns u
    && (e + 2048 - s.g (Page.cu u) F.ACQ_CU_MASK_MBASE) % 2048 < s.g (Page.cu u) F.ACQ_CU_MASK_MCOUNT)

/-- Mask entries written from entry `e` on. -/
def State.maskWrite (s : State) (q : Nat) : Nat → List Nat → State
  | _, [] => s
  | e, v :: l => ({ s with acq.mask := s.acq.mask.set 0 (q * 2048 + e) (BitVec.ofNat 64 v) }).maskWrite q (e + 1) l

def cAcqMaskLoad : Cmd where
  op := 0x1305
  tgt := fun t => t < 4
  len := fun _ => 4
  bad := fun _ p => firstBad [(0, 2048 ≤ p.n 0), (1, 2048 < p.n 0 + p.n 1), misaligned p 2]
  chk := fun s p => need (!(List.range (p.n 1)).any (fun i => s.maskUsed p.target (p.n 0 + i))) St.badState
  holds := fun _ p => [(Page.acqq p.target + 0x200, 0xC)]
  grps := fun p => [gid 15 (2040 + p.target)]
  run := fun s p => s.withData p (8 * p.n 1) (fun s b => s.maskWrite p.target (p.n 0) (chunks 8 (p.n 1) b))

/-- ACQ_MASK_LOAD (R344, R353). -/
def execAcqMaskLoad (p : Pkt) (s : State) : Out := .next (s.command cAcqMaskLoad p)

/-- ADDR of the mask window advances. -/
def State.maskNext (s : State) (q : Nat) : State :=
  s.p (Page.acqq q) F.ACQ_MASK_ADDR_ADDR ((s.g (Page.acqq q) F.ACQ_MASK_ADDR_ADDR + 1) % 2048)

/-- ACQ_MASK_HI_ACCESS (R15, R344, R356): the whole entry is written, or its held high half read; ADDR advances. -/
def execAcqMaskHiAccess (fn q : Nat) (wr : Option Word) (s : State) : Out :=
  let a := Page.acqq q + 0x208
  .next (if 4 ≤ q then s else match wr with
    | some w => s.onWrite fn a (fun s =>
        let e := s.g (Page.acqq q) F.ACQ_MASK_ADDR_ADDR
        let v := (s.heldWr.get 0 (holdKey fn (a - 4))).toNat + w.toNat * 2 ^ 32
        (if s.maskUsed q e then s.lockedWrite a else s.maskWrite q e [v]).maskNext q)
    | none => s.onRead fn a (fun s =>
        ({ s with pins.rdata := s.heldRd.get 0 (holdKey fn a) }).maskNext q))

/-! ### Samples and triggers reach a unit -/

/-- The codes of the input that unit `u` taps, if it taps one, come up to the present; a mask stop whose samples have come
takes place (R346). Units on outputs have theirs with every tick. -/
def State.fed (s : State) (u : Nat) (adc : List AdcCode) : State :=
  (if s.cuKind u ≤ 2 then (match s.cuSource u with | some r => s.adcIn (r - 128) adc | none => s) else s).cuStopCheck u

/-- Whether capture unit `u` exists and its module runs. -/
def State.cuLive (s : State) (u : Nat) : Bool := u < 32 && s.serving

/-- TRIGGER_ARRIVAL (R328 to R332, R336, R339, R349). -/
def execTriggerArrival (u : Nat) (adc : List AdcCode) (ts : List Trig) (s : State) : Out :=
  .next (if s.cuLive u then (s.fed u adc).cuTriggers u ts else s)

/-- CAPTURE_COMPLETE (R333, R334, R336). -/
def execCaptureComplete (u : Nat) (adc : List AdcCode) (s : State) : Out :=
  .next (if s.cuLive u then
      let s := s.fed u adc
      if s.cuState u = 2 ∧ s.capWhole u = true then s.capDone u else s
    else s)

/-- REARM_END (R335, R349): the dead time of the last trigger is over. -/
def execRearmEnd (u : Nat) (adc : List AdcCode) (s : State) : Out :=
  .next (if s.cuLive u then
      let s := s.fed u adc
      match (s.cu u).rearm with
      | some (t, _) => if t ≤ (s.cnt (s.cuPart u)).toNat then s.deadOver u else s
      | none => s
    else s)

/-- MASK_VIOLATION (R345, R346): the oldest violation found in the samples. -/
def execMaskViolation (u : Nat) (adc : List AdcCode) (s : State) : Out :=
  .next (if s.cuLive u then
      let s := s.fed u adc
      match (s.cu u).viols with
      | [] => s
      | (t, g, first) :: l => ((s.setCu u { s.cu u with viols := l }).violate u t g first).cuStopCheck u
    else s)

/-- k changes to `k` at the next sample that R340 allows. -/
def State.rateTo (s : State) (u k : Nat) : State :=
  s.setCu u { s.cu u with kNew := some k, changed := s.now, lowAt := (s.cu u).lowAt.map (fun _ => s.now) }

/-- RATE_CHANGE (R340). -/
def execRateChange (u : Nat) (adc : List AdcCode) (s : State) : Out :=
  .next (if s.cuLive u then
      let s := s.fed u adc
      let pg := Page.cu u
      let x := s.cu u
      if s.cuState u ≠ 5 ∨ ¬ s.on pg F.ACQ_CU_SRC_AUTO ∨ x.kNew.isSome then s
      else if 3 * s.cuRoom u < 4 * s.fifoFill u then
        (if x.k < s.g pg F.ACQ_CU_SRC_K_MAX ∧ x.changed + usecs 10 ≤ s.now then s.rateTo u (x.k + 1) else s)
      else match x.lowAt with
        | some t => if s.on pg F.ACQ_CU_SRC_AUTO_DOWN = true ∧ t + msecs 1 ≤ s.now ∧ s.g pg F.ACQ_CU_SRC_K_MIN < x.k then
            s.rateTo u (x.k - 1) else s
        | none => s
    else s)

/-- STREAM_GAP (R341): samples reach a stream; those without room, or invalid, make a gap. -/
def execStreamGap (u : Nat) (adc : List AdcCode) (s : State) : Out := .next (if s.cuLive u then s.fed u adc else s)

/-- ITEM_FLUSH (R338): FLUSH µs have passed since the open item's first sample. -/
def execItemFlush (u : Nat) (adc : List AdcCode) (s : State) : Out :=
  .next (if s.cuLive u then
      let s := s.fed u adc
      match (s.cu u).opn with
      | some o => if o.first + usecs (max 1 (s.g (Page.cu u) F.STR_FLUSH_FLUSH)) ≤ (s.cnt (s.cuPart u)).toNat then
          s.closeItem u else s
      | none => s
    else s)

/-! ### Group messages (R348 to R350) -/

/-- Fields of word 0 of a group message. -/
def gmEpoch (w : W64) : Nat := w.toNat / 2 ^ 3 % 16
def gmGroup (w : W64) : Nat := w.toNat / 2 ^ 7 % 16
def gmType (w : W64) : Nat := w.toNat / 2 ^ 11 % 8
def gmNode (w : W64) : Nat := w.toNat / 2 ^ 14 % 64
def gmFrac (w : W64) : Nat := w.toNat / 2 ^ 21 % 16
def gmFv (w : W64) : Bool := w.toNat / 2 ^ 25 % 2 = 1

/-- FIRE_REQ reaches the master's module (R349): it is taken while the group is ready. -/
def State.grpReq (s : State) (g m t frac : Nat) (fv : Bool) : State :=
  s.when (s.on (Page.cu m) F.ACQ_CU_STATUS_GROUP_READY = true) (·.grpAsk g m t frac fv none)

/-- A message of group `g` from node `n` acts. -/
def State.grpIn (s : State) (g n typ t frac : Nat) (fv : Bool) : State :=
  match typ, s.grpMaster g with
  | 0, none => ((s.grpShow g false).grpArm g).grpSettle g
  | 1, some _ =>
    ({ s with acq.ready := s.acq.ready.set [] g (n :: (s.acq.ready.get [] g).filter (· ≠ n)) }).grpSettle g
  | 2, some m => s.grpReq g m t frac fv
  | 3, none => s.grpFire g t frac fv none
  | 4, none => s.grpStop g
  | _, _ => s

/-- GROUP_MESSAGE (R348 to R350): a message of another epoch is discarded and counted. -/
def execGroupMessage (w t : BitVec 64) (s : State) : Out :=
  .next (if ¬ s.serving then s else
    let s := s.takeWord 4 w
    let p := nPart w
    let g := gmGroup w
    if 5 ≤ p then s
    else if gmEpoch w ≠ s.epoch p then s.bump (Page.grp 0) F.ACQ_FIRE_STALE
    else if s.grpPart g ≠ p ∨ ¬ s.on (Page.grp g) F.ACQ_GRP_CTRL_EN ∨ gmNode w ∉ s.grpNodes g then s
    else s.grpIn g (gmNode w) (gmType w) t.toNat (gmFrac w) (gmFv w))

/-! ### Marker ports (R351) -/

/-- MARKER_INPUT_EDGE (R351): an edge at port K`k`, which is an input, publishes if EV_EN and EDGE select it. -/
def execMarkerInputEdge (k : Nat) (rising : Bool) (s : State) : Out :=
  .next (if 64 ≤ k ∨ ¬ s.kIsInput k then s else
    let s := { s with acq.kin := s.acq.kin.set false k rising }
    let c := s.reg (kCfgAt k)
    let e := wget c 4 3
    if s.serving ∧ wget c 2 2 = 1 ∧ (e = 2 ∨ (e = 0 ∧ rising = true) ∨ (e = 1 ∧ rising = false)) then
      s.publish 0 (wget c 15 8)
    else s)

end Sys2Proof.Machine
end

