-- ==== Sys2Proof/Machine/BiasRows.lean ====
section
/-!
DEFINITION. Machine/BiasRows.lean: bias outputs: commands and registers (R359 to R368, R372 to R374, R393 to R396), queue
clocks and pacing (R364, R365), ramps and span changes (R361, R368), and their conditions (R369 to R371).
-/

namespace Sys2Proof.Machine
open Sys2Proof

/-- The governed number of bias output `b`. -/
def biasChan (b : Nat) : Nat := 5 * 1024 + b
/-- The registers of an output, as a command's function. -/
def biasHolds (b : Nat) : List (Nat × Nat) := [(Page.bias b, 0x38)]

/-! ### Configuration -/

/-- SPAN is written (R368): a further write during a change is counted as locked. -/
def State.biasSpanSet (s : State) (b v : Nat) : State :=
  if s.on (Page.bias b) F.BIAS_STATUS_SPAN_CHANGING then
    (if v = s.g (Page.bias b) F.BIAS_CTRL_SPAN then s else s.lockedWrite (Page.bias b))
  else if v = s.g (Page.bias b) F.BIAS_CTRL_SPAN then s
  else s.biasSpan b v

/-- SPAN and ENABLE of one write: a disabled output takes its span at once (R367, R368). -/
def State.biasCtrl (s : State) (b span en : Nat) : State :=
  if en = 0 then (s.setEnable (biasChan b) 0).biasSpanSet b span
  else (s.biasSpanSet b span).setEnable (biasChan b) en

/-- SLEW is written (R361): a slew in progress goes on from the present BIAS_OUT. -/
def State.biasSlewSet (s : State) (b : Nat) (w : Word) : State := (s.biasReslew b).putImg (Page.bias b + 0xC) w

/-- Fields of BIAS_CTRL that BIAS_CONFIG writes, and those of the policy. -/
def biasCtrlFlds : List Fld := [F.BIAS_CTRL_ENABLE, F.BIAS_CTRL_SPAN, F.BIAS_CTRL_LIMIT_ALL, F.BIAS_CTRL_QMODE]
def biasPolFlds : List Fld := [F.BIAS_CTRL_SAFE_POL, F.BIAS_CTRL_AUTO_RESTORE]

/-- A command waits for the span change of an output, or ends (R393). -/
def State.biasOwe (s : State) (p : Pkt) (b : Nat) (dark : Bool) : State :=
  let x := s.bias b
  if s.on (Page.bias b) F.BIAS_STATUS_SPAN_CHANGING then s.setBias b { x with owed := x.owed ++ [(p.sq, p.tag)] } else s.finishDark p dark

def cBiasConfig : Cmd where
  op := 0x1600
  tgt := fun t => t < 512
  view := fun s p => ownTarget (s.biasOwner p.target) p
  len := fun _ => 4
  bad := fun s p => firstBad [(0, s.badImg p.fn (Page.bias p.target) biasCtrlFlds (p.w 0)),
    (1, s.badReg p.fn (Page.bias p.target + 0x10) (p.w 1)), (2, s.badReg p.fn (Page.bias p.target + 0x14) (p.w 2)),
    (3, s.badReg p.fn (Page.bias p.target + 0xC) (p.w 3))]
  idle := fun _ _ => true
  chk := fun s p => firstOf [need (s.idle (s.biasOwner p.target)) St.badState,
    need (s.enableOk (biasChan p.target) (wget (p.w 0) 0 0)) St.powerLimit]
  holds := fun _ p => biasHolds p.target
  grps := fun p => [gid 17 p.target]
  run := fun s p =>
    let b := p.target
    let pg := Page.bias b
    let s := (s.p pg F.BIAS_CTRL_LIMIT_ALL (wget (p.w 0) 4 4)).p pg F.BIAS_CTRL_QMODE (wget (p.w 0) 8 7)
    let s := ((s.putImg (pg + 0x10) (p.w 1)).putImg (pg + 0x14) (p.w 2)).biasSlewSet b (p.w 3)
    let s := s.biasCtrl b (wget (p.w 0) 3 1) (wget (p.w 0) 0 0)
    s.biasOwe p b (s.chanDark (biasChan b))

/-- BIAS_CONFIG (R367, R368, R375, R393): it completes when any span change ends. -/
def execBiasConfig (p : Pkt) (s : State) : Out := .next (s.command cBiasConfig p)

/-- The code of a BIAS_CODE image. -/
def codeOf (w : Word) : Int := sext 20 (wget w 19 0)

def cBiasSet : Cmd where
  op := 0x1601
  tgt := fun t => t < 512
  view := fun s p => ownTarget (s.biasOwner p.target) p
  len := fun _ => 1
  bad := fun s p => s.badImgs p [(0, Page.bias p.target + 4)]
  holds := fun _ p => biasHolds p.target
  grps := fun p => [gid 17 p.target]
  run := fun s p => (s.biasWrite p.target (codeOf (p.w 0))).succeed p

/-- BIAS_SET (R363). -/
def execBiasSet (p : Pkt) (s : State) : Out := .next (s.command cBiasSet p)

/-- A write of BIAS_CODE (R363). -/
def execBiasCodeWrite (fn b : Nat) (v : Word) (s : State) : Out :=
  .next (if b < 512 then s.onWrite fn (Page.bias b + 4) (·.biasWrite b (codeOf v)) else s)

/-- Words 1 to n of BIAS_QUEUE_LOAD. -/
def loadWords (p : Pkt) : List Nat := (List.range (min (p.n 0) 64)).map (· + 1)

def cBiasQueueLoad : Cmd where
  op := 0x1602
  tgt := fun t => t < 512
  view := fun s p => ownTarget (s.biasOwner p.target) p
  len := fun p => 1 + p.n 0
  cnt := some 0
  bad := fun s p => if p.n 0 = 0 ∨ 64 < p.n 0 then some 0
    else s.badImgs p ((loadWords p).map (fun i => (i, Page.bias p.target + 4)))
  chk := fun s p => firstOf [need (s.g (Page.bias p.target) F.BIAS_CTRL_QMODE ∈ [1, 2]) St.badState,
    if (s.bias p.target).queue.length + p.n 0 ≤ 64 then none else some (.atWord St.invalidParam 0)]
  holds := fun _ p => biasHolds p.target
  grps := fun p => [gid 17 p.target]
  run := fun s p => ((loadWords p).foldl (fun s i => s.biasWrite p.target (codeOf (p.w i))) s).succeed p

/-- BIAS_QUEUE_LOAD (R363, R393). -/
def execBiasQueueLoad (p : Pkt) (s : State) : Out := .next (s.command cBiasQueueLoad p)

/-! ### Queue clocks and restores -/

/-- Outputs of quadrant `p.target` that the mask words w0 to w3 name. -/
def maskOuts (p : Pkt) : List Nat :=
  ((List.range 128).filter (fun c => (p.w (c / 32)).getLsbD (c % 32))).map (128 * p.target + ·)
/-- A mask that names another partition's output (R434). -/
def State.maskView (s : State) (p : Pkt) : Option Fail :=
  ((maskOuts p).find? (fun b => s.biasOwner b ≠ p.fn)).map (fun b => .atWord St.invalidParam (b % 128 / 32))
/-- Registers of the outputs that a mask names. -/
def maskHolds (p : Pkt) : List (Nat × Nat) := (maskOuts p).flatMap biasHolds
/-- The group of a command that names many objects of a quadrant: the quadrant's common one, since a routine holds at most 8
(R512, R513). -/
def quadGrp (code : Nat) (p : Pkt) : List Nat := [gid code (2040 + p.target)]

def cBiasQueueStart : Cmd where
  op := 0x1603
  tgt := fun t => t < 4
  view := State.maskView
  len := fun _ => 4
  holds := fun _ p => maskHolds p
  grps := quadGrp 17
  run := fun s p => (forEach (maskOuts p) s State.biasClockStart).succeed p

/-- BIAS_QUEUE_START (R364): the clocks start on one edge. -/
def execBiasQueueStart (p : Pkt) (s : State) : Out := .next (s.command cBiasQueueStart p)

/-- BIAS_QSTART (R364, R396). -/
def execBiasQstartWrite (fn q i : Nat) (v : Word) (s : State) : Out :=
  .next (if q < 4 ∧ i < 4 then s.onWrite fn (Page.biasq q + 0x10 + 4 * i) (fun s =>
      forEach (((List.range 32).filter (fun k => v.getLsbD k)).map (128 * q + 32 * i + ·)) s State.biasClockStart)
    else s)

def cBiasQueueStop : Cmd where
  op := 0x1604
  tgt := fun t => t < 4
  view := State.maskView
  len := fun _ => 5
  bad := fun _ p => firstBad [(4, 1 < p.n 4)]
  holds := fun _ p => maskHolds p
  grps := quadGrp 17
  run := fun s p => (forEach (maskOuts p) s (fun s b =>
    if p.n 4 = 1 then (s.biasClockStop b).biasFlush b else s.biasClockStop b)).succeed p

/-- BIAS_QUEUE_STOP (R364, R365, R393). -/
def execBiasQueueStop (p : Pkt) (s : State) : Out := .next (s.command cBiasQueueStop p)

def cBiasRestore : Cmd where
  op := 0x1605
  tgt := fun t => t < 4
  view := State.maskView
  len := fun _ => 4
  holds := fun _ p => maskHolds p
  grps := quadGrp 17
  run := fun s p => (forEach (maskOuts p) s State.biasRestore).succeed p

/-- BIAS_RESTORE (R374). -/
def execBiasRestore (p : Pkt) (s : State) : Out := .next (s.command cBiasRestore p)

def cBiasPolicySet : Cmd where
  op := 0x1606
  pf0 := true
  tgt := fun t => t < 512
  len := fun _ => 2
  bad := fun s p => firstBad [(0, s.badImg p.fn (Page.bias p.target) biasPolFlds (p.w 0)),
    (1, s.badReg p.fn (Page.bias p.target + 0x20) (p.w 1))]
  holds := fun _ p => biasHolds p.target
  grps := fun p => [gid 17 p.target]
  run := fun s p =>
    ((s.putBits (Page.bias p.target) (fldMask biasPolFlds) (p.w 0)).putImg (Page.bias p.target + 0x20) (p.w 1)).succeed p

/-- BIAS_POLICY_SET (R393). -/
def execBiasPolicySet (p : Pkt) (s : State) : Out := .next (s.command cBiasPolicySet p)

def qcmdAt (b : Nat) : Nat := Page.bias b + 0x18
/-- BIAS_QCMD.START (R364, R394). -/
def execBiasQcmdStart (fn b : Nat) (s : State) : Out :=
  .next (if b < 512 then s.onWrite fn (qcmdAt b) (·.biasClockStart b) else s)
/-- BIAS_QCMD.STOP (R364, R394). -/
def execBiasQcmdStop (fn b : Nat) (s : State) : Out :=
  .next (if b < 512 then s.onWrite fn (qcmdAt b) (·.biasClockStop b) else s)
/-- BIAS_QCMD.FLUSH (R365, R394). -/
def execBiasQcmdFlush (fn b : Nat) (s : State) : Out :=
  .next (if b < 512 then s.onWrite fn (qcmdAt b) (·.biasFlush b) else s)
/-- BIAS_QCMD.RESTORE (R374, R394). -/
def execBiasQcmdRestore (fn b : Nat) (s : State) : Out :=
  .next (if b < 512 then s.onWrite fn (qcmdAt b) (·.biasRestore b) else s)

/-! ### Releases (R364, R365) -/

/-- QUEUE_CLOCK_RELEASE (R364, R365). -/
def execQueueClockRelease (b : Nat) (s : State) : Out :=
  .next (if 512 ≤ b ∨ s.g (Page.bias b) F.BIAS_CTRL_QMODE ≠ 1 then s else
    let x := s.bias b
    match x.clock with
    | none => s
    | some t =>
      if s.now < t then s
      else
        let s := s.setBias b { x with clock := some (t + s.biasPeriod b) }
        if x.queue = [] then (s.flag (Page.bias b) F.BIAS_STATUS_UNDERRUN).bump (Page.bias b) F.BIAS_UNDERRUNS
        else s.biasPop b)

/-- A paced release. -/
def State.paceGo (s : State) (b : Nat) : State :=
  (s.setBias b { s.bias b with held := false, lastRel := some s.now }).biasPop b

/-- A pace event merges with another. -/
def State.paceMerge (s : State) (b : Nat) : State := s.bump (Page.bias b) F.BIAS_COALESCED

/-- PACE_EVENT (R363, R365): the event of this tick on PACE_CHAN reaches the queue. -/
def execPaceEvent (b : Nat) (s : State) : Out :=
  .next (if 512 ≤ b then s else
    let pg := Page.bias b
    let ch := s.g pg F.BIAS_QEVT_PACE_CHAN
    if s.g pg F.BIAS_CTRL_QMODE ≠ 2 ∨ ¬ s.evr.now.get false ch ∨ ¬ s.maySubscribe (s.biasOwner b) ch then s
    else
      let x := s.bias b
      if x.held then (s.paceMerge b).flag pg F.BIAS_STATUS_PACE_OVERRUN
      else match x.lastRel with
        | none => s.paceGo b
        | some t =>
          if t = s.now then s.paceMerge b
          else if s.now < t + usecs 10 then s.setBias b { x with held := true }
          else s.paceGo b)

/-- PACE_HOLD_RELEASE (R365): the 10 µs point of a held event. -/
def execPaceHoldRelease (b : Nat) (s : State) : Out :=
  .next (if 512 ≤ b then s else
    let x := s.bias b
    match x.held, x.lastRel with
    | true, some t => if t + usecs 10 ≤ s.now then s.paceGo b else s
    | _, _ => s)

/-! ### Ramps and span changes (R361, R367, R368) -/

/-- A ramp has reached its end: what follows it. -/
def State.rampEnd (s : State) (b : Nat) : State :=
  let x := s.bias b
  let s := s.unflag (Page.bias b) F.BIAS_STATUS_RAMPING
  match x.next with
  | 0 => s.setBias b { x with slewing := false, still := s.now }
  | 1 => s.setBias b { x with slewing := false, next := 0, holdTo := some (s.now + usecs 200), span := none, still := s.now }
  | _ => s.biasCut b

/-- BIAS_SLEW_END (R361, R362, R367, R368). -/
def execBiasSlewEnd (b : Nat) (s : State) : Out :=
  .next (if b < 512 ∧ (s.bias b).slewing = true ∧ (s.bias b).out = (s.bias b).dest then s.rampEnd b else s)

/-- SPAN_SWITCH_END (R368). -/
def execSpanSwitchEnd (b : Nat) (s : State) : Out :=
  .next (if 512 ≤ b then s else
    let x := s.bias b
    match x.holdTo with
    | none => s
    | some t =>
      if s.now < t then s
      else
        let s := s.setBias b { x with holdTo := none, out := 0, dest := 0 }
        ((s.setBiasCode b 0).unflag (Page.bias b) F.BIAS_STATUS_SPAN_CHANGING).biasSettle b
          (if s.on (Page.bias b) F.BIAS_STATUS_DARK then St.targetDark else St.success))

/-! ### Conditions (R369 to R371) -/

/-- A condition is reported: its bits are set, and it is logged as a transient fault (R370). -/
def State.condSet (s : State) (b cause : Nat) (live seen : Fld) : State :=
  ((s.flag (Page.bias b) live).flag (Page.bias b) seen).logIt cause (s.biasOwner b) (gid 17 b) 0

/-- One condition now holds or is absent. -/
def State.condIs (s : State) (b cause : Nat) (live seen : Fld) (v : Bool) : State :=
  if v = s.on (Page.bias b) live then s
  else if v then s.condSet b cause live seen else s.unflag (Page.bias b) live

/-- BIAS_CONDITION_REPORT (R369, R370): which conditions have now held, or been absent, for 100 µs; a disconnected output has
none, and OPEN_LOOP needs a target of 2 % of full scale. -/
def execBiasConditionReport (b : Nat) (comp opn : Bool) (s : State) : Out :=
  .next (if 512 ≤ b then s else
    let x := s.bias b
    let o := isCurrent (s.spanNow b) && opn && x.conn && 2 * 524288 ≤ 100 * (s.biasCode b).natAbs
    let c := comp && !o && x.conn
    let s := s.setBias b { x with
      comp := c, open_ := o
      compAt := if c ∧ ¬ x.comp then s.now - usecs 100 else x.compAt
      openAt := if o ∧ ¬ x.open_ then s.now - usecs 100 else x.openAt }
    let s := s.condIs b Cause.biasOpenLoop F.BIAS_STATUS_OPEN_LOOP F.BIAS_STATUS_OPEN_SEEN o
    s.condIs b Cause.biasCompliance F.BIAS_STATUS_COMPLIANCE F.BIAS_STATUS_COMP_SEEN c)

/-- COMPLIANCE_WINDOW_EXPIRE (R371). -/
def execComplianceWindowExpire (b : Nat) (s : State) : Out :=
  .next (if b < 512 ∧ (s.bias b).comp = true
      ∧ (s.bias b).compAt + msecs (max 1 (s.g (Page.bias b) F.BIAS_COMP_WINDOW_WINDOW)) ≤ s.now then
      s.biasLost b Cause.biasCompliance
    else s)

end Sys2Proof.Machine
end

