-- ==== Sys2Proof/Machine/TwinOps.lean ====
section
/-!
DEFINITION. Machine/TwinOps.lean: what the members of a twin pair do at shot boundaries and on each other's words
(R489 to R498): the mirror, digests, takeover, handover and the join copy.
-/

namespace Sys2Proof.Machine
open Sys2Proof

/-- FP7 is the twin link (R489). -/
def State.twinLink (s : State) : Bool := s.on (Page.port 7) F.FAB_PORT_STATUS_TWIN_LINK
def State.twinEn (s : State) : Bool := s.on Page.twin F.FAB_TWIN_CTRL_EN
def State.inStep (s : State) : Bool := s.on Page.twin F.FAB_TWIN_STATUS_IN_STEP
def State.partnerSeen (s : State) : Bool := s.on Page.twin F.FAB_TWIN_STATUS_PARTNER_SEEN

/-- Fields of a mirror word (R490). -/
def mwType (w : W64) : Nat := w.toNat % 16
def mwPart (w : W64) : Nat := w.toNat / 2 ^ 4 % 8
def mwShot (w : W64) : Nat := w.toNat / 2 ^ 11 % 2 ^ 48

/-- Any mirror word counts as a heartbeat (R493); in NONE, PARTNER_SEEN stays clear while FP7 is not the twin link (R489). -/
def State.hear (s : State) : State :=
  if s.twinState = 0 ∧ ¬ s.twinLink then s
  else { s.flag Page.twin F.FAB_TWIN_STATUS_PARTNER_SEEN with fab.heardAt := s.now / 16 }

/-! ### The join copy (R498) -/

/-- The active sends the copy that its partner has asked for: one STATE word, then the image. -/
def State.joinSend (s : State) : State :=
  if s.fab.joinAsk ≠ some false then s
  else
    let img := s.joinImage
    let s := { s with fab.joinAsk := some true }
    let s := s.mirror [s.mirrorWord 5 0 img.length]
    img.foldl (fun s w => s.fabQueue 7 ⟨9, s.node, s.partnerBit, [w], s.now / 16⟩) s

/-- Part of a word. -/
def bitsOf (w : W64) (hi lo : Nat) : Nat := w.toNat / 2 ^ lo % 2 ^ (hi + 1 - lo)

/-- Load the 24 image words of sequencer `q`: it goes on at its PC, whose windows are fetched. -/
def State.loadSeq (s : State) (q : Nat) (ws : List W64) : State :=
  let at_ := fun i => (ws.getD i 0).toNat
  let fl := BitVec.ofNat 32 (at_ 22)
  let pc := at_ 0 % 2 ^ 24
  let v := (List.range 16).foldl (fun t i => Tab.set 0 t i (BitVec.ofNat 16 (at_ (17 + i / 4) / 2 ^ (16 * (i % 4))))) ([] : Tab (BitVec 16))
  let loops := ((List.range 8).map (fun i => (at_ (1 + i) % 2 ^ 24, at_ (1 + i) / 2 ^ 24 % 2 ^ 24))).filter (· ≠ (0, 0))
  let sub := ((List.range 8).map (fun i => at_ (9 + i))).filter (· ≠ 0)
  let b : Half := if s.imgLen q ≤ 8192 * (winOf pc + 1) then .empty else ⟨none, some (winOf pc + 1), false⟩
  let x : Seq := { Seq.init with
    pc := pc, st := 2, tau := at_ 23, ready := s.tk (s.seqOwner q), v := v
    acc := BitVec.ofNat 40 (at_ 21), loops := loops.reverse, sub := sub.reverse
    zero := fl.getLsbD 0, neg := fl.getLsbD 1, accSat := fl.getLsbD 2, vSat := fl.getLsbD 3, timeout := fl.getLsbD 4
    mtch := fl.getLsbD 5, set := BitVec.ofNat 16 (at_ 22 / 2 ^ 32), value := BitVec.ofNat 16 (at_ 22 / 2 ^ 48)
    a := ⟨none, some (winOf pc), false⟩, b := b, jump := (s.sqs q).jump }
  (s.setSq q x).setReg (Page.seq q + 0x108) (fl &&& 0x1C0#32)

/-- The outstanding rounds that a bitmap of 512 words names, below the present round (R310). -/
def loadRounds (round : Nat) (ws : List W64) : List (Nat × Nat) :=
  ((List.range 32768).filter (fun i => (ws.getD (i / 64) 0).getLsbD (i % 64))).map
    (fun i => ((round + 65535 - (round + 32767 - i) % 32768) % 65536, 0))

/-- Load an oscillator's F and P. -/
def State.loadOsc (s : State) (k : Nat) (f p : W64) : State :=
  s.setOsc k ⟨f.toNat % 2 ^ 48, p.toNat % 2 ^ 48, []⟩

/-- The Pauli bits of frame `f` from its DEC_PAULI word. -/
def State.loadPauli (s : State) (f : Nat) (w : Nat) : State :=
  let b := w / 4 ^ (f % 16) % 4
  { s with dec.x := s.dec.x.set false f (b % 2 = 1), dec.z := s.dec.z.set false f (b / 2 % 2 = 1) }

/-- INST of the barrier groups that the image does not carry: left open (R487, R498). -/
def State.freeInst (s : State) (p : Nat) : State :=
  forEach ((List.range 32).map (· + 32)) s (fun s k =>
    let v := s.fresh 3
    let x := v.1.prt p
    v.1.setPrt p { x with bcnt := x.bcnt.set 0 k v.2 })

/-- Load what stands in the image for the frames, tones, Pauli words, units and pairs of partition `p`. -/
def State.loadDec (s : State) (p : Nat) (ws : List W64) : State × List W64 :=
  let fr := (List.range 1024).filter (fun f => s.frameOwner f = p)
  let tn := ((List.range 1024).filter (fun t => s.toneOwner t = p)).map toneLane
  let ks := fr ++ tn
  let r := ks.foldl (fun (a : State × List W64) k => (a.1.loadOsc k (a.2.getD 0 0) (a.2.getD 1 0), a.2.drop 2)) (s, ws)
  let pn := (List.range 32).filter (fun n => fr.any (fun f => f / 32 = n))
  let r := pn.foldl (fun (a : State × List W64) n =>
    (forEach (fr.filter (fun f => f / 32 = n)) a.1
      (fun s f => s.loadPauli f ((a.2.getD 0 0).toNat / 2 ^ (32 * (f / 16 % 2)) % 2 ^ 32)), a.2.drop 1)) r
  let gs := (List.range 64).filter (fun g => s.guPart g = p && s.on (Page.gu g) F.GU_CTRL_EN)
  let r := gs.foldl (fun (a : State × List W64) g =>
    let rd := bitsOf (a.2.getD 1 0) 15 0
    ((a.1.setGath g { Gath.zero with prev := a.2.getD 0 0, out := loadRounds rd ((a.2.drop 2).take 512) }).p (Page.gu g)
      F.GU_STATUS_ROUND rd, a.2.drop 514)) r
  (List.range 64).foldl (fun (a : State × List W64) n =>
    let w := a.2.getD 0 0
    (a.1.setPair (pairKey p n) { Pair.zero with next := bitsOf w 11 0, acked := bitsOf w 27 16, expected := bitsOf w 43 32
                                                lastAck := s.now / 16 }, a.2.drop 1)) r

/-- Load the image of the partitions that it holds, in order; the joiner runs on from the frozen point. -/
def State.loadParts (s : State) : Nat → List W64 → State
  | 0, _ => s
  | _, [] => s
  | n + 1, h :: ws =>
    let p := h.toNat % 8
    if 5 ≤ p then s
    else
      let num := bitsOf h 63 16
      let done := (num + 2 ^ 48 - s.g64 (Page.part p) F.PART_SHOT_NUM_LO % 2 ^ 48) % 2 ^ 48
      let ms := s.members p
      let s := ms.foldl (fun (a : State × List W64) q => (a.1.loadSeq q (a.2.take 24), a.2.drop 24)) (s, ws)
      let ws := s.2
      let s := s.1.setPrt p { Part.init with asm := (s.1.prt p).asm, done := done, cut := true
                                             bcnt := Tab.set 0 (Tab.set 0 [] 0 done) 16 done }
      let s := (s.freeInst p).p64 (Page.part p) F.PART_SHOT_NUM_LO num
      let s := s.p (Page.td p) F.TD_STATE_EPOCH (bitsOf h 6 3)
      let r := ((s.setPst p 3).acqEpoch p).loadDec p ws
      r.1.loadParts n r.2

/-! ### Mirrored decisions (R491) -/

/-- A LOOKUP of the active, on the own table (R314, R491). -/
def State.mirrorRead (s : State) (w : W64) : State :=
  let p := mwPart w
  let k := bitsOf w 26 11
  if 5 ≤ p ∨ s.idle p then s
  else
    let s := ({ s with dec.act := s.dec.act ++ [p * 65536 + k] }).compareOwn p
    match s.keyUnit k with
    | some g => ((s.when (s.on (Page.gu g) F.GU_CTRL_LOOKUP = true) (·.guFollow g k)).readEntry p k 0 (rankGather + g)).eccReads
    | none => (s.readEntry p k 0 (k / 4)).eccReads

/-- Whether a held message belongs to the pair that a COMET_APPLY names, and whether it is the one. -/
def samePair (w m : W64) : Bool := cmPart m = mwPart w && cmSrc m = bitsOf w 16 11
def sameSeq (w m : W64) : Bool := samePair w m && cmTwin m = bitsOf w 17 17 && cmSeq m = bitsOf w 29 18

/-- Held messages of the pair before the named one are passed (R491): what stays held, and how many are discarded. -/
def passHeld (w : W64) : List W64 → List W64 × Nat
  | [] => ([], 0)
  | m :: l =>
    if sameSeq w m then (l, 0)
    else
      let r := passHeld w l
      if samePair w m then (r.1, r.2 + 1) else (m :: r.1, r.2)

/-- A COMET_APPLY (R491): the held message that it names is applied. -/
def State.cometNamed (s : State) (w : W64) : State :=
  match s.fab.comets.find? (sameSeq w) with
  | none => s
  | some m =>
    let r := passHeld w s.fab.comets
    (({ s with fab.comets := r.1 }).bump Page.twin F.FAB_TWIN_UNMATCHED r.2).cometIn m

/-- A mirrored decision: while the join image arrives, it waits for the image's end. -/
def State.mirrored (s : State) (w : W64) : State :=
  if s.twinState = 1 ∧ s.fab.joinLeft ≠ 0 then { s with fab.joinHeld := s.fab.joinHeld ++ [w] }
  else if s.twinState = 2 ∨ (s.twinState = 1 ∧ s.anyBusyPart) then
    (match mwType w with | 0 => s.mirrorRead w | 1 => s.cometNamed w | _ => s)
  else s

/-- The image is whole (R498): it is loaded, and the mirror words that waited follow. With every partition IDLE, the
joiner is STANDBY at once (R493). -/
def State.joinDone (s : State) : State :=
  let ws := s.fab.joinWords
  let held := s.fab.joinHeld
  let s := ({ s with fab.joinWords := [], fab.joinHeld := [] }).loadParts 5 ws
  let s := held.foldl State.mirrored s
  if s.anyBusyPart then { s with fab.joined := true } else s.twinSet 2

/-! ### Digests (R492) -/

/-- A divergence: the standby joins again. -/
def State.diverge (s : State) : State :=
  let s := (s.flag Page.fab F.FAB_EVENTS_TWIN_DIVERGED).bump Page.twin F.FAB_TWIN_DIVERGENCES
  ((s.logIt Cause.twinDiverged 0 (gid 7 40) 0).unflag Page.twin F.FAB_TWIN_STATUS_IN_STEP).twinSet 1

/-- The digests of shot `n` of partition `p` are compared once both are known. -/
def State.twinCompare (s : State) (p n : Nat) : State :=
  let a := s.fab.digest.get 0 (digKey p n)
  let b := s.fab.digest.get 0 (digKey p n + 1)
  if s.twinState ≠ 2 ∨ a = 0 ∨ b = 0 then s
  else
    let s := { s with fab.digest := (s.fab.digest.set 0 (digKey p n) 0).set 0 (digKey p n + 1) 0 }
    if a = b then s.flag Page.twin F.FAB_TWIN_STATUS_IN_STEP else s.diverge

/-! ### Takeover and handover (R494 to R496) -/

/-- The withheld records of partition `p` that pass `f` go to the record writer, changed by `g`; the others are dropped. -/
def State.writeWithheld (s : State) (p : Nat) (f : Nat → Bool) (g : Nat → Nat) : State :=
  let mine := (s.fab.withheld.filter (fun x => x.1 = p && f x.2.shot.num)).map
    (fun x => { x.2 with shot := { x.2.shot with marks := g x.2.shot.marks } })
  { s with fab.withheld := s.fab.withheld.filter (fun x => x.1 ≠ p)
           rdo.recs := s.rdo.recs.set [] p (s.rdo.recs.get [] p ++ mine) }

/-- The first shot whose record this member writes: the one after the last SHOT_MARK received, or the one in flight. -/
def State.firstTaken (s : State) (p : Nat) : Nat :=
  let m := s.fab.marked.get 0 p
  if m = 0 then s.g64 (Page.part p) F.PART_SHOT_NUM_LO else m

/-- The partner has failed (R493): the standby takes over at the next shot boundary, or at once if no partition runs;
a member not in step, or in SAFE, becomes FAILED. -/
def State.partnerFailed (s : State) (cause : Nat) : State :=
  match s.twinState with
  | 2 =>
    if ¬ s.inStep ∨ s.pwr.mode = .safe then
      (s.twinFail Cause.twinNotInStep).raiseSafe Cause.twinNotInStep 0 (gid 7 40) 0
    else if s.fab.takeover.isSome then s
    else
      let ps := s.runParts
      let s := forEach (if ps = [] then [0] else ps) s (fun s p => s.mirrorAll [s.mirrorWord 7 p (s.firstTaken p)])
      if ps = [] then
        let s := (s.twinSet 4).bump Page.twin F.FAB_TWIN_TAKEOVERS
        (s.flag Page.fab F.FAB_EVENTS_TWIN_TAKEOVER).logIt Cause.twinTakeover 0 (gid 7 40) 0
      else
        let s := { s with fab.takeover := some cause }
        let s := forEach ps s (fun s p =>
          { s with fab.takeAt := s.fab.takeAt.set 0 p (s.g64 (Page.part p) F.PART_SHOT_NUM_LO + 1) })
        forEach ps s (fun s p => s.learnAll p)
  | 5 => forEach [0, 1, 2, 3, 4] s (fun s p => s.writeWithheld p (fun _ => true) id)
  | _ => s

/-- The takeover of partition `p` at its shot boundary (R494): the records that the failed member did not write. -/
def State.takeBoundary (s : State) (p : Nat) : State :=
  let n := s.fab.takeAt.get 0 p
  if s.fab.takeover = none ∨ n = 0 ∨ (s.g64 (Page.part p) F.PART_SHOT_NUM_LO < n ∧ ¬ s.idle p) then s
  else
    let s := if s.twinState = 2 then
        let s := (s.twinSet 4).bump Page.twin F.FAB_TWIN_TAKEOVERS
        (s.flag Page.fab F.FAB_EVENTS_TWIN_TAKEOVER).logIt Cause.twinTakeover 0 (gid 7 40) 0
      else s
    let first := s.firstTaken p
    let both := fun m => setBit (setBit m 4) 14
    let s := s.writeWithheld p (fun k => first ≤ k) both
    let x := s.prt p
    let s := s.setPrt p { x with asm := x.asm.map (fun h =>
      if first ≤ h.num ∧ h.num < n then { h with marks := both h.marks } else h) }
    let ts := s.fab.takeAt.set 0 p 0
    { s with fab.takeAt := ts, fab.holdTo := s.fab.holdTo.set 0 p (s.tk p + 2000), fab.marked := s.fab.marked.set 0 p 0
             fab.takeover := if ts = [] then none else s.fab.takeover }

/-- The roles change at a planned handover (R496). -/
def State.handOver (s : State) : State :=
  let w := s.fab.handOwed
  let s := { s with fab.handShot := none, fab.handOwed := none }
  match s.twinState with
  | 3 => (s.twinSet 2).settle w St.success
  | 2 => s.twinSet 3
  | _ => s.settle w St.badState

/-- A handover that is due: its last shot has ended, or no partition runs. -/
def State.handDue (s : State) : State :=
  match s.fab.handShot with
  | none => s
  | some (p, n) => if s.idle p ∨ n < s.g64 (Page.part p) F.PART_SHOT_NUM_LO then s.handOver else s

/-- What the twin does after a SHOT_END release of shot `n` of partition `p`. -/
def State.twinShotEnd (s : State) (p n : Nat) : State := ((s.twinCompare p n).joinSend).handDue
/-- What the twin does after a SHOT_START release: a joiner that has its copy is STANDBY (R493). -/
def State.twinShotStart (s : State) : State := if s.twinState = 1 ∧ s.fab.joined then s.twinSet 2 else s

end Sys2Proof.Machine
end

