-- ==== Sys2Proof/Machine/SeqRows.lean ====
section
/-!
DEFINITION. Machine/SeqRows.lean: the commands of sequencers and partitions (R199, R453), jump requests by register
(R192), and the events of a run: arming, the run-start cut, the start, barriers and their timeout (R171 to R178,
R696, R697).
-/

namespace Sys2Proof.Machine
open Sys2Proof

def cNop : Cmd where
  op := 0x0000
  run := fun s p => s.succeed p

/-- NOP: the packet of R453, or the sequencer instruction of R216. -/
def execNop (o : NopOp) (s : State) : Out :=
  .next (match o with
    | .packet p => s.command cNop p
    | .instr q => s.issue q 0x00 fun s _ _ _ => .go s (s.nextA q) 1 0)

/-! ### Sequencers -/

/-- A sequencer's registers, as a command's function. -/
def seqHolds (p : Pkt) : List (Nat × Nat) := [(Page.seq p.target, 0x1000)]

/-- Words and registers of SEQ_CONFIG. -/
def seqConfigWords (q : Nat) : List (Nat × Nat) := wordsAt (Page.seq q) 0 [0x000, 0x010, 0x014, 0x018, 0x01C, 0x020, 0x024]

def cSeqConfig : Cmd where
  op := 0x1400
  tgt := fun t => t < 160
  view := fun s p => ownTarget (s.seqOwner p.target) p
  len := fun _ => 7
  bad := fun s p => s.badImgs p (seqConfigWords p.target)
  idle := fun _ _ => true
  chk := fun s p => need (s.idle (s.seqOwner p.target)) St.badState
  holds := fun _ p => seqHolds p
  grps := fun p => [gid 16 p.target]
  run := fun s p => (s.putImgs p (seqConfigWords p.target)).succeed p

/-- SEQ_CONFIG (R199). -/
def execSeqConfig (p : Pkt) (s : State) : Out := .next (s.command cSeqConfig p)

/-- Bytes written into DDR4 from a module address on; an unmapped part counts (R404). -/
def State.memWrite (s : State) (a : Nat) (b : List Byte) : State :=
  let s := s.when (¬ s.memMapped a b.length) (·.memUnmapped)
  s.ddrWrite a b

def cSeqImageLoad : Cmd where
  op := 0x1401
  tgt := fun t => t < 160
  view := fun s p => ownTarget (s.seqOwner p.target) p
  len := fun _ => 4
  bad := fun _ p => firstBad [misaligned p 0, (2, 16777216 < p.n 2), (3, 16777216 < p.n 3)]
  idle := fun _ _ => true
  chk := fun s p => firstOf [need (s.idle (s.seqOwner p.target)) St.badState,
    if s.imgLen p.target < p.n 2 then some (.atWord St.invalidParam 2)
    else if s.imgLen p.target < p.n 2 + p.n 3 then some (.atWord St.invalidParam 3) else none]
  holds := fun _ p => seqHolds p
  grps := fun p => [gid 16 p.target]
  run := fun s p => s.withData p (8 * p.n 3) (fun s b => s.memWrite (s.imgAddr p.target + 8 * p.n 2) b)

/-- SEQ_IMAGE_LOAD (R199). -/
def execSeqImageLoad (p : Pkt) (s : State) : Out := .next (s.command cSeqImageLoad p)

def cSeqJump : Cmd where
  op := 0x1402
  tgt := fun t => t < 160
  view := fun s p => ownTarget (s.seqOwner p.target) p
  len := fun _ => 1
  bad := fun _ p => firstBad [(0, 7 < p.n 0)]
  holds := fun _ p => seqHolds p
  grps := fun p => [gid 16 p.target]
  run := fun s p => (s.jumpRequest p.target (p.n 0)).succeed p

/-- SEQ_JUMP (R192, R199). -/
def execSeqJump (p : Pkt) (s : State) : Out := .next (s.command cSeqJump p)

/-- SEQ_JUMP_REQ (R192, R202). -/
def execSeqJumpReq (fn q vec : Nat) (s : State) : Out :=
  .next (if q < 160 then s.onWrite fn (Page.seq q + 0x60) (·.jumpRequest q (vec % 8)) else s)

def cSeqVectorSet : Cmd where
  op := 0x1403
  tgt := fun t => t < 160
  view := fun s p => ownTarget (s.seqOwner p.target) p
  len := fun _ => 2
  bad := fun s p => firstBad [(0, 7 < p.n 0), (1, s.badReg p.fn (Page.seq p.target + 0x40) (p.w 1))]
  holds := fun _ p => seqHolds p
  grps := fun p => [gid 16 p.target]
  run := fun s p => (s.putImg (Page.seq p.target + 0x40 + p.n 0 * 4) (p.w 1)).succeed p

/-- SEQ_VECTOR_SET (R199): the vector has run scope. -/
def execSeqVectorSet (p : Pkt) (s : State) : Out := .next (s.command cSeqVectorSet p)

def cSeqMarkerMap : Cmd where
  op := 0x1404
  pf0 := true
  tgt := fun t => t < 4
  len := fun _ => 2
  bad := fun s p => firstBad [(0, 15 < p.n 0), (1, s.badReg p.fn (Page.seqq p.target + 0x100) (p.w 1))]
  holds := fun _ p => [(Page.seqq p.target, 0x1000)]
  grps := fun p => [gid 16 (2040 + p.target)]
  run := fun s p => (s.putImg (Page.seqq p.target + 0x100 + p.n 0 * 4) (p.w 1)).succeed p

/-- SEQ_MARKER_MAP (R199). -/
def execSeqMarkerMap (p : Pkt) (s : State) : Out := .next (s.command cSeqMarkerMap p)

/-! ### Partitions -/

/-- A partition's registers, as a command's function (R199). -/
def partHolds (p : Pkt) : List (Nat × Nat) := [(Page.part p.target, 0x100)]
/-- Words and registers of PART_ARM. -/
def partArmWords (p : Nat) : List (Nat × Nat) := wordsAt (Page.part p) 0 [0x08, 0x0C, 0x10, 0x14, 0x18, 0x1C, 0x20]

def cPartArm : Cmd where
  op := 0x1410
  tgt := fun t => t < 5
  view := fun _ p => ownTarget p.target p
  len := fun _ => 7
  bad := fun s p => s.badImgs p (partArmWords p.target)
  idle := fun _ _ => true
  chk := fun s p => s.armRefusal p.target (p.w64 0) (p.n 5)
  holds := fun _ p => partHolds p
  grps := fun p => [gid 16 (1024 + p.target)]
  run := fun s p => (s.putImgs p (partArmWords p.target)).arm p.target (p.w64 0) p.who

/-- PART_ARM (R171, R199): it completes with SUCCESS once ARMED. -/
def execPartArm (p : Pkt) (s : State) : Out := .next (s.command cPartArm p)

/-- PART_CTRL.ARM: a refused request leaves the state unchanged (R171). -/
def State.partArmReg (s : State) (p : Nat) : State :=
  let start := s.g64 (Page.part p) F.PART_START_LO
  if (s.armRefusal p start (s.g (Page.part p) F.PART_BARRIER_LAT_LAT)).isSome then s else s.arm p start none

/-- PART_CTRL_ARM (R171, R205). -/
def execPartCtrlArm (fn p : Nat) (s : State) : Out :=
  .next (if p < 5 then s.onWrite fn (Page.part p + 4) (·.partArmReg p) else s)

def cPartStop : Cmd where
  op := 0x1411
  tgt := fun t => t < 5
  view := fun _ p => ownTarget p.target p
  chk := fun s p => need (!s.idle p.target) St.badState
  holds := fun _ p => partHolds p
  grps := fun p => [gid 16 (1024 + p.target)]
  run := fun s p =>
    let s := s.partStop p.target
    if s.idle p.target then s.succeed p
    else
      let x := s.prt p.target
      s.setPrt p.target { x with stopOwed := x.stopOwed ++ [(p.sq, p.tag)] }

/-- PART_STOP (R171, R199): it completes when the partition is IDLE. -/
def execPartStop (p : Pkt) (s : State) : Out := .next (s.command cPartStop p)

/-- PART_CTRL_STOP (R171, R205). -/
def execPartCtrlStop (fn p : Nat) (s : State) : Out :=
  .next (if p < 5 then s.onWrite fn (Page.part p + 4) (·.partStop p) else s)

def cPartAbort : Cmd where
  op := 0x1412
  tgt := fun t => t < 5
  view := fun _ p => ownTarget p.target p
  chk := fun s p => need (!s.idle p.target) St.badState
  holds := fun _ p => partHolds p
  grps := fun p => [gid 16 (1024 + p.target)]
  run := fun s p => (s.partAbort p.target).succeed p

/-- PART_ABORT (R171, R199). -/
def execPartAbort (p : Pkt) (s : State) : Out := .next (s.command cPartAbort p)

/-- PART_CTRL_ABORT (R171, R697). -/
def execPartCtrlAbort (fn p : Nat) (s : State) : Out :=
  .next (if p < 5 then s.onWrite fn (Page.part p + 4) (·.partAbort p) else s)

/-! ### Events of a run -/

/-- ARMING_COMPLETE (R171): every window is resident before the start tick. -/
def execArmingComplete (p : Nat) (s : State) : Out :=
  .next (if p < 5 && s.pst p = 1 && s.armedReady p && s.tk p < (s.prt p).start then
      let x := s.prt p
      let s := s.setPrt p { x with armOwed := none }
      let s := forEach (s.members p) s (fun s q => s.setSq q { s.sqs q with st := 1 })
      (s.setPst p 2).settle x.armOwed St.success
    else s)

/-- RUN_START_CUT (R696): tick start − 1,024, or the tick on which the partition becomes ARMED. -/
def execRunStartCut (p : Nat) (s : State) : Out :=
  .next (if p < 5 && s.pst p = 2 && !(s.prt p).cut && (s.prt p).start ≤ s.tk p + 1024 then s.runCut p else s)

/-- START_TIME (R171): the start tick. -/
def execStartTime (p : Nat) (s : State) : Out :=
  .next (if p < 5 ∧ (s.pst p = 1 ∨ s.pst p = 2) ∧ (s.prt p).start ≤ s.tk p then
      let go : Bool := s.pst p = 2
      let s := s.runStart p
      if go then s.acqEpoch p else s
    else s)

/-- BARRIER_NOTICE (R174, R177, R188): arrivals that have reached this module are learned. -/
def execBarrierNotice (p : Nat) (s : State) : Out := .next (if p < 5 && s.running p then s.learnAll p else s)

/-- A barrier releases, and a twin does what falls due at shot boundaries (R174, R188, R492 to R498). -/
def State.barGo (s : State) (p : Nat) (b : Bar) (t : Nat) : State :=
  let n := s.g64 (Page.part p) F.PART_SHOT_NUM_LO
  let s := s.barRelease p b t
  match b.kind with
  | 0 => s.twinShotStart
  | 1 => s.twinShotEnd p n
  | _ => s

/-- BARRIER_RELEASE (R174, R188): the barriers whose release tick has come. -/
def execBarrierRelease (p : Nat) (s : State) : Out :=
  .next (if p < 5 then
      (s.dueBars p).foldl (fun s b => if s.running p then s.barGo p b.1 b.2 else s) s
    else s)

/-- A barrier of partition `p` has stood for PART_BARRIER_TIMEOUT since its first arrival (R178). -/
def State.barTimedOut (s : State) (p : Nat) : Bool :=
  let t := s.g (Page.part p) F.PART_BARRIER_TIMEOUT_TIMEOUT
  t ≠ 0 && (s.prt p).bars.any (fun b => b.since + 1000 * t ≤ s.tk p)

/-- BARRIER_TIMEOUT (R171, R178). -/
def execBarrierTimeout (p : Nat) (s : State) : Out :=
  .next (if p < 5 && s.running p && s.barTimedOut p then
      let s := s.flag (Page.part p) F.PART_STATE_BARRIER_TIMEOUT
      (s.logIt Cause.barrierTimeout p (gid 16 (1024 + p)) 0).runAbort p 4 6 St.aborted
    else s)

end Sys2Proof.Machine
end

