-- ==== Sys2Proof/Machine/FabRows.lean ====
section
/-!
DEFINITION. Machine/FabRows.lean: the commands of the fabric chapter (R499), lanes (R469 to R472), frames and ports
(R475 to R479), discovery (R482, R483) and routes (R484).
-/

namespace Sys2Proof.Machine
open Sys2Proof

/-! ### Commands (R499) -/

def laneHolds (p : Pkt) : List (Nat × Nat) := [(Page.lane p.target, 0x18)]
def portHolds (p : Pkt) : List (Nat × Nat) := [(Page.port p.target, 0x34)]

def cFabLaneConfig : Cmd where
  op := 0x0700
  pf0 := true
  tgt := fun t => t < 32
  len := fun _ => 1
  bad := fun s p => s.badImgs p [(0, Page.lane p.target)]
  holds := fun _ p => laneHolds p
  grps := fun p => [gid 7 p.target]
  run := fun s p => ((s.putImg (Page.lane p.target) (p.w 0)).laneApply p.target).succeed p

/-- FAB_LANE_CONFIG (R463, R466, R471, R499). -/
def execFabLaneConfig (p : Pkt) (s : State) : Out := .next (s.command cFabLaneConfig p)

/-- The lanes of a port as FAB_LINK_TRAIN returns them. -/
def State.trainResult (s : State) (p : Nat) : Nat :=
  s.g (Page.port p) F.FAB_PORT_STATUS_TX_LANES + 16 * s.g (Page.port p) F.FAB_PORT_STATUS_RX_LANES

def cFabLinkTrain : Cmd where
  op := 0x0701
  pf0 := true
  tgt := fun t => t < 8
  chk := fun s p => need (s.on (Page.port p.target) F.FAB_PORT_CTRL_ENABLE) St.badState
  holds := fun _ p => portHolds p ++ [(Page.lane (4 * p.target), 0x80)]
  grps := fun p => gid 7 (32 + p.target) :: (portLanes p.target).map (gid 7)
  run := fun s p =>
    let s := forEach ((portLanes p.target).filter (fun l => s.rxState l = 3)) s (fun s l =>
      s.setLane l { s.lane l with search := some 0 })
    if s.portUp p.target then s.succeed p (s.trainResult p.target)
    else s.setPort p.target { s.port p.target with owed := p.who }

/-- FAB_LINK_TRAIN (R470, R499): it completes when the port is UP; the tick ends it after 20 ms. -/
def execFabLinkTrain (p : Pkt) (s : State) : Out := .next (s.command cFabLinkTrain p)

def cFabPortConfig : Cmd where
  op := 0x0702
  pf0 := true
  tgt := fun t => t < 8
  len := fun _ => 1
  bad := fun s p => s.badImgs p [(0, Page.port p.target)]
  idle := fun _ _ => true
  chk := fun s _ => need (!s.anyBusyPart) St.badState
  holds := fun _ p => portHolds p
  grps := fun p => [gid 7 (32 + p.target)]
  run := fun s p => (s.portEnable p.target (wget (p.w 0) 0 0)).succeed p

/-- FAB_PORT_CONFIG (R479, R499). -/
def execFabPortConfig (p : Pkt) (s : State) : Out := .next (s.command cFabPortConfig p)

/-- A link word of this module to its neighbour on port `p` (R482). -/
def State.linkWord (s : State) (p w : Nat) : State := s.fabQueue p ⟨8, s.node, 3, [BitVec.ofNat 64 w], s.now / 16⟩

/-- The module ID (R482). -/
def modId : Nat := Config.moduleId.toNat

/-- A DISCOVER on every UP port but `except` (R483). -/
def State.sendDiscover (s : State) (hops num root : Nat) (except : Option Nat) : State :=
  forEach (s.upPorts.filter (fun p => except ≠ some p)) s (fun s p =>
    s.linkWord p (1 + hops % 16 * 2 ^ 4 + num * 2 ^ 8 + root * 2 ^ 16))

/-- The root begins a discovery (R483 step 1). -/
def State.discover (s : State) (who : Option (Nat × Nat)) : State :=
  let s := if s.on Page.fab F.FAB_STATUS_ADDR_VALID then s
    else (s.p Page.fab F.FAB_STATUS_NODE
      (if s.on Page.fab F.FAB_CTRL_PREF_VALID then s.g Page.fab F.FAB_CTRL_ADDR_PREF else 0)).flag Page.fab F.FAB_STATUS_ADDR_VALID
  let n := (s.fab.discNo + 1) % 16
  let s := { s with fab.discNo := n, fab.parent := none, fab.claims := [], fab.lastAnn := s.now / 16, fab.discOwed := who
                    fab.discEnd := none }
  s.sendDiscover 0 n modId none

def cFabDiscover : Cmd where
  op := 0x0703
  pf0 := true
  chk := fun s _ => need (s.on Page.fab F.FAB_CTRL_ROOT && s.on Page.fab F.FAB_CTRL_ENABLE) St.badState
  holds := fun _ _ => [(Page.fab, 0x24)]
  grps := fun _ => [gid 7 2047]
  run := fun s p => s.discover p.who

/-- FAB_DISCOVER (R483, R499): it completes 64 µs after the last ASSIGN. -/
def execFabDiscover (p : Pkt) (s : State) : Out := .next (s.command cFabDiscover p)

def cFabAddrClear : Cmd where
  op := 0x0704
  pf0 := true
  idle := fun _ _ => true
  chk := fun s _ => need (!s.anyBusyPart) St.badState
  holds := fun _ _ => [(Page.fab, 0x24)]
  grps := fun _ => [gid 7 2047]
  run := fun s p => (s.unflag Page.fab F.FAB_STATUS_ADDR_VALID).succeed p

/-- FAB_ADDR_CLEAR (R499). -/
def execFabAddrClear (p : Pkt) (s : State) : Out := .next (s.command cFabAddrClear p)

/-- Words 1 to n of FAB_ROUTE_SET with the routes that they are for. -/
def fabRouteWords (p : Pkt) : List (Nat × Nat) :=
  (List.range (min (p.n 0) 64)).map (fun i => (i + 1, Page.froute (p.target + i)))

/-- A route image is written; a change sets ROUTE_CHANGED (R484). -/
def State.putRoute (s : State) (a : Nat) (w : Word) : State :=
  let old := s.reg a
  let s := s.putImg a w
  s.when (s.reg a ≠ old) (·.flag Page.fab F.FAB_EVENTS_ROUTE_CHANGED)

def cFabRouteSet : Cmd where
  op := 0x0705
  pf0 := true
  tgt := fun t => t < 64
  len := fun p => 1 + p.n 0
  cnt := some 0
  bad := fun s p =>
    if p.n 0 = 0 ∨ 64 < p.target + p.n 0 then some 0 else s.badImgs p (fabRouteWords p)
  idle := fun _ _ => true
  chk := fun s _ => need (s.on Page.fab F.FAB_CTRL_ROUTE_MANUAL && !s.anyBusyPart) St.badState
  holds := fun _ _ => [(0x703000, 0x100)]
  grps := fun _ => [gid 7 2047]
  run := fun s p => ((fabRouteWords p).foldl (fun s x => s.putRoute x.2 (p.w x.1)) s).succeed p

/-- FAB_ROUTE_SET (R499). -/
def execFabRouteSet (p : Pkt) (s : State) : Out := .next (s.command cFabRouteSet p)

def cFabPartNodesSet : Cmd where
  op := 0x0706
  pf0 := true
  tgt := fun t => t < 5
  len := fun _ => 2
  idle := fun _ _ => true
  chk := fun s p => need (s.idle p.target) St.badState
  holds := fun _ p => [(Page.fnodes p.target + 0x100, 8)]
  grps := fun _ => [gid 7 2047]
  run := fun s p => (s.p64 (Page.fnodes p.target) F.FAB_PART_NODES_LO (p.w64 0)).succeed p

/-- FAB_PART_NODES_SET (R486, R499). -/
def execFabPartNodesSet (p : Pkt) (s : State) : Out := .next (s.command cFabPartNodesSet p)

/-- The twin registers have been written: EN set begins the search for the partner, EN cleared ends twin operation, and
the lines follow the patterns (R493, R497). -/
def State.twinWritten (s : State) (old : Bool) : State :=
  let new := s.on Page.twin F.FAB_TWIN_CTRL_EN
  let s := if new ∧ ¬ old then { s with fab.enabledAt := s.now / 16 }
    else if old ∧ ¬ new then (s.unflag Page.twin F.FAB_TWIN_STATUS_PARTNER_SEEN).twinSet 0 else s
  s.twinPat

def cFabTwinConfig : Cmd where
  op := 0x0707
  pf0 := true
  len := fun _ => 4
  bad := fun s p => s.badImgs p (wordsAt Page.twin 0 [0x00, 0x08, 0x0C, 0x10])
  idle := fun _ _ => true
  chk := fun s _ => need (!s.anyBusyPart) St.badState
  holds := fun _ _ => [(Page.twin, 0x24)]
  grps := fun _ => [gid 7 40]
  run := fun s p =>
    ((s.putImgs p (wordsAt Page.twin 0 [0x00, 0x08, 0x0C, 0x10])).twinWritten (s.on Page.twin F.FAB_TWIN_CTRL_EN)).succeed p

/-- FAB_TWIN_CONFIG (R489, R493, R497, R499). -/
def execFabTwinConfig (p : Pkt) (s : State) : Out := .next (s.command cFabTwinConfig p)

/-- The active names the last shot that it completes (R496): the present or next one of the lowest partition that runs. -/
def State.handStart (s : State) (who : Option (Nat × Nat)) : State :=
  let p := s.runParts.headD 0
  let n := s.g64 (Page.part p) F.PART_SHOT_NUM_LO
  let s := s.mirror [s.mirrorWord 6 p n]
  ({ s with fab.handShot := some (p, n), fab.handOwed := who }).handDue

def cFabTwinHandover : Cmd where
  op := 0x0708
  pf0 := true
  chk := fun s _ => need (s.twinState = 3 && s.inStep && s.partnerSeen) St.badState
  holds := fun _ _ => [(Page.twin, 0x24)]
  grps := fun _ => [gid 7 40]
  run := fun s p => s.handStart p.who

/-- FAB_TWIN_HANDOVER (R493, R496, R499): it completes at the boundary. -/
def execFabTwinHandover (p : Pkt) (s : State) : Out := .next (s.command cFabTwinHandover p)

/-- A retired lane returns to OFF (R472, R499, R571). It stays there until its configuration is next applied (R471). -/
def State.laneRestore (s : State) (l : Nat) : State :=
  let r : Retired := ⟨3, l⟩
  let s := { s with log.retired := s.log.retired.filter (· ≠ r), log.flashQ := s.log.flashQ.filter (· ≠ Sum.inl r) }
  let s := s.setLane l { s.lane l with losses := [], fails := 0 }
  (s.p (Page.lane l) F.FAB_LANE_STATUS_TX_STATE 0).setLaneRx l 0

def cFabLaneRestore : Cmd where
  op := 0x0709
  pf0 := true
  tgt := fun t => t < 32
  chk := fun s p => need (s.rxState p.target = 5) St.badState
  holds := fun _ p => laneHolds p
  grps := fun p => [gid 7 p.target]
  run := fun s p => (s.laneRestore p.target).succeed p

/-- FAB_LANE_RESTORE (R472, R499, R571). -/
def execFabLaneRestore (p : Pkt) (s : State) : Out := .next (s.command cFabLaneRestore p)

/-! ### Lanes (R469 to R472) -/

def laneCtrlAt (l : Nat) : Nat := Page.lane l + 4

/-- FAB_LANE_CTRL.SLIP (R469). -/
def execLaneSlip (fn l : Nat) (s : State) : Out :=
  .next (if l < 32 then s.onWrite fn (laneCtrlAt l) (·.laneSlip l) else s)

/-- FAB_LANE_CTRL.RETRAIN (R471). -/
def execLaneRetrain (fn l : Nat) (s : State) : Out :=
  .next (if l < 32 then s.onWrite fn (laneCtrlAt l) (·.laneRetrain l) else s)

/-- Positions and passes of the search of R470. -/
def searchSteps : Nat := 168

/-- AUTO_SLIP_STEP (R470): with MARK_OK clear after the wait at a position, the boundary moves on. -/
def execAutoSlipStep (l : Nat) (s : State) : Out :=
  .next (if 32 ≤ l ∨ s.rxState l ≠ 3 then s else
    match (s.lane l).search with
    | none => s
    | some n =>
      if searchSteps ≤ n ∨ s.on (Page.lane l) F.FAB_LANE_STATUS_MARK_OK then s
      else
        let s := s.laneSlip l
        s.setLane l { s.lane l with search := some (n + 1) })

/-- LANE_CDR_LOCK (R471): ACQUIRE becomes ALIGN; with AUTO_SLIP the search of R470 begins. -/
def execLaneCdrLock (l : Nat) (s : State) : Out :=
  .next (if 32 ≤ l ∨ s.rxState l ≠ 2 then s else
    let pg := Page.lane l
    let s := ((s.unflag pg F.FAB_LANE_STATUS_LOS).unflag pg F.FAB_LANE_STATUS_LOL).p pg F.FAB_LANE_STATUS_SLIP_POS 0
    let s := s.setLane l { s.lane l with search := if s.on pg F.FAB_LANE_CFG_AUTO_SLIP then some 0 else none, rx := .zero }
    s.setLaneRx l 3)

/-- LANE_ALIGNED (R471): the lane's last 64 markers were valid. -/
def execLaneAligned (l : Nat) (s : State) : Out :=
  .next (if 32 ≤ l ∨ s.rxState l ≠ 3 ∨ (s.lane l).rx.good < 64 then s
    else (s.setLane l { s.lane l with fails := 0 }).setLaneRx l 4)

/-- ALIGN_TIMEOUT (R471, R472): the search is exhausted, or 10 ms have passed in ALIGN. -/
def execAlignTimeout (l : Nat) (s : State) : Out :=
  .next (if 32 ≤ l ∨ s.rxState l ≠ 3 then s
    else if (s.lane l).search = some searchSteps ∨ (s.lane l).alignAt + msecs 10 ≤ s.now then s.alignFail l else s)

/-- A detector of lane `l` fires: LOL after eight invalid markers in a row; else which one is the line's (R467). -/
def State.laneDetect (s : State) (l : Nat) : State :=
  if s.rxState l = 4 ∧ 8 ≤ (s.lane l).rx.bad then s.flag (Page.lane l) F.FAB_LANE_STATUS_LOL
  else
    let v := s.fresh 1
    v.1.flag (Page.lane l) (if v.2 = 0 then F.FAB_LANE_STATUS_LOS else F.FAB_LANE_STATUS_LOL)

/-- LANE_LOSS (R467, R471, R472): LOS or LOL sets; a lane that was ALIGNED loses its lock. -/
def execLaneLoss (l : Nat) (s : State) : Out :=
  .next (if 32 ≤ l ∨ s.rxState l < 2 ∨ 4 < s.rxState l then s
    else if s.rxState l = 4 then (s.laneDetect l).lockLoss l else s.laneDetect l)

/-! ### Frames (R475 to R479) -/

/-- The words of a frame's slots, and the number of slots that hold a reserved TYPE or half a message (R475). -/
def slotWords (t : Nat) : List FSlot → List FWord × Nat
  | [] => ([], 0)
  | [x] =>
    if x.typ = 0 then ([], 0)
    else if 10 ≤ x.typ ∨ x.typ = 3 ∨ x.typ = 4 ∨ (x.typ = 7 ∧ x.w.toNat % 16 = 2) then ([], 1)
    else ([⟨x.typ, x.dst, x.twins, [x.w], t⟩], 0)
  | x :: y :: l =>
    if x.typ = 0 then slotWords t (y :: l)
    else if 10 ≤ x.typ then let r := slotWords t (y :: l); (r.1, r.2 + 1)
    else if x.typ = 3 ∨ x.typ = 4 ∨ (x.typ = 7 ∧ x.w.toNat % 16 = 2) then
      if y.typ = x.typ ∧ y.dst = x.dst ∧ y.twins = x.twins then
        let r := slotWords t l
        (⟨x.typ, x.dst, x.twins, [x.w, y.w], t⟩ :: r.1, r.2)
      else let r := slotWords t (y :: l); (r.1, r.2 + 1)
    else let r := slotWords t (y :: l); (⟨x.typ, x.dst, x.twins, [x.w], t⟩ :: r.1, r.2)

/-- A word has crossed a link: a link or join word stays with its receiver, the others go on by their TWINS (R475,
R485); before UP, and in a refused module, only link words flow. -/
def State.wordIn (s : State) (p : Nat) (w : FWord) : State :=
  if w.typ = 8 then (if 5 ≤ (w.ws.getD 0 0).toNat % 16 then s else { s with fab.inbox := s.fab.inbox ++ [w] })
  else if ¬ s.portUp p ∨ s.on Page.fab F.FAB_STATUS_REFUSED then s
  else if w.typ = 9 then (if p = 7 then { s with fab.inbox := s.fab.inbox ++ [w] } else s)
  else if w.typ = 7 ∧ 8 ≤ (w.ws.getD 0 0).toNat % 16 then s
  else s.fabRoute w

/-- Frames of a replay buffer before link sequence number `k`, and the rest. -/
def ackedBy (k : Nat) : List FFrame → List FFrame × List FFrame
  | [] => ([], [])
  | f :: l =>
    if f.lseq = k ∨ 256 < (k + 1024 - f.lseq) % 1024 then ([], f :: l)
    else let r := ackedBy k l; (f :: r.1, r.2)

/-- LACK of a good frame (R477, R478): the words of the frames that it acknowledges count as sent. -/
def State.lackIn (s : State) (p k : Nat) : State :=
  let x := s.port p
  let r := ackedBy k x.replay
  if r.1 = [] then s
  else
    let n := (r.1.map (fun f => f.words.length)).foldl (· + ·) 0
    (s.setPort p { x with replay := r.2, again := x.again.filter (fun f => decide (f ∈ r.2)), lastAckAt := s.now / 16 }).bump64 (Page.port p) F.FAB_PORT_TX_WORDS_LO n

/-- Every buffered frame is sent again (R477). -/
def State.resend (s : State) (p : Nat) : State :=
  let x := s.port p
  (s.setPort p { x with again := x.replay, lastAckAt := s.now / 16 }).bump (Page.port p) F.FAB_PORT_RETRANSMITS x.replay.length

/-- A frame with a bad CRC (R477). -/
def State.frameBad (s : State) (p : Nat) : State :=
  let s := (s.bump (Page.port p) F.FAB_PORT_CRC_ERRORS).logIt Cause.fabFrameCrc 0 (gid 7 (32 + p)) 0
  s.setPort p { s.port p with nakSent := true }

/-- The DATA part of a good frame (R475, R477). -/
def State.dataIn (s : State) (p : Nat) (f : FabFrame) : State :=
  let x := s.port p
  if f.lseq ≠ x.expected then s.setPort p { x with nakSent := true }
  else
    let s := s.setPort p { x with expected := (x.expected + 1) % 1024, nakSent := false }
    let r := slotWords (s.now / 16) (f.slots.take 3)
    let s := (s.bump64 (Page.port p) F.FAB_PORT_RX_WORDS_LO r.1.length).bump (Page.port p) F.FAB_PORT_DISCARDS r.2
    r.1.foldl (fun s w => s.wordIn p w) s

/-- A frame has come in at port `p` (R474, R477, R479). -/
def State.frameIn (s : State) (p : Nat) (f : FabFrame) : State :=
  if s.portState p = 0 then s
  else if ¬ f.crcOk then s.frameBad p
  else
    let s := (s.setPort p { s.port p with peerLanes := f.rxLanes % 16 }).portWidths p
    let s := (s.portGone p).lackIn p (f.lack % 1024)
    let s := if f.nak then s.resend p else s
    if f.data then s.dataIn p f else s

/-- A block of an ALIGNED lane joins the frame that comes in at port `p`, by its index (R476). A frame that lacks a block when
that index comes again is bad. -/
def State.blockIn (s : State) (p v : Nat) : State :=
  let b := v % 4
  let s := if ((s.port p).blocks.get none b).isSome then (s.setPort p { s.port p with blocks := [] }).frameBad p else s
  let x := s.port p
  let bl := x.blocks.set none b (some (v / 16))
  match bl.get none 0, bl.get none 1, bl.get none 2, bl.get none 3 with
  | some c0, some c1, some c2, some c3 =>
    (s.setPort p { x with blocks := [] }).frameIn p (frameOf (c0 + c1 * 2 ^ 80 + c2 * 2 ^ 160 + c3 * 2 ^ 240))
  | _, _, _, _ => s.setPort p { x with blocks := bl }

/-- A whole block `v` of lane `l`: its marker counts (R467, R469), and an ALIGNED lane delivers it. -/
def State.laneBlock (s : State) (l v : Nat) : State :=
  let pg := Page.lane l
  let y := { s.lane l with rx := (s.lane l).rx.marked v }
  let s := (s.setLane l y).p pg F.FAB_LANE_STATUS_MARK_OK (if 16 ≤ y.rx.good then 1 else 0)
  if s.rxState l ≠ 4 then s
  else if markOk v then s.blockIn (l / 4) v
  else s.bump pg F.FAB_LANE_MARK_ERRORS

/-- One line bit reaches a lane in ALIGN or ALIGNED (R464 to R466, R469). -/
def State.laneBit (s : State) (l : Nat) (b : Bool) : State :=
  if s.rxState l ≠ 3 ∧ s.rxState l ≠ 4 then s
  else
    let b := b ^^ s.on (Page.lane l) F.FAB_LANE_CFG_RX_INVERT
    let x := (s.lane l).rx
    let r := x.bit b
    let s := s.when (x.stuffed = true ∧ b = x.last) (·.bump (Page.lane l) F.FAB_LANE_STUFF_ERRORS)
    match r.2 with
    | none => s.setLane l { s.lane l with rx := r.1 }
    | some d =>
      let g := r.1.gather d
      let s := s.setLane l { s.lane l with rx := g.1 }
      match g.2 with | some v => s.laneBlock l v | none => s

/-- The line bits of port `p`'s lanes come in side by side, one of each lane at a time. -/
def State.lineIn (s : State) (p : Nat) (line : List (List Bool)) : State :=
  forEach (List.range ((line.map List.length).foldl max 0)) s (fun s i =>
    forEach (List.range 4) s (fun s k => match (line.getD k [])[i]? with
      | some b => s.laneBit (4 * p + k) b
      | none => s))

/-- FRAME_RECEIVE (R464, R465, R468, R473 to R478, R485): `line` holds, for each lane of the port in order, the line bits that
have come since the last ones. The frames that they complete are taken. -/
def execFrameReceive (port : Nat) (line : List (List Bool)) (s : State) : Out :=
  .next (if port < 8 then s.lineIn port line else s)

/-- LACK_STALL_TIMEOUT (R477): LACK has made no progress for 1 µs. -/
def execLackStallTimeout (port : Nat) (s : State) : Out :=
  .next (if port < 8 ∧ (s.port port).replay ≠ [] ∧ (s.port port).lastAckAt + 1000 ≤ s.now / 16 then s.resend port else s)

/-- A discarded word is counted, `n` times at its port, and reported at most once per port and millisecond (R478). -/
def State.wordGone (s : State) (p n : Nat) : State :=
  let s := (s.bump Page.fab F.FAB_DISCARDS).bump (Page.port p) F.FAB_PORT_DISCARDS n
  let t := s.now / 16
  let x := s.port p
  if x.discLog = 0 ∨ x.discLog - 1 + 1000000 ≤ t then
    (s.setPort p { x with discLog := t + 1 }).logIt Cause.fabWordDiscard 0 (gid 7 (32 + p)) 0
  else s

/-- A word is older than 4,096 ticks at this node (R478). -/
def State.expired (s : State) (w : FWord) : Bool := w.born + 4096 ≤ s.now / 16

/-- A queue without its first expired word. -/
def State.dropOld (s : State) : List FWord → List FWord
  | [] => []
  | w :: l => if s.expired w then l else w :: s.dropOld l

/-- WORD_EXPIRE (R478, R479): a word whose frame was transmitted takes the port down, which counts it with its buffer. -/
def execWordExpire (port : Nat) (s : State) : Out :=
  .next (if 8 ≤ port then s else
    let x := s.port port
    if x.replay.any (fun f => f.words.any s.expired) then
      (((s.wordGone port 0).dropReplay port).portFall port).portGone port
    else if x.queue.any s.expired then (s.setPort port { x with queue := s.dropOld x.queue }).wordGone port 1
    else s)

/-- FRAME_ACK_TIMEOUT (R479). -/
def execFrameAckTimeout (port : Nat) (s : State) : Out :=
  .next (if port < 8 ∧ s.portUp port = true ∧ (s.port port).replay.any (fun f => f.sent + 4096 ≤ s.now / 16) = true then
      ((s.dropReplay port).portFall port).portGone port
    else s)

/-! ### HELLO (R479, R482, R489) -/

/-- The HELLO of this module on port `p`. -/
def State.helloWord (s : State) (p : Nat) : Nat :=
  p * 2 ^ 4 + s.node * 2 ^ 7 + s.g Page.fab F.FAB_STATUS_ADDR_VALID * 2 ^ 13
    + s.g Page.twin F.FAB_TWIN_CTRL_TWIN_BIT * 2 ^ 14 + s.g Page.twin F.FAB_TWIN_CTRL_EN * 2 ^ 15 + modId * 2 ^ 16

/-- HELLO_SEND (R479): every 10 µs in TRAINING, every 1 ms in UP. -/
def execHelloSend (port : Nat) (s : State) : Out :=
  .next (if 8 ≤ port ∨ s.portState port = 0 then s else
    let t := s.now / 16
    let x := s.port port
    if x.hello = 0 ∨ x.hello - 1 + (if s.portUp port then 1000000 else 10000) ≤ t then
      (s.setPort port { x with hello := t + 1 }).linkWord port (s.helloWord port)
    else s)

/-- What a HELLO says of the peer is recorded; on FP7 it shows the twin link, from which member B takes its address
(R483 step 6, R489). -/
def State.peerIs (s : State) (p : Nat) (w : W64) : State :=
  let pg := Page.port p
  let id := w.toNat / 2 ^ 16
  let s := s.p64 pg F.FAB_PORT_PEER_LO id
  let s := ((s.p pg F.FAB_PORT_STATUS_PEER_NODE (bitsOf w 12 7)).p pg F.FAB_PORT_STATUS_PEER_VALID (bitsOf w 13 13)).p pg
    F.FAB_PORT_STATUS_PEER_TWIN (bitsOf w 14 14)
  let tw : Bool := p = 7 && id = s.g64 Page.twin F.FAB_TWIN_PARTNER_LO && bitsOf w 14 14 = 1 - s.g Page.twin F.FAB_TWIN_CTRL_TWIN_BIT
  let s := s.p pg F.FAB_PORT_STATUS_TWIN_LINK (if tw then 1 else 0)
  if tw ∧ s.twinEn ∧ s.on Page.twin F.FAB_TWIN_CTRL_TWIN_BIT ∧ bitsOf w 13 13 = 1 then
    (s.p Page.fab F.FAB_STATUS_NODE (bitsOf w 12 7)).flag Page.fab F.FAB_STATUS_ADDR_VALID
  else s

/-- A HELLO from another module on an UP port (R479). -/
def State.peerChanged (s : State) (p : Nat) : State :=
  let s := s.dropReplay p
  let s := s.setPort p { s.port p with nextSeq := 0, expected := 0, nakSent := false }
  ((s.portLeave p 1).flag Page.fab F.FAB_EVENTS_PEER_CHANGED).portGone p

/-- HELLO (R479, R482). -/
def execHello (port : Nat) (w : BitVec 64) (s : State) : Out :=
  .next (if 8 ≤ port ∨ ¬ s.linkFlows port ∨ bitsOf w 3 0 ≠ 0 then s else
    let s := s.takeWord 8 w
    let pg := Page.port port
    if s.portUp port then
      if w.toNat / 2 ^ 16 ≠ s.g64 pg F.FAB_PORT_PEER_LO then s.peerChanged port else s.peerIs port w
    else if 2 ≤ s.g pg F.FAB_PORT_STATUS_TX_WIDTH ∧ 2 ≤ s.g pg F.FAB_PORT_STATUS_RX_WIDTH then
      let s := ((s.p pg F.FAB_PORT_STATUS_STATE 2).peerIs port w).flag Page.fab F.FAB_EVENTS_PORT_UP
      let owed := (s.port port).owed
      let s := s.setPort port { s.port port with owed := none, hello := 0 }
      (s.settle owed St.success (s.trainResult port)).reroute
    else s)

/-! ### Discovery (R483) -/

/-- This module's claim (R483 step 3): firm with an address, or its preferred one. -/
def State.announceWord (s : State) : Nat :=
  let firm := s.g Page.fab F.FAB_STATUS_ADDR_VALID
  let pref := s.g Page.fab F.FAB_CTRL_PREF_VALID
  2 + (if firm = 1 then s.node else s.g Page.fab F.FAB_CTRL_ADDR_PREF) * 2 ^ 4 + max firm pref * 2 ^ 10 + firm * 2 ^ 11
    + modId * 2 ^ 16
/-- Member B of a pair neither announces nor claims (R483 step 6). -/
def State.isMemberB (s : State) : Bool := s.twinEn && s.on Page.twin F.FAB_TWIN_CTRL_TWIN_BIT

/-- DISCOVER (R483 steps 2 and 3): the first of its number makes its port the parent. -/
def execDiscover (port : Nat) (w : BitVec 64) (s : State) : Out :=
  .next (if 8 ≤ port ∨ ¬ s.portUp port ∨ bitsOf w 3 0 ≠ 1 then s else
    let s := s.takeWord 8 w
    let n := bitsOf w 11 8
    if n = s.fab.discNo then s
    else
      let s := { s with fab.discNo := n, fab.parent := some port, fab.discUntil := s.now / 16 + 164000 }
      let s := s.sendDiscover (bitsOf w 7 4 + 1) n (w.toNat / 2 ^ 16) (some port)
      if s.isMemberB then s else s.linkWord port s.announceWord)

/-- ANNOUNCE (R483 step 3): forwarded to the parent; the root keeps it. -/
def execAnnounce (port : Nat) (w : BitVec 64) (s : State) : Out :=
  .next (if 8 ≤ port ∨ ¬ s.portUp port ∨ bitsOf w 3 0 ≠ 2 then s else
    let s := s.takeWord 8 w
    if s.fab.discOwed.isSome then
      let id := w.toNat / 2 ^ 16
      if s.fab.claims.any (fun c => c.1 = id) then s
      else { s with fab.claims := s.fab.claims ++ [(id, bitsOf w 9 4, decide (bitsOf w 10 10 = 1), decide (bitsOf w 11 11 = 1))]
                    fab.lastAnn := s.now / 16 }
    else match s.fab.parent with
      | some q => if q = port then s else s.linkWord q w.toNat
      | none => s)

/-- Claims in ascending module ID. -/
def claimIns (e : Nat × Nat × Bool × Bool) : List (Nat × Nat × Bool × Bool) → List (Nat × Nat × Bool × Bool)
  | [] => [e]
  | f :: l => if e.1 < f.1 then e :: f :: l else f :: claimIns e l
def claimSort (l : List (Nat × Nat × Bool × Bool)) : List (Nat × Nat × Bool × Bool) := l.foldr claimIns []

/-- Give each claim of a list its address if that is free: assignments (ID, address). -/
def takeClaims : List (Nat × Nat × Bool × Bool) → List (Nat × Nat) → List (Nat × Nat)
  | [], out => out
  | c :: l, out => takeClaims l (if out.any (fun x => x.2 = c.2.1) then out else out ++ [(c.1, c.2.1)])
/-- Give each module left the lowest free address. -/
def takeLowest : List Nat → List (Nat × Nat) → List (Nat × Nat)
  | [], out => out
  | id :: l, out =>
    match (List.range 64).find? (fun a => !out.any (fun x => x.2 = a)) with
    | some a => takeLowest l (out ++ [(id, a)])
    | none => out
/-- The assignment of R483 step 4, with the root's own address first. -/
def assignAll (root addr : Nat) (claims : List (Nat × Nat × Bool × Bool)) : List (Nat × Nat) :=
  let cs := claimSort claims
  let a := takeClaims (cs.filter (fun c => c.2.2.2)) [(root, addr)]
  let b := takeClaims (cs.filter (fun c => c.2.2.1 && !c.2.2.2)) a
  takeLowest ((cs.map (·.1)).filter (fun id => !b.any (fun x => x.1 = id))) b

/-- An ASSIGN word (R482). -/
def assignWord (addr : Nat) (refused : Bool) (id : Nat) : Nat :=
  3 + addr * 2 ^ 4 + (if refused then 2 ^ 10 else 0) + id * 2 ^ 16

/-- ANNOUNCE_QUIET (R483 steps 4, 5 and 7). -/
def execAnnounceQuiet (s : State) : Out :=
  .next (if s.fab.discOwed.isNone ∨ s.fab.discEnd.isSome ∨ s.now / 16 < s.fab.lastAnn + 100000 then s else
    let out := assignAll modId s.node s.fab.claims
    let s := s.fab.claims.foldl (fun s c =>
      let a := out.find? (fun x => x.1 = c.1)
      let w := match a with | some x => assignWord x.2 false c.1 | none => assignWord 0 true c.1
      forEach s.upPorts s (fun s p => s.linkWord p w)) s
    let bad : Bool := out.length < s.fab.claims.length + 1
    let s := if bad then s.flag Page.fab F.FAB_EVENTS_NODE_REFUSED else s
    { s with fab.discEnd := some (s.now / 16 + 64000, if bad then St.nodeLimit else St.success, out.length) }.reroute)

/-- The end of a discovery on the root (R483 step 7). -/
def State.discTick (s : State) : State :=
  match s.fab.discEnd with
  | none => s
  | some (t, st, n) =>
    if t ≤ s.now / 16 then
      ({ s with fab.discEnd := none, fab.discOwed := none, fab.claims := [] }).settle s.fab.discOwed st n
    else s

/-- ASSIGN (R483 step 5). -/
def execAssign (port : Nat) (w : BitVec 64) (s : State) : Out :=
  .next (if 8 ≤ port ∨ ¬ s.portUp port ∨ bitsOf w 3 0 ≠ 3 then s else
    let s := s.takeWord 8 w
    if s.fab.parent ≠ some port then s
    else
      let s := { s with fab.discUntil := s.now / 16 + 64000 }
      let s := forEach (s.upPorts.filter (· ≠ port)) s (fun s p => s.linkWord p w.toNat)
      if w.toNat / 2 ^ 16 ≠ modId ∨ s.isMemberB then s
      else if bitsOf w 10 10 = 1 then
        (s.flag Page.fab F.FAB_STATUS_REFUSED).logIt Cause.nodeLimit 0 (gid 7 2047) 0
      else
        (((s.p Page.fab F.FAB_STATUS_NODE (bitsOf w 9 4)).flag Page.fab F.FAB_STATUS_ADDR_VALID).unflag Page.fab
          F.FAB_STATUS_REFUSED).reroute)

/-! ### Routes (R484) -/

/-- Block `i` of a module's VECTOR words. -/
def State.vectorWord (s : State) (i : Nat) : Nat :=
  4 + i * 2 ^ 4 + ((List.range 4).map (fun j =>
    ((s.hopsTo (4 * i + j) 0).1 + 16 * (s.hopsTo (4 * i + j) 1).1) * 2 ^ (8 + 8 * j))).foldl (· + ·) 0

/-- Ticks between the VECTOR words of a module (R484). -/
def vectorTicks : Nat := 2000

/-- VECTOR_SEND (R484): every 2 µs of the module count. -/
def execVectorSend (s : State) : Out :=
  .next (if ¬ s.on Page.fab F.FAB_STATUS_ADDR_VALID ∨ s.now / 16 % vectorTicks ≠ 0 then s else
    let s := s.reroute
    let ws := (List.range 16).map s.vectorWord
    forEach s.upPorts s (fun s p => ws.foldl (fun s w => s.linkWord p w) s))

/-- VECTOR (R482, R484). -/
def execVector (port : Nat) (w : BitVec 64) (s : State) : Out :=
  .next (if 8 ≤ port ∨ ¬ s.portUp port ∨ bitsOf w 3 0 ≠ 4 then s else
    let s := s.takeWord 8 w
    let i := bitsOf w 7 4
    let old := s.fab.vec.get [] port
    let new := (List.range 4).foldl (fun t j =>
      Tab.set 15 (Tab.set 15 t (2 * (4 * i + j)) (w.toNat / 2 ^ (8 + 8 * j) % 16)) (2 * (4 * i + j) + 1)
        (w.toNat / 2 ^ (12 + 8 * j) % 16)) old
    { s with fab.vec := s.fab.vec.set [] port new }.reroute)

end Sys2Proof.Machine
end

