-- ==== Sys2Proof/Machine/MemRows.lean ====
section
/-!
DEFINITION. Machine/MemRows.lean: DDR4 and the on-die stores: the MEM commands and the register window (R404, R405, R425,
R428), refresh and replay (R409 to R412), scrubbing (R416), repairs and moves (R415, R418), initialisation (R420) and
march tests (R421 to R424).
-/

namespace Sys2Proof.Machine
open Sys2Proof

/-- The MEM registers, as a command's function (R425). -/
def memHolds : List (Nat × Nat) := [(Page.mem, 0x2000)]

/-! ### Copies between host memory and DDR4 (R404, R425) -/

/-- The DDR4 address of a packet. -/
def ddrAddr (p : Pkt) : Nat := p.w64 0
/-- Addresses and count that are not multiples of 8. -/
def copyBad (p : Pkt) : Option Nat := firstBad [misaligned p 0, misaligned p 2, misaligned p 3]
/-- A copy whose range is not mapped is refused, and counted (R404). -/
def State.copyRefusal (s : State) (p : Pkt) : Option Fail :=
  if s.memMapped (ddrAddr p) (p.n 2) then none else some (.atWord St.invalidParam 0)
def rejCopy (s : State) (p : Pkt) (f : Fail) : State :=
  if f = .atWord St.invalidParam 0 ∧ p.n 0 % 8 = 0 then s.memUnmapped else s

def cMemWrite : Cmd where
  op := 0x0800
  pf0 := true
  len := fun _ => 5
  bad := fun _ p => copyBad p
  chk := State.copyRefusal
  holds := fun _ _ => memHolds
  grps := fun _ => [gid 8 2047]
  rej := rejCopy
  run := fun s p => (s.ddrIssue (p.n 2 / 8)).withData p (p.n 2) (fun s b => s.ddrWrite (ddrAddr p) b)

/-- MEM_WRITE (R404, R425). -/
def execMemWrite (p : Pkt) (s : State) : Out := .next (s.command cMemWrite p)

def cMemRead : Cmd where
  op := 0x0801
  pf0 := true
  len := fun _ => 5
  bad := fun _ p => copyBad p
  chk := State.copyRefusal
  holds := fun _ _ => memHolds
  grps := fun _ => [gid 8 2047]
  rej := rejCopy
  run := fun s p =>
    let a := ddrAddr p
    let s := s.ddrIssue (p.n 2 / 8)
    match s.firstPoison a (p.n 2) with
    | none => (s.hostWrite (p.w64 3) (s.ddrRead a (p.n 2))).succeed p
    | some x =>
      ((s.hostWrite (p.w64 3) (s.ddrRead a (x - a))).memBad 0 (s.addrLoc x)).finish p (.plain St.internalError)

/-- MEM_READ (R404, R413, R425): an uncorrectable word goes to no output and stops the command. -/
def execMemRead (p : Pkt) (s : State) : Out := .next (s.command cMemRead p)

/-! ### Configuration -/

def cMemMapSet : Cmd where
  op := 0x0802
  pf0 := true
  len := fun _ => 1
  bad := fun s p => s.badImgs p [(0, Page.mem + 4)]
  idle := fun _ _ => true
  chk := fun s _ => need (!(s.anyBusyPart || s.hrt.ctx.any (fun c => c.2.st ≠ 0 && c.2.op / 256 = 8)
    || s.on Page.mem F.MEM_STATUS_MOVING)) St.badState
  holds := fun _ _ => memHolds
  grps := fun _ => [gid 8 2047]
  run := fun s p => (s.putImg (Page.mem + 4) (p.w 0)).succeed p

/-- MEM_MAP_SET (R403, R405). -/
def execMemMapSet (p : Pkt) (s : State) : Out := .next (s.command cMemMapSet p)

def cMemHintSet : Cmd where
  op := 0x0803
  pf0 := true
  len := fun _ => 1
  bad := fun s p => s.badImgs p [(0, Page.mem + 8)]
  holds := fun _ _ => memHolds
  grps := fun _ => [gid 8 2047]
  run := fun s p => (s.putImg (Page.mem + 8) (p.w 0)).succeed p

/-- MEM_HINT_SET (R408, R425). -/
def execMemHintSet (p : Pkt) (s : State) : Out := .next (s.command cMemHintSet p)

def cMemScrubSet : Cmd where
  op := 0x0804
  pf0 := true
  len := fun _ => 1
  bad := fun s p => s.badImgs p [(0, Page.mem + 0x10)]
  holds := fun _ _ => memHolds
  grps := fun _ => [gid 8 2047]
  run := fun s p => (s.putImg (Page.mem + 0x10) (p.w 0)).succeed p

/-- MEM_SCRUB_SET (R416, R425). -/
def execMemScrubSet (p : Pkt) (s : State) : Out := .next (s.command cMemScrubSet p)

def cMemRankRetire : Cmd where
  op := 0x0807
  pf0 := true
  tgt := fun t => t < 4
  len := fun _ => 1
  bad := fun _ p => firstBad [(0, 1 < p.n 0)]
  chk := fun s p => need (!s.on (Page.memCh p.target) F.MEM_CH_STATUS_FAILED
    && s.g (Page.memCh p.target) (if p.n 0 = 0 then F.MEM_CH_STATUS_RANK0 else F.MEM_CH_STATUS_RANK1) = 0) St.badState
  holds := fun _ _ => memHolds
  grps := fun p => [gid 8 p.target]
  run := fun s p => (s.rankRetire p.target (p.n 0) 0).succeed p

/-- MEM_RANK_RETIRE (R417, R419). -/
def execMemRankRetire (p : Pkt) (s : State) : Out := .next (s.command cMemRankRetire p)

/-! ### The register window (R404, R428) -/

/-- Module address of the window. -/
def State.winAddr (s : State) : Nat :=
  (s.reg (Page.mem + 0x100)).toNat / 8 * 8 + s.g Page.mem F.MEM_WIN_ADDR_HI_ADDR_HI * 2 ^ 32
/-- The address advances by 8. -/
def State.winNext (s : State) : State :=
  let a := (s.winAddr + 8) % 2 ^ 37
  (s.setReg (Page.mem + 0x100) (BitVec.ofNat 32 a)).p Page.mem F.MEM_WIN_ADDR_HI_ADDR_HI (a / 2 ^ 32)

/-- MEM_WIN_DATA_HI_ACCESS (R404, R428). -/
def execMemWinDataHiAccess (fn : Nat) (wr : Option Word) (s : State) : Out :=
  let a := Page.mem + 0x10C
  .next (match wr with
    | some w => s.onWrite fn a (fun s =>
        let x := s.winAddr
        let v := (s.heldWr.get 0 (holdKey fn (a - 4))).toNat + w.toNat * 2 ^ 32
        (if s.memMapped x 8 then (s.ddrIssue 1).ddrWrite x (leBytes 8 v) else s.memUnmapped).winNext)
    | none => s.onRead fn a (fun s => ({ s with pins.rdata := s.heldRd.get 0 (holdKey fn a) }).winNext))

/-! ### Refresh, replay and scrubbing (R409 to R412, R416) -/

/-- tREFI of R409: halved while the DRAM sensors are at their warning level (R634). -/
def State.refInterval (s : State) : Nat :=
  124800 / 2 ^ s.g Page.mem F.MEM_REF_CFG_FGR / (if 1 ≤ s.thm.level.get 0 1 then 2 else 1)

/-- REFRESH_DUE (R409, R410), tREFI after the last one of the rank: since then `made` postponed refreshes were made up in
idle time; `busy`: the rank has a request pending or an open row in use. -/
def execRefreshDue (c r made : Nat) (busy : Bool) (s : State) : Out :=
  .next (if 4 ≤ c ∨ 2 ≤ r ∨ ¬ s.serving ∨ s.now < s.mem.refAt.get 0 (2 * c + r) + s.refInterval then s else
    let k := 2 * c + r
    let s := { s with mem.refAt := s.mem.refAt.set 0 k s.now }
    let n := s.mem.postponed.get 0 k - made
    let lim := max 1 (s.g Page.mem F.MEM_REF_CFG_POSTPONE) * 2 ^ s.g Page.mem F.MEM_REF_CFG_FGR
    if ¬ busy then { s with mem.postponed := s.mem.postponed.set 0 k n }
    else if lim ≤ n then { s.bump Page.mem F.MEM_REFRESH_FORCED with mem.postponed := s.mem.postponed.set 0 k n }
    else { s with mem.postponed := s.mem.postponed.set 0 k (n + 1) })

/-- The incident of a channel ends (R411). -/
def State.replayOver (s : State) (c : Nat) : State :=
  { s with mem.replays := s.mem.replays.set (0, 0, 0) c (0, 0, 0) }

/-- The fourth replay has raised an alert (R412): ranks 1, 2 or both 3. -/
def State.replayFail (s : State) (c m : Nat) : State :=
  let s := (s.replayOver c).flag Page.mem F.MEM_STATUS_REPLAY_FAIL
  let s := s.bump (Page.memCh c) F.MEM_CH_REPLAYS
  let r := m / 2
  let s := s.logIt Cause.memReplayFail 0 (gid 8 c) (chDetail c (r % 2) 4)
  if m = 3 then s.chanFail c 1 4 else s.rankRetire c r 4

/-- DDR_ALERT (R411, R412): the command that alerts addresses rank `r`. -/
def execDdrAlert (c r : Nat) (s : State) : Out :=
  .next (if 4 ≤ c ∨ 2 ≤ r ∨ ¬ s.serving then s else
    let x := s.mem.replays.get (0, 0, 0) c
    let m := if x.2.2 / 2 ^ r % 2 = 1 then x.2.2 else x.2.2 + 2 ^ r
    if 4 ≤ x.1 then s.replayFail c m
    else { s with mem.replays := s.mem.replays.set (0, 0, 0) c (x.1 + 1, s.now, m) })

/-- A replayed sequence has passed its alert windows: 250 ns without an alert (R411). -/
def State.replayTick (s : State) : State :=
  forEach ((s.mem.replays.filter (fun e => e.2.1 ≠ 0 && e.2.2.1 + 4000 ≤ s.now)).map (·.1)) s (fun s c =>
    let x := s.mem.replays.get (0, 0, 0) c
    let s := ((s.replayOver c).bump Page.mem F.MEM_REPLAYS).bump (Page.memCh c) F.MEM_CH_REPLAYS
    s.logIt Cause.memReplay 0 (gid 8 c) (chDetail c (if x.2.2 = 2 then 1 else 0) x.1))

/-- Bursts of channel `c` that the scrubber reads in a pass, and the offset of burst `i`. -/
def State.scrubLen (s : State) (c : Nat) : Nat :=
  if s.g (Page.memCh c) F.MEM_CH_STATUS_RANK0 = 0 ∧ s.g (Page.memCh c) F.MEM_CH_STATUS_RANK1 = 0 then 2 ^ 29 else 2 ^ 28

/-- A channel's pass is complete; DDR4's is when every channel's is (R416). -/
def State.passDone (s : State) (c : Nat) : State :=
  let least := fun (s : State) => ((List.range 4).map (fun c => s.mem.passes.get 0 c)).foldl min (s.mem.passes.get 0 0)
  let s1 := { s with mem.passes := s.mem.passes.set 0 c (s.mem.passes.get 0 c + 1) }
  if least s < least s1 then s1.bump Page.mem F.MEM_SCRUB_PASSES else s1

/-- The scrubber of a store and quadrant. -/
def scrubKey (store quad : Nat) : Nat := 4 * store + (if store < 4 then store else if store < 10 then quad else 0)

/-- The scrubber of channel `c` reads its next burst: `err` 0 no error, 1 one that is corrected, 2 + w one of word w that
is not. -/
def State.scrubDdr (s : State) (c err : Nat) : State :=
  let s := s.ddrIssue 1
  -- a rank that was retired since takes its bursts with it
  let k := scrubKey c c
  let i := s.mem.scrub.get 0 k % s.scrubLen c
  let o := 64 * i
  let j := if i + 1 < s.scrubLen c then i + 1 else 0
  let s := { s with mem.scrub := s.mem.scrub.set 0 k j }
  let s := if err < 2 then s
    else { s with mem.poison := s.mem.poison.set false (ddrKey (c, o) / 8 + (err - 2) % 8) true }
  let bad : Bool := (List.range 8).any (fun w => s.mem.poison.get false (ddrKey (c, o) / 8 + w))
  let d := s.ddrLoc c o
  let s := if bad then s.memBad 0 d else if err = 1 then s.memCorrect d else s
  if j = 0 then s.passDone c else s

/-- The scrubber of an on-die store reads its next word: `err` 0 no error, 1 one that is corrected, 2 one that is not. A word
of the decision table then stays so until it is written (R301). -/
def State.scrubDie (s : State) (store quad err : Nat) : State :=
  let k := 4 * store + quad
  let i := s.mem.scrub.get 0 k
  let s := { s with mem.scrub := s.mem.scrub.set 0 k ((i + 1) % storeSize store) }
  let d := locNum store quad 0 i
  let s := if 2 ≤ err ∧ store = 10 then { s with dec.bad := s.dec.bad.set false i true } else s
  if store = 10 ∧ s.dec.bad.get false i = true then s.memBad 0 d
  else if err = 0 then s else if err = 1 then s.memCorrect d else s.memBad 0 d

/-- T_exp units from one read of a scrubber to the next, in a pass of `h` hours of DDR4 (R416). -/
def State.scrubPace (s : State) (store h : Nat) : Nat :=
  if store < 4 then secs 3600 * h / s.scrubLen store
  else if s.pwr.mode = .banked then secs 10 / storeSize store else msecs 100 / storeSize store

/-- HOURS of the pass in which a scrubber reads next: a pass takes it at its first burst (R416, R426). -/
def State.scrubHours (s : State) (k : Nat) : Nat :=
  if s.mem.scrub.get 0 k = 0 then max 1 (s.g Page.mem F.MEM_SCRUB_CFG_HOURS) else (s.mem.scrubAt.get (0, 0) k).2

/-- The next read of a scrubber is due. -/
def State.scrubDue (s : State) (store k : Nat) : Bool :=
  let t := (s.mem.scrubAt.get (0, 0) k).1
  t = 0 || t - 1 + s.scrubPace store (s.scrubHours k) ≤ s.now

/-- SCRUB_READ (R413 to R416): in BANKED only retained SRAM is scrubbed. -/
def execScrubRead (store quad err : Nat) (s : State) : Out :=
  let k := scrubKey store quad
  .next (if 12 ≤ store ∨ 4 ≤ quad ∨ ¬ s.on Page.mem F.MEM_SCRUB_CFG_EN ∨ ¬ s.scrubDue store k then s
    else if s.serving ∨ (s.pwr.mode = .banked ∧ store = 11) then
      let s := { s with mem.scrubAt := s.mem.scrubAt.set (0, 0) k (s.now + 1, s.scrubHours k) }
      if store < 4 then s.scrubDdr store err else s.scrubDie store (k % 4) err
    else s)

/-- HIT_FORGOTTEN (R414): the oldest hit of entry `i` lies more than 24 h back. -/
def execHitForgotten (i : Nat) (s : State) : Out :=
  .next (if 256 ≤ i ∨ ¬ s.locValid i then s else
    let h := s.mem.hits.get (0, 0) i
    if s.log.mtime.toNat ≤ h.1 + day then s
    else if s.g (Page.loc i) F.MEM_LOC_HITS_HITS = 2 then s.locPut i (s.locOf i) 1 h.2 h.2
    else s.locClear i)

/-! ### Repairs, moves and initialisation (R415, R418, R420) -/

/-- The first row of a store of a quadrant that waits is repaired. -/
def dropRow (store quad : Nat) : List (Nat × Nat × Nat) → List (Nat × Nat × Nat)
  | [] => []
  | x :: l => if x.1 = store ∧ x.2.1 = quad then l else x :: dropRow store quad l

/-- ROW_REPAIR_COMPLETE (R415): the row is copied; its words keep their values. -/
def execRowRepairComplete (store quad : Nat) (s : State) : Out :=
  .next { s with mem.repairs := dropRow store quad s.mem.repairs }

/-- Ticks in which a block of 64 KiB is at best read and written at 25.6 GB/s (R402, R418). -/
def blockTicks : Nat := 5120
/-- The move of channel `c` reads its blocks from `p` up to `q`: an uncorrectable word is reported, and stays so in rank 1
(R413, R418). -/
def State.moveRead (s : State) (c p q : Nat) : State :=
  forEach ((s.mem.poison.map (·.1)).filter (fun k => k / 2 ^ 32 = c && p ≤ k % 2 ^ 32 / 2 ^ 13 && k % 2 ^ 32 / 2 ^ 13 < q)) s
    (fun s k => s.memBad 0 (locNum c c 0 (k % 2 ^ 32 / 8)))
/-- A move goes on: at most one block per `blockTicks`; how much sooner or later a block is done is left open (R407, R418). -/
def State.moveTick (s : State) : State :=
  forEach ((List.range 4).filter (fun c => s.g (Page.memCh c) F.MEM_CH_STATUS_RANK0 = 1 && s.now / 16 % blockTicks = 0)) s
    (fun s c =>
      let v := s.fresh 1
      let p := s.g (Page.memCh c) F.MEM_CH_MOVE_MOVE_PTR
      let q := min (2 ^ 18 - 1) (p + v.2)
      (v.1.moveRead c p q).p (Page.memCh c) F.MEM_CH_MOVE_MOVE_PTR q)

/-- RANK_MOVE_COMPLETE (R418): what MOVE_PTR shows after the move is left open. -/
def execRankMoveComplete (c : Nat) (s : State) : Out :=
  .next (if 4 ≤ c ∨ s.g (Page.memCh c) F.MEM_CH_STATUS_RANK0 ≠ 1 then s else
    let (s, v) := (s.moveRead c (s.g (Page.memCh c) F.MEM_CH_MOVE_MOVE_PTR) (2 ^ 18)).fresh 18
    let s := (s.p (Page.memCh c) F.MEM_CH_STATUS_RANK0 2).p (Page.memCh c) F.MEM_CH_MOVE_MOVE_PTR v
    if (List.range 4).any (fun c => s.g (Page.memCh c) F.MEM_CH_STATUS_RANK0 = 1) then s
    else s.unflag Page.mem F.MEM_STATUS_MOVING)

/-- Every word of store `st` reads as zero. -/
def State.storeZero (s : State) (st : Nat) : State :=
  match st with
  | 0 | 1 | 2 | 3 =>
    { s with mem.ddr := s.mem.ddr.filter (fun e => e.1 / 2 ^ 35 ≠ st)
             mem.poison := s.mem.poison.filter (fun e => e.1 / 2 ^ 32 ≠ st) }
  | 4 => { s with syn.env := [] }
  | 6 => { s with sqr.store := [] }
  | 7 => { s with rdo.kern := [] }
  | 8 => { s with acq.mask := [] }
  | 9 => { s with acq.buf := [] }
  | 10 => { s with dec.tab := [], dec.bad := [] }
  | _ => s

/-- MEMORY_INIT_COMPLETE (R420): store `st` has been written with zero. -/
def execMemoryInitComplete (st : Nat) (s : State) : Out :=
  .next (if st ∉ s.mem.initLeft then s else
    let s := s.storeZero st
    let s := { s with mem.initLeft := s.mem.initLeft.filter (· ≠ st) }
    if s.mem.initLeft = [] then s.flag Page.mem F.MEM_STATUS_INIT_DONE else s)

/-! ### March tests (R421 to R424) -/

/-- D of R422 for word `n` of a store; the rows of DDR4 are the devices' own. -/
def backD (store bg n : Nat) : Option Nat :=
  let odd : Bool := n / 64 % 2 = 1
  match bg with
  | 0 => some 0
  | 3 => some n
  | 1 => if store < 4 then none else some (if odd then 0xAAAAAAAAAAAAAAAA else 0x5555555555555555)
  | _ => if store < 4 then none else some (if odd then 2 ^ 64 - 1 else 0)

/-- What a whole march leaves in word `n`: D after MATS+ and March C−, its complement after March SR (R421). -/
def marchLeaves (m : March) (n : Nat) : Option Nat :=
  (backD m.store m.bg n).map (fun d => if m.alg = 2 then 2 ^ 64 - 1 - d else d)

/-- The offset of word `n` of a rank, if the rank serves requests (R418). -/
def State.rankWord (s : State) (c r n : Nat) : Option Nat :=
  let o := 8 * n
  let both : Bool := s.g (Page.memCh c) F.MEM_CH_STATUS_RANK0 = 0 && s.g (Page.memCh c) F.MEM_CH_STATUS_RANK1 = 0
  if both then some (r * 2 ^ 34 + o) else if s.rankOf c o = r then some o else none

/-- Word `n` of a store takes the value `v`; the sequencer stores of a quadrant stand in the order of its sequencers. -/
def State.storePut (s : State) (m : March) (n v : Nat) : State :=
  let q := m.quad
  match m.store with
  | 0 | 1 | 2 | 3 =>
    (match s.rankWord m.store m.rank n with
     | some o => (List.range 8).foldl (fun s i => s.ddrPut (m.store, o + i) (BitVec.ofNat 8 (v / 256 ^ i))) s
     | none => s)
  | 4 => (s.setEnv q (2 * n) (BitVec.ofNat 32 v)).setEnv q (2 * n + 1) (BitVec.ofNat 32 (v / 2 ^ 32))
  | 5 => (s.putImg (Page.desc q n) (BitVec.ofNat 32 v)).putImg (Page.desc q n + 4) (BitVec.ofNat 32 (v / 2 ^ 32))
  | 6 => { s with sqr.store := s.sqr.store.set 0 (seqNum q (n / 16384) * 16384 + n % 16384) (BitVec.ofNat 64 v) }
  | 7 => { s with rdo.kern := s.rdo.kern.set 0 (q * 262144 + n) (BitVec.ofNat 48 v) }
  | 8 => { s with acq.mask := s.acq.mask.set 0 (q * 2048 + n) (BitVec.ofNat 64 v) }
  | 9 => { s with acq.buf := writeBytes s.acq.buf (q * 2 ^ 24 + 8 * n) (leBytes 8 v) }
  | 10 =>
    let e := (s.dec.tab.get 0 (n / 2)).toNat
    let e := if n % 2 = 0 then e / 2 ^ 64 * 2 ^ 64 + v else e % 2 ^ 64 + v * 2 ^ 64
    { s with dec.tab := s.dec.tab.set 0 (n / 2) (BitVec.ofNat 128 e), dec.bad := s.dec.bad.set false n false }
  | _ => s

/-- Words of the range of a march: a burst of DDR4 is eight. -/
def marchWords (m : March) : Nat × Nat :=
  if m.store < 4 then (8 * m.first, 8 * m.count) else (m.first, m.count)

/-- The words of a march's range after it: those that a whole march leaves, or, of one that stopped early, free. -/
def State.marchFill (s : State) (m : March) (whole : Bool) : State :=
  let r := marchWords m
  (List.range r.2).foldl (fun s i =>
    match (if whole then marchLeaves m (r.1 + i) else none) with
    | some v => s.storePut m (r.1 + i) v
    | none => let x := s.fresh 64; x.1.storePut m (r.1 + i) x.2) s

/-- Operations per word of an algorithm (R421). -/
def marchOps (alg : Nat) : Nat := match alg with | 0 => 5 | 1 => 10 | _ => 14

/-- What refuses a march besides the values of its words (R424). -/
def State.marchBusy (s : State) (store quad : Nat) : Bool :=
  s.mem.march.run || s.on Page.bst F.BST_STATUS_LOGIC_BUSY
    || s.anyPart (fun p => !s.idle p && (store < 4 || 10 ≤ store || s.ownsQuad p quad))

/-- A march starts. -/
def State.marchStart (s : State) (w : Word) (first count : Nat) (owed : Option (Nat × Nat)) : State :=
  let m : March := { run := true, store := wget w 3 0, quad := wget w 5 4, rank := wget w 6 6, alg := wget w 8 7
                     bg := wget w 10 9, stopOnFail := wget w 13 13 = 1, first := first, count := count, owed := owed }
  let s := { s with mem.march := m }
  let s := (s.flag Page.mem F.MEM_STATUS_MARCH_BUSY).p Page.mem F.MEM_MARCH_STATUS_RESULT 0
  (List.range 8).foldl (fun s i => s.setReg (Page.mem + 0x218 + 4 * i) 0) s

/-- What a march reports (R423, R429). -/
def State.marchReport (s : State) (result fails first ops : Nat) (diff : W64) (chk : Nat) : State :=
  let m := s.mem.march
  let s := { s with mem.march := .zero }
  let s := (s.unflag Page.mem F.MEM_STATUS_MARCH_BUSY).p Page.mem F.MEM_MARCH_STATUS_RESULT result
  let s := (s.p Page.mem F.MEM_MARCH_FAILS fails).p64 Page.mem F.MEM_MARCH_OPS_LO ops
  let s := ((s.p64 Page.mem F.MEM_MARCH_FAIL_LO first).p64 Page.mem F.MEM_MARCH_DIFF_LO diff.toNat).p
    Page.mem F.MEM_MARCH_DIFF_CHK_CHECK chk
  s.settle m.owed St.success (result + fails * 2 ^ 32)

/-- A march is stopped: INCOMPLETE; what it had found until then is left open (R423). -/
def State.marchStop (s : State) : State :=
  let m := s.mem.march
  let s := s.marchFill m false
  let (s, f) := s.fresh 32
  let (s, a) := s.fresh 64
  let (s, o) := s.fresh 64
  let (s, d) := s.fresh 72
  if f = 0 then s.marchReport 3 0 0 (o % max 1 (marchOps m.alg * m.count)) 0 0
  else s.marchReport 3 f a (o % max 1 (marchOps m.alg * m.count)) (BitVec.ofNat 64 d) (d / 2 ^ 64)

/-- Range of a march outside its store. -/
def marchRange (store first count : Nat) : Bool := first + count ≤ storeSize store

def cMemMarch : Cmd where
  op := 0x0805
  pf0 := true
  len := fun _ => 5
  bad := fun s p => firstBad [(0, s.badReg p.fn (Page.mem + 0x200) (p.w 0) || wget (p.w 0) 3 0 = 11),
    (1, storeSize (wget (p.w 0) 3 0) ≤ p.w64 1), (3, !marchRange (wget (p.w 0) 3 0) (p.w64 1) (p.w64 3))]
  idle := fun _ _ => true
  chk := fun s p => need (!s.marchBusy (wget (p.w 0) 3 0) (wget (p.w 0) 5 4)) St.badState
  holds := fun _ _ => memHolds
  grps := fun _ => [gid 8 2047]
  run := fun s p =>
    let s := s.putImgs p [(0, Page.mem + 0x200), (1, Page.mem + 0x204), (2, Page.mem + 0x208), (3, Page.mem + 0x20C),
      (4, Page.mem + 0x210)]
    if s.marchBusy (wget (p.w 0) 3 0) (wget (p.w 0) 5 4) then s.finish p (.plain St.badState)
    else s.marchStart (p.w 0) (p.w64 1) (p.w64 3) p.who

/-- MEM_MARCH (R421 to R425): it completes when the march ends. -/
def execMemMarch (p : Pkt) (s : State) : Out := .next (s.command cMemMarch p)

/-- MEM_MARCH_CTRL.START (R424, R429). -/
def State.marchReg (s : State) : State :=
  let w := s.reg (Page.mem + 0x200)
  let a := s.g64 Page.mem F.MEM_MARCH_FIRST_LO
  let n := s.g64 Page.mem F.MEM_MARCH_COUNT_LO
  if wget w 3 0 = 11 ∨ 12 ≤ wget w 3 0 ∨ ¬ marchRange (wget w 3 0) a n ∨ s.marchBusy (wget w 3 0) (wget w 5 4) = true then s
  else s.marchStart w a n none
def execMemMarchCtrlStart (fn : Nat) (s : State) : Out := .next (s.onWrite fn (Page.mem + 0x200) State.marchReg)

def cMemMarchStop : Cmd where
  op := 0x0806
  pf0 := true
  chk := fun s _ => need s.mem.march.run St.badState
  holds := fun _ _ => memHolds
  run := fun s p => (s.when (s.mem.march.run = true) (·.marchStop)).succeed p

/-- MEM_MARCH_STOP (R423, R425). -/
def execMemMarchStop (p : Pkt) (s : State) : Out := .next (s.command cMemMarchStop p)
/-- MEM_MARCH_CTRL.STOP (R423, R429). -/
def execMemMarchCtrlStop (fn : Nat) (s : State) : Out :=
  .next (s.onWrite fn (Page.mem + 0x200) (fun s => s.when (s.mem.march.run = true) (·.marchStop)))

/-- MARCH_END (R423): the march has reached its terminal count, or, with STOP_ON_FAIL, its first mismatch: `fails`
mismatches, the first in word `first` with difference `diff` and check bits `chk`; `ops` operations done. -/
def execMarchEnd (fails first ops : Nat) (diff : BitVec 64) (chk : Nat) (s : State) : Out :=
  .next (if ¬ s.mem.march.run then s else
    let m := s.mem.march
    let all := marchOps m.alg * m.count
    if fails = 0 then (s.marchFill m true).marchReport 1 0 0 all 0 0
    else if m.stopOnFail then (s.marchFill m false).marchReport 2 1 first (min ops all) diff chk
    else (s.marchFill m true).marchReport 2 (min fails 0xFFFFFFFF) first all diff chk)

end Sys2Proof.Machine
end

