-- ==== Sys2Proof/Machine/LogRows.lean ====
section
/-!
DEFINITION. Machine/LogRows.lean: the log's commands, its ring window, and its records in flash (R571, R581 to R592).
-/

namespace Sys2Proof.Machine
open Sys2Proof

/-- The CRC-32 of R600 and R637: the initial value is 0xFFFF_FFFF. -/
def crc32Byte (c : Nat) (b : Byte) : Nat := (List.range 8).foldl (fun c i => crc32Bit c (b.getMsbD i)) c
def crc32 (l : List Byte) : Nat := l.foldl crc32Byte 0xFFFFFFFF

/-- An entry as the eight words of R582. -/
def LogEnt.words (e : LogEnt) : List Word :=
  let t := e.ns % 2 ^ 30 + e.sec % 2 ^ 34 * 2 ^ 30
  let d := e.detail % 2 ^ 48 + e.repeat_ % 2 ^ 16 * 2 ^ 48
  [ BitVec.ofNat 32 e.mtime.toNat, BitVec.ofNat 32 (e.mtime.toNat / 2 ^ 32)
  , BitVec.ofNat 32 t, BitVec.ofNat 32 (t / 2 ^ 32)
  , BitVec.ofNat 32 e.seq
  , BitVec.ofNat 32 (e.cause % 256 + e.kind % 8 * 2 ^ 8 + e.part % 8 * 2 ^ 11 + (if e.wallValid then 2 ^ 14 else 0)
      + (if e.nv then 2 ^ 15 else 0) + e.source % 2 ^ 16 * 2 ^ 16)
  , BitVec.ofNat 32 d, BitVec.ofNat 32 (d / 2 ^ 32) ]

/-- The registers that a LOG command holds (R588). -/
def logHolds : List (Nat × Nat) := [(Page.log, 0x2000)]

/-- Index, count and host address of a fetch of at most `n` items. -/
def fetchBad (n : Nat) (p : Pkt) : Option Nat :=
  firstBad [(0, n ≤ p.n 0), (1, p.n 1 = 0 || n < p.n 1), misaligned p 2]

/-- Entries of `n` ring places from `i` on, wrapping; function `fn` receives those of its own partition, PF0 every one. -/
def State.logEnts (s : State) (fn i n : Nat) : List LogEnt :=
  let l := (List.range n).map (fun k => s.log.ring.get LogEnt.zero ((i + k) % 16384))
  if fn = 0 then l else l.filter (fun e => e.part = fn)

/-- Entries are copied to host memory, packed. -/
def State.putEnts (s : State) (a : Nat) (l : List LogEnt) : State := s.hostWrite a (wordBytes (l.flatMap LogEnt.words))

def cLogFetch : Cmd where
  op := 0x0C00
  len := fun _ => 4
  bad := fun _ p => fetchBad 16384 p
  holds := fun _ _ => logHolds
  grps := fun _ => [gid 10 2047]
  run := fun s p =>
    let l := s.logEnts p.fn (p.n 0) (p.n 1)
    (s.putEnts (p.w64 2) l).succeed p (l.length + (match l with | e :: _ => e.seq | [] => 0) * 2 ^ 32)

/-- LOG_FETCH (R588, R592). -/
def execLogFetch (p : Pkt) (s : State) : Out := .next (s.command cLogFetch p)

/-- The records kept in flash, oldest first (R586). -/
def State.nvEnts (s : State) : List LogEnt :=
  let n := min s.log.nvNext 4096
  (List.range n).map (fun k => s.log.nv.get LogEnt.zero ((s.log.nvNext - n + k) % 4096))

def cLogNvFetch : Cmd where
  op := 0x0C01
  pf0 := true
  len := fun _ => 4
  bad := fun _ p => fetchBad 4096 p
  holds := fun _ _ => logHolds
  grps := fun _ => [gid 10 2047]
  run := fun s p =>
    let l := (s.nvEnts.drop (p.n 0)).take (p.n 1)
    (s.putEnts (p.w64 2) l).succeed p l.length

/-- LOG_NV_FETCH (R588). -/
def execLogNvFetch (p : Pkt) (s : State) : Out := .next (s.command cLogNvFetch p)

/-- The ring is emptied, and LOG_CLEARED is its first entry (R588). -/
def State.logClear (s : State) : State :=
  (({ s with log.ring := [], log.count := 0 }).unflag Page.log F.LOG_STATUS_WRAPPED).logIt
    Cause.logCleared 0 (gid 10 2047) 0

def cLogClear : Cmd where
  op := 0x0C02
  pf0 := true
  holds := fun _ _ => logHolds
  grps := fun _ => [gid 10 2047]
  run := fun s p => s.logClear.succeed p

/-- LOG_CLEAR (R588). -/
def execLogClear (p : Pkt) (s : State) : Out := .next (s.command cLogClear p)

def cFltSafe : Cmd where
  op := 0x0C03
  pf0 := true
  holds := fun _ _ => logHolds
  grps := fun _ => [gid 10 2047]
  run := fun s p => (s.raiseSafe Cause.hostRequest 0 (gid 10 2047) 0).succeed p

/-- FLT_SAFE (R573, R588). -/
def execFltSafe (p : Pkt) (s : State) : Out := .next (s.command cFltSafe p)

/-- Word `k` of ring entry `i`, and its address (R591). -/
def State.logWord (s : State) (i k : Nat) : Word := (s.log.ring.get LogEnt.zero i).words.getD k 0
def logAddr (i k : Nat) : Nat := 0xC80000 + i * 32 + k * 4

/-- A read of word 0 holds words 1 to 7 for the reading function (R591). -/
def State.logRead (s : State) (fn i : Nat) : State :=
  let s := { s with pins.rdata := s.logWord i 0 }
  forEach [1, 2, 3, 4, 5, 6, 7] s (fun s k =>
    { s with heldRd := s.heldRd.set 0 (holdKey fn (logAddr i k)) (s.logWord i k) })

/-- LOG_ENTRY_READ (R591). -/
def execLogEntryRead (fn i : Nat) (s : State) : Out :=
  .next (if i < 16384 then s.onRead fn (logAddr i 0) (·.logRead fn i) else s)

/-- A record enters the store: over the oldest one once 4,096 are kept (R586). -/
def State.nvStore (s : State) (e : LogEnt) : State :=
  let s := s.when (4096 ≤ s.log.nvNext) (·.bump Page.log F.LOG_NV_OVERWRITES)
  { s with log.nv := s.log.nv.set LogEnt.zero (s.log.nvNext % 4096) e, log.nvNext := s.log.nvNext + 1 }.bump
    Page.log F.LOG_NV_COUNT

/-- The oldest flash write that waits is over: NV_BUSY holds while others wait (R589). -/
def State.flashPop (s : State) : State :=
  let s := { s with log.flashQ := s.log.flashQ.drop 1, log.retried := false }
  s.when (s.log.flashQ = []) (·.unflag Page.log F.LOG_STATUS_NV_BUSY)

/-- A flash write succeeds, or fails: it is retried once, and then lost (R571, R586). -/
def State.flashWrite (s : State) (ok : Bool) : State :=
  match s.log.flashQ with
  | [] => s
  | w :: _ =>
    if ok then
      (match w with
       | .inl r => { s with log.retired := s.log.retired ++ [r] }
       | .inr e => s.nvStore e).flashPop
    else if s.log.retried then (s.flag Page.log F.LOG_STATUS_NV_FAIL).flashPop
    else { s with log.retried := true }

/-- NV_RECORD_WRITE (R571, R586). -/
def execNvRecordWrite (ok : Bool) (s : State) : Out := .next (if s.pwr.input then s.flashWrite ok else s)

/-! ### The console (R678) -/

/-- The upper-case hexadecimal digit of a number below 16. -/
def hexDigit (n : Nat) : Byte := BitVec.ofNat 8 (if n < 10 then 48 + n else 55 + n)
/-- The decimal digits of a number of at most `k` digits. -/
def decDigits : Nat → Nat → List Byte
  | 0, _ => []
  | k + 1, n => (if n < 10 then [] else decDigits k (n / 10)) ++ [BitVec.ofNat 8 (48 + n % 10)]
def crlf : List Byte := [13, 10]
/-- The line of an entry: its 32 bytes in hexadecimal. -/
def LogEnt.line (e : LogEnt) : List Byte :=
  (wordBytes e.words).flatMap (fun b => [hexDigit (b.toNat / 16), hexDigit (b.toNat % 16)]) ++ crlf
/-- The line "#DROPPED n". -/
def lostLine (n : Nat) : List Byte := [35, 68, 82, 79, 80, 80, 69, 68, 32] ++ decDigits 20 n ++ crlf
/-- Ten bits a character at 115,200 baud, in T_exp units. -/
def uartTime (chars : Nat) : Nat := (chars * 160000000000 + 115199) / 115200

/-- The console sends its next line once the last one has ended; lines that are more than 100 ms late are dropped. -/
def State.uartStep (s : State) : State :=
  if s.now < s.log.uartEnd then s
  else
    let late := s.log.uartQ.takeWhile (fun x => decide (x.1 + msecs 100 < s.now))
    let lost := s.log.uartLost + late.length
    match s.log.uartQ.drop late.length with
    | [] => { s with log.uartQ := [], log.uartLost := lost }
    | (_, e) :: l =>
      let b := (if lost = 0 then [] else lostLine lost) ++ e.line
      { s with log.uartQ := l, log.uartLost := 0, log.uart := b, log.uartEnd := s.now + uartTime b.length }

end Sys2Proof.Machine
end

