-- ==== Sys2Proof/Machine/PowRows.lean ====
section
/-!
DEFINITION. Machine/PowRows.lean: the power governor's events (R612 to R620), the bank sequence, the wake and SAFE exit
(R576, R621 to R625), settings saves (R628), the commands of R638, and the temperature sensors (R632 to R637).
-/

namespace Sys2Proof.Machine
open Sys2Proof

/-- The registers that a PWR or THM command holds (R638). -/
def pwrHolds : List (Nat × Nat) := [(Page.pwr, 0x100), (Page.thm, 0x300)]

/-- The converters and the base load are powered: the governor governs. -/
def State.governs (s : State) : Bool := s.pwr.mode = .ready || (s.pwr.mode = .safe && !s.pwr.deep)

/-! ### The envelope (R612, R613) -/

/-- E as published, in 0.01 W. -/
def State.limitE (s : State) : Nat := 10 * s.g Page.pwr F.PWR_ENVELOPE_ENVELOPE

/-- The restore condition of channel `c` (R619). -/
def State.restoreOk (s : State) (c : Nat) : Bool := s.committed + kindCharge (chanKind c) + 500 ≤ s.limitE

/-- The time for which the condition of the next channel to restore has held goes on, begins or ends. -/
def State.watchRestore (s : State) : State :=
  match s.pwr.shed with
  | [] => { s with pwr.okAt := none, pwr.restoring := false }
  | c :: _ =>
    if s.restoreOk c then (if s.pwr.okAt = none then { s with pwr.okAt := some s.now } else s)
    else { s with pwr.okAt := none, pwr.restoring := false }

/-- E is computed from what has been measured; an episode of shedding ends when the charges fit (R613, R616). -/
def State.govern (s : State) : State :=
  let s := s.p Page.pwr F.PWR_ENVELOPE_ENVELOPE s.envelope
  let s := if s.committed ≤ s.limitE then { s with pwr.episode := false } else s
  s.watchRestore

/-- The time for which a condition of the input has held goes on, begins or ends (R612, R620). -/
def State.since (s : State) (held : Option Nat) (now : Bool) : Option Nat :=
  if now then (match held with | some t => some t | none => some s.now) else none

/-- The input's voltage is measured (R612). -/
def State.inputTake (s : State) (vin : Nat) : State :=
  { s with pwr.vin := vin, pwr.takenAt := some s.now
           pwr.inRange := s.since s.pwr.inRange (decide (900 ≤ vin ∧ vin ≤ 6000))
           pwr.outRange := s.since s.pwr.outRange (decide (vin < 850 ∨ 6100 < vin)) }

/-- ENVELOPE_UPDATE (R612, R613), every 10 µs: voltage in 10 mV and current in 10 mA; how the power measured follows is left open. -/
def execEnvelopeUpdate (vin iin : Nat) (s : State) : Out :=
  .next (if ¬ s.pwr.input ∨ ¬ s.due s.pwr.takenAt (usecs 10) then s else
    let v := (s.inputTake vin).fresh 16
    let s := ((v.1.p Page.pwr F.PWR_VIN_VIN vin).p Page.pwr F.PWR_IIN_IIN iin).p Page.pwr F.PWR_MEASURED_MEASURED v.2
    let s := s.p Page.pwr F.PWR_STATUS_OVER_RANGE (if 6000 < vin ∧ vin ≤ 6100 then 1 else 0)
    s.govern)

/-! ### INPUT_FAIL (R620) -/

/-- The converters power down 1 ms later, and bias outputs ramp to the safe value (R637). -/
def State.convShut (s : State) : State :=
  if s.pwr.mode = .off ∨ s.pwr.mode = .banked ∨ s.pwr.deep then s
  else { s.biasAllDown with pwr.convDue := some (s.now + msecs 1) }

/-- INPUT_FAIL is raised, once while its PENDING bit stands. -/
def State.failInput (s : State) : State :=
  if s.safePending / 2 ^ 4 % 2 = 1 then s
  else
    let s := s.flag Page.pwr F.PWR_EVENTS_INPUT_FAIL
    (s.raiseSafe Cause.inputFail 0 (gid 4 2047) 0).convShut

/-- Whether a condition has held for `n` units. -/
def State.heldFor (s : State) (t : Option Nat) (n : Nat) : Bool :=
  match t with | some t => decide (t + n ≤ s.now) | none => false

/-- INPUT_FAIL (R612, R620): the input has lain outside its limits for 1 ms. -/
def execInputFail (s : State) : Out :=
  .next (if s.pwr.input ∧ s.heldFor s.pwr.outRange (msecs 1) = true then s.failInput else s)

/-- INPUT_RECOVERED (R620): the input has stayed within 9 V to 60 V for 100 ms. -/
def execInputRecovered (s : State) : Out :=
  .next (if s.pwr.input ∧ s.heldFor s.pwr.inRange (msecs 100) = true then s.clearPending 4 else s)

/-! ### Shedding and restoring (R616 to R619) -/

/-- A step of the governor is at least 10 µs after the last one. -/
def State.stepDue (s : State) : Bool := s.due s.pwr.stepAt (usecs 10)

/-- The cause of an episode (R616): the smallest term of R613. -/
def State.episodeCause (s : State) : State :=
  let t := s.g Page.thm F.THM_CAP_CAP
  let c := 35 * s.pwr.vin / 10
  let p := s.capW
  let d := s.g Page.thm F.THM_STATUS_HOTTEST + s.g Page.thm F.THM_MAX_MAX * 2 ^ 8
  if t ≤ c ∧ t ≤ p then s.logIt Cause.thermalThrottle 0 (gid 4 2047) d
  else if c ≤ p then (s.flag Page.pwr F.PWR_EVENTS_INPUT_SAG).logIt Cause.inputSag 0 (gid 4 2047) 0
  else s

/-- SHED_STEP (R616 to R618). -/
def execShedStep (s : State) : Out :=
  .next (if ¬ s.governs ∨ s.committed ≤ s.limitE ∨ ¬ s.stepDue then s else
    let s := if s.pwr.episode then s else { s with pwr.episode := true }.episodeCause
    let s := { s with pwr.stepAt := some s.now, pwr.restoring := false, pwr.okAt := none }
    match s.nextShed with
    | some c => (s.shedChan c).acqSweep
    | none => s.failInput)

/-- RESTORE_STEP (R619). -/
def execRestoreStep (s : State) : Out :=
  .next (if ¬ s.governs ∨ s.limitE < s.committed ∨ ¬ s.stepDue then s else
    match s.pwr.shed with
    | [] => s
    | c :: _ =>
      if ¬ s.restoreOk c then { s with pwr.okAt := none, pwr.restoring := false }
      else
        let long : Bool := match s.pwr.okAt with | some t => t + secs 1 ≤ s.now | none => false
        if s.pwr.restoring ∨ long then
          ({ s.unshedChan c with pwr.stepAt := some s.now, pwr.restoring := true }).watchRestore
        else s)

/-! ### The bank sequence (R621, R623) -/

/-- What keeps the module from BANKED (R621). -/
def State.bankRefused (s : State) : Bool :=
  s.modeNum ≠ 2 || s.anyBusyPart || s.pwr.busy ≠ .none
    || (List.range 32).any (fun u => s.g (Page.cu u) F.ACQ_CU_STATUS_STATE ∈ [1, 2, 3, 5])
    || s.hrt.ctx.any (fun c => c.2.st ≠ 0)

/-- Running slice tests give way: the tested slices return. -/
def State.slicesBack (s : State) : State :=
  forEach (List.range 48) s (fun s g =>
    let s := s.sliceAbandon g
    if s.spState g ≠ 4 then s
    else if s.serves g ∈ (s.spare g).held then s.setSp g 2  -- a datapath held out of service does not return (R569)
    else s.spareReturn g none)

/-- Outputs ramp down and monitor bursts end: the first step of the bank sequence, of an orderly shutdown and of the
disable sequence. -/
def State.rampAll (s : State) : State :=
  let s := s.flxAllDown.biasAllDown
  let s := forEach ((s.bm.mon.map (·.1)).filter (fun m => (s.mon m).run)) s State.monStop
  s.slicesBack

/-- The bank sequence begins. -/
def State.bankStart (s : State) (owed : List (Nat × Nat)) : State :=
  ({ s with pwr.busy := .bank, pwr.owed := owed }).rampAll.lanesApply

def cPwrBank : Cmd where
  op := 0x0400
  pf0 := true
  idle := fun _ _ => true
  chk := fun s _ => need (!s.bankRefused) St.badState
  rej := fun s _ f => if f.status = St.badState then s.flag Page.pwr F.PWR_EVENTS_BANK_REFUSED else s
  holds := fun _ _ => pwrHolds
  grps := fun _ => [gid 4 2047]
  run := fun s p => s.bankStart [(p.sq, p.tag)]

/-- PWR_BANK (R621, R623): it completes at BANK_COMPLETE. -/
def execPwrBank (p : Pkt) (s : State) : Out := .next (s.command cPwrBank p)

def pwrCtrlAt : Nat := Page.pwr + 0x28

/-- PWR_CTRL.BANK: the same, in an internal context. -/
def State.bankReg (s : State) : State :=
  if s.bankRefused then s.flag Page.pwr F.PWR_EVENTS_BANK_REFUSED
  else
    let s := match s.freeSlot 16 4 with
      | some k => s.takeCtx k { st := 1, internal := true, op := 0x0400, tag := 0, sq := 0, groups := [gid 4 2047], holds := pwrHolds }
      | none => s
    s.bankStart []

/-- PWR_CTRL.BANK (R621, R639). -/
def execPwrCtrlBank (fn : Nat) (s : State) : Out := .next (s.onWrite fn pwrCtrlAt State.bankReg)

/-- No spare copies. -/
def State.copiesOver (s : State) : Bool := (List.range 48).all (fun g => !(s.spState g ∈ [1, 3]))

/-- The sequencers' stores hold nothing (R185). -/
def State.storesOff (s : State) : State :=
  let s := forEach (s.sqr.seq.map (·.1)) s (fun s q => s.setSq q { s.sqs q with a := .empty, b := .empty })
  { s with sqr.store := [] }

/-- What loses its power or its contents in BANKED: converters and main PLL, sequencer stores and the acquisition
buffer. -/
def State.bankOff (s : State) : State :=
  let s := (s.unflag Page.tim F.TIM_STATUS_PLL_LOCK).unflag Page.tim F.TIM_STATUS_ALIGNED
  let s := forEach s.biasList s State.biasOff
  let s := s.unflag Page.mem F.MEM_STATUS_INIT_DONE
  { s.convDown.storesOff with acq.buf := [], mem.initLeft := [6, 9] }

def cPwrWake : Cmd where
  op := 0x0401
  chk := fun s _ => need (s.modeNum ≠ 5) St.badState
  holds := fun _ _ => pwrHolds
  grps := fun _ => [gid 4 2047]
  run := fun s p => if s.pwr.mode = .safe then s.finish p (.plain St.badState) else s.succeed p

/-- A PWR_WAKE packet that waits goes on to execution, in a context that holds its function (R17, R513, R638). -/
def State.wakeBegin (s : State) (p : Pkt) : State :=
  let s := s.begin cPwrWake p
  match markFirst p.sq p.tag (fun sl => { sl with begun := true }) s.hif.slots with
  | some l => { s with hif.slots := l }
  | none => s
/-- PWR_WAKE packets that wait go on to execution (R623). -/
def State.wakesWaiting (s : State) : State :=
  let ws := (s.hif.slots.filter (fun sl => sl.st = .waiting && sl.p.op = 0x0401)).map (·.p)
  { ws.foldl State.wakeBegin s with pwr.owed := ws.map (fun p => (p.sq, p.tag)) }

/-- The bank's own context, if it runs in one. -/
def State.bankCtx (s : State) : Option Nat :=
  (List.range' 16 4).find? (fun c => (s.hctx c).internal && (s.hctx c).op = 0x0400)
/-- The module is BANKED: the commands that wait for it succeed. -/
def State.bankDone (s : State) : State :=
  let s := s.bankOff
  let s := match s.bankCtx with | some c => s.freeCtx c | none => s
  let owed := s.pwr.owed
  let s := ({ s with pwr.busy := .none, pwr.owed := [] }).settleAll owed St.success
  ({ s with pwr.mode := .banked }).settleMode
/-- A wake that was asked for meanwhile begins (R623). -/
def State.bankWakes (s : State) : State :=
  let s := s.wakesWaiting
  if s.pwr.owed ≠ [] then s.startWake else s

/-- BANK_COMPLETE (R420, R623): the last ramp has ended. -/
def execBankComplete (s : State) : Out :=
  .next (if s.pwr.busy ≠ .bank ∨ ¬ s.rampsOver ∨ ¬ s.monsOver ∨ ¬ s.copiesOver then s else
    s.bankDone.bankWakes)

/-! ### The wake (R70, R621, R625) -/

/-- PWR_WAKE (R625). -/
def execPwrWake (p : Pkt) (s : State) : Out := .next (s.command cPwrWake p)

/-- PWR_CTRL.WAKE (R621, R639). -/
def execPwrCtrlWake (fn : Nat) (s : State) : Out := .next (s.onWrite fn pwrCtrlAt State.startWake)

/-- WAKE_EVENT (R557, R621). -/
def execWakeEvent (ch : Nat) (s : State) : Out := .next (if ch < 256 ∧ s.wakes ch = true then s.startWake else s)

/-- BANKED_DOORBELL (R622, R625): numbers from 64 on are completion queues. -/
def execBankedDoorbell (fn n : Nat) (v : Word) (s : State) : Out :=
  .next (if n < 128 ∧ s.pwr.mode = .banked then
      s.onWrite fn (if n < 64 then Page.db n else Page.db (n - 64) + 4) (fun s =>
        ({ s with pwr.doorbells := s.pwr.doorbells ++ [(fn, n, wget v 15 0)] }).startWake)
    else s)

/-- The wake ends in READY: held doorbells take effect, and bias outputs restore. -/
def State.wakeDone (s : State) : State :=
  let owed := s.pwr.owed
  let s := s.wakeUp
  let s := { s with pwr.mode := .ready, pwr.busy := .none, pwr.owed := [] }
  (s.lanesApply.settleMode.settleAll owed St.success).ringHeld.autoRestore

/-- WAKE_COMPLETE (R70, R420, R576): the alignment and the initialisation of the stores are over. -/
def execWakeComplete (s : State) : Out :=
  .next (if s.pwr.busy ≠ .wake ∨ s.tim.tries.isSome ∨ s.mem.initLeft ≠ [] ∨ ¬ s.refOk ∨ ¬ s.on Page.tim F.TIM_STATUS_ALIGNED then s
    else if s.pwr.safeExit.isSome then s.exitSafe else s.wakeDone)

/-! ### Leaving SAFE (R576) -/

/-- An accepted PWR_SAFE_EXIT. -/
def State.safeExitGo (s : State) (who : Option (Nat × Nat)) : State :=
  let s := (s.clearPending 2).clearPending 6
  let s := { s with pwr.safeExit := who }
  if s.pwr.deep then s.wakeSteps
  else
    -- after a shutdown the converters power up as in the wake (R621)
    let s := if s.pwr.convOn then s else s.convUp.flxAllUp
    if s.safePending / 2 % 2 = 1 then s.alignStart else s.exitSafe

def cPwrSafeExit : Cmd where
  op := 0x0402
  pf0 := true
  chk := fun s _ => need (s.pwr.mode = .safe && s.safePending &&& 0x39 = 0 && s.pwr.busy = .none) St.badState
  holds := fun _ _ => pwrHolds
  grps := fun _ => [gid 4 2047]
  run := fun s p => if s.pwr.mode = .safe then s.safeExitGo p.who else s.finish p (.plain St.badState)

/-- PWR_SAFE_EXIT (R576). -/
def execPwrSafeExit (p : Pkt) (s : State) : Out := .next (s.command cPwrSafeExit p)

/-! ### Settings (R628) -/

/-- The settings are written into the flash slot that is not the newest. -/
def State.saveSettings (s : State) : State :=
  let n := (s.pwr.flash.head?.map (·.1)).getD 0
  ({ s with pwr.flash := (n + 1, s.pwr.ret) :: s.pwr.flash.take 1, pwr.changedAt := none }).bump Page.pwr F.PWR_SAVES

def cPwrSettingsSave : Cmd where
  op := 0x0404
  pf0 := true
  holds := fun _ _ => pwrHolds
  grps := fun _ => [gid 4 2047]
  run := fun s p => s.saveSettings.succeed p

/-- PWR_SETTINGS_SAVE (R628). -/
def execPwrSettingsSave (p : Pkt) (s : State) : Out := .next (s.command cPwrSettingsSave p)

/-- PWR_CTRL.SAVE (R628, R639). -/
def execPwrCtrlSave (fn : Nat) (s : State) : Out := .next (s.onWrite fn pwrCtrlAt State.saveSettings)

/-- AUTOSAVE (R628): so many minutes after the change of a retained field. -/
def execAutosave (s : State) : Out :=
  .next (if s.pwr.mode = .off then s else
    let n := s.g Page.pwr F.PWR_CFG_AUTOSAVE
    match s.pwr.changedAt with
    | some t => if n ≠ 0 ∧ t + secs (60 * n) ≤ s.log.mtime.toNat then s.saveSettings else s
    | none => s)

/-- A command that writes one register image. -/
def imgCmd (op a : Nat) (after : State → State) : Cmd where
  op := op
  pf0 := true
  len := fun _ => 1
  bad := fun s p => s.badImgs p [(0, a)]
  holds := fun _ _ => pwrHolds
  grps := fun _ => [gid 4 2047]
  run := fun s p => (after (s.putImg a (p.w 0))).succeed p

/-- PWR_CAP_SET (R613, R638). -/
def execPwrCapSet (p : Pkt) (s : State) : Out := .next (s.command (imgCmd 0x0405 (Page.pwr + 0x1C) State.govern) p)
/-- PWR_SHED_RANK_SET (R617, R638). -/
def execPwrShedRankSet (p : Pkt) (s : State) : Out := .next (s.command (imgCmd 0x0406 (Page.pwr + 0x24) id) p)
/-- PWR_CFG_SET (R638). -/
def execPwrCfgSet (p : Pkt) (s : State) : Out := .next (s.command (imgCmd 0x0407 (Page.pwr + 0x20) id) p)

def cThmSnapshotFetch : Cmd where
  op := 0x0408
  pf0 := true
  len := fun _ => 4
  bad := fun _ p => fetchBad 8 p
  holds := fun _ _ => pwrHolds
  grps := fun _ => [gid 4 2047]
  run := fun s p =>
    let l := (s.thm.snaps.drop (p.n 0)).take (p.n 1)
    (s.hostWrite (p.w64 2) (wordBytes (l.flatMap id))).succeed p l.length

/-- THM_SNAPSHOT_FETCH (R637, R638). -/
def execThmSnapshotFetch (p : Pkt) (s : State) : Out := .next (s.command cThmSnapshotFetch p)

/-! ### Temperature (R632 to R637) -/

/-- The class of a sensor (R632). -/
def sensorClass (n : Nat) : Nat := if n < 76 then 0 else if n < 84 then 1 else if n < 92 then 2 else if n < 94 then 3 else 4
/-- The threshold of level `l` of a class, in 0.1 °C (R634). -/
def threshold (cls l : Nat) : Option Int :=
  match cls, l with
  | 0, 1 => some 950 | 0, 2 => some 1050 | 0, 3 => some 1150
  | 1, 1 => some 850 | 1, 2 => some 900
  | 2, 1 => some 1000 | 2, 2 => some 1100
  | 3, 1 => some 450 | 4, 1 => some 700
  | _, _ => none
def classSensors (cls : Nat) : List Nat := (List.range 96).filter (fun n => sensorClass n = cls)

/-- A broken sensor (R635): an open or shorted one reads outside the range. -/
def broken (t : Int) : Bool := t < -400 || 1500 < t
def State.tempOf (s : State) (n : Nat) : Int := s.thm.temp.get 0 n
def State.levelOf (s : State) (cls : Nat) : Nat := s.thm.level.get 0 cls
/-- A sensor reads at or above level `l`, less `h`. -/
def State.reaches (s : State) (l : Nat) (h : Int) (n : Nat) : Bool :=
  match threshold (sensorClass n) l with | some t => t - h ≤ s.tempOf n | none => false

/-- One sensor's reading is taken (R633, R635). -/
def State.sensorTake (s : State) (n : Nat) (t : Int) : State :=
  let b := broken t
  let v := if b then 1500 else t
  let was := s.on (Page.sensor n) F.THM_SENSOR_BROKEN
  let s := { s with thm.temp := s.thm.temp.set 0 n v }
  let s := (s.p (Page.sensor n) F.THM_SENSOR_TEMP (BitVec.ofInt 16 v).toNat).p (Page.sensor n) F.THM_SENSOR_BROKEN (if b then 1 else 0)
  if b ∧ ¬ was then
    (s.flag Page.thm F.THM_EVENTS_SENSOR_BROKEN).logIt Cause.sensorBroken 0 (gid 4 2047) (n + (BitVec.ofInt 16 v).toNat * 2 ^ 8)
  else s

/-- The snapshot of R637, of 64 words. -/
def State.snapshot (s : State) (n : Nat) : List Word :=
  let t := s.wallNs % 2 ^ 30 + s.wallSec % 2 ^ 34 * 2 ^ 30
  let half := fun k => (BitVec.ofInt 16 (s.tempOf k)).toNat
  let ws := [BitVec.ofNat 32 s.log.mtime.toNat, BitVec.ofNat 32 (s.log.mtime.toNat / 2 ^ 32), BitVec.ofNat 32 t,
      BitVec.ofNat 32 (t / 2 ^ 32), BitVec.ofNat 32 n, 0, 0, 0]
    ++ (List.range 48).map (fun k => BitVec.ofNat 32 (half (2 * k) + half (2 * k + 1) * 2 ^ 16)) ++ List.replicate 7 (0 : Word)
  ws ++ [BitVec.ofNat 32 (crc32 (wordBytes ws))]

/-- THM_CAP on entry into a throttle level (R636). -/
def State.throttle (s : State) : State :=
  let c := min (s.g Page.thm F.THM_CAP_CAP) (s.committed / 10) - 560
  ({ s.p Page.thm F.THM_CAP_CAP (max 1400 c) with thm.capAt := s.now }).govern

/-- A class enters level `l`: `n` is the sensor (R634, R636, R637). -/
def State.levelEnter (s : State) (cls l n : Nat) : State :=
  let d := n + (BitVec.ofInt 16 (s.tempOf n)).toNat * 2 ^ 8
  match l with
  | 1 =>
    let s := (s.flag Page.thm F.THM_EVENTS_WARNING).logIt Cause.thermalWarning 0 (gid 4 2047) d
    if cls = 0 then s.publishSrc 655 else s
  | 2 => ((s.flag Page.thm F.THM_EVENTS_THROTTLE).logIt Cause.thermalThrottle 0 (gid 4 2047) d).throttle
  | _ =>
    let s := s.flag Page.thm F.THM_EVENTS_SHUTDOWN
    let s := (s.raiseSafe Cause.thermalShutdown 0 (gid 4 2047) d).convShut
    { s with thm.snaps := (s.snapshot n :: s.thm.snaps).take 8 }.bump Page.thm F.THM_SNAPSHOTS

/-- One level of a class is evaluated: entered, held or left. -/
def State.levelEval (s : State) (cls l : Nat) : State :=
  let cur := s.levelOf cls
  if cur < l then
    match (classSensors cls).find? (s.reaches l 0) with
    | some n => ({ s with thm.level := s.thm.level.set 0 cls l }).levelEnter cls l n
    | none => s
  else s

/-- The highest level, at most `n`, that some sensor of a class still holds. -/
def State.levelHold (s : State) (cls : Nat) : Nat → Nat
  | 0 => 0
  | n + 1 => if (classSensors cls).any (s.reaches (n + 1) 50) then n + 1 else s.levelHold cls n

/-- A class is evaluated: levels that every sensor has left end, and then levels are entered from below. -/
def State.classEval (s : State) (cls : Nat) : State :=
  let was := s.levelOf cls
  let s := { s with thm.level := s.thm.level.set 0 cls (s.levelHold cls was) }
  forEach [1, 2, 3] s (fun s l => s.levelEval cls l)

/-- Some class is at its throttle level. -/
def State.throttled (s : State) : Bool := [0, 1, 2, 3, 4].any (fun k => 2 ≤ s.levelOf k)

/-- The hottest of a list of sensors. -/
def State.hottest (s : State) : List Nat → Nat
  | [] => 0
  | [n] => n
  | n :: l => let m := s.hottest l; if s.tempOf m ≤ s.tempOf n then n else m

/-- THM_STATUS, THM_MAX and the level each sensor holds (R641, R642). -/
def State.thmShow (s : State) : State :=
  let h := s.hottest (classSensors 0)
  let lv := [0, 1, 2, 3, 4].foldl (fun m c => max m (s.levelOf c)) 0
  let s := (s.p Page.thm F.THM_STATUS_LEVEL lv).p Page.thm F.THM_STATUS_HOTTEST h
  let s := s.p Page.thm F.THM_STATUS_FAST (if (classSensors 0).any (fun n => 950 ≤ s.tempOf n) then 1 else 0)
  let s := s.p Page.thm F.THM_STATUS_BROKEN_ANY
    (if (List.range 96).any (fun n => s.on (Page.sensor n) F.THM_SENSOR_BROKEN) then 1 else 0)
  let s := s.p Page.thm F.THM_MAX_MAX (BitVec.ofInt 16 (s.tempOf h)).toNat
  forEach (List.range 96) s (fun s n =>
    let c := s.levelOf (sensorClass n)
    let l := if 3 ≤ c ∧ s.reaches 3 50 n then 3 else if 2 ≤ c ∧ s.reaches 2 50 n then 2
      else if 1 ≤ c ∧ s.reaches 1 50 n then 1 else 0
    s.p (Page.sensor n) F.THM_SENSOR_LEVEL l)

/-- Readings of sensors 0 on are taken. -/
def State.sensorsTake (s : State) : Nat → List Int → State
  | _, [] => s
  | n, t :: l => (if n < 96 then s.sensorTake n t else s).sensorsTake (n + 1) l

/-- The time between two samples of the sensors (R633). -/
def State.samplePace (s : State) : Nat := if s.on Page.thm F.THM_STATUS_FAST then msecs 1 else msecs 10

/-- THERMAL_SAMPLE (R633 to R637): the readings in 0.1 °C. -/
def execThermalSample (temps : List Int) (s : State) : Out :=
  .next (if ¬ s.pwr.input ∨ ¬ s.due s.thm.readAt s.samplePace then s else
    let s := { s with thm.readAt := some s.now }.sensorsTake 0 temps
    let was := s.throttled
    let s := forEach [0, 1, 2, 3, 4] s State.classEval
    let s := if was ∧ ¬ s.throttled then { s with thm.capAt := s.now } else s
    let s := s.thmShow
    if (classSensors 0).all (fun n => decide (s.tempOf n < 1100)) then s.clearPending 3 else s)

/-- THM_CAP_STEP (R636). -/
def execThmCapStep (s : State) : Out :=
  .next (if ¬ s.pwr.input then s else
    let c := s.g Page.thm F.THM_CAP_CAP
    if s.throttled then
      (if s.thm.capAt + msecs 100 ≤ s.now then
        ({ s.p Page.thm F.THM_CAP_CAP (max 1400 (c - 560)) with thm.capAt := s.now }).govern else s)
    else if c < 5600 ∧ s.thm.capAt + secs 1 ≤ s.now then
      ({ s.p Page.thm F.THM_CAP_CAP (min 5600 (c + 560)) with thm.capAt := s.now }).govern
    else s)

/-! ### SAFE causes (R573, R574) -/

/-- Module causes of R565 that are permanent faults. -/
def moduleCauses : List Nat :=
  [Cause.memChannelLost, Cause.memSpareRows, Cause.asicLost, Cause.hearthRom]

/-- SAFE_ENTRY (R573 to R575): a cause arises. Which ASIC or channel is lost is left open. -/
def execSafeEntry (cause : Nat) (s : State) : Out :=
  .next (if ¬ s.pwr.input then s
    else if cause = Cause.refLost then s.refFall
    else if cause = Cause.thermalShutdown then (s.raiseSafe cause 0 (gid 4 2047) 0).convShut
    else if cause = Cause.alignFail ∨ cause = Cause.hostRequest then
      s.raiseSafe cause 0 (gid (if cause = Cause.alignFail then 3 else 10) 2047) 0
    else if cause = Cause.inputFail then s.failInput
    else if cause = Cause.twinNotInStep then s.raiseSafe cause 0 (gid 7 40) 0
    else if cause ∈ moduleCauses then
      let v := s.fresh 6
      let d := if cause = Cause.asicLost then v.2 % 5 else if cause = Cause.memChannelLost then v.2 else 0
      let b := if cause = Cause.asicLost then 9 else if cause = Cause.hearthRom then 0 else 8
      v.1.moduleFault cause (gid b 2047) d
    else s)

end Sys2Proof.Machine
end

