-- ==== Sys2Proof/Machine/IntOps.lean ====
section
/-!
DEFINITION. Machine/IntOps.lean: the interrupt controller (R520 to R532) and Hearth's traps and contexts (R510 to R518).
-/

namespace Sys2Proof.Machine
open Sys2Proof

/-! ### Sources (R520 to R522) -/

/-- Edge sources. -/
def isEdge (n : Nat) : Bool := (768 ≤ n && n ≤ 836) || (864 ≤ n && n ≤ 991) || 1010 ≤ n

/-- A W1C bit of the register at `a` is set. -/
def State.w1cSet (s : State) (a : Nat) : Bool := (s.reg a &&& rowAcc .w1c (fieldsAt a)) ≠ 0
/-- A W1C bit of some register from `lo` up to `hi` is set. -/
def State.anyW1c (s : State) (lo hi : Nat) : Bool :=
  s.regs.any (fun e => lo ≤ e.1 && e.1 < hi && s.w1cSet e.1)

/-- Any W1C bit of SEQ_STATUS or SEQ_FLAGS of sequencer `q`. -/
def State.seqW1c (s : State) (q : Nat) : Bool :=
  s.w1cSet (Page.seq q + F.SEQ_STATUS_STATE.off) || s.w1cSet (Page.seq q + F.SEQ_FLAGS_COND_OVERWRITE.off)

/-- The block of sources 992 to 1001: its range of registers. -/
def intBlock (n : Nat) : Nat × Nat :=
  match n with
  | 992 => (0x800000, 0xA00000)
  | 993 => (0x600000, 0x700000)
  | 994 => (0xC00000, 0x1000000)
  | 995 => (0xA00000, 0xC00000)
  | 996 => (0x400000, 0x408000)
  | 997 => (0x408000, 0x500000)
  | 998 => (0x500000, 0x600000)
  | 999 => (0, 0x100000)
  | 1000 => (0x100000, 0x200000)
  | _ => (0x200000, 0x300000)

/-- SWAP_REFUSED is set in a spare group of quadrant `q`. -/
def State.swapRefusedIn (s : State) (q : Nat) : Bool :=
  (List.range 48).any (fun g => Page.spare g / 0x400000 = Page.quad q / 0x400000
    && s.on (Page.spare g) F.DRV_SPARE_STATUS_SWAP_REFUSED)

/-- The live condition of level source `n` (R520). -/
def State.intLevel (s : State) (n : Nat) : Bool :=
  if n < 128 then
    s.w1cSet (Page.drv n + F.DRV_STATUS_ON_SPARE.off) || s.w1cSet (Page.flx n + F.FLX_STATUS_ON_SPARE.off) || s.seqW1c n
  else if n < 160 then
    let m := n - 128
    s.w1cSet (Page.rdo m + F.DRV_STATUS_ON_SPARE.off) || s.w1cSet (Page.rdo m + F.RDO_ADC_STATUS_ON_SPARE.off) || s.seqW1c n
      || (List.range 32).any (fun j => s.w1cSet (Page.tone (32 * m + j) + F.TONE_STATUS_WIN_OPEN.off))
  else if n < 192 then
    s.w1cSet (Page.cu (n - 160) + F.ACQ_CU_STATUS_STATE.off) || s.g (Page.cu (n - 160)) F.ACQ_CU_STATUS_STATE ∈ [4, 6]
  else if n < 256 then
    s.w1cSet (Page.mon (n - 192) + F.MON_STATUS_SHED.off) || s.on (Page.mon (n - 192)) F.MON_DATA_LO_VALID
  else if n < 768 then s.w1cSet (Page.bias (n - 256) + F.BIAS_STATUS_SHED.off)
  else if isEdge n then false
  else if n < 846 then (s.reg (Page.tim + F.TIM_EVENTS_REF_LOST.off)).getLsbD (n - 837)
  else if n < 855 then (s.reg (Page.fab + F.FAB_EVENTS_PORT_DOWN.off)).getLsbD (n - 846)
  else if n < 863 then
    let p := n - 855
    s.on (Page.port p) F.FAB_PORT_CTRL_ENABLE && (List.range 4).any (fun i =>
      s.on (Page.lane (4 * p + i)) F.FAB_LANE_STATUS_LOS || s.on (Page.lane (4 * p + i)) F.FAB_LANE_STATUS_LOL)
  else if n = 863 then s.w1cSet (Page.dec + F.DEC_STATUS_ROLE.off)
  else if n < 1002 then let b := intBlock n; s.anyW1c b.1 b.2
  else if n < 1006 then
    let pg := Page.memCh (n - 1002)
    s.on pg F.MEM_CH_STATUS_FAILED || s.g pg F.MEM_CH_STATUS_RANK0 ≠ 0 || s.g pg F.MEM_CH_STATUS_RANK1 ≠ 0
  else if n < 1010 then s.swapRefusedIn (n - 1006)
  else false

/-- The target on which source `n` is active, plus 1; 0 where it is not. -/
def State.intAct (s : State) (n : Nat) : Nat := s.int.act.get 0 n
/-- Source `n` is pending (R522). -/
def State.intPending (s : State) (n : Nat) : Bool :=
  if isEdge n then s.int.pend.get false n else s.intAct n = 0 && s.intLevel n

/-! ### Priority (R524 to R526) -/

def State.intPrio (s : State) (n : Nat) : Nat := s.g (Page.src n) F.INT_SRC_CFG_PRIO
def State.intGroup (s : State) (t n : Nat) : Nat := s.intPrio n / 2 ^ s.g (Page.tgt t) F.INT_PRIGRP_PRIGRP
/-- Sources active on target `t`. -/
def State.actives (s : State) (t : Nat) : List Nat := (s.int.act.filter (fun e => e.2 = t + 1)).map (·.1)
/-- The running priority: none while nothing is active (R525). -/
def State.runPrio (s : State) (t : Nat) : Option Nat :=
  (s.actives t).foldl (fun m n => some (match m with | none => s.intGroup t n | some g => max g (s.intGroup t n))) none

/-- Sources that may be enabled: ENABLE is clear at the factory, so an enabled one has retained settings of its own. -/
def State.intListed (s : State) : List Nat :=
  (s.pwr.ret.filter (fun e => 0x101000 ≤ e.1 && e.1 < 0x102000)).map (fun e => (e.1 - 0x101000) / 4)

/-- Sources eligible for target `t` (R525). -/
def State.eligible (s : State) (t : Nat) : List Nat :=
  let rp := s.runPrio t
  if 16 ≤ (s.actives t).length then []
  else s.intListed.filter (fun n =>
    s.on (Page.src n) F.INT_SRC_CFG_ENABLE && s.g (Page.src n) F.INT_SRC_CFG_TARGET = t
      && s.intAct n = 0 && s.intPending n
      && (match rp with | none => true | some g => decide (g < s.intGroup t n)))

/-- The request line of target `t`. -/
def State.intReq (s : State) (t : Nat) : Bool := s.eligible t ≠ []

/-- The most urgent of a list: the largest priority, then the lowest number (R526). -/
def State.urgent (s : State) : List Nat → Option Nat
  | [] => none
  | n :: l => match s.urgent l with
    | none => some n
    | some m => if s.intPrio m < s.intPrio n ∨ (s.intPrio m = s.intPrio n ∧ n < m) then some n else some m

/-- A delivery that has been made counts for one rise of REQ: it is forgotten when REQ is low. -/
def State.reqFall (s : State) (t : Nat) : State :=
  if s.int.sent.get false t && !s.intReq t then { s with int.sent := s.int.sent.set false t false } else s

/-- A read of INT_CLAIM (R526): the word, and the source claimed. -/
def State.claim (s : State) (t : Nat) : State × Option Nat :=
  match s.urgent (s.eligible t) with
  | none => (s.bump (Page.tgt t) F.INT_SPURIOUS, none)
  | some n =>
    let s := { s with int.act := s.int.act.set 0 n (t + 1)
                      int.pend := s.int.pend.set false n false }
    (s.reqFall t, some n)

/-- The word that a claim returns. -/
def State.claimWord (s : State) : Option Nat → Word
  | none => 0
  | some n => BitVec.ofNat 32 (n + s.intPrio n * 2 ^ 16 + 2 ^ 31)

/-- A write of INT_COMPLETE (R528). -/
def State.complete (s : State) (t n : Nat) : State :=
  if s.intAct n = t + 1 then { s with int.act := s.int.act.set 0 n 0 }.reqFall t
  else s.bump (Page.tgt t) F.INT_BAD_COMPLETE

/-- Every source active on target `t` is completed by a reset (R529). -/
def State.intReset (s : State) (t : Nat) : State := { s with int.act := s.int.act.filter (fun e => e.2 ≠ t + 1) }

/-! ### Delivery (R530, R531) -/

/-- Function `fn` has unread completions (R456). -/
def State.unread (s : State) (fn : Nat) : Bool :=
  (List.range 64).any (fun n => s.on (Page.cq n) F.CQ_CTRL_ENABLE && s.queueOwner n = fn && s.cqTail n ≠ s.cqHead n)

/-- A rise of REQ of target `t` is held by its moderation window. -/
def State.intHeld (s : State) (t : Nat) : Bool :=
  t ≠ 0 && decide (s.now < s.int.win.get 0 t) && s.actives t = [] && s.unread (t - 1)

/-- A rise of REQ of target `t` waits for its delivery. -/
def State.reqRises (s : State) (t : Nat) : Bool := s.intReq t && !s.int.sent.get false t
/-- The controller delivers: not in BANKED (R532), nor in OFF. -/
def State.intRuns (s : State) : Bool := s.pwr.mode ≠ .off && s.pwr.mode ≠ .banked

/-- One delivery (R530). -/
def State.deliverReq (s : State) (t : Nat) : State :=
  let s := (s.bump (Page.tgt t) F.INT_DELIVERIES)
  let s := { s with int.sent := s.int.sent.set false t true
                    int.win := s.int.win.set 0 t (s.now + 4000 * s.g (Page.tgt t) F.INT_MOD_MOD) }
  if t = 0 then { s with hrt.traps := if 2 ∈ s.hrt.traps then s.hrt.traps else s.hrt.traps ++ [2] }
  else s.msixSend (t - 1) 0

/-! ### Hearth (R510 to R518) -/

/-- A handler sets status bits of a register: through the deferral buffer while its group is held (R514). -/
def State.handlerSet (s : State) (grp a : Nat) (b : Word) : State :=
  if s.hrt.ctx.any (fun c => c.2.st ≠ 0 && decide (grp ∈ c.2.groups)) then
    { (s.bump Page.hrt F.HRT_DEFERRALS) with
      hrt.defer := s.hrt.defer.set [] grp (s.hrt.defer.get [] grp ++ [⟨a, b, 0, 0⟩]) }
  else s.setReg a (s.reg a ||| b)

/-- Trap depth. -/
def State.depth (s : State) : Nat := s.hrt.frames.length

/-- Handlers' entry micro-addresses: the microcode is the maker's. -/
def State.vectorTo (s : State) (cause : Nat) : State :=
  { s with hrt.cur := { s.hrt.cur with upc := Config.trapVector cause % 65536 } }

/-- A trap of cause `c` is taken: its frame is pushed and its handler runs (R517). -/
def State.takeTrap (s : State) (c : Nat) (claimed : Option Nat) : State :=
  ({ (s.bump Page.hrt F.HRT_TRAPS) with hrt.frames := (s.hrt.cur, c, claimed) :: s.hrt.frames }).vectorTo c

/-- A trap stays pending at depth 4 (R517). -/
def State.holdTrap (s : State) (c : Nat) : State :=
  let s := s.bump Page.hrt F.HRT_TRAPS_HELD
  { s with hrt.traps := if c ∈ s.hrt.traps then s.hrt.traps else s.hrt.traps ++ [c] }

/-- The INTERRUPT handler's work up to its COMPLETE (R518): it claims, and writes a log entry naming the source. -/
def State.serviceInt (s : State) : State :=
  let s := { s with hrt.traps := s.hrt.traps.filter (· ≠ 2) }
  let r := s.claim 0
  let s := r.1.takeTrap 2 r.2
  match r.2 with
  | none => s
  | some n =>
    -- no cause code is given for this entry
    let v := s.fresh 8
    v.1.logWrite v.2 2 0 (gid 1 n) 0 0

/-- A TICK trap. -/
def State.serviceTick (s : State) : State :=
  { s with hrt.traps := s.hrt.traps.filter (· ≠ 3) }.takeTrap 3 none

/-- The patch is disabled (R509, R510): no match register is enabled. -/
def State.patchOff (s : State) : State :=
  forEach (List.range 32) s (fun s n => s.unflag (Page.hmatch n) F.HRT_MATCH_EN)

/-- A patch image's words and match entries are installed in one step (R509, R652). -/
def State.patchIn (s : State) (im : Image) : State :=
  let body := im.bytes.drop 64
  let ws := chunks 24 1024 body
  let ms := chunks 4 32 (body.drop 24576)
  let s := { s with
    hrt.patch := ((List.range 1024).foldl (fun t i => t.set 0 i (BitVec.ofNat 192 (ws.getD i 0))) [])
    sec.inPatch := some im }
  let s := forEach (List.range 32) s (fun s n => s.setReg (Page.hmatch n) (BitVec.ofNat 32 (ms.getD n 0 % 2 ^ 26)))
  s.p Page.hrt F.HRT_VERSION_PATCH_PATCH (im.version % 65536)

/-- Quiescent: no trap frame, and every context but that of `who` free or yielded (R509). -/
def State.quiescent (s : State) (who : Option (Nat × Nat)) : Bool :=
  s.depth = 0 && s.hrt.ctx.all (fun c => c.2.st = 0 || c.2.st = 3
    || (!c.2.internal && (match who with | some w => c.2.sq = w.1 && c.2.tag = w.2 | none => false)))

/-- A patch change that waits takes place at a quiescent point: the image's bytes, or none for a clear. -/
def State.tryQuiesce (s : State) : State :=
  match s.hrt.quiesce with
  | none => s
  | some (b, who) =>
    if ¬ s.quiescent who then s
    else
      let s := { s with hrt.quiesce := none }
      let s := match b, s.sec.patch with
        | [], _ => { (s.patchOff.p Page.hrt F.HRT_VERSION_PATCH_PATCH 0) with sec.inPatch := none }
        | _ :: _, some im => s.patchIn im
        | _ :: _, none => s
      s.settle who St.success

end Sys2Proof.Machine
end

