-- ==== Sys2Proof/Machine/IntRows.lean ====
section
/-!
DEFINITION. Machine/IntRows.lean: the commands and events of the interrupt controller and of Hearth (R506 to R542), but
for the loading of patches.
-/

namespace Sys2Proof.Machine
open Sys2Proof

/-! ### Commands (R534) -/

def cHrtIdentify : Cmd where
  op := 0x0001
  run := fun s p => s.succeed p (s.g Page.hrt F.HRT_VERSION_ROM_ROM + s.g Page.hrt F.HRT_VERSION_PATCH_PATCH * 2 ^ 16
    + s.g Page.hrt F.HRT_VERSION_FW_FW * 2 ^ 32)

/-- HRT_IDENTIFY (R534, R535). -/
def execHrtIdentify (p : Pkt) (s : State) : Out := .next (s.command cHrtIdentify p)

/-- The HRT block's registers, as a command's function; the doorbells are apart. -/
def hrtHolds : List (Nat × Nat) := [(0, 0x1000)]

def cHrtPatchClear : Cmd where
  op := 0x0003
  pf0 := true
  holds := fun _ _ => hrtHolds
  grps := fun _ => [gid 0 2047]
  run := fun s p => { s with hrt.quiesce := some ([], p.who) }.tryQuiesce

/-- HRT_PATCH_CLEAR (R509). -/
def execHrtPatchClear (p : Pkt) (s : State) : Out := .next (s.command cHrtPatchClear p)

/-- Words and registers of INT_SRC_SET. -/
def srcWords (p : Pkt) : List (Nat × Nat) := (List.range (p.n 0)).map (fun i => (i + 1, Page.src (p.target + i)))

/-- An INT_SRC_CFG image of a VF carries its own target only (R534). -/
def vfTarget (p : Pkt) (l : List (Nat × Nat)) : Option Nat :=
  firstBad (l.map (fun x => (x.1, p.fn ≠ 0 && wget (p.w x.1) 11 9 ≠ p.fn + 1)))

def cIntSrcSet : Cmd where
  op := 0x0100
  tgt := fun t => t < 1024
  view := fun s p =>
    if p.fn = 0 then none
    else if s.intOwner p.target ≠ p.fn then some Fail.target
    else if ((List.range (min 1023 (p.n 0))).all (fun i => 1024 ≤ p.target + i || s.intOwner (p.target + i) = p.fn)) then none
    else some (.plain St.invalidParam)
  len := fun p => 1 + p.n 0
  cnt := some 0
  bad := fun s p =>
    if p.n 0 = 0 ∨ pktRoom p - 1 < p.n 0 ∨ 1023 < p.n 0 ∨ 1024 < p.target + p.n 0 then some 0
    else match s.badImgs p (srcWords p) with
      | some i => some i
      | none => vfTarget p (srcWords p)
  holds := fun _ p => [(Page.src p.target, 4 * p.n 0)]
  grps := fun p => [gid 1 p.target]
  run := fun s p => (s.putImgs p (srcWords p)).succeed p

/-- INT_SRC_SET (R521, R534). -/
def execIntSrcSet (p : Pkt) (s : State) : Out := .next (s.command cIntSrcSet p)

def cIntTargetSet : Cmd where
  op := 0x0101
  tgt := fun t => 1 ≤ t && t ≤ 5
  view := fun _ p => if p.target ≠ p.fn + 1 then some Fail.target else none
  len := fun _ => 2
  bad := fun s p => s.badImgs p [(0, Page.tgt p.target + 8), (1, Page.tgt p.target + 0xC)]
  holds := fun _ p => [(Page.tgt p.target, 0x20)]
  grps := fun p => [gid 1 (1024 + p.target)]
  run := fun s p => (s.putImgs p [(0, Page.tgt p.target + 8), (1, Page.tgt p.target + 0xC)]).succeed p

/-- INT_TARGET_SET (R534). -/
def execIntTargetSet (p : Pkt) (s : State) : Out := .next (s.command cIntTargetSet p)

def cIntSwi : Cmd where
  op := 0x0102
  pf0 := true
  tgt := fun t => t < 14
  holds := fun _ p => [(Page.src (1010 + p.target), 4)]
  grps := fun p => [gid 1 (1010 + p.target)]
  run := fun s p => (s.intEdge (1010 + p.target)).succeed p

/-- INT_SWI (R534). -/
def execIntSwi (p : Pkt) (s : State) : Out := .next (s.command cIntSwi p)

/-- INT_SWI_REGISTER_WRITE (R538): 14 and 15 name no source. -/
def execIntSwiRegisterWrite (fn sw : Nat) (s : State) : Out :=
  .next (s.onWrite fn (Page.int + 8) (fun s => if sw < 14 then s.intEdge (1010 + sw) else s))

/-! ### Claim and complete -/

/-- A host's read of INT_CLAIM (R526, R539). -/
def State.claimRead (s : State) (t : Nat) : State :=
  if t = 0 then { s with pins.rdata := 0 }
  else let r := s.claim t; { r.1 with pins.rdata := r.1.claimWord r.2 }

/-- INT_CLAIM_READ (R526). -/
def execIntClaimRead (fn t : Nat) (s : State) : Out :=
  .next (if t < 6 then s.onRead fn (Page.tgt t) (·.claimRead t) else s)

/-- INT_COMPLETE_WRITE (R528, R539). -/
def execIntCompleteWrite (fn t id : Nat) (s : State) : Out :=
  .next (if t < 6 then s.onWrite fn (Page.tgt t + 4) (fun s => if t = 0 then s else s.complete t (id % 1024)) else s)

/-- INT_DELIVERY (R530, R531): a rise of REQ that no window holds is delivered. -/
def execIntDelivery (t : Nat) (s : State) : Out :=
  .next (if t < 6 ∧ s.intRuns = true then
      let s := s.reqFall t
      if s.reqRises t ∧ ¬ s.intHeld t then s.deliverReq t else s
    else s)

/-- MODERATION_WINDOW_END (R531). -/
def execModerationWindowEnd (t : Nat) (s : State) : Out :=
  .next (if t < 6 ∧ s.intRuns = true ∧ s.int.win.get 0 t ≤ s.now ∧ s.reqRises t = true then s.deliverReq t else s)

/-! ### Traps and routines -/

/-- The fault trap is taken. A fault inside a handler ends it and reuses its frame; what it claimed stays claimed. -/
def State.takeFault (s : State) : State :=
  match s.hrt.frames with
  | [] => s.takeTrap 1 none
  | (m, _, cl) :: l => ({ (s.bump Page.hrt F.HRT_TRAPS) with hrt.frames := (m, 1, cl) :: l }).vectorTo 1

/-- Errors that the codes of Hearth's store and of the paths find (R25, R413, R506, R510, R516, R517): `kind` 0 an
uncorrectable error on a path of Hearth's, 1 a fetch from an unused address, 2 an uncorrectable error in a patch word, 3 in a
ROM word; 4 an error on a path that the code corrects, and 5 an uncorrectable one on a path other than Hearth's: these two
raise no trap. -/
def State.faultTrap (s : State) (kind upc : Nat) : State :=
  if kind = 2 then
    ((s.patchOff.handlerSet (gid 0 2047) (Page.hrt + F.HRT_STATUS_PATCH_FAULT.off)
      (wmask F.HRT_STATUS_PATCH_FAULT.hi F.HRT_STATUS_PATCH_FAULT.lo))).logIt Cause.hearthPatchEcc 0 (gid 0 2047) 0
  else if kind = 3 then s.moduleFault Cause.hearthRom (gid 0 2047) 0
  else if kind = 4 then s.pathCorrect
  else if kind = 5 then s.pathBad
  else
    let s := s.when (kind = 0) State.pathBad
    ({ s with hrt.cur := { s.hrt.cur with upc := upc % 65536 } }).takeFault

/-- FAULT_TRAP (R516). -/
def execFaultTrap (kind upc : Nat) (s : State) : Out :=
  .next (if s.intRuns then s.faultTrap kind upc else s)

/-- INTERRUPT_TRAP (R516 to R518). -/
def execInterruptTrap (s : State) : Out :=
  .next (if s.intRuns = true ∧ 2 ∈ s.hrt.traps then
      (if s.depth < 4 then s.serviceInt else s.holdTrap 2)
    else s)

/-- TICK_TRAP (R516, R517): the service timer's tick, every 1 µs. -/
def execTickTrap (s : State) : Out :=
  .next (if s.intRuns ∧ s.due s.hrt.tickAt (usecs 1) = true then
      let s := { s with hrt.tickAt := some s.now }
      if s.depth < 4 then s.serviceTick else s.holdTrap 3
    else s)

/-- TRAP_RETURN (R517): a source that the handler claimed is completed; at depth 4, a held trap is taken, the most
urgent first. -/
def execTrapReturn (s : State) : Out :=
  .next (match s.hrt.frames with
    | [] => s
    | (m, _, cl) :: l =>
      if ¬ s.intRuns then s
      else
        let deep : Bool := s.depth = 4
        let s := match cl with | some n => s.complete 0 n | none => s
        let s := { s with hrt.frames := l, hrt.cur := m }
        let s := if deep then
            (if 2 ∈ s.hrt.traps then s.serviceInt else if 3 ∈ s.hrt.traps then s.serviceTick else s)
          else s
        (if s.ctxRuns then s else s.switchCtx m.ctx).tryQuiesce)

/-- The executing context stops at a yield word whose routine goes on at `upc`, and the next ready one goes on (R511). -/
def State.yieldAt (s : State) (upc : Nat) : State :=
  match s.hrt.ctx.find? (fun c => c.2.st = 1) with
  | none => s
  | some (k, x) =>
    let m := { s.hrt.cur with upc := upc % 65536 }
    ({ s.setHctx k { x with st := 3, micro := m } with hrt.cur := m }.switchCtx k).tryQuiesce

/-- ROUTINE_YIELD (R511). -/
def execRoutineYield (upc : Nat) (s : State) : Out := .next (s.yieldAt upc)

/-- Context `c` releases a group that it holds, with the group's deferral buffer applied (R513, R514). -/
def State.releaseGroup (s : State) (c grp : Nat) : State :=
  let x := s.hctx c
  let g := x.groups.filter (· ≠ grp)
  if x.st ≠ 0 ∧ grp ∈ x.groups then
    (s.setHctx c { x with groups := g, holds := if g = [] then [] else x.holds }).applyDefers grp
  else s

/-- GROUP_RELEASE (R513, R514). -/
def execGroupRelease (ctx grp : Nat) (s : State) : Out := .next (s.releaseGroup ctx grp)

/-! ### Control words (R506 to R508) -/

/-- The field groups of a control word (R507). -/
structure CtlWord where
  next : Nat
  seqOp : Nat
  cond : Nat
  trapOk : Bool
  groupOp : Nat
  greg : Nat
  alu : BitVec 33
  bus : BitVec 64
  imm : BitVec 64
  deriving DecidableEq, Repr

/-- The fields of a word, at the places that R507 gives them. -/
def ctlWord (w : BitVec 192) : CtlWord where
  next := (w.extractLsb' 0 16).toNat
  seqOp := (w.extractLsb' 16 3).toNat
  cond := (w.extractLsb' 19 5).toNat
  trapOk := w.getLsbD 24
  groupOp := (w.extractLsb' 25 2).toNat
  greg := (w.extractLsb' 27 4).toNat
  alu := w.extractLsb' 31 33
  bus := w.extractLsb' 64 64
  imm := w.extractLsb' 128 64

/-- A match register holds ROM address `a` (R508): the lowest-numbered enabled one. -/
def State.matchFor (s : State) (a : Nat) : Option Nat :=
  (List.range 32).find? (fun n => s.on (Page.hmatch n) F.HRT_MATCH_EN && s.g (Page.hmatch n) F.HRT_MATCH_ADDR = a)

/-- The word fetched at a micro-address (R506, R508); none at an unused one. -/
def State.fetchCtl (s : State) (a : Nat) : Option CtlWord :=
  if a < 0x8000 then
    some (ctlWord (match s.matchFor a with
      | some n => s.hrt.patch.get 0 (s.g (Page.hmatch n) F.HRT_MATCH_PATCH)
      | none => Config.romWord a))
  else if a < 0x8400 then some (ctlWord (s.hrt.patch.get 0 (a - 0x8000)))
  else none

/-- Flags of a micro-state as a number, Z in bit 0. -/
def Micro.flags (m : Micro) : Nat :=
  (if m.z then 1 else 0) + (if m.n then 2 else 0) + (if m.c then 4 else 0) + (if m.v then 8 else 0)
/-- The micro-registers in order. -/
def Micro.list (m : Micro) : List W64 := (List.range 16).map (fun i => m.mregs.get 0 i)

/-- ALU and BUS of a word: a micro-register and the flags take what the ALU gives, and a micro-register what the bus reads,
which is left free. What the bus writes is what the rows of commands and events do: DESIGN CHOICE (log entry 59). -/
def State.aluBus (s : State) (w : CtlWord) : State :=
  let m := s.hrt.cur
  let r := Config.aluOp w.alu w.imm m.list m.flags
  let m := { m with mregs := m.mregs.set 0 (r.1 % 16) r.2.1, z := r.2.2.testBit 0, n := r.2.2.testBit 1
                    c := r.2.2.testBit 2, v := r.2.2.testBit 3 }
  match Config.busDest w.bus with
  | none => { s with hrt.cur := m }
  | some d =>
    let v := s.fresh 64
    { v.1 with hrt.cur := { m with mregs := m.mregs.set 0 (d % 16) (BitVec.ofNat 64 v.2) } }

/-- The group that GREG names. -/
def State.gregOf (s : State) (w : CtlWord) : Nat := (s.hrt.cur.mregs.get 0 w.greg).toNat % 65536
/-- A context other than `c` holds group `g`. -/
def State.otherHolds (s : State) (c g : Nat) : Bool :=
  s.hrt.ctx.any (fun e => e.1 ≠ c && e.2.st ≠ 0 && decide (g ∈ e.2.groups))
/-- A word that would hold a group waits while another context holds it (R513). -/
def State.wordWaits (s : State) (w : CtlWord) : Bool :=
  s.depth = 0 && w.groupOp = 1 && s.otherHolds s.hrt.cur.ctx (s.gregOf w)

/-- GROUP_OP of a word: hold, at most 8 groups; release; release all. Handlers hold no groups (R513, R514). -/
def State.groupStep (s : State) (w : CtlWord) : State :=
  let c := s.hrt.cur.ctx
  let x := s.hctx c
  let g := s.gregOf w
  if s.depth ≠ 0 then s
  else match w.groupOp with
    | 1 => if g ∈ x.groups ∨ 8 ≤ x.groups.length ∨ x.st = 0 then s else s.setHctx c { x with groups := x.groups ++ [g] }
    | 2 => s.releaseGroup c g
    | 3 => forEach x.groups s (fun s g => s.releaseGroup c g)
    | _ => s

/-- The micro-address after a word. -/
def State.goTo (s : State) (a : Nat) : State := { s with hrt.cur := { s.hrt.cur with upc := a % 65536 } }

/-- Register `r` of the running file holds `v`. -/
def State.setMreg (s : State) (r : Nat) (v : W64) : State :=
  { s with hrt.cur := { s.hrt.cur with mregs := s.hrt.cur.mregs.set 0 r v } }

/-- SEQ_OP of a word (R507). -/
def State.seqStep (s : State) (w : CtlWord) : State :=
  let m := s.hrt.cur
  let l := Config.linkReg % 16
  match w.seqOp with
  | 0 => s.goTo (m.upc + 1)
  | 1 => s.goTo w.next
  | 2 => let v := s.fresh 32
         v.1.goTo (if Config.condHolds w.cond m.flags v.2 then w.next else m.upc + 1)
  | 3 => (s.setMreg l (BitVec.ofNat 64 (m.upc + 1))).goTo w.next
  | 4 => s.goTo (m.mregs.get 0 l).toNat
  | 5 => s.goTo (Config.dispatchAt (s.hctx m.ctx).op)
  | 6 => s.via execTrapReturn
  | _ => s.yieldAt w.next

/-- After a word with TRAP_OK a pending trap is taken, the most urgent first (R516, R517). -/
def State.trapStep (s : State) (w : CtlWord) : State :=
  if ¬ w.trapOk ∨ 4 ≤ s.depth then s
  else if 2 ∈ s.hrt.traps then s.serviceInt
  else if 3 ∈ s.hrt.traps then s.serviceTick
  else s

/-- One cycle of Hearth (R506): a routine or a handler executes one word. -/
def State.hearthCycle (s : State) : State :=
  if ¬ s.intRuns ∨ (s.depth = 0 ∧ s.ctxRuns = false) then s
  else match s.fetchCtl s.hrt.cur.upc with
    | none => s.faultTrap 1 s.hrt.cur.upc
    | some w => if s.wordWaits w then s else (((s.aluBus w).groupStep w).seqStep w).trapStep w

/-- Cycles of the 400 MHz clock that begin in the tick numbered `t`. -/
def hearthCycles (t : Nat) : Nat := (2 * (t + 1) + 4) / 5 - (2 * t + 4) / 5

end Sys2Proof.Machine
end

