-- ==== Sys2Proof/Machine/SecOps.lean ====
section
/-!
DEFINITION. Machine/SecOps.lean: signed images and their checks (R647 to R653), measurements, fuses (R643 to R646) and
attestation reports (R657, R658).
-/

namespace Sys2Proof.Machine
open Sys2Proof

/-! ### Images (R647, R648) -/

/-- `n` bytes of `b` from byte `o` on, as a number. -/
def fieldLE (b : List Byte) (o n : Nat) : Nat := leNat ((b.drop o).take n)
/-- Whether `n` bytes from byte `o` on are 0. -/
def zeroBytes (b : List Byte) (o n : Nat) : Bool := ((b.drop o).take n).all (fun x => x = 0)

def imgType (b : List Byte) : Nat := fieldLE b 2 1
def imgVersion (b : List Byte) : Nat := fieldLE b 4 4
def imgBodyLen (b : List Byte) : Nat := fieldLE b 8 4
def imgSvn (b : List Byte) : Nat := fieldLE b 12 1
def imgSigs (b : List Byte) : Nat := fieldLE b 13 1
/-- Header and filled body. -/
def imgSigned (b : List Byte) : Nat := 64 + (imgBodyLen b + 7) / 8 * 8

/-- One signature block: KIND, key and signature, and whether its reserved bytes are 0. -/
structure SigBlock where
  kind : Nat
  key : List Byte
  sig : List Byte
  ok : Bool
  deriving DecidableEq, Repr

def sigBlock (b : List Byte) (j : Nat) : SigBlock :=
  let x := b.drop (imgSigned b + 3088 * j)
  ⟨fieldLE x 0 4, (x.drop 4).take 1793, (x.drop 1800).take 1280, zeroBytes x 1797 3 && zeroBytes x 3080 8⟩
def sigBlocks (b : List Byte) : List SigBlock := (List.range (imgSigs b)).map (sigBlock b)

/-- The image digest D, and the measurement M (R649). -/
def imgDigest (n : Nat) (b : List Byte) : List Byte := Config.shake256 n (b.take (imgSigned b))
def Image.meas (im : Image) : List Byte := imgDigest 32 im.bytes

/-- A calibration record's offset, value and mask; a record is proper if its mask covers retained bits only (R652). -/
def calRecs (b : List Byte) : List (Nat × Word × Word × Bool) :=
  (chunks 16 131072 ((b.drop 64).take (imgBodyLen b))).map (fun v =>
    let a := v % 2 ^ 32
    let m := BitVec.ofNat 32 (v / 2 ^ 64)
    (a, BitVec.ofNat 32 (v / 2 ^ 32), m, retMask a ≠ 0 && (m &&& ~~~ retMask a) = 0 && decide (v / 2 ^ 96 = 0)))

/-- BODY_LEN within the limit of R652 for its type. -/
def bodyOk (t n : Nat) (b : List Byte) : Bool :=
  match t with
  | 1 => n ≤ 56 * 2 ^ 20
  | 2 => n = 24704
  | 3 => n ≤ 2 ^ 21 && n % 16 = 0 && (calRecs b).all (fun r => r.2.2.2)
  | _ => n = 1804

/-- Step 1 of R651. -/
def imgForm (t : Nat) (b : List Byte) : Bool :=
  let n := imgBodyLen b
  fieldLE b 0 2 = 0x7A49 && imgType b = t && fieldLE b 3 1 = 1 && zeroBytes b 22 42 && imgSvn b ≤ 128
    && (imgSigs b = 1 || imgSigs b = 2) && (t = 2 || fieldLE b 14 2 = 0)
    && zeroBytes b (64 + n) (imgSigned b - 64 - n)
    && b.length = imgSigned b + 3088 * imgSigs b
    && bodyOk t n b && (sigBlocks b).all (·.ok)

/-- The fused minimum of an image type (R643). -/
def State.minSvn (s : State) (t : Nat) : Nat :=
  match t with | 1 => s.sec.fuses.minFw | 2 => s.sec.fuses.minPatch | 3 => s.sec.fuses.minCal | _ => 0

/-- A key block is valid (R649). -/
def State.keyOk (s : State) (x : SigBlock) : Bool :=
  match x.kind with
  | 0 => Config.shake256 64 x.key = Config.shake256 64 Config.rootKey
  | 1 => s.sec.fuses.custDigest = some (leNat (Config.shake256 64 x.key))
  | _ => false

/-- The signature blocks that R650 requires. -/
def State.kindsOk (s : State) (t : Nat) (l : List SigBlock) : Bool :=
  let n := fun k => (l.filter (fun x => x.kind = k)).length
  match t with
  | 1 | 2 => n 0 = 1 && (!s.sec.fuses.custRequired || n 1 = 1)
  | 3 => (n 0 = 1 && n 1 ≤ 1) || (n 0 = 0 && n 1 = 1)
  | _ => n 0 = 1

/-- The checks of R651: the status, 0 where the image passes. -/
def State.checkImage (s : State) (t : Nat) (b : List Byte) : Nat :=
  let l := sigBlocks b
  if ¬ imgForm t b then St.invalidParam
  else if ¬ (fieldLE b 16 6 = 0 ∨ fieldLE b 16 6 = Config.moduleId.toNat)
      ∨ (t = 2 ∧ fieldLE b 14 2 ≠ s.g Page.hrt F.HRT_VERSION_ROM_ROM) then St.invalidParam
  else if imgSvn b < s.minSvn t then St.rollback
  else if ¬ (l.all s.keyOk ∧ s.kindsOk t l) then St.signatureInvalid
  else if ¬ l.all (fun x => Config.sigVerify x.key (imgDigest 64 b) x.sig) then St.signatureInvalid
  else 0

/-- The image that a container holds. -/
def imgOf (b : List Byte) : Image := ⟨imgVersion b, imgSvn b, (sigBlocks b).any (fun x => x.kind = 1), b⟩

/-- A SEC_EVENT entry (R659). -/
def State.secEvent (s : State) (code typ ver : Nat) : State :=
  s.logIt Cause.secEvent 0 0x2FFF (code + typ % 256 * 2 ^ 8 + ver * 2 ^ 16)

/-- An image is refused with a status (R651, R659). -/
def State.imgRefused (s : State) (t ver status : Nat) : State :=
  let s := (s.flag Page.sec F.SEC_STATUS_REJECT).bump Page.sec F.SEC_REJECTS
  (s.secEvent 1 t ver).secEvent 1 status ver

/-- A command loads an image of type `t` of `n` bytes: `f` where it passes. -/
def State.loadImage (s : State) (p : Pkt) (t n : Nat) (f : State → Image → State) : State :=
  match p.data n with
  | none => s.hostFail p
  | some b =>
    let st := s.checkImage t b
    if st ≠ 0 then (s.imgRefused t (imgVersion b) st).finish p (.plain st) else f s (imgOf b)

/-! ### Slots (R654) -/

/-- The firmware as delivered. -/
def factoryImage : Image := ⟨Config.factoryFw.toNat, Config.factorySvn.toNat, false, Config.factoryFwBytes⟩
/-- What firmware slot `k` holds: 0 A, 1 B. -/
def State.slotImg (s : State) (k : Nat) : Option Image :=
  if k = 0 then some (s.sec.fwA.getD factoryImage) else s.sec.fwB
/-- An image in flash, which passed when it was written, still passes (R651 steps 3 to 5). -/
def State.imgOk (s : State) (t : Nat) (im : Image) : Bool :=
  s.minSvn t ≤ im.svn && (t = 3 || !s.sec.fuses.custRequired || im.cust)
/-- The running firmware. -/
def State.running_ (s : State) : Image := (s.slotImg s.sec.running).getD factoryImage

/-! ### Fuses (R643 to R646) -/

/-- A fuse field is burned whose effect does not wait for a start-up. -/
def State.burn (s : State) (f : Fuses → Fuses) : State :=
  { s with sec.fuses := f s.sec.fuses, sec.pendFuses := s.sec.pendFuses.map f }
/-- All fuses as burned, with the map generations that wait for a start-up. -/
def State.burned (s : State) : Fuses := s.sec.pendFuses.getD s.sec.fuses

/-- Bits of `w` each, least significant first, as a number. -/
def packBits (w : Nat) : List Nat → Nat
  | [] => 0
  | v :: l => v % 2 ^ w + 2 ^ w * packBits w l

/-- Bytes of a map generation with its CRC; all zero while unburned. -/
def genBytes (n w : Nat) (i : Nat) : Option (Option (Tab Nat)) → List Byte
  | none => List.replicate ((n * w + 7) / 8 + 4) 0
  | some none => Config.badGeneration i
  | some (some m) =>
    let b := leBytes ((n * w + 7) / 8) (packBits w ((List.range n).map (m.get 0)))
    b ++ Config.fuseCrc b

/-- The factory event map (R543). -/
def factoryEvents : Tab Nat := (List.range 128).map (fun i => (128 + i, 1 + i / 32))

/-- Every fuse field of R643 but DEVICE_SECRET, in table order, each filled to whole bytes. -/
def Fuses.bytes (f : Fuses) : List Byte :=
  leBytes 1 f.lifecycle ++ leBytes 6 Config.moduleId.toNat ++ leBytes 2 Config.vendorId.toNat
    ++ leBytes 1 Config.orderNum
    ++ Config.shake256 64 Config.rootKey
    ++ leBytes 64 (f.custDigest.getD 0) ++ leBytes 1 (if f.custDigest.isSome then 1 else 0)
    ++ leBytes 1 (if f.custRequired then 1 else 0)
    ++ leBytes 16 (2 ^ f.minFw - 1) ++ leBytes 16 (2 ^ f.minPatch - 1) ++ leBytes 16 (2 ^ f.minCal - 1)
    ++ (List.range 4).flatMap (fun i => genBytes 736 3 i (((some [] : Option (Tab Nat)) :: f.pmaps)[i]?))
    ++ (List.range 4).flatMap (fun i => genBytes 256 5 i ((some factoryEvents :: f.evmaps)[i]?))

/-- The measurements of R658: 0 firmware, 1 patch, 2 calibration, 3 fuses; empty where there is none. -/
def State.meas (s : State) (i : Nat) : List Byte :=
  match i with
  | 0 => s.running_.meas
  | 1 => (match s.sec.inPatch with | some im => im.meas | none => [])
  | 2 => (match s.sec.inCal with | some im => im.meas | none => [])
  | _ => Config.shake256 32 s.sec.fuses.bytes

/-! ### Attestation (R657, R658) -/

/-- Bytes cut or filled with zeros to `n`. -/
def fit (n : Nat) (b : List Byte) : List Byte := b.take n ++ List.replicate (n - b.length) 0

/-- Bytes 0 to 2,023 of a report with this nonce. -/
def State.reportBody (s : State) (nonce : List Byte) : List Byte :=
  leBytes 4 (0x7A41 + s.sec.fuses.lifecycle * 2 ^ 16 + 2 ^ 20)
    ++ leBytes 4 (s.g Page.hrt F.HRT_VERSION_ROM_ROM)
    ++ leBytes 8 Config.moduleId.toNat ++ fit 32 nonce
    ++ leBytes 8 s.log.mtime.toNat ++ leBytes 8 (s.wallNs + s.wallSec % 2 ^ 34 * 2 ^ 30)
    ++ fit 32 (s.meas 0) ++ fit 32 (s.meas 1) ++ fit 32 (s.meas 2) ++ fit 32 (s.meas 3)
    ++ leBytes 4 s.running_.version
    ++ leBytes 4 (match s.sec.inPatch with | some im => im.version | none => 0)
    ++ leBytes 4 (match s.sec.inCal with | some im => im.version | none => 0)
    ++ leBytes 4 (s.sec.fuses.minFw + s.sec.fuses.minPatch * 2 ^ 8 + s.sec.fuses.minCal * 2 ^ 16)
    ++ List.replicate 16 0 ++ fit 1800 (fit 1793 Config.identityKey)

/-- The report of 3,304 bytes. -/
def State.report (s : State) (nonce : List Byte) : List Byte :=
  let b := s.reportBody nonce
  b ++ fit 1280 (Config.sigSign (Config.shake256 64 b))

/-- An attestation is formed and written (R658). -/
def State.attest (s : State) (p : Pkt) : State :=
  ((s.hostWrite (p.w64 8) (s.report (wordBytes (p.words.take (p.pre + 8) |>.drop p.pre)))).bump
    Page.sec F.SEC_ATTESTS).succeed p

/-- The attestations that wait for the key. -/
def State.attestAll (s : State) : State :=
  let l := s.sec.owed
  l.foldl (fun s w =>
    match s.hif.slots.find? (fun sl => sl.isOf w.1 w.2) with
    | some sl => s.attest sl.p
    | none => s) { s with sec.owed := [] }

/-- The secret-holding registers are cleared (R596, R661). -/
def State.clearSecrets (s : State) : State := { s with sec.keyValid := false }

end Sys2Proof.Machine
end

