-- ==== Sys2Proof/Machine/SecRows.lean ====
section
/-!
DEFINITION. Machine/SecRows.lean: patches (R509), firmware and calibration images, attestation, fuses (R655 to R662) and
the JTAG port (R660).
-/

namespace Sys2Proof.Machine
open Sys2Proof

/-- Words of an image command: host address and byte count. -/
def imgBad (p : Pkt) : Option Nat := firstBad [misaligned p 0]

def cHrtPatchLoad : Cmd where
  op := 0x0002
  pf0 := true
  len := fun _ => 3
  bad := fun _ p => imgBad p
  holds := fun _ _ => hrtHolds
  grps := fun _ => [gid 0 2047]
  run := fun s p => s.loadImage p 2 (p.n 2) (fun s im =>
    { s with sec.patch := some im, hrt.quiesce := some ([1], p.who) }.tryQuiesce)

/-- HRT_PATCH_LOAD (R509, R651). -/
def execHrtPatchLoad (p : Pkt) (s : State) : Out := .next (s.command cHrtPatchLoad p)

/-- A firmware image is written into the slot that does not run (R655); a recovery hold ends (R654). -/
def State.fwWrite (s : State) (im : Image) : State :=
  let s := if s.sec.running = 0
    then { s with sec.fwB := some im }.flag Page.sec F.SEC_FW_SLOT_B_VALID
    else { s with sec.fwA := some im }.flag Page.sec F.SEC_FW_SLOT_A_VALID
  if s.recovery then { s.unflag Page.sec F.SEC_STATUS_RECOVERY with pwr.busy := .startup 3 } else s

def cSecFwUpdate : Cmd where
  op := 0x0500
  pf0 := true
  len := fun _ => 3
  bad := fun _ p => imgBad p
  holds := fun _ _ => [(Page.sec + 4, 4)]
  grps := fun _ => [gid 5 2047]
  run := fun s p => s.loadImage p 1 (p.n 2) (fun s im => (s.fwWrite im).succeed p)

/-- SEC_FW_UPDATE (R651, R655). -/
def execSecFwUpdate (p : Pkt) (s : State) : Out := .next (s.command cSecFwUpdate p)

def cSecCalLoad : Cmd where
  op := 0x0501
  pf0 := true
  len := fun _ => 3
  bad := fun _ p => imgBad p
  holds := fun _ _ => [(Page.sec + 0x140, 0x20)]
  grps := fun _ => [gid 5 2047]
  run := fun s p => s.loadImage p 3 (p.n 2) (fun s im => { s with sec.cal := some im }.succeed p)

/-- SEC_CAL_LOAD (R651, R653). -/
def execSecCalLoad (p : Pkt) (s : State) : Out := .next (s.command cSecCalLoad p)

/-- The module is not DECOMMISSIONED, else FUSE_LOCKED (R645, R661). -/
def State.notDecom (s : State) : Option Fail := need (s.sec.fuses.lc ≠ 7) St.fuseLocked

def cSecAttest : Cmd where
  op := 0x0502
  len := fun _ => 10
  bad := fun _ p => firstBad [misaligned p 8]
  chk := fun s _ => s.notDecom
  grps := fun _ => [gid 5 2047]
  run := fun s p => if s.sec.keyValid then s.attest p else { s with sec.owed := s.sec.owed ++ [(p.sq, p.tag)] }

/-- SEC_ATTEST (R658). -/
def execSecAttest (p : Pkt) (s : State) : Out := .next (s.command cSecAttest p)

def cSecCertFetch : Cmd where
  op := 0x0503
  len := fun _ => 2
  bad := fun _ p => firstBad [misaligned p 0]
  chk := fun s _ => s.notDecom
  grps := fun _ => [gid 5 2047]
  run := fun s p => (s.hostWrite (p.w64 0) Config.identityCert).succeed p

/-- SEC_CERT_FETCH (R662). -/
def execSecCertFetch (p : Pkt) (s : State) : Out := .next (s.command cSecCertFetch p)

/-! ### Fuses (R645, R646, R662) -/

/-- The fuses, as the function of every fuse command (R662). -/
def fuseHolds : List (Nat × Nat) := [(Page.sec + 8, 8), (Page.sec + 0x2000, 0x170)]

/-- A map value in range: a partition 0–4; an event channel's OWNER 0–4 with any ATTR (R543, R646). -/
def mapValueOk (field : Nat) (v : Byte) : Bool :=
  if field = 0 then v.toNat < 5 else v.toNat < 32 && v.toNat % 8 < 5

/-- Bytes that SEC_FUSE_PROGRAM copies for a field. -/
def fuseLen (field : Nat) : Nat := match field with | 0 => 736 | 1 => 256 | 2 => 64 | _ => 0

/-- An image in a slot carries a valid customer signature. -/
def custSigned (im : Option Image) : Bool := match im with | some x => x.cust | none => false

/-- The refusals of SEC_FUSE_PROGRAM (R645, R656, R662). -/
def State.fuseRefusal (s : State) (field : Nat) : Option Fail :=
  let f := s.burned
  firstOf [need (f.lc = 1) St.fuseLocked,
    need (match field with
      | 0 => f.pmaps.length < 3
      | 1 => f.evmaps.length < 3
      | 2 => f.custDigest.isNone
      | _ => true) St.fuseLocked,
    need (field ≠ 3 || (custSigned (s.slotImg 0) && custSigned (s.slotImg 1) && custSigned s.sec.patch)) St.badState]

/-- A burn that read back right (`ok`), or not: a generation whose burn failed still counts as used. -/
def State.fuseBurn (s : State) (field : Nat) (b : List Byte) (ok : Bool) : State :=
  let m : Tab Nat := ((List.range b.length).zip (b.map (·.toNat))).filter (fun e => e.2 ≠ 0)
  let g := if ok then some m else none
  let s := match field with
    | 0 => { s with sec.pendFuses := some { s.burned with pmaps := s.burned.pmaps ++ [g] } }
    | 1 => { s with sec.pendFuses := some { s.burned with evmaps := s.burned.evmaps ++ [g] } }
    | 2 => if ok then s.burn (fun f => { f with custDigest := some (leNat b) }) else s
    | _ => if ok then s.burn (fun f => { f with custRequired := true }) else s
  s.secEvent (if ok then 4 else 5) 0 0

/-- SEC_FUSE_PROGRAM burns and reads back: whether the bits burned is the fuses' affair, a free value. -/
def State.fuseProgram (s : State) (p : Pkt) (b : List Byte) : State :=
  if p.n 0 ≤ 1 ∧ ¬ b.all (mapValueOk (p.n 0)) then s.finish p (.plain St.invalidParam)
  else
    let v := s.fresh 1
    if v.2 = 0 then (v.1.fuseBurn (p.n 0) b true).succeed p
    else ((v.1.fuseBurn (p.n 0) b false).flag Page.sec F.SEC_STATUS_BURN_FAIL).finish p (.plain St.internalError)

def cSecFuseProgram : Cmd where
  op := 0x0504
  pf0 := true
  len := fun _ => 3
  bad := fun _ p => firstBad [(0, 3 < p.n 0), (1, if p.n 0 = 3 then p.n 1 ≠ 0 else p.n 1 % 8 ≠ 0), (2, p.n 0 = 3 && p.n 2 ≠ 0)]
  chk := fun s p => s.fuseRefusal (p.n 0)
  holds := fun _ _ => fuseHolds
  grps := fun _ => [gid 5 2047]
  run := fun s p =>
    match p.data (fuseLen (p.n 0)) with
    | some b => s.fuseProgram p b
    | none => s.hostFail p

/-- SEC_FUSE_PROGRAM (R645, R646, R662). -/
def execSecFuseProgram (p : Pkt) (s : State) : Out := .next (s.command cSecFuseProgram p)

/-- The life cycle advances: bits of the thermometer code are blown, none is cleared (R643, R644, R661). -/
def State.lcAdvance (s : State) (v : Nat) : State :=
  let s := (s.burn (fun f => { f with lifecycle := f.lifecycle ||| v, secretBlown := f.secretBlown || v = 7 })).secEvent 6 0 0
  if v ≠ 7 then s
  else
    let l := s.sec.owed
    ({ s.clearSecrets with sec.owed := [] }).settleAll l St.fuseLocked

def cSecLcAdvance : Cmd where
  op := 0x0505
  pf0 := true
  len := fun _ => 1
  bad := fun _ p => firstBad [(0, !(p.n 0 = 3 || p.n 0 = 7))]
  chk := fun s p => need (s.sec.fuses.lc = 1 || (s.sec.fuses.lc = 3 && p.n 0 = 7)) St.fuseLocked
  holds := fun _ _ => fuseHolds
  grps := fun _ => [gid 5 2047]
  run := fun s p => (s.lcAdvance (p.n 0)).succeed p

/-- SEC_LC_ADVANCE (R644, R645, R661). -/
def execSecLcAdvance (p : Pkt) (s : State) : Out := .next (s.command cSecLcAdvance p)

/-- SVN of an image, 0 where there is none. -/
def svnOf (im : Option Image) : Nat := match im with | some x => x.svn | none => 0

/-- The minima named by `m` rise to what is in use (R656). -/
def State.svnCommit (s : State) (m : Nat) : State :=
  let fw := if m % 2 = 1 then s.running_.svn else 0
  let pt := if m / 2 % 2 = 1 then svnOf s.sec.inPatch else 0
  let cl := if m / 4 % 2 = 1 then svnOf s.sec.inCal else 0
  (s.burn (fun f => { f with minFw := max f.minFw fw, minPatch := max f.minPatch pt, minCal := max f.minCal cl })).secEvent 7 0 0

def cSecSvnCommit : Cmd where
  op := 0x0506
  pf0 := true
  len := fun _ => 1
  bad := fun _ p => firstBad [(0, 7 < p.n 0)]
  chk := fun s _ => s.notDecom
  holds := fun _ _ => fuseHolds
  grps := fun _ => [gid 5 2047]
  run := fun s p => (s.svnCommit (p.n 0)).succeed p

/-- SEC_SVN_COMMIT (R656). -/
def execSecSvnCommit (p : Pkt) (s : State) : Out := .next (s.command cSecSvnCommit p)

/-- The security block may derive the identity: from step 3 of a start-up on, and not while a run that scans the block itself is
in progress (R596, R657). -/
def State.fwRuns (s : State) : Bool :=
  (s.pwr.mode ≠ .off || (match s.pwr.busy with | .startup n => 3 ≤ n | .proofing _ => true | _ => false))
    && (s.bst.why = 0 || (s.bst.left = [] && s.bst.now = []))

/-- IDENTITY_DERIVED (R657). -/
def execIdentityDerived (s : State) : Out :=
  .next (if s.fwRuns = true ∧ ¬ s.sec.keyValid ∧ s.sec.fuses.lc ≠ 7 then
      ({ s with sec.keyValid := true }.secEvent 9 0 0).attestAll
    else s)

/-- The instruction that a JTAG instruction acts as (R660): 0 BYPASS, 1 IDCODE, 2 SAMPLE/PRELOAD, 3 EXTEST. -/
def State.jtagAs (s : State) (i : Nat) : Nat :=
  match i with
  | 1 => 1
  | 2 => if s.sec.fuses.lc ≤ 1 then 2 else 0
  | 3 => if s.on Page.sec F.SEC_JTAG_EXTEST_EN && s.modeNum = 2 && !s.anyBusyPart && decide (s.sec.fuses.lc ≤ 1) then 3 else 0
  | _ => 0

/-- BOUNDARY_SCAN (R660). -/
def execBoundaryScan (instr : Nat) (s : State) : Out := .next { s with sec.jtag := s.jtagAs instr }

end Sys2Proof.Machine
end

