-- ==== Sys2Proof/Machine/StartOps.lean ====
section
/-!
DEFINITION. Machine/StartOps.lean: the retirement map (R571), logic self-test (R593 to R597), what a reset leaves, the
settings restore (R628, R629), and the start-up sequence (R627).
-/

namespace Sys2Proof.Machine
open Sys2Proof

/-- The table without the `n` keys from `lo` on. -/
def cutTab {α : Type} (t : Tab α) (lo n : Nat) : Tab α := t.filter (fun e => !(lo ≤ e.1 && e.1 < lo + n))
/-- The table without the keys of any of these ranges. -/
def cutAll {α : Type} (t : Tab α) (l : List (Nat × Nat)) : Tab α := l.foldl (fun t r => cutTab t r.1 r.2) t

/-! ### The retirement map (R571) -/

/-- Entries of the map, with those on their way into it. -/
def State.allRetired (s : State) : List Retired :=
  s.log.retired ++ s.log.flashQ.filterMap (fun w => match w with | .inl r => some r | .inr _ => none)

/-- Member `i` of group `g` is retired: the spare serves its channel, or the channel is DARK. -/
def State.applyDp (s : State) (g i : Nat) : State :=
  let pg := Page.spare g
  let c := grpChan g i
  let s := s.p pg F.DRV_SPARE_STATUS_RETIRED (setBit (s.g pg F.DRV_SPARE_STATUS_RETIRED) i)
  let st := s.spState g
  if st = 5 ∧ s.serves g = i then s
  else if st = 5 ∨ st = 6 then s.flag (chanPage c) (fldDark c)
  else
    let o := grpChan g (s.serves g)
    let s := s.when (st ≠ 0) (·.unflag (chanPage o) (fldOnSpare o))
    ((s.p pg F.DRV_SPARE_STATUS_SERVING i).setSp g 5).flag (chanPage c) (fldOnSpare c)

/-- The spare of group `g` is retired: a retired datapath that it served leaves its channel DARK. -/
def State.applySpare (s : State) (g : Nat) : State :=
  let c := grpChan g (s.serves g)
  let st := s.spState g
  let s := s.when (st ∈ [2, 5]) (·.unflag (chanPage c) (fldOnSpare c))
  (s.when (st = 5) (·.flag (chanPage c) (fldDark c))).setSp g 6

/-- One entry of the map takes effect; module causes do so in `mapCauses`, and rows hold their repair. -/
def State.applyRetired (s : State) (r : Retired) : State :=
  match r.kind with
  | 0 => s.applyDp (dpGroup r.num).1 (dpGroup r.num).2
  | 1 => s.applySpare r.num
  | 2 => s.flag (chanPage r.num) (fldDark r.num)
  | 3 => (s.p (Page.lane r.num) F.FAB_LANE_STATUS_TX_STATE 3).p (Page.lane r.num) F.FAB_LANE_STATUS_RX_STATE 5
  | 4 => s.p (Page.memCh (r.num / 2)) (if r.num % 2 = 0 then F.MEM_CH_STATUS_RANK0 else F.MEM_CH_STATUS_RANK1) 2
  | 7 => s.flag (Page.bias r.num) F.BIAS_STATUS_DARK
  | 8 => s.flag (Page.mon r.num) F.MON_STATUS_DARK
  | _ => s

/-- A spare that no copy or test occupies any more: only a swap that the host has asked for stands. -/
def State.spareFresh (s : State) (g : Nat) : State :=
  let st := s.spState g
  let c := grpChan g (s.serves g)
  let s := s.p (Page.spare g) F.DRV_SPARE_STATUS_RETIRED 0
  if st = 0 ∨ st = 2 then s else (s.unflag (chanPage c) (fldOnSpare c)).setSp g 0

/-- The whole map takes effect over the restored settings. -/
def State.applyMap (s : State) : State :=
  let s := forEach (List.range 48) s State.spareFresh
  let s := forEach allChans s (fun s c => s.when (s.chanDark c = true) (·.unflag (chanPage c) (fldDark c)))
  let s := forEach [0, 1, 2, 3] s (fun s c =>
    (s.p (Page.memCh c) F.MEM_CH_STATUS_RANK0 0).p (Page.memCh c) F.MEM_CH_STATUS_RANK1 0)
  s.allRetired.foldl State.applyRetired s

/-- Module causes of the map are raised again (R578): a failed channel of DDR4 shows as such. -/
def State.mapCauses (s : State) : State :=
  s.allRetired.foldl (fun s r =>
    if r.kind = 6 then s.raiseSafe (r.num % 2 ^ 8) 0 (r.num / 2 ^ 8 % 2 ^ 16) (r.num / 2 ^ 24) else s) s
def State.mapChannels (s : State) : State :=
  s.allRetired.foldl (fun s r =>
    if r.kind = 6 ∧ r.num % 2 ^ 8 = Cause.memChannelLost
    then s.flag (Page.memCh (r.num / 2 ^ 8 % 4)) F.MEM_CH_STATUS_FAILED else s) s

/-! ### Logic self-test (R593 to R597) -/

/-- Scan-chain length of a domain (R593). -/
def chainLen (d : Nat) : Nat :=
  match (if d < 16 then d % 4 else d) with
  | 0 => 2048 | 1 => 3072 | 2 => 2048 | 3 => 1536 | 17 => 3072 | 19 => 512 | _ => 2048
/-- The time of one pass over a domain, in units of MTIME: 131,072 patterns at 5 ns a bit. -/
def domTime (d : Nat) : Nat := 131072 * chainLen d * 80
/-- The order of a run over every domain (R595). -/
def logicOrder : List Nat := List.range 18 ++ [19, 18]

/-- S of R595. Until the settings are restored, STAGGER has its factory value. -/
def State.stagger (s : State) : Nat :=
  let n := if s.pwr.restored then s.g Page.bst F.BST_CFG_STAGGER else 4
  max 1 (min n ((s.limitE + s.scanCharge - s.committed) / 3000))

/-- Domains start while fewer than S run: domain 18 runs alone. -/
def State.logicFill : Nat → State → State
  | 0, s => s
  | k + 1, s => match s.bst.left with
    | [] => s
    | d :: l =>
      if s.stagger ≤ s.bst.now.length ∨ (d = 18 ∧ s.bst.now ≠ []) ∨ s.bst.now.any (fun x => x.1 = 18) then s
      else State.logicFill k { s with bst.left := l, bst.now := s.bst.now ++ [(d, s.log.mtime.toNat)] }

/-- A logic run of these domains begins: secrets are cleared before one that includes domains from 16 on (R596). -/
def State.logicStart (s : State) (ds : List Nat) (why : Nat) (owed : Option (Nat × Nat)) : State :=
  let s := { s with bst.left := ds, bst.now := [], bst.ended := [], bst.why := why, bst.owed := owed }
  let s := s.flag Page.bst F.BST_STATUS_LOGIC_BUSY
  let s := if ds.any (16 ≤ ·) then s.clearSecrets.secEvent 8 0 0 else s
  s.logicFill 20

def State.logicRuns (s : State) : Bool := s.bst.left ≠ [] || s.bst.now ≠ []

/-- Group and member of slice `i` of a domain that is built from slices (R593, R611). -/
def domSlice (d i : Nat) : Nat × Nat :=
  let q := d / 4
  if d % 4 = 0 then
    if i < 32 then (4 * q + i / 8, i % 8)
    else if i < 64 then (16 + 4 * q + (i - 32) / 8, i % 8)
    else if i < 68 then (4 * q + (i - 64), 8) else (16 + 4 * q + (i - 68), 8)
  else
    if i < 8 then (32 + 2 * q + i / 4, i % 4)
    else if i < 16 then (40 + 2 * q + (i - 8) / 4, i % 4)
    else if i < 18 then (32 + 2 * q + (i - 16), 4) else (40 + 2 * q + (i - 18), 4)

/-- A slice has failed (R607): its datapath is retired to its spare, or its spare fails. -/
def State.sliceLost (s : State) (g m : Nat) : State :=
  if m = grpSize g then s.spareFail g else (s.retireDp g m).applyDp g m

/-- A domain has failed (R607); which slice of one that is built from slices, the signature of the domain leaves open. -/
def State.domainFail (s : State) (d : Nat) : State :=
  let v := s.fresh 48
  let s := v.1.logIt Cause.bstFail 0 (gid 9 2047) v.2
  if d < 16 ∧ d % 4 ≤ 1 then
    let v := s.fresh 32
    let x := domSlice d (v.2 % (if d % 4 = 0 then 72 else 20))
    v.1.sliceLost x.1 x.2
  else s.moduleFault Cause.asicLost (gid 9 2047) (if d < 16 then d / 4 else 4)

/-- A domain's result (R594, R610). -/
def State.domResult (s : State) (d n r : Nat) (sig : W64) : State :=
  let pg := Page.dom d
  let s := s.p64 pg F.BST_DOM_SIG_LO sig.toNat
  (s.setReg (pg + F.BST_DOM_PATTERNS.off) (BitVec.ofNat 32 n)).p pg F.BST_DOM_RESULT_RESULT r

/-- Address ranges of the registers in a domain of quadrant `d / 4` (R593). -/
def domRegs (d : Nat) : List (Nat × Nat) :=
  let q := d / 4
  let b := Page.quad q
  match d % 4 with
  | 0 => [(b, 0x20000), (b + 0x20100, 0x80), (b + 0x80000, 0x20000), (b + 0xA0100, 0x80)]
  | 1 => [(b + 0x100000, 0x10000), (b + 0x110100, 0x80), (b + 0x180000, 0x8000)]
  | 2 => [(b + 0x200000, 0x28000)]
  | _ => [(b + 0x20000, 0x100), (b + 0xA0000, 0x100), (b + 0x110000, 0x100), (b + 0x188000, 0x1000), (b + 0x228000, 0x8000),
          (b + 0x300000, 0x80000), (b + 0x380000, 0x10100), (Page.memCh q, 0x20)]

/-- Every block of a scanned domain is reset (R597): registers other than retained fields, and what the blocks hold beside
them; stores keep their contents. -/
def State.blockReset (s : State) (d : Nat) : State :=
  let q := d / 4
  let r := domRegs d
  let s := { s with regs := cutAll s.regs r, shadow := cutAll s.shadow r }
  match d % 4 with
  | 0 => { s with
      syn.osc := cutTab s.syn.osc (256 * q) 256
      syn.play := cutTab (cutTab s.syn.play (256 * q) 256) (2048 + 64 * q) 64
      syn.outp := cutTab s.syn.outp (32 * q) 32
      syn.flx := cutTab s.syn.flx (32 * q) 32
      syn.spare := cutTab (cutTab s.syn.spare (4 * q) 4) (16 + 4 * q) 4 }
  | 1 => { s with
      syn.osc := cutTab s.syn.osc (1024 + 256 * q) 256
      syn.play := cutTab s.syn.play (1024 + 256 * q) 256
      syn.outp := cutTab s.syn.outp (128 + 8 * q) 8
      syn.spare := cutTab (cutTab s.syn.spare (32 + 2 * q) 2) (40 + 2 * q) 2
      rdo.win := cutTab s.rdo.win (256 * q) 256
      rdo.idx := cutTab s.rdo.idx (256 * q) 256
      rdo.depl := cutTab s.rdo.depl (256 * q) 256
      acq.cu := cutTab s.acq.cu (8 * q) 8 }
  | 2 => { s with sqr.seq := cutTab (cutTab s.sqr.seq (32 * q) 32) (128 + 8 * q) 8 }
  | _ => { s with
      bm.bias := cutTab s.bm.bias (128 * q) 128
      bm.mon := cutTab s.bm.mon (16 * q) 16
      rdo.kernHeld := [] }

/-- Retained copies and transfers of the spares in a scanned domain end; channels that the governor has shed stay so. -/
def State.blockSettle (s : State) (d : Nat) : State :=
  let q := d / 4
  let gs := match d % 4 with
    | 0 => (List.range' (4 * q) 4) ++ List.range' (16 + 4 * q) 4
    | 1 => (List.range' (32 + 2 * q) 2) ++ List.range' (40 + 2 * q) 2
    | _ => []
  let s := forEach (gs.filter (fun g => s.spState g ∈ [1, 3, 4])) s (fun s g =>
    let c := grpChan g (s.serves g)
    (s.unflag (chanPage c) (fldOnSpare c)).setSp g 0)
  forEach s.pwr.shed s (fun s c => s.flag (chanPage c) (fldShed c))

/-- A logic run is over: the blocks of a run by command are reset, and the command completes. -/
def State.logicOver (s : State) : State :=
  let ds := s.bst.ended
  let w := s.bst.owed
  let passed := (ds.filter (fun x => x.2 = 1)).foldl (fun n x => n + 2 ^ x.1) 0
  let s := (s.unflag Page.bst F.BST_STATUS_LOGIC_BUSY)
  let s := { s with bst.owed := none, bst.ended := if s.bst.why = 0 then [] else ds }
  if s.bst.why ≠ 0 then s
  else
    let s := forEach (ds.map (·.1)) s (fun s d => (s.blockReset d).blockSettle d)
    let s := s.allRetired.foldl State.applyRetired s
    s.settle w St.success passed

/-- A domain reaches its terminal count. -/
def State.domainEnd (s : State) (d : Nat) (sig : W64) : State :=
  let r := if sig = Config.domainSig d then 1 else 2
  let s := s.domResult d 131072 r sig
  let s := { s with bst.now := s.bst.now.filter (fun x => x.1 ≠ d), bst.ended := s.bst.ended ++ [(d, r)] }
  let s := if r = 2 then s.domainFail d else s
  let s := s.logicFill 20
  if s.logicRuns then s else s.logicOver

/-- A logic run stops short: the domains under test are INCOMPLETE (R594), with the patterns applied. -/
def State.logicStop (s : State) : State :=
  let t := s.log.mtime.toNat
  let s := s.bst.now.foldl (fun s x =>
    let n := min 131071 ((t - x.2) / (chainLen x.1 * 80))
    let v := s.fresh 64  -- what the signature register holds then is left open
    (v.1.domResult x.1 n 3 (BitVec.ofNat 64 v.2)).flag Page.bst F.BST_STATUS_INCOMPLETE_SEEN) s
  let w := s.bst.owed
  ({ s with bst.left := [], bst.now := [], bst.ended := [], bst.owed := none }.unflag
    Page.bst F.BST_STATUS_LOGIC_BUSY).settle w St.aborted

/-! ### Resets (R14, R52, R580, R589) -/

/-- Registers that keep their values through RESET_N and every entry into OFF with input power present: the anchor states
and epochs (R52, R87), the log, and the results since cold start. -/
def keptReg (a : Nat) : Bool :=
  (0x300100 ≤ a && a < 0x3001A0 && a % 0x20 = 8) || (0xC00000 ≤ a && a < 0x1000000)
    || (0xA00100 ≤ a && a < 0xA00240)

/-- Fabric lanes keep the losses of lock of the last 24 h (R472). -/
def laneLosses (t : Tab Lane) : Tab Lane :=
  (t.map (fun e => (e.1, { Lane.zero with losses := e.2.losses }))).filter (fun e => e.2 ≠ Lane.zero)

/-- Time domains keep their counts; requests that wait are gone. -/
def domCounts (t : Tab Dom) : Tab Dom :=
  (List.range 5).foldl (fun u d => u.set Dom.zero d { u.get Dom.zero d with pend := none }) t

/-- The module after RESET_N, or at a start-up with input power held: what flash, fuses, retained SRAM and the always-on
domain keep. -/
def State.warmReset (s : State) : State :=
  let z := State.reset
  { z with
    pending := s.pending, free := s.free
    regs := s.regs.filter (fun e => keptReg e.1)
    -- R47, R52: the counts go on; R66: the step permission is set at a cold start only
    tim := { z.tim with texp := s.tim.texp, edge := s.tim.edge, refIn := s.tim.refIn, doms := domCounts s.tim.doms
                        stepOk := s.tim.stepOk }
    syn := { z.syn with errs := s.syn.errs, extMute := s.syn.extMute }
    acq := { z.acq with kin := s.acq.kin }
    mem := { z.mem with hits := s.mem.hits, spareRows := s.mem.spareRows, repairs := s.mem.repairs }
    hif := { z.hif with hostMem := s.hif.hostMem }
    fab := { z.fab with lane := laneLosses s.fab.lane }
    log := s.log
    bst := { z.bst with proofs := s.bst.proofs }
    pwr := { z.pwr with input := s.pwr.input, vin := s.pwr.vin, inRange := s.pwr.inRange, outRange := s.pwr.outRange, last := s.pwr.last, resetN := s.pwr.resetN, enableIn := s.pwr.enableIn
                        retValid := s.pwr.retValid, ret := s.pwr.ret, flash := s.pwr.flash }
    thm := { z.thm with snaps := s.thm.snaps }
    sec := { s.sec with running := 0, inPatch := none, inCal := none, keyValid := false, owed := [], jtag := 0 }
    pins := { s.pins with rdata := 0, chassisAt := none } }

/-- The module at the loss of input power: only flash, fuses and what lies outside it stay. -/
def State.coldReset (s : State) : State :=
  let s := s.warmReset
  { s with
    regs := [], tim := State.reset.tim, syn.errs := [], fab.lane := [], mem.hits := []
    log.ring := [], log.count := 0, log.mtime := 0, log.last := [], log.flashQ := [], log.retried := false
    log.uartQ := [], log.uartLost := 0, log.uart := [], log.uartEnd := 0
    pwr.input := false, pwr.vin := 0, pwr.inRange := none, pwr.outRange := none, pwr.last := 0, pwr.retValid := false, pwr.ret := [] }

/-! ### The settings restore (R628, R629, R653) -/

/-- The factory values with a calibration image's records in record order. -/
def State.factoryRet (s : State) : Tab Word :=
  match s.sec.inCal with
  | none => []
  | some im => (calRecs im.bytes).foldl (fun t r =>
      let a := r.1
      let w := (Tab.get (factoryWord a) t a &&& ~~~ r.2.2.1) ||| (r.2.1 &&& r.2.2.1)
      let t := t.set (factoryWord a) a w
      if isBankOff (a % 0x1000) ∧ 0x1000000 ≤ a ∧ a < 0x2000000 ∧ 0x80000 ≤ a % 0x400000 ∧ a % 0x400000 < 0xA0000
      then t.set (factoryWord a) (actKey a) w else t) []

/-- The settings are loaded: from retained SRAM, from flash, or from the factory values; `ok`: the first source there is
passes its CRC. The location table of R414 lives in retained SRAM only. -/
def State.loadSettings (s : State) (ok : Bool) : State :=
  let kept : Bool := s.pwr.retValid && ok
  let fl := if s.pwr.retValid ∨ ok = true then s.pwr.flash else s.pwr.flash.drop 1
  if kept then ({ s with pwr.restored := true }).p Page.pwr F.PWR_STATUS_SETTINGS_SRC 0
  else
    let t := match fl with | x :: _ => x.2 | [] => s.factoryRet
    let s := { s with pwr.ret := cutTab t 0x801000 0x1000, pwr.restored := true, pwr.retValid := true, mem.hits := [] }
    match fl with
    | _ :: _ => (s.p Page.pwr F.PWR_STATUS_SETTINGS_SRC 1).flag Page.pwr F.PWR_EVENTS_SETTINGS_LOST
    | [] => (s.p Page.pwr F.PWR_STATUS_SETTINGS_SRC 2).flag Page.pwr F.PWR_EVENTS_FACTORY_SETTINGS

/-- Channels in the reverse of the shed order (R617). -/
def State.putByKey (s : State) (c : Nat) : List Nat → List Nat
  | [] => [c]
  | d :: l => if s.shedKey d ≤ s.shedKey c then c :: d :: l else d :: s.putByKey c l
def State.byKey (s : State) (l : List Nat) : List Nat := l.foldr (fun c t => s.putByKey c t) []

/-- Restored enables are admitted one by one over the base load; those that do not fit are SHED. -/
def State.admitRestored (s : State) : List Nat → Nat → State
  | [], _ => s
  | c :: l, used =>
    let k := kindCharge (chanKind c)
    if used + k ≤ s.limitE then s.admitRestored l (used + k)
    else ({ s.flag (chanPage c) (fldShed c) with pwr.shed := s.pwr.shed ++ [c] }).admitRestored l used

def State.restoreEnables (s : State) : State :=
  let s := s.p Page.pwr F.PWR_ENVELOPE_ENVELOPE s.envelope
  s.admitRestored (s.byKey (allChans.filter (fun c => s.chanOn c && !s.chanDark c))) 14000

/-- Each cell's Q starts at INIT (R549). -/
def State.cellsInit (s : State) : State :=
  forEach ((List.range 64).filter (fun c => s.cellF c F.EVR_CELL_CFG_INIT = 1)) s
    (fun s c => s.flag (Page.evcell c) F.EVR_CELL_STATE_Q)

/-- Step 8 of R627: the calibration image is verified and applied, the settings are restored, and the map holds over them. -/
def State.restoreAll (s : State) (ok : Bool) : State :=
  let s := match s.sec.cal with
    | none => s
    | some im => if s.imgOk 3 im then { s with sec.inCal := some im } else s.imgRefused 3 im.version St.rollback
  let s := ((s.loadSettings ok).applyMap).mapChannels
  let s := s.restoreEnables.cellsInit.fabStart
  -- a restored unit is enabled, and its target takes effect (R77)
  forEach ((List.range 32).filter (fun n => s.on (Page.ttu n) F.TTU_CTRL_ENABLE)) s State.ttuArm

/-! ### The start-up sequence (R627) -/

/-- Step `n` begins. -/
def State.stepBegin (s : State) (n : Nat) : State :=
  let s := { s with pwr.busy := .startup n }
  match n with
  | 6 => if s.pwr.credit then { s with pwr.busy := .startup 7 } else s.logicStart logicOrder 1 none
  | 10 => { s with mem.initLeft := List.range 11 }
  | 11 =>
    let s := s.convUp
    if s.refOk then (s.flag Page.tim F.TIM_STATUS_PLL_LOCK).alignStart else s
  | _ => s

/-- The start-up sequence begins, after input power was applied or without credit. -/
def State.startBegin (s : State) (cold : Bool) : State :=
  let s := s.warmReset
  ({ s with pwr.cold := cold }).stepBegin 1

/-- A start without credit; with the input measured outside its operating range it waits for it (R612, R621), as without
PRESENT (R667). -/
def State.startAgain (s : State) : State :=
  if (s.pwr.vin ≠ 0 ∧ ¬ (900 ≤ s.pwr.vin ∧ s.pwr.vin ≤ 6000)) ∨ ¬ s.pins.present then { s with pwr.waitIn := true } else s.startBegin false

/-- Whether the step in progress can end. -/
def State.stepReady (s : State) (n : Nat) : Bool :=
  match n with
  | 3 => !s.recovery && s.sec.fuses.lc ≠ 0  -- a module in FACTORY starts no firmware (R644)
  | 6 => !s.logicRuns
  | 10 => s.mem.initLeft = []
  | 11 | 12 => s.tim.tries = none || !s.refOk
  | _ => true

/-- Firmware is selected (R654); `ok`: the slot tried first is whole. -/
def State.firmware (s : State) (ok : Bool) : State :=
  let a := (s.slotImg 0).getD factoryImage
  let ord := match s.sec.fwB with
    | some b => if a.version < b.version then [(1, b), (0, a)] else [(0, a), (1, b)]
    | none => [(0, a)]
  let good := fun (x : Nat × Image) (i : Nat) => (i ≠ 0 || ok) && s.imgOk 1 x.2
  let s := s.p Page.sec F.SEC_FW_SLOT_A_VALID (if ord.zipIdx.any (fun x => x.1.1 = 0 && good x.1 x.2) then 1 else 0)
  let s := s.p Page.sec F.SEC_FW_SLOT_B_VALID (if ord.zipIdx.any (fun x => x.1.1 = 1 && good x.1 x.2) then 1 else 0)
  match ord.zipIdx.find? (fun x => good x.1 x.2) with
  | some x =>
    let s := { s with sec.running := x.1.1 }.setReg (Page.hrt + F.HRT_VERSION_FW_FW.off) (BitVec.ofNat 32 x.1.2.version)
    if x.2 = 0 then s else (s.flag Page.sec F.SEC_STATUS_FW_FALLBACK).secEvent 2 1 x.1.2.version
  | none => (s.flag Page.sec F.SEC_STATUS_RECOVERY).secEvent 3 1 0

/-- Bytes of words, and words of bytes, least significant first. -/
def bytesWords (b : List Byte) : List Word := (chunks 4 (b.length / 4) b).map (BitVec.ofNat 32)

/-- The digest that a proofing record holds of the firmware that runs (R600). -/
def State.fwDigest (s : State) : List Word := bytesWords (fit 32 (Config.shake256 32 s.running_.bytes))

/-- The newest proofing record is marked as used by a start (R602). -/
def State.proofUse (s : State) : State :=
  match s.bst.proofs with
  | r :: l =>
    if r.used then s
    else
      let v := s.fresh 32
      { v.1 with bst.proofs := { r with used := true, useWord := BitVec.ofNat 32 v.2 } :: l }
  | [] => s

/-- Proofing credit is decided (R602); `ok`: the input rose as condition 5 asks. -/
def State.credit (s : State) (ok : Bool) : State :=
  let x := s.bst.proofs.head?
  let c1 := s.pwr.cold
  let res := match x with | some r => (r.words.getD 0 0).toNat / 2 ^ 24 % 4 | none => 0
  let c2 : Bool := match x with | some r => res = 0 && !r.used | none => false
  let c3 : Bool := match x with | some r => !r.anomaly | none => true
  let c4 : Bool := match x with | some r => (r.words.drop 8).take 8 = s.fwDigest | none => false
  let f := fun (b : Bool) (k : Nat) => if b then 0 else k
  let failed := f c1 1 + f c2 2 + f c3 4 + f c4 8 + f ok 16
  let s := ((s.p Page.bst F.BST_PROOF_FAILED failed).p Page.bst F.BST_PROOF_RESULT res).setReg
    (Page.bst + F.BST_PASS_NUMBER.off) (match x with | some r => r.words.getD 1 0 | none => 0)
  let s := s.proofUse
  let s := s.p Page.bst F.BST_STATUS_CREDIT (if failed = 0 then 1 else 0)
  { s with pwr.credit := failed = 0 }

/-- A march has found failing rows, each store + 16 × quadrant + 64 × row (R598, R607). -/
def State.marchBad (s : State) (bad : List Nat) : State :=
  forEach (bad.filter (fun r => 4 ≤ r % 16 ∧ r % 16 ≤ 11)) s (fun s r =>
    let v := s.fresh 48
    (v.1.logIt Cause.bstFail 0 (gid 9 2047) v.2).rowRepair (r % 16) (r / 16 % 4) (r / 64))

/-- Fuses burned before this start are loaded (R645, R646). -/
def State.loadFuses (s : State) : State :=
  let s : State := { s with sec.fuses := s.burned, sec.pendFuses := none }
  let bad : Bool := ((lastMap s.sec.fuses.pmaps).getD []).any (fun e => decide (5 ≤ e.2))
  let s := s.when (bad = true) (·.flag Page.sec F.SEC_STATUS_PMAP_FAULT)
  s.setReg (Page.hrt + F.HRT_VERSION_ROM_ROM.off) (Config.romVersion.setWidth 32)

/-- The converters are up, calibrated and aligned. A reference that is absent is a SAFE cause (R578). -/
def State.convStart (s : State) : State :=
  if s.refOk ∨ s.safePending % 2 = 1 then s else s.raiseSafe Cause.refLost 0 (gid 3 2047) 0

/-- The start ends: in SAFE while a cause stands, else in READY (R578). -/
def State.startEnd (s : State) : State :=
  let s := { s with pwr.busy := .none }
  if s.safePending ≠ 0 then
    (({ s with pwr.mode := .safe }).flag Page.log F.LOG_STATUS_SAFE).flxAllUp.settleMode
  else
    (({ s with pwr.mode := .ready }).unflag Page.log F.LOG_STATUS_SAFE).flxAllUp.settleMode.autoRestore

/-- What the end of step `n` brings. -/
def State.stepEffect (s : State) (n : Nat) (ok : Bool) (bad : List Nat) : State :=
  match n with
  | 2 => s.loadFuses
  | 3 => s.firmware ok
  | 4 => s.credit ok
  | 5 => s.mapCauses
  | 7 => s.marchBad bad
  | 8 => s.restoreAll ok
  | 9 => (match s.sec.patch with
    | some im => if ok ∧ s.imgOk 2 im then s.patchIn im else s.imgRefused 2 im.version St.signatureInvalid
    | none => s)
  | 11 => s.convStart
  | _ => s

/-- A stopped start-up: the module waits in OFF, or starts again (R626). -/
def State.startStop (s : State) : State :=
  let s := { s with pwr.busy := .none, pwr.stopping := false, pwr.convOn := false, tim.tries := none }
  let s := forEach s.biasList s State.biasOff
  if s.pwr.again then s.startAgain else s

end Sys2Proof.Machine
end

