-- ==== Sys2Proof/Machine/BstRows.lean ====
section
/-!
DEFINITION. Machine/BstRows.lean: self-test: logic runs by command (R595, R608), slice turns and tests (R603 to R605), the
analogue checks (R606), and the proofing record's readers (R601, R608).
-/

namespace Sys2Proof.Machine
open Sys2Proof

/-- The registers that a BST command holds (R608). -/
def bstHolds : List (Nat × Nat) := [(Page.bst, 0x1000)]

/-- A command of R608. -/
def bstCmd (op n : Nat) (bad : State → Pkt → Option Nat) (chk : State → Pkt → Option Fail) (run : State → Pkt → State) : Cmd where
  op := op
  pf0 := true
  len := fun _ => n
  bad := bad
  chk := chk
  holds := fun _ _ => bstHolds
  grps := fun _ => [gid 9 2047]
  run := run

/-! ### The logic test by command (R595, R608) -/

/-- Domains that a mask names, ascending. -/
def maskDoms (m : Nat) : List Nat := (List.range 16).filter (fun d => m / 2 ^ d % 2 = 1)

/-- Partition `p` is IDLE or owns nothing of quadrant `q`; flux and bias outputs of the quadrant are disabled. -/
def State.quadFree (s : State) (q : Nat) : Bool :=
  [0, 1, 2, 3, 4].all (fun p => s.idle p || !s.ownsQuad p q)
    && (List.range 32).all (fun c => !s.on (Page.flx (32 * q + c)) F.FLX_CTRL_ENABLE)
    && (List.range 128).all (fun c => !s.on (Page.bias (128 * q + c)) F.BIAS_CTRL_ENABLE)

def State.logicBad (s : State) (m : Nat) : Bool :=
  s.modeNum ≠ 2 || s.pwr.busy ≠ .none || s.logicRuns || s.mem.march.run
    || !((maskDoms m).all (fun d => s.quadFree (d / 4)))

/-- A run by command: slice tests of its quadrants end first, the tested slices returning at once. -/
def State.logicCmd (s : State) (p : Pkt) : State :=
  let ds := maskDoms (p.n 0)
  if ds = [] then s.succeed p
  else
    let qs := ds.map (· / 4)
    let gs := (List.range 48).filter (fun g =>
      (if g < 32 then g % 16 / 4 else g % 8 / 2) ∈ qs)
    (forEach gs s State.sliceSafe).logicStart ds 0 p.who

def cBstLogicRun : Cmd :=
  bstCmd 0x0A00 1 (fun _ p => firstBad [(0, p.n 0 ≥ 2 ^ 16)]) (fun s p => need (!s.logicBad (p.n 0)) St.badState) State.logicCmd

/-- BST_LOGIC_RUN (R595, R608): it completes with the last domain. -/
def execBstLogicRun (p : Pkt) (s : State) : Out := .next (s.command cBstLogicRun p)

/-- DOMAIN_TEST_END (R593 to R597): domain `d` reaches its terminal count with signature `sig`. -/
def execDomainTestEnd (d : Nat) (sig : BitVec 64) (s : State) : Out :=
  .next (match s.bst.now.find? (fun x => x.1 = d) with
    | some x => if x.2 + domTime d ≤ s.log.mtime.toNat then s.domainEnd d sig else s
    | none => s)

/-! ### Slice turns (R603) -/

/-- Lanes of the channels of sequencer `q`. -/
def seqLanes (q : Nat) : List Nat := outLanes q ++ (if q < 128 then [2048 + 2 * q, 2049 + 2 * q] else [])

/-- A window of the sequencer of channel `c` with `n` ticks left: an enabled sequencer whose partition is IDLE counts as in
a permanent one (R197, R198). -/
def State.window (s : State) (c n : Nat) : Bool :=
  let q := chanSeq c
  let p := s.owner q
  let t := s.tk p
  (s.on (Page.seq q) F.SEQ_CTRL_ENABLE && s.idle p)
    || (match (s.sqs q).testwin with
        | some e => t + n ≤ e && !((seqLanes q).any (fun k => s.laneSounds k (s.cnt p).toNat))
        | none => false)

/-- A swap or a release of group `g` may start for member `i`: at most one in each window. -/
def State.windowOpen (s : State) (g i : Nat) : Bool :=
  let q := chanSeq (grpChan g i)
  s.window (grpChan g i) 2048 && !((s.sqs q).testwin.isSome && decide (g ∈ (s.sqs q).winSwaps))
/-- The window of member `i` has had its swap or release of group `g`. -/
def State.windowUse (s : State) (g i : Nat) : State :=
  let q := chanSeq (grpChan g i)
  if (s.sqs q).testwin.isSome then s.setSq q { s.sqs q with winSwaps := g :: (s.sqs q).winSwaps } else s

/-- What a turn that waits does now: a spare that is IDLE is tested, or is given to a datapath in its window; a tested slice
returns in the first later window. -/
def State.turnStep (s : State) (g : Nat) : State :=
  let x := s.slice g
  let m := x.member
  if s.slSt g = 0 ∧ s.spState g = 2 ∧ s.serves g ∈ (s.spare g).held ∧ s.pwr.mode = .ready ∧ s.pwr.busy = .none then
    -- the test of a datapath held out of service is repeated (R569)
    (s.sliceBegin g (s.serves g) true).setSp g 4
  else if s.slSt g = 1 ∧ s.spState g = 0 then
    if m = grpSize g then s.sliceBegin g m false
    else if s.dpRetired g m then (s.setSl g 0).setSlice g { x with owed := none } |>.settle x.owed St.success
    else if s.windowOpen g m then (s.windowUse g m).spareGo g m none true
    else s
  else if s.slSt g = 3 ∧ s.spState g = 2 then
    if s.windowOpen g (s.serves g) then (s.windowUse g (s.serves g)).spareReturn g none else s
  else s

/-- A turn of member `m` waits, for at most WAIT seconds. -/
def State.turnWait (s : State) (g m : Nat) (owed : Option (Nat × Nat)) : State :=
  let e := s.log.mtime.toNat + secs (max 1 (s.g Page.bst F.BST_CFG_WAIT))
  ((s.setSlice g { s.slice g with member := m, until_ := e, owed := owed, forced := false }).setSl g 1).turnStep g

def State.turnNext (s : State) (g : Nat) : Nat := s.g (Page.grpS g) F.BST_GRP_STATE_NEXT
/-- NEXT passes on to the next member: the datapaths in channel order and then the spare. -/
def State.turnPass (s : State) (g : Nat) : State :=
  s.p (Page.grpS g) F.BST_GRP_STATE_NEXT ((s.turnNext g + 1) % (grpSize g + 1))

/-- MTIME `t` (plus 1, if it has come at all) lies at least PERIOD in the past. -/
def State.periodOver (s : State) (t : Nat) : Bool :=
  t = 0 || t - 1 + secs (max 1 (s.g Page.bst F.BST_CFG_PERIOD)) ≤ s.log.mtime.toNat

/-- The groups' turns are staggered evenly across PERIOD: the number of the turn of group `g` that is due at MTIME `t`,
group 0's first coming with the first PERIOD. -/
def State.turnSlot (s : State) (g t : Nat) : Nat :=
  let p := secs (max 1 (s.g Page.bst F.BST_CFG_PERIOD))
  (t + (48 - g) * p / 48) / p
/-- A turn of group `g` has come due since its last one (R603). -/
def State.turnDue (s : State) (g : Nat) : Bool := s.turnSlot g (s.bst.turns.get 0 g - 1) < s.turnSlot g s.log.mtime.toNat

/-- SLICE_TURN (R603): every PERIOD, each group at its own part of it. -/
def execSliceTurn (g : Nat) (s : State) : Out :=
  .next (if 48 ≤ g ∨ s.pwr.mode ≠ .ready ∨ s.pwr.busy ≠ .none ∨ s.logicRuns ∨ ¬ s.on Page.bst F.BST_CFG_PERIODIC
        ∨ s.slSt g ≠ 0 ∨ ¬ s.turnDue g then s
    else
      let s := { s with bst.turns := s.bst.turns.set 0 g (s.log.mtime.toNat + 1) }
      let m := s.turnNext g
      if m < grpSize g ∧ s.dpRetired g m = true then s.turnPass g
      else if m = grpSize g ∧ (s.spState g = 5 ∨ s.spState g = 6) then s.turnPass g
      else s.turnWait g m none)

/-- A turn without a usable window is over: SKIPPED counts it. -/
def State.turnSkip (s : State) (g : Nat) : State :=
  let x := s.slice g
  let s := ((s.setSl g 0).bump Page.bst F.BST_SKIPPED).flag Page.bst F.BST_STATUS_WINDOW_MISSING
  let s := s.when (x.owed = none) (·.turnPass g)
  (s.setSlice g { x with owed := none }).settle x.owed St.success

/-- TURN_WAIT_EXPIRE (R603). -/
def execTurnWaitExpire (g : Nat) (s : State) : Out :=
  .next (if g < 48 ∧ s.slSt g = 1 ∧ s.spState g ≠ 1 ∧ (s.slice g).until_ ≤ s.log.mtime.toNat then s.turnSkip g else s)

/-! ### Slice tests (R569, R604, R605) -/

/-- The datapath of a slice that has passed waits to return; one that the host or retirement keeps out stays out. -/
def State.slicePass (s : State) (g m : Nat) (forced : Bool) : State :=
  let x := s.spare g
  let s := if s.spState g = 4 then s.setSp g 2 else s
  if s.spState g ≠ 2 then s.setSl g 0
  else if forced ∧ m ∉ x.held then s.setSl g 0
  else ((s.setSpare g { x with held := x.held.filter (· ≠ m) }).setSl g 3).turnStep g

/-- A slice test reaches its terminal count (R594, R607). -/
def State.sliceDone (s : State) (g : Nat) (sig : W64) : State :=
  let x := s.slice g
  let m := x.member
  let r := if sig = Config.sliceSig g m then 1 else 2
  let s := s.sliceEnd g r 8192 sig
  if m = grpSize g then
    let s := s.setSl g 0
    if r = 2 then s.spareFail g else s
  else if r = 2 then
    let s := (s.setSl g 0).retireDp g m
    if s.spState g = 5 then s.loseWaiting g else s
  else s.slicePass g m x.forced

/-- SLICE_TEST_END (R569, R604). -/
def execSliceTestEnd (g : Nat) (sig : BitVec 64) (s : State) : Out :=
  .next (if g < 48 ∧ s.slSt g = 2 ∧ (s.slice g).t0 + 8192 * patUnits g ≤ s.now then s.sliceDone g sig else s)

/-- A running slice test gives way; the test of R569 is repeated. -/
def State.sliceGiveUp (s : State) (g : Nat) : State :=
  let m := (s.slice g).member
  if s.slSt g ≠ 2 then s
  else
    let s := s.sliceAbandon g
    if m ∈ (s.spare g).held then s.sliceBegin g m true
    else if m ≠ grpSize g ∧ s.spState g = 4 then s.spareReturn g none
    else s

/-- SLICE_TEST_ABANDON (R605): a need that competes ends the running test of group `g`. -/
def execSliceTestAbandon (g : Nat) (s : State) : Out := .next (if g < 48 then s.sliceGiveUp g else s)

/-- BST_STOP ends what runs or waits in group `g`: a tested slice returns at the next window. -/
def State.turnStop (s : State) (g : Nat) : State :=
  let x := s.slice g
  let m := x.member
  match s.slSt g with
  | 1 =>
    let s := (s.setSlice g { x with owed := none }).settle x.owed St.success 3
    -- a swap in progress is completed, and the slice returns at the next window
    if s.spState g = 1 ∧ (s.spare g).forTest then (s.setSpare g { s.spare g with forTest := false }).setSl g 3 else s.setSl g 0
  | 2 =>
    let s := s.sliceAbandon g
    if m ∈ (s.spare g).held then s.sliceBegin g m true
    else if m = grpSize g then s
    else if x.forced then (if s.spState g = 4 then s.setSp g 2 else s)
    else ((if s.spState g = 4 then s.setSp g 2 else s).setSl g 3).turnStep g
  | _ => s

def cBstStop : Cmd where
  op := 0x0A05
  pf0 := true
  grps := fun _ => [gid 9 2047]
  run := fun s p => (forEach (List.range 48) s State.turnStop).succeed p

/-- BST_STOP (R605, R608). -/
def execBstStop (p : Pkt) (s : State) : Out := .next (s.command cBstStop p)

/-- Why BST_SLICE_TEST is refused (R608). -/
def State.sliceBad (s : State) (g m : Nat) : Bool :=
  s.slSt g ≠ 0 || s.logicRuns || !(s.spState g = 0 || (s.spState g = 2 && s.serves g = m && m < grpSize g))
    || (m < grpSize g && s.dpRetired g m)

/-- The member is tested at once, or waits for its window. -/
def State.sliceCmd (s : State) (p : Pkt) : State :=
  let g := p.n 0
  let m := p.n 1
  if s.spState g = 2 then
    (((s.setSlice g { s.slice g with owed := p.who }).sliceBegin g m true).setSp g 4)
  else s.turnWait g m p.who

def cBstSliceTest : Cmd :=
  bstCmd 0x0A01 2 (fun _ p => firstBad [(0, 48 ≤ p.n 0), (1, grpSize (p.n 0) < p.n 1)])
    (fun s p => need (!s.sliceBad (p.n 0) (p.n 1)) St.badState) State.sliceCmd

/-- BST_SLICE_TEST (R603, R608). -/
def execBstSliceTest (p : Pkt) (s : State) : Out := .next (s.command cBstSliceTest p)

/-! ### BST_CFG -/

def bstCfgAt : Nat := Page.bst + 4

def cBstConfig : Cmd :=
  bstCmd 0x0A02 1 (fun s p => s.badImgs p [(0, bstCfgAt)]) (fun s _ => need (!s.on Page.bst F.BST_STATUS_LOGIC_BUSY) St.badState)
    (fun s p => (s.putImg bstCfgAt (p.w 0)).succeed p)

/-- BST_CONFIG (R608). -/
def execBstConfig (p : Pkt) (s : State) : Out := .next (s.command cBstConfig p)

/-! ### Analogue checks (R606) -/

/-- The governed channel of port `ch` of a kind of R608: 0 D, 1 Z, 2 P, 3 A, 4 B, 5 M. -/
def checkChan (kind ch : Nat) : Nat :=
  (match kind with | 0 => 3 | 1 => 4 | 2 => 2 | 3 => 1 | 4 => 5 | _ => 0) * 1024 + ch
def checkOk (kind ch : Nat) : Bool := kind ≤ 5 && ch < kindPorts (chanKind (checkChan kind ch))

/-- SOURCE of a governed channel (R512). -/
def chanGid (c : Nat) : Nat :=
  gid (match chanKind c with | 0 => 18 | 1 | 2 => 14 | 3 => 12 | 4 => 13 | _ => 17) (chanPort c)

/-- When a channel's periodic check may run. -/
def State.checkNow (s : State) (kind ch : Nat) : Bool :=
  match kind with
  | 0 | 2 => s.window (checkChan kind ch) 1024
  | 1 => s.flxQuiet ch && !s.on (Page.flx ch) F.FLX_STATUS_RAMPING
  | 3 => s.window (checkChan kind ch) 0
  | 4 => !(s.bias ch).slewing && (s.bias ch).still + usecs 100 ≤ s.now
  | _ => false

/-- A channel is found stuck for good (R125, R157, R279, R371): it is retired and goes DARK. -/
def State.stuckChan (s : State) (c : Nat) : State :=
  let n := chanPort c
  if s.chanDark c then s
  else match chanKind c with
  | 5 => s.biasLost n Cause.analogStuck
  | 0 => (((s.retire 8 n).logIt Cause.analogStuck (s.chanOwner c) (chanGid c) 0).monStop n).flag (Page.mon n) F.MON_STATUS_DARK
  | _ => ((s.retire 2 c).logIt Cause.analogStuck (s.chanOwner c) (chanGid c) 0).darken c

/-- A check of a channel is judged. -/
def State.checkJudge (s : State) (c : Nat) (fail : Bool) : State :=
  let s := s.bump Page.bst F.BST_ANALOG_CHECKS
  if ¬ fail then { s with bst.fails := s.bst.fails.set false c false }
  else if s.bst.fails.get false c then { s with bst.fails := s.bst.fails.set false c false }.stuckChan c
  else
    ({ s with bst.fails := s.bst.fails.set false c true }.bump Page.bst F.BST_ANALOG_FAILS).flag
      Page.bst F.BST_STATUS_ANALOG_FAIL

/-- ANALOG_CHECK (R606): PERIOD after the channel's last one. `stuck`: the condition of the channel's kind is not met. -/
def execAnalogCheck (kind ch : Nat) (stuck : Bool) (s : State) : Out :=
  .next (if ¬ checkOk kind ch ∨ kind = 5 ∨ s.pwr.mode ≠ .ready ∨ ¬ s.on Page.bst F.BST_CFG_ANALOG_EN
        ∨ s.chanDark (checkChan kind ch) = true ∨ ¬ s.checkNow kind ch
        ∨ ¬ s.periodOver (s.bst.checks.get 0 (checkChan kind ch)) then s
    else
      let c := checkChan kind ch
      { s with bst.checks := s.bst.checks.set 0 c (s.log.mtime.toNat + 1) }.checkJudge c stuck)

def cBstAnalogRun : Cmd where
  op := 0x0A03
  pf0 := true
  tgt := fun t => t < 512
  len := fun _ => 1
  bad := fun _ p => firstBad [(0, !checkOk (p.n 0) p.target)]
  idle := fun _ _ => true
  chk := fun s p => need (s.idle (s.chanOwner (checkChan (p.n 0) p.target))) St.badState
  holds := fun _ _ => bstHolds
  grps := fun _ => [gid 9 2047]
  run := fun s p =>
    let v := s.fresh 1
    (v.1.checkJudge (checkChan (p.n 0) p.target) (v.2 = 0)).succeed p v.2

/-- BST_ANALOG_RUN (R606, R608): whether the port meets its condition, the port itself decides. -/
def execBstAnalogRun (p : Pkt) (s : State) : Out := .next (s.command cBstAnalogRun p)

/-! ### The proofing record (R600, R601, R608) -/

/-- The record, its consumption word and its anomaly word. -/
def State.proofBytes (s : State) : List Byte :=
  match s.bst.proofs with
  | r :: _ => wordBytes (r.words ++ [r.useWord, r.anomWord])
  | [] => List.replicate 136 0

def cBstProofRead : Cmd :=
  bstCmd 0x0A04 2 (fun _ p => firstBad [misaligned p 0]) (fun _ _ => none)
    (fun s p => (s.hostWrite (p.w64 0) s.proofBytes).succeed p)

/-- BST_PROOF_READ (R608). -/
def execBstProofRead (p : Pkt) (s : State) : Out := .next (s.command cBstProofRead p)

/-- PROOF_ANOMALY (R601): `kind` 0 overvoltage, 1 a thermal crossing. How the word codes it is left open. -/
def execProofAnomaly (kind : Nat) (s : State) : Out :=
  .next (if ¬ s.bst.after ∨ ¬ s.pwr.input ∨ 2 ≤ kind then s else
    match s.bst.proofs with
    | r :: l =>
      let v := s.fresh 32
      { v.1 with bst.proofs := { r with anomaly := true, anomWord := BitVec.ofNat 32 v.2 } :: l }
    | [] => s)

end Sys2Proof.Machine
end

