-- ==== Sys2Proof/Machine/EvrRows.lean ====
section
/-!
DEFINITION. Machine/EvrRows.lean: the event router's commands, register actions and events (R543 to R563).
-/

namespace Sys2Proof.Machine
open Sys2Proof

/-- Fields of an EVR_CHAN_CFG image in a command (R559). -/
def chanCfgFlds : List Fld := [F.EVR_CHAN_CFG_ENABLE, F.EVR_CHAN_CFG_AO, F.EVR_CHAN_CFG_WAKE, F.EVR_CHAN_CFG_RATE_MAX]

/-- A VF's packet may not change AO or WAKE (R559, R561). -/
def State.aoFail (s : State) (p : Pkt) : Option Fail :=
  if wget (p.w 0) 10 9 ≠ wget (s.reg (Page.evch p.target)) 10 9 then some (Fail.atWord St.invalidParam 0) else none

def cEvrChanSet : Cmd where
  op := 0x0200
  tgt := fun t => t < 256
  view := fun s p => firstOf [ownTarget (s.evOwner p.target) p, s.aoFail p]
  len := fun _ => 1
  bad := fun s p => firstBad [(0, s.badImg p.fn (Page.evch p.target) chanCfgFlds (p.w 0))]
  holds := fun _ p => [(Page.evch p.target, 4)]
  grps := fun p => [gid 2 p.target]
  run := fun s p => (s.putBits (Page.evch p.target) (fldMask chanCfgFlds) (p.w 0)).succeed p

/-- EVR_CHAN_SET (R559). -/
def execEvrChanSet (p : Pkt) (s : State) : Out := .next (s.command cEvrChanSet p)

/-- The words of EVR_CELL_STAGE and the staged registers of cell `c`. -/
def cellWords (c : Nat) : List (Nat × Nat) := wordsAt (Page.evcell c) 0 [0, 4, 8]

def cEvrCellStage : Cmd where
  op := 0x0201
  tgt := fun t => t < 64
  view := fun s p => ownTarget (s.cellOwner p.target) p
  len := fun _ => 3
  bad := fun s p => s.badImgs p (cellWords p.target)
  holds := fun _ p => [(Page.evcell p.target, 0xC)]
  grps := fun p => [gid 2 (256 + p.target)]
  run := fun s p => (s.putImgs p (cellWords p.target)).succeed p

/-- EVR_CELL_STAGE (R552, R559). -/
def execEvrCellStage (p : Pkt) (s : State) : Out := .next (s.command cEvrCellStage p)

/-- A VF owns the entry that it stages, and the source that it names (R434, R559, R563). -/
def State.pubFail (s : State) (p : Pkt) : Option Fail :=
  firstOf [ownTarget (s.srcOwner (s.g (Page.evpub p.target) F.EVR_PUB_SRC)) p,
    if s.srcOwner (wget (p.w 0) 9 0) ≠ p.fn then some (Fail.atWord St.invalidParam 0) else none]

def cEvrPubStage : Cmd where
  op := 0x0202
  tgt := fun t => t < 64
  view := fun s p => s.pubFail p
  len := fun _ => 1
  bad := fun s p => s.badImgs p [(0, Page.evpub p.target)]
  holds := fun _ p => [(Page.evpub p.target, 4)]
  grps := fun _ => [gid 2 2047]
  run := fun s p => (s.putImg (Page.evpub p.target) (p.w 0)).succeed p

/-- EVR_PUB_STAGE (R552, R559). -/
def execEvrPubStage (p : Pkt) (s : State) : Out := .next (s.command cEvrPubStage p)

/-- The staged registers that a commit or discard by `fn` takes in (R552, R559). -/
def State.staged (s : State) (fn : Nat) : List (Nat × Nat) :=
  ((List.range 64).filter (fun c => full fn || s.cellOwner c = fn)).map (fun c => (Page.evcell c, 0xC))
  ++ ((List.range 64).filter (fun e => full fn || s.srcOwner (s.g (Page.evpub e) F.EVR_PUB_SRC) = fn)).map
      (fun e => (Page.evpub e, 4))

def cEvrCommit : Cmd where
  op := 0x0203
  holds := fun s p => s.staged p.fn
  grps := fun _ => [gid 2 2047]
  run := fun s p =>
    let r := s.evrCommit p.fn
    r.1.finish p (.plain r.2.1) r.2.2

/-- EVR_COMMIT (R552, R553). -/
def execEvrCommit (p : Pkt) (s : State) : Out := .next (s.command cEvrCommit p)

/-- EVR_CTRL.COMMIT (R552). -/
def execEvrCtrlCommit (fn : Nat) (s : State) : Out := .next (s.onWrite fn (Page.evr + 4) (fun s => (s.evrCommit fn).1))

def cEvrDiscard : Cmd where
  op := 0x0204
  holds := fun s p => s.staged p.fn
  grps := fun _ => [gid 2 2047]
  run := fun s p => (s.evrDiscard p.fn).succeed p

/-- EVR_DISCARD (R559). -/
def execEvrDiscard (p : Pkt) (s : State) : Out := .next (s.command cEvrDiscard p)

/-- EVR_CTRL.DISCARD (R560). -/
def execEvrCtrlDiscard (fn : Nat) (s : State) : Out := .next (s.onWrite fn (Page.evr + 4) (·.evrDiscard fn))

/-- The channel of EVR_PUBLISH, if the caller may publish on it (R543, R559). -/
def State.pubTarget (s : State) (p : Pkt) : Option Fail := if s.mayPublish p.fn p.target then none else some Fail.target

def cEvrPublish : Cmd where
  op := 0x0205
  tgt := fun t => t < 256
  view := fun s p => s.pubTarget p
  chk := fun s p => s.pubTarget p
  grps := fun p => [gid 2 p.target]
  run := fun s p => (s.publish p.fn p.target).succeed p

/-- EVR_PUBLISH (R543, R559). -/
def execEvrPublish (p : Pkt) (s : State) : Out := .next (s.command cEvrPublish p)

/-- EVR_SW_PUB (R543, R560). -/
def execEvrSwPub (fn ch : Nat) (s : State) : Out :=
  .next (s.onWrite fn (Page.evr + 0xC) (·.publish fn (ch % 256)))

/-- EVENT_PUBLICATION (R543 to R548): a source of the publisher table, or a producer that names its channel. -/
def execEventPublication (o : EvSrc) (s : State) : Out :=
  .next (match o with
    | .table n => s.publishSrc n
    | .direct own ch => if ch < 256 then s.publish own ch else s)

/-- A write to channel `ch`'s registers: a VF writes its own channels only (R561). -/
def State.evchWrite (s : State) (fn ch : Nat) (f : State → State) : State :=
  if ¬ full fn ∧ s.evOwner ch ≠ fn then s.deny fn else f s

/-- CHAN_RATE_TRIP_CLEAR (R555). -/
def execChanRateTripClear (fn ch : Nat) (s : State) : Out :=
  .next (if ch < 256 then
      s.onWrite fn (Page.evch ch + 4) (·.evchWrite fn ch (·.unflag (Page.evch ch) F.EVR_CHAN_STATUS_RATE_TRIP))
    else s)

/-- A held change reaches the publication stage (R550). -/
def State.cellSettle (s : State) (c : Nat) : State :=
  let x := s.evr.cell.get Cell.zero c
  let s := { s with evr.cell := s.evr.cell.set Cell.zero c ⟨x.out, x.out, 0⟩ }
  s.when (outFires (s.cellF c F.EVR_CELL_CFG_OUT_MODE) x.pub x.out) (·.cellFire c)

/-- CELL_FILTER_SETTLED (R550): once the change has held for FILT always-on edges. -/
def execCellFilterSettled (c : Nat) (s : State) : Out :=
  .next (let x := s.evr.cell.get Cell.zero c
    let n := s.cellF c F.EVR_CELL_CFG_FILT
    if c ∈ s.liveCells ∧ n ≠ 0 ∧ x.out ≠ x.pub ∧ n ≤ x.held then s.cellSettle c else s)

end Sys2Proof.Machine
end

