-- ==== Sys2Proof/Machine/FlxRows.lean ====
section
/-!
DEFINITION. Machine/FlxRows.lean: the flux chapter's commands and events (R147 to R153, R156, R158).
-/

namespace Sys2Proof.Machine
open Sys2Proof

/-- Governed number of flux channel `n`. -/
def flxChan (n : Nat) : Nat := 4 * 1024 + n
/-- The fields of FLX_CTRL that FLX_CONFIG writes. -/
def flxCtrlFlds : List Fld := [F.FLX_CTRL_ENABLE, F.FLX_CTRL_SPAN, F.FLX_CTRL_RAMP_EXP]

/-- SPAN is written (R151). A write that repeats SPAN writes nothing: DESIGN CHOICE (log entry 60). -/
def State.flxSpan (s : State) (n v : Nat) : State :=
  let pg := Page.flx n
  if v = s.g pg F.FLX_CTRL_SPAN then s
  else if s.on pg F.FLX_CTRL_ENABLE then s.flag pg F.FLX_STATUS_SPAN_REFUSED
  else s.p pg F.FLX_CTRL_SPAN v

/-- PARK is written: an enabled quiet channel ramps to it (R150). A write that repeats PARK starts no ramp: DESIGN CHOICE (log
entry 60). -/
def State.flxPark (s : State) (n v : Nat) : State :=
  if v = s.g (Page.flx n) F.FLX_PARK_PARK then s
  else
    let s := s.p (Page.flx n) F.FLX_PARK_PARK v
    if s.flxActive n && s.flxQuiet n then s.flxRamp n (256 * s.park n) else s

def cFlxConfig : Cmd where
  op := 0x1100
  tgt := fun t => t < 128
  view := fun s p => ownTarget (s.owner p.target) p
  len := fun _ => 3
  bad := fun s p => firstBad [(0, s.badImg p.fn (Page.flx p.target) flxCtrlFlds (p.w 0)),
    (1, s.badReg p.fn (Page.flx p.target + 8) (p.w 1)), (2, s.badReg p.fn (Page.flx p.target + 0x10) (p.w 2))]
  idle := fun _ _ => true
  chk := fun s p => firstOf [need (s.idle (s.owner p.target)) St.badState,
    need (s.enableOk (flxChan p.target) (wget (p.w 0) 0 0)) St.powerLimit]
  holds := fun _ p => [(Page.flx p.target, 0x1000)]
  grps := fun p => [gid 13 p.target]
  run := fun s p =>
    let n := p.target
    let s := (s.flxSpan n (wget (p.w 0) 2 1)).p (Page.flx n) F.FLX_CTRL_RAMP_EXP (wget (p.w 0) 12 8)
    let s := s.setEnable (flxChan n) (wget (p.w 0) 0 0)
    let s := (s.flxPark n (wget (p.w 1) 15 0)).putImg (Page.flx n + 0x10) (p.w 2)
    if s.on (Page.flx n) F.FLX_STATUS_RAMPING then s.setFlx n { s.flx n with owed := p.who }
    else s.finishDark p (s.chanDark (flxChan n))

/-- FLX_CONFIG (R150, R151, R153, R158): it completes when any ramp ends. -/
def execFlxConfig (p : Pkt) (s : State) : Out := .next (s.command cFlxConfig p)

def cFlxGainSet : Cmd where
  op := 0x1101
  tgt := fun t => t < 128
  view := fun s p => ownTarget (s.owner p.target) p
  len := fun _ => 1
  bad := fun s p => s.badImgs p [(0, Page.flx p.target + 0xC)]
  holds := fun _ p => [(Page.flx p.target, 0x1000)]
  grps := fun p => [gid 13 p.target]
  run := fun s p => (s.putImg (Page.flx p.target + 0xC) (p.w 0)).succeed p

/-- FLX_GAIN_SET (R158). -/
def execFlxGainSet (p : Pkt) (s : State) : Out := .next (s.command cFlxGainSet p)

/-- Words 0 to 52 of FLX_PD_LOAD with the bank registers of channel `n`. -/
def pdWords (n : Nat) : List (Nat × Nat) := wordsAt (Page.flx n) 0 bankOffs
/-- The first A1 word at fault by R148, if commit is requested. -/
def pdBad (p : Pkt) : Option Nat :=
  if p.n 53 = 1 then
    (badA1 (p.n 52) (fun i => sext 24 (wget (p.w (3 * i + 2)) 23 0))).map (fun i => 3 * i + 2)
  else none

def cFlxPdLoad : Cmd where
  op := 0x1102
  tgt := fun t => t < 128
  view := fun s p => ownTarget (s.owner p.target) p
  len := fun _ => 54
  bad := fun s p => match s.badImgs p (pdWords p.target) with
    | some i => some i
    | none => firstBad [(53, 1 < p.n 53)]
  chk := fun s p => firstOf [need (!s.on (Page.flx p.target) F.FLX_STATUS_COMMIT_PENDING) St.badState,
    (pdBad p).map (fun i => .atWord St.invalidParam i)]
  rej := fun s p f =>
    if s.badImgs p (pdWords p.target) = none ∧ p.n 53 = 1 ∧ (pdBad p).map (fun i => Fail.atWord St.invalidParam i) = some f
    then s.flag (Page.flx p.target) F.FLX_STATUS_PD_REJECT else s
  holds := fun _ p => [(Page.flx p.target, 0x1000)]
  grps := fun p => [gid 13 p.target]
  run := fun s p =>
    let s := s.putImgs p (pdWords p.target)
    (if p.n 53 = 1 then s.bankCommit p.target else s).succeed p

/-- FLX_PD_LOAD (R147, R148, R158). -/
def execFlxPdLoad (p : Pkt) (s : State) : Out := .next (s.command cFlxPdLoad p)

/-- FLX_PD_COMMIT (R148, R159). -/
def execFlxPdCommit (fn ch : Nat) (s : State) : Out :=
  .next (if ch < 128 then s.onWrite fn (Page.flx ch + 0x14) (·.bankCommit ch) else s)

def cFlxSpareSwap : Cmd where
  op := 0x1103
  pf0 := true
  tgt := fun t => t < 128
  chk := fun s p => need (!s.swapBad (16 + p.target / 8) (p.target % 8)) St.badState
  rej := rejSpare (fun p => 16 + p.target / 8)
  holds := fun _ p => [(Page.flx p.target, 0x1000)]
  grps := fun p => [gid 13 p.target]
  run := fun s p => s.spareGo (16 + p.target / 8) (p.target % 8) p.who false

/-- FLX_SPARE_SWAP (R156, R158). -/
def execFlxSpareSwap (p : Pkt) (s : State) : Out := .next (s.command cFlxSpareSwap p)

def cFlxSpareRelease : Cmd where
  op := 0x1104
  pf0 := true
  tgt := fun t => t < 16
  chk := fun s p => need (!s.releaseBadSp (16 + p.target)) St.badState
  rej := rejSpare (fun p => 16 + p.target)
  holds := fun _ p => [(Page.spare (16 + p.target), 0x20)]
  grps := fun p => [gid 13 (2040 + p.target / 4)]
  run := fun s p => s.spareReturn (16 + p.target) p.who

/-- FLX_SPARE_RELEASE (R156, R158). -/
def execFlxSpareRelease (p : Pkt) (s : State) : Out := .next (s.command cFlxSpareRelease p)

/-- FLX_RAMP_END (R150): the ramp has made its N samples. -/
def execFlxRampEnd (ch : Nat) (s : State) : Out :=
  .next (match (s.flx ch).ramp with
    | some (_, x1, n, k) =>
      if n ≤ k then
        let f := s.flx ch
        let s := s.setFlx ch { f with ramp := none, x := x1, owed := none }
        (s.unflag (Page.flx ch) F.FLX_STATUS_RAMPING).settle f.owed
          (if s.chanDark (flxChan ch) then St.targetDark else St.success)
      else s
    | none => s)

end Sys2Proof.Machine
end

