-- ==== Sys2Proof/Machine/MonRows.lean ====
section
/-!
DEFINITION. Machine/MonRows.lean: monitor converters: commands and registers (R381 to R385, R391, R393, R397 to R400),
the common trigger (R383), references (R379, R380), results (R386 to R388) and self-calibration (R389, R390).
-/

namespace Sys2Proof.Machine
open Sys2Proof

/-- The registers of a converter, as a command's function. -/
def monHolds (m : Nat) : List (Nat × Nat) := [(Page.mon m, 0x60)]
/-- The converters of quadrant `q`. -/
def monsOf (q : Nat) : List Nat := (List.range 16).map (16 * q + ·)
/-- Every MON register of quadrant `q` (R393). -/
def monqHolds (q : Nat) : List (Nat × Nat) := (Page.monq q, 0x20) :: (monsOf q).flatMap monHolds

/-! ### Configuration -/

/-- Registers that MON_CONFIG writes besides MON_CTRL, by parameter word. -/
def monImgs (m : Nat) : List (Nat × Nat) :=
  wordsAt (Page.mon m) 1 [0x04, 0x08, 0x0C, 0x20, 0x24, 0x28, 0x2C, 0x30, 0x34, 0x38, 0x3C, 0x40]
/-- Fields of MON_CTRL besides ENABLE. -/
def monCtrlFlds : List Fld :=
  [F.MON_CTRL_START_SRC, F.MON_CTRL_SEQ_LEN, F.MON_CTRL_INJ_EV_EN, F.MON_CTRL_START_CHAN, F.MON_CTRL_INJ_CHAN]

/-- The governed number of converter `m`: kind 0. -/
def monGov (m : Nat) : Nat := m

def cMonConfig : Cmd where
  op := 0x1700
  tgt := fun t => t < 64
  view := fun s p => ownTarget (s.monOwner p.target) p
  len := fun _ => 13
  bad := fun s p => s.badImgs p ((0, Page.mon p.target) :: monImgs p.target)
  idle := fun _ _ => true
  chk := fun s p => firstOf [need (s.idle (s.monOwner p.target)) St.badState,
    need (s.enableOk (monGov p.target) (wget (p.w 0) 0 0)) St.powerLimit]
  holds := fun _ p => monHolds p.target
  grps := fun p => [gid 18 p.target]
  run := fun s p =>
    let m := p.target
    let s := (s.putBits (Page.mon m) (fldMask monCtrlFlds) (p.w 0)).putImgs p (monImgs m)
    let s := s.setEnable (monGov m) (wget (p.w 0) 0 0)
    s.finishDark p (s.chanDark (monGov m))

/-- MON_CONFIG (R393, R397). -/
def execMonConfig (p : Pkt) (s : State) : Out := .next (s.command cMonConfig p)

/-! ### Starts, stops and injected requests -/

/-- Converters of quadrant `p.target` that the mask names. -/
def maskMons (p : Pkt) : List Nat :=
  ((List.range 16).filter (fun c => (p.w 0).getLsbD c)).map (16 * p.target + ·)
/-- A mask that names another partition's converter (R434). -/
def State.monMaskView (s : State) (p : Pkt) : Option Fail :=
  if (maskMons p).all (fun m => s.monOwner m = p.fn) then none else some (.atWord St.invalidParam 0)

def cMonStart : Cmd where
  op := 0x1701
  tgt := fun t => t < 4
  view := State.monMaskView
  len := fun _ => 1
  bad := fun _ p => firstBad [(0, 0xFFFF < p.n 0)]
  holds := fun _ p => (maskMons p).flatMap monHolds
  grps := quadGrp 18
  run := fun s p => (forEach (maskMons p) s State.monSoftStart).succeed p

/-- MON_START (R381, R382). -/
def execMonStart (p : Pkt) (s : State) : Out := .next (s.command cMonStart p)

def cMonStop : Cmd where
  op := 0x1702
  tgt := fun t => t < 4
  view := State.monMaskView
  len := fun _ => 1
  bad := fun _ p => firstBad [(0, 0xFFFF < p.n 0)]
  holds := fun _ p => (maskMons p).flatMap monHolds
  grps := quadGrp 18
  run := fun s p => (forEach (maskMons p) s State.monStop).succeed p

/-- MON_STOP (R393, R397). -/
def execMonStop (p : Pkt) (s : State) : Out := .next (s.command cMonStop p)

def cMonInject : Cmd where
  op := 0x1703
  tgt := fun t => t < 64
  view := fun s p => ownTarget (s.monOwner p.target) p
  holds := fun _ p => monHolds p.target
  grps := fun p => [gid 18 p.target]
  run := fun s p => (s.monInject p.target).succeed p

/-- MON_INJECT (R385). -/
def execMonInject (p : Pkt) (s : State) : Out := .next (s.command cMonInject p)

def monCmdAt (m : Nat) : Nat := Page.mon m + 0x10
/-- MON_CMD.START (R381, R382, R397). -/
def execMonCmdStart (fn m : Nat) (s : State) : Out :=
  .next (if m < 64 then s.onWrite fn (monCmdAt m) (·.monSoftStart m) else s)
/-- MON_CMD.STOP (R397). -/
def execMonCmdStop (fn m : Nat) (s : State) : Out :=
  .next (if m < 64 then s.onWrite fn (monCmdAt m) (·.monStop m) else s)
/-- MON_CMD.INJECT (R385, R397). -/
def execMonCmdInject (fn m : Nat) (s : State) : Out :=
  .next (if m < 64 then s.onWrite fn (monCmdAt m) (·.monInject m) else s)

/-! ### The common trigger (R383, R400) -/

def cMonCommonSet : Cmd where
  op := 0x1707
  pf0 := true
  len := fun _ => 3
  bad := fun s p => firstBad [(0, s.badReg p.fn Page.monc (p.w 0)), (1, s.badReg p.fn (Page.monc + 4) (p.w 1)),
    (2, 1 < p.n 2)]
  holds := fun _ _ => [(Page.monc, 0xC)]
  grps := fun _ => [gid 18 2047]
  run := fun s p =>
    let s := s.putImgs p [(0, Page.monc), (1, Page.monc + 4)]
    ({ s with bm.commonRun := if p.n 2 = 1 then some s.now else none }).succeed p

/-- MON_COMMON_SET (R383, R400). -/
def execMonCommonSet (p : Pkt) (s : State) : Out := .next (s.command cMonCommonSet p)

/-- Software fires the common trigger if software is its source (R383). -/
def State.commonFire (s : State) : State := s.when (s.g Page.monc F.MON_COMMON_CTRL_SRC = 0) (·.monCommon)

def cMonCommonFire : Cmd where
  op := 0x1708
  pf0 := true
  holds := fun _ _ => [(Page.monc, 0xC)]
  grps := fun _ => [gid 18 2047]
  run := fun s p => s.commonFire.succeed p

/-- MON_COMMON_FIRE (R383). -/
def execMonCommonFire (p : Pkt) (s : State) : Out := .next (s.command cMonCommonFire p)
/-- MON_COMMON_CMD.FIRE (R383, R400). -/
def execMonCommonCmdFire (fn : Nat) (s : State) : Out := .next (s.onWrite fn (Page.monc + 8) (·.commonFire))
/-- MON_COMMON_CMD.RUN (R400). -/
def execMonCommonCmdRun (fn : Nat) (s : State) : Out :=
  .next (s.onWrite fn (Page.monc + 8) (fun s => { s with bm.commonRun := some s.now }))
/-- MON_COMMON_CMD.HALT (R400). -/
def execMonCommonCmdHalt (fn : Nat) (s : State) : Out :=
  .next (s.onWrite fn (Page.monc + 8) (fun s => { s with bm.commonRun := none }))

/-- A timer that started at `t` with `period` ns fires on the present tick (R381, R397, R400). -/
def State.fires (s : State) (t : Option Nat) (period : Nat) : Bool :=
  match t with
  | none => false
  | some t => t < s.now && (s.now - t) % (16 * max 500 period) = 0

/-- An event of the present tick on channel `ch` reaches a subscriber of partition `own` (R543). -/
def State.heardOn (s : State) (own ch : Nat) : Bool := s.evr.now.get false ch && s.maySubscribe own ch

/-- Whether the common trigger fires on the present tick by its timer or event. -/
def State.commonNow (s : State) : Bool :=
  match s.g Page.monc F.MON_COMMON_CTRL_SRC with
  | 1 => s.fires s.bm.commonRun (s.g Page.monc F.MON_COMMON_PERIOD_PERIOD)
  | 2 => s.heardOn 0 (s.g Page.monc F.MON_COMMON_CTRL_CHANNEL)
  | _ => false

/-- Whether a start by timer, event or common trigger is due on the present tick. -/
def State.startDue (s : State) (m : Nat) : Bool :=
  match s.g (Page.mon m) F.MON_CTRL_START_SRC with
  | 1 => s.fires (s.mon m).timer (s.g (Page.mon m) F.MON_TIMER_PERIOD)
  | 2 => s.heardOn (s.monOwner m) (s.g (Page.mon m) F.MON_CTRL_START_CHAN)
  | 3 => s.commonNow
  | _ => false

/-- MON_START_ARRIVAL (R381 to R384). -/
def execMonStartArrival (m : Nat) (s : State) : Out := .next (if m < 64 ∧ s.startDue m = true then s.monStart m else s)

/-! ### References and the test DAC (R379, R380, R391) -/

def cMonRefSet : Cmd where
  op := 0x1705
  pf0 := true
  tgt := fun t => t < 4
  len := fun _ => 1
  bad := fun s p => s.badImgs p [(0, Page.monq p.target + 8)]
  holds := fun _ p => monqHolds p.target
  grps := quadGrp 18
  run := fun s p =>
    let q := p.target
    if s.on (Page.monq q) F.MON_CAL_STATUS_BUSY then
      (s.lockedWrite (Page.monq q + 8)).finish p (.plain St.badState)
    else
      let s := s.monRef q (wget (p.w 0) 1 0)
      if s.on (Page.monq q) F.MON_REF_STATUS_SETTLING then
        { s with bm.refOwed := s.bm.refOwed.set [] q (s.bm.refOwed.get [] q ++ [(p.sq, p.tag)]) }
      else s.succeed p

/-- MON_REF_SET (R379, R380): it completes when SETTLING clears; a calibration in progress refuses the write (R389). -/
def execMonRefSet (p : Pkt) (s : State) : Out := .next (s.command cMonRefSet p)

/-- MON_REF_SETTLED (R379, R380). -/
def execMonRefSettled (q : Nat) (s : State) : Out :=
  .next (if q < 4 ∧ s.on (Page.monq q) F.MON_REF_STATUS_SETTLING = true ∧ s.bm.refAt.get 0 q ≤ s.now then
      let owed := s.bm.refOwed.get [] q
      ({ s.unflag (Page.monq q) F.MON_REF_STATUS_SETTLING with bm.refOwed := s.bm.refOwed.set [] q [] }).settleAll
        owed St.success
    else s)

/-- EXT_FAULT (R379): the external reference leaves, or is again within, 2.0 V to 5.0 V. -/
def execExtFault (q : Nat) (fault : Bool) (s : State) : Out :=
  .next (if q < 4 ∧ s.pwr.convOn = true ∧ s.g (Page.monq q) F.MON_REF_SEL = 1 then
      s.p (Page.monq q) F.MON_REF_STATUS_EXT_FAULT (if fault then 1 else 0)
    else s)

def cMonTdacSet : Cmd where
  op := 0x1706
  pf0 := true
  tgt := fun t => t < 4
  len := fun _ => 1
  bad := fun s p => s.badImgs p [(0, Page.monq p.target + 0x18)]
  holds := fun _ p => [(Page.monq p.target + 0x18, 4)]
  grps := quadGrp 18
  run := fun s p => (s.putImg (Page.monq p.target + 0x18) (p.w 0)).succeed p

/-- MON_TDAC_SET (R391). -/
def execMonTdacSet (p : Pkt) (s : State) : Out := .next (s.command cMonTdacSet p)

/-! ### Self-calibration (R389, R390) -/

def cMonCalibrate : Cmd where
  op := 0x1704
  tgt := fun t => t < 4
  view := fun s p => if (monsOf p.target).all (fun m => s.monOwner m = p.fn) then none else some Fail.target
  holds := fun _ p => monqHolds p.target
  grps := quadGrp 18
  run := fun s p =>
    let q := p.target
    if s.on (Page.monq q) F.MON_CAL_STATUS_BUSY then s.succeed p
    else
      let s := s.calStart q
      { s with bm.calOwed := s.bm.calOwed.set none q p.who }

/-- MON_CALIBRATE (R389): it completes when the calibration ends; requested while one runs, it has no effect. -/
def execMonCalibrate (p : Pkt) (s : State) : Out := .next (s.command cMonCalibrate p)
/-- MON_CAL_CTRL.START (R389, R399). -/
def execMonCalCtrlStart (fn q : Nat) (s : State) : Out :=
  .next (if q < 4 then s.onWrite fn (Page.monq q + 0x10) (·.calStart q) else s)

/-- The factors that a calibration measures for converter `m`. -/
def State.calFactors (s : State) (m : Nat) : State :=
  let (s, o) := s.fresh 16
  let (s, g) := s.fresh 24
  (s.p (Page.mon m) F.MON_CAL_OFFSET_OFFSET o).p (Page.mon m) F.MON_CAL_GAIN_GAIN g

/-- Held regular conversions of a converter resume with the element at which they stopped. -/
def State.calResume (s : State) (m : Nat) : State :=
  let x := s.mon m
  if x.held then s.setMon m { x with held := false, at_ := max x.at_ s.now } else s

/-- MON_CAL_END (R389): step 3 has run for 18 ms. -/
def execMonCalEnd (q : Nat) (s : State) : Out :=
  .next (if q < 4 ∧ s.calRuns q = true ∧ s.bm.calAt.get 0 q + msecs 18 ≤ s.now then
      let owed := s.bm.calOwed.get none q
      let s := forEach (monsOf q) s State.calFactors
      let s := (s.flag (Page.monq q) F.MON_CAL_STATUS_CAL_VALID).unflag (Page.monq q) F.MON_CAL_STATUS_BUSY
      let s := ({ s with bm.calOwed := s.bm.calOwed.set none q none }).settle owed St.success
      forEach (monsOf q) s State.calResume
    else s)

/-! ### Results (R386 to R388) -/

/-- The result code of raw code `r` (R388). -/
def State.monCode (s : State) (m : Nat) (r : Int) : Int :=
  sat 18 (rhu ((r * 16 - s.gi (Page.mon m) F.MON_CAL_OFFSET_OFFSET)
    * (s.g (Page.mon m) F.MON_CAL_GAIN_GAIN : Nat)) 26)

/-- Bits 35:4 of the count of the partition's domain at module count `t` (R46, R386). -/
def State.monStamp (s : State) (m t : Nat) : Nat :=
  (BitVec.ofNat 64 t + (s.tim.doms.get Dom.zero (s.monOwner m)).off).toNat / 16 % 2 ^ 32

/-- The bits of MON_DATA_LO above the code: those that describe a result. -/
def State.monBits (s : State) (m : Nat) (inj clip : Bool) : List (Fld × Bool) :=
  let pg := Page.mon m
  let q := m / 16
  [(F.MON_DATA_LO_OVERRUN, s.on pg F.MON_DATA_LO_VALID), (F.MON_DATA_LO_VALID, true), (F.MON_DATA_LO_INJ, inj),
   (F.MON_DATA_LO_PRE_CAL, s.on (Page.monq q) F.MON_CAL_STATUS_BUSY), (F.MON_DATA_LO_UNSETTLED, (s.mon m).uns),
   (F.MON_DATA_LO_UNCAL, !s.on (Page.monq q) F.MON_CAL_STATUS_CAL_VALID), (F.MON_DATA_LO_CLIP, clip)]

/-- A result is written into the data pair (R386, R387, R389, R390). -/
def State.monResult (s : State) (m : Nat) (raw : Int) (inj : Bool) (at_ elem : Nat) : State :=
  let pg := Page.mon m
  let c := s.monCode m raw
  let clip : Bool := c = -131072 || c = 131071
  let bits := s.monBits m inj clip
  let s := s.when (s.on pg F.MON_DATA_LO_VALID = true)
    (fun s => (s.flag pg F.MON_STATUS_OVERRUN).bump pg F.MON_OVERRUNS)
  let s := s.when (clip = true) (·.flag pg F.MON_STATUS_CLIP)
  let s := s.p pg F.MON_DATA_LO_CODE (c % 2 ^ 18).toNat
  let s := bits.foldl (fun s x => s.p pg x.1 (if x.2 then 1 else 0)) s
  let s := (s.p pg F.MON_DATA_LO_ELEM elem).p pg F.MON_DATA_HI_STAMP (s.monStamp m at_)
  s.setMon m { s.mon m with loRead := false }

/-- An injected request that waits converts from `t` on; the burst goes on 500 ns later (R385). -/
def Mon.takeInj (x : Mon) (t : Nat) : Mon :=
  if x.inj then { x with inj := false, injNow := true, injAt := t, at_ := x.at_ + 8000 } else x

/-- The regular element that has ended, and what follows it (R382, R389). -/
def State.monNext (s : State) (m : Nat) : Mon :=
  let x := s.mon m
  let last : Bool := x.pos ≥ s.g (Page.mon m) F.MON_CTRL_SEQ_LEN
  let left := if last then x.left.map (· - 1) else x.left
  let run : Bool := !x.stop && left ≠ some 0
  let x := { x with pos := if last then 0 else x.pos + 1, left := left, run := run, stop := false, at_ := x.at_ + 8000 }
  let x := x.takeInj (x.at_)
  if run ∧ s.calWaits (m / 16) then { x with held := true } else x

/-- A conversion of converter `m` ends; a converter that is off, SHED or DARK writes no result (R398, R618). -/
def State.monDone (s : State) (m : Nat) (raw : Int) (inj : Bool) (at_ elem : Nat) : State :=
  s.when (s.monActive m = true) (·.monResult m raw inj at_ elem)

/-- CONVERSION_COMPLETE (R382, R385 to R390): the conversion in progress ends with raw code `raw`. -/
def execConversionComplete (m : Nat) (raw : Int) (s : State) : Out :=
  .next (if 64 ≤ m ∨ s.pwr.convOn = false then s else
    let x := s.mon m
    if x.injNow then
      if s.now < x.injAt + 8000 then s
      else
        let s := s.monDone m raw true x.injAt 0
        let x := s.mon m
        -- a request that came during it converts next, unless a regular element is due
        let y := if x.inj ∧ ¬ (x.run ∧ ¬ x.held) then
            { x with inj := false, injAt := x.injAt + 8000 }
          else { x with injNow := false }
        (s.setMon m y).calSettle (m / 16)
    else if x.run ∧ ¬ x.held ∧ x.at_ + 8000 ≤ s.now then
      let s := s.monDone m raw false x.at_ x.pos
      (s.setMon m (s.monNext m)).calSettle (m / 16)
    else s)

/-- MON_DATA_HI_READ (R15, R387): the stamp held with the low half; the result becomes read. -/
def execMonDataHiRead (fn m : Nat) (s : State) : Out :=
  .next (if 64 ≤ m then s else s.onRead fn (Page.mon m + 0x48) (fun s =>
    let a := Page.mon m + 0x48
    let s := { s with pins.rdata := s.heldRd.get 0 (holdKey fn a) }
    if (s.mon m).loRead then
      (s.unflag (Page.mon m) F.MON_DATA_LO_VALID).setMon m { s.mon m with loRead := false }
    else s))

end Sys2Proof.Machine
end

