-- ==== Sys2Proof/Machine/StartRows.lean ====
section
/-!
DEFINITION. Machine/StartRows.lean: power on and off, RESET_N and ENABLE_IN (R621, R624, R626), the start-up sequence (R627),
orderly shutdown and the proofing pass (R599 to R601, R631), and the service ports (R667, R676 to R679).
-/

namespace Sys2Proof.Machine
open Sys2Proof

/-! ### The way to OFF (R624, R631) -/

/-- Completions of queue `n` are posted while there are any and it takes them. -/
def State.postAll (s : State) (n : Nat) : State := forEach (List.range s.hif.slots.length) s (fun s _ => s.post n)

/-- The ramps are over: the converters are powered down, the module is OFF, and the completion of PWR_SHUTDOWN is posted.
The proofing pass begins, or the settings copy. -/
def State.stopDone (s : State) (proof : Bool) : State :=
  let owed := s.pwr.owed
  let s := forEach s.biasList s.convDown State.biasOff
  let s := { s with pwr.mode := .off, pwr.deep := false, pwr.owed := [], fab.twinMute := false }
  let s := (s.p Page.twin F.FAB_TWIN_SW_OUT (s.g Page.twin F.FAB_TWIN_SW_STANDBY_PAT)).settleMode
  let s := s.settleAll owed St.success
  let s := (forEach (owed.map (fun w => s.cqOf w.1)) s State.postAll).linkFall
  let s := { s with pwr.busy := .proofing proof }
  if proof then s.saveSettings.logicStop.logicStart logicOrder 2 none else s

/-- An orderly shutdown or disable sequence goes on once nothing ramps, converts or copies. -/
def State.stopStep (s : State) : State :=
  match s.pwr.busy with
  | .stop proof => if s.rampsOver ∧ s.monsOver ∧ s.copiesOver then s.stopDone proof else s
  | _ => s

def cPwrShutdown : Cmd where
  op := 0x0403
  pf0 := true
  len := fun _ => 1
  bad := fun _ p => firstBad [(0, 2 ≤ p.n 0)]
  idle := fun _ _ => true
  chk := fun s _ => need (s.modeNum = 2 && !s.anyBusyPart && s.pwr.busy = .none) St.badState
  holds := fun _ _ => pwrHolds
  grps := fun _ => [gid 4 2047]
  run := fun s p => { s.rampAll with pwr.busy := .stop (p.n 0 = 1), pwr.owed := [(p.sq, p.tag)] }

/-- PWR_SHUTDOWN (R631): it completes when the module is OFF. -/
def execPwrShutdown (p : Pkt) (s : State) : Out := .next (s.command cPwrShutdown p)

/-- The disable sequence (R624): whatever was in progress ends. -/
def State.disableStart (s : State) : State :=
  let s := s.endBusy
  let w := s.pwr.safeExit
  let s := ({ s with pwr.safeExit := none, tim.tries := none }).settle w St.aborted
  let s := forEach [0, 1, 2, 3, 4] s (fun s p => s.when (¬ s.idle p) (·.partAbort p))
  { s.rampAll with pwr.busy := .stop (s.on Page.pwr F.PWR_CFG_PROOF_ON_DISABLE) }

/-- ENABLE_IN_RELEASE (R624, R626): it has been released for 10 ms. -/
def execEnableInRelease (s : State) : Out :=
  .next (if ¬ s.pwr.enableIn ∨ ¬ s.pwr.input then { s with pwr.enableIn := false }
    else
      let s := { s with pwr.enableIn := false, pwr.again := false }
      match s.pwr.busy with
      | .startup _ => if s.recovery then s.startStop else { s with pwr.stopping := true }
      | .stop _ => s
      | .proofing _ => s
      | _ => if s.pwr.mode = .off then s else s.disableStart)

/-! ### The proofing pass (R599, R600) -/

/-- Whether every failing row of stores `lo` to `hi` finds a spare row. -/
def State.rowsSpared (s : State) (lo hi : Nat) (bad : List Nat) : Bool :=
  let l := bad.filter (fun r => lo ≤ r % 16 ∧ r % 16 ≤ hi)
  l.all (fun r => s.mem.spareRows.get 0 (r % 16 * 4 + r / 16 % 4)
    + (l.filter (fun x => x % 64 = r % 64)).length ≤ spareCount (r % 16))

/-- The record of a pass (R600). -/
def State.proofRecord (s : State) (march : Nat) : List Word :=
  let doms := (s.bst.ended.filter (fun x => x.2 = 1)).foldl (fun n x => n + 2 ^ x.1) 0
  let ok : Bool := doms = 2 ^ 20 - 1 && (march = 3 || march = 15)
  let n := match s.bst.proofs with | r :: _ => (r.words.getD 1 0).toNat + 1 | [] => 1
  let t := s.log.mtime.toNat
  let ws := [BitVec.ofNat 32 (0x17A50 + (if ok then 0 else 2 ^ 24)), BitVec.ofNat 32 n, BitVec.ofNat 32 t, BitVec.ofNat 32 (t / 2 ^ 32),
      BitVec.ofNat 32 doms, BitVec.ofNat 32 march, BitVec.ofNat 32 s.allRetired.length, 0] ++ s.fwDigest ++ List.replicate 15 (0 : Word)
  ws ++ [BitVec.ofNat 32 (crc32 (wordBytes ws))]

/-- Retirements that wait are written into the map. -/
def State.mapWrite (s : State) : State :=
  forEach (List.range s.log.flashQ.length) s (fun s _ => s.flashWrite true)

/-- The marches of the pass: failing rows `bad` are repaired, failing ranks retired; retained SRAM loses its contents. -/
def State.proofMarch (s : State) (bad ranks : List Nat) : State × Nat :=
  let ddr : Bool := s.on Page.bst F.BST_CFG_DDR4_PROOF
  let m := (if s.rowsSpared 4 10 bad then 1 else 0) + (if s.rowsSpared 11 11 bad then 2 else 0)
    + (if ddr then 4 + (if ranks = [] then 8 else 0) else 0)
  let s := s.marchBad bad
  let s := if ddr then forEach (ranks.filter (· < 8)) s (fun s r => s.rankRetire (r / 2) (r % 2) 0) else s
  ({ s with pwr.retValid := false, mem.hits := [], log.ring := [], log.count := 0 }, m)

/-- The pass ends with its record in flash. -/
def State.proofEnd (s : State) (bad ranks : List Nat) : State :=
  let x := s.proofMarch bad ranks
  let s := x.1.mapWrite
  let u := s.fresh 32
  let a := u.1.fresh 32
  let s := a.1
  let r : Proof := ⟨s.proofRecord x.2, false, false, BitVec.ofNat 32 u.2, BitVec.ofNat 32 a.2⟩
  { s with bst.proofs := (r :: s.bst.proofs).take 16, bst.after := true, bst.ended := [] }

/-- PROOFING_PASS_END (R599, R624, R631): the marches have found failing rows `bad`, each store + 16 × quadrant + 64 × row,
and failing ranks 2 × channel + rank; or the settings copy ends. POWER_GOOD falls. -/
def execProofingPassEnd (bad ranks : List Nat) (s : State) : Out :=
  .next (match s.pwr.busy with
    | .proofing proof =>
      if s.logicRuns then s
      else
        let s := if proof then s.proofEnd bad ranks else s.saveSettings
        let s := { s with pwr.busy := .none }
        if s.pwr.again then s.startAgain else s
    | _ => s)

/-! ### Power and resets (R621) -/

/-- POWER_ON (R612, R621, R624, R626): the input has been in range for 10 ms with PRESENT made and ENABLE_IN asserted. -/
def execPowerOn (s : State) : Out :=
  .next (
    let was := s.pwr.input
    let en := s.pwr.enableIn
    let s := { s with pins.present := true, pwr.input := true, pwr.enableIn := true }
    if ¬ s.pwr.resetN ∨ s.pwr.mode ≠ .off then (if was ∧ ¬ en then { s with pwr.again := s.pwr.busy ≠ .none } else s)
    else if ¬ was then s.startBegin true
    else if en then (if s.pwr.waitIn then s.startBegin false else s)
    else if s.pwr.busy = .none then s.startBegin false
    else { s with pwr.again := true })

/-- RESET_N_ASSERT (R14, R578, R621): the module is OFF; PENDING bits 2 and 6 clear. -/
def execResetNAssert (s : State) : Out :=
  .next (
    let s := { s with pwr.resetN := false }
    if ¬ s.pwr.input then s
    else (((s.logicStop.warmReset).clearPending 2).clearPending 6).settleMode)

/-- RESET_N_RELEASE (R621): a start without credit. -/
def execResetNRelease (s : State) : Out :=
  .next (if s.pwr.resetN then s
    else
      let s := { s with pwr.resetN := true }
      if s.pwr.input ∧ s.pwr.enableIn then s.startAgain else s)

/-- POWER_LOSS (R612, R621): the input falls below 7.0 V. -/
def execPowerLoss (s : State) : Out := .next s.coldReset

/-- STARTUP_STEP_END (R627, R578): the step in progress ends. `ok` false: in step 3 the firmware slot tried first, in step 8
the first source of settings, in step 9 the patch fails its check; in step 4 the input did not rise by
R602. `bad`: failing rows of the march of step 7. -/
def execStartupStepEnd (ok : Bool) (bad : List Nat) (s : State) : Out :=
  .next (match s.pwr.busy with
    | .startup n =>
      if ¬ s.pwr.resetN ∨ ¬ s.stepReady n then s
      else
        let s := s.stepEffect n ok bad
        if s.pwr.stopping then s.startStop
        else if s.recovery then s
        else if n = 12 then s.startEnd
        else s.stepBegin (n + 1)
    | _ => s)

/-! ### Service ports (R667, R676 to R679) -/

/-- PRESENT_BREAK (R667): every mute engages, and every bias stage disconnects without a ramp. -/
def execPresentBreak (s : State) : Out :=
  .next (
    let s := { s with pins.present := false }
    let s := forEach s.biasList s State.biasOff
    forEach (s.syn.outp.map (·.1)) s State.muteStep)

/-- CHASSIS_ID_READ (R676), every 1 s. -/
def execChassisIdRead (code : Nat) (s : State) : Out :=
  .next (if s.pwr.input ∧ s.due s.pins.chassisAt (secs 1) = true then
    { s with pins.chassis := code % 256, pins.chassisAt := some s.now } else s)

/-- The bytes of a command code of R677. -/
def State.statusBytes (s : State) (code : Nat) : List Byte :=
  match code with
  | 1 => leBytes 6 Config.moduleId.toNat
  | 2 => leBytes 1 (s.modeNum + s.g Page.thm F.THM_STATUS_LEVEL * 2 ^ 4 + Config.orderNum * 2 ^ 6)
  | 3 => leBytes 2 (s.g Page.pwr F.PWR_VIN_VIN)
  | 4 => leBytes 2 (s.g Page.thm F.THM_MAX_MAX)
  | 5 => leBytes 2 (s.g Page.pwr F.PWR_MEASURED_MEASURED)
  | 6 => leBytes 1 s.pins.chassis
  | _ => []

/-- SMBUS_READ (R677): a block read of command code `addr`, in every state except OFF. -/
def execSmbusRead (addr : Nat) (s : State) : Out :=
  .next (if s.pwr.mode = .off then s else { s with pins.smbus := s.statusBytes addr })

/-- STATUS_DATAGRAM (R679). -/
def execStatusDatagram (s : State) : Out :=
  .next (if s.pwr.mode = .off then s else { s with pins.udp := [1, 2, 3, 4, 5, 6].flatMap s.statusBytes })

end Sys2Proof.Machine
end

