-- ==== Sys2Proof/Machine/FetchRows.lean ====
section
/-!
DEFINITION. Machine/FetchRows.lean: the commands by opcode (R453, R454 and the command tables of the chapters), and the
fetch and start of packets (R436, R437, R441, R443, R446, R447).
-/

namespace Sys2Proof.Machine
open Sys2Proof

/-! ### The opcode table -/

/-- PWR_CAP_SET, PWR_SHED_RANK_SET and PWR_CFG_SET (R638). -/
def cPwrCapSet : Cmd := imgCmd 0x0405 (Page.pwr + 0x1C) State.govern
def cPwrRankSet : Cmd := imgCmd 0x0406 (Page.pwr + 0x24) id
def cPwrCfgSet : Cmd := imgCmd 0x0407 (Page.pwr + 0x20) id

def cmdsHost : List Cmd :=
  [cHrtIdentify, cNop, cHrtPatchLoad, cHrtPatchClear, cIntSrcSet, cIntTargetSet, cIntSwi, cEvrChanSet, cEvrCellStage,
   cEvrPubStage, cEvrCommit, cEvrDiscard, cEvrPublish, cTimeAnchor, cTimePropagate, cTimeRelease, cTimeAlign,
   cTimeWallRelock, cPwrBank, cPwrWake, cPwrSafeExit, cPwrShutdown, cPwrSettingsSave, cPwrCapSet, cPwrRankSet,
   cPwrCfgSet, cThmSnapshotFetch]
def cmdsCommon : List Cmd :=
  [cSecFwUpdate, cSecCalLoad, cSecAttest, cSecCertFetch, cSecFuseProgram, cSecLcAdvance, cSecSvnCommit,
   cFabLaneConfig, cFabLinkTrain, cFabPortConfig, cFabDiscover, cFabAddrClear, cFabRouteSet, cFabPartNodesSet,
   cFabTwinConfig, cFabTwinHandover, cFabLaneRestore, cMemWrite, cMemRead, cMemMapSet, cMemHintSet, cMemScrubSet,
   cMemRankRetire, cMemMarch, cMemMarchStop, cBstLogicRun, cBstStop, cBstSliceTest, cBstConfig, cBstAnalogRun,
   cBstProofRead, cLogFetch, cLogNvFetch, cLogClear, cFltSafe]
def cmdsSignal : List Cmd :=
  [cDrvConfig, cDrvFrameSet, cEnvLoad, cEnvDescSet, cDrvHeatSet, cDrvTripClear, cDrvSpareSwap, cDrvSpareRelease,
   cFlxConfig, cFlxGainSet, cFlxPdLoad, cFlxSpareSwap, cFlxSpareRelease, cRdoProbeConfig, cRdoAdcConfig, cToneSet,
   cKernelLoad, cRdoHeatSet, cRdoTripClear, cRdoSpareSwap, cRdoSpareRelease, cRecRingSet, cAcqConfig, cAcqGroupSet,
   cAcqKConfig, cStrRingSet, cAcqArm, cAcqStop, cAcqTrigger, cAcqFetch, cAcqMaskLoad, cDecRouteSet, cDecGatherSet,
   cDecTableLoad, cDecTableClear, cDecCometSet, cDecDecoderSet]
def cmdsRun : List Cmd :=
  [cSeqConfig, cSeqImageLoad, cSeqJump, cSeqVectorSet, cSeqMarkerMap, cPartArm, cPartStop, cPartAbort, cBiasConfig,
   cBiasSet, cBiasQueueLoad, cBiasQueueStart, cBiasQueueStop, cBiasRestore, cBiasPolicySet, cMonConfig, cMonStart,
   cMonStop, cMonInject, cMonCommonSet, cMonCommonFire, cMonRefSet, cMonTdacSet, cMonCalibrate]

/-- The command that an opcode is assigned to (R446, step 3). -/
def cmdOf (op : Nat) : Option Cmd := (cmdsHost ++ cmdsCommon ++ cmdsSignal ++ cmdsRun).find? (fun c => c.op = op)

/-! ### Fetching -/

/-- The slots that packet `p` occupies (R436). -/
def slotsOf (p : Pkt) : Nat := (16 + p.len + 63) / 64
/-- Slots that hold packets of submission queue `n`. -/
def State.sqFilled (s : State) (n : Nat) : Nat := (s.sqTail n + s.sqSize n - s.sqHead n) % s.sqSize n

/-- The round robin has served queue `n` (R441). -/
def State.rrServed (s : State) (n : Nat) : State :=
  if n = s.hif.rrQ ∧ s.hif.rrN < s.sqWeight n then { s with hif.rrN := s.hif.rrN + 1 }
  else { s with hif.rrQ := n, hif.rrN := 1 }

/-- A packet that has been fetched is checked, and refused or accepted (R446). -/
def State.takeIn (s : State) (p : Pkt) : State :=
  match cmdOf p.op with
  | none => (match s.check none p with | some (f, d) => s.refuse p f d | none => s)
  | some c => (match s.check (some c) p with | some (f, d) => c.rej (s.refuse p f d) p f | none => s.accept c p)

/-- The fetch of packet `p` from queue `n` (R436, R437, R441, R446). -/
def State.fetchPkt (s : State) (n : Nat) (p : Pkt) : State :=
  let p := { p with fn := s.queueOwner n, sq := n }
  let room := s.sqFilled n
  let s := (s.rrServed n).bumpW (Page.sq n) F.SQ_PACKETS
  if room < slotsOf p then
    ((s.p (Page.sq n) F.SQ_HEAD_HEAD (s.sqTail n)).flag (Page.sq n) F.SQ_STATUS_BAD_PACKET).refuse p
      (.plain St.badLength) false
  else (s.p (Page.sq n) F.SQ_HEAD_HEAD ((s.sqHead n + slotsOf p) % s.sqSize n)).takeIn p

/-- PACKET_FETCH (R436, R437, R441, R446): of the queue that the round robin serves, while fewer than 64 packets are held. -/
def execPacketFetch (n : Nat) (p : Pkt) (s : State) : Out :=
  .next (if (s.serving || s.recovery) && s.nextSq = some n && decide (s.hif.slots.length < 64) then s.fetchPkt n p else s)

/-! ### Starting -/

/-- A waiting packet starts if every wait of R447 that applies has ended: its effect follows with its command's own row. -/
def State.tryStart (s : State) (p : Pkt) : State :=
  match cmdOf p.op with
  | some c => if s.mayStart c p then s.begin c p else s
  | none => s

/-- COMMAND_START (R447). -/
def execCommandStart (sq tag : Nat) (s : State) : Out :=
  .next (match s.hif.slots.find? (fun sl => sl.isOf sq tag && sl.st = .waiting) with
    | some sl => s.tryStart sl.p
    | none => s)

/-- AT_SHOT_RELEASE (R443): the packets of partition `p` whose shot has started. -/
def execAtShotRelease (p : Nat) (s : State) : Out :=
  .next ((s.hif.slots.filter (fun sl => sl.st = .waiting && sl.shot.isSome && sl.p.part = p)).foldl
    (fun s sl => s.tryStart sl.p) s)

end Sys2Proof.Machine
end

