-- ==== Sys2Proof/Machine/HostRows.lean ====
section
/-!
DEFINITION. Machine/HostRows.lean: doorbells, completions, link events and resets of the host interface (R436 to R457).
-/

namespace Sys2Proof.Machine
open Sys2Proof

/-- SQ_TAIL_DOORBELL (R436, R437, R462). -/
def execSqTailDoorbell (fn n : Nat) (v : Word) (s : State) : Out :=
  .next (if n < 64 then s.onWrite fn (Page.db n) (·.ringSq n (wget v 15 0)) else s)

/-- CQ_HEAD_DOORBELL (R438, R462). -/
def execCqHeadDoorbell (fn n : Nat) (v : Word) (s : State) : Out :=
  .next (if n < 64 then s.onWrite fn (Page.db n + 4) (·.ringCq n (wget v 15 0)) else s)

/-- A write of SQ_CTRL (R440, R461): CQ and WEIGHT by their access kinds, and then ENABLE. -/
def State.sqCtrl (s : State) (fn n : Nat) (v : Word) : State :=
  (s.plainWrite fn (Page.sq n + 0xC) (wput v 0 0 (s.g (Page.sq n) F.SQ_CTRL_ENABLE))).sqEnable n (wget v 0 0)

/-- SQ_CTRL_ENABLE_WRITE (R440). -/
def execSqCtrlEnableWrite (fn n : Nat) (v : Word) (s : State) : Out :=
  .next (if n < 64 then s.onWrite fn (Page.sq n + 0xC) (·.sqCtrl fn n v) else s)

/-- COMPLETION_POST (R438, R439, R455). -/
def execCompletionPost (n : Nat) (s : State) : Out :=
  .next (if n < 64 ∧ ¬ n ∈ s.hif.retry then s.post n else s)

/-- LINK_DOWN (R457): the link goes down (`phys`), or Bus Master Enable of PF0 is cleared. -/
def execLinkDown (phys : Bool) (s : State) : Out := .next (if phys then s.linkFall else s.bmeClear)

/-- The link trains (R431, R457): the speed and width that it reaches are the partner's too. -/
def State.linkTrain (s : State) : State :=
  let v := s.fresh 8
  let w := v.1.fresh 8
  let s := { w.1 with hif.linkUp := true }
  ((s.p Page.hif F.HIF_LINK_SPEED (1 + v.2 % 5)).p Page.hif F.HIF_LINK_WIDTH (2 ^ (w.2 % 4))).flag Page.hif F.HIF_LINK_DL_UP

/-- LINK_UP (R457): the link is up again (`phys`), or Bus Master Enable of PF0 is set again; what waited goes on. -/
def execLinkUp (phys : Bool) (s : State) : Out :=
  .next (if s.pwr.mode = .off ∧ ¬ s.recovery then s
    else if phys then (if s.hif.linkUp then s else s.linkTrain.msixResume)
    else if s.hif.bme then s else { s with hif.bme := true }.msixResume)

/-- What a reset of the link does to every function (R457, R529). -/
def State.linkReset (s : State) : State :=
  forEach [0, 1, 2, 3, 4] { s.linkFall with hif.d3 := [] } (fun s f => (s.dropQueues f).intReset (f + 1))

/-- HOT_RESET (R457). -/
def execHotReset (s : State) : Out := .next s.linkReset

/-- VF_FLR (R171, R457, R529). -/
def execVfFlr (i : Nat) (s : State) : Out :=
  .next (if 1 ≤ i ∧ i ≤ 4 then
      let s := s.when (¬ s.idle i) (·.partAbort i)
      (({ s with hif.d3 := s.hif.d3.set false i false }.dropQueues i).msixReset i).intReset (i + 1)
    else s)

/-- PF0_FLR (R457): or VF Enable is cleared. -/
def execPf0Flr (s : State) : Out :=
  .next (forEach [0, 1, 2, 3, 4] s.linkReset (fun s p => s.when (¬ s.idle p) (·.partAbort p)))

/-- CONVENTIONAL_RESET (R431): PERST_N resets the link and its functions as a hot reset does. -/
def execConventionalReset (s : State) : Out := .next s.linkReset

/-- FUNCTION_D3HOT (R457). -/
def execFunctionD3hot (fn : Nat) (s : State) : Out :=
  .next (if fn < 5 then { s with hif.d3 := s.hif.d3.set false fn true } else s)
/-- FUNCTION_D0 (R457). -/
def execFunctionD0 (fn : Nat) (s : State) : Out :=
  .next (if fn < 5 then { s with hif.d3 := s.hif.d3.set false fn false }.msixResume else s)

/-- A ring write that failed waits for its retry. -/
def State.retryLater (s : State) (r : Nat) : State := { s with hif.retry := s.hif.retry ++ [r] }

/-- HOST_MEMORY_FAIL (R457): of a command that executes; of the completion of one that is done; of the fetch from queue
`sq`; of the record ring of partition `sq − 64`; of the stream ring of unit `sq − 69`. -/
def execHostMemoryFail (sq tag : Nat) (s : State) : Out :=
  let s' := s.bump Page.hif F.HIF_DMA_ERRORS
  .next (if ¬ s.hif.linkUp then s
    else if sq < 64 then
      (match s.hif.slots.find? (fun sl => sl.p.sq = sq && sl.p.tag = tag && sl.st ≠ .waiting) with
       | some sl =>
         if sl.st = .done then (s'.flag (Page.cq (s.cqOf sq)) F.CQ_STATUS_DMA_ERROR).retryLater (s.cqOf sq)
         else s'.finish sl.p (.plain St.hostMemory)
       | none => if s.sqHolds sq then s'.flag (Page.sq sq) F.SQ_STATUS_DMA_ERROR else s)
    else if sq < 69 then
      (if s.recWaits (sq - 64) then (s'.logIt Cause.hostDma (sq - 64) (gid 14 (sq - 64)) 0).retryLater sq else s)
    else if sq < 101 then
      (if (s.cu (sq - 69)).fifo ≠ [] then (s'.logIt Cause.hostDma (s.cuPart (sq - 69)) (gid 15 (sq - 69)) 0).retryLater sq else s)
    else s)

/-- A ring write that failed is made again. -/
def State.ringRetry (s : State) (r : Nat) : State :=
  if r < 64 then s.post r
  else if r < 69 then (if s.dma (r - 64) then s.recWrite (r - 64) else s)
  else if s.dma (s.cuPart (r - 69)) then s.strWrite (r - 69) else s

/-- HOST_DMA_RETRY (R457): the retry, 1 ms later. -/
def execHostDmaRetry (s : State) : Out :=
  .next (s.hif.retry.foldl State.ringRetry { s with hif.retry := [] })

end Sys2Proof.Machine
end

