-- ==== Sys2Proof/Machine/RegRead.lean ====
section
/-!
DEFINITION. Machine/RegRead.lean: what a register reads as. Most registers hold their value in the register table;
a register that shows state kept elsewhere (counts, live phases, queues, fuses) shows it here.
-/

namespace Sys2Proof.Machine
open Sys2Proof

/-- Word `w` with `v` in field `f`. -/
def Fld.into (w : Word) (f : Fld) (v : Nat) : Word := wput w f.hi f.lo v
/-- Word `w` with the fields of a list set. -/
def fields (w : Word) (l : List (Fld × Nat)) : Word := l.foldl (fun w x => Fld.into w x.1 x.2) w
/-- One for true. -/
def one (b : Bool) : Nat := if b then 1 else 0
def lo32 (n : Nat) : Word := BitVec.ofNat 32 n
def hi32 (n : Nat) : Word := BitVec.ofNat 32 (n / 2 ^ 32)

/-! ### Time, drive, flux -/

/-- The count of domain `d` as of the last reference edge (R50, R87). -/
def State.readTim (s : State) (b i : Nat) (w : Word) : Word :=
  if b = R.TIM_STATUS then
    fields w [(F.TIM_STATUS_ANCHORED, (List.range 5).foldl (fun n d => n + one (s.anchored d) * 2 ^ d) 0)]
  else if b = R.TD_TEXP_LO then lo32 (s.cntAtEdge i)
  else if b = R.TD_TEXP_HI then hi32 (s.cntAtEdge i)
  else if b = R.TIM_WALL_SEC_LO then lo32 s.wallSec
  else if b = R.TIM_WALL_SEC_HI then hi32 s.wallSec
  else if b = R.TIM_WALL_NS then lo32 s.wallNs
  else w

/-- Live F and P of oscillator `k` (R72, R130, R282). -/
def State.oscF (s : State) (k : Nat) : Nat := (s.osc k).f
def State.oscP (s : State) (k : Nat) : Nat := (s.osc k).p

/-- Status and mean of output `n` (R129, R281). -/
def State.readOut (s : State) (n off : Nat) (w : Word) : Word :=
  if off = F.DRV_STATUS_ACTIVE.off then
    fields w [(F.DRV_STATUS_ACTIVE, one (s.outActive n)), (F.DRV_STATUS_MUTED, one (s.muted n))]
  else if off = F.DRV_HEAT_MEAN_MEAN.off then lo32 (min 65535 ((s.outp n).heat / 2 ^ 22 / 1024))
  else w

/-- A play sounds on drive lane `k` (R130): at the count of its channel's partition. -/
def State.laneBusy (s : State) (k : Nat) : Bool :=
  let t := (s.cnt (s.outOwner (k / 8))).toNat
  (s.plays k).any (fun p => p.sounds 1 t)

def State.readDrv (s : State) (b n k : Nat) (w : Word) : Word :=
  let l := 8 * n + k
  if b = R.DRV_STATUS then s.readOut n F.DRV_STATUS_ACTIVE.off w
  else if b = R.DRV_HEAT_MEAN then s.readOut n F.DRV_HEAT_MEAN_MEAN.off w
  else if b = R.DRV_FRAME_FREQ_LO then lo32 (s.oscF l)
  else if b = R.DRV_FRAME_FREQ_HI then hi32 (s.oscF l)
  else if b = R.DRV_FRAME_PHASE_LO then lo32 (s.oscP l)
  else if b = R.DRV_FRAME_PHASE_HI then hi32 (s.oscP l)
  else if b = R.DRV_FRAME_STATE then lo32 (s.pauliRow l + one (s.laneBusy l) * 4)
  else w

def State.readFlx (s : State) (b n : Nat) (w : Word) : Word :=
  if b = R.FLX_STATUS then
    fields w [(F.FLX_STATUS_ACTIVE, one (s.flxActive n)), (F.FLX_STATUS_QUIET, one (s.flxQuiet n))]
  else w

/-! ### Sequencers, read-out, decisions -/

/-- The window that a half holds, with its valid bit (R200). -/
def Half.bits (h : Half) : Nat := match h.win with | some n => n % 2048 + 2048 | none => 0

/-- R200, R246. -/
def State.readSeq (s : State) (b q i : Nat) (w : Word) : Word :=
  let x := s.sqs q
  if b = R.SEQ_STATUS then
    fields w [(F.SEQ_STATUS_STATE, if x.hold then 4 else x.st),
      (F.SEQ_STATUS_IN_REGION, one (x.inRegionAt (s.tk (s.seqOwner q)))),
      (F.SEQ_STATUS_JUMP_LATCHED, one x.jump.isSome)]
  else if b = R.SEQ_PC then lo32 x.last
  else if b = R.SEQ_WIN then lo32 (x.a.bits + x.b.bits * 2 ^ 16)
  else if b = R.SEQ_V then (x.v.get 0 i).setWidth 32
  else if b = R.SEQ_ACC_LO then x.acc.setWidth 32
  else if b = R.SEQ_ACC_HI then lo32 (x.acc.toNat / 2 ^ 32)
  else if b = R.SEQ_FLAGS then
    fields w [(F.SEQ_FLAGS_ZERO, one x.zero), (F.SEQ_FLAGS_NEG, one x.neg), (F.SEQ_FLAGS_ACC_SAT, one x.accSat),
      (F.SEQ_FLAGS_V_SAT, one x.vSat), (F.SEQ_FLAGS_TIMEOUT, one x.timeout), (F.SEQ_FLAGS_MATCH, one x.mtch)]
  else if b = R.SEQ_COND then lo32 (x.set.toNat + x.value.toNat * 2 ^ 16)
  else w

def State.readTone (s : State) (b t : Nat) (w : Word) : Word :=
  let k := toneLane t
  if b = R.TONE_FREQ_LO then lo32 (s.oscF k)
  else if b = R.TONE_FREQ_HI then hi32 (s.oscF k)
  else if b = R.TONE_PHASE_LO then lo32 (s.oscP k)
  else if b = R.TONE_PHASE_HI then hi32 (s.oscP k)
  else if b = R.TONE_STATUS then fields w [(F.TONE_STATUS_CHANNEL, toneChannel (s.oscF k))]
  else w

def State.readRdo (s : State) (b m : Nat) (w : Word) : Word :=
  let pg := Page.rdo m
  if b = R.RDO_PRB_STATUS then s.readOut (128 + m) F.DRV_STATUS_ACTIVE.off w
  else if b = R.RDO_PRB_HEAT_MEAN then s.readOut (128 + m) F.DRV_HEAT_MEAN_MEAN.off w
  else if b = R.RDO_ADC_STATUS then
    fields w [(F.RDO_ADC_STATUS_ACTIVE, one (s.on pg F.RDO_ADC_CTRL_ENABLE && !s.on pg F.RDO_ADC_STATUS_DARK
      && !s.on pg F.RDO_ADC_STATUS_SHED))]
  else w

/-- The Pauli word as function `fn` sees it: its own frames (R321, R323). -/
def State.pauliSeen (s : State) (fn n : Nat) : Word :=
  (List.range 16).foldl (fun w i =>
    if full fn ∨ s.frameOwner (16 * n + i) = fn then w ||| lo32 (s.pauliRow (16 * n + i) * 4 ^ i) else w) 0

/-- R320, R321. -/
def State.readDec (s : State) (fn b i : Nat) (w : Word) : Word :=
  if b = R.GU_STATUS then lo32 (s.guStatus i)
  else if b = R.GU_PREV_LO then lo32 (s.gath i).prev.toNat
  else if b = R.GU_PREV_HI then hi32 (s.gath i).prev.toNat
  else if b = R.DEC_PAULI then s.pauliSeen fn i
  else if b = R.DEC_COMET_TX then (s.pair i).txWord
  else if b = R.DEC_COMET_RX then (s.pair i).rxWord
  else w

/-! ### Acquisition, bias and monitor -/

def State.readAcq (s : State) (b i : Nat) (w : Word) : Word :=
  if b = R.ACQ_GRP_LOCAL then (List.range 32).foldl (fun w u => if s.cuMember i u then w ||| lo32 (2 ^ u) else w) 0
  else w

def State.readBias (s : State) (b n : Nat) (w : Word) : Word :=
  let x := s.bias n
  let pg := Page.bias n
  if b = R.BIAS_OUT then BitVec.ofInt 32 (x.out % 2 ^ 20)
  else if b = R.BIAS_STATUS then
    fields w [(F.BIAS_STATUS_ACTIVE, one (s.on pg F.BIAS_CTRL_ENABLE && x.conn && !s.on pg F.BIAS_STATUS_DARK
        && !s.on pg F.BIAS_STATUS_SHED)),
      (F.BIAS_STATUS_QRUN, one x.clock.isSome), (F.BIAS_STATUS_QFILL, x.queue.length)]
  else if b = R.BIAS_CAL_OFFSET then BitVec.ofInt 32 ((s.biasCal n).1 % 2 ^ 16)
  else if b = R.BIAS_CAL_GAIN then lo32 (s.biasCal n).2
  else w

def State.readMon (s : State) (b m : Nat) (w : Word) : Word :=
  let x := s.mon m
  if b = R.MON_STATUS then
    fields w [(F.MON_STATUS_ACTIVE, one (s.monActive m)), (F.MON_STATUS_BUSY, one x.run),
      (F.MON_STATUS_INJ_PENDING, one x.inj), (F.MON_STATUS_HELD, one x.held)]
  else w

/-! ### Host interface, fabric, Hearth, interrupts, events -/

/-- The PCI identity of a function: class code, Device ID, Subsystem ID and Vendor ID (R431). -/
structure PciIdent where
  cls : Nat
  device : Nat
  subsystem : Nat
  vendor : Nat
  deriving DecidableEq, Repr

/-- The identity of function `fn`: 0 is PF0, 1 to 4 are the VFs (R431). -/
def pciIdent (fn : Nat) : PciIdent :=
  { cls := 0x120000, device := if fn = 0 then 0x5128 else 0x5129, subsystem := Config.orderNum, vendor := Config.vendorId.toNat }

def State.readHif (s : State) (b i : Nat) (w : Word) : Word :=
  if b = R.HIF_PCI_ID then lo32 ((pciIdent 0).vendor + (pciIdent 0).subsystem * 2 ^ 16)
  else if b = R.HIF_INFLIGHT then
    lo32 ((s.hif.slots.filter (fun sl => sl.st = .executing)).length + s.hif.slots.length * 2 ^ 8)
  else if b = R.HIF_FN_TAGS then lo32 (s.hif.slots.filter (fun sl => sl.p.fn = i)).length
  else if b = R.SQ_HEAD then fields w [(F.SQ_HEAD_IDLE, one (!s.sqBusy i))]
  else if b = R.CQ_STATUS then fields w [(F.CQ_STATUS_FULL, one (s.cqFull i))]
  else w

def State.readFab (b : Nat) (w : Word) : Word :=
  if b = R.FAB_MODULE_ID_LO then lo32 Config.moduleId.toNat
  else if b = R.FAB_MODULE_ID_HI then hi32 Config.moduleId.toNat
  else w

/-- HRT_STATUS.STATE (R535): BOOT before the start-up ends, RUN, QUIESCE, or GATED in BANKED. -/
def State.hrtState (s : State) : Nat :=
  match s.pwr.mode with
  | .off => 0
  | .banked => if s.pwr.busy = .wake then 1 else 3
  | _ => if s.hrt.quiesce.isSome then 2 else 1

def State.readHrt (s : State) (b i j : Nat) (w : Word) : Word :=
  let c := s.hctx i
  if b = R.HRT_ID then lo32 (0x5128 + Config.orderNum * 2 ^ 16)
  else if b = R.HRT_STATUS then
    fields w [(F.HRT_STATUS_STATE, s.hrtState), (F.HRT_STATUS_TRAP_DEPTH, s.depth),
      (F.HRT_STATUS_PATCH_ACTIVE, one ((List.range 32).any (fun n => s.on (Page.hmatch n) F.HRT_MATCH_EN))),
      (F.HRT_STATUS_CONTEXTS, (s.hrt.ctx.filter (fun c => c.2.st ≠ 0)).length)]
  else if b = R.HRT_CTX_STATE then
    lo32 (c.st + one c.internal * 4 + c.groups.length % 16 * 8 + c.op % 2 ^ 16 * 2 ^ 16)
  else if b = R.HRT_CTX_CMD then lo32 (c.tag % 2 ^ 16 + c.sq % 64 * 2 ^ 16)
  else if b = R.HRT_CTX_GROUPS then lo32 (c.groups.getD (2 * j) 0 + c.groups.getD (2 * j + 1) 0 * 2 ^ 16)
  else w

/-- A word of 32 bits from source 32i on. -/
def bits32 (i : Nat) (f : Nat → Bool) : Word :=
  (List.range 32).foldl (fun w k => if f (32 * i + k) then w ||| lo32 (2 ^ k) else w) 0

/-- R539 to R542: a view shows the pending and active bits of the sources that it sees. -/
def State.readInt (s : State) (fn b i : Nat) (w : Word) : Word :=
  if b = R.INT_TSTATUS then
    lo32 (one (s.intReq i)
      + one (s.actives i = [] && (i = 0 || !s.unread (i - 1))) * 2
      + one (s.reqRises i && s.intHeld i) * 4
      + (match s.runPrio i with | some g => 8 + g % 256 * 2 ^ 8 | none => 0)
      + (s.actives i).length * 2 ^ 16)
  else if b = R.INT_PENDING then bits32 i (fun n => (full fn || s.intOwner n = fn) && s.intPending n)
  else if b = R.INT_ACTIVE then bits32 i (fun n => (full fn || s.intOwner n = fn) && s.intAct n ≠ 0)
  else if b = R.INT_SRC_CFG then
    fields w [(F.INT_SRC_CFG_KIND, one (isEdge i)), (F.INT_SRC_CFG_PENDING, one (s.intPending i)),
      (F.INT_SRC_CFG_ACTIVE, one (s.intAct i ≠ 0)), (F.INT_SRC_CFG_LEVEL, one (!isEdge i && s.intLevel i))]
  else w

def State.readEvr (s : State) (b i : Nat) (w : Word) : Word :=
  if b = R.EVR_CHAN_CFG then
    fields w [(F.EVR_CHAN_CFG_OWNER, s.evOwner i), (F.EVR_CHAN_CFG_ATTR, s.evAttr i)]
  else if b = R.EVR_CHAN_STATUS then fields w [(F.EVR_CHAN_STATUS_IN_USE, one (s.inUse i))]
  else if b = R.EVR_STATUS then
    fields w [(F.EVR_STATUS_COMMIT_BUSY, one (s.hrt.ctx.any (fun c => c.2.st ≠ 0 && c.2.op = 0x0203)))]
  else w

/-! ### Power, temperature, security -/

/-- POWER_GOOD (R624). -/
def State.powerGood (s : State) : Bool :=
  match s.pwr.busy with
  | .stop _ | .proofing _ => true
  | _ => s.pwr.mode ≠ .off && 900 ≤ s.pwr.vin && s.pwr.vin ≤ 6000

/-- The level of ALERT_N (R577): low while the module is in SAFE or a permanent fault is not acknowledged. Loss of input power
clears both bits (R589), so it then reads as released. -/
def State.alertN (s : State) : Bool := !(s.on Page.log F.LOG_STATUS_SAFE || s.on Page.log F.LOG_STATUS_PERM_UNACK)

/-- R639: PWR_COMMITTED is in 0.1 W, and reads 0 in BANKED. -/
def State.readPwr (s : State) (b : Nat) (w : Word) : Word :=
  if b = R.PWR_STATUS then
    fields w [(F.PWR_STATUS_STATE, s.modeNum),
      (F.PWR_STATUS_START_STEP, match s.pwr.busy with | .startup n => n | _ => 0),
      (F.PWR_STATUS_ENABLE_IN, one s.pwr.enableIn), (F.PWR_STATUS_POWER_GOOD, one s.powerGood),
      (F.PWR_STATUS_SHEDDING, one (s.pwr.shed ≠ []))]
  else if b = R.PWR_COMMITTED then lo32 (if s.pwr.mode = .banked then 0 else min 65535 (s.committed / 10))
  else w

/-- CLASS of R632. -/
def State.readThm (b i : Nat) (w : Word) : Word :=
  if b = R.THM_SENSOR then fields w [(F.THM_SENSOR_CLASS, sensorClass i)] else w

/-- Number of the last generation of a list whose burn succeeded (R646): generation 0 is the factory's. -/
def govGen : List (Option (Tab Nat)) → Nat
  | [] => 0
  | m :: l => match govGen l with
    | 0 => if m.isSome then 1 else 0
    | n + 1 => n + 2

/-- R663. -/
def State.readSec (s : State) (b : Nat) (w : Word) : Word :=
  let f := s.sec.fuses
  if b = R.SEC_STATUS then
    fields w [(F.SEC_STATUS_LIFECYCLE, f.lifecycle), (F.SEC_STATUS_LC_INVALID, one (f.lc ≠ f.lifecycle)),
      (F.SEC_STATUS_KEY_VALID, one s.sec.keyValid),
      (F.SEC_STATUS_FUSE_PENDING, one s.sec.pendFuses.isSome), (F.SEC_STATUS_CUST_VALID, one f.custDigest.isSome),
      (F.SEC_STATUS_CUST_REQUIRED, one f.custRequired)]
  else if b = R.SEC_FW_SLOT then fields w [(F.SEC_FW_SLOT_RUNNING, s.sec.running)]
  else if b = R.SEC_SVN then lo32 (s.running_.svn + f.minFw * 2 ^ 8 + f.minPatch * 2 ^ 16 + f.minCal * 2 ^ 24)
  else if b = R.SEC_GEN then
    lo32 (1 + f.pmaps.length + govGen f.pmaps * 2 ^ 3 + (1 + f.evmaps.length) * 2 ^ 6 + govGen f.evmaps * 2 ^ 9)
  else w

/-- R664, R665: measurements, and the governing partition map. -/
def State.readSecWindow (s : State) (a : Nat) : Word :=
  let o := a - Page.sec
  if 0x100 ≤ o ∧ o < 0x180 then lo32 (leNat (((s.meas ((o - 0x100) / 0x20)).drop (o % 0x20)).take 4))
  else if 0x2000 ≤ o ∧ o < 0x2170 then
    let w := (o - 0x2000) / 4
    (List.range 8).foldl (fun x j => x ||| lo32 (s.owner (8 * w + j) * 16 ^ j)) 0
  else 0

/-! ### Memory and windows -/

/-- Entry word `j` of decision-table key `k` (R322). -/
def State.entryWord (s : State) (k j : Nat) : Word := BitVec.ofNat 32 ((s.entry k).toNat / 2 ^ (32 * j))

/-- What a location reads as that the register map leaves to a window: the kernel window (R694), table entries (R322),
log entries (R591), measurements and the partition map (R664, R665), and the vectors of MSI-X (R455). -/
def State.readWindow (s : State) (fn a : Nat) : Word :=
  if 0x1000000 ≤ a ∧ a < 0x2000000 ∧ 0x28000 ≤ a % 0x400000 ∧ a % 0x400000 < 0x30000 then
    let n := (a % 0x400000 - 0x28000) / 4
    BitVec.ofInt 32 (kern (n / 16) ((n % 16 : Nat) - 7) % 2 ^ 18)
  else if 0x2200000 ≤ a ∧ a < 0x2400000 then
    let j := (a - 0x2200000) % 32 / 4
    if j < 4 then s.entryWord ((a - 0x2200000) / 32) j else 0
  else if 0xC80000 ≤ a ∧ a < 0xD00000 then s.logWord ((a - 0xC80000) / 32) ((a - 0xC80000) % 32 / 4)
  else if 0x500000 ≤ a ∧ a < 0x600000 then s.readSecWindow a
  else if 0x610000 ≤ a ∧ a < 0x610200 then
    let x := s.hif.msix.get Msix.zero (hostFn fn * 32 + (a - 0x610000) / 16)
    match a % 16 / 4 with
    | 0 => lo32 x.addr.toNat
    | 1 => hi32 x.addr.toNat
    | 2 => x.data
    | _ => lo32 (one x.masked)
  else if a = 0x611000 then bits32 0 (fun v => s.hif.pba.get false (hostFn fn * 32 + v))
  else 0

/-- What the register with base `b` and indices `ix` shows. -/
def State.readReg (s : State) (fn : Nat) (r : RegDesc) (ix : List Nat) (w : Word) : Word :=
  let b := r.base
  let i := ix.getD 0 0
  let j := ix.getD 1 0
  let k := ix.getD 2 0
  if b < 0x100000 then s.readHrt b i j w
  else if b < 0x200000 then s.readInt fn b i w
  else if b < 0x300000 then s.readEvr b i w
  else if b < 0x400000 then s.readTim b i w
  else if b < 0x408000 then s.readPwr b w
  else if b < 0x500000 then State.readThm b i w
  else if b < 0x600000 then s.readSec b w
  else if b < 0x700000 then s.readHif b i w
  else if b < 0x800000 then State.readFab b w
  else if b = R.LOG_MTIME_LO then lo32 s.log.mtime.toNat
  else if b = R.LOG_MTIME_HI then hi32 s.log.mtime.toNat
  else if b < 0x1000000 then w
  else if 0x2000000 ≤ b then s.readDec fn b i w
  else match (b / 0x80000) % 8 with
    | 0 => s.readDrv b (32 * i + j) k w
    | 1 => s.readFlx b (32 * i + j) w
    | 2 => if R.TONE_FREQ_LO ≤ b ∧ b < 0x1110000 then s.readTone b (256 * i + j) w else s.readRdo b (8 * i + j) w
    | 3 => s.readAcq b i w
    | 6 => s.readBias b (128 * i + j) w
    | 7 => s.readMon b (16 * i + j) w
    | _ => if b < 0x1228000 then s.readSeq b (seqNum i j) k w else w

/-- The word at PF0 address `a`, as function `fn` sees it, when its value is read without a held half. -/
def State.liveWord (s : State) (fn a : Nat) : Word :=
  match regAt a with
  | none => s.readWindow fn a
  | some (r, ix) => s.readReg fn r ix (s.reg a &&& ~~~ rowAcc .wo r.flds)

/-- A location whose read returns what an earlier read has held for the function (R15, R80, R322, R591). -/
def isHeld (a : Nat) : Bool :=
  (match regAt a with
   | some (r, _) => isHigh r.base
   | none => (0x2200000 ≤ a && a < 0x2400000 && a % 32 ≠ 0) || (0xC80000 ≤ a && a < 0xD00000 && a % 32 ≠ 0))

/-- What a read of PF0 address `a` returns to function `fn` (R15): a high half, the copy that the last read of the low
half left. FRAC and FRAC_VALID of a capture unit are held with its time (R80). -/
def State.readWord (s : State) (fn a : Nat) : Word :=
  if isHeld a then s.heldRd.get 0 (holdKey fn a)
  else
    let w := s.liveWord fn a
    match regAt a with
    | some (r, _) =>
      if r.base = R.TCU_STATUS then (w &&& ~~~ wmask 4 0) ||| (s.heldRd.get 0 (holdKey fn a) &&& wmask 4 0) else w
    | none => w

end Sys2Proof.Machine
end

