-- ==== Sys2Proof/Machine/RegRows.lean ====
section
/-!
DEFINITION. Machine/RegRows.lean: the register path of R26 for the accesses that have no row of their own: reads with the
copies they hold (R15), denied reads (R19), and writes with what they do besides (R9 to R17, R691).
-/

namespace Sys2Proof.Machine
open Sys2Proof

/-- Actions of WO bits, in ascending order (R691): each bit with what it does. -/
def State.acts (s : State) (w : Word) (l : List (Nat × (State → Out))) : State :=
  l.foldl (fun s x => if w.getLsbD x.1 then s.via x.2 else s) s

/-- The PF0 address of an access of function `fn` at offset `a` of its own BAR (R432, R433); Hearth's offsets are PF0's. -/
def fnAddr (fn a : Nat) : Option Nat := if full fn then (if a < 2 ^ 26 then some a else none) else vfAddr a

/-! ### Writes -/

/-- A write at `a` whose bits `m` take effect through `f` instead, where the block does not run; while it runs, R11
rejects it as it stands. -/
def State.ctrlWrite (s : State) (fn a : Nat) (r : RegDesc) (ix : List Nat) (m w : Word) (f : State → State) : State :=
  if s.runs r ix then s.plainWrite fn a w
  else f (s.plainWrite fn a ((w &&& ~~~ m) ||| (s.reg a &&& m)))

/-- A write of a control register whose bit 0 enables governed channel `c` (R128, R615). -/
def State.enableWrite (s : State) (fn a c : Nat) (r : RegDesc) (ix : List Nat) (w : Word) : State :=
  s.ctrlWrite fn a r ix 1 w (fun s => s.when (wget w 0 0 ≠ wget (s.reg a) 0 0) (·.setEnable c (wget w 0 0)))

/-- A status register whose bit 5 is HEAT_TRIP of output `n`: it clears by R113 only. -/
def State.outStatus (s : State) (fn a n : Nat) (w : Word) : State :=
  (s.plainWrite fn a (w &&& ~~~ wmask 5 5)).acts w [(5, execHeatTripWrite fn n)]

/-- Registers of a spare group: TARGET, then SWAP and RELEASE (R132). -/
def State.spareCtrl (s : State) (fn a g : Nat) (hi : Nat) (w : Word) : State :=
  (s.plainWrite fn a w).acts w [(8, execSpareCtrlSwap fn g (wget w hi 0)), (9, execSpareCtrlRelease fn g)]

/-- A write into the MSI-X table of `fn`: unmasking sends what is pending (R455). -/
def State.msixWrite (s : State) (fn o : Nat) (w : Word) : State :=
  let v := o / 16
  let k := fn * 32 + v
  let x := s.hif.msix.get Msix.zero k
  let x := match o % 16 / 4 with
    | 0 => { x with addr := BitVec.ofNat 64 (x.addr.toNat / 2 ^ 32 * 2 ^ 32 + w.toNat) }
    | 1 => { x with addr := BitVec.ofNat 64 (w.toNat * 2 ^ 32 + x.addr.toNat % 2 ^ 32) }
    | 2 => { x with data := w }
    | _ => { x with masked := w.getLsbD 0 }
  { s with hif.msix := s.hif.msix.set Msix.zero k x }.msixUnmask fn v

/-- Writes outside the register map: table entries (R322), MSI-X; every other location ignores them. -/
def State.windowWrite (s : State) (fn a : Nat) (w : Word) : State :=
  if 0x2200000 ≤ a ∧ a < 0x2400000 then
    let key := (a - 0x2200000) / 32
    let j := (a - 0x2200000) % 32 / 4
    if j < 3 then { s with dec.held := s.dec.held.set 0 (entHeld fn key j) w }
    else if j = 3 then s.via (execDecEntryWrite fn key w)
    else s
  else if 0x610000 ≤ a ∧ a < 0x610200 then s.msixWrite (hostFn fn) (a - 0x610000) w
  else s

/-- HRT, INT and EVR. -/
def State.writeCtl (s : State) (fn a : Nat) (r : RegDesc) (ix : List Nat) (w : Word) : State :=
  let b := r.base
  let i := ix.getD 0 0
  if b = R.HRT_SQ_TAIL then
    s.via (if s.pwr.mode = .banked then execBankedDoorbell fn i w else execSqTailDoorbell fn i w)
  else if b = R.HRT_CQ_HEAD then
    s.via (if s.pwr.mode = .banked then execBankedDoorbell fn (64 + i) w else execCqHeadDoorbell fn i w)
  else if b = R.INT_SWI then s.via (execIntSwiRegisterWrite fn (wget w 3 0))
  else if b = R.INT_COMPLETE then s.via (execIntCompleteWrite fn i (wget w 9 0))
  else if b = R.EVR_CTRL then s.acts w [(0, execEvrCtrlCommit fn), (1, execEvrCtrlDiscard fn)]
  else if b = R.EVR_SW_PUB then s.acts w [(8, execEvrSwPub fn (wget w 7 0))]
  else if b = R.EVR_CHAN_CFG ∨ b = R.EVR_CHAN_STATUS then s.evchWrite fn i (·.plainWrite fn a w)
  else s.plainWrite fn a w

/-- TIM: an enabled unit takes a new target (R77); PTP that is switched off leaves wall time FREE (R66); PPS OUT follows
its enable (R68). -/
def State.writeTim (s : State) (fn a : Nat) (r : RegDesc) (ix : List Nat) (w : Word) : State :=
  let b := r.base
  let i := ix.getD 0 0
  let t := s.plainWrite fn a w
  if b = R.TD_CTRL then
    s.acts w [(0, execTdCtrlAnchor fn i), (1, execTdCtrlPropagate fn i), (2, execTdCtrlRelease fn i)]
  else if b = R.TTU_CTRL then
    t.when (t.on (Page.ttu i) F.TTU_CTRL_ENABLE ∧ ¬ s.on (Page.ttu i) F.TTU_CTRL_ENABLE) (·.ttuArm i)
  else if b = R.TTU_TARGET_HI then s.ttuRetarget i (·.plainWrite fn a w)
  else if b = R.TIM_CTRL then t.ppsDrop
  else if b = R.TIM_PTP_CFG then
    t.when (s.on Page.tim F.TIM_PTP_CFG_ENABLE ∧ ¬ t.on Page.tim F.TIM_PTP_CFG_ENABLE) (·.setWall 0)
  else t

/-- PWR and HIF. -/
def State.writeHost (s : State) (fn a : Nat) (r : RegDesc) (ix : List Nat) (w : Word) : State :=
  let b := r.base
  let i := ix.getD 0 0
  if b = R.PWR_CTRL then s.acts w [(0, execPwrCtrlBank fn), (1, execPwrCtrlWake fn), (2, execPwrCtrlSave fn)]
  else if b = R.PWR_CAP then (s.plainWrite fn a w).govern
  else if b = R.SQ_CTRL then s.via (execSqCtrlEnableWrite fn i w)
  else if b = R.CQ_CTRL then
    s.ctrlWrite fn a r ix 1 w (fun s => s.when (wget w 0 0 ≠ wget (s.reg a) 0 0) (·.cqEnable i (wget w 0 0)))
  else s.plainWrite fn a w

/-- FAB: lanes, ports, routes and the twin follow their registers (R471, R479, R484, R493, R497). -/
def State.writeFab (s : State) (fn a : Nat) (r : RegDesc) (ix : List Nat) (w : Word) : State :=
  let b := r.base
  let i := ix.getD 0 0
  let t := s.plainWrite fn a w
  if b = R.FAB_LANE_CFG then t.laneApply i
  else if b = R.FAB_LANE_CTRL then s.acts w [(0, execLaneSlip fn i), (1, execLaneRetrain fn i)]
  else if b = R.FAB_PORT_CTRL then
    s.ctrlWrite fn a r ix 1 w (fun s => s.when (wget w 0 0 ≠ wget (s.reg a) 0 0) (·.portEnable i (wget w 0 0)))
  else if b = R.FAB_ROUTE then t.when (t.reg a ≠ s.reg a) (·.flag Page.fab F.FAB_EVENTS_ROUTE_CHANGED)
  else if b = R.FAB_TWIN_CTRL ∨ b = R.FAB_TWIN_SW then t.twinWritten (s.on Page.twin F.FAB_TWIN_CTRL_EN)
  else t

/-- MEM. -/
def State.writeMem (s : State) (fn a : Nat) (r : RegDesc) (w : Word) : State :=
  if r.base = R.MEM_MARCH_CTRL then
    (s.plainWrite fn a w).acts w [(16, execMemMarchCtrlStart fn), (17, execMemMarchCtrlStop fn)]
  else if r.base = R.MEM_WIN_DATA_HI then s.via (execMemWinDataHiAccess fn (some w))
  else s.plainWrite fn a w

/-- DRV. -/
def State.writeDrv (s : State) (fn a : Nat) (r : RegDesc) (ix : List Nat) (w : Word) : State :=
  let b := r.base
  let n := 32 * ix.getD 0 0 + ix.getD 1 0
  if b = R.DRV_CTRL then s.enableWrite fn a (drvChan n) r ix w
  else if b = R.DRV_STATUS then s.outStatus fn a n w
  else if b = R.DRV_ENV_DATA then s.via (execDrvEnvDataAccess fn (ix.getD 0 0) (some w))
  else if b = R.DRV_SPARE_CTRL then s.spareCtrl fn a (4 * ix.getD 0 0 + ix.getD 1 0) 2 w
  else s.plainWrite fn a w

/-- FLX: SPAN, ENABLE and PARK as FLX_CONFIG writes them (R150, R151); the bank registers are locked while a commit
waits (R147). -/
def State.writeFlx (s : State) (fn a : Nat) (r : RegDesc) (ix : List Nat) (w : Word) : State :=
  let b := r.base
  let n := 32 * ix.getD 0 0 + ix.getD 1 0
  if b = R.FLX_CTRL then
    s.ctrlWrite fn a r ix 7 w (fun s =>
      let s := s.when (wget w 2 1 ≤ 2) (·.flxSpan n (wget w 2 1))
      s.when (wget w 0 0 ≠ wget (s.reg a) 0 0) (·.setEnable (flxChan n) (wget w 0 0)))
  else if b = R.FLX_PARK then s.ctrlWrite fn a r ix (wmask 15 0) w (·.flxPark n (wget w 15 0))
  else if b = R.FLX_PD_CTRL then s.acts w [(0, execFlxPdCommit fn n)]
  else if b = R.FLX_SPARE_CTRL then s.spareCtrl fn a (16 + 4 * ix.getD 0 0 + ix.getD 1 0) 2 w
  else if isBankOff (a % 0x1000) && s.on (Page.flx n) F.FLX_STATUS_COMMIT_PENDING && decide (b < R.FLX_LOCKED_WRITES) then
    s.lockedWrite a
  else s.plainWrite fn a w

/-- RDO. -/
def State.writeRdo (s : State) (fn a : Nat) (r : RegDesc) (ix : List Nat) (w : Word) : State :=
  let b := r.base
  let q := ix.getD 0 0
  let m := 8 * q + ix.getD 1 0
  if b = R.RDO_PRB_CTRL then s.enableWrite fn a (prbChan m) r ix w
  else if b = R.RDO_PRB_STATUS then s.outStatus fn a (128 + m) w
  else if b = R.RDO_ADC_CTRL then s.enableWrite fn a (adcChan m) r ix w
  else if b = R.RDO_PRB_SPARE_CTRL then s.spareCtrl fn a (32 + 2 * q + ix.getD 1 0) 1 w
  else if b = R.RDO_ADC_SPARE_CTRL then s.spareCtrl fn a (40 + 2 * q + ix.getD 1 0) 1 w
  else if b = R.RDO_KERN_I then
    (if ¬ full fn ∧ s.owner (128 + 8 * q + s.g (Page.rdoq q) F.RDO_KERN_ADDR_INPUT) ≠ fn then s.deny fn
     else { s with rdo.kernHeld := s.rdo.kernHeld.set 0 (fn * 4 + q) w })
  else if b = R.RDO_KERN_Q then s.via (execRdoKernQAccess fn q (some w))
  else s.plainWrite fn a w

/-- The record ring of partition `q` (R272, R275). -/
def State.writeRec (s : State) (fn a : Nat) (r : RegDesc) (ix : List Nat) (w : Word) : State :=
  let b := r.base
  let p := ix.getD 0 0
  let t := s.plainWrite fn a w
  if b = R.REC_CTRL then
    t.when (t.on (Page.ring p) F.REC_CTRL_ENABLE ∧ ¬ s.on (Page.ring p) F.REC_CTRL_ENABLE) (·.recRestart p)
  else if b = R.REC_BASE_HI then t.when (t.recBase p ≠ s.recBase p) (·.recRestart p)
  else if b = R.REC_LEN then
    (if 1 ≤ wget w 31 12 ∧ wget w 31 12 ≤ 262143 then s.recResize p (wget w 31 12) else s)
  else if b = R.REC_CONS then s.via (execRecConsWrite fn p w)
  else t

/-- SEQ, with the partitions: ABORT goes before STOP, and STOP before ARM (R697). -/
def State.writeSeq (s : State) (fn a : Nat) (r : RegDesc) (ix : List Nat) (w : Word) : State :=
  let b := r.base
  let i := ix.getD 0 0
  if b = R.SEQ_JUMP_REQ then s.acts w [(8, execSeqJumpReq fn (seqNum i (ix.getD 1 0)) (wget w 2 0))]
  else if b = R.PART_CTRL then
    (if w.getLsbD 2 then s.via (execPartCtrlAbort fn i)
     else if w.getLsbD 1 then s.via (execPartCtrlStop fn i)
     else s.acts w [(0, execPartCtrlArm fn i)])
  else s.plainWrite fn a w

/-- ACQ, with the stream rings (R342, R343). -/
def State.writeAcq (s : State) (fn a : Nat) (r : RegDesc) (ix : List Nat) (w : Word) : State :=
  let b := r.base
  let q := ix.getD 0 0
  let u := 8 * q + ix.getD 1 0
  let t := s.plainWrite fn a w
  if b = R.ACQ_CU_CTRL then t.acts w [(16, execAcqCuArm fn u), (17, execAcqCuStop fn u), (18, execAcqCuSwTrig fn u)]
  else if b = R.ACQ_MASK_HI then s.via (execAcqMaskHiAccess fn q (some w))
  else if b = R.STR_CTRL then
    t.when (t.on (Page.cu u) F.STR_CTRL_ENABLE ∧ ¬ s.on (Page.cu u) F.STR_CTRL_ENABLE) (·.strRestart u)
  else if b = R.STR_BASE_HI then t.when (t.strBase u ≠ s.strBase u) (·.strRestart u)
  else if b = R.STR_LEN then
    (if 2 ≤ wget w 31 12 ∧ wget w 31 12 ≤ 262143 then s.strResize u (wget w 31 12) else s)
  else if b = R.STR_CONS then s.via (execStrConsWrite fn u w)
  else t

/-- BIAS. -/
def State.writeBias (s : State) (fn a : Nat) (r : RegDesc) (ix : List Nat) (w : Word) : State :=
  let b := r.base
  let q := ix.getD 0 0
  let n := 128 * q + ix.getD 1 0
  if b = R.BIAS_CTRL then
    s.ctrlWrite fn a r ix (wmask 3 0) w (fun s =>
      s.biasCtrl n (if wget w 3 1 ≤ 5 then wget w 3 1 else s.g (Page.bias n) F.BIAS_CTRL_SPAN) (wget w 0 0))
  else if b = R.BIAS_CODE then s.via (execBiasCodeWrite fn n w)
  else if b = R.BIAS_SLEW then (s.biasReslew n).plainWrite fn a w
  else if b = R.BIAS_QCMD then
    s.acts w [(0, execBiasQcmdStart fn n), (1, execBiasQcmdStop fn n), (2, execBiasQcmdFlush fn n),
      (3, execBiasQcmdRestore fn n)]
  else if b = R.BIAS_QSTART then s.via (execBiasQstartWrite fn q (ix.getD 1 0) w)
  else s.plainWrite fn a w

/-- MON: a calibration in progress rejects the factors and the reference (R389). -/
def State.writeMon (s : State) (fn a : Nat) (r : RegDesc) (ix : List Nat) (w : Word) : State :=
  let b := r.base
  let q := ix.getD 0 0
  let m := 16 * q + ix.getD 1 0
  let busy : Bool := s.on (Page.monq q) F.MON_CAL_STATUS_BUSY
  if b = R.MON_CTRL then s.enableWrite fn a (monGov m) r ix w
  else if b = R.MON_CMD then s.acts w [(0, execMonCmdStart fn m), (1, execMonCmdStop fn m), (2, execMonCmdInject fn m)]
  else if b = R.MON_CAL_OFFSET ∨ b = R.MON_CAL_GAIN then (if busy then s.lockedWrite a else s.plainWrite fn a w)
  else if b = R.MON_REF then
    (if busy then s.lockedWrite a else if wget w 1 0 ≤ 2 then s.monRef q (wget w 1 0) else s)
  else if b = R.MON_CAL_CTRL then s.acts w [(0, execMonCalCtrlStart fn q)]
  else if b = R.MON_COMMON_CMD then
    s.acts w [(0, execMonCommonCmdFire fn), (1, execMonCommonCmdRun fn), (2, execMonCommonCmdHalt fn)]
  else s.plainWrite fn a w

/-- A write of a register of the map, past the register path. -/
def State.regWrite (s : State) (fn a : Nat) (r : RegDesc) (ix : List Nat) (w : Word) : State :=
  let b := r.base
  if b < 0x300000 then s.writeCtl fn a r ix w
  else if b < 0x400000 then s.writeTim fn a r ix w
  else if b < 0x700000 then s.writeHost fn a r ix w
  else if b < 0x800000 then s.writeFab fn a r ix w
  else if b < 0xA00000 then s.writeMem fn a r w
  else if b < 0x1000000 ∨ 0x2000000 ≤ b then s.plainWrite fn a w
  else match (b / 0x80000) % 8 with
    | 0 => s.writeDrv fn a r ix w
    | 1 => s.writeFlx fn a r ix w
    | 2 => if R.REC_CTRL ≤ b then s.writeRec fn a r ix w else s.writeRdo fn a r ix w
    | 3 => s.writeAcq fn a r ix w
    | 6 => s.writeBias fn a r ix w
    | 7 => s.writeMon fn a r ix w
    | _ => s.writeSeq fn a r ix w

/-- A write by function `fn` at PF0 address `a`, through the register path. -/
def State.writeAt (s : State) (fn a : Nat) (w : Word) : State :=
  s.onWrite fn a (fun s => match regAt a with
    | some (r, ix) => s.regWrite fn a r ix w
    | none => s.windowWrite fn a w)

/-- REGISTER_WRITE (R9 to R14, R17, R19, R691): a write by function `fn` at offset `a` of its own BAR. -/
def execRegisterWrite (fn a : Nat) (v : Word) (s : State) : Out :=
  .next (if 6 ≤ fn then s else match fnAddr fn a with
    | some x => s.writeAt fn x v
    | none => s.deny fn)

/-- REG64_HIGH_WRITE (R11, R16): the high half of a 64-bit value. -/
def execReg64HighWrite (fn a : Nat) (v : Word) (s : State) : Out :=
  .next (if 6 ≤ fn then s else match fnAddr fn a with
    | some x => (match regAt x with
      | some (r, _) => if isHigh r.base then s.writeAt fn x v else s
      | none => s)
    | none => s.deny fn)

/-! ### Reads -/

/-- A word is held for function `fn` under the address whose read returns it. -/
def State.hold (s : State) (fn a : Nat) (w : Word) : State := { s with heldRd := s.heldRd.set 0 (holdKey fn a) w }
/-- A read returns `w`. -/
def State.answer (s : State) (w : Word) : State := { s with pins.rdata := w }

/-- A read of MEM_WIN_DATA_LO (R404, R413, R428): an unmapped word reads as zero; of an uncorrectable one no data goes
out, and what the read returns is open. -/
def State.winRead (s : State) (fn a : Nat) : State :=
  let x := s.winAddr
  if ¬ s.memMapped x 8 then ((s.memUnmapped).hold fn (a + 4) 0).answer 0
  else match s.firstPoison x 8 with
    | none =>
      let v := leNat (s.ddrRead x 8)
      let s := s.ddrIssue 1
      (s.hold fn (a + 4) (hi32 v)).answer (lo32 v)
    | some y =>
      let f := (s.memBad 0 (s.addrLoc y)).fresh 64
      (f.1.hold fn (a + 4) (hi32 f.2)).answer (lo32 f.2)

/-- A read of a low register by function `fn`, at PF0 address `a` (R15): the high half is held. -/
def State.lowRead (s : State) (fn a : Nat) (r : RegDesc) (ix : List Nat) : State :=
  let b := r.base
  let q := ix.getD 0 0
  if b = R.RDO_KERN_I then s.kernI fn q
  else if b = R.MEM_WIN_DATA_LO then s.winRead fn a
  else if b = R.ACQ_MASK_LO then
    let v := (s.acq.mask.get 0 (q * 2048 + s.g (Page.acqq q) F.ACQ_MASK_ADDR_ADDR)).toNat
    (s.hold fn (a + 4) (hi32 v)).answer (lo32 v)
  else if b = R.TCU_TIME_LO then
    ((s.hold fn (a + 4) (s.liveWord fn (a + 4))).hold fn (a + 8) (s.reg (a + 8))).answer (s.liveWord fn a)
  else if b = R.MON_DATA_LO then
    let m := 16 * q + ix.getD 1 0
    ((s.hold fn (a + 4) (s.liveWord fn (a + 4))).answer (s.liveWord fn a)).setMon m { s.mon m with loRead := true }
  else if isLow b then (s.hold fn (a + 4) (s.liveWord fn (a + 4))).answer (s.liveWord fn a)
  else s.answer (s.readWord fn a)

/-- A read of a window: word 0 of a table entry or of a log entry holds the words that follow (R322, R591). -/
def State.windowRead (s : State) (fn a : Nat) : State :=
  if 0x2200000 ≤ a ∧ a < 0x2400000 ∧ a % 32 = 0 then
    let k := (a - 0x2200000) / 32
    (forEach [1, 2, 3] s (fun s j => s.hold fn (a + 4 * j) (s.entryWord k j))).answer (s.entryWord k 0)
  else if 0xC80000 ≤ a ∧ a < 0xD00000 ∧ a % 32 = 0 then s.logRead fn ((a - 0xC80000) / 32)
  else s.answer (s.readWord fn a)

/-- A read that does something besides, which has a row of its own (R80, R131, R283, R356, R387, R428, R526). -/
def rowRead (fn : Nat) (r : RegDesc) (ix : List Nat) : Option (State → Out) :=
  let b := r.base
  let i := ix.getD 0 0
  if b = R.TCU_TIME_HI then some (execTcuTimeHiRead fn i)
  else if b = R.INT_CLAIM then some (execIntClaimRead fn i)
  else if b = R.DRV_ENV_DATA then some (execDrvEnvDataAccess fn i none)
  else if b = R.RDO_KERN_Q then some (execRdoKernQAccess fn i none)
  else if b = R.ACQ_MASK_HI then some (execAcqMaskHiAccess fn i none)
  else if b = R.MON_DATA_HI then some (execMonDataHiRead fn (16 * i + ix.getD 1 0))
  else if b = R.MEM_WIN_DATA_HI then some (execMemWinDataHiAccess fn none)
  else none

/-- A read by function `fn` at PF0 address `a`, through the register path. -/
def State.readAt (s : State) (fn a : Nat) : State :=
  match regAt a with
  | some (r, ix) => (match rowRead fn r ix with
    | some f => s.via f
    | none => s.onRead fn a (fun s => s.lowRead fn a r ix))
  | none => s.onRead fn a (fun s => s.windowRead fn a)

/-- REG64_LOW_READ (R15): a read that holds a copy for its function; the registers without a high half read the same way. -/
def execReg64LowRead (fn a : Nat) (s : State) : Out :=
  .next (if 6 ≤ fn then s else match fnAddr fn a with
    | some x => s.readAt fn x
    | none => (s.deny fn).answer 0)

/-- DENIED_READ (R19): a read outside the function's view returns zero and counts; within it, the read is an ordinary one. -/
def execDeniedRead (fn a : Nat) (s : State) : Out :=
  .next (if 6 ≤ fn then s else match fnAddr fn a with
    | some x => s.readAt fn x
    | none => (s.deny fn).answer 0)

end Sys2Proof.Machine
end

