-- ==== Sys2Proof/Machine/TwinRows.lean ====
section
/-!
DEFINITION. Machine/TwinRows.lean: the words of a twin pair and its timeouts (R490 to R498).
-/

namespace Sys2Proof.Machine
open Sys2Proof

/-- A mirror word of type `t` from the partner: it is taken from the words delivered, and counts as a heartbeat. -/
def State.heard (s : State) (t : Nat) (w : W64) (f : State → State) : State :=
  if s.pwr.mode = .off ∨ ¬ s.twinEn ∨ mwType w ≠ t then s else f (s.takeWord 7 w).hear

/-- MIRROR_LOOKUP (R314, R490, R491). -/
def execMirrorLookup (w : BitVec 64) (s : State) : Out := .next (s.heard 0 w (·.mirrored w))

/-- COMET_APPLY (R490, R491). -/
def execCometApply (w : BitVec 64) (s : State) : Out := .next (s.heard 1 w (·.mirrored w))

/-- The SHOT_MARK of shot `n` of partition `p`: its record is the partner's. -/
def State.shotMark (s : State) (p n : Nat) (d : W64) : State :=
  let s := { s with fab.marked := s.fab.marked.set 0 p (n + 1)
                    fab.withheld := if s.twinState = 5 then s.fab.withheld
                      else s.fab.withheld.filter (fun x => x.1 ≠ p ∨ n < x.2.shot.num) }
  if s.twinState = 2 then
    ({ s with fab.digest := s.fab.digest.set 0 (digKey p n + 1) (d.toNat + 1) }).twinCompare p n
  else s

/-- SHOT_MARK (R492): its second word is the digest. -/
def execShotMark (w d : BitVec 64) (s : State) : Out :=
  .next (s.heard 2 w (fun s => if 5 ≤ mwPart w then s else s.shotMark (mwPart w) (mwShot w) d))

/-- HEARTBEAT_SEND (R493): every 256 ticks, with IN_STEP. -/
def execHeartbeatSend (s : State) : Out :=
  .next (if s.pwr.mode = .off ∨ ¬ s.twinEn ∨ s.now / 16 < s.fab.beatAt + 256 then s
    else ({ s with fab.beatAt := s.now / 16 }).mirrorAll
      [s.mirrorWord 3 0 (s.tk 0 % 2 ^ 40 + (if s.inStep then 2 ^ 40 else 0))])

/-- The partner asks for the join copy: its HEARTBEAT shows it out of step (R493, R498). With no partition running, the
copy is empty and goes at once. -/
def State.joinWanted (s : State) : State :=
  if s.fab.joinAsk.isSome then s
  else
    let s := { s with fab.joinAsk := some false }
    if s.anyBusyPart then s else s.joinSend

/-- A HEARTBEAT's effect on the state of R493. In NONE, the partner is in NONE too, or ACTIVE or ACTIVE_ALONE: no word
tells, and the model leaves it open. -/
def State.beat (s : State) (step : Bool) : State :=
  match s.twinState with
  | 0 =>
    if s.twinLink then
      let v := s.fresh 1
      if v.2 = 1 then v.1.twinSet 1 else v.1.twinSet (if s.on Page.twin F.FAB_TWIN_CTRL_TWIN_BIT then 2 else 3)
    else s
  | 3 =>
    let s := s.p Page.twin F.FAB_TWIN_STATUS_IN_STEP (if step then 1 else 0)
    if step then { s with fab.joinAsk := none } else s.joinWanted
  | 4 => if step then s.twinSet 3 else s.joinWanted
  | 5 => s.twinReturn
  | _ => s

/-- HEARTBEAT (R490, R493). -/
def execHeartbeat (w : BitVec 64) (s : State) : Out :=
  .next (s.heard 3 w (·.beat (bitsOf w 51 51 = 1)))

/-- HB_TIMEOUT in ticks; 0 runs as 1 (R505). -/
def State.hbTicks (s : State) : Nat := 100 * max 1 (s.g Page.twin F.FAB_TWIN_CTRL_HB_TIMEOUT)

/-- The tick from which HB_TIMEOUT counts: the last mirror word; of a FAILED member not before its own FAIL (R495). -/
def State.silentFrom (s : State) : Nat := if s.twinState = 5 then max s.fab.heardAt s.fab.failAt else s.fab.heardAt

/-- HEARTBEAT_TIMEOUT (R493, R495): no mirror word on any path for HB_TIMEOUT. -/
def execHeartbeatTimeout (s : State) : Out :=
  .next (if s.pwr.mode = .off ∨ ¬ s.twinEn ∨ s.now / 16 < s.silentFrom + s.hbTicks then s
    else
      let s := s.unflag Page.twin F.FAB_TWIN_STATUS_PARTNER_SEEN
      if s.twinState = 3 then
        ((s.flag Page.fab F.FAB_EVENTS_TWIN_LOST).logIt Cause.twinLost 0 (gid 7 40) 0).twinSet 4
      else s.partnerFailed 0)

/-- FAIL (R493, R495). -/
def execFail (w : BitVec 64) (s : State) : Out := .next (s.heard 4 w (·.partnerFailed (bitsOf w 18 11)))

/-- TAKEN (R495): the failed member discards the record that it withheld. -/
def execTaken (w : BitVec 64) (s : State) : Out :=
  .next (s.heard 7 w (fun s => if s.twinState = 5 then
      { s with fab.withheld := s.fab.withheld.filter (fun x => decide (x.1 ≠ mwPart w)) } else s))

/-- HANDOVER (R496). -/
def execHandover (w : BitVec 64) (s : State) : Out :=
  .next (s.heard 6 w (fun s => if s.twinState = 2 ∧ mwPart w < 5 then
      ({ s with fab.handShot := some (mwPart w, mwShot w) }).handDue else s))

/-- STATE (R498): the number of image words that follow. -/
def execState (w : BitVec 64) (s : State) : Out :=
  .next (s.heard 5 w (fun s => if s.twinState = 1 then
      let n := bitsOf w 42 11
      let s := { s with fab.joinLeft := n, fab.joinWords := [], fab.joinHeld := [] }
      if n = 0 then s.joinDone else s
    else s))

/-- JOIN_IMAGE_WORD (R498). -/
def execJoinImageWord (w : BitVec 64) (s : State) : Out :=
  .next (if s.pwr.mode = .off then s else
    let s := s.takeWord 9 w
    if s.twinState ≠ 1 ∨ s.fab.joinLeft = 0 then s
    else
      let s := { s with fab.joinLeft := s.fab.joinLeft - 1, fab.joinWords := s.fab.joinWords ++ [w] }
      if s.fab.joinLeft = 0 then s.joinDone else s)

/-- TWIN_PARTNER_ABSENT (R493): no partner seen for 10 µs after EN. -/
def execTwinPartnerAbsent (s : State) : Out :=
  .next (if s.pwr.mode ≠ .off ∧ s.twinEn ∧ s.twinState = 0 ∧ ¬ s.partnerSeen ∧ s.fab.enabledAt + 10000 ≤ s.now / 16 then
      s.twinSet 4 else s)

/-- TAKEOVER_BOUNDARY (R494). -/
def execTakeoverBoundary (p : Nat) (s : State) : Out := .next (if p < 5 then s.takeBoundary p else s)

end Sys2Proof.Machine
end

