-- ==== Sys2Proof/Machine/Dispatch.lean ====
section
/-!
DEFINITION. Machine/Dispatch.lean: one arm per command of the table, each a direct call of its meaning.
-/

namespace Sys2Proof.Machine
open Sys2Proof

def exec (i : Instr) (s : State) : Host.Outcome State Fault Refusal :=
  match i with
  | .nop o => Sys2Proof.Machine.execNop o s
  | .hrtIdentify p => Sys2Proof.Machine.execHrtIdentify p s
  | .hrtPatchLoad p => Sys2Proof.Machine.execHrtPatchLoad p s
  | .hrtPatchClear p => Sys2Proof.Machine.execHrtPatchClear p s
  | .intSrcSet p => Sys2Proof.Machine.execIntSrcSet p s
  | .intTargetSet p => Sys2Proof.Machine.execIntTargetSet p s
  | .intSwi p => Sys2Proof.Machine.execIntSwi p s
  | .intSwiRegisterWrite fn sw => Sys2Proof.Machine.execIntSwiRegisterWrite fn sw s
  | .intClaimRead fn t => Sys2Proof.Machine.execIntClaimRead fn t s
  | .intCompleteWrite fn t id => Sys2Proof.Machine.execIntCompleteWrite fn t id s
  | .intDelivery t => Sys2Proof.Machine.execIntDelivery t s
  | .moderationWindowEnd t => Sys2Proof.Machine.execModerationWindowEnd t s
  | .faultTrap kind upc => Sys2Proof.Machine.execFaultTrap kind upc s
  | .interruptTrap => Sys2Proof.Machine.execInterruptTrap s
  | .tickTrap => Sys2Proof.Machine.execTickTrap s
  | .trapReturn => Sys2Proof.Machine.execTrapReturn s
  | .routineYield upc => Sys2Proof.Machine.execRoutineYield upc s
  | .groupRelease ctx grp => Sys2Proof.Machine.execGroupRelease ctx grp s
  | .evrChanSet p => Sys2Proof.Machine.execEvrChanSet p s
  | .evrCellStage p => Sys2Proof.Machine.execEvrCellStage p s
  | .evrPubStage p => Sys2Proof.Machine.execEvrPubStage p s
  | .evrCommit p => Sys2Proof.Machine.execEvrCommit p s
  | .evrCtrlCommit fn => Sys2Proof.Machine.execEvrCtrlCommit fn s
  | .evrDiscard p => Sys2Proof.Machine.execEvrDiscard p s
  | .evrCtrlDiscard fn => Sys2Proof.Machine.execEvrCtrlDiscard fn s
  | .evrPublish p => Sys2Proof.Machine.execEvrPublish p s
  | .evrSwPub fn ch => Sys2Proof.Machine.execEvrSwPub fn ch s
  | .eventPublication o => Sys2Proof.Machine.execEventPublication o s
  | .chanRateTripClear fn ch => Sys2Proof.Machine.execChanRateTripClear fn ch s
  | .cellFilterSettled c => Sys2Proof.Machine.execCellFilterSettled c s
  | .wakeEvent ch => Sys2Proof.Machine.execWakeEvent ch s
  | .timeAnchor p => Sys2Proof.Machine.execTimeAnchor p s
  | .tdCtrlAnchor fn d => Sys2Proof.Machine.execTdCtrlAnchor fn d s
  | .timePropagate p => Sys2Proof.Machine.execTimePropagate p s
  | .tdCtrlPropagate fn d => Sys2Proof.Machine.execTdCtrlPropagate fn d s
  | .timeRelease p => Sys2Proof.Machine.execTimeRelease p s
  | .tdCtrlRelease fn d => Sys2Proof.Machine.execTdCtrlRelease fn d s
  | .anchorLoad d => Sys2Proof.Machine.execAnchorLoad d s
  | .anchorFrameReceive frame => Sys2Proof.Machine.execAnchorFrameReceive frame s
  | .anchorFrameForward => Sys2Proof.Machine.execAnchorFrameForward s
  | .timeAlign p => Sys2Proof.Machine.execTimeAlign p s
  | .alignmentVerify ok => Sys2Proof.Machine.execAlignmentVerify ok s
  | .timeWallRelock p => Sys2Proof.Machine.execTimeWallRelock p s
  | .refLost => Sys2Proof.Machine.execRefLost s
  | .refRestored => Sys2Proof.Machine.execRefRestored s
  | .ptpSync m => Sys2Proof.Machine.execPtpSync m s
  | .wallHoldover => Sys2Proof.Machine.execWallHoldover s
  | .ttuFire n => Sys2Proof.Machine.execTtuFire n s
  | .tcuCapture n t frac => Sys2Proof.Machine.execTcuCapture n t frac s
  | .tcuTimeHiRead fn n => Sys2Proof.Machine.execTcuTimeHiRead fn n s
  | .reg64LowRead fn a => Sys2Proof.Machine.execReg64LowRead fn a s
  | .reg64HighWrite fn a v => Sys2Proof.Machine.execReg64HighWrite fn a v s
  | .registerWrite fn a v => Sys2Proof.Machine.execRegisterWrite fn a v s
  | .drvConfig p => Sys2Proof.Machine.execDrvConfig p s
  | .drvFrameSet p => Sys2Proof.Machine.execDrvFrameSet p s
  | .envLoad p => Sys2Proof.Machine.execEnvLoad p s
  | .envDescSet p => Sys2Proof.Machine.execEnvDescSet p s
  | .drvEnvDataAccess fn q wr => Sys2Proof.Machine.execDrvEnvDataAccess fn q wr s
  | .drvHeatSet p => Sys2Proof.Machine.execDrvHeatSet p s
  | .drvTripClear p => Sys2Proof.Machine.execDrvTripClear p s
  | .heatTripWrite fn ch => Sys2Proof.Machine.execHeatTripWrite fn ch s
  | .heatTrip ch => Sys2Proof.Machine.execHeatTrip ch s
  | .drvSpareSwap p => Sys2Proof.Machine.execDrvSpareSwap p s
  | .drvSpareRelease p => Sys2Proof.Machine.execDrvSpareRelease p s
  | .spareCtrlSwap fn g target => Sys2Proof.Machine.execSpareCtrlSwap fn g target s
  | .spareCtrlRelease fn g => Sys2Proof.Machine.execSpareCtrlRelease fn g s
  | .spareCopyComplete g => Sys2Proof.Machine.execSpareCopyComplete g s
  | .datapathFailure ch => Sys2Proof.Machine.execDatapathFailure ch s
  | .spareFailure g => Sys2Proof.Machine.execSpareFailure g s
  | .extMuteInput asserted => Sys2Proof.Machine.execExtMuteInput asserted s
  | .flxConfig p => Sys2Proof.Machine.execFlxConfig p s
  | .flxGainSet p => Sys2Proof.Machine.execFlxGainSet p s
  | .flxPdLoad p => Sys2Proof.Machine.execFlxPdLoad p s
  | .flxPdCommit fn ch => Sys2Proof.Machine.execFlxPdCommit fn ch s
  | .flxSpareSwap p => Sys2Proof.Machine.execFlxSpareSwap p s
  | .flxSpareRelease p => Sys2Proof.Machine.execFlxSpareRelease p s
  | .flxRampEnd ch => Sys2Proof.Machine.execFlxRampEnd ch s
  | .seqConfig p => Sys2Proof.Machine.execSeqConfig p s
  | .seqImageLoad p => Sys2Proof.Machine.execSeqImageLoad p s
  | .seqJump p => Sys2Proof.Machine.execSeqJump p s
  | .seqJumpReq fn q vec => Sys2Proof.Machine.execSeqJumpReq fn q vec s
  | .seqVectorSet p => Sys2Proof.Machine.execSeqVectorSet p s
  | .seqMarkerMap p => Sys2Proof.Machine.execSeqMarkerMap p s
  | .partArm p => Sys2Proof.Machine.execPartArm p s
  | .partCtrlArm fn p => Sys2Proof.Machine.execPartCtrlArm fn p s
  | .partStop p => Sys2Proof.Machine.execPartStop p s
  | .partCtrlStop fn p => Sys2Proof.Machine.execPartCtrlStop fn p s
  | .partAbort p => Sys2Proof.Machine.execPartAbort p s
  | .partCtrlAbort fn p => Sys2Proof.Machine.execPartCtrlAbort fn p s
  | .armingComplete p => Sys2Proof.Machine.execArmingComplete p s
  | .runStartCut p => Sys2Proof.Machine.execRunStartCut p s
  | .startTime p => Sys2Proof.Machine.execStartTime p s
  | .refillComplete q half => Sys2Proof.Machine.execRefillComplete q half s
  | .barrierNotice p => Sys2Proof.Machine.execBarrierNotice p s
  | .barrierRelease p => Sys2Proof.Machine.execBarrierRelease p s
  | .barrierTimeout p => Sys2Proof.Machine.execBarrierTimeout p s
  | .regionAbortReceive q => Sys2Proof.Machine.execRegionAbortReceive q s
  | .jumpTaken q => Sys2Proof.Machine.execJumpTaken q s
  | .markerPulseEnd q b => Sys2Proof.Machine.execMarkerPulseEnd q b s
  | .timelineEffect q => Sys2Proof.Machine.execTimelineEffect q s
  | .wait q => Sys2Proof.Machine.execWait q s
  | .segment q => Sys2Proof.Machine.execSegment q s
  | .shotStart q => Sys2Proof.Machine.execShotStart q s
  | .shotEnd q => Sys2Proof.Machine.execShotEnd q s
  | .sync q => Sys2Proof.Machine.execSync q s
  | .regionBegin q => Sys2Proof.Machine.execRegionBegin q s
  | .regionEnd q => Sys2Proof.Machine.execRegionEnd q s
  | .testwin q => Sys2Proof.Machine.execTestwin q s
  | .prefetch q => Sys2Proof.Machine.execPrefetch q s
  | .endRun q => Sys2Proof.Machine.execEndRun q s
  | .jump q => Sys2Proof.Machine.execJump q s
  | .call q => Sys2Proof.Machine.execCall q s
  | .ret q => Sys2Proof.Machine.execRet q s
  | .loop q => Sys2Proof.Machine.execLoop q s
  | .endloop q => Sys2Proof.Machine.execEndloop q s
  | .repeatN q => Sys2Proof.Machine.execRepeatN q s
  | .branchFlag q => Sys2Proof.Machine.execBranchFlag q s
  | .branchCond q => Sys2Proof.Machine.execBranchCond q s
  | .waitCond q => Sys2Proof.Machine.execWaitCond q s
  | .waitCondResolve q => Sys2Proof.Machine.execWaitCondResolve q s
  | .waitCondTimeout q => Sys2Proof.Machine.execWaitCondTimeout q s
  | .clrc q => Sys2Proof.Machine.execClrc q s
  | .getc q => Sys2Proof.Machine.execGetc q s
  | .play q => Sys2Proof.Machine.execPlay q s
  | .acquire q => Sys2Proof.Machine.execAcquire q s
  | .freq q => Sys2Proof.Machine.execFreq q s
  | .phaseAdd q => Sys2Proof.Machine.execPhaseAdd q s
  | .phaseSet q => Sys2Proof.Machine.execPhaseSet q s
  | .phaseAddV q => Sys2Proof.Machine.execPhaseAddV q s
  | .frameReset q => Sys2Proof.Machine.execFrameReset q s
  | .level q => Sys2Proof.Machine.execLevel q s
  | .ldi q => Sys2Proof.Machine.execLdi q s
  | .addv q => Sys2Proof.Machine.execAddv q s
  | .subv q => Sys2Proof.Machine.execSubv q s
  | .addi q => Sys2Proof.Machine.execAddi q s
  | .cmp q => Sys2Proof.Machine.execCmp q s
  | .mul q => Sys2Proof.Machine.execMul q s
  | .mac q => Sys2Proof.Machine.execMac q s
  | .msu q => Sys2Proof.Machine.execMsu q s
  | .accv q => Sys2Proof.Machine.execAccv q s
  | .rnd q => Sys2Proof.Machine.execRnd q s
  | .expo q => Sys2Proof.Machine.execExpo q s
  | .norm q => Sys2Proof.Machine.execNorm q s
  | .clrf q => Sys2Proof.Machine.execClrf q s
  | .rdoProbeConfig p => Sys2Proof.Machine.execRdoProbeConfig p s
  | .rdoAdcConfig p => Sys2Proof.Machine.execRdoAdcConfig p s
  | .toneSet p => Sys2Proof.Machine.execToneSet p s
  | .kernelLoad p => Sys2Proof.Machine.execKernelLoad p s
  | .rdoKernQAccess fn q wr => Sys2Proof.Machine.execRdoKernQAccess fn q wr s
  | .rdoHeatSet p => Sys2Proof.Machine.execRdoHeatSet p s
  | .rdoTripClear p => Sys2Proof.Machine.execRdoTripClear p s
  | .rdoSpareSwap p => Sys2Proof.Machine.execRdoSpareSwap p s
  | .rdoSpareRelease p => Sys2Proof.Machine.execRdoSpareRelease p s
  | .recRingSet p => Sys2Proof.Machine.execRecRingSet p s
  | .recConsWrite fn p v => Sys2Proof.Machine.execRecConsWrite fn p v s
  | .windowEnd t adc => Sys2Proof.Machine.execWindowEnd t adc s
  | .earlyDecision t adc => Sys2Proof.Machine.execEarlyDecision t adc s
  | .depletionStart t => Sys2Proof.Machine.execDepletionStart t s
  | .outcomeArrival t => Sys2Proof.Machine.execOutcomeArrival t s
  | .recordAssembled p => Sys2Proof.Machine.execRecordAssembled p s
  | .recordWrite p => Sys2Proof.Machine.execRecordWrite p s
  | .decRouteSet p => Sys2Proof.Machine.execDecRouteSet p s
  | .decGatherSet p => Sys2Proof.Machine.execDecGatherSet p s
  | .decTableLoad p => Sys2Proof.Machine.execDecTableLoad p s
  | .decTableClear p => Sys2Proof.Machine.execDecTableClear p s
  | .decEntryWrite fn key v => Sys2Proof.Machine.execDecEntryWrite fn key v s
  | .decCometSet p => Sys2Proof.Machine.execDecCometSet p s
  | .decDecoderSet p => Sys2Proof.Machine.execDecDecoderSet p s
  | .gatherComplete g => Sys2Proof.Machine.execGatherComplete g s
  | .gatherTimeout g => Sys2Proof.Machine.execGatherTimeout g s
  | .chainLookup => Sys2Proof.Machine.execChainLookup s
  | .cometReceive w => Sys2Proof.Machine.execCometReceive w s
  | .cometAckSend p node => Sys2Proof.Machine.execCometAckSend p node s
  | .cometAckReceive p node a => Sys2Proof.Machine.execCometAckReceive p node a s
  | .cometAckTimeout p node => Sys2Proof.Machine.execCometAckTimeout p node s
  | .decoderUpdate src w => Sys2Proof.Machine.execDecoderUpdate src w s
  | .frameBarrierPass g => Sys2Proof.Machine.execFrameBarrierPass g s
  | .acqConfig p => Sys2Proof.Machine.execAcqConfig p s
  | .acqArm p => Sys2Proof.Machine.execAcqArm p s
  | .acqCuArm fn u => Sys2Proof.Machine.execAcqCuArm fn u s
  | .acqStop p => Sys2Proof.Machine.execAcqStop p s
  | .acqCuStop fn u => Sys2Proof.Machine.execAcqCuStop fn u s
  | .acqTrigger p => Sys2Proof.Machine.execAcqTrigger p s
  | .acqCuSwTrig fn u => Sys2Proof.Machine.execAcqCuSwTrig fn u s
  | .acqFetch p => Sys2Proof.Machine.execAcqFetch p s
  | .acqMaskLoad p => Sys2Proof.Machine.execAcqMaskLoad p s
  | .acqMaskHiAccess fn q wr => Sys2Proof.Machine.execAcqMaskHiAccess fn q wr s
  | .acqGroupSet p => Sys2Proof.Machine.execAcqGroupSet p s
  | .acqKConfig p => Sys2Proof.Machine.execAcqKConfig p s
  | .strRingSet p => Sys2Proof.Machine.execStrRingSet p s
  | .strConsWrite fn u v => Sys2Proof.Machine.execStrConsWrite fn u v s
  | .triggerArrival u adc ts => Sys2Proof.Machine.execTriggerArrival u adc ts s
  | .captureComplete u adc => Sys2Proof.Machine.execCaptureComplete u adc s
  | .rearmEnd u adc => Sys2Proof.Machine.execRearmEnd u adc s
  | .maskViolation u adc => Sys2Proof.Machine.execMaskViolation u adc s
  | .rateChange u adc => Sys2Proof.Machine.execRateChange u adc s
  | .streamGap u adc => Sys2Proof.Machine.execStreamGap u adc s
  | .itemFlush u adc => Sys2Proof.Machine.execItemFlush u adc s
  | .itemWrite u => Sys2Proof.Machine.execItemWrite u s
  | .groupMessage w t => Sys2Proof.Machine.execGroupMessage w t s
  | .markerInputEdge k rising => Sys2Proof.Machine.execMarkerInputEdge k rising s
  | .biasConfig p => Sys2Proof.Machine.execBiasConfig p s
  | .biasSet p => Sys2Proof.Machine.execBiasSet p s
  | .biasCodeWrite fn b v => Sys2Proof.Machine.execBiasCodeWrite fn b v s
  | .biasQueueLoad p => Sys2Proof.Machine.execBiasQueueLoad p s
  | .biasQueueStart p => Sys2Proof.Machine.execBiasQueueStart p s
  | .biasQstartWrite fn q k v => Sys2Proof.Machine.execBiasQstartWrite fn q k v s
  | .biasQueueStop p => Sys2Proof.Machine.execBiasQueueStop p s
  | .biasRestore p => Sys2Proof.Machine.execBiasRestore p s
  | .biasPolicySet p => Sys2Proof.Machine.execBiasPolicySet p s
  | .biasQcmdStart fn b => Sys2Proof.Machine.execBiasQcmdStart fn b s
  | .biasQcmdStop fn b => Sys2Proof.Machine.execBiasQcmdStop fn b s
  | .biasQcmdFlush fn b => Sys2Proof.Machine.execBiasQcmdFlush fn b s
  | .biasQcmdRestore fn b => Sys2Proof.Machine.execBiasQcmdRestore fn b s
  | .queueClockRelease b => Sys2Proof.Machine.execQueueClockRelease b s
  | .paceEvent b => Sys2Proof.Machine.execPaceEvent b s
  | .paceHoldRelease b => Sys2Proof.Machine.execPaceHoldRelease b s
  | .biasSlewEnd b => Sys2Proof.Machine.execBiasSlewEnd b s
  | .spanSwitchEnd b => Sys2Proof.Machine.execSpanSwitchEnd b s
  | .biasConditionReport b comp opn => Sys2Proof.Machine.execBiasConditionReport b comp opn s
  | .complianceWindowExpire b => Sys2Proof.Machine.execComplianceWindowExpire b s
  | .monConfig p => Sys2Proof.Machine.execMonConfig p s
  | .monStart p => Sys2Proof.Machine.execMonStart p s
  | .monCmdStart fn m => Sys2Proof.Machine.execMonCmdStart fn m s
  | .monStop p => Sys2Proof.Machine.execMonStop p s
  | .monCmdStop fn m => Sys2Proof.Machine.execMonCmdStop fn m s
  | .monInject p => Sys2Proof.Machine.execMonInject p s
  | .monCmdInject fn m => Sys2Proof.Machine.execMonCmdInject fn m s
  | .monCalibrate p => Sys2Proof.Machine.execMonCalibrate p s
  | .monCalCtrlStart fn q => Sys2Proof.Machine.execMonCalCtrlStart fn q s
  | .monCalEnd q => Sys2Proof.Machine.execMonCalEnd q s
  | .monRefSet p => Sys2Proof.Machine.execMonRefSet p s
  | .monRefSettled q => Sys2Proof.Machine.execMonRefSettled q s
  | .monTdacSet p => Sys2Proof.Machine.execMonTdacSet p s
  | .monCommonSet p => Sys2Proof.Machine.execMonCommonSet p s
  | .monCommonFire p => Sys2Proof.Machine.execMonCommonFire p s
  | .monCommonCmdFire fn => Sys2Proof.Machine.execMonCommonCmdFire fn s
  | .monCommonCmdRun fn => Sys2Proof.Machine.execMonCommonCmdRun fn s
  | .monCommonCmdHalt fn => Sys2Proof.Machine.execMonCommonCmdHalt fn s
  | .monStartArrival m => Sys2Proof.Machine.execMonStartArrival m s
  | .conversionComplete m raw => Sys2Proof.Machine.execConversionComplete m raw s
  | .monDataHiRead fn m => Sys2Proof.Machine.execMonDataHiRead fn m s
  | .memWrite p => Sys2Proof.Machine.execMemWrite p s
  | .memRead p => Sys2Proof.Machine.execMemRead p s
  | .memMapSet p => Sys2Proof.Machine.execMemMapSet p s
  | .memHintSet p => Sys2Proof.Machine.execMemHintSet p s
  | .memScrubSet p => Sys2Proof.Machine.execMemScrubSet p s
  | .memMarch p => Sys2Proof.Machine.execMemMarch p s
  | .memMarchCtrlStart fn => Sys2Proof.Machine.execMemMarchCtrlStart fn s
  | .memMarchStop p => Sys2Proof.Machine.execMemMarchStop p s
  | .memMarchCtrlStop fn => Sys2Proof.Machine.execMemMarchCtrlStop fn s
  | .marchEnd fails first ops diff chk => Sys2Proof.Machine.execMarchEnd fails first ops diff chk s
  | .memRankRetire p => Sys2Proof.Machine.execMemRankRetire p s
  | .memWinDataHiAccess fn wr => Sys2Proof.Machine.execMemWinDataHiAccess fn wr s
  | .refreshDue c r made busy => Sys2Proof.Machine.execRefreshDue c r made busy s
  | .ddrAlert c r => Sys2Proof.Machine.execDdrAlert c r s
  | .scrubRead store quad err => Sys2Proof.Machine.execScrubRead store quad err s
  | .rowRepairComplete store quad => Sys2Proof.Machine.execRowRepairComplete store quad s
  | .rankMoveComplete c => Sys2Proof.Machine.execRankMoveComplete c s
  | .memoryInitComplete st => Sys2Proof.Machine.execMemoryInitComplete st s
  | .sqTailDoorbell fn n v => Sys2Proof.Machine.execSqTailDoorbell fn n v s
  | .cqHeadDoorbell fn n v => Sys2Proof.Machine.execCqHeadDoorbell fn n v s
  | .sqCtrlEnableWrite fn n v => Sys2Proof.Machine.execSqCtrlEnableWrite fn n v s
  | .packetFetch n p => Sys2Proof.Machine.execPacketFetch n p s
  | .commandStart sq tag => Sys2Proof.Machine.execCommandStart sq tag s
  | .atShotRelease p => Sys2Proof.Machine.execAtShotRelease p s
  | .completionPost n => Sys2Proof.Machine.execCompletionPost n s
  | .linkDown phys => Sys2Proof.Machine.execLinkDown phys s
  | .linkUp phys => Sys2Proof.Machine.execLinkUp phys s
  | .hotReset => Sys2Proof.Machine.execHotReset s
  | .vfFlr k => Sys2Proof.Machine.execVfFlr k s
  | .pf0Flr => Sys2Proof.Machine.execPf0Flr s
  | .functionD3hot fn => Sys2Proof.Machine.execFunctionD3hot fn s
  | .hostMemoryFail sq tag => Sys2Proof.Machine.execHostMemoryFail sq tag s
  | .hostDmaRetry => Sys2Proof.Machine.execHostDmaRetry s
  | .fabLaneConfig p => Sys2Proof.Machine.execFabLaneConfig p s
  | .fabLinkTrain p => Sys2Proof.Machine.execFabLinkTrain p s
  | .fabPortConfig p => Sys2Proof.Machine.execFabPortConfig p s
  | .fabDiscover p => Sys2Proof.Machine.execFabDiscover p s
  | .fabAddrClear p => Sys2Proof.Machine.execFabAddrClear p s
  | .fabRouteSet p => Sys2Proof.Machine.execFabRouteSet p s
  | .fabPartNodesSet p => Sys2Proof.Machine.execFabPartNodesSet p s
  | .fabTwinConfig p => Sys2Proof.Machine.execFabTwinConfig p s
  | .fabTwinHandover p => Sys2Proof.Machine.execFabTwinHandover p s
  | .fabLaneRestore p => Sys2Proof.Machine.execFabLaneRestore p s
  | .laneSlip fn l => Sys2Proof.Machine.execLaneSlip fn l s
  | .laneRetrain fn l => Sys2Proof.Machine.execLaneRetrain fn l s
  | .autoSlipStep l => Sys2Proof.Machine.execAutoSlipStep l s
  | .laneCdrLock l => Sys2Proof.Machine.execLaneCdrLock l s
  | .laneAligned l => Sys2Proof.Machine.execLaneAligned l s
  | .alignTimeout l => Sys2Proof.Machine.execAlignTimeout l s
  | .laneLoss l => Sys2Proof.Machine.execLaneLoss l s
  | .frameReceive port line => Sys2Proof.Machine.execFrameReceive port line s
  | .lackStallTimeout port => Sys2Proof.Machine.execLackStallTimeout port s
  | .wordExpire port => Sys2Proof.Machine.execWordExpire port s
  | .frameAckTimeout port => Sys2Proof.Machine.execFrameAckTimeout port s
  | .helloSend port => Sys2Proof.Machine.execHelloSend port s
  | .hello port w => Sys2Proof.Machine.execHello port w s
  | .discover port w => Sys2Proof.Machine.execDiscover port w s
  | .announce port w => Sys2Proof.Machine.execAnnounce port w s
  | .announceQuiet => Sys2Proof.Machine.execAnnounceQuiet s
  | .assign port w => Sys2Proof.Machine.execAssign port w s
  | .vectorSend => Sys2Proof.Machine.execVectorSend s
  | .vector port w => Sys2Proof.Machine.execVector port w s
  | .mirrorLookup w => Sys2Proof.Machine.execMirrorLookup w s
  | .cometApply w => Sys2Proof.Machine.execCometApply w s
  | .shotMark w d => Sys2Proof.Machine.execShotMark w d s
  | .heartbeatSend => Sys2Proof.Machine.execHeartbeatSend s
  | .heartbeat w => Sys2Proof.Machine.execHeartbeat w s
  | .heartbeatTimeout => Sys2Proof.Machine.execHeartbeatTimeout s
  | .fail w => Sys2Proof.Machine.execFail w s
  | .taken w => Sys2Proof.Machine.execTaken w s
  | .handover w => Sys2Proof.Machine.execHandover w s
  | .state w => Sys2Proof.Machine.execState w s
  | .joinImageWord w => Sys2Proof.Machine.execJoinImageWord w s
  | .twinPartnerAbsent => Sys2Proof.Machine.execTwinPartnerAbsent s
  | .takeoverBoundary p => Sys2Proof.Machine.execTakeoverBoundary p s
  | .logFetch p => Sys2Proof.Machine.execLogFetch p s
  | .logNvFetch p => Sys2Proof.Machine.execLogNvFetch p s
  | .logClear p => Sys2Proof.Machine.execLogClear p s
  | .fltSafe p => Sys2Proof.Machine.execFltSafe p s
  | .logEntryRead fn k => Sys2Proof.Machine.execLogEntryRead fn k s
  | .safeEntry cause => Sys2Proof.Machine.execSafeEntry cause s
  | .nvRecordWrite ok => Sys2Proof.Machine.execNvRecordWrite ok s
  | .bstLogicRun p => Sys2Proof.Machine.execBstLogicRun p s
  | .bstSliceTest p => Sys2Proof.Machine.execBstSliceTest p s
  | .bstConfig p => Sys2Proof.Machine.execBstConfig p s
  | .bstAnalogRun p => Sys2Proof.Machine.execBstAnalogRun p s
  | .bstProofRead p => Sys2Proof.Machine.execBstProofRead p s
  | .bstStop p => Sys2Proof.Machine.execBstStop p s
  | .domainTestEnd d sig => Sys2Proof.Machine.execDomainTestEnd d sig s
  | .sliceTurn g => Sys2Proof.Machine.execSliceTurn g s
  | .sliceTestEnd g sig => Sys2Proof.Machine.execSliceTestEnd g sig s
  | .sliceTestAbandon g => Sys2Proof.Machine.execSliceTestAbandon g s
  | .turnWaitExpire g => Sys2Proof.Machine.execTurnWaitExpire g s
  | .analogCheck kind ch stuck => Sys2Proof.Machine.execAnalogCheck kind ch stuck s
  | .proofAnomaly kind => Sys2Proof.Machine.execProofAnomaly kind s
  | .pwrBank p => Sys2Proof.Machine.execPwrBank p s
  | .pwrCtrlBank fn => Sys2Proof.Machine.execPwrCtrlBank fn s
  | .bankComplete => Sys2Proof.Machine.execBankComplete s
  | .pwrWake p => Sys2Proof.Machine.execPwrWake p s
  | .pwrCtrlWake fn => Sys2Proof.Machine.execPwrCtrlWake fn s
  | .wakeComplete => Sys2Proof.Machine.execWakeComplete s
  | .pwrSafeExit p => Sys2Proof.Machine.execPwrSafeExit p s
  | .pwrShutdown p => Sys2Proof.Machine.execPwrShutdown p s
  | .proofingPassEnd bad ranks => Sys2Proof.Machine.execProofingPassEnd bad ranks s
  | .pwrSettingsSave p => Sys2Proof.Machine.execPwrSettingsSave p s
  | .pwrCtrlSave fn => Sys2Proof.Machine.execPwrCtrlSave fn s
  | .autosave => Sys2Proof.Machine.execAutosave s
  | .pwrCapSet p => Sys2Proof.Machine.execPwrCapSet p s
  | .pwrShedRankSet p => Sys2Proof.Machine.execPwrShedRankSet p s
  | .pwrCfgSet p => Sys2Proof.Machine.execPwrCfgSet p s
  | .thmSnapshotFetch p => Sys2Proof.Machine.execThmSnapshotFetch p s
  | .envelopeUpdate vin iin => Sys2Proof.Machine.execEnvelopeUpdate vin iin s
  | .shedStep => Sys2Proof.Machine.execShedStep s
  | .restoreStep => Sys2Proof.Machine.execRestoreStep s
  | .inputFail => Sys2Proof.Machine.execInputFail s
  | .inputRecovered => Sys2Proof.Machine.execInputRecovered s
  | .powerOn => Sys2Proof.Machine.execPowerOn s
  | .startupStepEnd ok bad => Sys2Proof.Machine.execStartupStepEnd ok bad s
  | .enableInRelease => Sys2Proof.Machine.execEnableInRelease s
  | .resetNAssert => Sys2Proof.Machine.execResetNAssert s
  | .resetNRelease => Sys2Proof.Machine.execResetNRelease s
  | .powerLoss => Sys2Proof.Machine.execPowerLoss s
  | .presentBreak => Sys2Proof.Machine.execPresentBreak s
  | .bankedDoorbell fn n v => Sys2Proof.Machine.execBankedDoorbell fn n v s
  | .thermalSample temps => Sys2Proof.Machine.execThermalSample temps s
  | .thmCapStep => Sys2Proof.Machine.execThmCapStep s
  | .secFwUpdate p => Sys2Proof.Machine.execSecFwUpdate p s
  | .secCalLoad p => Sys2Proof.Machine.execSecCalLoad p s
  | .secAttest p => Sys2Proof.Machine.execSecAttest p s
  | .secCertFetch p => Sys2Proof.Machine.execSecCertFetch p s
  | .secFuseProgram p => Sys2Proof.Machine.execSecFuseProgram p s
  | .secLcAdvance p => Sys2Proof.Machine.execSecLcAdvance p s
  | .secSvnCommit p => Sys2Proof.Machine.execSecSvnCommit p s
  | .identityDerived => Sys2Proof.Machine.execIdentityDerived s
  | .smbusRead addr => Sys2Proof.Machine.execSmbusRead addr s
  | .statusDatagram => Sys2Proof.Machine.execStatusDatagram s
  | .chassisIdRead code => Sys2Proof.Machine.execChassisIdRead code s
  | .muteRelease p => Sys2Proof.Machine.execMuteRelease p s
  | .playEnd lane => Sys2Proof.Machine.execPlayEnd lane s
  | .extFault q fault => Sys2Proof.Machine.execExtFault q fault s
  | .ppsOut => Sys2Proof.Machine.execPpsOut s
  | .hitForgotten k => Sys2Proof.Machine.execHitForgotten k s
  | .functionD0 fn => Sys2Proof.Machine.execFunctionD0 fn s
  | .conventionalReset => Sys2Proof.Machine.execConventionalReset s
  | .boundaryScan instr => Sys2Proof.Machine.execBoundaryScan instr s
  | .deniedRead fn a => Sys2Proof.Machine.execDeniedRead fn a s

end Sys2Proof.Machine
end

