-- ==== Sys2Proof/Machine/Tick.lean ====
section
/-!
DEFINITION. Machine/Tick.lean: what one tick of 1 ns does by itself, when no command waits (DESIGN CHOICE: the spec's
commands carry everything that has a row of its own; the rest of what time does happens here). Counts advance (R47, R64,
R580), converters make their samples (R109 to R111, R140, R150, R361), logic cells take their next state (R549 to R551),
Hearth executes its words (R506), frames leave the fabric's ports (R476), the console sends its lines (R678), and waits of fixed length end.
-/

namespace Sys2Proof.Machine
open Sys2Proof

/-! ### Counts -/

/-- Wall time advances by `n` ns times (1 + RATE × 2^-44) (R64). -/
def State.wallAdvance (s : State) (n : Nat) : State :=
  let rate := sext 32 (s.g Page.tim F.TIM_WALL_RATE)
  let t := s.tim.wallFrac + n * ((2 : Int) ^ 44 + rate).toNat
  { s with tim.wallNs := s.tim.wallNs + t / 2 ^ 44, tim.wallFrac := t % 2 ^ 44 }

/-- Ticks from one edge to the next of the clock that steps the counts: the reference, whose period is 160 units, or while
it is lost the always-on clock, whose period is 640 (R47, R62, R64, R580). -/
def State.edgeTicks (s : State) : Nat := if s.tim.refIn then 10 else 40

/-- 1 ns passes: the module count (R47), and at an edge the counts that step there (R62), MTIME and wall time (R64,
R580). A pulse of PPS OUT ends when its millisecond has passed (R68). -/
def State.advance (s : State) : State :=
  let s := { s with tim.texp := s.tim.texp + 16 }
  let n := s.edgeTicks
  if s.now % (16 * n) = 0 then
    let s := { s with tim.edge := s.now, log.mtime := s.log.mtime + BitVec.ofNat 64 (16 * n) }
    (s.wallAdvance n).ppsDrop
  else s

/-! ### The converters -/

/-- The sampling instant of a conversion: SETTLING and EXT_FAULT as they stand there (R386). -/
def State.monSampling (s : State) (m : Nat) : State :=
  let x := s.mon m
  let now := fun t => decide (s.now ≤ t ∧ t < s.now + 16)
  if (x.run && now x.at_) || (x.injNow && now x.injAt) then
    let q := Page.monq (m / 16)
    s.setMon m { x with uns := s.on q F.MON_REF_STATUS_SETTLING || s.on q F.MON_REF_STATUS_EXT_FAULT }
  else s

/-- The samples of the tick that now passes. -/
def State.convTick (s : State) : State :=
  if ¬ s.pwr.convOn then s
  else
    let s := forEach (List.range 160) s.acqTick State.outTick
    let s := forEach (List.range 128) s State.flxTick
    forEach (s.bm.mon.map (·.1)) s State.monSampling

/-- The partition in whose count the samples of oscillator `k` are numbered. -/
def State.oscOwner (s : State) (k : Nat) : Nat := s.outOwner (if k < 1024 then k / 8 else 128 + (k - 1024) / 32)

/-- After the tick: mutes follow their conditions, bias outputs move at a modulator edge, and values of the
oscillators that no later sample needs are forgotten. -/
def State.convNext (s : State) : State :=
  -- bias outputs ramp on while a shutdown has powered the converters down (R637)
  let s := if s.now % 320 = 0 then forEach (s.bm.bias.map (·.1)) s State.biasEdge else s
  if ¬ s.pwr.convOn then s
  else
    let s := forEach (List.range 160) s State.muteStep
    forEach ((s.syn.osc.filter (fun e => e.2.old ≠ [] && (e.1 < 1024 || (s.win (e.1 - 1024)).isNone))).map (·.1)) s
      (fun s k => s.oscTrim k (s.cnt (s.oscOwner k)).toNat)

/-- The 1 ms after which a shutdown powers the converters down (R637). -/
def State.convLater (s : State) : State :=
  match s.pwr.convDue with
  | some t => if t ≤ s.now then s.convDown else s
  | none => s

/-! ### Commands that wait for time -/

/-- T_exp at which the command that waits began. -/
def State.owedSince (s : State) (w : Nat × Nat) : Nat :=
  match s.hif.slots.find? (fun sl => sl.p.who = some w) with
  | some sl => sl.t0
  | none => 0

/-- A FAB_LINK_TRAIN whose port is not UP after 20 ms ends (R499). -/
def State.trainLate (s : State) (p : Nat) : State :=
  match (s.port p).owed with
  | some w =>
    if s.owedSince w + msecs 20 ≤ s.now then
      (s.setPort p { s.port p with owed := none }).settle (some w) St.badState
    else s
  | none => s

/-- The samples of an input that powered up are valid after 15 µs: its RDO_ADC_CONFIG completes. -/
def State.adcReady (s : State) (i : Nat) : State :=
  match s.rdo.owed.get none i with
  | some w =>
    if s.owedSince w + usecs 15 ≤ s.now then
      ({ s with rdo.owed := s.rdo.owed.set none i none }).settle (some w) St.success
    else s
  | none => s

/-- A completion waits for space in queue `n` through this tick (R439). -/
def State.cqStall (s : State) (n : Nat) : State :=
  if s.cqFull n ∧ s.hif.slots.any (fun sl => sl.st = .done && s.cqOf sl.p.sq = n) = true then
    s.bump (Page.cq n) F.CQ_FULL_STALLS
  else s
/-- Queues at which something waits. -/
def State.doneCqs (s : State) : List Nat :=
  ((s.hif.slots.filter (fun sl => sl.st = .done)).map (fun sl => s.cqOf sl.p.sq)).eraseDups

/-- What waits for a condition or a time, and has a row for no part of its end. -/
def State.waitTick (s : State) : State :=
  let s := forEach s.doneCqs s State.cqStall
  let s := ((s.fabTick.discTick).replayTick).moveTick
  let s := forEach (s.fab.port.map (·.1)) s State.trainLate
  let s := forEach (s.rdo.owed.map (·.1)) s State.adcReady
  let s := forEach (List.range 48) s State.turnStep
  let s := forEach (List.range 6) s State.reqFall
  let s := forEach (List.range (hearthCycles (s.now / 16))) s (fun s _ => s.hearthCycle)
  s.tryQuiesce.stopStep

/-! ### The tick -/

/-- One tick. Without input power the module does not run, and its counts have stopped (R47). -/
def State.tick (s : State) : State :=
  if ¬ s.pwr.input then s
  else
  let s := s.acqSettle
  if s.pwr.mode = .off ∧ s.pwr.convOn = false then s.advance.uartStep
  else
    let s := s.convTick
    let s := if s.pwr.mode = .off then s.advance
      else if s.pwr.mode = .banked ∧ (s.now + 16) % 640 ≠ 0 then s.advance  -- events are resolved to the edges (R556)
      else
        let s := s.cellsTickEnd.advance
        (if s.now % 640 = 0 then s.cellsAoEdge else s).cellsTickStart
    s.convNext.convLater.waitTick.uartStep

end Sys2Proof.Machine
end

