-- ==== Sys2Proof/Safety.lean ====
section
/-!
DEFINITION. Safety.lean: what stays true of the module whatever it is commanded to do: the memories that the model
keeps byte by byte are in canonical form, the counts that nothing loads keep their grids, the log ring holds no more
than it has room for, and no fuse bit is ever cleared.
-/

namespace Sys2Proof.Machine
open Sys2Proof

/-- The byte memories are in canonical form: DDR4 (R402), the acquisition buffer (R325) and the host memory that the module
has written. -/
def State.Canonical (s : State) : Prop :=
  Tab.wf 0 s.mem.ddr = true ∧ Tab.wf 0 s.acq.buf = true ∧ Tab.wf 0 s.hif.hostMem = true

/-- Fuses `f` with nothing cleared, and perhaps more blown (R643): each bit of LIFECYCLE, each minimum version, the
customer key and its requirement, the secret, and every map generation burned stay. -/
structure Fuses.Le (f g : Fuses) : Prop where
  life : ∀ i, f.lifecycle.testBit i = true → g.lifecycle.testBit i = true
  fw : f.minFw ≤ g.minFw
  patch : f.minPatch ≤ g.minPatch
  cal : f.minCal ≤ g.minCal
  cust : f.custDigest.isSome = true → g.custDigest.isSome = true
  req : f.custRequired = true → g.custRequired = true
  secret : f.secretBlown = true → g.secretBlown = true
  pmaps : f.pmaps <+: g.pmaps
  evmaps : f.evmaps <+: g.evmaps

/-- Every bit of `f` is blown in the fuses in effect and in those that wait to be loaded. -/
def State.Blown (f : Fuses) (s : State) : Prop := f.Le s.sec.fuses ∧ f.Le s.burned

/-- The ring holds at most 16,384 entries (R581), and the fraction of wall time stays below 1 ns (R64). -/
def State.Bounded (s : State) : Prop := s.log.count ≤ 16384 ∧ s.tim.wallFrac < 2 ^ 44

/-! ### A command that runs, and a register access that goes on -/

/-- The module as the body of packet `p`'s command finds it: its slot's effect has begun. -/
def State.inRun (s : State) (p : Pkt) : State :=
  match markFirst p.sq p.tag (fun sl => { sl with begun := true }) s.hif.slots with
  | some l => { s with hif.slots := l }
  | none => s

/-- COMMAND_START has started a packet of opcode `op` under `p`'s queue and tag, and its effect has not begun; `y` is
that packet, with the bytes that host memory returns to `p` (R447, R457). The module serves commands, or holds in recovery
(R654). -/
def State.InHand (s : State) (op : Nat) (p y : Pkt) : Prop :=
  (s.serving = true ∨ s.recovery = true) ∧ ∃ x, s.started { p with op := op } = some x ∧ y = { x with host := p.host }

/-- A completion of `p`'s command waits to be posted, with this status and RESULT (R444). -/
def State.Ended (t : State) (p : Pkt) (status result : Nat) : Prop :=
  ∃ sl ∈ t.hif.slots, sl.p.sq = p.sq ∧ sl.p.tag = p.tag ∧ sl.st = .done ∧ sl.status = status
    ∧ sl.result = BitVec.ofNat 64 result

/-- `t` is `u` but for the end of `p`'s command: its routine context is free, with its groups released (R511 to R514),
and its slot done. Every slot of another queue or tag stays as it was. -/
def State.Closes (t u : State) (p : Pkt) : Prop :=
  t = { u.endCtx p.sq p.tag with hif.slots := t.hif.slots }
    ∧ ∀ sl : Slot, ¬ (sl.p.sq = p.sq ∧ sl.p.tag = p.tag) → (sl ∈ t.hif.slots ↔ sl ∈ u.hif.slots)

/-- Command `i` of packet `p` completes at once with a status and RESULT; `eff` is all that it does besides. -/
def Runs (s : State) (i : Instr) (p : Pkt) (status result : Nat) (eff : State → State) : Prop :=
  ∃ t, exec i s = .next t ∧ t.Ended p status result ∧ t.Closes (eff (s.inRun p)) p

/-- The register path lets a write, or a read, of function `fn` at `a` go on, and counts nothing. -/
def State.Opens (s : State) (fn a : Nat) : Prop := s.gate fn a true = (s, true)
def State.Answers (s : State) (fn a : Nat) : Prop := s.gate fn a false = (s, true)

/-! ### A sequencer that executes an instruction -/

/-- Sequencer `q` stands before instruction word `w` of opcode `op` and executes it on the present tick, without a slip
(R207 to R210): its run has been cut and nothing holds it; the word is resident in its image, well formed on a sequencer
of its kind, and within the lead of R209. It is under no REPEAT, at no jump vector and at no abort target: of those speak
statements of their own. -/
structure State.Issues (s : State) (q op : Nat) (w : W64) : Prop where
  can : s.canIssue q = true
  image : (s.sqs q).pc < s.imgLen q
  word : s.iword q (s.sqs q).pc = some w
  code : opc w = op
  form : wordOk (isRs q) w = true
  rep : (s.sqs q).rep = none
  vec : (s.sqs q).vec = false
  target : (s.sqs q).atAbort = false
  leads : (s.sqs q).leads w (s.tk (s.seqOwner q)) = true
  early : s.tk (s.seqOwner q) + 92 ≤ (s.sqs q).tau

/-- The sequencer state in which an instruction executes: RUNNING, with SEQ_PC at its address. -/
def State.seqOn (s : State) (q : Nat) : Seq :=
  { s.sqs q with st := 2, last := (s.sqs q).pc, atAbort := false, vec := false }

/-- Sequencer `q` goes on to address `a` in state `y`: the instruction took `cost` execution ticks, and the next one stands
`dur` ticks later on the timeline (R207). -/
def State.seqGo (s : State) (q : Nat) (y : Seq) (a cost dur : Nat) : State :=
  (s.setSq q { y with tau := y.tau + dur, ready := s.tk (s.seqOwner q) + cost }).goto q a

/-- As `seqGo`, to the next instruction after one execution tick and no timeline time. -/
def State.seqNext (s : State) (q : Nat) (y : Seq) : State := s.seqGo q y ((s.sqs q).pc + 1) 1 0

end Sys2Proof.Machine
end

