-- ==== Sys2Proof/Certificates/Slice0/Obligations.lean ====
section
/-!
DEFINITION. Certificates/Slice0/Obligations.lean: the statements about the model. A group of rows is stated as one
conjunction, with one clause for each row and form: under conditions on the state and the operands alone, exec answers
exactly the next state written. `Runs` says it of a command that completes at once: its status and RESULT, its effect, the end
of its routine context and its slot, and nothing else.
-/

section
open Sys2Proof Sys2Proof.Machine

/-- A step executes the command at the front of the queue. The form of a block: log entry 1. -/
def Obligations.StepTakesTheFrontCommand : Prop :=
  (∀ (s : State) (c : Instr) (rest : List Instr), s.pending = c :: rest → step s = exec c { s with pending := rest })

/-- NOP, identity, patch and interrupt-source commands complete as written. Conventions of the model: log entries 17, 44, 59. -/
def Obligations.HearthCommands : Prop :=
  (∀ (s : State) (p y : Pkt), s.InHand 0x0000 p y → Runs s (.nop (.packet p)) y St.success 0 id)
  ∧ (∀ (s : State) (p y : Pkt), s.InHand 0x0001 p y → Runs s (.hrtIdentify p) y St.success
        (s.g Page.hrt F.HRT_VERSION_ROM_ROM + s.g Page.hrt F.HRT_VERSION_PATCH_PATCH * 2 ^ 16
          + s.g Page.hrt F.HRT_VERSION_FW_FW * 2 ^ 32) id)
  ∧ (∀ (s : State) (p y : Pkt), s.InHand 0x0003 p y → (s.inRun y).quiescent y.who = true →
        Runs s (.hrtPatchClear p) y St.success 0 (fun s =>
          { ({ s with hrt.quiesce := none }.patchOff).p Page.hrt F.HRT_VERSION_PATCH_PATCH 0 with sec.inPatch := none }))
  ∧ (∀ (s : State) (p y : Pkt) (b : List Byte), s.InHand 0x0002 p y → y.data (y.n 2) = some b →
        (s.inRun y).quiescent y.who = true →
        if s.checkImage 2 b = 0 then Runs s (.hrtPatchLoad p) y St.success 0 (fun s =>
          { s with hrt.quiesce := none, sec.patch := some (imgOf b) }.patchIn (imgOf b))
        else Runs s (.hrtPatchLoad p) y (s.checkImage 2 b) 0 (fun s => s.imgRefused 2 (imgVersion b) (s.checkImage 2 b)))
  ∧ (∀ (s : State) (p y : Pkt), s.InHand 0x0100 p y → Runs s (.intSrcSet p) y St.success 0 (·.putImgs y (srcWords y)))
  ∧ (∀ (s : State) (p y : Pkt), s.InHand 0x0101 p y → Runs s (.intTargetSet p) y St.success 0
        (fun s => (s.putImg (Page.tgt y.target + 8) (y.w 0)).putImg (Page.tgt y.target + 0xC) (y.w 1)))
  ∧ (∀ (s : State) (p y : Pkt), s.InHand 0x0102 p y → Runs s (.intSwi p) y St.success 0 (·.intEdge (1010 + y.target)))

/-- Software interrupts, claims, completions, delivery and moderation. Conventions of the model: log entries 20, 45. -/
def Obligations.InterruptControl : Prop :=
  (∀ (s : State) (fn sw : Nat), s.Opens fn (Page.int + 8) → sw < 14 → (s.int.pend.get false (1010 + sw) = false) →
        exec (.intSwiRegisterWrite fn sw) s = .next { s with int.pend := s.int.pend.set false (1010 + sw) true })
  ∧ (∀ (s : State) (fn t n : Nat), s.Answers fn (Page.tgt t) → 1 ≤ t → t < 6 → s.urgent (s.eligible t) = some n →
        ∃ u, exec (.intClaimRead fn t) s = .next u ∧ u.int.act.get 0 n = t + 1 ∧ u.int.pend.get false n = false
          ∧ u.pins.rdata = BitVec.ofNat 32 (n + s.intPrio n * 2 ^ 16 + 2 ^ 31) ∧ u.regs = s.regs ∧ u.pwr = s.pwr)
  ∧ (∀ (s : State) (fn t id : Nat), s.Opens fn (Page.tgt t + 4) → 1 ≤ t → t < 6 → s.intAct (id % 1024) = t + 1 →
        ∃ u, exec (.intCompleteWrite fn t id) s = .next u ∧ u.int.act = s.int.act.set 0 (id % 1024) 0
          ∧ u = { s with int := u.int })
  ∧ (∀ (s : State) (t : Nat), t < 6 → s.intRuns = true → s.reqRises t = true → s.intHeld t = false →
        ∃ u, exec (.intDelivery t) s = .next u ∧ u.int.sent.get false t = true ∧ u.int.act = s.int.act
          ∧ u.int.win.get 0 t = s.now + 4000 * s.g (Page.tgt t) F.INT_MOD_MOD ∧ (t = 0 → 2 ∈ u.hrt.traps)
          ∧ (t ≠ 0 → u.hif = (s.msixSend (t - 1) 0).hif)
          ∧ u.reg (Page.tgt t + F.INT_DELIVERIES.off)
            = (s.bump (Page.tgt t) F.INT_DELIVERIES).reg (Page.tgt t + F.INT_DELIVERIES.off))
  ∧ (∀ (s : State) (t : Nat), t < 6 → s.intRuns = true → s.reqRises t = true → s.int.win.get 0 t ≤ s.now →
        ∃ u, exec (.moderationWindowEnd t) s = .next u ∧ u.int.sent.get false t = true ∧ u.int.act = s.int.act
          ∧ u.int.win.get 0 t = s.now + 4000 * s.g (Page.tgt t) F.INT_MOD_MOD ∧ (t = 0 → 2 ∈ u.hrt.traps)
          ∧ (t ≠ 0 → u.hif = (s.msixSend (t - 1) 0).hif)
          ∧ u.reg (Page.tgt t + F.INT_DELIVERIES.off)
            = (s.bump (Page.tgt t) F.INT_DELIVERIES).reg (Page.tgt t + F.INT_DELIVERIES.off))

/-- Traps, their return, routine yield and group release. Conventions of the model: log entries 9, 44. -/
def Obligations.HearthTraps : Prop :=
  ((∀ (s : State) (upc : Nat), s.intRuns = true → s.hrt.frames = [] →
        ∃ u, exec (.faultTrap 1 upc) s = .next u
          ∧ u.hrt.frames = [({ s.hrt.cur with upc := upc % 65536 }, 1, none)]
          ∧ u.hrt.cur = { s.hrt.cur with upc := Config.trapVector 1 % 65536 }
          ∧ u = { s.bump Page.hrt F.HRT_TRAPS with hrt := u.hrt })
      ∧ (∀ (s : State) (upc c : Nat) (m : Micro) (cl : Option Nat) (l : List (Micro × Nat × Option Nat)), s.intRuns = true →
        s.hrt.frames = (m, c, cl) :: l →
        ∃ u, exec (.faultTrap 1 upc) s = .next u ∧ u.hrt.frames = (m, 1, cl) :: l
          ∧ u.hrt.cur = { s.hrt.cur with upc := Config.trapVector 1 % 65536 }
          ∧ u = { s.bump Page.hrt F.HRT_TRAPS with hrt := u.hrt }))
  ∧ (∀ (s : State), s.intRuns = true → 2 ∈ s.hrt.traps → s.hrt.frames.length < 4 →
        ∃ u, exec .interruptTrap s = .next u ∧ 2 ∉ u.hrt.traps
          ∧ u.hrt.frames = (s.hrt.cur, 2, s.urgent (s.eligible 0)) :: s.hrt.frames
          ∧ u.hrt.cur = { s.hrt.cur with upc := Config.trapVector 2 % 65536 })
  ∧ (∀ (s : State), s.intRuns = true → s.due s.hrt.tickAt (usecs 1) = true → s.hrt.frames.length < 4 →
        exec .tickTrap s = .next { s.bump Page.hrt F.HRT_TRAPS with
          hrt.tickAt := some s.now
          hrt.traps := s.hrt.traps.filter (· ≠ 3)
          hrt.frames := (s.hrt.cur, 3, none) :: s.hrt.frames
          hrt.cur := { s.hrt.cur with upc := Config.trapVector 3 % 65536 } })
  ∧ (∀ (s : State) (m : Micro) (c : Nat) (l : List (Micro × Nat × Option Nat)), s.intRuns = true →
        s.hrt.frames = (m, c, none) :: l → l.length < 3 → s.hrt.quiesce = none →
        exec .trapReturn s = .next (if s.ctxRuns = true then { s with hrt.frames := l, hrt.cur := m }
          else { s with hrt.frames := l, hrt.cur := m }.switchCtx m.ctx))
  ∧ (∀ (s : State) (upc k : Nat) (x : Ctx), s.hrt.ctx.find? (fun c => c.2.st = 1) = some (k, x) → s.hrt.quiesce = none →
        ∃ u, exec (.routineYield upc) s = .next u
          ∧ u.hctx k = { x with st := 3, micro := { s.hrt.cur with upc := upc % 65536 } })
  ∧ (∀ (s : State) (ctx grp : Nat), (s.hctx ctx).st ≠ 0 → grp ∈ (s.hctx ctx).groups →
        ∃ u, exec (.groupRelease ctx grp) s = .next u ∧ grp ∉ (u.hctx ctx).groups ∧ u.hrt.defer.get [] grp = [])

/-- Event-router commands complete as written. Conventions of the model: log entries 17, 41. -/
def Obligations.EventRouterCommands : Prop :=
  (∀ (s : State) (p y : Pkt), s.InHand 0x0200 p y →
        Runs s (.evrChanSet p) y St.success 0 (·.putBits (Page.evch y.target) (fldMask chanCfgFlds) (y.w 0)))
  ∧ (∀ (s : State) (p y : Pkt), s.InHand 0x0201 p y → Runs s (.evrCellStage p) y St.success 0
        (fun s => ((s.putImg (Page.evcell y.target) (y.w 0)).putImg (Page.evcell y.target + 4) (y.w 1)).putImg
          (Page.evcell y.target + 8) (y.w 2)))
  ∧ (∀ (s : State) (p y : Pkt), s.InHand 0x0202 p y →
        Runs s (.evrPubStage p) y St.success 0 (·.putImg (Page.evpub y.target) (y.w 0)))
  ∧ (∀ (s : State) (p y : Pkt) (cells : List (Nat × Word × Word × Word)) (t : List Nat) (pubs : List (Nat × Word)),
        s.InHand 0x0203 p y → (s.inRun y).allocCells ((s.inRun y).evrConf y.fn).cells [] = some (cells, t) →
        (s.inRun y).allocPubs ((s.inRun y).evrConf y.fn).pubs t = some pubs → evrCycle (evrEdges cells) = none →
        (s.inRun y).evrPermitted ⟨cells, pubs⟩ = true →
        Runs s (.evrCommit p) y St.success 0 (fun s =>
          (((s.applyConf y.fn ⟨cells, pubs⟩).bump Page.evr F.EVR_COMMITS).p Page.evr F.EVR_COMMIT_RESULT_STATUS St.success).p
            Page.evr F.EVR_COMMIT_RESULT_CHANNEL 0))
  ∧ (∀ (s : State) (p y : Pkt), s.InHand 0x0204 p y → Runs s (.evrDiscard p) y St.success 0 (·.evrDiscard y.fn))
  ∧ (∀ (s : State) (p y : Pkt), s.InHand 0x0205 p y → Runs s (.evrPublish p) y St.success 0 (·.publish y.fn y.target))

/-- Event-router register requests, publication, filters and wakes. Conventions of the model: log entries 5, 41. -/
def Obligations.EventRouterActions : Prop :=
  (∀ (s : State) (fn : Nat) (cells : List (Nat × Word × Word × Word)) (t : List Nat) (pubs : List (Nat × Word)),
        s.Opens fn (Page.evr + 4) → s.allocCells (s.evrConf fn).cells [] = some (cells, t) →
        s.allocPubs (s.evrConf fn).pubs t = some pubs → evrCycle (evrEdges cells) = none →
        s.evrPermitted ⟨cells, pubs⟩ = true →
        exec (.evrCtrlCommit fn) s = .next ((((s.applyConf fn ⟨cells, pubs⟩).bump Page.evr F.EVR_COMMITS).p
          Page.evr F.EVR_COMMIT_RESULT_STATUS St.success).p Page.evr F.EVR_COMMIT_RESULT_CHANNEL 0))
  ∧ (∀ (s : State) (fn : Nat), s.Opens fn (Page.evr + 4) → exec (.evrCtrlDiscard fn) s = .next (s.evrDiscard fn))
  ∧ (∀ (s : State) (fn ch : Nat), s.Opens fn (Page.evr + 0xC) → ch < 256 → exec (.evrSwPub fn ch) s = .next (s.publish fn ch))
  ∧ ((∀ (s : State) (own ch : Nat), ch < 256 → s.pwr.mode ≠ .off → s.pwr.mode ≠ .banked →
        s.on (Page.evch ch) F.EVR_CHAN_CFG_ENABLE = true → s.mayPublish own ch = true → s.evr.now.get false ch = false →
        s.on (Page.evch ch) F.EVR_CHAN_STATUS_RATE_TRIP = false →
        exec (.eventPublication (.direct own ch)) s = .next (s.carry ch))
      ∧ (∀ (s : State) (n : Nat), exec (.eventPublication (.table n)) s
        = .next (forEach ((List.range 64).filter (fun e =>
            s.on (Page.evpub e) F.EVR_PUB_A_EN && s.g (Page.evpub e) F.EVR_PUB_A_SRC = n)) s
          (fun s e => s.publish (s.srcOwner n) (s.g (Page.evpub e) F.EVR_PUB_A_CHANNEL) (decide (640 ≤ n ∧ n ≤ 642))))))
  ∧ (∀ (s : State) (fn ch : Nat), ch < 256 → s.Opens fn (Page.evch ch + 4) → full fn = true ∨ s.evOwner ch = fn →
        exec (.chanRateTripClear fn ch) s = .next (s.unflag (Page.evch ch) F.EVR_CHAN_STATUS_RATE_TRIP))
  ∧ (∀ (s : State) (c : Nat), c ∈ s.liveCells → s.cellF c F.EVR_CELL_CFG_FILT ≠ 0 →
        (s.evr.cell.get Cell.zero c).out ≠ (s.evr.cell.get Cell.zero c).pub →
        s.cellF c F.EVR_CELL_CFG_FILT ≤ (s.evr.cell.get Cell.zero c).held →
        exec (.cellFilterSettled c) s = .next (({ s with
            evr.cell := s.evr.cell.set Cell.zero c ⟨(s.evr.cell.get Cell.zero c).out, (s.evr.cell.get Cell.zero c).out, 0⟩ }).when
          (outFires (s.cellF c F.EVR_CELL_CFG_OUT_MODE) (s.evr.cell.get Cell.zero c).pub (s.evr.cell.get Cell.zero c).out)
          (·.cellFire c)))
  ∧ (∀ (s u : State) (ch : Nat), ch < 256 → s.wakes ch = true → s.pwr.busy = .none →
        s.on Page.tim F.TIM_STATUS_REF_OK = true →
        u = ({ s.flag Page.tim F.TIM_STATUS_PLL_LOCK with pwr.busy := .wake }).convUp →
        exec (.wakeEvent ch) s = .next u.alignStart)

/-- Timing commands complete as written. Conventions of the model: log entries 17, 18, 38. -/
def Obligations.TimingCommands : Prop :=
  (∀ (s : State) (p y : Pkt), s.InHand 0x0300 p y →
        Runs s (.timeAnchor p) y St.success 0 (fun s =>
          ({ s with tim.doms := s.tim.doms.set Dom.zero y.target { s.tim.doms.get Dom.zero y.target with
              pend := some (BitVec.ofNat 64 (y.w64 0), (s.epoch y.target + 1) % 16) } }).when
            (s.on Page.tim F.TIM_CTRL_LINK_OUT_EN = true)
            (fun t => t.linkSend ⟨afBits y.target ((s.epoch y.target + 1) % 16) (y.w64 0) false, t.linkFree⟩)))
  ∧ (∀ (s : State) (p y : Pkt), s.InHand 0x0301 p y → Runs s (.timePropagate p) y St.success 0 (fun s =>
        s.linkSend ⟨afBits y.target (s.epoch y.target) (s.cntAtEdge y.target + (s.linkFree - s.tim.edge) + 103 * 160) false, s.linkFree⟩))
  ∧ (∀ (s : State) (p y : Pkt), s.InHand 0x0302 p y → s.anchored y.target = true →
        Runs s (.timeRelease p) y St.success 0 (fun s =>
          (({ s with tim.doms := s.tim.doms.set Dom.zero y.target { s.tim.doms.get Dom.zero y.target with pend := none } }).unflag
            (Page.td y.target) F.TD_STATE_ANCHORED).logIt Cause.stateDomain y.target (gid 3 y.target) 1))
  ∧ (∀ (s : State) (p y : Pkt), s.InHand 0x0303 p y →
        exec (.timeAlign p) s = .next { (s.inRun y) with
          tim.tries := some 0, tim.skew := s.skewSet, tim.alignOwed := y.who })
  ∧ (∀ (s : State) (p y : Pkt), s.InHand 0x0304 p y →
        Runs s (.timeWallRelock p) y St.success 0 (fun s => { s with tim.stepOk := true }))

/-- Anchor requests by register, loads, frames and the alignment check. Conventions of the model: log entries 5, 38, 55, 58. -/
def Obligations.AnchoringActions : Prop :=
  (∀ (s : State) (fn d : Nat), d < 5 → s.Opens fn (tdCtrlAt d) →
        s.anchorRefusal d (s.g64 (Page.td d) F.TD_ANCHOR_LO) = none →
        exec (.tdCtrlAnchor fn d) s = .next (({ s with tim.doms := s.tim.doms.set Dom.zero d { s.tim.doms.get Dom.zero d with
              pend := some (BitVec.ofNat 64 (s.g64 (Page.td d) F.TD_ANCHOR_LO), (s.epoch d + 1) % 16) } }).when
            (s.on Page.tim F.TIM_CTRL_LINK_OUT_EN = true)
            (fun t => t.linkSend ⟨afBits d ((s.epoch d + 1) % 16) (s.g64 (Page.td d) F.TD_ANCHOR_LO) false, t.linkFree⟩)))
  ∧ (∀ (s : State) (fn d : Nat), d < 5 → s.Opens fn (tdCtrlAt d) → s.propagateBad d = false →
        exec (.tdCtrlPropagate fn d) s
          = .next (s.linkSend ⟨afBits d (s.epoch d) (s.cntAtEdge d + (s.linkFree - s.tim.edge) + 103 * 160) false, s.linkFree⟩))
  ∧ (∀ (s : State) (fn d : Nat), d < 5 → s.Opens fn (tdCtrlAt d) → s.anchored d = true → s.idle d = true →
        exec (.tdCtrlRelease fn d) s = .next ((({ s with
            tim.doms := s.tim.doms.set Dom.zero d { s.tim.doms.get Dom.zero d with pend := none } }).unflag
          (Page.td d) F.TD_STATE_ANCHORED).logIt Cause.stateDomain d (gid 3 d) 1))
  ∧ (∀ (s : State) (d e : Nat) (v : W64), (s.tim.doms.get Dom.zero d).pend = some (v, e) → s.anchored d = false →
        exec (.anchorLoad d) s = .next (((((({ s with
          tim.doms := s.tim.doms.set Dom.zero d ⟨v - BitVec.ofNat 64 s.refEdge, none⟩ }).p (Page.td d)
            F.TD_STATE_EPOCH e).flag (Page.td d) F.TD_STATE_ANCHORED).logIt Cause.stateDomain d (gid 3 d) 16).pairsRestart d).acqEpoch
          d))
  ∧ (∀ (s : State) (f : BitVec 104) (d : Nat), s.pwr.mode ≠ .off → afPreamble f = 0xA5C3 → afCrcOk f = true → afDomain f = d →
        d < 5 → s.anchored d = false → s.anchoring d = false → s.refOk = true →
        s.on Page.tim F.TIM_CTRL_LINK_OUT_EN = false →
        exec (.anchorFrameReceive f) s = .next (((((({ s with
          tim.doms := s.tim.doms.set Dom.zero d ⟨BitVec.ofNat 64 (afValue f + 160 * s.g Page.tim F.TIM_CTRL_LINK_COMP) - BitVec.ofNat 64 s.refEdge, none⟩ }).p (Page.td d)
            F.TD_STATE_EPOCH (afEpoch f)).flag (Page.td d) F.TD_STATE_ANCHORED).logIt Cause.stateDomain d (gid 3 d) 16).pairsRestart d).acqEpoch
          d))
  ∧ (∀ (s : State) (f : AFrame) (l : List AFrame), s.tim.fwd = f :: l →
        exec .anchorFrameForward s = .next { s with tim.fwd := l, tim.linkOut := s.tim.linkOut ++ [f] })
  ∧ (∀ (s : State) (n : Nat), s.tim.tries = some n → s.pwr.safeExit = none → s.pwr.mode ≠ .off →
        exec (.alignmentVerify true) s = .next (({ s with tim.tries := none, tim.alignOwed := none }.flag Page.tim
          F.TIM_STATUS_ALIGNED).settle s.tim.alignOwed St.success))

/-- Loss and return of the reference, PTP, holdover and PPS OUT. Conventions of the model: log entries 4, 39. -/
def Obligations.ReferenceAndWallTime : Prop :=
  (∀ (s u : State), s.tim.refIn = true →
        u = forEach [0, 1, 2, 3, 4] (((({ s with tim.refIn := false }).unflag Page.tim F.TIM_STATUS_REF_OK).unflag Page.tim
          F.TIM_STATUS_PLL_LOCK).flag Page.tim F.TIM_EVENTS_REF_LOST) State.unanchor →
        exec .refLost s = .next ((u.when (u.g Page.tim F.TIM_STATUS_WALL_STATE ≠ 3)
            (fun s => (s.p Page.tim F.TIM_STATUS_WALL_STATE 3).flag Page.tim F.TIM_EVENTS_WALL_HOLDOVER)).raiseSafe
          Cause.refLost 0 (gid 3 2047) 0))
  ∧ (∀ (s u : State), s.refOk = false → s.pwr.input = true → s.pwr.deep = false → s.pwr.mode = .safe ∨ s.pwr.mode = .ready →
        u = ({ s.flag Page.tim F.TIM_STATUS_REF_OK with tim.refIn := true }.flag Page.tim F.TIM_EVENTS_REF_RESTORED).clearPending
          0 →
        exec .refRestored s = .next (u.flag Page.tim F.TIM_STATUS_PLL_LOCK).alignStart)
  ∧ (∀ (s : State) (m : PtpSync), s.pwr.mode ≠ .off → s.on Page.tim F.TIM_PTP_CFG_ENABLE = true → m.best = true →
        s.g Page.tim F.TIM_PTP_CFG_TRANSPORT = m.transport → s.g Page.tim F.TIM_PTP_CFG_DOMAIN_NUMBER = m.domain →
        s.wallState = 0 → 3 ≤ s.tim.nValid → s.tim.stepOk = true →
        ∃ u, exec (.ptpSync m) s = .next u
          ∧ u.tim.wallNs = ((s.tim.wallNs : Int) - (((m.t2 / 8 * 8 : Nat) : Int) - m.t1
              - ((m.t4 : Int) - ((m.t3 / 8 * 8 : Nat) : Int))) / 2).toNat
          ∧ u.tim.stepOk = false ∧ u.tim.nValid = 0 ∧ u.tim.texp = s.tim.texp ∧ u.tim.doms = s.tim.doms)
  ∧ (∀ (s : State), s.wallState = 1 ∨ s.wallState = 2 → exec .wallHoldover s
        = .next (({ s.p Page.tim F.TIM_STATUS_WALL_STATE 3 with tim.nValid := 0 }.ppsDrop).flag Page.tim F.TIM_EVENTS_WALL_HOLDOVER))
  ∧ (∀ (s : State), exec .ppsOut s = .next { s with
        tim.ppsOut := s.on Page.tim F.TIM_CTRL_PPS_OUT_EN && s.wallState ∈ [2, 3] && s.tim.wallNs % 1000000000 < 1000000 })

/-- Timer units fire and capture units capture. Conventions of the model: log entries 5, 16, 40, 57. -/
def Obligations.TimeUnits : Prop :=
  (∀ (s u : State) (n : Nat), n < 32 → s.ttuLive n = true → s.ttuDue n = true → s.tim.ttu.get 0 n = 0 →
        s.on (Page.ttu n) F.TTU_CTRL_PERIODIC = false →
        u = { (s.flag (Page.ttu n) F.TTU_STATUS_FIRED).p (Page.ttu n) F.TTU_STATUS_FIRE_COUNT
            ((s.g (Page.ttu n) F.TTU_STATUS_FIRE_COUNT + 1) % 65536) with tim.ttu := s.tim.ttu.set 0 n 2 } →
        exec (.ttuFire n) s = .next (u.publish (ttuOwner n) (s.g (Page.ttu n) F.TTU_CTRL_CHANNEL)
          (s.on (Page.ttu n) F.TTU_CTRL_WAKE)))
  ∧ (∀ (s : State) (n t frac : Nat), n < 16 → s.on (Page.tcu n) F.TCU_CTRL_ENABLE = true → s.serving = true →
        s.on (Page.tcu n) F.TCU_CTRL_INPUT_KIND = false → s.evr.now.get false (s.g (Page.tcu n) F.TCU_CTRL_INPUT) = true →
        s.maySubscribe (tcuOwner n) (s.g (Page.tcu n) F.TCU_CTRL_INPUT) = true →
        exec (.tcuCapture n t frac) s = .next (s.tcuTake n (s.tcuTick (s.g (Page.tcu n) F.TCU_CTRL_SOURCE)
            (s.srcNow (s.g (Page.tcu n) F.TCU_CTRL_SOURCE)))
          (s.srcNow (s.g (Page.tcu n) F.TCU_CTRL_SOURCE) / srcTick (s.g (Page.tcu n) F.TCU_CTRL_SOURCE)
            * srcTick (s.g (Page.tcu n) F.TCU_CTRL_SOURCE)) none))
  ∧ (∀ (s : State) (fn n : Nat), n < 16 → s.Answers fn (Page.tcu n + 8) → exec (.tcuTimeHiRead fn n) s
        = .next { s.unflag (Page.tcu n) F.TCU_STATUS_VALID with
            pins.rdata := s.heldRd.get 0 (holdKey fn (Page.tcu n + 8)) })

/-- Drive commands and spare commands complete as written. Conventions of the model: log entries 17, 22. -/
def Obligations.DriveCommands : Prop :=
  (∀ (s : State) (p y : Pkt) (eff : State → State), s.InHand 0x1000 p y →
        eff = (fun s =>
          let s := s.setEnable (drvChan y.target) (wget (y.w 0) 0 0)
          (s.when (wget (y.w 0) 1 1 ≠ s.g (Page.drv y.target) F.DRV_CTRL_MODE)
            (·.p (Page.drv y.target) F.DRV_CTRL_MODE (wget (y.w 0) 1 1))).putImg (Page.drv y.target + 8) (y.w 1)) →
        Runs s (.drvConfig p) y (if (eff (s.inRun y)).chanDark (drvChan y.target)
          then St.targetDark else St.success) 0 eff)
  ∧ (∀ (s : State) (p y : Pkt), s.InHand 0x1001 p y →
        Runs s (.drvFrameSet p) y St.success 0 (·.putImgs y (wordsAt (Page.frame (y.target / 8) (y.target % 8)) 0
          [0x00, 0x04, 0x08, 0x0C, 0x10])))
  ∧ (∀ (s : State) (p y : Pkt) (b : List Byte), s.InHand 0x1002 p y → y.data (4 * y.n 1) = some b →
        Runs s (.envLoad p) y St.success 0 (·.envWrite y.target (y.n 0) (chunks 4 (y.n 1) b)))
  ∧ (∀ (s : State) (p y : Pkt), s.InHand 0x1003 p y →
        Runs s (.envDescSet p) y St.success 0 (·.putImgs y (descWords y)))
  ∧ (∀ (s : State) (p y : Pkt), s.InHand 0x1004 p y → Runs s (.drvHeatSet p) y St.success 0
        (·.putImgs y [(0, Page.drv y.target + 0x10), (1, Page.drv y.target + 0xC)]))
  ∧ (∀ (s : State) (p y : Pkt), s.InHand 0x1005 p y → Runs s (.drvTripClear p) y St.success 0 (·.tripClear y.target))
  ∧ ((∀ (s : State) (p y : Pkt), s.InHand 0x1006 p y → s.slSt (y.target / 8) ≠ 2 →
        exec (.drvSpareSwap p) s = .next ((((s.inRun y).setSpare (y.target / 8) { (s.inRun y).spare (y.target / 8) with
          copyTo := some (y.target % 8), forTest := false, owed := y.who }).p (Page.spare (y.target / 8)) F.DRV_SPARE_STATUS_SERVING
            (y.target % 8)).setSp (y.target / 8) 1))
      ∧ (∀ (s : State) (p y : Pkt), s.InHand 0x1103 p y → s.slSt (16 + y.target / 8) ≠ 2 →
        exec (.flxSpareSwap p) s = .next ((((s.inRun y).setSpare (16 + y.target / 8) { (s.inRun y).spare (16 + y.target / 8) with
          copyTo := some (y.target % 8), forTest := false, owed := y.who }).p (Page.spare (16 + y.target / 8)) F.DRV_SPARE_STATUS_SERVING
            (y.target % 8)).setSp (16 + y.target / 8) 1)))
  ∧ ((∀ (s : State) (p y : Pkt), s.InHand 0x1007 p y → exec (.drvSpareRelease p) s = .next (((s.inRun y).setSpare (y.target)
          { (s.inRun y).spare (y.target) with owed := y.who, copyTo := none }).setSp (y.target) 3))
      ∧ (∀ (s : State) (p y : Pkt), s.InHand 0x1104 p y → exec (.flxSpareRelease p) s = .next (((s.inRun y).setSpare (16 + y.target)
          { (s.inRun y).spare (16 + y.target) with owed := y.who, copyTo := none }).setSp (16 + y.target) 3)))

/-- Envelope access, heat trips, spares, mutes and play ends. Conventions of the model: log entries 5, 22, 49, 61. -/
def Obligations.DriveActions : Prop :=
  ((∀ (s : State) (fn q : Nat) (w : Word), q < 4 → s.Opens fn (Page.drvq q + 0xC) →
        full fn = true ∨ inWin (s.sampWin q fn) (s.g (Page.drvq q) F.DRV_ENV_ADDR_ADDR) = true →
        exec (.drvEnvDataAccess fn q (some w)) s = .next ((s.setEnv q (s.g (Page.drvq q) F.DRV_ENV_ADDR_ADDR) w).p (Page.drvq q)
          F.DRV_ENV_ADDR_ADDR ((s.g (Page.drvq q) F.DRV_ENV_ADDR_ADDR + 1) % 2097152)))
      ∧ (∀ (s : State) (fn q : Nat), q < 4 → s.Answers fn (Page.drvq q + 0xC) →
        full fn = true ∨ inWin (s.sampWin q fn) (s.g (Page.drvq q) F.DRV_ENV_ADDR_ADDR) = true →
        exec (.drvEnvDataAccess fn q none) s = .next ({ s with
            pins.rdata := s.env q (s.g (Page.drvq q) F.DRV_ENV_ADDR_ADDR) }.p (Page.drvq q)
          F.DRV_ENV_ADDR_ADDR ((s.g (Page.drvq q) F.DRV_ENV_ADDR_ADDR + 1) % 2097152))))
  ∧ (∀ (s : State) (fn ch : Nat), ch < 160 → s.Opens fn (outPg ch + 4) →
        exec (.heatTripWrite fn ch) s = .next (s.tripClear ch))
  ∧ (∀ (s u : State) (ch : Nat), ch < 160 → s.heatOver ch = true → s.on (outPg ch) F.DRV_STATUS_HEAT_TRIP = false →
        u = (s.flag (outPg ch) F.DRV_STATUS_HEAT_TRIP).logIt Cause.heatGuard (s.owner ch)
          (if ch < 128 then gid 12 ch else gid 14 (ch - 128)) 0 →
        exec (.heatTrip ch) s = .next ((u.when (u.running (s.owner ch) = true) (·.mark (s.owner ch) 8)).muteStep ch))
  ∧ (∀ (s u : State) (fn g i : Nat), g < 48 → s.Opens fn (Page.spare g) → i < grpSize g →
        u = s.p (Page.spare g) F.DRV_SPARE_CTRL_TARGET i → u.swapBad g i = false → u.slSt g ≠ 2 →
        exec (.spareCtrlSwap fn g i) s = .next (((u.setSpare g { u.spare g with copyTo := some i, forTest := false, owed := none }).p
          (Page.spare g) F.DRV_SPARE_STATUS_SERVING i).setSp g 1))
  ∧ (∀ (s : State) (fn g : Nat), g < 48 → s.Opens fn (Page.spare g) → s.releaseBadSp g = false →
        exec (.spareCtrlRelease fn g) s = .next ((s.setSpare g { s.spare g with owed := none, copyTo := none }).setSp g 3))
  ∧ (∀ (s : State) (g : Nat), g < 48 → s.spState g = 1 → (s.spare g).waiting = [] → (s.spare g).forTest = false →
        exec (.spareCopyComplete g) s = .next ((((s.setSpare g { s.spare g with owed := none }).crossbar g (s.serves g) true).setSp g 2).settle
          (s.spare g).owed St.success))
  ∧ (∀ (s u : State) (d : Nat), d < 320 → s.pwr.mode ≠ .off →
        u = s.logIt Cause.datapathError (s.chanOwner (grpChan (dpGroup d).1 (dpGroup d).2)) (dpGid (dpGroup d).1 (dpGroup d).2) 0 →
        (u.dpErr d).1.dpInUse (dpGroup d).1 (dpGroup d).2 = true → (u.dpErr d).1.spState (dpGroup d).1 = 0 → (u.dpErr d).2 < 3 →
        exec (.datapathFailure d) s = .next ((u.dpErr d).1.spareTake (dpGroup d).1 (dpGroup d).2))
  ∧ (∀ (s u : State) (g : Nat), g < 48 → s.pwr.mode ≠ .off → s.spState g = 0 →
        u = (((s.retire 1 g).logIt Cause.spareFailed 0 (spareGid g) 0).sliceAbandon g) →
        exec (.spareFailure g) s = .next (((((u.setSpare g { u.spare g with owed := none, copyTo := none, held := [] }).setSp g
          6).settle (u.spare g).owed St.internalError)).loseWaiting g))
  ∧ ((∀ s : State, exec (.extMuteInput s.syn.extMute) s = .next (forEach (List.range 160) s State.muteStep))
      ∧ (∀ s : State, s.syn.extMute = false →
        exec (.extMuteInput true) s = .next ((forEach (List.range 160) { s with syn.extMute := true } State.muteStep).publishSrc 641))
      ∧ (∀ s : State, s.syn.extMute = true →
        exec (.extMuteInput false) s = .next ((forEach (List.range 160) { s with syn.extMute := false } State.muteStep).publishSrc 642)))
  ∧ (∀ (s : State) (p : Nat), p < 5 → s.pst p = 2 → 16 * (s.prt p).start ≤ (s.cnt p).toNat + 4096 →
        exec (.muteRelease p) s = .next (forEach ((List.range 160).filter (fun n => s.owner n = p))
          (s.setPrt p { s.prt p with unmuted := true }) State.muteStep))
  ∧ (∀ (s : State) (lane own : Nat),
        own = (if lane < 1024 then s.owner (lane / 8) else if lane < 2048 then s.toneOwner (lane - 1024)
          else s.owner ((lane - 2048) / 2)) →
        exec (.playEnd lane) s = .next (s.setPlays lane
          ((s.plays lane).filter (fun p => decide ((s.cnt own).toNat < p.last (laneStep lane))))))

/-- Flux commands complete, and ramps end, as written. Conventions of the model: log entries 17, 49, 60, 61. -/
def Obligations.FluxCommands : Prop :=
  (∀ (s : State) (p y : Pkt) (eff : State → State), s.InHand 0x1100 p y →
        eff = (fun s => (((((s.flxSpan y.target (wget (y.w 0) 2 1)).p (Page.flx y.target) F.FLX_CTRL_RAMP_EXP
          (wget (y.w 0) 12 8)).setEnable (flxChan y.target) (wget (y.w 0) 0 0)).flxPark y.target (wget (y.w 1) 15 0)).putImg
          (Page.flx y.target + 0x10) (y.w 2))) →
        (eff (s.inRun y)).on (Page.flx y.target) F.FLX_STATUS_RAMPING = false →
        Runs s (.flxConfig p) y (if (eff (s.inRun y)).chanDark (flxChan y.target)
          then St.targetDark else St.success) 0 eff)
  ∧ (∀ (s : State) (p y : Pkt), s.InHand 0x1101 p y →
        Runs s (.flxGainSet p) y St.success 0 (·.putImg (Page.flx y.target + 0xC) (y.w 0)))
  ∧ (∀ (s : State) (p y : Pkt), s.InHand 0x1102 p y → Runs s (.flxPdLoad p) y St.success 0 (fun s =>
        if y.n 53 = 1 then (s.putImgs y (wordsAt (Page.flx y.target) 0 bankOffs)).bankCommit y.target
        else s.putImgs y (wordsAt (Page.flx y.target) 0 bankOffs)))
  ∧ ((∀ (s : State) (fn ch : Nat), ch < 128 → s.Opens fn (Page.flx ch + 0x14) →
        s.on (Page.flx ch) F.FLX_STATUS_COMMIT_PENDING = false → s.bankOk ch = true → s.running (s.flxOwner ch) = false →
        exec (.flxPdCommit fn ch) s = .next (s.bankSwap ch))
      ∧ (∀ (s : State) (fn ch : Nat), ch < 128 → s.Opens fn (Page.flx ch + 0x14) →
        s.on (Page.flx ch) F.FLX_STATUS_COMMIT_PENDING = false → s.bankOk ch = true → s.running (s.flxOwner ch) = true →
        exec (.flxPdCommit fn ch) s = .next (s.flag (Page.flx ch) F.FLX_STATUS_COMMIT_PENDING)))
  ∧ (∀ (s : State) (ch k n : Nat) (x0 x1 : Int), (s.flx ch).ramp = some (x0, x1, n, k) → n ≤ k →
        exec (.flxRampEnd ch) s = .next (((s.setFlx ch { s.flx ch with ramp := none, x := x1, owed := none }).unflag
          (Page.flx ch) F.FLX_STATUS_RAMPING).settle (s.flx ch).owed
            (if (s.setFlx ch { s.flx ch with ramp := none, x := x1, owed := none }).chanDark (flxChan ch)
              then St.targetDark else St.success)))

/-- Read-out commands and registers act as written. Conventions of the model: log entries 17, 42. -/
def Obligations.ReadoutCommands : Prop :=
  (∀ (s : State) (p y : Pkt) (eff : State → State), s.InHand 0x1200 p y →
        eff = (fun s =>
          let s := s.setEnable (prbChan y.target) (wget (y.w 0) 0 0)
          (s.when (wget (y.w 0) 1 1 ≠ s.g (Page.rdo y.target) F.DRV_CTRL_MODE)
            (·.p (Page.rdo y.target) F.DRV_CTRL_MODE (wget (y.w 0) 1 1))).putImg (Page.rdo y.target + 8) (y.w 1)) →
        Runs s (.rdoProbeConfig p) y (if (eff (s.inRun y)).chanDark (prbChan y.target)
          then St.targetDark else St.success) 0 eff)
  ∧ (∀ (s : State) (p y : Pkt), s.InHand 0x1201 p y → wget (y.w 0) 0 0 = 0 →
        Runs s (.rdoAdcConfig p) y (if ((s.inRun y).setEnable (adcChan y.target) 0).chanDark (adcChan y.target)
          then St.targetDark else St.success) 0 (·.setEnable (adcChan y.target) 0))
  ∧ (∀ (s : State) (p y : Pkt), s.InHand 0x1202 p y → Runs s (.toneSet p) y St.success 0 (·.putImgs y (toneWords y.target)))
  ∧ (∀ (s : State) (p y : Pkt) (b : List Byte), s.InHand 0x1203 p y → y.data (8 * y.n 1) = some b →
        Runs s (.kernelLoad p) y St.success 0 (·.kernWrite y.target (y.n 0) (chunks 8 (y.n 1) b)))
  ∧ (∀ (s : State) (p y : Pkt), s.InHand 0x1204 p y → Runs s (.rdoHeatSet p) y St.success 0
        (·.putImgs y [(0, Page.rdo y.target + 0x10), (1, Page.rdo y.target + 0xC)]))
  ∧ (∀ (s : State) (p y : Pkt), s.InHand 0x1205 p y → Runs s (.rdoTripClear p) y St.success 0 (·.tripClear (128 + y.target)))
  ∧ (∀ (s : State) (p y : Pkt) (g : Nat), s.InHand 0x1206 p y → g = (if y.n 0 = 0 then 32 else 40) + y.target / 4 → s.slSt g ≠ 2 →
        exec (.rdoSpareSwap p) s = .next ((((s.inRun y).setSpare g { (s.inRun y).spare g with
          copyTo := some (y.target % 4), forTest := false, owed := y.who }).p (Page.spare g) F.DRV_SPARE_STATUS_SERVING
            (y.target % 4)).setSp g 1))
  ∧ (∀ (s : State) (p y : Pkt) (g : Nat), s.InHand 0x1207 p y → g = (if y.n 0 = 0 then 32 else 40) + y.target →
        exec (.rdoSpareRelease p) s = .next (((s.inRun y).setSpare g
          { (s.inRun y).spare g with owed := y.who, copyTo := none }).setSp g 3))
  ∧ (∀ (s : State) (p y : Pkt), s.InHand 0x1210 p y → Runs s (.recRingSet p) y St.success 0 (fun s =>
        ((s.recResize y.target (wget (y.w 2) 31 12)).putImg (Page.ring y.target + 0x14) (y.w 3)).ringBase y.target (y.w 0) (y.w 1)
          (wget (y.w 4) 0 0)))
  ∧ ((∀ (s : State) (fn q : Nat) (w : Word), q < 4 → s.Opens fn (Page.rdoq q + 0x10) →
        full fn = true ∨ s.owner (128 + (8 * q + s.g (Page.rdoq q) F.RDO_KERN_ADDR_INPUT)) = fn →
        exec (.rdoKernQAccess fn q (some w)) s = .next ((s.weightSet (8 * q + s.g (Page.rdoq q) F.RDO_KERN_ADDR_INPUT)
          (s.g (Page.rdoq q) F.RDO_KERN_ADDR_ADDR)
          (BitVec.ofNat 48 ((s.rdo.kernHeld.get 0 (fn * 4 + q)).toNat % 2 ^ 24 + w.toNat % 2 ^ 24 * 2 ^ 24))).p (Page.rdoq q)
          F.RDO_KERN_ADDR_ADDR ((s.g (Page.rdoq q) F.RDO_KERN_ADDR_ADDR + 1) % 32768)))
      ∧ (∀ (s : State) (fn q : Nat), q < 4 → s.Answers fn (Page.rdoq q + 0x10) →
        full fn = true ∨ s.owner (128 + (8 * q + s.g (Page.rdoq q) F.RDO_KERN_ADDR_INPUT)) = fn →
        exec (.rdoKernQAccess fn q none) s = .next ({ s with
            pins.rdata := s.heldRd.get 0 (holdKey fn (Page.rdoq q + 0x10)) }.p (Page.rdoq q)
          F.RDO_KERN_ADDR_ADDR ((s.g (Page.rdoq q) F.RDO_KERN_ADDR_ADDR + 1) % 32768))))
  ∧ (∀ (s : State) (fn p : Nat) (v : Word), p < 5 → s.Opens fn (Page.ring p + 0x1C) →
        exec (.recConsWrite fn p v) s = .next (s.recConsume p v.toNat))

/-- Windows, outcomes and records. Conventions of the model: log entries 5, 42, 67, 68, 70. -/
def Obligations.ReadoutEvents : Prop :=
  ((∀ (s v : State) (t now : Nat) (adc : List AdcCode) (w : Win) (u : List IQ), t < 1024 → v = s.adcIn (toneInput t) adc →
        v.win t = some w → now = (v.cnt (v.toneOwner t)).toNat → u = v.toneIn t w.topen (w.upTo now) →
        v.winCause t w 0 = 0 → (v.evalWin t w u).2 = none → w.endAt ≤ now →
        exec (.windowEnd t adc) s = .next (v.endWin t w u))
      ∧ (∀ (s v : State) (t now : Nat) (adc : List AdcCode) (w : Win) (u : List IQ), t < 1024 → v = s.adcIn (toneInput t) adc →
        v.win t = some w → now = (v.cnt (v.toneOwner t)).toNat → u = v.toneIn t w.topen (w.upTo now) →
        v.winCause t w 0 ≠ 0 → w.endAt ≤ now → exec (.windowEnd t adc) s = .next (v.endWin t w u)))
  ∧ (∀ (s v : State) (t now k : Nat) (adc : List AdcCode) (w : Win) (u : List IQ), t < 1024 → v = s.adcIn (toneInput t) adc →
        v.win t = some w → now = (v.cnt (v.toneOwner t)).toNat → u = v.toneIn t w.topen (w.upTo now) →
        v.winCause t w 0 = 0 → (v.evalWin t w u).2 = some k →
        exec (.earlyDecision t adc) s = .next (v.endEarly t w (u.take k)))
  ∧ ((∀ (s : State) (t : Nat), s.rdo.depl.get 0 t ≠ 0 → s.g (Page.tone t) F.TONE_CTRL_DEPLETE = 1 →
        exec (.depletionStart t) s = .next ({ s with rdo.depl := s.rdo.depl.set 0 t 0 }.laneCut (128 + t / 32) (toneLane t)
          (s.tk (s.toneOwner t) + 76)))
      ∧ (∀ (s : State) (t : Nat), s.rdo.depl.get 0 t ≠ 0 → s.g (Page.tone t) F.TONE_CTRL_DEPLETE = 0 →
        exec (.depletionStart t) s = .next { s with rdo.depl := s.rdo.depl.set 0 t 0 }))
  ∧ ((∀ (s : State) (t : Nat) (o : Outc) (l : List Outc), s.rdo.outc.get [] t = o :: l → s.g (Page.route t) F.DEC_ROUTE_MODE = 0 →
        exec (.outcomeArrival t) s = .next ({ s with rdo.outc := s.rdo.outc.set [] t l } : State).eccReads)
      ∧ (∀ (s : State) (t : Nat) (o : Outc) (l : List Outc), s.rdo.outc.get [] t = o :: l → s.g (Page.route t) F.DEC_ROUTE_MODE = 1 →
        exec (.outcomeArrival t) s = .next ({ s with rdo.outc := s.rdo.outc.set [] t l }.lookup (s.toneOwner t)
          (4 * t + s.effState t o) t).eccReads))
  ∧ (∀ (s : State) (p : Nat) (sh : Shot) (l : List Shot), p < 5 → (s.prt p).asm = sh :: l → s.outcDue p sh.num = false →
        s.twinState = 0 → exec (.recordAssembled p) s
          = .next ({ s with fab.digest := s.fab.digest.set 0 (digKey p sh.num) 0 }.assemble p))
  ∧ (∀ (s : State) (p : Nat), p < 5 → s.dma p = true → (64 + p) ∉ s.hif.retry → exec (.recordWrite p) s = .next (s.recWrite p))

/-- Decision-engine commands act as written. Conventions of the model: log entries 17, 43. -/
def Obligations.DecisionCommands : Prop :=
  (∀ (s : State) (p y : Pkt), s.InHand 0x2000 p y → Runs s (.decRouteSet p) y St.success 0 (·.putImgs y (routeWords y)))
  ∧ (∀ (s : State) (p y : Pkt), s.InHand 0x2001 p y → Runs s (.decGatherSet p) y St.success 0 (·.putImgs y
        (wordsAt (Page.gu y.target) 0 [0x00, 0x04, 0x08, 0x0C, 0x10])))
  ∧ (∀ (s : State) (p y : Pkt) (b : List Byte), s.InHand 0x2002 p y → y.data (16 * y.n 0) = some b →
        (chunks 16 (y.n 0) y.host).any (fun v => entBad (BitVec.ofNat 128 v)) = false →
        Runs s (.decTableLoad p) y St.success 0 (·.entryWrite y.target (chunks 16 (y.n 0) b)))
  ∧ (∀ (s : State) (p y : Pkt), s.InHand 0x2003 p y → Runs s (.decTableClear p) y St.success 0 (fun s => { s with
          dec.tab := s.dec.tab.filter (fun e => !inWin (y.target, y.n 0) e.1), dec.bad := s.dec.bad.filter (fun e => !inWin (y.target, y.n 0) (e.1 / 2)) }))
  ∧ (∀ (s : State) (fn k : Nat) (v : Word) (e : BitVec 128), k < 65536 → s.Opens fn (0x2200000 + 32 * k + 12) →
        s.entryLocked k = false → e = BitVec.ofNat 128 ((s.dec.held.get 0 ((fn * 65536 + k) * 4)).toNat
          + (s.dec.held.get 0 ((fn * 65536 + k) * 4 + 1)).toNat * 2 ^ 32
          + (s.dec.held.get 0 ((fn * 65536 + k) * 4 + 2)).toNat * 2 ^ 64 + v.toNat * 2 ^ 96) → entBad e = false →
        exec (.decEntryWrite fn k v) s = .next { s with
            dec.tab := s.dec.tab.set 0 k e, dec.bad := (s.dec.bad.set false (2 * k) false).set false (2 * k + 1) false })
  ∧ (∀ (s : State) (p y : Pkt), s.InHand 0x2004 p y → Runs s (.decCometSet p) y St.success 0 (·.putImg (Page.dec + 4) (y.w 0)))
  ∧ (∀ (s : State) (p y : Pkt), s.InHand 0x2005 p y → Runs s (.decDecoderSet p) y St.success 0 (·.putImg (Page.dec + 8) (y.w 0)))

/-- Gathers, lookups, Comets, decoder updates and frame barriers. Conventions of the model: log entries 5, 42, 43, 53, 71, 72. -/
def Obligations.DecisionEvents : Prop :=
  (∀ (s : State) (g : Nat) (G : W64) (l : List W64), g < 64 → s.on (Page.gu g) F.GU_CTRL_EN = true → (s.gath g).due = G :: l →
        (s.gath g).lastAt.any (fun t => decide (s.now / 16 < t + 2)) = false →
        exec (.gatherComplete g) s = .next ((s.setGath g { s.gath g with due := l }).guComplete g G).eccReads)
  ∧ (∀ (s : State) (g : Nat), g < 64 → s.on (Page.gu g) F.GU_CTRL_EN = true → s.g (Page.gu g) F.GU_TIMEOUT_TIMEOUT ≠ 0 →
        (s.gath g).got ≠ [] → (s.gath g).done = false →
        (s.gath g).first + s.g (Page.gu g) F.GU_TIMEOUT_TIMEOUT ≤ s.tk (s.guPart g) →
        exec (.gatherTimeout g) s = .next (((s.guDefaults g).guDue g).guServe g).eccReads)
  ∧ (∀ (s : State) (k d p : Nat) (l : List (Nat × Nat × Nat)), s.dec.chain = (k, d, p) :: l → s.ownsKey p k = true →
        exec .chainLookup s = .next ((({ s with dec.chain := l }.bump Page.dec F.DEC_CHAIN_LOOKUPS)).readEntry p k d rankChain).eccReads)
  ∧ ((∀ (s : State) (w : W64), s.pwr.mode ≠ .off → s.twinState = 1 ∨ s.twinState = 2 → exec (.cometReceive w) s
        = .next { s with fab.inbox := dropWord 1 w s.fab.inbox, fab.comets := s.fab.comets ++ [w] })
      ∧ (∀ (s : State) (w : W64), s.pwr.mode ≠ .off → s.twinState ≠ 1 → s.twinState ≠ 2 → exec (.cometReceive w) s
        = .next ({ s with fab.inbox := dropWord 1 w s.fab.inbox }.cometIn w)))
  ∧ (∀ (s : State) (p n : Nat), p < 5 → n < 64 → (s.pair (pairKey p n)).unacked ≠ 0 →
        s.g Page.dec F.DEC_COMET_CFG_ACK_THRESH ≤ (s.pair (pairKey p n)).unacked → s.speaks = true →
        exec (.cometAckSend p n) s = .next ((s.setPair (pairKey p n) { s.pair (pairKey p n) with unacked := 0 }).fabSend 1 n 3
          [Config.ackWord p (s.epoch p) s.node s.myTwin (s.pair (pairKey p n)).expected]))
  ∧ (∀ (s : State) (p n a : Nat) (x : Pair), p < 5 → n < 64 → s.pwr.mode ≠ .off → s.pair (pairKey p n) = x →
        (a + 4096 - x.acked) % 4096 ≤ (x.next + 4096 - x.acked) % 4096 →
        exec (.cometAckReceive p n a) s = .next ((s.setPair (pairKey p n) { x with
          acked := a % 4096, lastAck := s.now / 16 }).cometDrain p n x.wait.length))
  ∧ (∀ (s : State) (p n : Nat) (x : Pair), p < 5 → n < 64 → s.pair (pairKey p n) = x → x.acked ≠ x.next →
        x.lastAck + 100000 ≤ s.now / 16 →
        ∃ u, u = (s.flag Page.dec F.DEC_STATUS_ACK_TIMEOUT).logIt Cause.cometAckTimeout p (gid 11 2047) 0
          ∧ exec (.cometAckTimeout p n) s = .next ((u.setPair (pairKey p n) { x with
            acked := x.next, lastAck := u.now / 16 }).cometDrain p n x.wait.length))
  ∧ (∀ (s : State) (src : Nat) (w : W64) (v p r f g : Nat), s.pwr.mode ≠ .off → v = w.toNat → p = v % 8 →
        r = v / 2 ^ 7 % 65536 → f = v / 2 ^ 29 % 1024 → g = v / 2 ^ 42 % 64 → p < 5 → s.idle p = false →
        v / 8 % 16 = s.epoch p → src = s.g Page.dec F.DEC_DECODER_NODE →
        (s.gath g).out.any (fun o => o.1 = r) = true → s.frameOwner f = p → v / 2 ^ 41 % 2 = 0 →
        exec (.decoderUpdate src w) s
          = .next ({ s with fab.inbox := dropWord 2 w s.fab.inbox }.toggle f (v / 2 ^ 39 % 4)))
  ∧ (∀ (s : State) (g r : Nat), lateRound (s.tk (s.guPart g)) (s.gath g).out = some r → s.on (Page.gu g) F.GU_CTRL_LATE_EN = false →
        exec (.frameBarrierPass g) s = .next ((s.setGath g { s.gath g with
          out := (s.gath g).out.map (fun o => if o.1 = r then (r, 0) else o) }).mark (s.guPart g) 16))

/-- Sequencer commands complete as written. Conventions of the model: log entries 17. -/
def Obligations.SequencerCommands : Prop :=
  (∀ (s : State) (p y : Pkt), s.InHand 0x1400 p y → Runs s (.seqConfig p) y St.success 0 (·.putImgs y
        (wordsAt (Page.seq y.target) 0 [0x000, 0x010, 0x014, 0x018, 0x01C, 0x020, 0x024])))
  ∧ (∀ (s : State) (p y : Pkt) (b : List Byte), s.InHand 0x1401 p y → y.data (8 * y.n 3) = some b →
        Runs s (.seqImageLoad p) y St.success 0 (fun s => s.memWrite (s.imgAddr y.target + 8 * y.n 2) b))
  ∧ ((∀ (s : State) (p y : Pkt), s.InHand 0x1402 p y →
        Runs s (.seqJump p) y St.success 0 (·.jumpRequest y.target (y.n 0)))
      ∧ (∀ (s : State) (fn q vec : Nat), q < 160 → vec < 8 → s.Opens fn (Page.seq q + 0x60) →
        exec (.seqJumpReq fn q vec) s = .next (s.jumpRequest q vec)))
  ∧ (∀ (s : State) (p y : Pkt), s.InHand 0x1403 p y → Runs s (.seqVectorSet p) y St.success 0
        (·.putImg (Page.seq y.target + 0x40 + y.n 0 * 4) (y.w 1)))
  ∧ (∀ (s : State) (p y : Pkt), s.InHand 0x1404 p y → Runs s (.seqMarkerMap p) y St.success 0
        (·.putImg (Page.seqq y.target + 0x100 + y.n 0 * 4) (y.w 1)))

/-- Arm, stop and abort of a partition. Conventions of the model: log entries 17, 48. -/
def Obligations.PartitionCommands : Prop :=
  ((∀ (s : State) (p y : Pkt), s.InHand 0x1410 p y → exec (.partArm p) s
          = .next (((s.inRun y).putImgs y (wordsAt (Page.part y.target) 0 [0x08, 0x0C, 0x10, 0x14, 0x18, 0x1C, 0x20])).arm
              y.target (y.w64 0) y.who))
      ∧ (∀ (s : State) (fn p : Nat), p < 5 → s.Opens fn (Page.part p + 4) →
        s.armRefusal p (s.g64 (Page.part p) F.PART_START_LO) (s.g (Page.part p) F.PART_BARRIER_LAT_LAT) = none →
        exec (.partCtrlArm fn p) s = .next (s.arm p (s.g64 (Page.part p) F.PART_START_LO) none)))
  ∧ ((∀ (s : State) (p y : Pkt), s.InHand 0x1411 p y → (s.inRun y).pst y.target = 3 →
        ((s.inRun y).setPst y.target 4).idle y.target = false → exec (.partStop p) s
        = .next (((s.inRun y).setPst y.target 4).setPrt y.target { ((s.inRun y).setPst y.target 4).prt y.target with
            stopOwed := (((s.inRun y).setPst y.target 4).prt y.target).stopOwed ++ [(y.sq, y.tag)] }))
      ∧ (∀ (s : State) (fn p : Nat), p < 5 → s.Opens fn (Page.part p + 4) → s.pst p = 3 →
        exec (.partCtrlStop fn p) s = .next (s.setPst p 4))
      ∧ (∀ (s : State) (fn p : Nat), p < 5 → s.Opens fn (Page.part p + 4) → s.pst p = 1 ∨ s.pst p = 2 →
        exec (.partCtrlStop fn p) s = .next (s.toIdle p St.aborted)))
  ∧ ((∀ (s : State) (p y : Pkt), s.InHand 0x1412 p y → Runs s (.partAbort p) y St.success 0 (·.partAbort y.target))
      ∧ (∀ (s : State) (fn p : Nat), p < 5 → s.Opens fn (Page.part p + 4) →
        exec (.partCtrlAbort fn p) s = .next (s.partAbort p)))

/-- Arming, start, refills, barriers, jumps, effects and waits of a run. Conventions of the model: log entries 5, 47, 48, 64. -/
def Obligations.RunOfAPartition : Prop :=
  (∀ (s : State) (p : Nat), p < 5 → s.pst p = 1 → s.armedReady p = true → s.tk p < (s.prt p).start →
        exec (.armingComplete p) s = .next (((forEach (s.members p) (s.setPrt p { s.prt p with armOwed := none })
          (fun s q => s.setSq q { s.sqs q with st := 1 })).setPst p 2).settle (s.prt p).armOwed St.success))
  ∧ (∀ (s : State) (p : Nat), p < 5 → s.pst p = 2 → (s.prt p).cut = false → (s.prt p).start ≤ s.tk p + 1024 →
        exec (.runStartCut p) s = .next (s.runCut p))
  ∧ ((∀ (s u : State) (p : Nat), p < 5 → s.pst p = 2 → (s.prt p).cut = true → (s.prt p).start ≤ s.tk p →
        u = (((s.p (Page.td p) F.TD_STATE_EPOCH ((s.epoch p + 1) % 16)).pairsRestart p).setPst p 3).publishSrc (643 + p) →
        exec (.startTime p) s = .next (((u.setPrt p { u.prt p with firstShot := false, bcnt := (u.prt p).bcnt.set 0 0 1 }).shotBegin
          p (s.prt p).start).acqEpoch p))
      ∧ (∀ (s : State) (p : Nat), p < 5 → s.pst p = 1 → (s.prt p).start ≤ s.tk p →
        exec (.startTime p) s = .next ((s.toIdle p St.startMissed).flag (Page.part p) F.PART_STATE_START_MISSED)))
  ∧ (∀ (s : State) (q h w : Nat), ((s.sqs q).half h).fill = some w → ((s.sqs q).half h).susp = false → s.winBad q w = false →
        (s.sqs q).st ≠ 7 → (s.sqs q).entering = false → (s.loadWin q h w).pst (s.seqOwner q) < 2 →
        exec (.refillComplete q h) s = .next (s.loadWin q h w))
  ∧ (∀ (s : State) (p : Nat), p < 5 → s.running p = true → exec (.barrierNotice p) s = .next (s.learnAll p))
  ∧ (∀ (s : State) (p t : Nat) (b : Bar), p < 5 → s.running p = true → s.dueBars p = [(b, t)] →
        exec (.barrierRelease p) s = .next (match b.kind with
          | 0 => (s.barRelease p b t).twinShotStart
          | 1 => (s.barRelease p b t).twinShotEnd p (s.g64 (Page.part p) F.PART_SHOT_NUM_LO)
          | _ => s.barRelease p b t))
  ∧ (∀ (s : State) (p : Nat), p < 5 → s.running p = true → s.barTimedOut p = true →
        exec (.barrierTimeout p) s = .next (((s.flag (Page.part p) F.PART_STATE_BARRIER_TIMEOUT).logIt Cause.barrierTimeout p
          (gid 16 (1024 + p)) 0).runAbort p 4 6 St.aborted))
  ∧ (∀ (s : State) (q r : Nat), (s.sqs q).abortIn = some r → (s.sqs q).rep = none → r ≤ s.tk (s.seqOwner q) →
        exec (.regionAbortReceive q) s = .next (s.regionAbort q (s.tk (s.seqOwner q))))
  ∧ (∀ (s u : State) (q v t l a : Nat) (w : W64) (y : Seq), s.Issues q 0x02 w → (s.sqs q).seg = some (l, some t) →
        (s.sqs q).tau ≤ t → (s.sqs q).first = false → (s.sqs q).jumpDue t = some v →
        y = { s.seqOn q with tau := t, jump := none, loops := [], sub := [], seg := none, vec := true } →
        u = (s.setSq q y).bump (Page.seq q) F.SEQ_JUMPS → a = u.g (Page.seq q + 4 * v) F.SEQ_JUMP_VEC_VECTOR →
        exec (.jumpTaken q) s = .next ((u.setSq q { y with ready := s.tk (s.seqOwner q) + 3 }).goto q a))
  ∧ (∀ (s : State) (q b : Nat), (s.sqs q).mark.get 0 b ≠ 0 → (s.sqs q).mark.get 0 b ≤ s.tk (s.seqOwner q) →
        exec (.markerPulseEnd q b) s = .next (s.setSq q { s.sqs q with mark := (s.sqs q).mark.set 0 b 0 }))
  ∧ ((∀ s : State, ∀ q : Nat, exec (.timelineEffect q) s = .next ((s.applyDue q).applyDue q))
      ∧ (∀ (s : State) (q t slot off v : Nat) (k : Nat), (s.sqs q).eff = [(t, .phaseAdd slot off v)] →
        t ≤ s.tk (s.seqOwner q) → k = slotKey q slot →
        ∃ u, exec (.timelineEffect q) s = .next u
          ∧ u.osc k = (s.osc k).change (16 * t + off) (s.osc k).f (((s.osc k).p + v) % 2 ^ 48)
          ∧ (u.sqs q).eff = [] ∧ u.regs = s.regs ∧ ∀ j, j ≠ k → u.osc j = s.osc j))
  ∧ (∀ (s : State) (q : Nat) (c : Wc), (s.sqs q).wc = some c → (s.sqs q).allSet c.mask = true →
        (∀ t, c.tmo = some t → (s.sqs q).raisedAt c.mask + 100 ≤ c.tw + t) →
        exec (.waitCondResolve q) s = .next (s.condResolve q c (max c.tw ((s.sqs q).raisedAt c.mask + 100)) (s.tk (s.seqOwner q))))
  ∧ (∀ (s : State) (q t : Nat) (c : Wc), (s.sqs q).wc = some c → c.tmo = some t → c.tw + t ≤ s.tk (s.seqOwner q) + 100 →
        (s.sqs q).allSet c.mask = false ∨ c.tw + t < (s.sqs q).raisedAt c.mask + 100 →
        exec (.waitCondTimeout q) s = .next ((s.setSq q { s.sqs q with
          wc := none, st := 2, timeout := true, mtch := false, tau := c.tw + t
          ready := max (s.sqs q).ready (s.tk (s.seqOwner q)) }).goto q c.next))

/-- Timeline, barrier, region and control-flow instructions. Conventions of the model: log entries 47, 48, 62, 65. -/
def Obligations.InstructionControl : Prop :=
  (∀ (s : State) (q : Nat) (w : W64), s.Issues q 0x00 w → exec (.nop (.instr q)) s = .next (s.seqNext q (s.seqOn q)))
  ∧ (∀ (s : State) (q n : Nat) (w : W64), s.Issues q 0x01 w → (s.sqs q).first = false →
        n = ifld w 23 0 + (if fVsel w then ((s.sqs q).v.get 0 (fVidx w)).toNat else 0) →
        exec (.wait q) s = .next (s.seqGo q { s.seqOn q with st := if n = 0 then 2 else 5 } ((s.sqs q).pc + 1) 1 n))
  ∧ (∀ (s : State) (q l t : Nat) (w : W64) (y : Seq), s.Issues q 0x02 w → l = ifld w 19 0 → t = max (s.sqs q).tau (s.sqs q).segEnd →
        (∀ b d, (s.sqs q).seg = some (b, some d) → (s.sqs q).tau ≤ d ∧ ((s.sqs q).first = false ∨ d = (s.sqs q).tau)) → (s.sqs q).jump = none →
        y = { s.seqOn q with tau := t, left := (s.sqs q).left.filter (fun g => s.tk (s.seqOwner q) < g.fin)
                             reps := (s.sqs q).reps.filter (fun r => s.tk (s.seqOwner q) < r.2) } →
        exec (.segment q) s = .next (((s.when (l ≠ 0 ∧ l < 16) (·.flag (Page.seq q) F.SEQ_STATUS_SEG_SHORT)).setSq q { y with
          seg := some (t, if l = 0 then none else some (t + max 16 l))
          eff := (s.sqs q).eff ++ [(t, .seg (ifld w 23 20))], ready := s.tk (s.seqOwner q) + 1 }).goto q ((s.sqs q).pc + 1)))
  ∧ ((∀ (s : State) (q : Nat) (w : W64), s.Issues q 0x03 w → (s.sqs q).first = true →
        exec (.shotStart q) s = .next (s.seqNext q { s.seqOn q with
          first := false, tau := (s.prt (s.seqOwner q)).start, seg := none }))
      ∧ (∀ (s : State) (q : Nat) (w : W64), s.Issues q 0x03 w → (s.sqs q).first = false →
        exec (.shotStart q) s = .next (((s.setSq q { s.seqOn q with st := 3, ready := s.tk (s.seqOwner q) + 1 }).arrive q 0
          (s.sqs q).tau true).goto q ((s.sqs q).pc + 1))))
  ∧ ((∀ (s : State) (q : Nat) (w : W64), s.Issues q 0x04 w → (s.sqs q).first = false → (s.sqs q).region = none →
        exec (.shotEnd q) s = .next (((s.setSq q { s.seqOn q with st := 3, ready := s.tk (s.seqOwner q) + 1 }).arrive q 1
          (s.sqs q).tau true).goto q ((s.sqs q).pc + 1)))
      ∧ (∀ (s : State) (q : Nat) (w : W64), s.Issues q 0x05 w → (s.sqs q).first = false →
        exec (.sync q) s = .next (((s.setSq q { s.seqOn q with st := 3, ready := s.tk (s.seqOwner q) + 1 }).arrive q 2
          (s.sqs q).tau true).goto q ((s.sqs q).pc + 1))))
  ∧ (∀ (s : State) (q n : Nat) (w : W64) (r : Region) (y : Seq), s.Issues q 0x06 w → (s.sqs q).first = false → (s.sqs q).region = none →
        r = ⟨(s.sqs q).pc, n, ifld w 23 0⟩ → n = ifld w 38 24 → 1 ≤ n → n ≤ 16384 → (s.sqs q).pc % 8192 + n ≤ 16384 →
        (s.regionWins q r).all (s.sqs q).holds = true →
        y = { s.seqOn q with region := some r, regNo := s.barInst (s.seqOwner q) 3 (s.g (Page.seq q) F.SEQ_CTRL_GROUP), entering := true
                             eff := (s.sqs q).eff ++ [((s.sqs q).tau, .arrive 3)], st := 3, ready := s.tk (s.seqOwner q) + 1 } →
        exec (.regionBegin q) s = .next (((s.setSq q y).arrive q 3 (s.sqs q).tau true).goto q ((s.sqs q).pc + 1)))
  ∧ (∀ (s : State) (q : Nat) (w : W64), s.Issues q 0x07 w → (s.sqs q).inside = true →
        exec (.regionEnd q) s = .next (s.seqNext q ((s.seqOn q).leave (s.sqs q).tau)))
  ∧ (∀ (s : State) (q n : Nat) (w : W64), s.Issues q 0x08 w → (s.sqs q).first = false → n = ifld w 19 0 →
        (s.sqs q).inside = false → 2048 ≤ n →
        exec (.testwin q) s = .next (s.seqGo q { s.seqOn q with
          st := 6, eff := (s.sqs q).eff ++ [((s.sqs q).tau, .testwin n)] } ((s.sqs q).pc + 1) 1 n))
  ∧ (∀ (s : State) (q n : Nat) (w : W64), s.Issues q 0x09 w → n = ifld w 10 0 → 8192 * n < s.imgLen q →
        exec (.prefetch q) s = .next (s.seqNext q { s.seqOn q with pref := some n }))
  ∧ (∀ (s : State) (q p : Nat) (w : W64), s.Issues q 0x0A w → p = s.seqOwner q →
        exec (.endRun q) s = .next ((s.setPrt p { s.prt p with endReqs := (s.prt p).endReqs ++ [(q, (s.sqs q).tau)] }).seqNext q (s.seqOn q)))
  ∧ (∀ (s : State) (q : Nat) (w : W64), s.Issues q 0x10 w → fTarget w < s.imgLen q →
        exec (.jump q) s = .next (s.seqGo q (s.seqOn q) (fTarget w) 3 0))
  ∧ ((∀ (s : State) (q : Nat) (w : W64), s.Issues q 0x11 w → (s.sqs q).sub.length < 8 → fTarget w < s.imgLen q →
        exec (.call q) s = .next (s.seqGo q { s.seqOn q with sub := ((s.sqs q).pc + 1) :: (s.sqs q).sub } (fTarget w) 3 0))
      ∧ (∀ (s : State) (q a : Nat) (w : W64) (l : List Nat), s.Issues q 0x12 w → (s.sqs q).sub = a :: l → a < s.imgLen q →
        exec (.ret q) s = .next (s.seqGo q { s.seqOn q with sub := l } a 3 0)))
  ∧ ((∀ (s : State) (q c : Nat) (w : W64), s.Issues q 0x13 w →
        c = (if fVsel w then ((s.sqs q).v.get 0 (fVidx w)).toNat else fTarget w) → c ≠ 0 → (s.sqs q).loops.length < 8 →
        exec (.loop q) s = .next (s.seqNext q { s.seqOn q with loops := (c, (s.sqs q).pc + 1) :: (s.sqs q).loops }))
      ∧ (∀ (s : State) (q : Nat) (w : W64), s.Issues q 0x13 w →
        (if fVsel w then ((s.sqs q).v.get 0 (fVidx w)).toNat else fTarget w) = 0 → (s.sqs q).pc + ifld w 44 29 + 1 < s.imgLen q →
        exec (.loop q) s = .next (s.seqGo q (s.seqOn q) ((s.sqs q).pc + ifld w 44 29 + 1) 3 0))
      ∧ (∀ (s : State) (q c a : Nat) (w : W64) (l : List (Nat × Nat)), s.Issues q 0x14 w → (s.sqs q).loops = (c + 2, a) :: l →
        a < s.imgLen q → exec (.endloop q) s = .next (s.seqGo q { s.seqOn q with loops := (c + 1, a) :: l } a 3 0))
      ∧ (∀ (s : State) (q a : Nat) (w : W64) (l : List (Nat × Nat)), s.Issues q 0x14 w → (s.sqs q).loops = (1, a) :: l →
        exec (.endloop q) s = .next (s.seqNext q { s.seqOn q with loops := l })))
  ∧ (∀ (s : State) (q : Nat) (w : W64), s.Issues q 0x15 w →
        exec (.repeatN q) s = .next (s.seqNext q { s.seqOn q with rep := some (fTarget w), repBeg := (s.sqs q).tau }))
  ∧ ((∀ (s : State) (q a : Nat) (w : W64), s.Issues q 0x16 w → (s.sqs q).cond (ifld w 3 0) = true →
        ((s.sqs q).pc : Int) + fOffset w = a → a < s.imgLen q → exec (.branchFlag q) s = .next (s.seqGo q (s.seqOn q) a 3 0))
      ∧ (∀ (s : State) (q : Nat) (w : W64), s.Issues q 0x16 w → (s.sqs q).cond (ifld w 3 0) = false →
        exec (.branchFlag q) s = .next (s.seqNext q (s.seqOn q))))
  ∧ (∀ (s : State) (q a : Nat) (w : W64) (y : Seq) (hit : Bool), s.Issues q 0x17 w → hit = (s.sqs q).matches_ (fMask w) (fPattern w) →
        y = (if fConsume w then Seq.consume { s.seqOn q with mtch := hit } (fMask w) else { s.seqOn q with mtch := hit }) →
        ((s.sqs q).pc : Int) + fOffset w = a → a < s.imgLen q →
        exec (.branchCond q) s = .next (if hit then s.seqGo q y a 3 0 else s.seqNext q y))
  ∧ ((∀ (s : State) (q : Nat) (w : W64) (c : Wc), s.Issues q 0x18 w →
        c = ⟨fMask w, fPattern w, (relTarget (s.sqs q).pc (fOffset w)).getD (2 ^ 30), fConsume w, (s.sqs q).tau, condTimeout w,
          (s.sqs q).pc + 1⟩ → (s.sqs q).allSet c.mask = true → (s.sqs q).first = false →
        exec (.waitCond q) s = .next ((s.setSq q (s.seqOn q)).condResolve q c ((s.sqs q).condTick c) (s.tk (s.seqOwner q) + 1)))
      ∧ (∀ (s : State) (q : Nat) (w : W64) (c : Wc), s.Issues q 0x18 w →
        c = ⟨fMask w, fPattern w, (relTarget (s.sqs q).pc (fOffset w)).getD (2 ^ 30), fConsume w, (s.sqs q).tau, condTimeout w,
          (s.sqs q).pc + 1⟩ → (s.sqs q).allSet c.mask = false → (s.sqs q).first = false →
        exec (.waitCond q) s = .next (s.setSq q { s.seqOn q with wc := some c, st := 5, ready := s.tk (s.seqOwner q) + 1 })))
  ∧ ((∀ (s : State) (q : Nat) (w : W64), s.Issues q 0x19 w →
        exec (.clrc q) s = .next (s.seqNext q ((s.seqOn q).consume (fMask w))))
      ∧ (∀ (s : State) (q : Nat) (w : W64), s.Issues q 0x3C w →
        exec (.getc q) s = .next (s.seqNext q ((s.seqOn q).res (ifld w 19 16)
          ((s.sqs q).value &&& (s.sqs q).set &&& BitVec.ofNat 16 (fMask w)).toInt))))

/-- Play, acquire, frame and level instructions. Conventions of the model: log entries 47. -/
def Obligations.InstructionOutputs : Prop :=
  (∀ (s : State) (q k : Nat) (w : W64) (amp : Int), s.Issues q 0x20 w → (s.sqs q).first = false →
        k = (if ¬ isRs q ∧ ifld w 17 17 = 1 then 2048 + 2 * q + ifld w 16 12 % 2 else slotKey q (ifld w 16 12)) →
        amp = (if ifld w 42 42 = 1 then ((s.sqs q).v.get 0 (ifld w 29 26)).toInt else sext 16 (ifld w 41 26)) →
        exec (.play q) s = .next (s.seqGo q { s.seqOn q with
          eff := (s.sqs q).eff ++ [((s.sqs q).tau - 76, .playReq k (ifld w 11 0) (ifld w 25 18) amp (ifld w 43 43 = 1))] }
          ((s.sqs q).pc + 1) 1 (ifld w 56 44)))
  ∧ (∀ (s : State) (q : Nat) (w : W64) (i : Instr) (op : Nat) (f : Eff), s.Issues q op w →
        (i, op, f) ∈ [(.acquire q, 0x21, Eff.acquire (ifld w 31 0) (ifld w 44 32) (ifld w 45 45 = 1)),
          (.freq q, 0x22, Eff.freq (fSlot w) (fOff w) (fValue w)),
          (.phaseAdd q, 0x23, Eff.phaseAdd (fSlot w) (fOff w) (fValue w)),
          (.phaseSet q, 0x24, Eff.phaseSet (fSlot w) (fOff w) (fValue w)),
          (.phaseAddV q, 0x25, Eff.phaseAdd (fSlot w) (fOff w) (((s.sqs q).v.get 0 (ifld w 12 9)).toNat * 2 ^ 32)),
          (.frameReset q, 0x26, Eff.frameReset (ifld w 31 0) (ifld w 35 32))] →
        exec i s = .next (s.seqNext q { s.seqOn q with eff := (s.sqs q).eff ++ [((s.sqs q).tau, f)] }))
  ∧ (∀ (s : State) (q : Nat) (w : W64) (h : Int), s.Issues q 0x27 w → (s.sqs q).first = false →
        h = (if ifld w 17 17 = 1 then ((s.sqs q).v.get 0 (ifld w 21 18)).toInt else sext 16 (ifld w 15 0)) →
        exec (.level q) s = .next (s.seqGo q { s.seqOn q with
          eff := (s.sqs q).eff ++ [((s.sqs q).tau, .level h (ifld w 16 16))] } ((s.sqs q).pc + 1) 1 (ifld w 34 22)))

/-- Arithmetic instructions. Conventions of the model: log entries 9, 47. -/
def Obligations.InstructionArithmetic : Prop :=
  (∀ (s : State) (q : Nat) (w : W64) (i : Instr) (op : Nat) (x y : Seq), s.Issues q op w → x = s.seqOn q →
        (i, op, y) ∈ [(.ldi q, 0x30, x.res (fD w) (fImm w)),
          (.addv q, 0x31, x.resSat (fD w) (x.vi (fA w) + x.vi (fB w))),
          (.subv q, 0x32, x.resSat (fD w) (x.vi (fA w) - x.vi (fB w))),
          (.addi q, 0x33, x.resSat (fD w) (x.vi (fA w) + fImm w)),
          (.cmp q, 0x34, x.zn (x.vi (fA w) - x.vi (fB w))),
          (.mul q, 0x35, x.resAcc (x.vi (fA w) * x.vi (fB w))),
          (.accv q, 0x38, x.resAcc (x.vi (fA w) * 2 ^ fS w)),
          (.rnd q, 0x39, x.resSat (fD w) (rhu x.acc.toInt (fS w))),
          (.expo q, 0x3A, x.res (fD w) (exponent x.acc)),
          (.norm q, 0x3B, (x.setV (fD w) (exponent x.acc)).resAcc
            (if exponent x.acc = 39 then x.acc.toInt else x.acc.toInt * 2 ^ exponent x.acc)),
          (.clrf q, 0x3D, { x with accSat := false, vSat := false })] →
        exec i s = .next (s.seqNext q y))
  ∧ (∀ (s t : State) (q : Nat) (w : W64) (i : Instr) (op : Nat) (v : Int) (x : Seq), s.Issues q op w → x = s.seqOn q →
        (i, op, v) ∈ [(.mac q, 0x36, x.acc.toInt + x.vi (fA w) * x.vi (fB w)),
          (.msu q, 0x37, x.acc.toInt - x.vi (fA w) * x.vi (fB w))] →
        t = (s.setSq q x).when (v ≠ sat 40 v) (·.logIt Cause.overflow (s.seqOwner q) (gid 16 q) 0) →
        exec i s = .next ((t.setSq q { x.resAccSat v with ready := s.tk (s.seqOwner q) + 1 }).goto q ((s.sqs q).pc + 1)))

/-- Acquisition commands act as written. Conventions of the model: log entries 17, 31, 32. -/
def Obligations.CaptureCommands : Prop :=
  (∀ (s : State) (p y : Pkt), s.InHand 0x1300 p y → Runs s (.acqConfig p) y St.success 0 (·.putImgs y
        (wordsAt (Page.cu y.target) 0 [0x00, 0x04, 0x08, 0x0C, 0x10, 0x14, 0x18, 0x1C, 0x20, 0x24, 0x28, 0x2C])))
  ∧ (∀ (s : State) (p y : Pkt), s.InHand 0x1306 p y → Runs s (.acqGroupSet p) y St.success 0
        (·.putImgs y [(0, Page.grp y.target), (1, Page.grp y.target + 8), (2, Page.grp y.target + 0xC)]))
  ∧ (∀ (s : State) (p y : Pkt), s.InHand 0x1307 p y → Runs s (.acqKConfig p) y St.success 0
        (·.putImg (kCfgAt (16 * y.target + y.n 0)) (y.w 1)))
  ∧ (∀ (s : State) (p y : Pkt), s.InHand 0x1310 p y → Runs s (.strRingSet p) y St.success 0 (fun s =>
        (s.strResize y.target (wget (y.w 2) 31 12)).strBaseSet y.target (y.w 0) (y.w 1) (wget (y.w 3) 0 0)))
  ∧ ((∀ (s : State) (p y : Pkt), s.InHand 0x1301 p y →
        exec (.acqArm p) s = .next ((s.inRun y).cuArm y.target y.who))
      ∧ (∀ (s : State) (fn u : Nat), u < 32 → s.Opens fn (Page.cu u) → s.cuArmRefusal u = none →
        exec (.acqCuArm fn u) s = .next (s.cuArm u none)))
  ∧ ((∀ (s : State) (p y : Pkt), s.InHand 0x1302 p y → Runs s (.acqStop p) y St.success 0 (·.cuStop y.target))
      ∧ (∀ (s : State) (fn u : Nat), u < 32 → s.Opens fn (Page.cu u) → exec (.acqCuStop fn u) s = .next (s.cuStop u)))
  ∧ ((∀ (s : State) (p y : Pkt), s.InHand 0x1303 p y → Runs s (.acqTrigger p) y St.success 0
        (fun s => s.cuTrigger y.target (s.cuNow y.target) 0 false))
      ∧ (∀ (s : State) (fn u : Nat), u < 32 → s.Opens fn (Page.cu u) →
        exec (.acqCuSwTrig fn u) s = .next (s.cuTrigger u (s.cuNow u) 0 false)))
  ∧ (∀ (s : State) (p y : Pkt), s.InHand 0x1304 p y → Runs s (.acqFetch p) y St.success 0 (fun s =>
        { s with free := s.free + 4096 * y.n 1 }.hostWrite (y.w64 2)
          (s.bufBytes (y.target * 2 ^ 24 + 4096 * y.n 0) (4096 * y.n 1))))
  ∧ (∀ (s : State) (p y : Pkt) (b : List Byte), s.InHand 0x1305 p y → y.data (8 * y.n 1) = some b →
        Runs s (.acqMaskLoad p) y St.success 0 (·.maskWrite y.target (y.n 0) (chunks 8 (y.n 1) b)))
  ∧ ((∀ (s : State) (fn q : Nat) (w : Word), q < 4 → s.Opens fn (Page.acqq q + 0x208) →
        s.maskUsed q (s.g (Page.acqq q) F.ACQ_MASK_ADDR_ADDR) = false →
        exec (.acqMaskHiAccess fn q (some w)) s = .next ({ s with
          acq.mask := s.acq.mask.set 0 (q * 2048 + s.g (Page.acqq q) F.ACQ_MASK_ADDR_ADDR)
            (BitVec.ofNat 64 ((s.heldWr.get 0 (holdKey fn (Page.acqq q + 0x208 - 4))).toNat + w.toNat * 2 ^ 32)) }.maskNext q))
      ∧ (∀ (s : State) (fn q : Nat), q < 4 → s.Answers fn (Page.acqq q + 0x208) →
        exec (.acqMaskHiAccess fn q none) s
          = .next ({ s with pins.rdata := s.heldRd.get 0 (holdKey fn (Page.acqq q + 0x208)) }.maskNext q)))

/-- Triggers, captures, items, streams and group messages. Conventions of the model: log entries 5, 31, 32, 69. -/
def Obligations.CaptureEvents : Prop :=
  (∀ (s : State) (u : Nat) (smp : List AdcCode) (ts : List Trig), u < 32 → s.serving = true →
        exec (.triggerArrival u smp ts) s = .next ((s.fed u smp).cuTriggers u ts))
  ∧ (∀ (s f : State) (u : Nat) (smp : List AdcCode), u < 32 → s.serving = true → f = s.fed u smp → f.cuState u = 2 → f.capWhole u = true →
        exec (.captureComplete u smp) s = .next (f.capDone u))
  ∧ (∀ (s f : State) (u t st : Nat) (smp : List AdcCode), u < 32 → s.serving = true → f = s.fed u smp → (f.cu u).rearm = some (t, st) →
        t ≤ (f.cnt (f.cuPart u)).toNat → exec (.rearmEnd u smp) s = .next (f.deadOver u))
  ∧ (∀ (s f : State) (u t g : Nat) (first : Bool) (l : List (Nat × Nat × Bool)) (smp : List AdcCode), u < 32 → s.serving = true →
        f = s.fed u smp → (f.cu u).viols = (t, g, first) :: l → exec (.maskViolation u smp) s
          = .next (((f.setCu u { f.cu u with viols := l }).violate u t g first).cuStopCheck u))
  ∧ (∀ (s f : State) (u : Nat) (smp : List AdcCode), u < 32 → s.serving = true → f = s.fed u smp → f.cuState u = 5 →
        f.on (Page.cu u) F.ACQ_CU_SRC_AUTO = true → (f.cu u).kNew = none → 3 * f.cuRoom u < 4 * f.fifoFill u →
        (f.cu u).k < f.g (Page.cu u) F.ACQ_CU_SRC_K_MAX → (f.cu u).changed + usecs 10 ≤ f.now →
        exec (.rateChange u smp) s = .next (f.rateTo u ((f.cu u).k + 1)))
  ∧ (∀ (s : State) (u : Nat) (smp : List AdcCode), u < 32 → s.serving = true → exec (.streamGap u smp) s = .next (s.fed u smp))
  ∧ (∀ (s f : State) (u : Nat) (smp : List AdcCode) (o : OpenItem), u < 32 → s.serving = true → f = s.fed u smp → (f.cu u).opn = some o →
        o.first + usecs (max 1 (f.g (Page.cu u) F.STR_FLUSH_FLUSH)) ≤ (f.cnt (f.cuPart u)).toNat →
        exec (.itemFlush u smp) s = .next (f.closeItem u))
  ∧ (∀ (s : State) (fn u : Nat) (v : Word), u < 32 → s.Opens fn (Page.cu u + 0x94) →
        exec (.strConsWrite fn u v) s = .next (s.strConsume u v.toNat))
  ∧ (∀ (s : State) (u : Nat), u < 32 → exec (.itemWrite u) s = .next (s.strWrite u))
  ∧ ((∀ (s : State) (w t : BitVec 64), s.serving = true → nPart w < 5 → gmEpoch w ≠ (s.takeWord 4 w).epoch (nPart w) →
        exec (.groupMessage w t) s = .next ((s.takeWord 4 w).bump (Page.grp 0) F.ACQ_FIRE_STALE))
      ∧ (∀ (s v : State) (w t : BitVec 64), s.serving = true → v = s.takeWord 4 w → nPart w < 5 → gmEpoch w = v.epoch (nPart w) →
        v.grpPart (gmGroup w) = nPart w → v.on (Page.grp (gmGroup w)) F.ACQ_GRP_CTRL_EN = true → gmNode w ∈ v.grpNodes (gmGroup w) →
        exec (.groupMessage w t) s = .next (v.grpIn (gmGroup w) (gmNode w) (gmType w) t.toNat (gmFrac w) (gmFv w))))
  ∧ (∀ (s v : State) (k : Nat) (c : Word), k < 64 → s.kIsInput k = true → v = { s with acq.kin := s.acq.kin.set false k true } →
        s.serving = true → c = s.reg (kCfgAt k) → wget c 2 2 = 1 → wget c 4 3 = 0 ∨ wget c 4 3 = 2 →
        exec (.markerInputEdge k true) s = .next (v.publish 0 (wget c 15 8)))

/-- Bias commands act as written. Conventions of the model: log entries 17, 37. -/
def Obligations.BiasCommands : Prop :=
  (∀ (s t : State) (p y : Pkt) (pg : Nat), s.InHand 0x1600 p y → pg = Page.bias y.target →
        t = (((((((s.inRun y).p pg F.BIAS_CTRL_LIMIT_ALL (wget (y.w 0) 4 4)).p pg F.BIAS_CTRL_QMODE (wget (y.w 0) 8 7)).putImg (pg + 0x10)
          (y.w 1)).putImg (pg + 0x14) (y.w 2)).biasSlewSet y.target (y.w 3)).biasCtrl y.target (wget (y.w 0) 3 1) (wget (y.w 0) 0 0)) →
        exec (.biasConfig p) s = .next (t.biasOwe y y.target (t.chanDark (biasChan y.target))))
  ∧ ((∀ (s : State) (p y : Pkt), s.InHand 0x1601 p y → Runs s (.biasSet p) y St.success 0
        (·.biasWrite y.target (codeOf (y.w 0))))
      ∧ (∀ (s : State) (fn b : Nat) (v : Word), b < 512 → s.Opens fn (Page.bias b + 4) →
        exec (.biasCodeWrite fn b v) s = .next (s.biasWrite b (codeOf v))))
  ∧ (∀ (s : State) (p y : Pkt), s.InHand 0x1602 p y → Runs s (.biasQueueLoad p) y St.success 0
        (fun s => (loadWords y).foldl (fun s i => s.biasWrite y.target (codeOf (y.w i))) s))
  ∧ (∀ (s : State) (p y : Pkt), s.InHand 0x1603 p y → Runs s (.biasQueueStart p) y St.success 0
        (forEach (maskOuts y) · State.biasClockStart))
  ∧ (∀ (s : State) (p y : Pkt), s.InHand 0x1604 p y → Runs s (.biasQueueStop p) y St.success 0
        (forEach (maskOuts y) · (fun s b => if y.n 4 = 1 then (s.biasClockStop b).biasFlush b else s.biasClockStop b)))
  ∧ (∀ (s : State) (p y : Pkt), s.InHand 0x1605 p y → Runs s (.biasRestore p) y St.success 0
        (forEach (maskOuts y) · State.biasRestore))
  ∧ (∀ (s : State) (p y : Pkt), s.InHand 0x1606 p y → Runs s (.biasPolicySet p) y St.success 0
        (fun s => (s.putBits (Page.bias y.target) (fldMask biasPolFlds) (y.w 0)).putImg (Page.bias y.target + 0x20) (y.w 1)))
  ∧ ((∀ (s : State) (fn b : Nat), b < 512 → s.Opens fn (Page.bias b + 0x18) →
        exec (.biasQcmdStart fn b) s = .next (s.biasClockStart b)
        ∧ exec (.biasQcmdStop fn b) s = .next (s.setBias b { s.bias b with clock := none })
        ∧ exec (.biasQcmdFlush fn b) s = .next (s.setBias b { s.bias b with queue := [] })
        ∧ exec (.biasQcmdRestore fn b) s = .next (s.biasRestore b))
      ∧ (∀ (s : State) (fn q i : Nat) (v : Word), q < 4 → i < 4 → s.Opens fn (Page.biasq q + 0x10 + 4 * i) →
        exec (.biasQstartWrite fn q i v) s = .next (forEach (((List.range 32).filter (fun k => v.getLsbD k)).map
          (128 * q + 32 * i + ·)) s State.biasClockStart)))

/-- Bias queue clocks, slews, spans and conditions. Conventions of the model: log entries 5, 37, 75. -/
def Obligations.BiasEvents : Prop :=
  (∀ (s v : State) (b t : Nat), b < 512 → s.g (Page.bias b) F.BIAS_CTRL_QMODE = 1 → (s.bias b).clock = some t → t ≤ s.now →
        v = s.setBias b { s.bias b with clock := some (t + s.biasPeriod b) } →
        exec (.queueClockRelease b) s = .next (if (s.bias b).queue = []
          then (v.flag (Page.bias b) F.BIAS_STATUS_UNDERRUN).bump (Page.bias b) F.BIAS_UNDERRUNS else v.biasPop b))
  ∧ (∀ (s : State) (b : Nat), b < 512 → s.g (Page.bias b) F.BIAS_CTRL_QMODE = 2 →
        s.evr.now.get false (s.g (Page.bias b) F.BIAS_QEVT_PACE_CHAN) = true →
        s.maySubscribe (s.biasOwner b) (s.g (Page.bias b) F.BIAS_QEVT_PACE_CHAN) = true → (s.bias b).held = false →
        (∀ t, (s.bias b).lastRel = some t → t + usecs 10 ≤ s.now) →
        exec (.paceEvent b) s = .next ((s.setBias b { s.bias b with held := false, lastRel := some s.now }).biasPop b))
  ∧ (∀ (s : State) (b t : Nat), b < 512 → (s.bias b).held = true → (s.bias b).lastRel = some t → t + usecs 10 ≤ s.now →
        exec (.paceHoldRelease b) s = .next ((s.setBias b { s.bias b with held := false, lastRel := some s.now }).biasPop b))
  ∧ (∀ (s : State) (b : Nat), b < 512 → (s.bias b).slewing = true → (s.bias b).out = (s.bias b).dest → (s.bias b).next = 0 →
        exec (.biasSlewEnd b) s = .next ((s.unflag (Page.bias b) F.BIAS_STATUS_RAMPING).setBias b
          { s.bias b with slewing := false, still := s.now }))
  ∧ (∀ (s : State) (b t : Nat), b < 512 → (s.bias b).holdTo = some t → t ≤ s.now →
        exec (.spanSwitchEnd b) s = .next ((((s.setBias b { s.bias b with holdTo := none, out := 0, dest := 0 }).setBiasCode b 0).unflag
          (Page.bias b) F.BIAS_STATUS_SPAN_CHANGING).biasSettle b (if s.on (Page.bias b) F.BIAS_STATUS_DARK then St.targetDark else St.success)))
  ∧ (∀ (s u : State) (b : Nat), b < 512 → (s.bias b).conn = true →
        s.on (Page.bias b) F.BIAS_STATUS_OPEN_LOOP = false → (s.bias b).comp = false → s.on (Page.bias b) F.BIAS_STATUS_COMPLIANCE = false →
        u = s.setBias b { s.bias b with comp := true, open_ := false, compAt := s.now - usecs 100 } →
        exec (.biasConditionReport b true false) s = .next (((u.flag (Page.bias b) F.BIAS_STATUS_COMPLIANCE).flag (Page.bias b)
          F.BIAS_STATUS_COMP_SEEN).logIt Cause.biasCompliance (s.biasOwner b) (gid 17 b) 0))
  ∧ (∀ (s : State) (b : Nat), b < 512 → (s.bias b).comp = true →
        (s.bias b).compAt + msecs (max 1 (s.g (Page.bias b) F.BIAS_COMP_WINDOW_WINDOW)) ≤ s.now →
        exec (.complianceWindowExpire b) s = .next (((s.retire 7 b).logAs Cause.biasCompliance 1 (s.biasOwner b) (gid 17 b) 0).biasDark b))

/-- Monitor commands act as written. Conventions of the model: log entries 17, 30. -/
def Obligations.MonitorCommands : Prop :=
  (∀ (s t : State) (p y : Pkt), s.InHand 0x1700 p y →
        t = ((((s.inRun y).putBits (Page.mon y.target) (fldMask monCtrlFlds) (y.w 0)).putImgs y (monImgs y.target)).setEnable y.target
          (wget (y.w 0) 0 0)) →
        Runs s (.monConfig p) y (if t.chanDark y.target then St.targetDark else St.success) 0 (fun _ => t))
  ∧ ((∀ (s : State) (p y : Pkt), s.InHand 0x1701 p y → Runs s (.monStart p) y St.success 0 (forEach (maskMons y) · State.monSoftStart))
      ∧ (∀ (s : State) (p y : Pkt), s.InHand 0x1702 p y → Runs s (.monStop p) y St.success 0 (forEach (maskMons y) · State.monStop))
      ∧ (∀ (s : State) (p y : Pkt), s.InHand 0x1703 p y → Runs s (.monInject p) y St.success 0 (·.monInject y.target)))
  ∧ (∀ (s : State) (fn m : Nat), m < 64 → s.Opens fn (Page.mon m + 0x10) →
        exec (.monCmdStart fn m) s = .next (s.monSoftStart m)
        ∧ exec (.monCmdStop fn m) s = .next (s.monStop m)
        ∧ exec (.monCmdInject fn m) s = .next (s.monInject m))
  ∧ (∀ (s t : State) (p y : Pkt), s.InHand 0x1707 p y → t = (s.inRun y).putImgs y [(0, Page.monc), (1, Page.monc + 4)] →
        Runs s (.monCommonSet p) y St.success 0 (fun _ => { t with bm.commonRun := if y.n 2 = 1 then some t.now else none }))
  ∧ (∀ (s : State) (p y : Pkt), s.InHand 0x1708 p y → s.g Page.monc F.MON_COMMON_CTRL_SRC = 0 →
        Runs s (.monCommonFire p) y St.success 0 (·.monCommon))
  ∧ (∀ (s : State) (fn : Nat), s.Opens fn (Page.monc + 8) →
        (s.g Page.monc F.MON_COMMON_CTRL_SRC = 0 → exec (.monCommonCmdFire fn) s = .next s.monCommon)
        ∧ exec (.monCommonCmdRun fn) s = .next { s with bm.commonRun := some s.now }
        ∧ exec (.monCommonCmdHalt fn) s = .next { s with bm.commonRun := none })
  ∧ (∀ (s t : State) (p y : Pkt), s.InHand 0x1705 p y → s.on (Page.monq y.target) F.MON_CAL_STATUS_BUSY = false →
        s.g (Page.monq y.target) F.MON_REF_SEL ≠ wget (y.w 0) 1 0 → t = (s.inRun y).monRef y.target (wget (y.w 0) 1 0) →
        t.on (Page.monq y.target) F.MON_REF_STATUS_SETTLING = true →
        exec (.monRefSet p) s = .next { t with bm.refOwed := t.bm.refOwed.set [] y.target (t.bm.refOwed.get [] y.target ++ [(y.sq, y.tag)]) })
  ∧ (∀ (s : State) (p y : Pkt), s.InHand 0x1706 p y → Runs s (.monTdacSet p) y St.success 0 (·.putImg (Page.monq y.target + 0x18) (y.w 0)))
  ∧ ((∀ (s : State) (p y : Pkt), s.InHand 0x1704 p y → s.on (Page.monq y.target) F.MON_CAL_STATUS_BUSY = false →
        exec (.monCalibrate p) s = .next { (s.inRun y).calStart y.target with
          bm.calOwed := ((s.inRun y).calStart y.target).bm.calOwed.set none y.target y.who })
      ∧ (∀ (s : State) (p y : Pkt), s.InHand 0x1704 p y → s.on (Page.monq y.target) F.MON_CAL_STATUS_BUSY = true →
        Runs s (.monCalibrate p) y St.success 0 id)
      ∧ (∀ (s : State) (fn q : Nat), q < 4 → s.Opens fn (Page.monq q + 0x10) → exec (.monCalCtrlStart fn q) s = .next (s.calStart q)))

/-- Monitor starts, settling, faults, calibration and conversions. Conventions of the model: log entries 5, 9, 30, 75. -/
def Obligations.MonitorEvents : Prop :=
  (∀ (s : State) (m : Nat), m < 64 → s.startDue m = true → exec (.monStartArrival m) s = .next (s.monStart m))
  ∧ (∀ (s : State) (q : Nat), q < 4 → s.on (Page.monq q) F.MON_REF_STATUS_SETTLING = true → s.bm.refAt.get 0 q ≤ s.now →
        exec (.monRefSettled q) s = .next (({ s.unflag (Page.monq q) F.MON_REF_STATUS_SETTLING with
          bm.refOwed := s.bm.refOwed.set [] q [] }).settleAll (s.bm.refOwed.get [] q) St.success))
  ∧ (∀ (s : State) (q : Nat) (fault : Bool), q < 4 → s.pwr.convOn = true → s.g (Page.monq q) F.MON_REF_SEL = 1 →
        exec (.extFault q fault) s = .next (s.p (Page.monq q) F.MON_REF_STATUS_EXT_FAULT (if fault then 1 else 0)))
  ∧ (∀ (s v : State) (q : Nat), q < 4 → s.calRuns q = true → s.bm.calAt.get 0 q + msecs 18 ≤ s.now →
        v = ((forEach (monsOf q) s State.calFactors).flag (Page.monq q) F.MON_CAL_STATUS_CAL_VALID).unflag (Page.monq q) F.MON_CAL_STATUS_BUSY →
        exec (.monCalEnd q) s = .next (forEach (monsOf q) (({ v with bm.calOwed := v.bm.calOwed.set none q none }).settle
          (s.bm.calOwed.get none q) St.success) State.calResume))
  ∧ (∀ (s v : State) (m : Nat) (raw : Int), m < 64 → s.pwr.convOn = true → (s.mon m).injNow = false → (s.mon m).run = true →
        (s.mon m).held = false → (s.mon m).at_ + 8000 ≤ s.now → v = s.monDone m raw false (s.mon m).at_ (s.mon m).pos →
        exec (.conversionComplete m raw) s = .next ((v.setMon m (v.monNext m)).calSettle (m / 16)))
  ∧ (∀ (s v : State) (fn m : Nat), m < 64 → s.Answers fn (Page.mon m + 0x48) → (s.mon m).loRead = true →
        v = { s with pins.rdata := s.heldRd.get 0 (holdKey fn (Page.mon m + 0x48)) } →
        exec (.monDataHiRead fn m) s = .next ((v.unflag (Page.mon m) F.MON_DATA_LO_VALID).setMon m { s.mon m with loRead := false }))

/-- Memory commands act as written. Conventions of the model: log entries 17, 28, 29. -/
def Obligations.MemoryCommands : Prop :=
  (∀ (s : State) (p y : Pkt) (b : List Byte), s.InHand 0x0800 p y → y.data (y.n 2) = some b →
        Runs s (.memWrite p) y St.success 0 (fun s => (s.ddrIssue (y.n 2 / 8)).ddrWrite (y.w64 0) b))
  ∧ ((∀ (s u : State) (p y : Pkt), s.InHand 0x0801 p y → u = (s.inRun y).ddrIssue (y.n 2 / 8) → u.firstPoison (y.w64 0) (y.n 2) = none →
        Runs s (.memRead p) y St.success 0 (fun _ => u.hostWrite (y.w64 3) (u.ddrRead (y.w64 0) (y.n 2))))
      ∧ (∀ (s u : State) (p y : Pkt) (x : Nat), s.InHand 0x0801 p y → u = (s.inRun y).ddrIssue (y.n 2 / 8) →
        u.firstPoison (y.w64 0) (y.n 2) = some x → Runs s (.memRead p) y St.internalError 0 (fun _ =>
          (u.hostWrite (y.w64 3) (u.ddrRead (y.w64 0) (x - y.w64 0))).memBad 0 (u.addrLoc x))))
  ∧ (∀ (s : State) (p y : Pkt) (op a : Nat) (i : Instr), s.InHand op p y →
        (op, a, i) ∈ [(0x0802, Page.mem + 4, .memMapSet p), (0x0803, Page.mem + 8, .memHintSet p), (0x0804, Page.mem + 0x10, .memScrubSet p)] →
        Runs s i y St.success 0 (·.putImg a (y.w 0)))
  ∧ (∀ (s : State) (p y : Pkt), s.InHand 0x0807 p y → Runs s (.memRankRetire p) y St.success 0 (·.rankRetire y.target (y.n 0) 0))
  ∧ ((∀ (s : State) (fn : Nat) (w : Word), s.Opens fn (Page.mem + 0x10C) → s.memMapped s.winAddr 8 = true →
        exec (.memWinDataHiAccess fn (some w)) s = .next (((s.ddrIssue 1).ddrWrite s.winAddr (leBytes 8
          ((s.heldWr.get 0 (holdKey fn (Page.mem + 0x10C - 4))).toNat + w.toNat * 2 ^ 32))).winNext))
      ∧ (∀ (s : State) (fn : Nat), s.Answers fn (Page.mem + 0x10C) →
        exec (.memWinDataHiAccess fn none) s = .next ({ s with pins.rdata := s.heldRd.get 0 (holdKey fn (Page.mem + 0x10C)) }.winNext)))
  ∧ ((∀ (s t : State) (p y : Pkt), s.InHand 0x0805 p y →
        t = (s.inRun y).putImgs y [(0, Page.mem + 0x200), (1, Page.mem + 0x204), (2, Page.mem + 0x208), (3, Page.mem + 0x20C),
          (4, Page.mem + 0x210)] → t.marchBusy (wget (y.w 0) 3 0) (wget (y.w 0) 5 4) = false →
        exec (.memMarch p) s = .next (t.marchStart (y.w 0) (y.w64 1) (y.w64 3) y.who))
      ∧ (∀ (s : State) (fn : Nat) (w : Word), s.Opens fn (Page.mem + 0x200) → w = s.reg (Page.mem + 0x200) → wget w 3 0 < 11 →
        marchRange (wget w 3 0) (s.g64 Page.mem F.MEM_MARCH_FIRST_LO) (s.g64 Page.mem F.MEM_MARCH_COUNT_LO) = true →
        s.marchBusy (wget w 3 0) (wget w 5 4) = false →
        exec (.memMarchCtrlStart fn) s = .next (s.marchStart w (s.g64 Page.mem F.MEM_MARCH_FIRST_LO) (s.g64 Page.mem F.MEM_MARCH_COUNT_LO) none)))
  ∧ ((∀ (s : State) (p y : Pkt), s.InHand 0x0806 p y → s.mem.march.run = true →
        Runs s (.memMarchStop p) y St.success 0 (·.marchStop))
      ∧ (∀ (s : State) (fn : Nat), s.Opens fn (Page.mem + 0x200) → s.mem.march.run = true →
        exec (.memMarchCtrlStop fn) s = .next s.marchStop))

/-- Refresh, alerts, scrubbing, repairs, moves and marches. Conventions of the model: log entries 5, 28, 29, 53, 76. -/
def Obligations.MemoryEvents : Prop :=
  (∀ (s v : State) (c r made n : Nat), c < 4 → r < 2 → s.serving = true → s.mem.refAt.get 0 (2 * c + r) + s.refInterval ≤ s.now →
        n = s.mem.postponed.get 0 (2 * c + r) - made → v = { s with mem.refAt := s.mem.refAt.set 0 (2 * c + r) s.now } →
        exec (.refreshDue c r made false) s = .next { v with mem.postponed := s.mem.postponed.set 0 (2 * c + r) n }
        ∧ (n < max 1 (s.g Page.mem F.MEM_REF_CFG_POSTPONE) * 2 ^ s.g Page.mem F.MEM_REF_CFG_FGR →
          exec (.refreshDue c r made true) s = .next { v with mem.postponed := s.mem.postponed.set 0 (2 * c + r) (n + 1) })
        ∧ (max 1 (s.g Page.mem F.MEM_REF_CFG_POSTPONE) * 2 ^ s.g Page.mem F.MEM_REF_CFG_FGR ≤ n →
          exec (.refreshDue c r made true) s = .next { v.bump Page.mem F.MEM_REFRESH_FORCED with
            mem.postponed := s.mem.postponed.set 0 (2 * c + r) n }))
  ∧ (∀ (s : State) (c r n t0 : Nat), c < 4 → r < 2 → s.serving = true → s.mem.replays.get (0, 0, 0) c = (n, t0, 2 ^ r) → n < 4 →
        exec (.ddrAlert c r) s = .next { s with mem.replays := s.mem.replays.set (0, 0, 0) c (n + 1, s.now, 2 ^ r) })
  ∧ (∀ (s : State) (q : Nat), q < 4 → s.serving = true → s.on Page.mem F.MEM_SCRUB_CFG_EN = true → s.scrubDue 9 (36 + q) = true →
        exec (.scrubRead 9 q 0) s = .next { s with
          mem.scrub := s.mem.scrub.set 0 (36 + q) ((s.mem.scrub.get 0 (36 + q) + 1) % 2097152)
          mem.scrubAt := s.mem.scrubAt.set (0, 0) (36 + q) (s.now + 1, s.scrubHours (36 + q)) })
  ∧ (∀ (s : State) (i : Nat), i < 256 → s.locValid i = true → (s.mem.hits.get (0, 0) i).1 + day < s.log.mtime.toNat →
        exec (.hitForgotten i) s = .next (if s.g (Page.loc i) F.MEM_LOC_HITS_HITS = 2
          then s.locPut i (s.locOf i) 1 (s.mem.hits.get (0, 0) i).2 (s.mem.hits.get (0, 0) i).2 else s.locClear i))
  ∧ (∀ (s : State) (store quad : Nat), exec (.rowRepairComplete store quad) s = .next { s with
        mem.repairs := dropRow store quad s.mem.repairs })
  ∧ (∀ (s : State) (c : Nat), c < 4 → s.g (Page.memCh c) F.MEM_CH_STATUS_RANK0 = 1 →
        ∃ t, exec (.rankMoveComplete c) s = .next t ∧ t.g (Page.memCh c) F.MEM_CH_STATUS_RANK0 = 2)
  ∧ (∀ (s : State) (st : Nat), st ∈ s.mem.initLeft → s.mem.initLeft.filter (· ≠ st) ≠ [] →
        exec (.memoryInitComplete st) s = .next { s.storeZero st with mem.initLeft := (s.storeZero st).mem.initLeft.filter (· ≠ st) })
  ∧ ((∀ (s : State) (first ops chk : Nat) (d : BitVec 64), s.mem.march.run = true → exec (.marchEnd 0 first ops d chk) s
        = .next ((s.marchFill s.mem.march true).marchReport 1 0 0 (marchOps s.mem.march.alg * s.mem.march.count) 0 0))
      ∧ (∀ (s : State) (n first ops chk : Nat) (d : BitVec 64), s.mem.march.run = true → s.mem.march.stopOnFail = false → 0 < n →
        n ≤ 0xFFFFFFFF → exec (.marchEnd n first ops d chk) s
          = .next ((s.marchFill s.mem.march true).marchReport 2 n first (marchOps s.mem.march.alg * s.mem.march.count) d chk)))

/-- Register writes, reads, doorbells and denied reads. Conventions of the model: log entries 10, 13, 15. -/
def Obligations.RegisterAccesses : Prop :=
  ((∀ (s : State) (fn o a : Nat) (r : RegDesc) (ix : List Nat) (v : Word), fn < 6 → fnAddr fn o = some a → s.Opens fn a →
        regAt a = some (r, ix) → exec (.registerWrite fn o v) s = .next (s.regWrite fn a r ix v)
          ∧ (isHigh r.base = true → exec (.reg64HighWrite fn o v) s = .next (s.regWrite fn a r ix v)))
      ∧ (∀ (s : State) (fn o : Nat) (v : Word), fn < 6 → fnAddr fn o = none →
        exec (.registerWrite fn o v) s = .next (s.deny fn) ∧ exec (.reg64HighWrite fn o v) s = .next (s.deny fn)))
  ∧ ((∀ (s : State) (fn o a : Nat) (r : RegDesc) (ix : List Nat), fn < 6 → fnAddr fn o = some a → s.Answers fn a →
        regAt a = some (r, ix) → rowRead fn r ix = none → exec (.reg64LowRead fn o) s = .next (s.lowRead fn a r ix)
          ∧ exec (.deniedRead fn o) s = .next (s.lowRead fn a r ix))
      ∧ (∀ (s : State) (fn o a : Nat) (r : RegDesc) (ix : List Nat) (f : State → Out), fn < 6 → fnAddr fn o = some a →
        regAt a = some (r, ix) → rowRead fn r ix = some f → exec (.reg64LowRead fn o) s = .next (s.via f)
          ∧ exec (.deniedRead fn o) s = .next (s.via f))
      ∧ (∀ (s : State) (fn o : Nat), fn < 6 → fnAddr fn o = none →
        exec (.deniedRead fn o) s = .next ((s.deny fn).answer 0) ∧ exec (.reg64LowRead fn o) s = .next ((s.deny fn).answer 0))
      ∧ (∀ (s : State) (fn o a : Nat), fn < 6 → fnAddr fn o = some a → (∀ r ix, regAt a = some (r, ix) → rowRead fn r ix = none) →
        s.pwr.mode ≠ .off → s.bankedLimits = false → s.sees fn a = false →
        exec (.deniedRead fn o) s = .next { s.deny fn with pins.rdata := 0 }))
  ∧ (∀ (s : State) (fn n : Nat) (v : Word), n < 64 →
        (s.Opens fn (Page.db n) → exec (.sqTailDoorbell fn n v) s = .next (s.ringSq n (wget v 15 0)))
        ∧ (s.Opens fn (Page.db n + 4) → exec (.cqHeadDoorbell fn n v) s = .next (s.ringCq n (wget v 15 0))))
  ∧ (∀ (s : State) (fn n : Nat) (v : Word), n < 64 → s.Opens fn (Page.sq n + 0xC) → exec (.sqCtrlEnableWrite fn n v) s
        = .next ((s.plainWrite fn (Page.sq n + 0xC) (wput v 0 0 (s.g (Page.sq n) F.SQ_CTRL_ENABLE))).sqEnable n (wget v 0 0)))

/-- Packet fetch, command start, shot release and completion. Conventions of the model: log entries 5, 17. -/
def Obligations.PacketsAndCompletions : Prop :=
  (∀ (s : State) (n : Nat) (p : Pkt), s.serving = true → s.nextSq = some n → s.hif.slots.length < 64 →
        exec (.packetFetch n p) s = .next (s.fetchPkt n p))
  ∧ (∀ (s : State) (sq tag : Nat) (sl : Slot) (c : Cmd), s.hif.slots.find? (fun sl => sl.isOf sq tag && sl.st = .waiting) = some sl →
        cmdOf sl.p.op = some c → s.mayStart c sl.p = true → exec (.commandStart sq tag) s = .next (s.begin c sl.p))
  ∧ (∀ (s : State) (p : Nat) (sl : Slot) (c : Cmd),
        s.hif.slots.filter (fun sl => sl.st = .waiting && sl.shot.isSome && sl.p.part = p) = [sl] →
        cmdOf sl.p.op = some c → s.mayStart c sl.p = true → exec (.atShotRelease p) s = .next (s.begin c sl.p))
  ∧ (∀ (s : State) (n : Nat), n < 64 → n ∉ s.hif.retry → exec (.completionPost n) s = .next (s.post n))

/-- Link, resets, function states and host-memory failures. Conventions of the model: log entries 9, 19, 77. -/
def Obligations.LinkAndResets : Prop :=
  ((∀ (s : State), s.hif.linkUp = true → exec (.linkDown true) s = .next (((({ s with hif.linkUp := false }.p Page.hif
        F.HIF_LINK_SPEED 0).p Page.hif F.HIF_LINK_WIDTH 0).unflag Page.hif F.HIF_LINK_DL_UP).linkLost))
      ∧ (∀ (s : State), s.hif.bme = true → exec (.linkDown false) s = .next ({ s with hif.bme := false }.linkLost)))
  ∧ ((∀ (s v w : State) (a b : Nat), s.pwr.mode ≠ .off → s.hif.linkUp = false → s.fresh 8 = (v, a) → v.fresh 8 = (w, b) →
        exec (.linkUp true) s = .next (((({ w with hif.linkUp := true }.p Page.hif F.HIF_LINK_SPEED (1 + a % 5)).p Page.hif
          F.HIF_LINK_WIDTH (2 ^ (b % 4))).flag Page.hif F.HIF_LINK_DL_UP).msixResume))
      ∧ (∀ (s : State), s.pwr.mode ≠ .off → s.hif.bme = false → exec (.linkUp false) s = .next ({ s with hif.bme := true }.msixResume)))
  ∧ (∀ (s : State), exec .hotReset s = .next (forEach [0, 1, 2, 3, 4] { s.linkFall with hif.d3 := [] }
          (fun s f => (s.dropQueues f).intReset (f + 1)))
        ∧ exec .conventionalReset s = exec .hotReset s)
  ∧ (∀ (s : State), exec .pf0Flr s = .next (forEach [0, 1, 2, 3, 4] s.linkReset (fun s p => if s.idle p then s else s.partAbort p)))
  ∧ (∀ (s : State) (i : Nat), 1 ≤ i → i ≤ 4 → s.idle i = true → exec (.vfFlr i) s
        = .next (((({ s with hif.d3 := s.hif.d3.set false i false }.dropQueues i).msixReset i).intReset (i + 1))))
  ∧ (∀ (s : State) (fn : Nat), fn < 5 → exec (.functionD3hot fn) s = .next { s with hif.d3 := s.hif.d3.set false fn true }
        ∧ exec (.functionD0 fn) s = .next ({ s with hif.d3 := s.hif.d3.set false fn false }.msixResume))
  ∧ (∀ (s : State) (sq tag : Nat) (sl : Slot), s.hif.linkUp = true → sq < 64 →
        s.hif.slots.find? (fun sl => sl.p.sq = sq && sl.p.tag = tag && sl.st ≠ .waiting) = some sl → sl.st = .executing →
        exec (.hostMemoryFail sq tag) s = .next ((s.bump Page.hif F.HIF_DMA_ERRORS).finish sl.p (.plain St.hostMemory)))
  ∧ (∀ (s : State) (r : Nat), s.hif.retry = [r] → r < 64 → exec .hostDmaRetry s = .next ({ s with hif.retry := [] }.post r))

/-- Fabric and twin commands complete as written. Conventions of the model: log entries 17, 33. -/
def Obligations.FabricCommands : Prop :=
  (∀ (s : State) (p y : Pkt), s.InHand 0x0700 p y → Runs s (.fabLaneConfig p) y St.success 0
        (fun s => (s.putImg (Page.lane y.target) (y.w 0)).laneApply y.target))
  ∧ ((∀ (s t : State) (p y : Pkt), s.InHand 0x0701 p y →
        t = forEach ((portLanes y.target).filter (fun l => (s.inRun y).rxState l = 3)) (s.inRun y)
          (fun s l => s.setLane l { s.lane l with search := some 0 }) → t.portUp y.target = false →
        exec (.fabLinkTrain p) s = .next (t.setPort y.target { t.port y.target with owed := y.who }))
      ∧ (∀ (s t : State) (p y : Pkt), s.InHand 0x0701 p y →
        t = forEach ((portLanes y.target).filter (fun l => (s.inRun y).rxState l = 3)) (s.inRun y)
          (fun s l => s.setLane l { s.lane l with search := some 0 }) → t.portUp y.target = true →
        Runs s (.fabLinkTrain p) y St.success (t.trainResult y.target) (fun _ => t)))
  ∧ (∀ (s : State) (p y : Pkt), s.InHand 0x0702 p y → Runs s (.fabPortConfig p) y St.success 0 (·.portEnable y.target (wget (y.w 0) 0 0)))
  ∧ (∀ (s : State) (p y : Pkt) (n : Nat), s.InHand 0x0703 p y → s.on Page.fab F.FAB_STATUS_ADDR_VALID = true →
        n = (s.fab.discNo + 1) % 16 → exec (.fabDiscover p) s = .next ({ s.inRun y with
          fab.discNo := n, fab.parent := none, fab.claims := [], fab.lastAnn := s.now / 16, fab.discOwed := y.who, fab.discEnd := none
          }.sendDiscover 0 n modId none))
  ∧ (∀ (s : State) (p y : Pkt), s.InHand 0x0704 p y → Runs s (.fabAddrClear p) y St.success 0 (·.unflag Page.fab F.FAB_STATUS_ADDR_VALID))
  ∧ (∀ (s : State) (p y : Pkt), s.InHand 0x0705 p y → Runs s (.fabRouteSet p) y St.success 0
        (fun s => (fabRouteWords y).foldl (fun s x => s.putRoute x.2 (y.w x.1)) s))
  ∧ (∀ (s : State) (p y : Pkt), s.InHand 0x0706 p y → Runs s (.fabPartNodesSet p) y St.success 0
        (·.p64 (Page.fnodes y.target) F.FAB_PART_NODES_LO (y.w64 0)))
  ∧ (∀ (s : State) (p y : Pkt), s.InHand 0x0707 p y → Runs s (.fabTwinConfig p) y St.success 0 (fun s =>
        (s.putImgs y (wordsAt Page.twin 0 [0x00, 0x08, 0x0C, 0x10])).twinWritten (s.on Page.twin F.FAB_TWIN_CTRL_EN)))
  ∧ (∀ (s : State) (p y : Pkt), s.InHand 0x0708 p y → exec (.fabTwinHandover p) s = .next ((s.inRun y).handStart y.who))
  ∧ (∀ (s : State) (p y : Pkt), s.InHand 0x0709 p y → Runs s (.fabLaneRestore p) y St.success 0 (·.laneRestore y.target))

/-- Lane slip, retraining, lock and alignment. Conventions of the model: log entries 5, 34, 73. -/
def Obligations.FabricLanes : Prop :=
  (∀ (s : State) (fn l : Nat), l < 32 → s.Opens fn (Page.lane l + 4) →
        (s.rxState l = 3 → exec (.laneSlip fn l) s = .next ((s.setLane l (s.lane l).slip).p (Page.lane l) F.FAB_LANE_STATUS_SLIP_POS
          ((s.g (Page.lane l) F.FAB_LANE_STATUS_SLIP_POS + 1) % 84)))
        ∧ (s.rxState l = 4 → exec (.laneRetrain fn l) s = .next (s.setLaneRx l 2)))
  ∧ (∀ (s u : State) (l n : Nat), l < 32 → s.rxState l = 3 → (s.lane l).search = some n → n < 168 →
        s.on (Page.lane l) F.FAB_LANE_STATUS_MARK_OK = false →
        u = (s.setLane l (s.lane l).slip).p (Page.lane l) F.FAB_LANE_STATUS_SLIP_POS ((s.g (Page.lane l) F.FAB_LANE_STATUS_SLIP_POS + 1) % 84) →
        exec (.autoSlipStep l) s = .next (u.setLane l { u.lane l with search := some (n + 1) }))
  ∧ (∀ (s v : State) (l : Nat), l < 32 → s.rxState l = 2 →
        v = ((s.unflag (Page.lane l) F.FAB_LANE_STATUS_LOS).unflag (Page.lane l) F.FAB_LANE_STATUS_LOL).p (Page.lane l)
          F.FAB_LANE_STATUS_SLIP_POS 0 →
        exec (.laneCdrLock l) s = .next ((v.setLane l { v.lane l with
          search := if v.on (Page.lane l) F.FAB_LANE_CFG_AUTO_SLIP then some 0 else none, rx := .zero }).setLaneRx l 3))
  ∧ (∀ (s : State) (l : Nat), l < 32 → s.rxState l = 3 → 64 ≤ (s.lane l).rx.good →
        exec (.laneAligned l) s = .next ((s.setLane l { s.lane l with fails := 0 }).setLaneRx l 4))
  ∧ (∀ (s : State) (l : Nat), l < 32 → s.rxState l = 3 → (s.lane l).search = some 168 ∨ (s.lane l).alignAt + msecs 10 ≤ s.now →
        exec (.alignTimeout l) s = .next (s.alignFail l))
  ∧ ((∀ (s : State) (l : Nat), l < 32 → s.rxState l = 4 → 8 ≤ (s.lane l).rx.bad →
        exec (.laneLoss l) s = .next ((s.flag (Page.lane l) F.FAB_LANE_STATUS_LOL).lockLoss l))
      ∧ (∀ (s v : State) (l m : Nat), l < 32 → s.rxState l = 4 → (s.lane l).rx.bad < 8 → s.fresh 1 = (v, m) →
        exec (.laneLoss l) s = .next ((v.flag (Page.lane l) (if m = 0 then F.FAB_LANE_STATUS_LOS else F.FAB_LANE_STATUS_LOL)).lockLoss l))
      ∧ (∀ (s v : State) (l m : Nat), l < 32 → s.rxState l = 2 ∨ s.rxState l = 3 → s.fresh 1 = (v, m) →
        exec (.laneLoss l) s = .next (v.flag (Page.lane l) (if m = 0 then F.FAB_LANE_STATUS_LOS else F.FAB_LANE_STATUS_LOL))))

/-- Frames, stalls, expiry, acknowledgement and HELLO. Conventions of the model: log entries 5, 34, 73. -/
def Obligations.FabricPorts : Prop :=
  (∀ (s u w : State) (p v c : Nat) (b d : Bool) (r g : LineRx) (bl : Tab (Option Nat)), p < 8 → s.rxState (4 * p) = 4 →
        (s.lane (4 * p)).rx.stuffed = false →
        (s.lane (4 * p)).rx.bit (b ^^ s.on (Page.lane (4 * p)) F.FAB_LANE_CFG_RX_INVERT) = (r, some d) → r.gather d = (g, some v) →
        markOk v = true → u = (s.setLane (4 * p) { s.lane (4 * p) with rx := g.marked v }).p (Page.lane (4 * p)) F.FAB_LANE_STATUS_MARK_OK
          (if 16 ≤ (g.marked v).good then 1 else 0) →
        (u.port p).blocks.get none (v % 4) = none → bl = (u.port p).blocks.set none (v % 4) (some (v / 16)) →
        (bl.get none 0 = none ∨ bl.get none 1 = none ∨ bl.get none 2 = none ∨ bl.get none 3 = none →
          exec (.frameReceive p [[b]]) s = .next (u.setPort p { u.port p with blocks := bl }))
        ∧ (w = u.setPort p { u.port p with blocks := [] } → (∀ i < 4, bl.get none i = some (c / 2 ^ (80 * i) % 2 ^ 80)) →
          c < 2 ^ 320 → w.portState p ≠ 0 →
          ((frameOf c).crcOk = false → exec (.frameReceive p [[b]]) s = .next (w.frameBad p))
          ∧ ((frameOf c).crcOk = true → (frameOf c).data = true → (frameOf c).nak = false →
            exec (.frameReceive p [[b]]) s = .next (((((w.setPort p { w.port p with peerLanes := (frameOf c).rxLanes % 16 }).portWidths p).portGone
              p).lackIn p ((frameOf c).lack % 1024)).dataIn p (frameOf c)))))
  ∧ (∀ (s : State) (p : Nat), p < 8 → (s.port p).replay ≠ [] → (s.port p).lastAckAt + 1000 ≤ s.now / 16 →
        exec (.lackStallTimeout p) s = .next ((s.setPort p { s.port p with again := (s.port p).replay, lastAckAt := s.now / 16 }).bump
          (Page.port p) F.FAB_PORT_RETRANSMITS (s.port p).replay.length))
  ∧ (∀ (s : State) (p : Nat), p < 8 → (s.port p).replay.any (fun f => f.words.any s.expired) = false → (s.port p).queue.any s.expired = true →
        exec (.wordExpire p) s = .next ((s.setPort p { s.port p with queue := s.dropOld (s.port p).queue }).wordGone p 1))
  ∧ (∀ (s : State) (p : Nat), p < 8 → s.portUp p = true → (s.port p).replay.any (fun f => f.sent + 4096 ≤ s.now / 16) = true →
        exec (.frameAckTimeout p) s = .next (((s.dropReplay p).portFall p).portGone p))
  ∧ (∀ (s : State) (p : Nat), p < 8 → s.portState p ≠ 0 →
        (s.port p).hello = 0 ∨ (s.port p).hello - 1 + (if s.portUp p then 1000000 else 10000) ≤ s.now / 16 →
        exec (.helloSend p) s = .next ((s.setPort p { s.port p with hello := s.now / 16 + 1 }).linkWord p (s.helloWord p)))
  ∧ ((∀ (s v : State) (p : Nat) (w : BitVec 64), p < 8 → s.linkFlows p = true → bitsOf w 3 0 = 0 → v = s.takeWord 8 w → v.portUp p = true →
        w.toNat / 2 ^ 16 ≠ v.g64 (Page.port p) F.FAB_PORT_PEER_LO → exec (.hello p w) s = .next (v.peerChanged p))
      ∧ (∀ (s v : State) (p : Nat) (w : BitVec 64), p < 8 → s.linkFlows p = true → bitsOf w 3 0 = 0 → v = s.takeWord 8 w → v.portUp p = true →
        w.toNat / 2 ^ 16 = v.g64 (Page.port p) F.FAB_PORT_PEER_LO → exec (.hello p w) s = .next (v.peerIs p w)))

/-- Discovery, announcements, addresses and route vectors. Conventions of the model: log entries 33. -/
def Obligations.DiscoveryAndRoutes : Prop :=
  (∀ (s v t : State) (p n : Nat) (w : BitVec 64), p < 8 → s.portUp p = true → bitsOf w 3 0 = 1 → v = s.takeWord 8 w → n = bitsOf w 11 8 →
        n ≠ v.fab.discNo → t = { v with fab.discNo := n, fab.parent := some p, fab.discUntil := v.now / 16 + 164000 }.sendDiscover
          (bitsOf w 7 4 + 1) n (w.toNat / 2 ^ 16) (some p) → t.isMemberB = false →
        exec (.discover p w) s = .next (t.linkWord p t.announceWord))
  ∧ (∀ (s v : State) (p q : Nat) (w : BitVec 64), p < 8 → s.portUp p = true → bitsOf w 3 0 = 2 → v = s.takeWord 8 w →
        v.fab.discOwed = none → v.fab.parent = some q → q ≠ p → exec (.announce p w) s = .next (v.linkWord q w.toNat))
  ∧ (∀ (s : State) (x : Nat × Nat), s.fab.discOwed = some x → s.fab.discEnd = none → s.fab.lastAnn + 100000 ≤ s.now / 16 → s.fab.claims = [] →
        exec .announceQuiet s = .next ({ s with fab.discEnd := some (s.now / 16 + 64000, St.success, 1) }.reroute))
  ∧ (∀ (s t u v : State) (p : Nat) (w : BitVec 64), p < 8 → s.portUp p = true → bitsOf w 3 0 = 3 → t = s.takeWord 8 w →
        t.fab.parent = some p → u = { t with fab.discUntil := t.now / 16 + 64000 } →
        v = forEach (u.upPorts.filter (· ≠ p)) u (fun s p => s.linkWord p w.toNat) → w.toNat / 2 ^ 16 = modId → v.isMemberB = false →
        bitsOf w 10 10 = 0 →
        exec (.assign p w) s = .next ((((v.p Page.fab F.FAB_STATUS_NODE (bitsOf w 9 4)).flag Page.fab F.FAB_STATUS_ADDR_VALID).unflag Page.fab
          F.FAB_STATUS_REFUSED).reroute))
  ∧ (∀ (s : State), s.on Page.fab F.FAB_STATUS_ADDR_VALID = true → s.now / 16 % vectorTicks = 0 → exec .vectorSend s
        = .next (forEach s.reroute.upPorts s.reroute (fun t p =>
            ((List.range 16).map s.reroute.vectorWord).foldl (fun t w => t.linkWord p w) t)))
  ∧ (∀ (s v : State) (p : Nat) (w : BitVec 64), p < 8 → s.portUp p = true → bitsOf w 3 0 = 4 → v = s.takeWord 8 w →
        exec (.vector p w) s = .next ({ v with fab.vec := v.fab.vec.set [] p ((List.range 4).foldl (fun t j =>
          Tab.set 15 (Tab.set 15 t (2 * (4 * bitsOf w 7 4 + j)) (w.toNat / 2 ^ (8 + 8 * j) % 16)) (2 * (4 * bitsOf w 7 4 + j) + 1)
            (w.toNat / 2 ^ (12 + 8 * j) % 16)) (v.fab.vec.get [] p)) }.reroute))

/-- Twin words, heartbeats, joins and takeover. Conventions of the model: log entries 9, 35, 36. -/
def Obligations.TwinWords : Prop :=
  (∀ (s h : State) (w d : BitVec 64), s.pwr.mode ≠ .off → s.twinEn = true → h = (s.takeWord 7 w).hear →
        (mwType w = 0 → exec (.mirrorLookup w) s = .next (h.mirrored w))
        ∧ (mwType w = 1 → exec (.cometApply w) s = .next (h.mirrored w))
        ∧ (mwType w = 2 → mwPart w < 5 → exec (.shotMark w d) s = .next (h.shotMark (mwPart w) (mwShot w) d))
        ∧ (mwType w = 4 → exec (.fail w) s = .next (h.partnerFailed (bitsOf w 18 11)))
        ∧ (mwType w = 5 → h.twinState = 1 → 0 < bitsOf w 42 11 → exec (.state w) s
            = .next { h with fab.joinLeft := bitsOf w 42 11, fab.joinWords := [], fab.joinHeld := [] })
        ∧ (mwType w = 6 → h.twinState = 2 → mwPart w < 5 → exec (.handover w) s
            = .next ({ h with fab.handShot := some (mwPart w, mwShot w) }).handDue)
        ∧ (mwType w = 7 → h.twinState = 5 → exec (.taken w) s
            = .next { h with fab.withheld := h.fab.withheld.filter (fun x => decide (x.1 ≠ mwPart w)) }))
  ∧ (∀ (s : State), s.pwr.mode ≠ .off → s.twinEn = true → s.fab.beatAt + 256 ≤ s.now / 16 →
        exec .heartbeatSend s = .next (({ s with fab.beatAt := s.now / 16 }).mirrorAll
          [({ s with fab.beatAt := s.now / 16 } : State).mirrorWord 3 0 (s.tk 0 % 2 ^ 40 + (if s.inStep then 2 ^ 40 else 0))]))
  ∧ (∀ (s : State) (w : BitVec 64), s.pwr.mode ≠ .off → s.twinEn = true → mwType w = 3 → exec (.heartbeat w) s
        = .next ((s.takeWord 7 w).hear.beat (bitsOf w 51 51 = 1)))
  ∧ (∀ (s v : State), s.pwr.mode ≠ .off → s.twinEn = true → s.silentFrom + s.hbTicks ≤ s.now / 16 →
        v = s.unflag Page.twin F.FAB_TWIN_STATUS_PARTNER_SEEN →
        exec .heartbeatTimeout s = .next (if v.twinState = 3
          then ((v.flag Page.fab F.FAB_EVENTS_TWIN_LOST).logIt Cause.twinLost 0 (gid 7 40) 0).twinSet 4 else v.partnerFailed 0))
  ∧ (∀ (s v : State) (w : BitVec 64) (n : Nat), s.pwr.mode ≠ .off → v = s.takeWord 9 w → v.twinState = 1 → v.fab.joinLeft = n + 2 →
        exec (.joinImageWord w) s = .next { v with fab.joinLeft := n + 1, fab.joinWords := v.fab.joinWords ++ [w] })
  ∧ (∀ (s : State), s.pwr.mode ≠ .off → s.twinEn = true → s.twinState = 0 → s.partnerSeen = false → s.fab.enabledAt + 10000 ≤ s.now / 16 →
        exec .twinPartnerAbsent s = .next (s.twinSet 4))
  ∧ (∀ (s : State) (p : Nat), p < 5 → exec (.takeoverBoundary p) s = .next (s.takeBoundary p))

/-- Log commands, entry reads and record writes. Conventions of the model: log entries 17, 46. -/
def Obligations.LogCommands : Prop :=
  (∀ (s : State) (p y : Pkt) (l : List LogEnt), s.InHand 0x0C00 p y → l = s.logEnts y.fn (y.n 0) (y.n 1) →
        Runs s (.logFetch p) y St.success (l.length + (match l with | e :: _ => e.seq | [] => 0) * 2 ^ 32) (·.putEnts (y.w64 2) l))
  ∧ (∀ (s : State) (p y : Pkt) (l : List LogEnt), s.InHand 0x0C01 p y → l = (s.nvEnts.drop (y.n 0)).take (y.n 1) →
        Runs s (.logNvFetch p) y St.success l.length (·.putEnts (y.w64 2) l))
  ∧ (∀ (s : State) (p y : Pkt), s.InHand 0x0C02 p y → Runs s (.logClear p) y St.success 0 (·.logClear))
  ∧ (∀ (s : State) (p y : Pkt), s.InHand 0x0C03 p y → Runs s (.fltSafe p) y St.success 0 (·.raiseSafe Cause.hostRequest 0 (gid 10 2047) 0))
  ∧ (∀ (s : State) (fn i : Nat), i < 16384 → s.Answers fn (0xC80000 + i * 32 + 0 * 4) → exec (.logEntryRead fn i) s = .next (s.logRead fn i))
  ∧ ((∀ (s : State) (e : LogEnt) (l : List (Retired ⊕ LogEnt)), s.pwr.input = true → s.log.flashQ = .inr e :: l →
        exec (.nvRecordWrite true) s = .next (s.nvStore e).flashPop)
      ∧ (∀ (s : State) (x : Retired) (l : List (Retired ⊕ LogEnt)), s.pwr.input = true → s.log.flashQ = .inl x :: l →
        exec (.nvRecordWrite true) s = .next ({ s with log.retired := s.log.retired ++ [x] }).flashPop))

/-- Self-test commands act as written. Conventions of the model: log entries 17, 21, 22, 74. -/
def Obligations.SelfTestCommands : Prop :=
  (∀ (s : State) (p y : Pkt), s.InHand 0x0A00 p y → exec (.bstLogicRun p) s = .next ((s.inRun y).logicCmd y))
  ∧ (∀ (s : State) (p y : Pkt), s.InHand 0x0A01 p y → exec (.bstSliceTest p) s = .next ((s.inRun y).sliceCmd y))
  ∧ (∀ (s : State) (p y : Pkt), s.InHand 0x0A02 p y → Runs s (.bstConfig p) y St.success 0 (·.putImg (Page.bst + 4) (y.w 0)))
  ∧ (∀ (s v : State) (p y : Pkt) (r : Nat), s.InHand 0x0A03 p y → (s.inRun y).fresh 1 = (v, r) →
        Runs s (.bstAnalogRun p) y St.success r (fun _ => v.checkJudge (checkChan (y.n 0) y.target) (r = 0)))
  ∧ (∀ (s : State) (p y : Pkt), s.InHand 0x0A04 p y → Runs s (.bstProofRead p) y St.success 0 (fun s => s.hostWrite (y.w64 0) s.proofBytes))
  ∧ (∀ (s : State) (p y : Pkt), s.InHand 0x0A05 p y → Runs s (.bstStop p) y St.success 0 (forEach (List.range 48) · State.turnStop))

/-- Ends of self-tests, turns, proofing and anomalies. Conventions of the model: log entries 5, 9, 21, 22, 74. -/
def Obligations.SelfTestEvents : Prop :=
  (∀ (s : State) (d t0 : Nat) (sig : BitVec 64), s.bst.now.find? (fun x => x.1 = d) = some (d, t0) → t0 + domTime d ≤ s.log.mtime.toNat →
        exec (.domainTestEnd d sig) s = .next (s.domainEnd d sig))
  ∧ (∀ (s : State) (g : Nat), g < 48 → s.pwr.mode = .ready → s.pwr.busy = .none → s.logicRuns = false →
        s.on Page.bst F.BST_CFG_PERIODIC = true → s.slSt g = 0 → s.turnDue g = true → s.turnNext g < grpSize g →
        s.dpRetired g (s.turnNext g) = false →
        exec (.sliceTurn g) s = .next ({ s with bst.turns := s.bst.turns.set 0 g (s.log.mtime.toNat + 1) }.turnWait g (s.turnNext g) none))
  ∧ (∀ (s : State) (g : Nat), g < 48 → s.slSt g = 1 → s.spState g ≠ 1 → (s.slice g).until_ ≤ s.log.mtime.toNat →
        exec (.turnWaitExpire g) s = .next (s.turnSkip g))
  ∧ (∀ (s : State) (g : Nat) (sig : BitVec 64), g < 48 → s.slSt g = 2 → (s.slice g).t0 + 8192 * patUnits g ≤ s.now →
        exec (.sliceTestEnd g sig) s = .next (s.sliceDone g sig))
  ∧ (∀ (s : State) (g : Nat), g < 48 → s.slSt g = 2 → (s.slice g).member ∉ (s.spare g).held →
        (s.slice g).member = grpSize g → exec (.sliceTestAbandon g) s
          = .next (if (s.slice g).member ∈ (s.sliceAbandon g |>.spare g).held then (s.sliceAbandon g).sliceBegin g (s.slice g).member true
            else s.sliceAbandon g))
  ∧ (∀ (s : State) (kind ch : Nat) (stuck : Bool), checkOk kind ch = true → kind ≠ 5 → s.pwr.mode = .ready →
        s.on Page.bst F.BST_CFG_ANALOG_EN = true → s.chanDark (checkChan kind ch) = false → s.checkNow kind ch = true →
        s.periodOver (s.bst.checks.get 0 (checkChan kind ch)) = true → exec (.analogCheck kind ch stuck) s = .next ({ s with
          bst.checks := s.bst.checks.set 0 (checkChan kind ch) (s.log.mtime.toNat + 1) }.checkJudge (checkChan kind ch) stuck))
  ∧ (∀ (s v : State) (kind n : Nat) (r : Proof) (l : List Proof), s.bst.after = true → s.pwr.input = true → kind < 2 → s.bst.proofs = r :: l →
        s.fresh 32 = (v, n) → exec (.proofAnomaly kind) s
          = .next { v with bst.proofs := { r with anomaly := true, anomWord := BitVec.ofNat 32 n } :: l })
  ∧ ((∀ (s : State) (bad ranks : List Nat), s.pwr.busy = .proofing true → s.logicRuns = false → s.pwr.again = false →
        (s.proofEnd bad ranks).pwr.again = false →
        exec (.proofingPassEnd bad ranks) s = .next { s.proofEnd bad ranks with pwr.busy := .none })
      ∧ (∀ (s : State) (bad ranks : List Nat), s.pwr.busy = .proofing false → s.logicRuns = false → s.pwr.again = false →
        exec (.proofingPassEnd bad ranks) s = .next { s.saveSettings with pwr.busy := .none }))

/-- Power and temperature commands act as written. Conventions of the model: log entries 17, 24, 26. -/
def Obligations.PowerCommands : Prop :=
  ((∀ (s : State) (p y : Pkt), s.InHand 0x0400 p y → exec (.pwrBank p) s = .next ((s.inRun y).bankStart [(y.sq, y.tag)]))
      ∧ (∀ (s : State) (fn : Nat), s.Opens fn (Page.pwr + 0x28) →
        (s.bankRefused = true → exec (.pwrCtrlBank fn) s = .next (s.flag Page.pwr F.PWR_EVENTS_BANK_REFUSED))
        ∧ (∀ k, s.bankRefused = false → s.freeSlot 16 4 = some k → exec (.pwrCtrlBank fn) s = .next ((s.takeCtx k { st := 1, internal := true, op := 0x0400, tag := 0, sq := 0, groups := [gid 4 2047], holds := [(Page.pwr, 0x100), (Page.thm, 0x300)] }).bankStart []))))
  ∧ ((∀ (s : State) (p y : Pkt), s.InHand 0x0401 p y → s.pwr.mode ≠ .safe → Runs s (.pwrWake p) y St.success 0 id)
      ∧ (∀ (s : State) (fn : Nat), s.Opens fn (Page.pwr + 0x28) → exec (.pwrCtrlWake fn) s = .next s.startWake))
  ∧ (∀ (s : State) (p y : Pkt), s.InHand 0x0402 p y → s.pwr.mode = .safe → exec (.pwrSafeExit p) s = .next ((s.inRun y).safeExitGo y.who))
  ∧ (∀ (s : State) (p y : Pkt), s.InHand 0x0403 p y → exec (.pwrShutdown p) s
        = .next { (s.inRun y).rampAll with pwr.busy := .stop (y.n 0 = 1), pwr.owed := [(y.sq, y.tag)] })
  ∧ ((∀ (s : State) (p y : Pkt), s.InHand 0x0404 p y → Runs s (.pwrSettingsSave p) y St.success 0 State.saveSettings)
      ∧ (∀ (s : State) (fn : Nat), s.Opens fn (Page.pwr + 0x28) → exec (.pwrCtrlSave fn) s = .next s.saveSettings))
  ∧ ((∀ (s : State) (p y : Pkt), s.InHand 0x0405 p y → Runs s (.pwrCapSet p) y St.success 0 (fun s => (s.putImg (Page.pwr + 0x1C) (y.w 0)).govern))
      ∧ (∀ (s : State) (p y : Pkt), s.InHand 0x0406 p y → Runs s (.pwrShedRankSet p) y St.success 0 (·.putImg (Page.pwr + 0x24) (y.w 0)))
      ∧ (∀ (s : State) (p y : Pkt), s.InHand 0x0407 p y → Runs s (.pwrCfgSet p) y St.success 0 (·.putImg (Page.pwr + 0x20) (y.w 0))))
  ∧ (∀ (s : State) (p y : Pkt) (l : List (List Word)), s.InHand 0x0408 p y → l = (s.thm.snaps.drop (y.n 0)).take (y.n 1) →
        Runs s (.thmSnapshotFetch p) y St.success l.length (·.hostWrite (y.w64 2) (wordBytes (l.flatMap id))))

/-- Envelope, shedding, restoring, autosave and thermal samples. Conventions of the model: log entries 5, 9, 25. -/
def Obligations.PowerGovernor : Prop :=
  (∀ (s v : State) (vin iin m : Nat), s.pwr.input = true → s.due s.pwr.takenAt (usecs 10) = true → (s.inputTake vin).fresh 16 = (v, m) → vin ≤ 6000 → exec (.envelopeUpdate vin iin) s
        = .next (((((v.p Page.pwr F.PWR_VIN_VIN vin).p Page.pwr F.PWR_IIN_IIN iin).p Page.pwr F.PWR_MEASURED_MEASURED m).p Page.pwr
            F.PWR_STATUS_OVER_RANGE 0).govern))
  ∧ (∀ (s : State) (t : Nat), s.pwr.input = true →
        (s.pwr.outRange = some t → t + msecs 1 ≤ s.now → s.safePending / 2 ^ 4 % 2 ≠ 1 → exec .inputFail s
          = .next ((((s.flag Page.pwr F.PWR_EVENTS_INPUT_FAIL).raiseSafe Cause.inputFail 0 (gid 4 2047) 0).convShut)))
        ∧ (s.pwr.inRange = some t → t + msecs 100 ≤ s.now → exec .inputRecovered s = .next (s.clearPending 4)))
  ∧ (∀ (s v : State) (c : Nat), s.governs = true → s.limitE < s.committed → s.stepDue = true → s.pwr.episode = true →
        v = { s with pwr.stepAt := some s.now, pwr.restoring := false, pwr.okAt := none } → v.nextShed = some c →
        exec .shedStep s = .next (v.shedChan c).acqSweep)
  ∧ (∀ (s : State) (c : Nat) (l : List Nat), s.governs = true → s.committed ≤ s.limitE → s.stepDue = true → s.pwr.shed = c :: l →
        s.restoreOk c = true → s.pwr.restoring = true → exec .restoreStep s
          = .next ({ s.unshedChan c with pwr.stepAt := some s.now, pwr.restoring := true }).watchRestore)
  ∧ (∀ (s : State) (t : Nat), s.pwr.mode ≠ .off → s.pwr.changedAt = some t → s.g Page.pwr F.PWR_CFG_AUTOSAVE ≠ 0 →
        t + secs (60 * s.g Page.pwr F.PWR_CFG_AUTOSAVE) ≤ s.log.mtime.toNat → exec .autosave s = .next s.saveSettings)
  ∧ (∀ (s a b t : State) (l : List Int), s.pwr.input = true → s.due s.thm.readAt s.samplePace = true →
        a = { s with thm.readAt := some s.now }.sensorsTake 0 l → b = forEach [0, 1, 2, 3, 4] a State.classEval →
        t = (if a.throttled ∧ ¬ b.throttled then { b with thm.capAt := b.now } else b).thmShow →
        exec (.thermalSample l) s = .next (if (classSensors 0).all (fun n => decide (t.tempOf n < 1100)) then t.clearPending 3 else t))
  ∧ (∀ (s : State) (c : Nat), s.pwr.input = true → c = s.g Page.thm F.THM_CAP_CAP →
        ([0, 1, 2, 3, 4].any (fun k => 2 ≤ s.levelOf k) = true → s.thm.capAt + msecs 100 ≤ s.now →
          exec .thmCapStep s = .next ({ s.p Page.thm F.THM_CAP_CAP (max 1400 (c - 560)) with thm.capAt := s.now }).govern)
        ∧ ([0, 1, 2, 3, 4].any (fun k => 2 ≤ s.levelOf k) = false → c < 5600 → s.thm.capAt + secs 1 ≤ s.now →
          exec .thmCapStep s = .next ({ s.p Page.thm F.THM_CAP_CAP (min 5600 (c + 560)) with thm.capAt := s.now }).govern))

/-- SAFE entry, the bank sequence, held doorbells and the wake. Conventions of the model: log entries 24, 26. -/
def Obligations.SafeAndBanked : Prop :=
  (∀ (s : State), s.pwr.input = true →
        exec (.safeEntry Cause.hostRequest) s = .next (s.raiseSafe Cause.hostRequest 0 (gid 10 2047) 0)
        ∧ exec (.safeEntry Cause.alignFail) s = .next (s.raiseSafe Cause.alignFail 0 (gid 3 2047) 0)
        ∧ exec (.safeEntry Cause.thermalShutdown) s = .next ((s.raiseSafe Cause.thermalShutdown 0 (gid 4 2047) 0).convShut)
        ∧ exec (.safeEntry Cause.twinNotInStep) s = .next (s.raiseSafe Cause.twinNotInStep 0 (gid 7 40) 0)
        ∧ exec (.safeEntry Cause.refLost) s = .next s.refFall
        ∧ exec (.safeEntry Cause.inputFail) s = .next s.failInput)
  ∧ (∀ (s v w x : State), s.pwr.busy = .bank → s.rampsOver = true → s.monsOver = true → s.copiesOver = true →
        v = (match s.bankOff.bankCtx with | some c => s.bankOff.freeCtx c | none => s.bankOff) →
        w = ({ v with pwr.busy := .none, pwr.owed := [] }).settleAll v.pwr.owed St.success →
        x = { w with pwr.mode := .banked }.settleMode.wakesWaiting →
        exec .bankComplete s = .next (if x.pwr.owed = [] then x else x.startWake))
  ∧ (∀ (s : State) (fn n : Nat) (v : Word), n < 64 → s.pwr.mode = .banked → s.Opens fn (Page.db n) → exec (.bankedDoorbell fn n v) s
        = .next ({ s with pwr.doorbells := s.pwr.doorbells ++ [(fn, n, wget v 15 0)] }).startWake)
  ∧ ((∀ (s : State), s.pwr.busy = .wake → s.tim.tries = none → s.mem.initLeft = [] → s.refOk = true →
        s.on Page.tim F.TIM_STATUS_ALIGNED = true → s.pwr.safeExit = none → exec .wakeComplete s = .next s.wakeDone)
      ∧ (∀ (s : State) (x : Nat × Nat), s.pwr.busy = .wake → s.tim.tries = none → s.mem.initLeft = [] → s.refOk = true →
        s.on Page.tim F.TIM_STATUS_ALIGNED = true → s.pwr.safeExit = some x → exec .wakeComplete s = .next s.exitSafe))

/-- Input power, RESET_N, ENABLE_IN, the start-up steps and the service ports. Conventions of the model: log entries 1, 23, 24, 52. -/
def Obligations.PowerAndReset : Prop :=
  ((∀ (s : State) (c : Nat), s.pwr.input = true → s.due s.pins.chassisAt (secs 1) = true → exec (.chassisIdRead c) s
        = .next { s with pins.chassis := c % 256, pins.chassisAt := some s.now })
      ∧ (∀ (s : State) (c : Nat), s.pwr.mode ≠ .off → exec (.smbusRead c) s = .next { s with pins.smbus := s.statusBytes c })
      ∧ (∀ (s : State), s.pwr.mode ≠ .off → exec .statusDatagram s
          = .next { s with pins.udp := [1, 2, 3, 4, 5, 6].flatMap s.statusBytes })
      ∧ (∀ (s : State) (i : Nat), exec (.boundaryScan i) s = .next { s with sec.jtag := s.jtagAs i }))
  ∧ ((∀ (s : State), s.pwr.input = false → s.pwr.resetN = true → s.pwr.mode = .off → exec .powerOn s
        = .next ({ s with pins.present := true, pwr.input := true, pwr.enableIn := true }.startBegin true))
      ∧ (∀ (s : State), s.pwr.input = true → s.pwr.enableIn = false → s.pwr.resetN = true → s.pwr.mode = .off → s.pwr.busy = .none →
        exec .powerOn s = .next ({ s with pins.present := true, pwr.input := true, pwr.enableIn := true }.startBegin false)))
  ∧ (∀ (s : State), exec .powerLoss s = .next s.coldReset)
  ∧ (∀ (s : State), s.pwr.input = true →
        exec .resetNAssert s = .next (((({ s with pwr.resetN := false } : State).logicStop.warmReset.clearPending 2).clearPending 6).settleMode)
        ∧ (s.pwr.resetN = false → s.pwr.enableIn = true → 900 ≤ s.pwr.vin → s.pwr.vin ≤ 6000 → s.pins.present = true →
          exec .resetNRelease s = .next ({ s with pwr.resetN := true }.startBegin false)))
  ∧ (∀ (s : State), s.pwr.input = true → s.pwr.enableIn = true → s.pwr.busy = .none → s.pwr.mode ≠ .off →
        exec .enableInRelease s = .next { s with pwr.enableIn := false, pwr.again := false }.disableStart)
  ∧ (∀ (s v : State) (n : Nat) (ok : Bool) (bad : List Nat), s.pwr.busy = .startup n → s.pwr.resetN = true → s.stepReady n = true →
        v = s.stepEffect n ok bad → v.pwr.stopping = false → v.recovery = false →
        exec (.startupStepEnd ok bad) s = .next (if n = 12 then v.startEnd else v.stepBegin (n + 1)))
  ∧ (∀ (s : State), exec .presentBreak s = .next (forEach
        ((forEach ({ s with pins.present := false } : State).biasList { s with pins.present := false } State.biasOff).syn.outp.map (·.1))
        (forEach ({ s with pins.present := false } : State).biasList { s with pins.present := false } State.biasOff) State.muteStep))

/-- Images, fuses, life cycle, attestation and identity. Conventions of the model: log entries 9, 17, 27. -/
def Obligations.SecurityCommands : Prop :=
  (∀ (s : State) (p y : Pkt) (b : List Byte), s.InHand 0x0500 p y → y.data (y.n 2) = some b →
        Runs s (.secFwUpdate p) y (s.checkImage 1 b) 0 (fun s => if s.checkImage 1 b = 0 then s.fwWrite (imgOf b)
          else s.imgRefused 1 (imgVersion b) (s.checkImage 1 b)))
  ∧ (∀ (s : State) (p y : Pkt) (b : List Byte), s.InHand 0x0501 p y → y.data (y.n 2) = some b →
        Runs s (.secCalLoad p) y (s.checkImage 3 b) 0 (fun s => if s.checkImage 3 b = 0 then { s with sec.cal := some (imgOf b) }
          else s.imgRefused 3 (imgVersion b) (s.checkImage 3 b)))
  ∧ ((∀ (s : State) (p y : Pkt), s.InHand 0x0502 p y → s.sec.keyValid = true → exec (.secAttest p) s = .next ((s.inRun y).attest y))
      ∧ (∀ (s : State) (p y : Pkt), s.InHand 0x0502 p y → s.sec.keyValid = false → exec (.secAttest p) s
        = .next { s.inRun y with sec.owed := s.sec.owed ++ [(y.sq, y.tag)] }))
  ∧ (∀ (s : State) (p y : Pkt), s.InHand 0x0503 p y → Runs s (.secCertFetch p) y St.success 0 (·.hostWrite (y.w64 0) Config.identityCert))
  ∧ (∀ (s v : State) (p y : Pkt) (b : List Byte) (r : Nat), s.InHand 0x0504 p y → y.data (fuseLen (y.n 0)) = some b →
        2 ≤ y.n 0 ∨ b.all (mapValueOk (y.n 0)) = true → (s.inRun y).fresh 1 = (v, r) →
        Runs s (.secFuseProgram p) y (if r = 0 then St.success else St.internalError) 0 (fun _ =>
          if r = 0 then v.fuseBurn (y.n 0) b true else (v.fuseBurn (y.n 0) b false).flag Page.sec F.SEC_STATUS_BURN_FAIL))
  ∧ (∀ (s : State) (p y : Pkt), s.InHand 0x0505 p y → Runs s (.secLcAdvance p) y St.success 0 (·.lcAdvance (y.n 0)))
  ∧ (∀ (s : State) (p y : Pkt), s.InHand 0x0506 p y → Runs s (.secSvnCommit p) y St.success 0 (·.svnCommit (y.n 0)))
  ∧ (∀ (s : State), s.fwRuns = true → s.sec.keyValid = false → s.sec.fuses.lc ≠ 7 → exec .identityDerived s
        = .next (({ s with sec.keyValid := true }.secEvent 9 0 0).attestAll))

/-- On an empty queue one tick passes, and only input power moves the count. The tick is the model's choice: log entries 3 and 4. -/
def Obligations.StepOnAnEmptyQueuePassesATick : Prop :=
  (∀ (s : State), s.pending = [] →
        step s = .next s.tick ∧ s.tick.pending = []
          ∧ (s.pwr.input = true → s.tick.tim.texp = s.tim.texp + 16)
          ∧ (s.pwr.input = false → s.tick = s))

/-- No command adds or removes a waiting command. The queue is the block's own: log entry 1. -/
def Obligations.CommandsLeaveTheQueue : Prop :=
  (∀ (i : Instr) (s t : State), exec i s = .next t → t.pending = s.pending)

/-- Every step keeps the memories canonical, the log ring bounded and the wall-time fraction below 1 ns. The canonical form is the model's representation: log entries 11 and 12. -/
def Obligations.StepKeepsTheForms : Prop :=
  (∀ (s t : State), s.Canonical ∧ s.Bounded → step s = .next t → t.Canonical ∧ t.Bounded)

/-- No step clears a fuse bit. The sentence of R643: "No field is ever cleared, and a bit once blown stays blown." -/
def Obligations.NoStepClearsAFuse : Prop :=
  (∀ (f : Fuses) (s t : State), State.Blown f s → step s = .next t → State.Blown f t)

/-- Nothing changes the count of an ANCHORED domain but its counting. The tick of 16 units is the model's: log entries 3 and 4. -/
def Obligations.AnchoredCountOnlyCounts : Prop :=
  ((∀ (i : Instr) (s t : State) (d : Nat), exec i s = .next t → d < 5 → i ≠ .powerLoss → s.anchored d = true →
        t.cnt d = s.cnt d)
      ∧ (∀ (i : Instr) (s t : State) (d : Nat), exec i s = .next t → d < 5 → s.anchored d = true → t.anchored d = true →
          (t.tim.doms.get Dom.zero d).off = (s.tim.doms.get Dom.zero d).off)
      ∧ (∀ (s : State) (d : Nat), d < 5 → s.anchored d = true →
          (s.pwr.input = true → s.tick.cnt d = s.cnt d + 16) ∧ (s.pwr.input = false → s.tick.cnt d = s.cnt d)))

/-- The state at reset. Reset values that no table states are the model's: log entries 7 and 8. -/
def Obligations.ResetState : Prop :=
  (State.reset.pending = [] ∧ State.reset.pwr.mode = .off ∧ State.reset.pwr.input = false ∧ State.reset.tim.texp = 0
      ∧ State.reset.Canonical ∧ State.reset.Bounded ∧ State.Blown Fuses.factory State.reset
      ∧ (∀ d, (State.reset.tim.doms.get Dom.zero d).off = 0) ∧ (∀ d, d < 5 → State.reset.anchored d = false)
      ∧ (∀ p, p < 5 → State.reset.pst p = 0) ∧ (∀ q, State.reset.sqs q = Seq.init)
      ∧ (∀ a, State.reset.reg a = resetWord a &&& ~~~ retMask a))

/-- What the register path does with an access. OFF is the model's reading: log entry 6. -/
def Obligations.RegisterPath : Prop :=
  ((∀ (s : State) (fn a : Nat) (f : State → State), s.pwr.mode = .off → s.recovery = false →
        s.onWrite fn a f = s ∧ s.onRead fn a f = { s with pins.rdata := 0 })
      ∧ (∀ (s : State) (fn a : Nat) (f : State → State), s.pwr.mode ≠ .off → s.bankedLimits = true → bankedAddr a = false →
        s.onWrite fn a f = s.bump Page.pwr F.PWR_BANKED_ACCESSES ∧ s.onRead fn a f = { s with pins.rdata := 0 })
      ∧ (∀ (s : State) (fn a : Nat) (f : State → State), s.pwr.mode ≠ .off → s.bankedLimits = false → s.sees fn a = false →
        s.onWrite fn a f = s.bump (Page.fn fn) F.HIF_FN_DENIED
          ∧ s.onRead fn a f = { s.bump (Page.fn fn) F.HIF_FN_DENIED with pins.rdata := 0 })
      ∧ (∀ (s : State) (fn a : Nat) (f : State → State), s.pwr.mode ≠ .off → s.bankedLimits = false → s.sees fn a = true →
        s.onRead fn a f = f s ∧ (s.held a = false ∨ fn = 5 → s.onWrite fn a f = f s)
          ∧ (s.held a = true → fn ≠ 5 → s.onWrite fn a f = s.busyReject fn a)))

/-- A register reads back what was written, and other fields keep their values. Retained bits before the restore read 0: log entry 8. -/
def Obligations.RegistersReadBack : Prop :=
  ((∀ (s : State) (a b : Nat) (w : Word), (s.setReg a w).reg b
        = if b = a then (if s.pwr.restored then w else w &&& ~~~ retMask a) else s.reg b)
      ∧ (∀ (s : State) (pg v : Nat) (f : Fld), f.lo ≤ f.hi → f.hi < 32 → v < 2 ^ (f.hi + 1 - f.lo) → s.pwr.restored = true →
        (s.p pg f v).g pg f = v)
      ∧ (∀ (s : State) (pg pg' v : Nat) (f f' : Fld), f.lo ≤ f.hi → f.hi < 32 → f'.lo ≤ f'.hi → f'.hi < 32 →
        s.pwr.restored = true → pg' + f'.off ≠ pg + f.off ∨ f'.hi < f.lo ∨ f.hi < f'.lo → (s.p pg f v).g pg' f' = s.g pg' f'))

/-- A phase-continuous frequency change and a phase update. The phase itself is R72 and its period R73. -/
def Obligations.OscillatorPhase : Prop :=
  ((∀ (f p f' t0 : Nat), (retune f p f' t0 : Int) = (p + ((f : Int) - f') * t0) % 2 ^ 48
          ∧ phase f' (retune f p f' t0) t0 = phase f p t0)
      ∧ (∀ (f p z t : Nat), addPhase p z = (p + z) % 2 ^ 48 ∧ phase f (addPhase p z) t = (phase f p t + z) % 2 ^ 48)
      ∧ (∀ (f p t : Nat), phase f p (t % 2 ^ 48) = phase f p t)
      ∧ (∀ (o : Osc) (t0 f p t : Nat), (∀ x ∈ o.old, x.1 ≤ t0) →
          (t0 ≤ t → (o.change t0 f p).at t = (f, p)) ∧ (t < t0 → (o.change t0 f p).at t = o.at t))
      ∧ (∀ (s : State) (q t k o v : Nat),
          s.applyEff q t (.freq k o v) = s.setOsc (slotKey q k) ((s.osc (slotKey q k)).change (16 * t + o) v
            (retune (s.osc (slotKey q k)).f (s.osc (slotKey q k)).p v (16 * t + o)))
          ∧ s.applyEff q t (.phaseAdd k o v) = s.setOsc (slotKey q k) ((s.osc (slotKey q k)).change (16 * t + o)
            (s.osc (slotKey q k)).f (addPhase (s.osc (slotKey q k)).p v)))
      ∧ (∀ (t k j o v z : Nat),
          effSort [(t, .phaseAdd k o z), (t, .freq j o v)] = [(t, .freq j o v), (t, .phaseAdd k o z)]))

/-- The DDR4 address map. That no two addresses share a byte follows from the table. -/
def Obligations.MemoryAddressMap : Prop :=
  (∀ (s : State), s.g Page.mem F.MEM_MAP_LOCAL ≤ 16 → 8 ≤ s.g Page.mem F.MEM_MAP_GRAIN_EXP → s.g Page.mem F.MEM_MAP_GRAIN_EXP ≤ 16 →
        s.memL = s.g Page.mem F.MEM_MAP_LOCAL * 2 ^ 30 ∧ s.memG = 2 ^ s.g Page.mem F.MEM_MAP_GRAIN_EXP
        ∧ (s.memC = 2 ^ 35 ∨ s.memC = 2 ^ 34) ∧ (s.memC = 2 ^ 34 ↔ ∃ c < 4, s.g (Page.memCh c) F.MEM_CH_STATUS_RANK0 ≠ 0
            ∨ s.g (Page.memCh c) F.MEM_CH_STATUS_RANK1 ≠ 0)
        ∧ (∀ (c a : Nat), c < 4 → c * s.memL ≤ a → a < (c + 1) * s.memL → s.memMap a = some (c, a - c * s.memL))
        ∧ (∀ a, 4 * s.memL ≤ a → a < 4 * s.memL + 4 * (s.memC - s.memL) → s.memMap a
            = some ((a - 4 * s.memL) / s.memG % 4,
                s.memL + (a - 4 * s.memL) / (4 * s.memG) * s.memG + (a - 4 * s.memL) % s.memG))
        ∧ (∀ a, 4 * s.memL + 4 * (s.memC - s.memL) ≤ a → s.memMap a = none)
        ∧ (∀ a c o, s.memMap a = some (c, o) → c < 4 ∧ o < s.memC)
        ∧ (∀ a b x, s.memMap a = some x → s.memMap b = some x → a = b))

/-- A byte read after a write. Bytes that nothing wrote read 0: log entries 11 and 12. -/
def Obligations.MemoryReadAfterWrite : Prop :=
  ((∀ (s : State) (a n : Nat) (b : List Byte), s.g Page.mem F.MEM_MAP_LOCAL ≤ 16 → 8 ≤ s.g Page.mem F.MEM_MAP_GRAIN_EXP →
        s.g Page.mem F.MEM_MAP_GRAIN_EXP ≤ 16 → (s.ddrWrite a b).ddrByte n
          = if h : a ≤ n ∧ n < a + b.length ∧ (s.memMap n).isSome then b[n - a]'(by omega) else s.ddrByte n)
      ∧ (∀ (s : State) (a n : Nat) (b : List Byte), (s.hostWrite a b).hif.hostMem.get 0 n
          = if h : a ≤ n ∧ n < a + b.length then b[n - a]'(by omega) else s.hif.hostMem.get 0 n)
      ∧ (∀ (s : State) (a n : Nat) (b : List Byte), (s.bufWrite a b).acq.buf.get 0 n
          = if h : a ≤ n ∧ n < a + b.length then b[n - a]'(by omega) else s.acq.buf.get 0 n))

/-- When an instruction issues, and when it does not. One attempt per row is the model's: log entry 47. -/
def Obligations.InstructionIssue : Prop :=
  ((∀ (s : State) (q op : Nat) (body : State → W64 → Nat → Nat → Res), s.canIssue q = false → s.issue q op body = s)
      ∧ (∀ (s : State) (q op : Nat) (body : State → W64 → Nat → Nat → Res), s.canIssue q = true → (s.sqs q).rep = none →
        (s.imgLen q ≤ (s.sqs q).pc → s.issue q op body = s.seqError q (s.sqs q).pc (s.tk (s.seqOwner q)))
        ∧ ((s.sqs q).pc < s.imgLen q → s.iword q (s.sqs q).pc = none → (s.sqs q).inside = false →
            s.issue q op body = s.fetchWait q (s.tk (s.seqOwner q)))
        ∧ ((s.sqs q).pc < s.imgLen q → s.iword q (s.sqs q).pc = none → (s.sqs q).inside = true →
            s.issue q op body = s.regionMiss q (s.tk (s.seqOwner q)))
        ∧ (∀ w, (s.sqs q).pc < s.imgLen q → s.iword q (s.sqs q).pc = some w → ((s.sqs q).vec = true → opc w = 2) →
            (s.sqs q).leads w (s.tk (s.seqOwner q)) = true → wordOk (isRs q) w = false →
            s.issue q op body = s.seqError q (s.sqs q).pc (s.tk (s.seqOwner q)))
        ∧ (∀ w, (s.sqs q).pc < s.imgLen q → s.iword q (s.sqs q).pc = some w → ((s.sqs q).vec = true → opc w = 2) →
            (s.sqs q).leads w (s.tk (s.seqOwner q)) = false → s.issue q op body = s)
        ∧ (∀ w, (s.sqs q).pc < s.imgLen q → s.iword q (s.sqs q).pc = some w → (s.sqs q).vec = true → opc w ≠ 2 →
            s.issue q op body = s.seqError q (s.sqs q).pc (s.tk (s.seqOwner q))))
      ∧ (∀ (s : State) (q op : Nat) (w : W64) (body : State → W64 → Nat → Nat → Res), s.canIssue q = true →
        (s.sqs q).pc < s.imgLen q → s.iword q (s.sqs q).pc = some w → opc w = op → op ≠ 2 → wordOk (isRs q) w = true →
        (s.sqs q).rep = none → (s.sqs q).vec = false → (s.sqs q).atAbort = false →
        (s.sqs q).leads w (s.tk (s.seqOwner q)) = true → (s.sqs q).tau < s.tk (s.seqOwner q) + 92 →
        ∀ y, y = { ((s.slip q).seqOn q).shift (s.sqs q).tau (s.tk (s.seqOwner q) + 92 - (s.sqs q).tau) with tau := s.tk (s.seqOwner q) + 92 } →
        s.issue q op body = ((s.slip q).setSq q y).after q (s.sqs q).pc (s.tk (s.seqOwner q)) none
          (body ((s.slip q).setSq q y) w (s.tk (s.seqOwner q)) (s.tk (s.seqOwner q) + 92))))

/-- A log entry goes to the head of the ring. The retention of the ring is stated by the start-up rows. -/
def Obligations.LogRing : Prop :=
  (∀ (s : State) (cause kind part source detail r : Nat), s.Bounded →
        (s.logWrite cause kind part source detail r).log.ring.get LogEnt.zero (s.g Page.log F.LOG_HEAD_INDEX)
          = { mtime := s.log.mtime, ns := s.wallNs, sec := s.wallSec % 2 ^ 34, seq := s.g Page.log F.LOG_SEQ, cause := cause
              kind := kind, part := part, wallValid := s.g Page.tim F.TIM_STATUS_WALL_STATE ≠ 0
              nv := kind = 1 ∨ cause = Cause.thermalShutdown, source := source, detail := detail % 2 ^ 48, repeat_ := r }
        ∧ (s.logWrite cause kind part source detail r).g Page.log F.LOG_HEAD_INDEX = (s.g Page.log F.LOG_HEAD_INDEX + 1) % 16384
        ∧ (∀ k, k ≠ s.g Page.log F.LOG_HEAD_INDEX →
            (s.logWrite cause kind part source detail r).log.ring.get LogEnt.zero k = s.log.ring.get LogEnt.zero k)
        ∧ (s.log.count < 16384 → (s.logWrite cause kind part source detail r).log.count = s.log.count + 1
            ∧ (s.logWrite cause kind part source detail r).g Page.log F.LOG_OVERWRITES = s.g Page.log F.LOG_OVERWRITES)
        ∧ (s.log.count = 16384 → (s.logWrite cause kind part source detail r).log.count = 16384
            ∧ (s.logWrite cause kind part source detail r).g Page.log F.LOG_OVERWRITES
              = satAdd32 (s.g Page.log F.LOG_OVERWRITES) 1
            ∧ (s.logWrite cause kind part source detail r).on Page.log F.LOG_STATUS_WRAPPED = true))

end
end

