-- ==== Sys2Proof/Laws/Cmd.lean ====
section
/-!
SUPPORT. Laws/Cmd.lean: what a command does once its packet has been started, and how it ends.
-/

namespace Sys2Proof.Machine
open Sys2Proof

/-- Marking a slot done leaves it in the list, done. -/
theorem markDone_mem {sq tag : Nat} {f : Slot → Slot} : ∀ {l l' : List Slot}, markDone sq tag f l = some l' →
    ∃ sl ∈ l, sl.isOf sq tag = true ∧ { f sl with st := .done } ∈ l' := by
  intro l
  induction l with
  | nil => intro l' h; simp [markDone] at h
  | cons a l ih =>
    intro l' h
    simp only [markDone] at h
    split at h
    · rename_i ha
      cases h
      exact ⟨a, by simp, ha, by simp⟩
    · simp only [Option.map_eq_some_iff] at h
      obtain ⟨l'', h, rfl⟩ := h
      obtain ⟨sl, h1, h2, h3⟩ := ih h
      exact ⟨sl, by simp [h1], h2, by simp [h3]⟩

/-- Marking a slot done leaves every slot of another queue or tag as it was. -/
theorem markDone_other {sq tag : Nat} {f : Slot → Slot} (hf : ∀ sl, (f sl).p = sl.p) :
    ∀ {l l' : List Slot}, markDone sq tag f l = some l' →
    ∀ x : Slot, ¬ (x.p.sq = sq ∧ x.p.tag = tag) → (x ∈ l' ↔ x ∈ l) := by
  intro l
  induction l with
  | nil => intro l' h; simp [markDone] at h
  | cons a l ih =>
    intro l' h x hx
    simp only [markDone] at h
    split at h
    · rename_i ha
      cases h
      simp only [Slot.isOf, Bool.and_eq_true, decide_eq_true_eq] at ha
      have h1 : x ≠ { f a with st := .done } := by
        intro e; apply hx; rw [e]; exact ⟨by simp [hf, ha.1.1], by simp [hf, ha.1.2]⟩
      have h2 : x ≠ a := by intro e; apply hx; rw [e]; exact ⟨ha.1.1, ha.1.2⟩
      simp [h1, h2]
    · simp only [Option.map_eq_some_iff] at h
      obtain ⟨l'', h, rfl⟩ := h
      simp [ih h x hx]

theorem finish_ended (s : State) (p : Pkt) (x : Fail) (r : Nat) : (s.finish p x r).Ended p x.status r := by
  unfold State.finish State.Ended
  dsimp only
  split
  · rename_i l h
    obtain ⟨sl, _, h2, h3⟩ := markDone_mem h
    simp only [Slot.isOf, Bool.and_eq_true, decide_eq_true_eq] at h2
    exact ⟨_, h3, h2.1.1, h2.1.2, rfl, rfl, rfl⟩
  · exact ⟨_, List.mem_append_right _ (List.mem_singleton.2 rfl), rfl, rfl, rfl, rfl, rfl⟩

theorem applyDefer_hif (s : State) (d : DeferOp) : (s.applyDefer d).hif = s.hif := rfl

theorem foldl_applyDefer_hif : ∀ (l : List DeferOp) (s : State), (l.foldl State.applyDefer s).hif = s.hif := by
  intro l
  induction l with
  | nil => intro s; rfl
  | cons a l ih => intro s; simp only [List.foldl_cons, ih, applyDefer_hif]

theorem applyDefers_hif (s : State) (g : Nat) : (s.applyDefers g).hif = s.hif := by
  unfold State.applyDefers; dsimp only; rw [foldl_applyDefer_hif]

theorem forEach_hif {f : State → Nat → State} (hf : ∀ s n, (f s n).hif = s.hif) :
    ∀ (l : List Nat) (s : State), (forEach l s f).hif = s.hif := by
  intro l
  induction l with
  | nil => intro s; rfl
  | cons a l ih => intro s; simp only [forEach, ih, hf]

theorem switchCtx_hif (s : State) (c : Nat) : (s.switchCtx c).hif = s.hif := by
  unfold State.switchCtx
  split
  · rfl
  · dsimp only
    split <;> rfl

theorem freeCtx_hif (s : State) (c : Nat) : (s.freeCtx c).hif = s.hif := by
  unfold State.freeCtx; dsimp only; split
  · rw [switchCtx_hif, forEach_hif applyDefers_hif]; rfl
  · rw [forEach_hif applyDefers_hif]; rfl

theorem endCtx_hif (s : State) (sq tag : Nat) : (s.endCtx sq tag).hif = s.hif := by
  unfold State.endCtx; split
  · exact freeCtx_hif _ _
  · rfl

theorem finish_closes (s : State) (p : Pkt) (x : Fail) (r : Nat) : (s.finish p x r).Closes s p := by
  unfold State.finish State.Closes
  dsimp only
  split
  · rename_i l h
    rw [endCtx_hif] at h
    refine ⟨rfl, fun y hy => ?_⟩
    have h' := markDone_other ?_ h y hy
    · exact h'
    · intro; rfl
  · refine ⟨rfl, fun y hy => ?_⟩
    simp only [endCtx_hif, List.mem_append, List.mem_singleton, or_iff_left_iff_imp]
    intro e; exact absurd (by rw [e]; exact ⟨rfl, rfl⟩) hy

theorem body_eq (s : State) (c : Cmd) (p : Pkt) : s.body c p = c.run (s.inRun p) p := by
  unfold State.body State.inRun
  cases markFirst p.sq p.tag (fun sl => { sl with begun := true }) s.hif.slots <;> rfl

/-- A started packet's command runs its body. -/
theorem command_inHand {s : State} {c : Cmd} {p y : Pkt} (h : s.InHand c.op p y) :
    s.command c p = c.run (s.inRun y) y := by
  obtain ⟨h1, x, h2, rfl⟩ := h
  unfold State.command
  have h3 : ¬ (¬ s.serving = true ∧ ¬ s.recovery = true) := by rcases h1 with h | h <;> simp [h]
  simp only [h2]
  rw [if_neg h3]
  exact body_eq _ _ _

/-- A slot of (sq, tag) is not yet done. -/
def State.Live (s : State) (p : Pkt) : Prop := ∃ sl ∈ s.hif.slots, sl.isOf p.sq p.tag = true

theorem markFirst_live {sq tag : Nat} {f : Slot → Slot} (hf : ∀ sl, (f sl).isOf sq tag = sl.isOf sq tag) :
    ∀ {l l' : List Slot}, markFirst sq tag f l = some l' →
    (∃ sl ∈ l, sl.isOf sq tag = true) → ∃ sl ∈ l', sl.isOf sq tag = true := by
  intro l
  induction l with
  | nil => intro l' h; simp [markFirst] at h
  | cons a l ih =>
    intro l' h hl
    simp only [markFirst] at h
    split at h
    · rename_i ha; cases h; exact ⟨f a, by simp, by rw [hf]; exact ha⟩
    · rename_i ha
      simp only [Option.map_eq_some_iff] at h
      obtain ⟨l'', h, rfl⟩ := h
      obtain ⟨sl, h1, h2⟩ := hl
      rcases List.mem_cons.1 h1 with rfl | h1
      · exact absurd h2 ha
      · obtain ⟨x, hx, hy⟩ := ih h ⟨sl, h1, h2⟩
        exact ⟨x, by simp [hx], hy⟩

theorem markDone_some {sq tag : Nat} {f : Slot → Slot} : ∀ {l : List Slot}, (∃ sl ∈ l, sl.isOf sq tag = true) →
    ∃ l', markDone sq tag f l = some l' := by
  intro l
  induction l with
  | nil => intro h; obtain ⟨_, h, _⟩ := h; cases h
  | cons a l ih =>
    intro h
    simp only [markDone]
    split
    · exact ⟨_, rfl⟩
    · rename_i ha
      obtain ⟨sl, h1, h2⟩ := h
      rcases List.mem_cons.1 h1 with rfl | h1
      · exact absurd h2 ha
      · obtain ⟨l', h⟩ := ih ⟨sl, h1, h2⟩
        exact ⟨a :: l', by simp [h]⟩

/-- A started packet's slot is live while its body runs. -/
theorem inRun_live {s : State} {op : Nat} {p y : Pkt} (h : s.InHand op p y) : (s.inRun y).Live y := by
  obtain ⟨_, x, h2, rfl⟩ := h
  unfold State.started at h2
  simp only [Option.map_eq_some_iff] at h2
  obtain ⟨sl, h2, rfl⟩ := h2
  have h3 := List.find?_some h2
  have h4 := List.mem_of_find?_eq_some h2
  simp only [Slot.isOf, Bool.and_eq_true, decide_eq_true_eq] at h3
  have hl : ∃ x ∈ s.hif.slots, x.isOf sl.p.sq sl.p.tag = true :=
    ⟨sl, h4, by simp [Slot.isOf, h3.1.1.1.2]⟩
  unfold State.inRun State.Live
  dsimp only
  split
  · rename_i l h
    have h' := markFirst_live ?_ h hl
    · exact h'
    · intro; rfl
  · exact hl

theorem settle_ended {s : State} {p : Pkt} (h : s.Live p) (st r : Nat) : (s.settle p.who st r).Ended p st r := by
  unfold State.settle Pkt.who State.Ended
  dsimp only
  have h' : ∃ sl ∈ (s.endCtx p.sq p.tag).hif.slots, sl.isOf p.sq p.tag = true := by rw [endCtx_hif]; exact h
  split
  · rename_i l h
    obtain ⟨sl, _, h2, h3⟩ := markDone_mem h
    simp only [Slot.isOf, Bool.and_eq_true, decide_eq_true_eq] at h2
    exact ⟨_, h3, h2.1.1, h2.1.2, rfl, rfl, rfl⟩
  · rename_i h
    obtain ⟨l', h''⟩ := markDone_some h'
    rw [h''] at h; cases h

theorem settle_closes (s : State) (p : Pkt) (st r : Nat) : (s.settle p.who st r).Closes s p := by
  unfold State.settle Pkt.who State.Closes
  dsimp only
  split
  · rename_i l h
    rw [endCtx_hif] at h
    refine ⟨rfl, fun y hy => ?_⟩
    have h' := markDone_other ?_ h y hy
    · exact h'
    · intro; rfl
  · refine ⟨rfl, fun y hy => ?_⟩
    rw [endCtx_hif]

/-- A command whose body settles its own packet completes. -/
theorem runs_of_settle {s : State} {i : Instr} {c : Cmd} {p y : Pkt} {st r : Nat} {eff : State → State}
    (hi : exec i s = .next (s.command c p)) (h : s.InHand c.op p y) (hl : (eff (s.inRun y)).Live y)
    (hr : c.run (s.inRun y) y = (eff (s.inRun y)).settle y.who st r) : Runs s i y st r eff :=
  ⟨_, by rw [hi, command_inHand h, hr], settle_ended hl _ _, settle_closes _ _ _ _⟩

/-- A command whose body ends with its completion completes. -/
theorem runs_of_finish {s : State} {i : Instr} {c : Cmd} {p y : Pkt} {x : Fail} {r : Nat} {eff : State → State}
    (hi : exec i s = .next (s.command c p)) (h : s.InHand c.op p y)
    (hr : c.run (s.inRun y) y = (eff (s.inRun y)).finish y x r) : Runs s i y x.status r eff :=
  ⟨_, by rw [hi, command_inHand h, hr], finish_ended _ _ _ _, finish_closes _ _ _ _⟩

/-- The same for a status by itself. -/
theorem runs_of_plain {s : State} {i : Instr} {c : Cmd} {p y : Pkt} {st r : Nat} {eff : State → State}
    (hi : exec i s = .next (s.command c p)) (h : s.InHand c.op p y)
    (hr : c.run (s.inRun y) y = (eff (s.inRun y)).finish y (.plain st) r) : Runs s i y st r eff :=
  runs_of_finish (x := .plain st) hi h hr

end Sys2Proof.Machine
end

