-- ==== Sys2Proof/Laws/Tab.lean ====
section
/-!
SUPPORT. Laws/Tab.lean: the sparse tables: a read after a write, and the canonical form, which every operation keeps.
-/

namespace Sys2Proof
variable {α : Type}

/-! ### Reads -/

theorem Tab.get_erase_ne (d : α) (t : Tab α) {k j : Nat} (h : j ≠ k) : Tab.get d (Tab.erase t k) j = Tab.get d t j := by
  induction t with
  | nil => rfl
  | cons e t ih =>
    obtain ⟨k', v⟩ := e
    simp only [Tab.erase]
    split
    · subst_vars; simp [Tab.get, h, ih]
    · simp only [Tab.get, ih]

theorem Tab.get_erase_self (d : α) (t : Tab α) (k : Nat) : Tab.get d (Tab.erase t k) k = d := by
  induction t with
  | nil => rfl
  | cons e t ih =>
    obtain ⟨k', v⟩ := e
    simp only [Tab.erase]
    split
    · exact ih
    · rename_i hne; simp only [Tab.get]; rw [if_neg hne]; exact ih

theorem Tab.get_insert (d : α) (t : Tab α) (k j : Nat) (v : α) :
    Tab.get d (Tab.insert t k v) j = if j = k then v else Tab.get d t j := by
  induction t with
  | nil => simp [Tab.insert, Tab.get]
  | cons e t ih =>
    obtain ⟨k', v'⟩ := e
    simp only [Tab.insert]
    split
    · simp [Tab.get]
    · split
      · subst_vars; simp only [Tab.get]; split <;> rfl
      · simp only [Tab.get, ih]; split
        · rw [if_neg]; omega
        · rfl

theorem Tab.wfAbove_weaken [DecidableEq α] {d : α} {lo lo' : Option Nat} {t : Tab α} (h : Tab.wfAbove d lo t = true)
    (hl : ∀ a, lo' = some a → ∃ b, lo = some b ∧ a ≤ b) : Tab.wfAbove d lo' t = true := by
  cases t with
  | nil => simp [Tab.wfAbove]
  | cons e t =>
    obtain ⟨k, v⟩ := e
    simp only [Tab.wfAbove, Bool.and_eq_true, decide_eq_true_eq] at h ⊢
    refine ⟨⟨?_, h.1.2⟩, h.2⟩
    cases lo' with
    | none => rfl
    | some a =>
      obtain ⟨b, hb, hab⟩ := hl a rfl
      subst hb
      have := h.1.1
      simp only [decide_eq_true_eq] at this ⊢
      omega

/-- A read after a write to the same key gives the value written. -/
theorem Tab.get_set_self [DecidableEq α] (d : α) (t : Tab α) (k : Nat) (v : α) : Tab.get d (Tab.set d t k v) k = v := by
  unfold Tab.set
  split
  · subst_vars; exact Tab.get_erase_self _ t k
  · simp [Tab.get_insert]

theorem Tab.insert_insert (t : Tab α) (k : Nat) (v w : α) : Tab.insert (Tab.insert t k w) k v = Tab.insert t k v := by
  induction t with
  | nil => simp [Tab.insert]
  | cons e t ih =>
    obtain ⟨k', v'⟩ := e
    simp only [Tab.insert]
    split
    · simp [Tab.insert]
    · split
      · simp [Tab.insert]
      · rename_i h1 h2
        simp only [Tab.insert, if_neg h1, if_neg h2, ih]

theorem Tab.erase_insert (t : Tab α) (k : Nat) (w : α) : Tab.erase (Tab.insert t k w) k = Tab.erase t k := by
  induction t with
  | nil => simp [Tab.insert, Tab.erase]
  | cons e t ih =>
    obtain ⟨k', v'⟩ := e
    simp only [Tab.insert]
    split
    · simp [Tab.erase]
    · split
      · rename_i h1 h2; subst h2; simp [Tab.erase]
      · rename_i h1 h2
        simp only [Tab.erase, if_neg h2, ih]

/-- The last of two writes to one key stands alone, where the first was an entry. -/
theorem Tab.set_set [DecidableEq α] {d : α} (t : Tab α) (k : Nat) {v w : α} (h : w ≠ d) :
    Tab.set d (Tab.set d t k w) k v = Tab.set d t k v := by
  unfold Tab.set
  rw [if_neg h]
  split
  · exact Tab.erase_insert t k w
  · exact Tab.insert_insert t k v w

/-- Writing one key leaves what another reads as, whatever an unlisted key reads as there. -/
theorem Tab.get_set_other [DecidableEq α] (d e : α) (t : Tab α) {k j : Nat} (v : α) (h : j ≠ k) :
    Tab.get e (Tab.set d t k v) j = Tab.get e t j := by
  unfold Tab.set
  split
  · exact Tab.get_erase_ne e t h
  · rw [Tab.get_insert, if_neg h]

/-- A write leaves every other key alone. -/
theorem Tab.get_set_ne [DecidableEq α] (d : α) (t : Tab α) {k j : Nat} (v : α) (h : j ≠ k) :
    Tab.get d (Tab.set d t k v) j = Tab.get d t j := by
  unfold Tab.set
  split
  · exact Tab.get_erase_ne d t h
  · simp [Tab.get_insert, h]

/-! ### The canonical form -/

theorem Tab.wfAbove_erase [DecidableEq α] {d : α} {lo : Option Nat} {t : Tab α} (h : Tab.wfAbove d lo t = true) (k : Nat) :
    Tab.wfAbove d lo (Tab.erase t k) = true := by
  induction t generalizing lo with
  | nil => simp [Tab.erase, Tab.wfAbove]
  | cons e t ih =>
    obtain ⟨k', v⟩ := e
    have h' := h
    simp only [Tab.wfAbove, Bool.and_eq_true] at h
    simp only [Tab.erase]
    split
    · refine Tab.wfAbove_weaken (ih h.2) (fun a ha => ⟨k', rfl, ?_⟩)
      subst ha
      have := h.1.1
      simp only [decide_eq_true_eq] at this
      omega
    · simp only [Tab.wfAbove, Bool.and_eq_true]; exact ⟨h.1, ih h.2⟩

theorem Tab.wfAbove_insert [DecidableEq α] {d : α} {lo : Option Nat} {t : Tab α} (h : Tab.wfAbove d lo t = true) (k : Nat)
    {v : α} (hv : v ≠ d) (hk : ∀ a, lo = some a → a < k) : Tab.wfAbove d lo (Tab.insert t k v) = true := by
  induction t generalizing lo with
  | nil => simp only [Tab.insert, Tab.wfAbove, Bool.and_eq_true]; exact ⟨⟨by cases lo with | none => rfl | some a => simpa using hk a rfl, by simpa using hv⟩, trivial⟩
  | cons e t ih =>
    obtain ⟨k', v'⟩ := e
    have h' := h
    simp only [Tab.wfAbove, Bool.and_eq_true] at h
    simp only [Tab.insert]
    split
    · rename_i hlt
      simp only [Tab.wfAbove, Bool.and_eq_true]
      exact ⟨⟨by cases lo with | none => rfl | some a => simpa using hk a rfl, by simpa using hv⟩, ⟨by simpa using hlt, h.1.2⟩, h.2⟩
    · split
      · subst_vars; simp only [Tab.wfAbove, Bool.and_eq_true]; exact ⟨⟨by cases lo with | none => rfl | some a => simpa using hk a rfl, by simpa using hv⟩, h.2⟩
      · simp only [Tab.wfAbove, Bool.and_eq_true]
        refine ⟨h.1, ih h.2 (fun a ha => ?_)⟩
        injection ha with ha; omega

/-- A write keeps the canonical form. -/
theorem Tab.wf_set [DecidableEq α] {d : α} {t : Tab α} (h : Tab.wf d t = true) (k : Nat) (v : α) :
    Tab.wf d (Tab.set d t k v) = true := by
  unfold Tab.set
  split
  · exact Tab.wfAbove_erase h k
  · rename_i hv; exact Tab.wfAbove_insert h k hv (by simp)

theorem Tab.wfAbove_filter [DecidableEq α] {d : α} {lo : Option Nat} {t : Tab α} (h : Tab.wfAbove d lo t = true)
    (p : Nat × α → Bool) : Tab.wfAbove d lo (t.filter p) = true := by
  induction t generalizing lo with
  | nil => simp [Tab.wfAbove]
  | cons e t ih =>
    obtain ⟨k, v⟩ := e
    have h' := h
    simp only [Tab.wfAbove, Bool.and_eq_true] at h
    rw [List.filter_cons]
    split
    · simp only [Tab.wfAbove, Bool.and_eq_true]; exact ⟨h.1, ih h.2⟩
    · refine Tab.wfAbove_weaken (ih h.2) (fun a ha => ⟨k, rfl, ?_⟩)
      subst ha
      have := h.1.1
      simp only [decide_eq_true_eq] at this
      omega

/-- Dropping entries keeps the canonical form. -/
theorem Tab.wf_filter [DecidableEq α] {d : α} {t : Tab α} (h : Tab.wf d t = true) (p : Nat × α → Bool) :
    Tab.wf d (t.filter p) = true := Tab.wfAbove_filter h p

namespace Machine

/-- Bytes written keep the canonical form. -/
theorem writeBytes_wf {m : Tab Byte} (h : Tab.wf 0 m = true) (a : Nat) (l : List Byte) :
    Tab.wf 0 (writeBytes m a l) = true := by
  induction l generalizing m a with
  | nil => exact h
  | cons b l ih => exact ih (Tab.wf_set h a b) (a + 1)

/-- Bytes written leave every address outside them alone. -/
theorem writeBytes_get_out (m : Tab Byte) (a : Nat) (l : List Byte) {k : Nat} (h : k < a ∨ a + l.length ≤ k) :
    Tab.get 0 (writeBytes m a l) k = Tab.get 0 m k := by
  induction l generalizing m a with
  | nil => rfl
  | cons b l ih =>
    simp only [List.length_cons] at h
    simp only [writeBytes]
    rw [ih (m.set 0 a b) (a + 1) (by omega), Tab.get_set_ne 0 m b (by omega)]

/-- Bytes written are read back. -/
theorem writeBytes_get (m : Tab Byte) (a : Nat) (l : List Byte) {i : Nat} (hi : i < l.length) :
    Tab.get 0 (writeBytes m a l) (a + i) = l[i] := by
  induction l generalizing m a i with
  | nil => simp at hi
  | cons b l ih =>
    simp only [writeBytes]
    cases i with
    | zero =>
      rw [writeBytes_get_out _ _ _ (by omega)]
      simpa using Tab.get_set_self 0 m a b
    | succ i =>
      simp only [List.length_cons] at hi
      have := ih (m.set 0 a b) (a + 1) (i := i) (by omega)
      rw [show a + (i + 1) = a + 1 + i by omega, this]
      rfl

end Machine
end Sys2Proof
end

