-- ==== Sys2Proof/Laws/State.lean ====
section
/-!
SUPPORT. Laws/State.lean: what each update of the state leaves, field by field, and what it writes.
-/

namespace Sys2Proof.Machine
open Sys2Proof

/-! ### setReg -/

@[simp] theorem State.setReg_pending (s : State) (a : Nat) (w : Word) : (s.setReg a w).pending = s.pending := rfl
@[simp] theorem State.setReg_shadow (s : State) (a : Nat) (w : Word) : (s.setReg a w).shadow = s.shadow := rfl
@[simp] theorem State.setReg_heldRd (s : State) (a : Nat) (w : Word) : (s.setReg a w).heldRd = s.heldRd := rfl
@[simp] theorem State.setReg_heldWr (s : State) (a : Nat) (w : Word) : (s.setReg a w).heldWr = s.heldWr := rfl
@[simp] theorem State.setReg_free (s : State) (a : Nat) (w : Word) : (s.setReg a w).free = s.free := rfl
@[simp] theorem State.setReg_tim (s : State) (a : Nat) (w : Word) : (s.setReg a w).tim = s.tim := rfl
@[simp] theorem State.setReg_syn (s : State) (a : Nat) (w : Word) : (s.setReg a w).syn = s.syn := rfl
@[simp] theorem State.setReg_sqr (s : State) (a : Nat) (w : Word) : (s.setReg a w).sqr = s.sqr := rfl
@[simp] theorem State.setReg_rdo (s : State) (a : Nat) (w : Word) : (s.setReg a w).rdo = s.rdo := rfl
@[simp] theorem State.setReg_dec (s : State) (a : Nat) (w : Word) : (s.setReg a w).dec = s.dec := rfl
@[simp] theorem State.setReg_acq (s : State) (a : Nat) (w : Word) : (s.setReg a w).acq = s.acq := rfl
@[simp] theorem State.setReg_bm (s : State) (a : Nat) (w : Word) : (s.setReg a w).bm = s.bm := rfl
@[simp] theorem State.setReg_mem (s : State) (a : Nat) (w : Word) : (s.setReg a w).mem = s.mem := rfl
@[simp] theorem State.setReg_hif (s : State) (a : Nat) (w : Word) : (s.setReg a w).hif = s.hif := rfl
@[simp] theorem State.setReg_fab (s : State) (a : Nat) (w : Word) : (s.setReg a w).fab = s.fab := rfl
@[simp] theorem State.setReg_hrt (s : State) (a : Nat) (w : Word) : (s.setReg a w).hrt = s.hrt := rfl
@[simp] theorem State.setReg_int (s : State) (a : Nat) (w : Word) : (s.setReg a w).int = s.int := rfl
@[simp] theorem State.setReg_evr (s : State) (a : Nat) (w : Word) : (s.setReg a w).evr = s.evr := rfl
@[simp] theorem State.setReg_log (s : State) (a : Nat) (w : Word) : (s.setReg a w).log = s.log := rfl
@[simp] theorem State.setReg_bst (s : State) (a : Nat) (w : Word) : (s.setReg a w).bst = s.bst := rfl
@[simp] theorem State.setReg_thm (s : State) (a : Nat) (w : Word) : (s.setReg a w).thm = s.thm := rfl
@[simp] theorem State.setReg_sec (s : State) (a : Nat) (w : Word) : (s.setReg a w).sec = s.sec := rfl
@[simp] theorem State.setReg_pins (s : State) (a : Nat) (w : Word) : (s.setReg a w).pins = s.pins := rfl
@[simp] theorem State.setReg_pwr_input (s : State) (a : Nat) (w : Word) : (s.setReg a w).pwr.input = s.pwr.input := rfl
@[simp] theorem State.setReg_pwr_vin (s : State) (a : Nat) (w : Word) : (s.setReg a w).pwr.vin = s.pwr.vin := rfl
@[simp] theorem State.setReg_pwr_inRange (s : State) (a : Nat) (w : Word) : (s.setReg a w).pwr.inRange = s.pwr.inRange := rfl
@[simp] theorem State.setReg_pwr_outRange (s : State) (a : Nat) (w : Word) : (s.setReg a w).pwr.outRange = s.pwr.outRange := rfl
@[simp] theorem State.setReg_pwr_takenAt (s : State) (a : Nat) (w : Word) : (s.setReg a w).pwr.takenAt = s.pwr.takenAt := rfl
@[simp] theorem State.setReg_pwr_waitIn (s : State) (a : Nat) (w : Word) : (s.setReg a w).pwr.waitIn = s.pwr.waitIn := rfl
@[simp] theorem State.setReg_pwr_mode (s : State) (a : Nat) (w : Word) : (s.setReg a w).pwr.mode = s.pwr.mode := rfl
@[simp] theorem State.setReg_pwr_busy (s : State) (a : Nat) (w : Word) : (s.setReg a w).pwr.busy = s.pwr.busy := rfl
@[simp] theorem State.setReg_pwr_last (s : State) (a : Nat) (w : Word) : (s.setReg a w).pwr.last = s.pwr.last := rfl
@[simp] theorem State.setReg_pwr_resetN (s : State) (a : Nat) (w : Word) : (s.setReg a w).pwr.resetN = s.pwr.resetN := rfl
@[simp] theorem State.setReg_pwr_enableIn (s : State) (a : Nat) (w : Word) : (s.setReg a w).pwr.enableIn = s.pwr.enableIn := rfl
@[simp] theorem State.setReg_pwr_convOn (s : State) (a : Nat) (w : Word) : (s.setReg a w).pwr.convOn = s.pwr.convOn := rfl
@[simp] theorem State.setReg_pwr_convDue (s : State) (a : Nat) (w : Word) : (s.setReg a w).pwr.convDue = s.pwr.convDue := rfl
@[simp] theorem State.setReg_pwr_deep (s : State) (a : Nat) (w : Word) : (s.setReg a w).pwr.deep = s.pwr.deep := rfl
@[simp] theorem State.setReg_pwr_shed (s : State) (a : Nat) (w : Word) : (s.setReg a w).pwr.shed = s.pwr.shed := rfl
@[simp] theorem State.setReg_pwr_episode (s : State) (a : Nat) (w : Word) : (s.setReg a w).pwr.episode = s.pwr.episode := rfl
@[simp] theorem State.setReg_pwr_stepAt (s : State) (a : Nat) (w : Word) : (s.setReg a w).pwr.stepAt = s.pwr.stepAt := rfl
@[simp] theorem State.setReg_pwr_okAt (s : State) (a : Nat) (w : Word) : (s.setReg a w).pwr.okAt = s.pwr.okAt := rfl
@[simp] theorem State.setReg_pwr_restoring (s : State) (a : Nat) (w : Word) : (s.setReg a w).pwr.restoring = s.pwr.restoring := rfl
@[simp] theorem State.setReg_pwr_retValid (s : State) (a : Nat) (w : Word) : (s.setReg a w).pwr.retValid = s.pwr.retValid := rfl
@[simp] theorem State.setReg_pwr_restored (s : State) (a : Nat) (w : Word) : (s.setReg a w).pwr.restored = s.pwr.restored := rfl
@[simp] theorem State.setReg_pwr_flash (s : State) (a : Nat) (w : Word) : (s.setReg a w).pwr.flash = s.pwr.flash := rfl
@[simp] theorem State.setReg_pwr_cold (s : State) (a : Nat) (w : Word) : (s.setReg a w).pwr.cold = s.pwr.cold := rfl
@[simp] theorem State.setReg_pwr_credit (s : State) (a : Nat) (w : Word) : (s.setReg a w).pwr.credit = s.pwr.credit := rfl
@[simp] theorem State.setReg_pwr_stopping (s : State) (a : Nat) (w : Word) : (s.setReg a w).pwr.stopping = s.pwr.stopping := rfl
@[simp] theorem State.setReg_pwr_again (s : State) (a : Nat) (w : Word) : (s.setReg a w).pwr.again = s.pwr.again := rfl
@[simp] theorem State.setReg_pwr_owed (s : State) (a : Nat) (w : Word) : (s.setReg a w).pwr.owed = s.pwr.owed := rfl
@[simp] theorem State.setReg_pwr_doorbells (s : State) (a : Nat) (w : Word) : (s.setReg a w).pwr.doorbells = s.pwr.doorbells := rfl
@[simp] theorem State.setReg_pwr_safeExit (s : State) (a : Nat) (w : Word) : (s.setReg a w).pwr.safeExit = s.pwr.safeExit := rfl

/-! ### p -/

@[simp] theorem State.p_pending (s : State) (pg : Nat) (f : Fld) (v : Nat) : (s.p pg f v).pending = s.pending := by unfold State.p; simp only [State.setReg_pending]
@[simp] theorem State.p_shadow (s : State) (pg : Nat) (f : Fld) (v : Nat) : (s.p pg f v).shadow = s.shadow := by unfold State.p; simp only [State.setReg_shadow]
@[simp] theorem State.p_heldRd (s : State) (pg : Nat) (f : Fld) (v : Nat) : (s.p pg f v).heldRd = s.heldRd := by unfold State.p; simp only [State.setReg_heldRd]
@[simp] theorem State.p_heldWr (s : State) (pg : Nat) (f : Fld) (v : Nat) : (s.p pg f v).heldWr = s.heldWr := by unfold State.p; simp only [State.setReg_heldWr]
@[simp] theorem State.p_free (s : State) (pg : Nat) (f : Fld) (v : Nat) : (s.p pg f v).free = s.free := by unfold State.p; simp only [State.setReg_free]
@[simp] theorem State.p_tim (s : State) (pg : Nat) (f : Fld) (v : Nat) : (s.p pg f v).tim = s.tim := by unfold State.p; simp only [State.setReg_tim]
@[simp] theorem State.p_syn (s : State) (pg : Nat) (f : Fld) (v : Nat) : (s.p pg f v).syn = s.syn := by unfold State.p; simp only [State.setReg_syn]
@[simp] theorem State.p_sqr (s : State) (pg : Nat) (f : Fld) (v : Nat) : (s.p pg f v).sqr = s.sqr := by unfold State.p; simp only [State.setReg_sqr]
@[simp] theorem State.p_rdo (s : State) (pg : Nat) (f : Fld) (v : Nat) : (s.p pg f v).rdo = s.rdo := by unfold State.p; simp only [State.setReg_rdo]
@[simp] theorem State.p_dec (s : State) (pg : Nat) (f : Fld) (v : Nat) : (s.p pg f v).dec = s.dec := by unfold State.p; simp only [State.setReg_dec]
@[simp] theorem State.p_acq (s : State) (pg : Nat) (f : Fld) (v : Nat) : (s.p pg f v).acq = s.acq := by unfold State.p; simp only [State.setReg_acq]
@[simp] theorem State.p_bm (s : State) (pg : Nat) (f : Fld) (v : Nat) : (s.p pg f v).bm = s.bm := by unfold State.p; simp only [State.setReg_bm]
@[simp] theorem State.p_mem (s : State) (pg : Nat) (f : Fld) (v : Nat) : (s.p pg f v).mem = s.mem := by unfold State.p; simp only [State.setReg_mem]
@[simp] theorem State.p_hif (s : State) (pg : Nat) (f : Fld) (v : Nat) : (s.p pg f v).hif = s.hif := by unfold State.p; simp only [State.setReg_hif]
@[simp] theorem State.p_fab (s : State) (pg : Nat) (f : Fld) (v : Nat) : (s.p pg f v).fab = s.fab := by unfold State.p; simp only [State.setReg_fab]
@[simp] theorem State.p_hrt (s : State) (pg : Nat) (f : Fld) (v : Nat) : (s.p pg f v).hrt = s.hrt := by unfold State.p; simp only [State.setReg_hrt]
@[simp] theorem State.p_int (s : State) (pg : Nat) (f : Fld) (v : Nat) : (s.p pg f v).int = s.int := by unfold State.p; simp only [State.setReg_int]
@[simp] theorem State.p_evr (s : State) (pg : Nat) (f : Fld) (v : Nat) : (s.p pg f v).evr = s.evr := by unfold State.p; simp only [State.setReg_evr]
@[simp] theorem State.p_log (s : State) (pg : Nat) (f : Fld) (v : Nat) : (s.p pg f v).log = s.log := by unfold State.p; simp only [State.setReg_log]
@[simp] theorem State.p_bst (s : State) (pg : Nat) (f : Fld) (v : Nat) : (s.p pg f v).bst = s.bst := by unfold State.p; simp only [State.setReg_bst]
@[simp] theorem State.p_thm (s : State) (pg : Nat) (f : Fld) (v : Nat) : (s.p pg f v).thm = s.thm := by unfold State.p; simp only [State.setReg_thm]
@[simp] theorem State.p_sec (s : State) (pg : Nat) (f : Fld) (v : Nat) : (s.p pg f v).sec = s.sec := by unfold State.p; simp only [State.setReg_sec]
@[simp] theorem State.p_pins (s : State) (pg : Nat) (f : Fld) (v : Nat) : (s.p pg f v).pins = s.pins := by unfold State.p; simp only [State.setReg_pins]
@[simp] theorem State.p_pwr_input (s : State) (pg : Nat) (f : Fld) (v : Nat) : (s.p pg f v).pwr.input = s.pwr.input := by unfold State.p; simp only [State.setReg_pwr_input]
@[simp] theorem State.p_pwr_vin (s : State) (pg : Nat) (f : Fld) (v : Nat) : (s.p pg f v).pwr.vin = s.pwr.vin := by unfold State.p; simp only [State.setReg_pwr_vin]
@[simp] theorem State.p_pwr_inRange (s : State) (pg : Nat) (f : Fld) (v : Nat) : (s.p pg f v).pwr.inRange = s.pwr.inRange := by unfold State.p; simp only [State.setReg_pwr_inRange]
@[simp] theorem State.p_pwr_outRange (s : State) (pg : Nat) (f : Fld) (v : Nat) : (s.p pg f v).pwr.outRange = s.pwr.outRange := by unfold State.p; simp only [State.setReg_pwr_outRange]
@[simp] theorem State.p_pwr_takenAt (s : State) (pg : Nat) (f : Fld) (v : Nat) : (s.p pg f v).pwr.takenAt = s.pwr.takenAt := by unfold State.p; simp only [State.setReg_pwr_takenAt]
@[simp] theorem State.p_pwr_waitIn (s : State) (pg : Nat) (f : Fld) (v : Nat) : (s.p pg f v).pwr.waitIn = s.pwr.waitIn := by unfold State.p; simp only [State.setReg_pwr_waitIn]
@[simp] theorem State.p_pwr_mode (s : State) (pg : Nat) (f : Fld) (v : Nat) : (s.p pg f v).pwr.mode = s.pwr.mode := by unfold State.p; simp only [State.setReg_pwr_mode]
@[simp] theorem State.p_pwr_busy (s : State) (pg : Nat) (f : Fld) (v : Nat) : (s.p pg f v).pwr.busy = s.pwr.busy := by unfold State.p; simp only [State.setReg_pwr_busy]
@[simp] theorem State.p_pwr_last (s : State) (pg : Nat) (f : Fld) (v : Nat) : (s.p pg f v).pwr.last = s.pwr.last := by unfold State.p; simp only [State.setReg_pwr_last]
@[simp] theorem State.p_pwr_resetN (s : State) (pg : Nat) (f : Fld) (v : Nat) : (s.p pg f v).pwr.resetN = s.pwr.resetN := by unfold State.p; simp only [State.setReg_pwr_resetN]
@[simp] theorem State.p_pwr_enableIn (s : State) (pg : Nat) (f : Fld) (v : Nat) : (s.p pg f v).pwr.enableIn = s.pwr.enableIn := by unfold State.p; simp only [State.setReg_pwr_enableIn]
@[simp] theorem State.p_pwr_convOn (s : State) (pg : Nat) (f : Fld) (v : Nat) : (s.p pg f v).pwr.convOn = s.pwr.convOn := by unfold State.p; simp only [State.setReg_pwr_convOn]
@[simp] theorem State.p_pwr_convDue (s : State) (pg : Nat) (f : Fld) (v : Nat) : (s.p pg f v).pwr.convDue = s.pwr.convDue := by unfold State.p; simp only [State.setReg_pwr_convDue]
@[simp] theorem State.p_pwr_deep (s : State) (pg : Nat) (f : Fld) (v : Nat) : (s.p pg f v).pwr.deep = s.pwr.deep := by unfold State.p; simp only [State.setReg_pwr_deep]
@[simp] theorem State.p_pwr_shed (s : State) (pg : Nat) (f : Fld) (v : Nat) : (s.p pg f v).pwr.shed = s.pwr.shed := by unfold State.p; simp only [State.setReg_pwr_shed]
@[simp] theorem State.p_pwr_episode (s : State) (pg : Nat) (f : Fld) (v : Nat) : (s.p pg f v).pwr.episode = s.pwr.episode := by unfold State.p; simp only [State.setReg_pwr_episode]
@[simp] theorem State.p_pwr_stepAt (s : State) (pg : Nat) (f : Fld) (v : Nat) : (s.p pg f v).pwr.stepAt = s.pwr.stepAt := by unfold State.p; simp only [State.setReg_pwr_stepAt]
@[simp] theorem State.p_pwr_okAt (s : State) (pg : Nat) (f : Fld) (v : Nat) : (s.p pg f v).pwr.okAt = s.pwr.okAt := by unfold State.p; simp only [State.setReg_pwr_okAt]
@[simp] theorem State.p_pwr_restoring (s : State) (pg : Nat) (f : Fld) (v : Nat) : (s.p pg f v).pwr.restoring = s.pwr.restoring := by unfold State.p; simp only [State.setReg_pwr_restoring]
@[simp] theorem State.p_pwr_retValid (s : State) (pg : Nat) (f : Fld) (v : Nat) : (s.p pg f v).pwr.retValid = s.pwr.retValid := by unfold State.p; simp only [State.setReg_pwr_retValid]
@[simp] theorem State.p_pwr_restored (s : State) (pg : Nat) (f : Fld) (v : Nat) : (s.p pg f v).pwr.restored = s.pwr.restored := by unfold State.p; simp only [State.setReg_pwr_restored]
@[simp] theorem State.p_pwr_flash (s : State) (pg : Nat) (f : Fld) (v : Nat) : (s.p pg f v).pwr.flash = s.pwr.flash := by unfold State.p; simp only [State.setReg_pwr_flash]
@[simp] theorem State.p_pwr_cold (s : State) (pg : Nat) (f : Fld) (v : Nat) : (s.p pg f v).pwr.cold = s.pwr.cold := by unfold State.p; simp only [State.setReg_pwr_cold]
@[simp] theorem State.p_pwr_credit (s : State) (pg : Nat) (f : Fld) (v : Nat) : (s.p pg f v).pwr.credit = s.pwr.credit := by unfold State.p; simp only [State.setReg_pwr_credit]
@[simp] theorem State.p_pwr_stopping (s : State) (pg : Nat) (f : Fld) (v : Nat) : (s.p pg f v).pwr.stopping = s.pwr.stopping := by unfold State.p; simp only [State.setReg_pwr_stopping]
@[simp] theorem State.p_pwr_again (s : State) (pg : Nat) (f : Fld) (v : Nat) : (s.p pg f v).pwr.again = s.pwr.again := by unfold State.p; simp only [State.setReg_pwr_again]
@[simp] theorem State.p_pwr_owed (s : State) (pg : Nat) (f : Fld) (v : Nat) : (s.p pg f v).pwr.owed = s.pwr.owed := by unfold State.p; simp only [State.setReg_pwr_owed]
@[simp] theorem State.p_pwr_doorbells (s : State) (pg : Nat) (f : Fld) (v : Nat) : (s.p pg f v).pwr.doorbells = s.pwr.doorbells := by unfold State.p; simp only [State.setReg_pwr_doorbells]
@[simp] theorem State.p_pwr_safeExit (s : State) (pg : Nat) (f : Fld) (v : Nat) : (s.p pg f v).pwr.safeExit = s.pwr.safeExit := by unfold State.p; simp only [State.setReg_pwr_safeExit]

/-! ### p64 -/

@[simp] theorem State.p64_pending (s : State) (pg : Nat) (f : Fld) (v : Nat) : (s.p64 pg f v).pending = s.pending := by unfold State.p64; simp only [State.setReg_pending]
@[simp] theorem State.p64_shadow (s : State) (pg : Nat) (f : Fld) (v : Nat) : (s.p64 pg f v).shadow = s.shadow := by unfold State.p64; simp only [State.setReg_shadow]
@[simp] theorem State.p64_heldRd (s : State) (pg : Nat) (f : Fld) (v : Nat) : (s.p64 pg f v).heldRd = s.heldRd := by unfold State.p64; simp only [State.setReg_heldRd]
@[simp] theorem State.p64_heldWr (s : State) (pg : Nat) (f : Fld) (v : Nat) : (s.p64 pg f v).heldWr = s.heldWr := by unfold State.p64; simp only [State.setReg_heldWr]
@[simp] theorem State.p64_free (s : State) (pg : Nat) (f : Fld) (v : Nat) : (s.p64 pg f v).free = s.free := by unfold State.p64; simp only [State.setReg_free]
@[simp] theorem State.p64_tim (s : State) (pg : Nat) (f : Fld) (v : Nat) : (s.p64 pg f v).tim = s.tim := by unfold State.p64; simp only [State.setReg_tim]
@[simp] theorem State.p64_syn (s : State) (pg : Nat) (f : Fld) (v : Nat) : (s.p64 pg f v).syn = s.syn := by unfold State.p64; simp only [State.setReg_syn]
@[simp] theorem State.p64_sqr (s : State) (pg : Nat) (f : Fld) (v : Nat) : (s.p64 pg f v).sqr = s.sqr := by unfold State.p64; simp only [State.setReg_sqr]
@[simp] theorem State.p64_rdo (s : State) (pg : Nat) (f : Fld) (v : Nat) : (s.p64 pg f v).rdo = s.rdo := by unfold State.p64; simp only [State.setReg_rdo]
@[simp] theorem State.p64_dec (s : State) (pg : Nat) (f : Fld) (v : Nat) : (s.p64 pg f v).dec = s.dec := by unfold State.p64; simp only [State.setReg_dec]
@[simp] theorem State.p64_acq (s : State) (pg : Nat) (f : Fld) (v : Nat) : (s.p64 pg f v).acq = s.acq := by unfold State.p64; simp only [State.setReg_acq]
@[simp] theorem State.p64_bm (s : State) (pg : Nat) (f : Fld) (v : Nat) : (s.p64 pg f v).bm = s.bm := by unfold State.p64; simp only [State.setReg_bm]
@[simp] theorem State.p64_mem (s : State) (pg : Nat) (f : Fld) (v : Nat) : (s.p64 pg f v).mem = s.mem := by unfold State.p64; simp only [State.setReg_mem]
@[simp] theorem State.p64_hif (s : State) (pg : Nat) (f : Fld) (v : Nat) : (s.p64 pg f v).hif = s.hif := by unfold State.p64; simp only [State.setReg_hif]
@[simp] theorem State.p64_fab (s : State) (pg : Nat) (f : Fld) (v : Nat) : (s.p64 pg f v).fab = s.fab := by unfold State.p64; simp only [State.setReg_fab]
@[simp] theorem State.p64_hrt (s : State) (pg : Nat) (f : Fld) (v : Nat) : (s.p64 pg f v).hrt = s.hrt := by unfold State.p64; simp only [State.setReg_hrt]
@[simp] theorem State.p64_int (s : State) (pg : Nat) (f : Fld) (v : Nat) : (s.p64 pg f v).int = s.int := by unfold State.p64; simp only [State.setReg_int]
@[simp] theorem State.p64_evr (s : State) (pg : Nat) (f : Fld) (v : Nat) : (s.p64 pg f v).evr = s.evr := by unfold State.p64; simp only [State.setReg_evr]
@[simp] theorem State.p64_log (s : State) (pg : Nat) (f : Fld) (v : Nat) : (s.p64 pg f v).log = s.log := by unfold State.p64; simp only [State.setReg_log]
@[simp] theorem State.p64_bst (s : State) (pg : Nat) (f : Fld) (v : Nat) : (s.p64 pg f v).bst = s.bst := by unfold State.p64; simp only [State.setReg_bst]
@[simp] theorem State.p64_thm (s : State) (pg : Nat) (f : Fld) (v : Nat) : (s.p64 pg f v).thm = s.thm := by unfold State.p64; simp only [State.setReg_thm]
@[simp] theorem State.p64_sec (s : State) (pg : Nat) (f : Fld) (v : Nat) : (s.p64 pg f v).sec = s.sec := by unfold State.p64; simp only [State.setReg_sec]
@[simp] theorem State.p64_pins (s : State) (pg : Nat) (f : Fld) (v : Nat) : (s.p64 pg f v).pins = s.pins := by unfold State.p64; simp only [State.setReg_pins]
@[simp] theorem State.p64_pwr_input (s : State) (pg : Nat) (f : Fld) (v : Nat) : (s.p64 pg f v).pwr.input = s.pwr.input := by unfold State.p64; simp only [State.setReg_pwr_input]
@[simp] theorem State.p64_pwr_vin (s : State) (pg : Nat) (f : Fld) (v : Nat) : (s.p64 pg f v).pwr.vin = s.pwr.vin := by unfold State.p64; simp only [State.setReg_pwr_vin]
@[simp] theorem State.p64_pwr_inRange (s : State) (pg : Nat) (f : Fld) (v : Nat) : (s.p64 pg f v).pwr.inRange = s.pwr.inRange := by unfold State.p64; simp only [State.setReg_pwr_inRange]
@[simp] theorem State.p64_pwr_outRange (s : State) (pg : Nat) (f : Fld) (v : Nat) : (s.p64 pg f v).pwr.outRange = s.pwr.outRange := by unfold State.p64; simp only [State.setReg_pwr_outRange]
@[simp] theorem State.p64_pwr_takenAt (s : State) (pg : Nat) (f : Fld) (v : Nat) : (s.p64 pg f v).pwr.takenAt = s.pwr.takenAt := by unfold State.p64; simp only [State.setReg_pwr_takenAt]
@[simp] theorem State.p64_pwr_waitIn (s : State) (pg : Nat) (f : Fld) (v : Nat) : (s.p64 pg f v).pwr.waitIn = s.pwr.waitIn := by unfold State.p64; simp only [State.setReg_pwr_waitIn]
@[simp] theorem State.p64_pwr_mode (s : State) (pg : Nat) (f : Fld) (v : Nat) : (s.p64 pg f v).pwr.mode = s.pwr.mode := by unfold State.p64; simp only [State.setReg_pwr_mode]
@[simp] theorem State.p64_pwr_busy (s : State) (pg : Nat) (f : Fld) (v : Nat) : (s.p64 pg f v).pwr.busy = s.pwr.busy := by unfold State.p64; simp only [State.setReg_pwr_busy]
@[simp] theorem State.p64_pwr_last (s : State) (pg : Nat) (f : Fld) (v : Nat) : (s.p64 pg f v).pwr.last = s.pwr.last := by unfold State.p64; simp only [State.setReg_pwr_last]
@[simp] theorem State.p64_pwr_resetN (s : State) (pg : Nat) (f : Fld) (v : Nat) : (s.p64 pg f v).pwr.resetN = s.pwr.resetN := by unfold State.p64; simp only [State.setReg_pwr_resetN]
@[simp] theorem State.p64_pwr_enableIn (s : State) (pg : Nat) (f : Fld) (v : Nat) : (s.p64 pg f v).pwr.enableIn = s.pwr.enableIn := by unfold State.p64; simp only [State.setReg_pwr_enableIn]
@[simp] theorem State.p64_pwr_convOn (s : State) (pg : Nat) (f : Fld) (v : Nat) : (s.p64 pg f v).pwr.convOn = s.pwr.convOn := by unfold State.p64; simp only [State.setReg_pwr_convOn]
@[simp] theorem State.p64_pwr_convDue (s : State) (pg : Nat) (f : Fld) (v : Nat) : (s.p64 pg f v).pwr.convDue = s.pwr.convDue := by unfold State.p64; simp only [State.setReg_pwr_convDue]
@[simp] theorem State.p64_pwr_deep (s : State) (pg : Nat) (f : Fld) (v : Nat) : (s.p64 pg f v).pwr.deep = s.pwr.deep := by unfold State.p64; simp only [State.setReg_pwr_deep]
@[simp] theorem State.p64_pwr_shed (s : State) (pg : Nat) (f : Fld) (v : Nat) : (s.p64 pg f v).pwr.shed = s.pwr.shed := by unfold State.p64; simp only [State.setReg_pwr_shed]
@[simp] theorem State.p64_pwr_episode (s : State) (pg : Nat) (f : Fld) (v : Nat) : (s.p64 pg f v).pwr.episode = s.pwr.episode := by unfold State.p64; simp only [State.setReg_pwr_episode]
@[simp] theorem State.p64_pwr_stepAt (s : State) (pg : Nat) (f : Fld) (v : Nat) : (s.p64 pg f v).pwr.stepAt = s.pwr.stepAt := by unfold State.p64; simp only [State.setReg_pwr_stepAt]
@[simp] theorem State.p64_pwr_okAt (s : State) (pg : Nat) (f : Fld) (v : Nat) : (s.p64 pg f v).pwr.okAt = s.pwr.okAt := by unfold State.p64; simp only [State.setReg_pwr_okAt]
@[simp] theorem State.p64_pwr_restoring (s : State) (pg : Nat) (f : Fld) (v : Nat) : (s.p64 pg f v).pwr.restoring = s.pwr.restoring := by unfold State.p64; simp only [State.setReg_pwr_restoring]
@[simp] theorem State.p64_pwr_retValid (s : State) (pg : Nat) (f : Fld) (v : Nat) : (s.p64 pg f v).pwr.retValid = s.pwr.retValid := by unfold State.p64; simp only [State.setReg_pwr_retValid]
@[simp] theorem State.p64_pwr_restored (s : State) (pg : Nat) (f : Fld) (v : Nat) : (s.p64 pg f v).pwr.restored = s.pwr.restored := by unfold State.p64; simp only [State.setReg_pwr_restored]
@[simp] theorem State.p64_pwr_flash (s : State) (pg : Nat) (f : Fld) (v : Nat) : (s.p64 pg f v).pwr.flash = s.pwr.flash := by unfold State.p64; simp only [State.setReg_pwr_flash]
@[simp] theorem State.p64_pwr_cold (s : State) (pg : Nat) (f : Fld) (v : Nat) : (s.p64 pg f v).pwr.cold = s.pwr.cold := by unfold State.p64; simp only [State.setReg_pwr_cold]
@[simp] theorem State.p64_pwr_credit (s : State) (pg : Nat) (f : Fld) (v : Nat) : (s.p64 pg f v).pwr.credit = s.pwr.credit := by unfold State.p64; simp only [State.setReg_pwr_credit]
@[simp] theorem State.p64_pwr_stopping (s : State) (pg : Nat) (f : Fld) (v : Nat) : (s.p64 pg f v).pwr.stopping = s.pwr.stopping := by unfold State.p64; simp only [State.setReg_pwr_stopping]
@[simp] theorem State.p64_pwr_again (s : State) (pg : Nat) (f : Fld) (v : Nat) : (s.p64 pg f v).pwr.again = s.pwr.again := by unfold State.p64; simp only [State.setReg_pwr_again]
@[simp] theorem State.p64_pwr_owed (s : State) (pg : Nat) (f : Fld) (v : Nat) : (s.p64 pg f v).pwr.owed = s.pwr.owed := by unfold State.p64; simp only [State.setReg_pwr_owed]
@[simp] theorem State.p64_pwr_doorbells (s : State) (pg : Nat) (f : Fld) (v : Nat) : (s.p64 pg f v).pwr.doorbells = s.pwr.doorbells := by unfold State.p64; simp only [State.setReg_pwr_doorbells]
@[simp] theorem State.p64_pwr_safeExit (s : State) (pg : Nat) (f : Fld) (v : Nat) : (s.p64 pg f v).pwr.safeExit = s.pwr.safeExit := by unfold State.p64; simp only [State.setReg_pwr_safeExit]

/-! ### bump -/

@[simp] theorem State.bump_pending (s : State) (pg : Nat) (f : Fld) (n : Nat) : (s.bump pg f n).pending = s.pending := by unfold State.bump; simp only [State.setReg_pending]
@[simp] theorem State.bump_shadow (s : State) (pg : Nat) (f : Fld) (n : Nat) : (s.bump pg f n).shadow = s.shadow := by unfold State.bump; simp only [State.setReg_shadow]
@[simp] theorem State.bump_heldRd (s : State) (pg : Nat) (f : Fld) (n : Nat) : (s.bump pg f n).heldRd = s.heldRd := by unfold State.bump; simp only [State.setReg_heldRd]
@[simp] theorem State.bump_heldWr (s : State) (pg : Nat) (f : Fld) (n : Nat) : (s.bump pg f n).heldWr = s.heldWr := by unfold State.bump; simp only [State.setReg_heldWr]
@[simp] theorem State.bump_free (s : State) (pg : Nat) (f : Fld) (n : Nat) : (s.bump pg f n).free = s.free := by unfold State.bump; simp only [State.setReg_free]
@[simp] theorem State.bump_tim (s : State) (pg : Nat) (f : Fld) (n : Nat) : (s.bump pg f n).tim = s.tim := by unfold State.bump; simp only [State.setReg_tim]
@[simp] theorem State.bump_syn (s : State) (pg : Nat) (f : Fld) (n : Nat) : (s.bump pg f n).syn = s.syn := by unfold State.bump; simp only [State.setReg_syn]
@[simp] theorem State.bump_sqr (s : State) (pg : Nat) (f : Fld) (n : Nat) : (s.bump pg f n).sqr = s.sqr := by unfold State.bump; simp only [State.setReg_sqr]
@[simp] theorem State.bump_rdo (s : State) (pg : Nat) (f : Fld) (n : Nat) : (s.bump pg f n).rdo = s.rdo := by unfold State.bump; simp only [State.setReg_rdo]
@[simp] theorem State.bump_dec (s : State) (pg : Nat) (f : Fld) (n : Nat) : (s.bump pg f n).dec = s.dec := by unfold State.bump; simp only [State.setReg_dec]
@[simp] theorem State.bump_acq (s : State) (pg : Nat) (f : Fld) (n : Nat) : (s.bump pg f n).acq = s.acq := by unfold State.bump; simp only [State.setReg_acq]
@[simp] theorem State.bump_bm (s : State) (pg : Nat) (f : Fld) (n : Nat) : (s.bump pg f n).bm = s.bm := by unfold State.bump; simp only [State.setReg_bm]
@[simp] theorem State.bump_mem (s : State) (pg : Nat) (f : Fld) (n : Nat) : (s.bump pg f n).mem = s.mem := by unfold State.bump; simp only [State.setReg_mem]
@[simp] theorem State.bump_hif (s : State) (pg : Nat) (f : Fld) (n : Nat) : (s.bump pg f n).hif = s.hif := by unfold State.bump; simp only [State.setReg_hif]
@[simp] theorem State.bump_fab (s : State) (pg : Nat) (f : Fld) (n : Nat) : (s.bump pg f n).fab = s.fab := by unfold State.bump; simp only [State.setReg_fab]
@[simp] theorem State.bump_hrt (s : State) (pg : Nat) (f : Fld) (n : Nat) : (s.bump pg f n).hrt = s.hrt := by unfold State.bump; simp only [State.setReg_hrt]
@[simp] theorem State.bump_int (s : State) (pg : Nat) (f : Fld) (n : Nat) : (s.bump pg f n).int = s.int := by unfold State.bump; simp only [State.setReg_int]
@[simp] theorem State.bump_evr (s : State) (pg : Nat) (f : Fld) (n : Nat) : (s.bump pg f n).evr = s.evr := by unfold State.bump; simp only [State.setReg_evr]
@[simp] theorem State.bump_log (s : State) (pg : Nat) (f : Fld) (n : Nat) : (s.bump pg f n).log = s.log := by unfold State.bump; simp only [State.setReg_log]
@[simp] theorem State.bump_bst (s : State) (pg : Nat) (f : Fld) (n : Nat) : (s.bump pg f n).bst = s.bst := by unfold State.bump; simp only [State.setReg_bst]
@[simp] theorem State.bump_thm (s : State) (pg : Nat) (f : Fld) (n : Nat) : (s.bump pg f n).thm = s.thm := by unfold State.bump; simp only [State.setReg_thm]
@[simp] theorem State.bump_sec (s : State) (pg : Nat) (f : Fld) (n : Nat) : (s.bump pg f n).sec = s.sec := by unfold State.bump; simp only [State.setReg_sec]
@[simp] theorem State.bump_pins (s : State) (pg : Nat) (f : Fld) (n : Nat) : (s.bump pg f n).pins = s.pins := by unfold State.bump; simp only [State.setReg_pins]
@[simp] theorem State.bump_pwr_input (s : State) (pg : Nat) (f : Fld) (n : Nat) : (s.bump pg f n).pwr.input = s.pwr.input := by unfold State.bump; simp only [State.setReg_pwr_input]
@[simp] theorem State.bump_pwr_vin (s : State) (pg : Nat) (f : Fld) (n : Nat) : (s.bump pg f n).pwr.vin = s.pwr.vin := by unfold State.bump; simp only [State.setReg_pwr_vin]
@[simp] theorem State.bump_pwr_inRange (s : State) (pg : Nat) (f : Fld) (n : Nat) : (s.bump pg f n).pwr.inRange = s.pwr.inRange := by unfold State.bump; simp only [State.setReg_pwr_inRange]
@[simp] theorem State.bump_pwr_outRange (s : State) (pg : Nat) (f : Fld) (n : Nat) : (s.bump pg f n).pwr.outRange = s.pwr.outRange := by unfold State.bump; simp only [State.setReg_pwr_outRange]
@[simp] theorem State.bump_pwr_takenAt (s : State) (pg : Nat) (f : Fld) (n : Nat) : (s.bump pg f n).pwr.takenAt = s.pwr.takenAt := by unfold State.bump; simp only [State.setReg_pwr_takenAt]
@[simp] theorem State.bump_pwr_waitIn (s : State) (pg : Nat) (f : Fld) (n : Nat) : (s.bump pg f n).pwr.waitIn = s.pwr.waitIn := by unfold State.bump; simp only [State.setReg_pwr_waitIn]
@[simp] theorem State.bump_pwr_mode (s : State) (pg : Nat) (f : Fld) (n : Nat) : (s.bump pg f n).pwr.mode = s.pwr.mode := by unfold State.bump; simp only [State.setReg_pwr_mode]
@[simp] theorem State.bump_pwr_busy (s : State) (pg : Nat) (f : Fld) (n : Nat) : (s.bump pg f n).pwr.busy = s.pwr.busy := by unfold State.bump; simp only [State.setReg_pwr_busy]
@[simp] theorem State.bump_pwr_last (s : State) (pg : Nat) (f : Fld) (n : Nat) : (s.bump pg f n).pwr.last = s.pwr.last := by unfold State.bump; simp only [State.setReg_pwr_last]
@[simp] theorem State.bump_pwr_resetN (s : State) (pg : Nat) (f : Fld) (n : Nat) : (s.bump pg f n).pwr.resetN = s.pwr.resetN := by unfold State.bump; simp only [State.setReg_pwr_resetN]
@[simp] theorem State.bump_pwr_enableIn (s : State) (pg : Nat) (f : Fld) (n : Nat) : (s.bump pg f n).pwr.enableIn = s.pwr.enableIn := by unfold State.bump; simp only [State.setReg_pwr_enableIn]
@[simp] theorem State.bump_pwr_convOn (s : State) (pg : Nat) (f : Fld) (n : Nat) : (s.bump pg f n).pwr.convOn = s.pwr.convOn := by unfold State.bump; simp only [State.setReg_pwr_convOn]
@[simp] theorem State.bump_pwr_convDue (s : State) (pg : Nat) (f : Fld) (n : Nat) : (s.bump pg f n).pwr.convDue = s.pwr.convDue := by unfold State.bump; simp only [State.setReg_pwr_convDue]
@[simp] theorem State.bump_pwr_deep (s : State) (pg : Nat) (f : Fld) (n : Nat) : (s.bump pg f n).pwr.deep = s.pwr.deep := by unfold State.bump; simp only [State.setReg_pwr_deep]
@[simp] theorem State.bump_pwr_shed (s : State) (pg : Nat) (f : Fld) (n : Nat) : (s.bump pg f n).pwr.shed = s.pwr.shed := by unfold State.bump; simp only [State.setReg_pwr_shed]
@[simp] theorem State.bump_pwr_episode (s : State) (pg : Nat) (f : Fld) (n : Nat) : (s.bump pg f n).pwr.episode = s.pwr.episode := by unfold State.bump; simp only [State.setReg_pwr_episode]
@[simp] theorem State.bump_pwr_stepAt (s : State) (pg : Nat) (f : Fld) (n : Nat) : (s.bump pg f n).pwr.stepAt = s.pwr.stepAt := by unfold State.bump; simp only [State.setReg_pwr_stepAt]
@[simp] theorem State.bump_pwr_okAt (s : State) (pg : Nat) (f : Fld) (n : Nat) : (s.bump pg f n).pwr.okAt = s.pwr.okAt := by unfold State.bump; simp only [State.setReg_pwr_okAt]
@[simp] theorem State.bump_pwr_restoring (s : State) (pg : Nat) (f : Fld) (n : Nat) : (s.bump pg f n).pwr.restoring = s.pwr.restoring := by unfold State.bump; simp only [State.setReg_pwr_restoring]
@[simp] theorem State.bump_pwr_retValid (s : State) (pg : Nat) (f : Fld) (n : Nat) : (s.bump pg f n).pwr.retValid = s.pwr.retValid := by unfold State.bump; simp only [State.setReg_pwr_retValid]
@[simp] theorem State.bump_pwr_restored (s : State) (pg : Nat) (f : Fld) (n : Nat) : (s.bump pg f n).pwr.restored = s.pwr.restored := by unfold State.bump; simp only [State.setReg_pwr_restored]
@[simp] theorem State.bump_pwr_flash (s : State) (pg : Nat) (f : Fld) (n : Nat) : (s.bump pg f n).pwr.flash = s.pwr.flash := by unfold State.bump; simp only [State.setReg_pwr_flash]
@[simp] theorem State.bump_pwr_cold (s : State) (pg : Nat) (f : Fld) (n : Nat) : (s.bump pg f n).pwr.cold = s.pwr.cold := by unfold State.bump; simp only [State.setReg_pwr_cold]
@[simp] theorem State.bump_pwr_credit (s : State) (pg : Nat) (f : Fld) (n : Nat) : (s.bump pg f n).pwr.credit = s.pwr.credit := by unfold State.bump; simp only [State.setReg_pwr_credit]
@[simp] theorem State.bump_pwr_stopping (s : State) (pg : Nat) (f : Fld) (n : Nat) : (s.bump pg f n).pwr.stopping = s.pwr.stopping := by unfold State.bump; simp only [State.setReg_pwr_stopping]
@[simp] theorem State.bump_pwr_again (s : State) (pg : Nat) (f : Fld) (n : Nat) : (s.bump pg f n).pwr.again = s.pwr.again := by unfold State.bump; simp only [State.setReg_pwr_again]
@[simp] theorem State.bump_pwr_owed (s : State) (pg : Nat) (f : Fld) (n : Nat) : (s.bump pg f n).pwr.owed = s.pwr.owed := by unfold State.bump; simp only [State.setReg_pwr_owed]
@[simp] theorem State.bump_pwr_doorbells (s : State) (pg : Nat) (f : Fld) (n : Nat) : (s.bump pg f n).pwr.doorbells = s.pwr.doorbells := by unfold State.bump; simp only [State.setReg_pwr_doorbells]
@[simp] theorem State.bump_pwr_safeExit (s : State) (pg : Nat) (f : Fld) (n : Nat) : (s.bump pg f n).pwr.safeExit = s.pwr.safeExit := by unfold State.bump; simp only [State.setReg_pwr_safeExit]

/-! ### bumpW -/

@[simp] theorem State.bumpW_pending (s : State) (pg : Nat) (f : Fld) (n : Nat) : (s.bumpW pg f n).pending = s.pending := by unfold State.bumpW; simp only [State.setReg_pending]
@[simp] theorem State.bumpW_shadow (s : State) (pg : Nat) (f : Fld) (n : Nat) : (s.bumpW pg f n).shadow = s.shadow := by unfold State.bumpW; simp only [State.setReg_shadow]
@[simp] theorem State.bumpW_heldRd (s : State) (pg : Nat) (f : Fld) (n : Nat) : (s.bumpW pg f n).heldRd = s.heldRd := by unfold State.bumpW; simp only [State.setReg_heldRd]
@[simp] theorem State.bumpW_heldWr (s : State) (pg : Nat) (f : Fld) (n : Nat) : (s.bumpW pg f n).heldWr = s.heldWr := by unfold State.bumpW; simp only [State.setReg_heldWr]
@[simp] theorem State.bumpW_free (s : State) (pg : Nat) (f : Fld) (n : Nat) : (s.bumpW pg f n).free = s.free := by unfold State.bumpW; simp only [State.setReg_free]
@[simp] theorem State.bumpW_tim (s : State) (pg : Nat) (f : Fld) (n : Nat) : (s.bumpW pg f n).tim = s.tim := by unfold State.bumpW; simp only [State.setReg_tim]
@[simp] theorem State.bumpW_syn (s : State) (pg : Nat) (f : Fld) (n : Nat) : (s.bumpW pg f n).syn = s.syn := by unfold State.bumpW; simp only [State.setReg_syn]
@[simp] theorem State.bumpW_sqr (s : State) (pg : Nat) (f : Fld) (n : Nat) : (s.bumpW pg f n).sqr = s.sqr := by unfold State.bumpW; simp only [State.setReg_sqr]
@[simp] theorem State.bumpW_rdo (s : State) (pg : Nat) (f : Fld) (n : Nat) : (s.bumpW pg f n).rdo = s.rdo := by unfold State.bumpW; simp only [State.setReg_rdo]
@[simp] theorem State.bumpW_dec (s : State) (pg : Nat) (f : Fld) (n : Nat) : (s.bumpW pg f n).dec = s.dec := by unfold State.bumpW; simp only [State.setReg_dec]
@[simp] theorem State.bumpW_acq (s : State) (pg : Nat) (f : Fld) (n : Nat) : (s.bumpW pg f n).acq = s.acq := by unfold State.bumpW; simp only [State.setReg_acq]
@[simp] theorem State.bumpW_bm (s : State) (pg : Nat) (f : Fld) (n : Nat) : (s.bumpW pg f n).bm = s.bm := by unfold State.bumpW; simp only [State.setReg_bm]
@[simp] theorem State.bumpW_mem (s : State) (pg : Nat) (f : Fld) (n : Nat) : (s.bumpW pg f n).mem = s.mem := by unfold State.bumpW; simp only [State.setReg_mem]
@[simp] theorem State.bumpW_hif (s : State) (pg : Nat) (f : Fld) (n : Nat) : (s.bumpW pg f n).hif = s.hif := by unfold State.bumpW; simp only [State.setReg_hif]
@[simp] theorem State.bumpW_fab (s : State) (pg : Nat) (f : Fld) (n : Nat) : (s.bumpW pg f n).fab = s.fab := by unfold State.bumpW; simp only [State.setReg_fab]
@[simp] theorem State.bumpW_hrt (s : State) (pg : Nat) (f : Fld) (n : Nat) : (s.bumpW pg f n).hrt = s.hrt := by unfold State.bumpW; simp only [State.setReg_hrt]
@[simp] theorem State.bumpW_int (s : State) (pg : Nat) (f : Fld) (n : Nat) : (s.bumpW pg f n).int = s.int := by unfold State.bumpW; simp only [State.setReg_int]
@[simp] theorem State.bumpW_evr (s : State) (pg : Nat) (f : Fld) (n : Nat) : (s.bumpW pg f n).evr = s.evr := by unfold State.bumpW; simp only [State.setReg_evr]
@[simp] theorem State.bumpW_log (s : State) (pg : Nat) (f : Fld) (n : Nat) : (s.bumpW pg f n).log = s.log := by unfold State.bumpW; simp only [State.setReg_log]
@[simp] theorem State.bumpW_bst (s : State) (pg : Nat) (f : Fld) (n : Nat) : (s.bumpW pg f n).bst = s.bst := by unfold State.bumpW; simp only [State.setReg_bst]
@[simp] theorem State.bumpW_thm (s : State) (pg : Nat) (f : Fld) (n : Nat) : (s.bumpW pg f n).thm = s.thm := by unfold State.bumpW; simp only [State.setReg_thm]
@[simp] theorem State.bumpW_sec (s : State) (pg : Nat) (f : Fld) (n : Nat) : (s.bumpW pg f n).sec = s.sec := by unfold State.bumpW; simp only [State.setReg_sec]
@[simp] theorem State.bumpW_pins (s : State) (pg : Nat) (f : Fld) (n : Nat) : (s.bumpW pg f n).pins = s.pins := by unfold State.bumpW; simp only [State.setReg_pins]
@[simp] theorem State.bumpW_pwr_input (s : State) (pg : Nat) (f : Fld) (n : Nat) : (s.bumpW pg f n).pwr.input = s.pwr.input := by unfold State.bumpW; simp only [State.setReg_pwr_input]
@[simp] theorem State.bumpW_pwr_vin (s : State) (pg : Nat) (f : Fld) (n : Nat) : (s.bumpW pg f n).pwr.vin = s.pwr.vin := by unfold State.bumpW; simp only [State.setReg_pwr_vin]
@[simp] theorem State.bumpW_pwr_inRange (s : State) (pg : Nat) (f : Fld) (n : Nat) : (s.bumpW pg f n).pwr.inRange = s.pwr.inRange := by unfold State.bumpW; simp only [State.setReg_pwr_inRange]
@[simp] theorem State.bumpW_pwr_outRange (s : State) (pg : Nat) (f : Fld) (n : Nat) : (s.bumpW pg f n).pwr.outRange = s.pwr.outRange := by unfold State.bumpW; simp only [State.setReg_pwr_outRange]
@[simp] theorem State.bumpW_pwr_takenAt (s : State) (pg : Nat) (f : Fld) (n : Nat) : (s.bumpW pg f n).pwr.takenAt = s.pwr.takenAt := by unfold State.bumpW; simp only [State.setReg_pwr_takenAt]
@[simp] theorem State.bumpW_pwr_waitIn (s : State) (pg : Nat) (f : Fld) (n : Nat) : (s.bumpW pg f n).pwr.waitIn = s.pwr.waitIn := by unfold State.bumpW; simp only [State.setReg_pwr_waitIn]
@[simp] theorem State.bumpW_pwr_mode (s : State) (pg : Nat) (f : Fld) (n : Nat) : (s.bumpW pg f n).pwr.mode = s.pwr.mode := by unfold State.bumpW; simp only [State.setReg_pwr_mode]
@[simp] theorem State.bumpW_pwr_busy (s : State) (pg : Nat) (f : Fld) (n : Nat) : (s.bumpW pg f n).pwr.busy = s.pwr.busy := by unfold State.bumpW; simp only [State.setReg_pwr_busy]
@[simp] theorem State.bumpW_pwr_last (s : State) (pg : Nat) (f : Fld) (n : Nat) : (s.bumpW pg f n).pwr.last = s.pwr.last := by unfold State.bumpW; simp only [State.setReg_pwr_last]
@[simp] theorem State.bumpW_pwr_resetN (s : State) (pg : Nat) (f : Fld) (n : Nat) : (s.bumpW pg f n).pwr.resetN = s.pwr.resetN := by unfold State.bumpW; simp only [State.setReg_pwr_resetN]
@[simp] theorem State.bumpW_pwr_enableIn (s : State) (pg : Nat) (f : Fld) (n : Nat) : (s.bumpW pg f n).pwr.enableIn = s.pwr.enableIn := by unfold State.bumpW; simp only [State.setReg_pwr_enableIn]
@[simp] theorem State.bumpW_pwr_convOn (s : State) (pg : Nat) (f : Fld) (n : Nat) : (s.bumpW pg f n).pwr.convOn = s.pwr.convOn := by unfold State.bumpW; simp only [State.setReg_pwr_convOn]
@[simp] theorem State.bumpW_pwr_convDue (s : State) (pg : Nat) (f : Fld) (n : Nat) : (s.bumpW pg f n).pwr.convDue = s.pwr.convDue := by unfold State.bumpW; simp only [State.setReg_pwr_convDue]
@[simp] theorem State.bumpW_pwr_deep (s : State) (pg : Nat) (f : Fld) (n : Nat) : (s.bumpW pg f n).pwr.deep = s.pwr.deep := by unfold State.bumpW; simp only [State.setReg_pwr_deep]
@[simp] theorem State.bumpW_pwr_shed (s : State) (pg : Nat) (f : Fld) (n : Nat) : (s.bumpW pg f n).pwr.shed = s.pwr.shed := by unfold State.bumpW; simp only [State.setReg_pwr_shed]
@[simp] theorem State.bumpW_pwr_episode (s : State) (pg : Nat) (f : Fld) (n : Nat) : (s.bumpW pg f n).pwr.episode = s.pwr.episode := by unfold State.bumpW; simp only [State.setReg_pwr_episode]
@[simp] theorem State.bumpW_pwr_stepAt (s : State) (pg : Nat) (f : Fld) (n : Nat) : (s.bumpW pg f n).pwr.stepAt = s.pwr.stepAt := by unfold State.bumpW; simp only [State.setReg_pwr_stepAt]
@[simp] theorem State.bumpW_pwr_okAt (s : State) (pg : Nat) (f : Fld) (n : Nat) : (s.bumpW pg f n).pwr.okAt = s.pwr.okAt := by unfold State.bumpW; simp only [State.setReg_pwr_okAt]
@[simp] theorem State.bumpW_pwr_restoring (s : State) (pg : Nat) (f : Fld) (n : Nat) : (s.bumpW pg f n).pwr.restoring = s.pwr.restoring := by unfold State.bumpW; simp only [State.setReg_pwr_restoring]
@[simp] theorem State.bumpW_pwr_retValid (s : State) (pg : Nat) (f : Fld) (n : Nat) : (s.bumpW pg f n).pwr.retValid = s.pwr.retValid := by unfold State.bumpW; simp only [State.setReg_pwr_retValid]
@[simp] theorem State.bumpW_pwr_restored (s : State) (pg : Nat) (f : Fld) (n : Nat) : (s.bumpW pg f n).pwr.restored = s.pwr.restored := by unfold State.bumpW; simp only [State.setReg_pwr_restored]
@[simp] theorem State.bumpW_pwr_flash (s : State) (pg : Nat) (f : Fld) (n : Nat) : (s.bumpW pg f n).pwr.flash = s.pwr.flash := by unfold State.bumpW; simp only [State.setReg_pwr_flash]
@[simp] theorem State.bumpW_pwr_cold (s : State) (pg : Nat) (f : Fld) (n : Nat) : (s.bumpW pg f n).pwr.cold = s.pwr.cold := by unfold State.bumpW; simp only [State.setReg_pwr_cold]
@[simp] theorem State.bumpW_pwr_credit (s : State) (pg : Nat) (f : Fld) (n : Nat) : (s.bumpW pg f n).pwr.credit = s.pwr.credit := by unfold State.bumpW; simp only [State.setReg_pwr_credit]
@[simp] theorem State.bumpW_pwr_stopping (s : State) (pg : Nat) (f : Fld) (n : Nat) : (s.bumpW pg f n).pwr.stopping = s.pwr.stopping := by unfold State.bumpW; simp only [State.setReg_pwr_stopping]
@[simp] theorem State.bumpW_pwr_again (s : State) (pg : Nat) (f : Fld) (n : Nat) : (s.bumpW pg f n).pwr.again = s.pwr.again := by unfold State.bumpW; simp only [State.setReg_pwr_again]
@[simp] theorem State.bumpW_pwr_owed (s : State) (pg : Nat) (f : Fld) (n : Nat) : (s.bumpW pg f n).pwr.owed = s.pwr.owed := by unfold State.bumpW; simp only [State.setReg_pwr_owed]
@[simp] theorem State.bumpW_pwr_doorbells (s : State) (pg : Nat) (f : Fld) (n : Nat) : (s.bumpW pg f n).pwr.doorbells = s.pwr.doorbells := by unfold State.bumpW; simp only [State.setReg_pwr_doorbells]
@[simp] theorem State.bumpW_pwr_safeExit (s : State) (pg : Nat) (f : Fld) (n : Nat) : (s.bumpW pg f n).pwr.safeExit = s.pwr.safeExit := by unfold State.bumpW; simp only [State.setReg_pwr_safeExit]

/-! ### bump64 -/

@[simp] theorem State.bump64_pending (s : State) (pg : Nat) (f : Fld) (n : Nat) : (s.bump64 pg f n).pending = s.pending := by unfold State.bump64; simp only [State.p64_pending]
@[simp] theorem State.bump64_shadow (s : State) (pg : Nat) (f : Fld) (n : Nat) : (s.bump64 pg f n).shadow = s.shadow := by unfold State.bump64; simp only [State.p64_shadow]
@[simp] theorem State.bump64_heldRd (s : State) (pg : Nat) (f : Fld) (n : Nat) : (s.bump64 pg f n).heldRd = s.heldRd := by unfold State.bump64; simp only [State.p64_heldRd]
@[simp] theorem State.bump64_heldWr (s : State) (pg : Nat) (f : Fld) (n : Nat) : (s.bump64 pg f n).heldWr = s.heldWr := by unfold State.bump64; simp only [State.p64_heldWr]
@[simp] theorem State.bump64_free (s : State) (pg : Nat) (f : Fld) (n : Nat) : (s.bump64 pg f n).free = s.free := by unfold State.bump64; simp only [State.p64_free]
@[simp] theorem State.bump64_tim (s : State) (pg : Nat) (f : Fld) (n : Nat) : (s.bump64 pg f n).tim = s.tim := by unfold State.bump64; simp only [State.p64_tim]
@[simp] theorem State.bump64_syn (s : State) (pg : Nat) (f : Fld) (n : Nat) : (s.bump64 pg f n).syn = s.syn := by unfold State.bump64; simp only [State.p64_syn]
@[simp] theorem State.bump64_sqr (s : State) (pg : Nat) (f : Fld) (n : Nat) : (s.bump64 pg f n).sqr = s.sqr := by unfold State.bump64; simp only [State.p64_sqr]
@[simp] theorem State.bump64_rdo (s : State) (pg : Nat) (f : Fld) (n : Nat) : (s.bump64 pg f n).rdo = s.rdo := by unfold State.bump64; simp only [State.p64_rdo]
@[simp] theorem State.bump64_dec (s : State) (pg : Nat) (f : Fld) (n : Nat) : (s.bump64 pg f n).dec = s.dec := by unfold State.bump64; simp only [State.p64_dec]
@[simp] theorem State.bump64_acq (s : State) (pg : Nat) (f : Fld) (n : Nat) : (s.bump64 pg f n).acq = s.acq := by unfold State.bump64; simp only [State.p64_acq]
@[simp] theorem State.bump64_bm (s : State) (pg : Nat) (f : Fld) (n : Nat) : (s.bump64 pg f n).bm = s.bm := by unfold State.bump64; simp only [State.p64_bm]
@[simp] theorem State.bump64_mem (s : State) (pg : Nat) (f : Fld) (n : Nat) : (s.bump64 pg f n).mem = s.mem := by unfold State.bump64; simp only [State.p64_mem]
@[simp] theorem State.bump64_hif (s : State) (pg : Nat) (f : Fld) (n : Nat) : (s.bump64 pg f n).hif = s.hif := by unfold State.bump64; simp only [State.p64_hif]
@[simp] theorem State.bump64_fab (s : State) (pg : Nat) (f : Fld) (n : Nat) : (s.bump64 pg f n).fab = s.fab := by unfold State.bump64; simp only [State.p64_fab]
@[simp] theorem State.bump64_hrt (s : State) (pg : Nat) (f : Fld) (n : Nat) : (s.bump64 pg f n).hrt = s.hrt := by unfold State.bump64; simp only [State.p64_hrt]
@[simp] theorem State.bump64_int (s : State) (pg : Nat) (f : Fld) (n : Nat) : (s.bump64 pg f n).int = s.int := by unfold State.bump64; simp only [State.p64_int]
@[simp] theorem State.bump64_evr (s : State) (pg : Nat) (f : Fld) (n : Nat) : (s.bump64 pg f n).evr = s.evr := by unfold State.bump64; simp only [State.p64_evr]
@[simp] theorem State.bump64_log (s : State) (pg : Nat) (f : Fld) (n : Nat) : (s.bump64 pg f n).log = s.log := by unfold State.bump64; simp only [State.p64_log]
@[simp] theorem State.bump64_bst (s : State) (pg : Nat) (f : Fld) (n : Nat) : (s.bump64 pg f n).bst = s.bst := by unfold State.bump64; simp only [State.p64_bst]
@[simp] theorem State.bump64_thm (s : State) (pg : Nat) (f : Fld) (n : Nat) : (s.bump64 pg f n).thm = s.thm := by unfold State.bump64; simp only [State.p64_thm]
@[simp] theorem State.bump64_sec (s : State) (pg : Nat) (f : Fld) (n : Nat) : (s.bump64 pg f n).sec = s.sec := by unfold State.bump64; simp only [State.p64_sec]
@[simp] theorem State.bump64_pins (s : State) (pg : Nat) (f : Fld) (n : Nat) : (s.bump64 pg f n).pins = s.pins := by unfold State.bump64; simp only [State.p64_pins]
@[simp] theorem State.bump64_pwr_input (s : State) (pg : Nat) (f : Fld) (n : Nat) : (s.bump64 pg f n).pwr.input = s.pwr.input := by unfold State.bump64; simp only [State.p64_pwr_input]
@[simp] theorem State.bump64_pwr_vin (s : State) (pg : Nat) (f : Fld) (n : Nat) : (s.bump64 pg f n).pwr.vin = s.pwr.vin := by unfold State.bump64; simp only [State.p64_pwr_vin]
@[simp] theorem State.bump64_pwr_inRange (s : State) (pg : Nat) (f : Fld) (n : Nat) : (s.bump64 pg f n).pwr.inRange = s.pwr.inRange := by unfold State.bump64; simp only [State.p64_pwr_inRange]
@[simp] theorem State.bump64_pwr_outRange (s : State) (pg : Nat) (f : Fld) (n : Nat) : (s.bump64 pg f n).pwr.outRange = s.pwr.outRange := by unfold State.bump64; simp only [State.p64_pwr_outRange]
@[simp] theorem State.bump64_pwr_takenAt (s : State) (pg : Nat) (f : Fld) (n : Nat) : (s.bump64 pg f n).pwr.takenAt = s.pwr.takenAt := by unfold State.bump64; simp only [State.p64_pwr_takenAt]
@[simp] theorem State.bump64_pwr_waitIn (s : State) (pg : Nat) (f : Fld) (n : Nat) : (s.bump64 pg f n).pwr.waitIn = s.pwr.waitIn := by unfold State.bump64; simp only [State.p64_pwr_waitIn]
@[simp] theorem State.bump64_pwr_mode (s : State) (pg : Nat) (f : Fld) (n : Nat) : (s.bump64 pg f n).pwr.mode = s.pwr.mode := by unfold State.bump64; simp only [State.p64_pwr_mode]
@[simp] theorem State.bump64_pwr_busy (s : State) (pg : Nat) (f : Fld) (n : Nat) : (s.bump64 pg f n).pwr.busy = s.pwr.busy := by unfold State.bump64; simp only [State.p64_pwr_busy]
@[simp] theorem State.bump64_pwr_last (s : State) (pg : Nat) (f : Fld) (n : Nat) : (s.bump64 pg f n).pwr.last = s.pwr.last := by unfold State.bump64; simp only [State.p64_pwr_last]
@[simp] theorem State.bump64_pwr_resetN (s : State) (pg : Nat) (f : Fld) (n : Nat) : (s.bump64 pg f n).pwr.resetN = s.pwr.resetN := by unfold State.bump64; simp only [State.p64_pwr_resetN]
@[simp] theorem State.bump64_pwr_enableIn (s : State) (pg : Nat) (f : Fld) (n : Nat) : (s.bump64 pg f n).pwr.enableIn = s.pwr.enableIn := by unfold State.bump64; simp only [State.p64_pwr_enableIn]
@[simp] theorem State.bump64_pwr_convOn (s : State) (pg : Nat) (f : Fld) (n : Nat) : (s.bump64 pg f n).pwr.convOn = s.pwr.convOn := by unfold State.bump64; simp only [State.p64_pwr_convOn]
@[simp] theorem State.bump64_pwr_convDue (s : State) (pg : Nat) (f : Fld) (n : Nat) : (s.bump64 pg f n).pwr.convDue = s.pwr.convDue := by unfold State.bump64; simp only [State.p64_pwr_convDue]
@[simp] theorem State.bump64_pwr_deep (s : State) (pg : Nat) (f : Fld) (n : Nat) : (s.bump64 pg f n).pwr.deep = s.pwr.deep := by unfold State.bump64; simp only [State.p64_pwr_deep]
@[simp] theorem State.bump64_pwr_shed (s : State) (pg : Nat) (f : Fld) (n : Nat) : (s.bump64 pg f n).pwr.shed = s.pwr.shed := by unfold State.bump64; simp only [State.p64_pwr_shed]
@[simp] theorem State.bump64_pwr_episode (s : State) (pg : Nat) (f : Fld) (n : Nat) : (s.bump64 pg f n).pwr.episode = s.pwr.episode := by unfold State.bump64; simp only [State.p64_pwr_episode]
@[simp] theorem State.bump64_pwr_stepAt (s : State) (pg : Nat) (f : Fld) (n : Nat) : (s.bump64 pg f n).pwr.stepAt = s.pwr.stepAt := by unfold State.bump64; simp only [State.p64_pwr_stepAt]
@[simp] theorem State.bump64_pwr_okAt (s : State) (pg : Nat) (f : Fld) (n : Nat) : (s.bump64 pg f n).pwr.okAt = s.pwr.okAt := by unfold State.bump64; simp only [State.p64_pwr_okAt]
@[simp] theorem State.bump64_pwr_restoring (s : State) (pg : Nat) (f : Fld) (n : Nat) : (s.bump64 pg f n).pwr.restoring = s.pwr.restoring := by unfold State.bump64; simp only [State.p64_pwr_restoring]
@[simp] theorem State.bump64_pwr_retValid (s : State) (pg : Nat) (f : Fld) (n : Nat) : (s.bump64 pg f n).pwr.retValid = s.pwr.retValid := by unfold State.bump64; simp only [State.p64_pwr_retValid]
@[simp] theorem State.bump64_pwr_restored (s : State) (pg : Nat) (f : Fld) (n : Nat) : (s.bump64 pg f n).pwr.restored = s.pwr.restored := by unfold State.bump64; simp only [State.p64_pwr_restored]
@[simp] theorem State.bump64_pwr_flash (s : State) (pg : Nat) (f : Fld) (n : Nat) : (s.bump64 pg f n).pwr.flash = s.pwr.flash := by unfold State.bump64; simp only [State.p64_pwr_flash]
@[simp] theorem State.bump64_pwr_cold (s : State) (pg : Nat) (f : Fld) (n : Nat) : (s.bump64 pg f n).pwr.cold = s.pwr.cold := by unfold State.bump64; simp only [State.p64_pwr_cold]
@[simp] theorem State.bump64_pwr_credit (s : State) (pg : Nat) (f : Fld) (n : Nat) : (s.bump64 pg f n).pwr.credit = s.pwr.credit := by unfold State.bump64; simp only [State.p64_pwr_credit]
@[simp] theorem State.bump64_pwr_stopping (s : State) (pg : Nat) (f : Fld) (n : Nat) : (s.bump64 pg f n).pwr.stopping = s.pwr.stopping := by unfold State.bump64; simp only [State.p64_pwr_stopping]
@[simp] theorem State.bump64_pwr_again (s : State) (pg : Nat) (f : Fld) (n : Nat) : (s.bump64 pg f n).pwr.again = s.pwr.again := by unfold State.bump64; simp only [State.p64_pwr_again]
@[simp] theorem State.bump64_pwr_owed (s : State) (pg : Nat) (f : Fld) (n : Nat) : (s.bump64 pg f n).pwr.owed = s.pwr.owed := by unfold State.bump64; simp only [State.p64_pwr_owed]
@[simp] theorem State.bump64_pwr_doorbells (s : State) (pg : Nat) (f : Fld) (n : Nat) : (s.bump64 pg f n).pwr.doorbells = s.pwr.doorbells := by unfold State.bump64; simp only [State.p64_pwr_doorbells]
@[simp] theorem State.bump64_pwr_safeExit (s : State) (pg : Nat) (f : Fld) (n : Nat) : (s.bump64 pg f n).pwr.safeExit = s.pwr.safeExit := by unfold State.bump64; simp only [State.p64_pwr_safeExit]

/-! ### flag -/

@[simp] theorem State.flag_pending (s : State) (pg : Nat) (f : Fld) : (s.flag pg f).pending = s.pending := by unfold State.flag; simp only [State.p_pending]
@[simp] theorem State.flag_shadow (s : State) (pg : Nat) (f : Fld) : (s.flag pg f).shadow = s.shadow := by unfold State.flag; simp only [State.p_shadow]
@[simp] theorem State.flag_heldRd (s : State) (pg : Nat) (f : Fld) : (s.flag pg f).heldRd = s.heldRd := by unfold State.flag; simp only [State.p_heldRd]
@[simp] theorem State.flag_heldWr (s : State) (pg : Nat) (f : Fld) : (s.flag pg f).heldWr = s.heldWr := by unfold State.flag; simp only [State.p_heldWr]
@[simp] theorem State.flag_free (s : State) (pg : Nat) (f : Fld) : (s.flag pg f).free = s.free := by unfold State.flag; simp only [State.p_free]
@[simp] theorem State.flag_tim (s : State) (pg : Nat) (f : Fld) : (s.flag pg f).tim = s.tim := by unfold State.flag; simp only [State.p_tim]
@[simp] theorem State.flag_syn (s : State) (pg : Nat) (f : Fld) : (s.flag pg f).syn = s.syn := by unfold State.flag; simp only [State.p_syn]
@[simp] theorem State.flag_sqr (s : State) (pg : Nat) (f : Fld) : (s.flag pg f).sqr = s.sqr := by unfold State.flag; simp only [State.p_sqr]
@[simp] theorem State.flag_rdo (s : State) (pg : Nat) (f : Fld) : (s.flag pg f).rdo = s.rdo := by unfold State.flag; simp only [State.p_rdo]
@[simp] theorem State.flag_dec (s : State) (pg : Nat) (f : Fld) : (s.flag pg f).dec = s.dec := by unfold State.flag; simp only [State.p_dec]
@[simp] theorem State.flag_acq (s : State) (pg : Nat) (f : Fld) : (s.flag pg f).acq = s.acq := by unfold State.flag; simp only [State.p_acq]
@[simp] theorem State.flag_bm (s : State) (pg : Nat) (f : Fld) : (s.flag pg f).bm = s.bm := by unfold State.flag; simp only [State.p_bm]
@[simp] theorem State.flag_mem (s : State) (pg : Nat) (f : Fld) : (s.flag pg f).mem = s.mem := by unfold State.flag; simp only [State.p_mem]
@[simp] theorem State.flag_hif (s : State) (pg : Nat) (f : Fld) : (s.flag pg f).hif = s.hif := by unfold State.flag; simp only [State.p_hif]
@[simp] theorem State.flag_fab (s : State) (pg : Nat) (f : Fld) : (s.flag pg f).fab = s.fab := by unfold State.flag; simp only [State.p_fab]
@[simp] theorem State.flag_hrt (s : State) (pg : Nat) (f : Fld) : (s.flag pg f).hrt = s.hrt := by unfold State.flag; simp only [State.p_hrt]
@[simp] theorem State.flag_int (s : State) (pg : Nat) (f : Fld) : (s.flag pg f).int = s.int := by unfold State.flag; simp only [State.p_int]
@[simp] theorem State.flag_evr (s : State) (pg : Nat) (f : Fld) : (s.flag pg f).evr = s.evr := by unfold State.flag; simp only [State.p_evr]
@[simp] theorem State.flag_log (s : State) (pg : Nat) (f : Fld) : (s.flag pg f).log = s.log := by unfold State.flag; simp only [State.p_log]
@[simp] theorem State.flag_bst (s : State) (pg : Nat) (f : Fld) : (s.flag pg f).bst = s.bst := by unfold State.flag; simp only [State.p_bst]
@[simp] theorem State.flag_thm (s : State) (pg : Nat) (f : Fld) : (s.flag pg f).thm = s.thm := by unfold State.flag; simp only [State.p_thm]
@[simp] theorem State.flag_sec (s : State) (pg : Nat) (f : Fld) : (s.flag pg f).sec = s.sec := by unfold State.flag; simp only [State.p_sec]
@[simp] theorem State.flag_pins (s : State) (pg : Nat) (f : Fld) : (s.flag pg f).pins = s.pins := by unfold State.flag; simp only [State.p_pins]
@[simp] theorem State.flag_pwr_input (s : State) (pg : Nat) (f : Fld) : (s.flag pg f).pwr.input = s.pwr.input := by unfold State.flag; simp only [State.p_pwr_input]
@[simp] theorem State.flag_pwr_vin (s : State) (pg : Nat) (f : Fld) : (s.flag pg f).pwr.vin = s.pwr.vin := by unfold State.flag; simp only [State.p_pwr_vin]
@[simp] theorem State.flag_pwr_inRange (s : State) (pg : Nat) (f : Fld) : (s.flag pg f).pwr.inRange = s.pwr.inRange := by unfold State.flag; simp only [State.p_pwr_inRange]
@[simp] theorem State.flag_pwr_outRange (s : State) (pg : Nat) (f : Fld) : (s.flag pg f).pwr.outRange = s.pwr.outRange := by unfold State.flag; simp only [State.p_pwr_outRange]
@[simp] theorem State.flag_pwr_takenAt (s : State) (pg : Nat) (f : Fld) : (s.flag pg f).pwr.takenAt = s.pwr.takenAt := by unfold State.flag; simp only [State.p_pwr_takenAt]
@[simp] theorem State.flag_pwr_waitIn (s : State) (pg : Nat) (f : Fld) : (s.flag pg f).pwr.waitIn = s.pwr.waitIn := by unfold State.flag; simp only [State.p_pwr_waitIn]
@[simp] theorem State.flag_pwr_mode (s : State) (pg : Nat) (f : Fld) : (s.flag pg f).pwr.mode = s.pwr.mode := by unfold State.flag; simp only [State.p_pwr_mode]
@[simp] theorem State.flag_pwr_busy (s : State) (pg : Nat) (f : Fld) : (s.flag pg f).pwr.busy = s.pwr.busy := by unfold State.flag; simp only [State.p_pwr_busy]
@[simp] theorem State.flag_pwr_last (s : State) (pg : Nat) (f : Fld) : (s.flag pg f).pwr.last = s.pwr.last := by unfold State.flag; simp only [State.p_pwr_last]
@[simp] theorem State.flag_pwr_resetN (s : State) (pg : Nat) (f : Fld) : (s.flag pg f).pwr.resetN = s.pwr.resetN := by unfold State.flag; simp only [State.p_pwr_resetN]
@[simp] theorem State.flag_pwr_enableIn (s : State) (pg : Nat) (f : Fld) : (s.flag pg f).pwr.enableIn = s.pwr.enableIn := by unfold State.flag; simp only [State.p_pwr_enableIn]
@[simp] theorem State.flag_pwr_convOn (s : State) (pg : Nat) (f : Fld) : (s.flag pg f).pwr.convOn = s.pwr.convOn := by unfold State.flag; simp only [State.p_pwr_convOn]
@[simp] theorem State.flag_pwr_convDue (s : State) (pg : Nat) (f : Fld) : (s.flag pg f).pwr.convDue = s.pwr.convDue := by unfold State.flag; simp only [State.p_pwr_convDue]
@[simp] theorem State.flag_pwr_deep (s : State) (pg : Nat) (f : Fld) : (s.flag pg f).pwr.deep = s.pwr.deep := by unfold State.flag; simp only [State.p_pwr_deep]
@[simp] theorem State.flag_pwr_shed (s : State) (pg : Nat) (f : Fld) : (s.flag pg f).pwr.shed = s.pwr.shed := by unfold State.flag; simp only [State.p_pwr_shed]
@[simp] theorem State.flag_pwr_episode (s : State) (pg : Nat) (f : Fld) : (s.flag pg f).pwr.episode = s.pwr.episode := by unfold State.flag; simp only [State.p_pwr_episode]
@[simp] theorem State.flag_pwr_stepAt (s : State) (pg : Nat) (f : Fld) : (s.flag pg f).pwr.stepAt = s.pwr.stepAt := by unfold State.flag; simp only [State.p_pwr_stepAt]
@[simp] theorem State.flag_pwr_okAt (s : State) (pg : Nat) (f : Fld) : (s.flag pg f).pwr.okAt = s.pwr.okAt := by unfold State.flag; simp only [State.p_pwr_okAt]
@[simp] theorem State.flag_pwr_restoring (s : State) (pg : Nat) (f : Fld) : (s.flag pg f).pwr.restoring = s.pwr.restoring := by unfold State.flag; simp only [State.p_pwr_restoring]
@[simp] theorem State.flag_pwr_retValid (s : State) (pg : Nat) (f : Fld) : (s.flag pg f).pwr.retValid = s.pwr.retValid := by unfold State.flag; simp only [State.p_pwr_retValid]
@[simp] theorem State.flag_pwr_restored (s : State) (pg : Nat) (f : Fld) : (s.flag pg f).pwr.restored = s.pwr.restored := by unfold State.flag; simp only [State.p_pwr_restored]
@[simp] theorem State.flag_pwr_flash (s : State) (pg : Nat) (f : Fld) : (s.flag pg f).pwr.flash = s.pwr.flash := by unfold State.flag; simp only [State.p_pwr_flash]
@[simp] theorem State.flag_pwr_cold (s : State) (pg : Nat) (f : Fld) : (s.flag pg f).pwr.cold = s.pwr.cold := by unfold State.flag; simp only [State.p_pwr_cold]
@[simp] theorem State.flag_pwr_credit (s : State) (pg : Nat) (f : Fld) : (s.flag pg f).pwr.credit = s.pwr.credit := by unfold State.flag; simp only [State.p_pwr_credit]
@[simp] theorem State.flag_pwr_stopping (s : State) (pg : Nat) (f : Fld) : (s.flag pg f).pwr.stopping = s.pwr.stopping := by unfold State.flag; simp only [State.p_pwr_stopping]
@[simp] theorem State.flag_pwr_again (s : State) (pg : Nat) (f : Fld) : (s.flag pg f).pwr.again = s.pwr.again := by unfold State.flag; simp only [State.p_pwr_again]
@[simp] theorem State.flag_pwr_owed (s : State) (pg : Nat) (f : Fld) : (s.flag pg f).pwr.owed = s.pwr.owed := by unfold State.flag; simp only [State.p_pwr_owed]
@[simp] theorem State.flag_pwr_doorbells (s : State) (pg : Nat) (f : Fld) : (s.flag pg f).pwr.doorbells = s.pwr.doorbells := by unfold State.flag; simp only [State.p_pwr_doorbells]
@[simp] theorem State.flag_pwr_safeExit (s : State) (pg : Nat) (f : Fld) : (s.flag pg f).pwr.safeExit = s.pwr.safeExit := by unfold State.flag; simp only [State.p_pwr_safeExit]

/-! ### unflag -/

@[simp] theorem State.unflag_pending (s : State) (pg : Nat) (f : Fld) : (s.unflag pg f).pending = s.pending := by unfold State.unflag; simp only [State.p_pending]
@[simp] theorem State.unflag_shadow (s : State) (pg : Nat) (f : Fld) : (s.unflag pg f).shadow = s.shadow := by unfold State.unflag; simp only [State.p_shadow]
@[simp] theorem State.unflag_heldRd (s : State) (pg : Nat) (f : Fld) : (s.unflag pg f).heldRd = s.heldRd := by unfold State.unflag; simp only [State.p_heldRd]
@[simp] theorem State.unflag_heldWr (s : State) (pg : Nat) (f : Fld) : (s.unflag pg f).heldWr = s.heldWr := by unfold State.unflag; simp only [State.p_heldWr]
@[simp] theorem State.unflag_free (s : State) (pg : Nat) (f : Fld) : (s.unflag pg f).free = s.free := by unfold State.unflag; simp only [State.p_free]
@[simp] theorem State.unflag_tim (s : State) (pg : Nat) (f : Fld) : (s.unflag pg f).tim = s.tim := by unfold State.unflag; simp only [State.p_tim]
@[simp] theorem State.unflag_syn (s : State) (pg : Nat) (f : Fld) : (s.unflag pg f).syn = s.syn := by unfold State.unflag; simp only [State.p_syn]
@[simp] theorem State.unflag_sqr (s : State) (pg : Nat) (f : Fld) : (s.unflag pg f).sqr = s.sqr := by unfold State.unflag; simp only [State.p_sqr]
@[simp] theorem State.unflag_rdo (s : State) (pg : Nat) (f : Fld) : (s.unflag pg f).rdo = s.rdo := by unfold State.unflag; simp only [State.p_rdo]
@[simp] theorem State.unflag_dec (s : State) (pg : Nat) (f : Fld) : (s.unflag pg f).dec = s.dec := by unfold State.unflag; simp only [State.p_dec]
@[simp] theorem State.unflag_acq (s : State) (pg : Nat) (f : Fld) : (s.unflag pg f).acq = s.acq := by unfold State.unflag; simp only [State.p_acq]
@[simp] theorem State.unflag_bm (s : State) (pg : Nat) (f : Fld) : (s.unflag pg f).bm = s.bm := by unfold State.unflag; simp only [State.p_bm]
@[simp] theorem State.unflag_mem (s : State) (pg : Nat) (f : Fld) : (s.unflag pg f).mem = s.mem := by unfold State.unflag; simp only [State.p_mem]
@[simp] theorem State.unflag_hif (s : State) (pg : Nat) (f : Fld) : (s.unflag pg f).hif = s.hif := by unfold State.unflag; simp only [State.p_hif]
@[simp] theorem State.unflag_fab (s : State) (pg : Nat) (f : Fld) : (s.unflag pg f).fab = s.fab := by unfold State.unflag; simp only [State.p_fab]
@[simp] theorem State.unflag_hrt (s : State) (pg : Nat) (f : Fld) : (s.unflag pg f).hrt = s.hrt := by unfold State.unflag; simp only [State.p_hrt]
@[simp] theorem State.unflag_int (s : State) (pg : Nat) (f : Fld) : (s.unflag pg f).int = s.int := by unfold State.unflag; simp only [State.p_int]
@[simp] theorem State.unflag_evr (s : State) (pg : Nat) (f : Fld) : (s.unflag pg f).evr = s.evr := by unfold State.unflag; simp only [State.p_evr]
@[simp] theorem State.unflag_log (s : State) (pg : Nat) (f : Fld) : (s.unflag pg f).log = s.log := by unfold State.unflag; simp only [State.p_log]
@[simp] theorem State.unflag_bst (s : State) (pg : Nat) (f : Fld) : (s.unflag pg f).bst = s.bst := by unfold State.unflag; simp only [State.p_bst]
@[simp] theorem State.unflag_thm (s : State) (pg : Nat) (f : Fld) : (s.unflag pg f).thm = s.thm := by unfold State.unflag; simp only [State.p_thm]
@[simp] theorem State.unflag_sec (s : State) (pg : Nat) (f : Fld) : (s.unflag pg f).sec = s.sec := by unfold State.unflag; simp only [State.p_sec]
@[simp] theorem State.unflag_pins (s : State) (pg : Nat) (f : Fld) : (s.unflag pg f).pins = s.pins := by unfold State.unflag; simp only [State.p_pins]
@[simp] theorem State.unflag_pwr_input (s : State) (pg : Nat) (f : Fld) : (s.unflag pg f).pwr.input = s.pwr.input := by unfold State.unflag; simp only [State.p_pwr_input]
@[simp] theorem State.unflag_pwr_vin (s : State) (pg : Nat) (f : Fld) : (s.unflag pg f).pwr.vin = s.pwr.vin := by unfold State.unflag; simp only [State.p_pwr_vin]
@[simp] theorem State.unflag_pwr_inRange (s : State) (pg : Nat) (f : Fld) : (s.unflag pg f).pwr.inRange = s.pwr.inRange := by unfold State.unflag; simp only [State.p_pwr_inRange]
@[simp] theorem State.unflag_pwr_outRange (s : State) (pg : Nat) (f : Fld) : (s.unflag pg f).pwr.outRange = s.pwr.outRange := by unfold State.unflag; simp only [State.p_pwr_outRange]
@[simp] theorem State.unflag_pwr_takenAt (s : State) (pg : Nat) (f : Fld) : (s.unflag pg f).pwr.takenAt = s.pwr.takenAt := by unfold State.unflag; simp only [State.p_pwr_takenAt]
@[simp] theorem State.unflag_pwr_waitIn (s : State) (pg : Nat) (f : Fld) : (s.unflag pg f).pwr.waitIn = s.pwr.waitIn := by unfold State.unflag; simp only [State.p_pwr_waitIn]
@[simp] theorem State.unflag_pwr_mode (s : State) (pg : Nat) (f : Fld) : (s.unflag pg f).pwr.mode = s.pwr.mode := by unfold State.unflag; simp only [State.p_pwr_mode]
@[simp] theorem State.unflag_pwr_busy (s : State) (pg : Nat) (f : Fld) : (s.unflag pg f).pwr.busy = s.pwr.busy := by unfold State.unflag; simp only [State.p_pwr_busy]
@[simp] theorem State.unflag_pwr_last (s : State) (pg : Nat) (f : Fld) : (s.unflag pg f).pwr.last = s.pwr.last := by unfold State.unflag; simp only [State.p_pwr_last]
@[simp] theorem State.unflag_pwr_resetN (s : State) (pg : Nat) (f : Fld) : (s.unflag pg f).pwr.resetN = s.pwr.resetN := by unfold State.unflag; simp only [State.p_pwr_resetN]
@[simp] theorem State.unflag_pwr_enableIn (s : State) (pg : Nat) (f : Fld) : (s.unflag pg f).pwr.enableIn = s.pwr.enableIn := by unfold State.unflag; simp only [State.p_pwr_enableIn]
@[simp] theorem State.unflag_pwr_convOn (s : State) (pg : Nat) (f : Fld) : (s.unflag pg f).pwr.convOn = s.pwr.convOn := by unfold State.unflag; simp only [State.p_pwr_convOn]
@[simp] theorem State.unflag_pwr_convDue (s : State) (pg : Nat) (f : Fld) : (s.unflag pg f).pwr.convDue = s.pwr.convDue := by unfold State.unflag; simp only [State.p_pwr_convDue]
@[simp] theorem State.unflag_pwr_deep (s : State) (pg : Nat) (f : Fld) : (s.unflag pg f).pwr.deep = s.pwr.deep := by unfold State.unflag; simp only [State.p_pwr_deep]
@[simp] theorem State.unflag_pwr_shed (s : State) (pg : Nat) (f : Fld) : (s.unflag pg f).pwr.shed = s.pwr.shed := by unfold State.unflag; simp only [State.p_pwr_shed]
@[simp] theorem State.unflag_pwr_episode (s : State) (pg : Nat) (f : Fld) : (s.unflag pg f).pwr.episode = s.pwr.episode := by unfold State.unflag; simp only [State.p_pwr_episode]
@[simp] theorem State.unflag_pwr_stepAt (s : State) (pg : Nat) (f : Fld) : (s.unflag pg f).pwr.stepAt = s.pwr.stepAt := by unfold State.unflag; simp only [State.p_pwr_stepAt]
@[simp] theorem State.unflag_pwr_okAt (s : State) (pg : Nat) (f : Fld) : (s.unflag pg f).pwr.okAt = s.pwr.okAt := by unfold State.unflag; simp only [State.p_pwr_okAt]
@[simp] theorem State.unflag_pwr_restoring (s : State) (pg : Nat) (f : Fld) : (s.unflag pg f).pwr.restoring = s.pwr.restoring := by unfold State.unflag; simp only [State.p_pwr_restoring]
@[simp] theorem State.unflag_pwr_retValid (s : State) (pg : Nat) (f : Fld) : (s.unflag pg f).pwr.retValid = s.pwr.retValid := by unfold State.unflag; simp only [State.p_pwr_retValid]
@[simp] theorem State.unflag_pwr_restored (s : State) (pg : Nat) (f : Fld) : (s.unflag pg f).pwr.restored = s.pwr.restored := by unfold State.unflag; simp only [State.p_pwr_restored]
@[simp] theorem State.unflag_pwr_flash (s : State) (pg : Nat) (f : Fld) : (s.unflag pg f).pwr.flash = s.pwr.flash := by unfold State.unflag; simp only [State.p_pwr_flash]
@[simp] theorem State.unflag_pwr_cold (s : State) (pg : Nat) (f : Fld) : (s.unflag pg f).pwr.cold = s.pwr.cold := by unfold State.unflag; simp only [State.p_pwr_cold]
@[simp] theorem State.unflag_pwr_credit (s : State) (pg : Nat) (f : Fld) : (s.unflag pg f).pwr.credit = s.pwr.credit := by unfold State.unflag; simp only [State.p_pwr_credit]
@[simp] theorem State.unflag_pwr_stopping (s : State) (pg : Nat) (f : Fld) : (s.unflag pg f).pwr.stopping = s.pwr.stopping := by unfold State.unflag; simp only [State.p_pwr_stopping]
@[simp] theorem State.unflag_pwr_again (s : State) (pg : Nat) (f : Fld) : (s.unflag pg f).pwr.again = s.pwr.again := by unfold State.unflag; simp only [State.p_pwr_again]
@[simp] theorem State.unflag_pwr_owed (s : State) (pg : Nat) (f : Fld) : (s.unflag pg f).pwr.owed = s.pwr.owed := by unfold State.unflag; simp only [State.p_pwr_owed]
@[simp] theorem State.unflag_pwr_doorbells (s : State) (pg : Nat) (f : Fld) : (s.unflag pg f).pwr.doorbells = s.pwr.doorbells := by unfold State.unflag; simp only [State.p_pwr_doorbells]
@[simp] theorem State.unflag_pwr_safeExit (s : State) (pg : Nat) (f : Fld) : (s.unflag pg f).pwr.safeExit = s.pwr.safeExit := by unfold State.unflag; simp only [State.p_pwr_safeExit]

/-! ### setSq -/

@[simp] theorem State.setSq_pending (s : State) (k : Nat) (x : Seq) : (s.setSq k x).pending = s.pending := rfl
@[simp] theorem State.setSq_regs (s : State) (k : Nat) (x : Seq) : (s.setSq k x).regs = s.regs := rfl
@[simp] theorem State.setSq_shadow (s : State) (k : Nat) (x : Seq) : (s.setSq k x).shadow = s.shadow := rfl
@[simp] theorem State.setSq_heldRd (s : State) (k : Nat) (x : Seq) : (s.setSq k x).heldRd = s.heldRd := rfl
@[simp] theorem State.setSq_heldWr (s : State) (k : Nat) (x : Seq) : (s.setSq k x).heldWr = s.heldWr := rfl
@[simp] theorem State.setSq_free (s : State) (k : Nat) (x : Seq) : (s.setSq k x).free = s.free := rfl
@[simp] theorem State.setSq_tim (s : State) (k : Nat) (x : Seq) : (s.setSq k x).tim = s.tim := rfl
@[simp] theorem State.setSq_syn (s : State) (k : Nat) (x : Seq) : (s.setSq k x).syn = s.syn := rfl
@[simp] theorem State.setSq_rdo (s : State) (k : Nat) (x : Seq) : (s.setSq k x).rdo = s.rdo := rfl
@[simp] theorem State.setSq_dec (s : State) (k : Nat) (x : Seq) : (s.setSq k x).dec = s.dec := rfl
@[simp] theorem State.setSq_acq (s : State) (k : Nat) (x : Seq) : (s.setSq k x).acq = s.acq := rfl
@[simp] theorem State.setSq_bm (s : State) (k : Nat) (x : Seq) : (s.setSq k x).bm = s.bm := rfl
@[simp] theorem State.setSq_mem (s : State) (k : Nat) (x : Seq) : (s.setSq k x).mem = s.mem := rfl
@[simp] theorem State.setSq_hif (s : State) (k : Nat) (x : Seq) : (s.setSq k x).hif = s.hif := rfl
@[simp] theorem State.setSq_fab (s : State) (k : Nat) (x : Seq) : (s.setSq k x).fab = s.fab := rfl
@[simp] theorem State.setSq_hrt (s : State) (k : Nat) (x : Seq) : (s.setSq k x).hrt = s.hrt := rfl
@[simp] theorem State.setSq_int (s : State) (k : Nat) (x : Seq) : (s.setSq k x).int = s.int := rfl
@[simp] theorem State.setSq_evr (s : State) (k : Nat) (x : Seq) : (s.setSq k x).evr = s.evr := rfl
@[simp] theorem State.setSq_log (s : State) (k : Nat) (x : Seq) : (s.setSq k x).log = s.log := rfl
@[simp] theorem State.setSq_bst (s : State) (k : Nat) (x : Seq) : (s.setSq k x).bst = s.bst := rfl
@[simp] theorem State.setSq_pwr (s : State) (k : Nat) (x : Seq) : (s.setSq k x).pwr = s.pwr := rfl
@[simp] theorem State.setSq_thm (s : State) (k : Nat) (x : Seq) : (s.setSq k x).thm = s.thm := rfl
@[simp] theorem State.setSq_sec (s : State) (k : Nat) (x : Seq) : (s.setSq k x).sec = s.sec := rfl
@[simp] theorem State.setSq_pins (s : State) (k : Nat) (x : Seq) : (s.setSq k x).pins = s.pins := rfl
@[simp] theorem State.setSq_sqr_part (s : State) (k : Nat) (x : Seq) : (s.setSq k x).sqr.part = s.sqr.part := rfl
@[simp] theorem State.setSq_sqr_store (s : State) (k : Nat) (x : Seq) : (s.setSq k x).sqr.store = s.sqr.store := rfl
@[simp] theorem State.setSq_reg (s : State) (k : Nat) (x : Seq) (a : Nat) : (s.setSq k x).reg a = s.reg a := rfl
@[simp] theorem State.setSq_g (s : State) (k : Nat) (x : Seq) (pg : Nat) (f : Fld) : (s.setSq k x).g pg f = s.g pg f := rfl
@[simp] theorem State.setSq_on (s : State) (k : Nat) (x : Seq) (pg : Nat) (f : Fld) : (s.setSq k x).on pg f = s.on pg f := rfl
@[simp] theorem State.setSq_sqs_self (s : State) (k : Nat) (x : Seq) : (s.setSq k x).sqs k = x := by
  simp [State.setSq, State.sqs, Tab.get_set_self]
theorem State.setSq_sqs_ne (s : State) {k j : Nat} (x : Seq) (h : j ≠ k) : (s.setSq k x).sqs j = s.sqs j := by
  simp [State.setSq, State.sqs, Tab.get_set_ne _ _ _ h]

/-! ### setPrt -/

@[simp] theorem State.setPrt_pending (s : State) (k : Nat) (x : Part) : (s.setPrt k x).pending = s.pending := rfl
@[simp] theorem State.setPrt_regs (s : State) (k : Nat) (x : Part) : (s.setPrt k x).regs = s.regs := rfl
@[simp] theorem State.setPrt_shadow (s : State) (k : Nat) (x : Part) : (s.setPrt k x).shadow = s.shadow := rfl
@[simp] theorem State.setPrt_heldRd (s : State) (k : Nat) (x : Part) : (s.setPrt k x).heldRd = s.heldRd := rfl
@[simp] theorem State.setPrt_heldWr (s : State) (k : Nat) (x : Part) : (s.setPrt k x).heldWr = s.heldWr := rfl
@[simp] theorem State.setPrt_free (s : State) (k : Nat) (x : Part) : (s.setPrt k x).free = s.free := rfl
@[simp] theorem State.setPrt_tim (s : State) (k : Nat) (x : Part) : (s.setPrt k x).tim = s.tim := rfl
@[simp] theorem State.setPrt_syn (s : State) (k : Nat) (x : Part) : (s.setPrt k x).syn = s.syn := rfl
@[simp] theorem State.setPrt_rdo (s : State) (k : Nat) (x : Part) : (s.setPrt k x).rdo = s.rdo := rfl
@[simp] theorem State.setPrt_dec (s : State) (k : Nat) (x : Part) : (s.setPrt k x).dec = s.dec := rfl
@[simp] theorem State.setPrt_acq (s : State) (k : Nat) (x : Part) : (s.setPrt k x).acq = s.acq := rfl
@[simp] theorem State.setPrt_bm (s : State) (k : Nat) (x : Part) : (s.setPrt k x).bm = s.bm := rfl
@[simp] theorem State.setPrt_mem (s : State) (k : Nat) (x : Part) : (s.setPrt k x).mem = s.mem := rfl
@[simp] theorem State.setPrt_hif (s : State) (k : Nat) (x : Part) : (s.setPrt k x).hif = s.hif := rfl
@[simp] theorem State.setPrt_fab (s : State) (k : Nat) (x : Part) : (s.setPrt k x).fab = s.fab := rfl
@[simp] theorem State.setPrt_hrt (s : State) (k : Nat) (x : Part) : (s.setPrt k x).hrt = s.hrt := rfl
@[simp] theorem State.setPrt_int (s : State) (k : Nat) (x : Part) : (s.setPrt k x).int = s.int := rfl
@[simp] theorem State.setPrt_evr (s : State) (k : Nat) (x : Part) : (s.setPrt k x).evr = s.evr := rfl
@[simp] theorem State.setPrt_log (s : State) (k : Nat) (x : Part) : (s.setPrt k x).log = s.log := rfl
@[simp] theorem State.setPrt_bst (s : State) (k : Nat) (x : Part) : (s.setPrt k x).bst = s.bst := rfl
@[simp] theorem State.setPrt_pwr (s : State) (k : Nat) (x : Part) : (s.setPrt k x).pwr = s.pwr := rfl
@[simp] theorem State.setPrt_thm (s : State) (k : Nat) (x : Part) : (s.setPrt k x).thm = s.thm := rfl
@[simp] theorem State.setPrt_sec (s : State) (k : Nat) (x : Part) : (s.setPrt k x).sec = s.sec := rfl
@[simp] theorem State.setPrt_pins (s : State) (k : Nat) (x : Part) : (s.setPrt k x).pins = s.pins := rfl
@[simp] theorem State.setPrt_sqr_seq (s : State) (k : Nat) (x : Part) : (s.setPrt k x).sqr.seq = s.sqr.seq := rfl
@[simp] theorem State.setPrt_sqr_store (s : State) (k : Nat) (x : Part) : (s.setPrt k x).sqr.store = s.sqr.store := rfl
@[simp] theorem State.setPrt_reg (s : State) (k : Nat) (x : Part) (a : Nat) : (s.setPrt k x).reg a = s.reg a := rfl
@[simp] theorem State.setPrt_g (s : State) (k : Nat) (x : Part) (pg : Nat) (f : Fld) : (s.setPrt k x).g pg f = s.g pg f := rfl
@[simp] theorem State.setPrt_on (s : State) (k : Nat) (x : Part) (pg : Nat) (f : Fld) : (s.setPrt k x).on pg f = s.on pg f := rfl
@[simp] theorem State.setPrt_prt_self (s : State) (k : Nat) (x : Part) : (s.setPrt k x).prt k = x := by
  simp [State.setPrt, State.prt, Tab.get_set_self]
theorem State.setPrt_prt_ne (s : State) {k j : Nat} (x : Part) (h : j ≠ k) : (s.setPrt k x).prt j = s.prt j := by
  simp [State.setPrt, State.prt, Tab.get_set_ne _ _ _ h]

/-! ### setOsc -/

@[simp] theorem State.setOsc_pending (s : State) (k : Nat) (x : Osc) : (s.setOsc k x).pending = s.pending := rfl
@[simp] theorem State.setOsc_regs (s : State) (k : Nat) (x : Osc) : (s.setOsc k x).regs = s.regs := rfl
@[simp] theorem State.setOsc_shadow (s : State) (k : Nat) (x : Osc) : (s.setOsc k x).shadow = s.shadow := rfl
@[simp] theorem State.setOsc_heldRd (s : State) (k : Nat) (x : Osc) : (s.setOsc k x).heldRd = s.heldRd := rfl
@[simp] theorem State.setOsc_heldWr (s : State) (k : Nat) (x : Osc) : (s.setOsc k x).heldWr = s.heldWr := rfl
@[simp] theorem State.setOsc_free (s : State) (k : Nat) (x : Osc) : (s.setOsc k x).free = s.free := rfl
@[simp] theorem State.setOsc_tim (s : State) (k : Nat) (x : Osc) : (s.setOsc k x).tim = s.tim := rfl
@[simp] theorem State.setOsc_sqr (s : State) (k : Nat) (x : Osc) : (s.setOsc k x).sqr = s.sqr := rfl
@[simp] theorem State.setOsc_rdo (s : State) (k : Nat) (x : Osc) : (s.setOsc k x).rdo = s.rdo := rfl
@[simp] theorem State.setOsc_dec (s : State) (k : Nat) (x : Osc) : (s.setOsc k x).dec = s.dec := rfl
@[simp] theorem State.setOsc_acq (s : State) (k : Nat) (x : Osc) : (s.setOsc k x).acq = s.acq := rfl
@[simp] theorem State.setOsc_bm (s : State) (k : Nat) (x : Osc) : (s.setOsc k x).bm = s.bm := rfl
@[simp] theorem State.setOsc_mem (s : State) (k : Nat) (x : Osc) : (s.setOsc k x).mem = s.mem := rfl
@[simp] theorem State.setOsc_hif (s : State) (k : Nat) (x : Osc) : (s.setOsc k x).hif = s.hif := rfl
@[simp] theorem State.setOsc_fab (s : State) (k : Nat) (x : Osc) : (s.setOsc k x).fab = s.fab := rfl
@[simp] theorem State.setOsc_hrt (s : State) (k : Nat) (x : Osc) : (s.setOsc k x).hrt = s.hrt := rfl
@[simp] theorem State.setOsc_int (s : State) (k : Nat) (x : Osc) : (s.setOsc k x).int = s.int := rfl
@[simp] theorem State.setOsc_evr (s : State) (k : Nat) (x : Osc) : (s.setOsc k x).evr = s.evr := rfl
@[simp] theorem State.setOsc_log (s : State) (k : Nat) (x : Osc) : (s.setOsc k x).log = s.log := rfl
@[simp] theorem State.setOsc_bst (s : State) (k : Nat) (x : Osc) : (s.setOsc k x).bst = s.bst := rfl
@[simp] theorem State.setOsc_pwr (s : State) (k : Nat) (x : Osc) : (s.setOsc k x).pwr = s.pwr := rfl
@[simp] theorem State.setOsc_thm (s : State) (k : Nat) (x : Osc) : (s.setOsc k x).thm = s.thm := rfl
@[simp] theorem State.setOsc_sec (s : State) (k : Nat) (x : Osc) : (s.setOsc k x).sec = s.sec := rfl
@[simp] theorem State.setOsc_pins (s : State) (k : Nat) (x : Osc) : (s.setOsc k x).pins = s.pins := rfl
@[simp] theorem State.setOsc_syn_env (s : State) (k : Nat) (x : Osc) : (s.setOsc k x).syn.env = s.syn.env := rfl
@[simp] theorem State.setOsc_syn_play (s : State) (k : Nat) (x : Osc) : (s.setOsc k x).syn.play = s.syn.play := rfl
@[simp] theorem State.setOsc_syn_outp (s : State) (k : Nat) (x : Osc) : (s.setOsc k x).syn.outp = s.syn.outp := rfl
@[simp] theorem State.setOsc_syn_flx (s : State) (k : Nat) (x : Osc) : (s.setOsc k x).syn.flx = s.syn.flx := rfl
@[simp] theorem State.setOsc_syn_spare (s : State) (k : Nat) (x : Osc) : (s.setOsc k x).syn.spare = s.syn.spare := rfl
@[simp] theorem State.setOsc_syn_errs (s : State) (k : Nat) (x : Osc) : (s.setOsc k x).syn.errs = s.syn.errs := rfl
@[simp] theorem State.setOsc_syn_extMute (s : State) (k : Nat) (x : Osc) : (s.setOsc k x).syn.extMute = s.syn.extMute := rfl
@[simp] theorem State.setOsc_reg (s : State) (k : Nat) (x : Osc) (a : Nat) : (s.setOsc k x).reg a = s.reg a := rfl
@[simp] theorem State.setOsc_g (s : State) (k : Nat) (x : Osc) (pg : Nat) (f : Fld) : (s.setOsc k x).g pg f = s.g pg f := rfl
@[simp] theorem State.setOsc_on (s : State) (k : Nat) (x : Osc) (pg : Nat) (f : Fld) : (s.setOsc k x).on pg f = s.on pg f := rfl
@[simp] theorem State.setOsc_osc_self (s : State) (k : Nat) (x : Osc) : (s.setOsc k x).osc k = x := by
  simp [State.setOsc, State.osc, Tab.get_set_self]
theorem State.setOsc_osc_ne (s : State) {k j : Nat} (x : Osc) (h : j ≠ k) : (s.setOsc k x).osc j = s.osc j := by
  simp [State.setOsc, State.osc, Tab.get_set_ne _ _ _ h]

/-! ### setPlays -/

@[simp] theorem State.setPlays_pending (s : State) (k : Nat) (x : List Play) : (s.setPlays k x).pending = s.pending := rfl
@[simp] theorem State.setPlays_regs (s : State) (k : Nat) (x : List Play) : (s.setPlays k x).regs = s.regs := rfl
@[simp] theorem State.setPlays_shadow (s : State) (k : Nat) (x : List Play) : (s.setPlays k x).shadow = s.shadow := rfl
@[simp] theorem State.setPlays_heldRd (s : State) (k : Nat) (x : List Play) : (s.setPlays k x).heldRd = s.heldRd := rfl
@[simp] theorem State.setPlays_heldWr (s : State) (k : Nat) (x : List Play) : (s.setPlays k x).heldWr = s.heldWr := rfl
@[simp] theorem State.setPlays_free (s : State) (k : Nat) (x : List Play) : (s.setPlays k x).free = s.free := rfl
@[simp] theorem State.setPlays_tim (s : State) (k : Nat) (x : List Play) : (s.setPlays k x).tim = s.tim := rfl
@[simp] theorem State.setPlays_sqr (s : State) (k : Nat) (x : List Play) : (s.setPlays k x).sqr = s.sqr := rfl
@[simp] theorem State.setPlays_rdo (s : State) (k : Nat) (x : List Play) : (s.setPlays k x).rdo = s.rdo := rfl
@[simp] theorem State.setPlays_dec (s : State) (k : Nat) (x : List Play) : (s.setPlays k x).dec = s.dec := rfl
@[simp] theorem State.setPlays_acq (s : State) (k : Nat) (x : List Play) : (s.setPlays k x).acq = s.acq := rfl
@[simp] theorem State.setPlays_bm (s : State) (k : Nat) (x : List Play) : (s.setPlays k x).bm = s.bm := rfl
@[simp] theorem State.setPlays_mem (s : State) (k : Nat) (x : List Play) : (s.setPlays k x).mem = s.mem := rfl
@[simp] theorem State.setPlays_hif (s : State) (k : Nat) (x : List Play) : (s.setPlays k x).hif = s.hif := rfl
@[simp] theorem State.setPlays_fab (s : State) (k : Nat) (x : List Play) : (s.setPlays k x).fab = s.fab := rfl
@[simp] theorem State.setPlays_hrt (s : State) (k : Nat) (x : List Play) : (s.setPlays k x).hrt = s.hrt := rfl
@[simp] theorem State.setPlays_int (s : State) (k : Nat) (x : List Play) : (s.setPlays k x).int = s.int := rfl
@[simp] theorem State.setPlays_evr (s : State) (k : Nat) (x : List Play) : (s.setPlays k x).evr = s.evr := rfl
@[simp] theorem State.setPlays_log (s : State) (k : Nat) (x : List Play) : (s.setPlays k x).log = s.log := rfl
@[simp] theorem State.setPlays_bst (s : State) (k : Nat) (x : List Play) : (s.setPlays k x).bst = s.bst := rfl
@[simp] theorem State.setPlays_pwr (s : State) (k : Nat) (x : List Play) : (s.setPlays k x).pwr = s.pwr := rfl
@[simp] theorem State.setPlays_thm (s : State) (k : Nat) (x : List Play) : (s.setPlays k x).thm = s.thm := rfl
@[simp] theorem State.setPlays_sec (s : State) (k : Nat) (x : List Play) : (s.setPlays k x).sec = s.sec := rfl
@[simp] theorem State.setPlays_pins (s : State) (k : Nat) (x : List Play) : (s.setPlays k x).pins = s.pins := rfl
@[simp] theorem State.setPlays_syn_env (s : State) (k : Nat) (x : List Play) : (s.setPlays k x).syn.env = s.syn.env := rfl
@[simp] theorem State.setPlays_syn_osc (s : State) (k : Nat) (x : List Play) : (s.setPlays k x).syn.osc = s.syn.osc := rfl
@[simp] theorem State.setPlays_syn_outp (s : State) (k : Nat) (x : List Play) : (s.setPlays k x).syn.outp = s.syn.outp := rfl
@[simp] theorem State.setPlays_syn_flx (s : State) (k : Nat) (x : List Play) : (s.setPlays k x).syn.flx = s.syn.flx := rfl
@[simp] theorem State.setPlays_syn_spare (s : State) (k : Nat) (x : List Play) : (s.setPlays k x).syn.spare = s.syn.spare := rfl
@[simp] theorem State.setPlays_syn_errs (s : State) (k : Nat) (x : List Play) : (s.setPlays k x).syn.errs = s.syn.errs := rfl
@[simp] theorem State.setPlays_syn_extMute (s : State) (k : Nat) (x : List Play) : (s.setPlays k x).syn.extMute = s.syn.extMute := rfl
@[simp] theorem State.setPlays_reg (s : State) (k : Nat) (x : List Play) (a : Nat) : (s.setPlays k x).reg a = s.reg a := rfl
@[simp] theorem State.setPlays_g (s : State) (k : Nat) (x : List Play) (pg : Nat) (f : Fld) : (s.setPlays k x).g pg f = s.g pg f := rfl
@[simp] theorem State.setPlays_on (s : State) (k : Nat) (x : List Play) (pg : Nat) (f : Fld) : (s.setPlays k x).on pg f = s.on pg f := rfl
@[simp] theorem State.setPlays_plays_self (s : State) (k : Nat) (x : List Play) : (s.setPlays k x).plays k = x := by
  simp [State.setPlays, State.plays, Tab.get_set_self]
theorem State.setPlays_plays_ne (s : State) {k j : Nat} (x : List Play) (h : j ≠ k) : (s.setPlays k x).plays j = s.plays j := by
  simp [State.setPlays, State.plays, Tab.get_set_ne _ _ _ h]

/-! ### setOutp -/

@[simp] theorem State.setOutp_pending (s : State) (k : Nat) (x : Outp) : (s.setOutp k x).pending = s.pending := rfl
@[simp] theorem State.setOutp_regs (s : State) (k : Nat) (x : Outp) : (s.setOutp k x).regs = s.regs := rfl
@[simp] theorem State.setOutp_shadow (s : State) (k : Nat) (x : Outp) : (s.setOutp k x).shadow = s.shadow := rfl
@[simp] theorem State.setOutp_heldRd (s : State) (k : Nat) (x : Outp) : (s.setOutp k x).heldRd = s.heldRd := rfl
@[simp] theorem State.setOutp_heldWr (s : State) (k : Nat) (x : Outp) : (s.setOutp k x).heldWr = s.heldWr := rfl
@[simp] theorem State.setOutp_free (s : State) (k : Nat) (x : Outp) : (s.setOutp k x).free = s.free := rfl
@[simp] theorem State.setOutp_tim (s : State) (k : Nat) (x : Outp) : (s.setOutp k x).tim = s.tim := rfl
@[simp] theorem State.setOutp_sqr (s : State) (k : Nat) (x : Outp) : (s.setOutp k x).sqr = s.sqr := rfl
@[simp] theorem State.setOutp_rdo (s : State) (k : Nat) (x : Outp) : (s.setOutp k x).rdo = s.rdo := rfl
@[simp] theorem State.setOutp_dec (s : State) (k : Nat) (x : Outp) : (s.setOutp k x).dec = s.dec := rfl
@[simp] theorem State.setOutp_acq (s : State) (k : Nat) (x : Outp) : (s.setOutp k x).acq = s.acq := rfl
@[simp] theorem State.setOutp_bm (s : State) (k : Nat) (x : Outp) : (s.setOutp k x).bm = s.bm := rfl
@[simp] theorem State.setOutp_mem (s : State) (k : Nat) (x : Outp) : (s.setOutp k x).mem = s.mem := rfl
@[simp] theorem State.setOutp_hif (s : State) (k : Nat) (x : Outp) : (s.setOutp k x).hif = s.hif := rfl
@[simp] theorem State.setOutp_fab (s : State) (k : Nat) (x : Outp) : (s.setOutp k x).fab = s.fab := rfl
@[simp] theorem State.setOutp_hrt (s : State) (k : Nat) (x : Outp) : (s.setOutp k x).hrt = s.hrt := rfl
@[simp] theorem State.setOutp_int (s : State) (k : Nat) (x : Outp) : (s.setOutp k x).int = s.int := rfl
@[simp] theorem State.setOutp_evr (s : State) (k : Nat) (x : Outp) : (s.setOutp k x).evr = s.evr := rfl
@[simp] theorem State.setOutp_log (s : State) (k : Nat) (x : Outp) : (s.setOutp k x).log = s.log := rfl
@[simp] theorem State.setOutp_bst (s : State) (k : Nat) (x : Outp) : (s.setOutp k x).bst = s.bst := rfl
@[simp] theorem State.setOutp_pwr (s : State) (k : Nat) (x : Outp) : (s.setOutp k x).pwr = s.pwr := rfl
@[simp] theorem State.setOutp_thm (s : State) (k : Nat) (x : Outp) : (s.setOutp k x).thm = s.thm := rfl
@[simp] theorem State.setOutp_sec (s : State) (k : Nat) (x : Outp) : (s.setOutp k x).sec = s.sec := rfl
@[simp] theorem State.setOutp_pins (s : State) (k : Nat) (x : Outp) : (s.setOutp k x).pins = s.pins := rfl
@[simp] theorem State.setOutp_syn_env (s : State) (k : Nat) (x : Outp) : (s.setOutp k x).syn.env = s.syn.env := rfl
@[simp] theorem State.setOutp_syn_osc (s : State) (k : Nat) (x : Outp) : (s.setOutp k x).syn.osc = s.syn.osc := rfl
@[simp] theorem State.setOutp_syn_play (s : State) (k : Nat) (x : Outp) : (s.setOutp k x).syn.play = s.syn.play := rfl
@[simp] theorem State.setOutp_syn_flx (s : State) (k : Nat) (x : Outp) : (s.setOutp k x).syn.flx = s.syn.flx := rfl
@[simp] theorem State.setOutp_syn_spare (s : State) (k : Nat) (x : Outp) : (s.setOutp k x).syn.spare = s.syn.spare := rfl
@[simp] theorem State.setOutp_syn_errs (s : State) (k : Nat) (x : Outp) : (s.setOutp k x).syn.errs = s.syn.errs := rfl
@[simp] theorem State.setOutp_syn_extMute (s : State) (k : Nat) (x : Outp) : (s.setOutp k x).syn.extMute = s.syn.extMute := rfl
@[simp] theorem State.setOutp_reg (s : State) (k : Nat) (x : Outp) (a : Nat) : (s.setOutp k x).reg a = s.reg a := rfl
@[simp] theorem State.setOutp_g (s : State) (k : Nat) (x : Outp) (pg : Nat) (f : Fld) : (s.setOutp k x).g pg f = s.g pg f := rfl
@[simp] theorem State.setOutp_on (s : State) (k : Nat) (x : Outp) (pg : Nat) (f : Fld) : (s.setOutp k x).on pg f = s.on pg f := rfl
@[simp] theorem State.setOutp_outp_self (s : State) (k : Nat) (x : Outp) : (s.setOutp k x).outp k = x := by
  simp [State.setOutp, State.outp, Tab.get_set_self]
theorem State.setOutp_outp_ne (s : State) {k j : Nat} (x : Outp) (h : j ≠ k) : (s.setOutp k x).outp j = s.outp j := by
  simp [State.setOutp, State.outp, Tab.get_set_ne _ _ _ h]

/-! ### setFlx -/

@[simp] theorem State.setFlx_pending (s : State) (k : Nat) (x : Flx) : (s.setFlx k x).pending = s.pending := rfl
@[simp] theorem State.setFlx_regs (s : State) (k : Nat) (x : Flx) : (s.setFlx k x).regs = s.regs := rfl
@[simp] theorem State.setFlx_shadow (s : State) (k : Nat) (x : Flx) : (s.setFlx k x).shadow = s.shadow := rfl
@[simp] theorem State.setFlx_heldRd (s : State) (k : Nat) (x : Flx) : (s.setFlx k x).heldRd = s.heldRd := rfl
@[simp] theorem State.setFlx_heldWr (s : State) (k : Nat) (x : Flx) : (s.setFlx k x).heldWr = s.heldWr := rfl
@[simp] theorem State.setFlx_free (s : State) (k : Nat) (x : Flx) : (s.setFlx k x).free = s.free := rfl
@[simp] theorem State.setFlx_tim (s : State) (k : Nat) (x : Flx) : (s.setFlx k x).tim = s.tim := rfl
@[simp] theorem State.setFlx_sqr (s : State) (k : Nat) (x : Flx) : (s.setFlx k x).sqr = s.sqr := rfl
@[simp] theorem State.setFlx_rdo (s : State) (k : Nat) (x : Flx) : (s.setFlx k x).rdo = s.rdo := rfl
@[simp] theorem State.setFlx_dec (s : State) (k : Nat) (x : Flx) : (s.setFlx k x).dec = s.dec := rfl
@[simp] theorem State.setFlx_acq (s : State) (k : Nat) (x : Flx) : (s.setFlx k x).acq = s.acq := rfl
@[simp] theorem State.setFlx_bm (s : State) (k : Nat) (x : Flx) : (s.setFlx k x).bm = s.bm := rfl
@[simp] theorem State.setFlx_mem (s : State) (k : Nat) (x : Flx) : (s.setFlx k x).mem = s.mem := rfl
@[simp] theorem State.setFlx_hif (s : State) (k : Nat) (x : Flx) : (s.setFlx k x).hif = s.hif := rfl
@[simp] theorem State.setFlx_fab (s : State) (k : Nat) (x : Flx) : (s.setFlx k x).fab = s.fab := rfl
@[simp] theorem State.setFlx_hrt (s : State) (k : Nat) (x : Flx) : (s.setFlx k x).hrt = s.hrt := rfl
@[simp] theorem State.setFlx_int (s : State) (k : Nat) (x : Flx) : (s.setFlx k x).int = s.int := rfl
@[simp] theorem State.setFlx_evr (s : State) (k : Nat) (x : Flx) : (s.setFlx k x).evr = s.evr := rfl
@[simp] theorem State.setFlx_log (s : State) (k : Nat) (x : Flx) : (s.setFlx k x).log = s.log := rfl
@[simp] theorem State.setFlx_bst (s : State) (k : Nat) (x : Flx) : (s.setFlx k x).bst = s.bst := rfl
@[simp] theorem State.setFlx_pwr (s : State) (k : Nat) (x : Flx) : (s.setFlx k x).pwr = s.pwr := rfl
@[simp] theorem State.setFlx_thm (s : State) (k : Nat) (x : Flx) : (s.setFlx k x).thm = s.thm := rfl
@[simp] theorem State.setFlx_sec (s : State) (k : Nat) (x : Flx) : (s.setFlx k x).sec = s.sec := rfl
@[simp] theorem State.setFlx_pins (s : State) (k : Nat) (x : Flx) : (s.setFlx k x).pins = s.pins := rfl
@[simp] theorem State.setFlx_syn_env (s : State) (k : Nat) (x : Flx) : (s.setFlx k x).syn.env = s.syn.env := rfl
@[simp] theorem State.setFlx_syn_osc (s : State) (k : Nat) (x : Flx) : (s.setFlx k x).syn.osc = s.syn.osc := rfl
@[simp] theorem State.setFlx_syn_play (s : State) (k : Nat) (x : Flx) : (s.setFlx k x).syn.play = s.syn.play := rfl
@[simp] theorem State.setFlx_syn_outp (s : State) (k : Nat) (x : Flx) : (s.setFlx k x).syn.outp = s.syn.outp := rfl
@[simp] theorem State.setFlx_syn_spare (s : State) (k : Nat) (x : Flx) : (s.setFlx k x).syn.spare = s.syn.spare := rfl
@[simp] theorem State.setFlx_syn_errs (s : State) (k : Nat) (x : Flx) : (s.setFlx k x).syn.errs = s.syn.errs := rfl
@[simp] theorem State.setFlx_syn_extMute (s : State) (k : Nat) (x : Flx) : (s.setFlx k x).syn.extMute = s.syn.extMute := rfl
@[simp] theorem State.setFlx_reg (s : State) (k : Nat) (x : Flx) (a : Nat) : (s.setFlx k x).reg a = s.reg a := rfl
@[simp] theorem State.setFlx_g (s : State) (k : Nat) (x : Flx) (pg : Nat) (f : Fld) : (s.setFlx k x).g pg f = s.g pg f := rfl
@[simp] theorem State.setFlx_on (s : State) (k : Nat) (x : Flx) (pg : Nat) (f : Fld) : (s.setFlx k x).on pg f = s.on pg f := rfl
@[simp] theorem State.setFlx_flx_self (s : State) (k : Nat) (x : Flx) : (s.setFlx k x).flx k = x := by
  simp [State.setFlx, State.flx, Tab.get_set_self]
theorem State.setFlx_flx_ne (s : State) {k j : Nat} (x : Flx) (h : j ≠ k) : (s.setFlx k x).flx j = s.flx j := by
  simp [State.setFlx, State.flx, Tab.get_set_ne _ _ _ h]

/-! ### setSpare -/

@[simp] theorem State.setSpare_pending (s : State) (k : Nat) (x : Spare) : (s.setSpare k x).pending = s.pending := rfl
@[simp] theorem State.setSpare_regs (s : State) (k : Nat) (x : Spare) : (s.setSpare k x).regs = s.regs := rfl
@[simp] theorem State.setSpare_shadow (s : State) (k : Nat) (x : Spare) : (s.setSpare k x).shadow = s.shadow := rfl
@[simp] theorem State.setSpare_heldRd (s : State) (k : Nat) (x : Spare) : (s.setSpare k x).heldRd = s.heldRd := rfl
@[simp] theorem State.setSpare_heldWr (s : State) (k : Nat) (x : Spare) : (s.setSpare k x).heldWr = s.heldWr := rfl
@[simp] theorem State.setSpare_free (s : State) (k : Nat) (x : Spare) : (s.setSpare k x).free = s.free := rfl
@[simp] theorem State.setSpare_tim (s : State) (k : Nat) (x : Spare) : (s.setSpare k x).tim = s.tim := rfl
@[simp] theorem State.setSpare_sqr (s : State) (k : Nat) (x : Spare) : (s.setSpare k x).sqr = s.sqr := rfl
@[simp] theorem State.setSpare_rdo (s : State) (k : Nat) (x : Spare) : (s.setSpare k x).rdo = s.rdo := rfl
@[simp] theorem State.setSpare_dec (s : State) (k : Nat) (x : Spare) : (s.setSpare k x).dec = s.dec := rfl
@[simp] theorem State.setSpare_acq (s : State) (k : Nat) (x : Spare) : (s.setSpare k x).acq = s.acq := rfl
@[simp] theorem State.setSpare_bm (s : State) (k : Nat) (x : Spare) : (s.setSpare k x).bm = s.bm := rfl
@[simp] theorem State.setSpare_mem (s : State) (k : Nat) (x : Spare) : (s.setSpare k x).mem = s.mem := rfl
@[simp] theorem State.setSpare_hif (s : State) (k : Nat) (x : Spare) : (s.setSpare k x).hif = s.hif := rfl
@[simp] theorem State.setSpare_fab (s : State) (k : Nat) (x : Spare) : (s.setSpare k x).fab = s.fab := rfl
@[simp] theorem State.setSpare_hrt (s : State) (k : Nat) (x : Spare) : (s.setSpare k x).hrt = s.hrt := rfl
@[simp] theorem State.setSpare_int (s : State) (k : Nat) (x : Spare) : (s.setSpare k x).int = s.int := rfl
@[simp] theorem State.setSpare_evr (s : State) (k : Nat) (x : Spare) : (s.setSpare k x).evr = s.evr := rfl
@[simp] theorem State.setSpare_log (s : State) (k : Nat) (x : Spare) : (s.setSpare k x).log = s.log := rfl
@[simp] theorem State.setSpare_bst (s : State) (k : Nat) (x : Spare) : (s.setSpare k x).bst = s.bst := rfl
@[simp] theorem State.setSpare_pwr (s : State) (k : Nat) (x : Spare) : (s.setSpare k x).pwr = s.pwr := rfl
@[simp] theorem State.setSpare_thm (s : State) (k : Nat) (x : Spare) : (s.setSpare k x).thm = s.thm := rfl
@[simp] theorem State.setSpare_sec (s : State) (k : Nat) (x : Spare) : (s.setSpare k x).sec = s.sec := rfl
@[simp] theorem State.setSpare_pins (s : State) (k : Nat) (x : Spare) : (s.setSpare k x).pins = s.pins := rfl
@[simp] theorem State.setSpare_syn_env (s : State) (k : Nat) (x : Spare) : (s.setSpare k x).syn.env = s.syn.env := rfl
@[simp] theorem State.setSpare_syn_osc (s : State) (k : Nat) (x : Spare) : (s.setSpare k x).syn.osc = s.syn.osc := rfl
@[simp] theorem State.setSpare_syn_play (s : State) (k : Nat) (x : Spare) : (s.setSpare k x).syn.play = s.syn.play := rfl
@[simp] theorem State.setSpare_syn_outp (s : State) (k : Nat) (x : Spare) : (s.setSpare k x).syn.outp = s.syn.outp := rfl
@[simp] theorem State.setSpare_syn_flx (s : State) (k : Nat) (x : Spare) : (s.setSpare k x).syn.flx = s.syn.flx := rfl
@[simp] theorem State.setSpare_syn_errs (s : State) (k : Nat) (x : Spare) : (s.setSpare k x).syn.errs = s.syn.errs := rfl
@[simp] theorem State.setSpare_syn_extMute (s : State) (k : Nat) (x : Spare) : (s.setSpare k x).syn.extMute = s.syn.extMute := rfl
@[simp] theorem State.setSpare_reg (s : State) (k : Nat) (x : Spare) (a : Nat) : (s.setSpare k x).reg a = s.reg a := rfl
@[simp] theorem State.setSpare_g (s : State) (k : Nat) (x : Spare) (pg : Nat) (f : Fld) : (s.setSpare k x).g pg f = s.g pg f := rfl
@[simp] theorem State.setSpare_on (s : State) (k : Nat) (x : Spare) (pg : Nat) (f : Fld) : (s.setSpare k x).on pg f = s.on pg f := rfl
@[simp] theorem State.setSpare_spare_self (s : State) (k : Nat) (x : Spare) : (s.setSpare k x).spare k = x := by
  simp [State.setSpare, State.spare, Tab.get_set_self]
theorem State.setSpare_spare_ne (s : State) {k j : Nat} (x : Spare) (h : j ≠ k) : (s.setSpare k x).spare j = s.spare j := by
  simp [State.setSpare, State.spare, Tab.get_set_ne _ _ _ h]

/-! ### setBias -/

@[simp] theorem State.setBias_pending (s : State) (k : Nat) (x : Bias) : (s.setBias k x).pending = s.pending := rfl
@[simp] theorem State.setBias_regs (s : State) (k : Nat) (x : Bias) : (s.setBias k x).regs = s.regs := rfl
@[simp] theorem State.setBias_shadow (s : State) (k : Nat) (x : Bias) : (s.setBias k x).shadow = s.shadow := rfl
@[simp] theorem State.setBias_heldRd (s : State) (k : Nat) (x : Bias) : (s.setBias k x).heldRd = s.heldRd := rfl
@[simp] theorem State.setBias_heldWr (s : State) (k : Nat) (x : Bias) : (s.setBias k x).heldWr = s.heldWr := rfl
@[simp] theorem State.setBias_free (s : State) (k : Nat) (x : Bias) : (s.setBias k x).free = s.free := rfl
@[simp] theorem State.setBias_tim (s : State) (k : Nat) (x : Bias) : (s.setBias k x).tim = s.tim := rfl
@[simp] theorem State.setBias_syn (s : State) (k : Nat) (x : Bias) : (s.setBias k x).syn = s.syn := rfl
@[simp] theorem State.setBias_sqr (s : State) (k : Nat) (x : Bias) : (s.setBias k x).sqr = s.sqr := rfl
@[simp] theorem State.setBias_rdo (s : State) (k : Nat) (x : Bias) : (s.setBias k x).rdo = s.rdo := rfl
@[simp] theorem State.setBias_dec (s : State) (k : Nat) (x : Bias) : (s.setBias k x).dec = s.dec := rfl
@[simp] theorem State.setBias_acq (s : State) (k : Nat) (x : Bias) : (s.setBias k x).acq = s.acq := rfl
@[simp] theorem State.setBias_mem (s : State) (k : Nat) (x : Bias) : (s.setBias k x).mem = s.mem := rfl
@[simp] theorem State.setBias_hif (s : State) (k : Nat) (x : Bias) : (s.setBias k x).hif = s.hif := rfl
@[simp] theorem State.setBias_fab (s : State) (k : Nat) (x : Bias) : (s.setBias k x).fab = s.fab := rfl
@[simp] theorem State.setBias_hrt (s : State) (k : Nat) (x : Bias) : (s.setBias k x).hrt = s.hrt := rfl
@[simp] theorem State.setBias_int (s : State) (k : Nat) (x : Bias) : (s.setBias k x).int = s.int := rfl
@[simp] theorem State.setBias_evr (s : State) (k : Nat) (x : Bias) : (s.setBias k x).evr = s.evr := rfl
@[simp] theorem State.setBias_log (s : State) (k : Nat) (x : Bias) : (s.setBias k x).log = s.log := rfl
@[simp] theorem State.setBias_bst (s : State) (k : Nat) (x : Bias) : (s.setBias k x).bst = s.bst := rfl
@[simp] theorem State.setBias_pwr (s : State) (k : Nat) (x : Bias) : (s.setBias k x).pwr = s.pwr := rfl
@[simp] theorem State.setBias_thm (s : State) (k : Nat) (x : Bias) : (s.setBias k x).thm = s.thm := rfl
@[simp] theorem State.setBias_sec (s : State) (k : Nat) (x : Bias) : (s.setBias k x).sec = s.sec := rfl
@[simp] theorem State.setBias_pins (s : State) (k : Nat) (x : Bias) : (s.setBias k x).pins = s.pins := rfl
@[simp] theorem State.setBias_bm_mon (s : State) (k : Nat) (x : Bias) : (s.setBias k x).bm.mon = s.bm.mon := rfl
@[simp] theorem State.setBias_bm_calOwed (s : State) (k : Nat) (x : Bias) : (s.setBias k x).bm.calOwed = s.bm.calOwed := rfl
@[simp] theorem State.setBias_bm_calAt (s : State) (k : Nat) (x : Bias) : (s.setBias k x).bm.calAt = s.bm.calAt := rfl
@[simp] theorem State.setBias_bm_refOwed (s : State) (k : Nat) (x : Bias) : (s.setBias k x).bm.refOwed = s.bm.refOwed := rfl
@[simp] theorem State.setBias_bm_refAt (s : State) (k : Nat) (x : Bias) : (s.setBias k x).bm.refAt = s.bm.refAt := rfl
@[simp] theorem State.setBias_bm_commonRun (s : State) (k : Nat) (x : Bias) : (s.setBias k x).bm.commonRun = s.bm.commonRun := rfl
@[simp] theorem State.setBias_bm_calNo (s : State) (k : Nat) (x : Bias) : (s.setBias k x).bm.calNo = s.bm.calNo := rfl
@[simp] theorem State.setBias_reg (s : State) (k : Nat) (x : Bias) (a : Nat) : (s.setBias k x).reg a = s.reg a := rfl
@[simp] theorem State.setBias_g (s : State) (k : Nat) (x : Bias) (pg : Nat) (f : Fld) : (s.setBias k x).g pg f = s.g pg f := rfl
@[simp] theorem State.setBias_on (s : State) (k : Nat) (x : Bias) (pg : Nat) (f : Fld) : (s.setBias k x).on pg f = s.on pg f := rfl
@[simp] theorem State.setBias_bias_self (s : State) (k : Nat) (x : Bias) : (s.setBias k x).bias k = x := by
  simp [State.setBias, State.bias, Tab.get_set_self]
theorem State.setBias_bias_ne (s : State) {k j : Nat} (x : Bias) (h : j ≠ k) : (s.setBias k x).bias j = s.bias j := by
  simp [State.setBias, State.bias, Tab.get_set_ne _ _ _ h]

/-! ### setMon -/

@[simp] theorem State.setMon_pending (s : State) (k : Nat) (x : Mon) : (s.setMon k x).pending = s.pending := rfl
@[simp] theorem State.setMon_regs (s : State) (k : Nat) (x : Mon) : (s.setMon k x).regs = s.regs := rfl
@[simp] theorem State.setMon_shadow (s : State) (k : Nat) (x : Mon) : (s.setMon k x).shadow = s.shadow := rfl
@[simp] theorem State.setMon_heldRd (s : State) (k : Nat) (x : Mon) : (s.setMon k x).heldRd = s.heldRd := rfl
@[simp] theorem State.setMon_heldWr (s : State) (k : Nat) (x : Mon) : (s.setMon k x).heldWr = s.heldWr := rfl
@[simp] theorem State.setMon_free (s : State) (k : Nat) (x : Mon) : (s.setMon k x).free = s.free := rfl
@[simp] theorem State.setMon_tim (s : State) (k : Nat) (x : Mon) : (s.setMon k x).tim = s.tim := rfl
@[simp] theorem State.setMon_syn (s : State) (k : Nat) (x : Mon) : (s.setMon k x).syn = s.syn := rfl
@[simp] theorem State.setMon_sqr (s : State) (k : Nat) (x : Mon) : (s.setMon k x).sqr = s.sqr := rfl
@[simp] theorem State.setMon_rdo (s : State) (k : Nat) (x : Mon) : (s.setMon k x).rdo = s.rdo := rfl
@[simp] theorem State.setMon_dec (s : State) (k : Nat) (x : Mon) : (s.setMon k x).dec = s.dec := rfl
@[simp] theorem State.setMon_acq (s : State) (k : Nat) (x : Mon) : (s.setMon k x).acq = s.acq := rfl
@[simp] theorem State.setMon_mem (s : State) (k : Nat) (x : Mon) : (s.setMon k x).mem = s.mem := rfl
@[simp] theorem State.setMon_hif (s : State) (k : Nat) (x : Mon) : (s.setMon k x).hif = s.hif := rfl
@[simp] theorem State.setMon_fab (s : State) (k : Nat) (x : Mon) : (s.setMon k x).fab = s.fab := rfl
@[simp] theorem State.setMon_hrt (s : State) (k : Nat) (x : Mon) : (s.setMon k x).hrt = s.hrt := rfl
@[simp] theorem State.setMon_int (s : State) (k : Nat) (x : Mon) : (s.setMon k x).int = s.int := rfl
@[simp] theorem State.setMon_evr (s : State) (k : Nat) (x : Mon) : (s.setMon k x).evr = s.evr := rfl
@[simp] theorem State.setMon_log (s : State) (k : Nat) (x : Mon) : (s.setMon k x).log = s.log := rfl
@[simp] theorem State.setMon_bst (s : State) (k : Nat) (x : Mon) : (s.setMon k x).bst = s.bst := rfl
@[simp] theorem State.setMon_pwr (s : State) (k : Nat) (x : Mon) : (s.setMon k x).pwr = s.pwr := rfl
@[simp] theorem State.setMon_thm (s : State) (k : Nat) (x : Mon) : (s.setMon k x).thm = s.thm := rfl
@[simp] theorem State.setMon_sec (s : State) (k : Nat) (x : Mon) : (s.setMon k x).sec = s.sec := rfl
@[simp] theorem State.setMon_pins (s : State) (k : Nat) (x : Mon) : (s.setMon k x).pins = s.pins := rfl
@[simp] theorem State.setMon_bm_bias (s : State) (k : Nat) (x : Mon) : (s.setMon k x).bm.bias = s.bm.bias := rfl
@[simp] theorem State.setMon_bm_calOwed (s : State) (k : Nat) (x : Mon) : (s.setMon k x).bm.calOwed = s.bm.calOwed := rfl
@[simp] theorem State.setMon_bm_calAt (s : State) (k : Nat) (x : Mon) : (s.setMon k x).bm.calAt = s.bm.calAt := rfl
@[simp] theorem State.setMon_bm_refOwed (s : State) (k : Nat) (x : Mon) : (s.setMon k x).bm.refOwed = s.bm.refOwed := rfl
@[simp] theorem State.setMon_bm_refAt (s : State) (k : Nat) (x : Mon) : (s.setMon k x).bm.refAt = s.bm.refAt := rfl
@[simp] theorem State.setMon_bm_commonRun (s : State) (k : Nat) (x : Mon) : (s.setMon k x).bm.commonRun = s.bm.commonRun := rfl
@[simp] theorem State.setMon_bm_calNo (s : State) (k : Nat) (x : Mon) : (s.setMon k x).bm.calNo = s.bm.calNo := rfl
@[simp] theorem State.setMon_reg (s : State) (k : Nat) (x : Mon) (a : Nat) : (s.setMon k x).reg a = s.reg a := rfl
@[simp] theorem State.setMon_g (s : State) (k : Nat) (x : Mon) (pg : Nat) (f : Fld) : (s.setMon k x).g pg f = s.g pg f := rfl
@[simp] theorem State.setMon_on (s : State) (k : Nat) (x : Mon) (pg : Nat) (f : Fld) : (s.setMon k x).on pg f = s.on pg f := rfl
@[simp] theorem State.setMon_mon_self (s : State) (k : Nat) (x : Mon) : (s.setMon k x).mon k = x := by
  simp [State.setMon, State.mon, Tab.get_set_self]
theorem State.setMon_mon_ne (s : State) {k j : Nat} (x : Mon) (h : j ≠ k) : (s.setMon k x).mon j = s.mon j := by
  simp [State.setMon, State.mon, Tab.get_set_ne _ _ _ h]

/-! ### setCu -/

@[simp] theorem State.setCu_pending (s : State) (k : Nat) (x : Cu) : (s.setCu k x).pending = s.pending := rfl
@[simp] theorem State.setCu_regs (s : State) (k : Nat) (x : Cu) : (s.setCu k x).regs = s.regs := rfl
@[simp] theorem State.setCu_shadow (s : State) (k : Nat) (x : Cu) : (s.setCu k x).shadow = s.shadow := rfl
@[simp] theorem State.setCu_heldRd (s : State) (k : Nat) (x : Cu) : (s.setCu k x).heldRd = s.heldRd := rfl
@[simp] theorem State.setCu_heldWr (s : State) (k : Nat) (x : Cu) : (s.setCu k x).heldWr = s.heldWr := rfl
@[simp] theorem State.setCu_free (s : State) (k : Nat) (x : Cu) : (s.setCu k x).free = s.free := rfl
@[simp] theorem State.setCu_tim (s : State) (k : Nat) (x : Cu) : (s.setCu k x).tim = s.tim := rfl
@[simp] theorem State.setCu_syn (s : State) (k : Nat) (x : Cu) : (s.setCu k x).syn = s.syn := rfl
@[simp] theorem State.setCu_sqr (s : State) (k : Nat) (x : Cu) : (s.setCu k x).sqr = s.sqr := rfl
@[simp] theorem State.setCu_rdo (s : State) (k : Nat) (x : Cu) : (s.setCu k x).rdo = s.rdo := rfl
@[simp] theorem State.setCu_dec (s : State) (k : Nat) (x : Cu) : (s.setCu k x).dec = s.dec := rfl
@[simp] theorem State.setCu_bm (s : State) (k : Nat) (x : Cu) : (s.setCu k x).bm = s.bm := rfl
@[simp] theorem State.setCu_mem (s : State) (k : Nat) (x : Cu) : (s.setCu k x).mem = s.mem := rfl
@[simp] theorem State.setCu_hif (s : State) (k : Nat) (x : Cu) : (s.setCu k x).hif = s.hif := rfl
@[simp] theorem State.setCu_fab (s : State) (k : Nat) (x : Cu) : (s.setCu k x).fab = s.fab := rfl
@[simp] theorem State.setCu_hrt (s : State) (k : Nat) (x : Cu) : (s.setCu k x).hrt = s.hrt := rfl
@[simp] theorem State.setCu_int (s : State) (k : Nat) (x : Cu) : (s.setCu k x).int = s.int := rfl
@[simp] theorem State.setCu_evr (s : State) (k : Nat) (x : Cu) : (s.setCu k x).evr = s.evr := rfl
@[simp] theorem State.setCu_log (s : State) (k : Nat) (x : Cu) : (s.setCu k x).log = s.log := rfl
@[simp] theorem State.setCu_bst (s : State) (k : Nat) (x : Cu) : (s.setCu k x).bst = s.bst := rfl
@[simp] theorem State.setCu_pwr (s : State) (k : Nat) (x : Cu) : (s.setCu k x).pwr = s.pwr := rfl
@[simp] theorem State.setCu_thm (s : State) (k : Nat) (x : Cu) : (s.setCu k x).thm = s.thm := rfl
@[simp] theorem State.setCu_sec (s : State) (k : Nat) (x : Cu) : (s.setCu k x).sec = s.sec := rfl
@[simp] theorem State.setCu_pins (s : State) (k : Nat) (x : Cu) : (s.setCu k x).pins = s.pins := rfl
@[simp] theorem State.setCu_acq_ready (s : State) (k : Nat) (x : Cu) : (s.setCu k x).acq.ready = s.acq.ready := rfl
@[simp] theorem State.setCu_acq_req (s : State) (k : Nat) (x : Cu) : (s.setCu k x).acq.req = s.acq.req := rfl
@[simp] theorem State.setCu_acq_mask (s : State) (k : Nat) (x : Cu) : (s.setCu k x).acq.mask = s.acq.mask := rfl
@[simp] theorem State.setCu_acq_buf (s : State) (k : Nat) (x : Cu) : (s.setCu k x).acq.buf = s.acq.buf := rfl
@[simp] theorem State.setCu_acq_kin (s : State) (k : Nat) (x : Cu) : (s.setCu k x).acq.kin = s.acq.kin := rfl
@[simp] theorem State.setCu_reg (s : State) (k : Nat) (x : Cu) (a : Nat) : (s.setCu k x).reg a = s.reg a := rfl
@[simp] theorem State.setCu_g (s : State) (k : Nat) (x : Cu) (pg : Nat) (f : Fld) : (s.setCu k x).g pg f = s.g pg f := rfl
@[simp] theorem State.setCu_on (s : State) (k : Nat) (x : Cu) (pg : Nat) (f : Fld) : (s.setCu k x).on pg f = s.on pg f := rfl
@[simp] theorem State.setCu_cu_self (s : State) (k : Nat) (x : Cu) : (s.setCu k x).cu k = x := by
  simp [State.setCu, State.cu, Tab.get_set_self]
theorem State.setCu_cu_ne (s : State) {k j : Nat} (x : Cu) (h : j ≠ k) : (s.setCu k x).cu j = s.cu j := by
  simp [State.setCu, State.cu, Tab.get_set_ne _ _ _ h]

/-! ### setGath -/

@[simp] theorem State.setGath_pending (s : State) (k : Nat) (x : Gath) : (s.setGath k x).pending = s.pending := rfl
@[simp] theorem State.setGath_regs (s : State) (k : Nat) (x : Gath) : (s.setGath k x).regs = s.regs := rfl
@[simp] theorem State.setGath_shadow (s : State) (k : Nat) (x : Gath) : (s.setGath k x).shadow = s.shadow := rfl
@[simp] theorem State.setGath_heldRd (s : State) (k : Nat) (x : Gath) : (s.setGath k x).heldRd = s.heldRd := rfl
@[simp] theorem State.setGath_heldWr (s : State) (k : Nat) (x : Gath) : (s.setGath k x).heldWr = s.heldWr := rfl
@[simp] theorem State.setGath_free (s : State) (k : Nat) (x : Gath) : (s.setGath k x).free = s.free := rfl
@[simp] theorem State.setGath_tim (s : State) (k : Nat) (x : Gath) : (s.setGath k x).tim = s.tim := rfl
@[simp] theorem State.setGath_syn (s : State) (k : Nat) (x : Gath) : (s.setGath k x).syn = s.syn := rfl
@[simp] theorem State.setGath_sqr (s : State) (k : Nat) (x : Gath) : (s.setGath k x).sqr = s.sqr := rfl
@[simp] theorem State.setGath_rdo (s : State) (k : Nat) (x : Gath) : (s.setGath k x).rdo = s.rdo := rfl
@[simp] theorem State.setGath_acq (s : State) (k : Nat) (x : Gath) : (s.setGath k x).acq = s.acq := rfl
@[simp] theorem State.setGath_bm (s : State) (k : Nat) (x : Gath) : (s.setGath k x).bm = s.bm := rfl
@[simp] theorem State.setGath_mem (s : State) (k : Nat) (x : Gath) : (s.setGath k x).mem = s.mem := rfl
@[simp] theorem State.setGath_hif (s : State) (k : Nat) (x : Gath) : (s.setGath k x).hif = s.hif := rfl
@[simp] theorem State.setGath_fab (s : State) (k : Nat) (x : Gath) : (s.setGath k x).fab = s.fab := rfl
@[simp] theorem State.setGath_hrt (s : State) (k : Nat) (x : Gath) : (s.setGath k x).hrt = s.hrt := rfl
@[simp] theorem State.setGath_int (s : State) (k : Nat) (x : Gath) : (s.setGath k x).int = s.int := rfl
@[simp] theorem State.setGath_evr (s : State) (k : Nat) (x : Gath) : (s.setGath k x).evr = s.evr := rfl
@[simp] theorem State.setGath_log (s : State) (k : Nat) (x : Gath) : (s.setGath k x).log = s.log := rfl
@[simp] theorem State.setGath_bst (s : State) (k : Nat) (x : Gath) : (s.setGath k x).bst = s.bst := rfl
@[simp] theorem State.setGath_pwr (s : State) (k : Nat) (x : Gath) : (s.setGath k x).pwr = s.pwr := rfl
@[simp] theorem State.setGath_thm (s : State) (k : Nat) (x : Gath) : (s.setGath k x).thm = s.thm := rfl
@[simp] theorem State.setGath_sec (s : State) (k : Nat) (x : Gath) : (s.setGath k x).sec = s.sec := rfl
@[simp] theorem State.setGath_pins (s : State) (k : Nat) (x : Gath) : (s.setGath k x).pins = s.pins := rfl
@[simp] theorem State.setGath_dec_tab (s : State) (k : Nat) (x : Gath) : (s.setGath k x).dec.tab = s.dec.tab := rfl
@[simp] theorem State.setGath_dec_held (s : State) (k : Nat) (x : Gath) : (s.setGath k x).dec.held = s.dec.held := rfl
@[simp] theorem State.setGath_dec_x (s : State) (k : Nat) (x : Gath) : (s.setGath k x).dec.x = s.dec.x := rfl
@[simp] theorem State.setGath_dec_z (s : State) (k : Nat) (x : Gath) : (s.setGath k x).dec.z = s.dec.z := rfl
@[simp] theorem State.setGath_dec_chain (s : State) (k : Nat) (x : Gath) : (s.setGath k x).dec.chain = s.dec.chain := rfl
@[simp] theorem State.setGath_dec_pair (s : State) (k : Nat) (x : Gath) : (s.setGath k x).dec.pair = s.dec.pair := rfl
@[simp] theorem State.setGath_dec_own (s : State) (k : Nat) (x : Gath) : (s.setGath k x).dec.own = s.dec.own := rfl
@[simp] theorem State.setGath_dec_act (s : State) (k : Nat) (x : Gath) : (s.setGath k x).dec.act = s.dec.act := rfl
@[simp] theorem State.setGath_dec_bad (s : State) (k : Nat) (x : Gath) : (s.setGath k x).dec.bad = s.dec.bad := rfl
@[simp] theorem State.setGath_dec_ecc (s : State) (k : Nat) (x : Gath) : (s.setGath k x).dec.ecc = s.dec.ecc := rfl
@[simp] theorem State.setGath_reg (s : State) (k : Nat) (x : Gath) (a : Nat) : (s.setGath k x).reg a = s.reg a := rfl
@[simp] theorem State.setGath_g (s : State) (k : Nat) (x : Gath) (pg : Nat) (f : Fld) : (s.setGath k x).g pg f = s.g pg f := rfl
@[simp] theorem State.setGath_on (s : State) (k : Nat) (x : Gath) (pg : Nat) (f : Fld) : (s.setGath k x).on pg f = s.on pg f := rfl
@[simp] theorem State.setGath_gath_self (s : State) (k : Nat) (x : Gath) : (s.setGath k x).gath k = x := by
  simp [State.setGath, State.gath, Tab.get_set_self]
theorem State.setGath_gath_ne (s : State) {k j : Nat} (x : Gath) (h : j ≠ k) : (s.setGath k x).gath j = s.gath j := by
  simp [State.setGath, State.gath, Tab.get_set_ne _ _ _ h]

/-! ### setPair -/

@[simp] theorem State.setPair_pending (s : State) (k : Nat) (x : Pair) : (s.setPair k x).pending = s.pending := rfl
@[simp] theorem State.setPair_regs (s : State) (k : Nat) (x : Pair) : (s.setPair k x).regs = s.regs := rfl
@[simp] theorem State.setPair_shadow (s : State) (k : Nat) (x : Pair) : (s.setPair k x).shadow = s.shadow := rfl
@[simp] theorem State.setPair_heldRd (s : State) (k : Nat) (x : Pair) : (s.setPair k x).heldRd = s.heldRd := rfl
@[simp] theorem State.setPair_heldWr (s : State) (k : Nat) (x : Pair) : (s.setPair k x).heldWr = s.heldWr := rfl
@[simp] theorem State.setPair_free (s : State) (k : Nat) (x : Pair) : (s.setPair k x).free = s.free := rfl
@[simp] theorem State.setPair_tim (s : State) (k : Nat) (x : Pair) : (s.setPair k x).tim = s.tim := rfl
@[simp] theorem State.setPair_syn (s : State) (k : Nat) (x : Pair) : (s.setPair k x).syn = s.syn := rfl
@[simp] theorem State.setPair_sqr (s : State) (k : Nat) (x : Pair) : (s.setPair k x).sqr = s.sqr := rfl
@[simp] theorem State.setPair_rdo (s : State) (k : Nat) (x : Pair) : (s.setPair k x).rdo = s.rdo := rfl
@[simp] theorem State.setPair_acq (s : State) (k : Nat) (x : Pair) : (s.setPair k x).acq = s.acq := rfl
@[simp] theorem State.setPair_bm (s : State) (k : Nat) (x : Pair) : (s.setPair k x).bm = s.bm := rfl
@[simp] theorem State.setPair_mem (s : State) (k : Nat) (x : Pair) : (s.setPair k x).mem = s.mem := rfl
@[simp] theorem State.setPair_hif (s : State) (k : Nat) (x : Pair) : (s.setPair k x).hif = s.hif := rfl
@[simp] theorem State.setPair_fab (s : State) (k : Nat) (x : Pair) : (s.setPair k x).fab = s.fab := rfl
@[simp] theorem State.setPair_hrt (s : State) (k : Nat) (x : Pair) : (s.setPair k x).hrt = s.hrt := rfl
@[simp] theorem State.setPair_int (s : State) (k : Nat) (x : Pair) : (s.setPair k x).int = s.int := rfl
@[simp] theorem State.setPair_evr (s : State) (k : Nat) (x : Pair) : (s.setPair k x).evr = s.evr := rfl
@[simp] theorem State.setPair_log (s : State) (k : Nat) (x : Pair) : (s.setPair k x).log = s.log := rfl
@[simp] theorem State.setPair_bst (s : State) (k : Nat) (x : Pair) : (s.setPair k x).bst = s.bst := rfl
@[simp] theorem State.setPair_pwr (s : State) (k : Nat) (x : Pair) : (s.setPair k x).pwr = s.pwr := rfl
@[simp] theorem State.setPair_thm (s : State) (k : Nat) (x : Pair) : (s.setPair k x).thm = s.thm := rfl
@[simp] theorem State.setPair_sec (s : State) (k : Nat) (x : Pair) : (s.setPair k x).sec = s.sec := rfl
@[simp] theorem State.setPair_pins (s : State) (k : Nat) (x : Pair) : (s.setPair k x).pins = s.pins := rfl
@[simp] theorem State.setPair_dec_gu (s : State) (k : Nat) (x : Pair) : (s.setPair k x).dec.gu = s.dec.gu := rfl
@[simp] theorem State.setPair_dec_tab (s : State) (k : Nat) (x : Pair) : (s.setPair k x).dec.tab = s.dec.tab := rfl
@[simp] theorem State.setPair_dec_held (s : State) (k : Nat) (x : Pair) : (s.setPair k x).dec.held = s.dec.held := rfl
@[simp] theorem State.setPair_dec_x (s : State) (k : Nat) (x : Pair) : (s.setPair k x).dec.x = s.dec.x := rfl
@[simp] theorem State.setPair_dec_z (s : State) (k : Nat) (x : Pair) : (s.setPair k x).dec.z = s.dec.z := rfl
@[simp] theorem State.setPair_dec_chain (s : State) (k : Nat) (x : Pair) : (s.setPair k x).dec.chain = s.dec.chain := rfl
@[simp] theorem State.setPair_dec_own (s : State) (k : Nat) (x : Pair) : (s.setPair k x).dec.own = s.dec.own := rfl
@[simp] theorem State.setPair_dec_act (s : State) (k : Nat) (x : Pair) : (s.setPair k x).dec.act = s.dec.act := rfl
@[simp] theorem State.setPair_dec_bad (s : State) (k : Nat) (x : Pair) : (s.setPair k x).dec.bad = s.dec.bad := rfl
@[simp] theorem State.setPair_dec_ecc (s : State) (k : Nat) (x : Pair) : (s.setPair k x).dec.ecc = s.dec.ecc := rfl
@[simp] theorem State.setPair_reg (s : State) (k : Nat) (x : Pair) (a : Nat) : (s.setPair k x).reg a = s.reg a := rfl
@[simp] theorem State.setPair_g (s : State) (k : Nat) (x : Pair) (pg : Nat) (f : Fld) : (s.setPair k x).g pg f = s.g pg f := rfl
@[simp] theorem State.setPair_on (s : State) (k : Nat) (x : Pair) (pg : Nat) (f : Fld) : (s.setPair k x).on pg f = s.on pg f := rfl
@[simp] theorem State.setPair_pair_self (s : State) (k : Nat) (x : Pair) : (s.setPair k x).pair k = x := by
  simp [State.setPair, State.pair, Tab.get_set_self]
theorem State.setPair_pair_ne (s : State) {k j : Nat} (x : Pair) (h : j ≠ k) : (s.setPair k x).pair j = s.pair j := by
  simp [State.setPair, State.pair, Tab.get_set_ne _ _ _ h]

/-! ### setLane -/

@[simp] theorem State.setLane_pending (s : State) (k : Nat) (x : Lane) : (s.setLane k x).pending = s.pending := rfl
@[simp] theorem State.setLane_regs (s : State) (k : Nat) (x : Lane) : (s.setLane k x).regs = s.regs := rfl
@[simp] theorem State.setLane_shadow (s : State) (k : Nat) (x : Lane) : (s.setLane k x).shadow = s.shadow := rfl
@[simp] theorem State.setLane_heldRd (s : State) (k : Nat) (x : Lane) : (s.setLane k x).heldRd = s.heldRd := rfl
@[simp] theorem State.setLane_heldWr (s : State) (k : Nat) (x : Lane) : (s.setLane k x).heldWr = s.heldWr := rfl
@[simp] theorem State.setLane_free (s : State) (k : Nat) (x : Lane) : (s.setLane k x).free = s.free := rfl
@[simp] theorem State.setLane_tim (s : State) (k : Nat) (x : Lane) : (s.setLane k x).tim = s.tim := rfl
@[simp] theorem State.setLane_syn (s : State) (k : Nat) (x : Lane) : (s.setLane k x).syn = s.syn := rfl
@[simp] theorem State.setLane_sqr (s : State) (k : Nat) (x : Lane) : (s.setLane k x).sqr = s.sqr := rfl
@[simp] theorem State.setLane_rdo (s : State) (k : Nat) (x : Lane) : (s.setLane k x).rdo = s.rdo := rfl
@[simp] theorem State.setLane_dec (s : State) (k : Nat) (x : Lane) : (s.setLane k x).dec = s.dec := rfl
@[simp] theorem State.setLane_acq (s : State) (k : Nat) (x : Lane) : (s.setLane k x).acq = s.acq := rfl
@[simp] theorem State.setLane_bm (s : State) (k : Nat) (x : Lane) : (s.setLane k x).bm = s.bm := rfl
@[simp] theorem State.setLane_mem (s : State) (k : Nat) (x : Lane) : (s.setLane k x).mem = s.mem := rfl
@[simp] theorem State.setLane_hif (s : State) (k : Nat) (x : Lane) : (s.setLane k x).hif = s.hif := rfl
@[simp] theorem State.setLane_hrt (s : State) (k : Nat) (x : Lane) : (s.setLane k x).hrt = s.hrt := rfl
@[simp] theorem State.setLane_int (s : State) (k : Nat) (x : Lane) : (s.setLane k x).int = s.int := rfl
@[simp] theorem State.setLane_evr (s : State) (k : Nat) (x : Lane) : (s.setLane k x).evr = s.evr := rfl
@[simp] theorem State.setLane_log (s : State) (k : Nat) (x : Lane) : (s.setLane k x).log = s.log := rfl
@[simp] theorem State.setLane_bst (s : State) (k : Nat) (x : Lane) : (s.setLane k x).bst = s.bst := rfl
@[simp] theorem State.setLane_pwr (s : State) (k : Nat) (x : Lane) : (s.setLane k x).pwr = s.pwr := rfl
@[simp] theorem State.setLane_thm (s : State) (k : Nat) (x : Lane) : (s.setLane k x).thm = s.thm := rfl
@[simp] theorem State.setLane_sec (s : State) (k : Nat) (x : Lane) : (s.setLane k x).sec = s.sec := rfl
@[simp] theorem State.setLane_pins (s : State) (k : Nat) (x : Lane) : (s.setLane k x).pins = s.pins := rfl
@[simp] theorem State.setLane_fab_port (s : State) (k : Nat) (x : Lane) : (s.setLane k x).fab.port = s.fab.port := rfl
@[simp] theorem State.setLane_fab_inbox (s : State) (k : Nat) (x : Lane) : (s.setLane k x).fab.inbox = s.fab.inbox := rfl
@[simp] theorem State.setLane_fab_discNo (s : State) (k : Nat) (x : Lane) : (s.setLane k x).fab.discNo = s.fab.discNo := rfl
@[simp] theorem State.setLane_fab_parent (s : State) (k : Nat) (x : Lane) : (s.setLane k x).fab.parent = s.fab.parent := rfl
@[simp] theorem State.setLane_fab_claims (s : State) (k : Nat) (x : Lane) : (s.setLane k x).fab.claims = s.fab.claims := rfl
@[simp] theorem State.setLane_fab_lastAnn (s : State) (k : Nat) (x : Lane) : (s.setLane k x).fab.lastAnn = s.fab.lastAnn := rfl
@[simp] theorem State.setLane_fab_discOwed (s : State) (k : Nat) (x : Lane) : (s.setLane k x).fab.discOwed = s.fab.discOwed := rfl
@[simp] theorem State.setLane_fab_discEnd (s : State) (k : Nat) (x : Lane) : (s.setLane k x).fab.discEnd = s.fab.discEnd := rfl
@[simp] theorem State.setLane_fab_discUntil (s : State) (k : Nat) (x : Lane) : (s.setLane k x).fab.discUntil = s.fab.discUntil := rfl
@[simp] theorem State.setLane_fab_vec (s : State) (k : Nat) (x : Lane) : (s.setLane k x).fab.vec = s.fab.vec := rfl
@[simp] theorem State.setLane_fab_heardAt (s : State) (k : Nat) (x : Lane) : (s.setLane k x).fab.heardAt = s.fab.heardAt := rfl
@[simp] theorem State.setLane_fab_failAt (s : State) (k : Nat) (x : Lane) : (s.setLane k x).fab.failAt = s.fab.failAt := rfl
@[simp] theorem State.setLane_fab_enabledAt (s : State) (k : Nat) (x : Lane) : (s.setLane k x).fab.enabledAt = s.fab.enabledAt := rfl
@[simp] theorem State.setLane_fab_beatAt (s : State) (k : Nat) (x : Lane) : (s.setLane k x).fab.beatAt = s.fab.beatAt := rfl
@[simp] theorem State.setLane_fab_takeover (s : State) (k : Nat) (x : Lane) : (s.setLane k x).fab.takeover = s.fab.takeover := rfl
@[simp] theorem State.setLane_fab_takeAt (s : State) (k : Nat) (x : Lane) : (s.setLane k x).fab.takeAt = s.fab.takeAt := rfl
@[simp] theorem State.setLane_fab_marked (s : State) (k : Nat) (x : Lane) : (s.setLane k x).fab.marked = s.fab.marked := rfl
@[simp] theorem State.setLane_fab_holdTo (s : State) (k : Nat) (x : Lane) : (s.setLane k x).fab.holdTo = s.fab.holdTo := rfl
@[simp] theorem State.setLane_fab_withheld (s : State) (k : Nat) (x : Lane) : (s.setLane k x).fab.withheld = s.fab.withheld := rfl
@[simp] theorem State.setLane_fab_comets (s : State) (k : Nat) (x : Lane) : (s.setLane k x).fab.comets = s.fab.comets := rfl
@[simp] theorem State.setLane_fab_digest (s : State) (k : Nat) (x : Lane) : (s.setLane k x).fab.digest = s.fab.digest := rfl
@[simp] theorem State.setLane_fab_handShot (s : State) (k : Nat) (x : Lane) : (s.setLane k x).fab.handShot = s.fab.handShot := rfl
@[simp] theorem State.setLane_fab_handOwed (s : State) (k : Nat) (x : Lane) : (s.setLane k x).fab.handOwed = s.fab.handOwed := rfl
@[simp] theorem State.setLane_fab_joinAsk (s : State) (k : Nat) (x : Lane) : (s.setLane k x).fab.joinAsk = s.fab.joinAsk := rfl
@[simp] theorem State.setLane_fab_joinLeft (s : State) (k : Nat) (x : Lane) : (s.setLane k x).fab.joinLeft = s.fab.joinLeft := rfl
@[simp] theorem State.setLane_fab_joinWords (s : State) (k : Nat) (x : Lane) : (s.setLane k x).fab.joinWords = s.fab.joinWords := rfl
@[simp] theorem State.setLane_fab_joinHeld (s : State) (k : Nat) (x : Lane) : (s.setLane k x).fab.joinHeld = s.fab.joinHeld := rfl
@[simp] theorem State.setLane_fab_joined (s : State) (k : Nat) (x : Lane) : (s.setLane k x).fab.joined = s.fab.joined := rfl
@[simp] theorem State.setLane_fab_twinMute (s : State) (k : Nat) (x : Lane) : (s.setLane k x).fab.twinMute = s.fab.twinMute := rfl
@[simp] theorem State.setLane_reg (s : State) (k : Nat) (x : Lane) (a : Nat) : (s.setLane k x).reg a = s.reg a := rfl
@[simp] theorem State.setLane_g (s : State) (k : Nat) (x : Lane) (pg : Nat) (f : Fld) : (s.setLane k x).g pg f = s.g pg f := rfl
@[simp] theorem State.setLane_on (s : State) (k : Nat) (x : Lane) (pg : Nat) (f : Fld) : (s.setLane k x).on pg f = s.on pg f := rfl
@[simp] theorem State.setLane_lane_self (s : State) (k : Nat) (x : Lane) : (s.setLane k x).lane k = x := by
  simp [State.setLane, State.lane, Tab.get_set_self]
theorem State.setLane_lane_ne (s : State) {k j : Nat} (x : Lane) (h : j ≠ k) : (s.setLane k x).lane j = s.lane j := by
  simp [State.setLane, State.lane, Tab.get_set_ne _ _ _ h]

/-! ### setPort -/

@[simp] theorem State.setPort_pending (s : State) (k : Nat) (x : FPort) : (s.setPort k x).pending = s.pending := rfl
@[simp] theorem State.setPort_regs (s : State) (k : Nat) (x : FPort) : (s.setPort k x).regs = s.regs := rfl
@[simp] theorem State.setPort_shadow (s : State) (k : Nat) (x : FPort) : (s.setPort k x).shadow = s.shadow := rfl
@[simp] theorem State.setPort_heldRd (s : State) (k : Nat) (x : FPort) : (s.setPort k x).heldRd = s.heldRd := rfl
@[simp] theorem State.setPort_heldWr (s : State) (k : Nat) (x : FPort) : (s.setPort k x).heldWr = s.heldWr := rfl
@[simp] theorem State.setPort_free (s : State) (k : Nat) (x : FPort) : (s.setPort k x).free = s.free := rfl
@[simp] theorem State.setPort_tim (s : State) (k : Nat) (x : FPort) : (s.setPort k x).tim = s.tim := rfl
@[simp] theorem State.setPort_syn (s : State) (k : Nat) (x : FPort) : (s.setPort k x).syn = s.syn := rfl
@[simp] theorem State.setPort_sqr (s : State) (k : Nat) (x : FPort) : (s.setPort k x).sqr = s.sqr := rfl
@[simp] theorem State.setPort_rdo (s : State) (k : Nat) (x : FPort) : (s.setPort k x).rdo = s.rdo := rfl
@[simp] theorem State.setPort_dec (s : State) (k : Nat) (x : FPort) : (s.setPort k x).dec = s.dec := rfl
@[simp] theorem State.setPort_acq (s : State) (k : Nat) (x : FPort) : (s.setPort k x).acq = s.acq := rfl
@[simp] theorem State.setPort_bm (s : State) (k : Nat) (x : FPort) : (s.setPort k x).bm = s.bm := rfl
@[simp] theorem State.setPort_mem (s : State) (k : Nat) (x : FPort) : (s.setPort k x).mem = s.mem := rfl
@[simp] theorem State.setPort_hif (s : State) (k : Nat) (x : FPort) : (s.setPort k x).hif = s.hif := rfl
@[simp] theorem State.setPort_hrt (s : State) (k : Nat) (x : FPort) : (s.setPort k x).hrt = s.hrt := rfl
@[simp] theorem State.setPort_int (s : State) (k : Nat) (x : FPort) : (s.setPort k x).int = s.int := rfl
@[simp] theorem State.setPort_evr (s : State) (k : Nat) (x : FPort) : (s.setPort k x).evr = s.evr := rfl
@[simp] theorem State.setPort_log (s : State) (k : Nat) (x : FPort) : (s.setPort k x).log = s.log := rfl
@[simp] theorem State.setPort_bst (s : State) (k : Nat) (x : FPort) : (s.setPort k x).bst = s.bst := rfl
@[simp] theorem State.setPort_pwr (s : State) (k : Nat) (x : FPort) : (s.setPort k x).pwr = s.pwr := rfl
@[simp] theorem State.setPort_thm (s : State) (k : Nat) (x : FPort) : (s.setPort k x).thm = s.thm := rfl
@[simp] theorem State.setPort_sec (s : State) (k : Nat) (x : FPort) : (s.setPort k x).sec = s.sec := rfl
@[simp] theorem State.setPort_pins (s : State) (k : Nat) (x : FPort) : (s.setPort k x).pins = s.pins := rfl
@[simp] theorem State.setPort_fab_lane (s : State) (k : Nat) (x : FPort) : (s.setPort k x).fab.lane = s.fab.lane := rfl
@[simp] theorem State.setPort_fab_inbox (s : State) (k : Nat) (x : FPort) : (s.setPort k x).fab.inbox = s.fab.inbox := rfl
@[simp] theorem State.setPort_fab_discNo (s : State) (k : Nat) (x : FPort) : (s.setPort k x).fab.discNo = s.fab.discNo := rfl
@[simp] theorem State.setPort_fab_parent (s : State) (k : Nat) (x : FPort) : (s.setPort k x).fab.parent = s.fab.parent := rfl
@[simp] theorem State.setPort_fab_claims (s : State) (k : Nat) (x : FPort) : (s.setPort k x).fab.claims = s.fab.claims := rfl
@[simp] theorem State.setPort_fab_lastAnn (s : State) (k : Nat) (x : FPort) : (s.setPort k x).fab.lastAnn = s.fab.lastAnn := rfl
@[simp] theorem State.setPort_fab_discOwed (s : State) (k : Nat) (x : FPort) : (s.setPort k x).fab.discOwed = s.fab.discOwed := rfl
@[simp] theorem State.setPort_fab_discEnd (s : State) (k : Nat) (x : FPort) : (s.setPort k x).fab.discEnd = s.fab.discEnd := rfl
@[simp] theorem State.setPort_fab_discUntil (s : State) (k : Nat) (x : FPort) : (s.setPort k x).fab.discUntil = s.fab.discUntil := rfl
@[simp] theorem State.setPort_fab_vec (s : State) (k : Nat) (x : FPort) : (s.setPort k x).fab.vec = s.fab.vec := rfl
@[simp] theorem State.setPort_fab_heardAt (s : State) (k : Nat) (x : FPort) : (s.setPort k x).fab.heardAt = s.fab.heardAt := rfl
@[simp] theorem State.setPort_fab_failAt (s : State) (k : Nat) (x : FPort) : (s.setPort k x).fab.failAt = s.fab.failAt := rfl
@[simp] theorem State.setPort_fab_enabledAt (s : State) (k : Nat) (x : FPort) : (s.setPort k x).fab.enabledAt = s.fab.enabledAt := rfl
@[simp] theorem State.setPort_fab_beatAt (s : State) (k : Nat) (x : FPort) : (s.setPort k x).fab.beatAt = s.fab.beatAt := rfl
@[simp] theorem State.setPort_fab_takeover (s : State) (k : Nat) (x : FPort) : (s.setPort k x).fab.takeover = s.fab.takeover := rfl
@[simp] theorem State.setPort_fab_takeAt (s : State) (k : Nat) (x : FPort) : (s.setPort k x).fab.takeAt = s.fab.takeAt := rfl
@[simp] theorem State.setPort_fab_marked (s : State) (k : Nat) (x : FPort) : (s.setPort k x).fab.marked = s.fab.marked := rfl
@[simp] theorem State.setPort_fab_holdTo (s : State) (k : Nat) (x : FPort) : (s.setPort k x).fab.holdTo = s.fab.holdTo := rfl
@[simp] theorem State.setPort_fab_withheld (s : State) (k : Nat) (x : FPort) : (s.setPort k x).fab.withheld = s.fab.withheld := rfl
@[simp] theorem State.setPort_fab_comets (s : State) (k : Nat) (x : FPort) : (s.setPort k x).fab.comets = s.fab.comets := rfl
@[simp] theorem State.setPort_fab_digest (s : State) (k : Nat) (x : FPort) : (s.setPort k x).fab.digest = s.fab.digest := rfl
@[simp] theorem State.setPort_fab_handShot (s : State) (k : Nat) (x : FPort) : (s.setPort k x).fab.handShot = s.fab.handShot := rfl
@[simp] theorem State.setPort_fab_handOwed (s : State) (k : Nat) (x : FPort) : (s.setPort k x).fab.handOwed = s.fab.handOwed := rfl
@[simp] theorem State.setPort_fab_joinAsk (s : State) (k : Nat) (x : FPort) : (s.setPort k x).fab.joinAsk = s.fab.joinAsk := rfl
@[simp] theorem State.setPort_fab_joinLeft (s : State) (k : Nat) (x : FPort) : (s.setPort k x).fab.joinLeft = s.fab.joinLeft := rfl
@[simp] theorem State.setPort_fab_joinWords (s : State) (k : Nat) (x : FPort) : (s.setPort k x).fab.joinWords = s.fab.joinWords := rfl
@[simp] theorem State.setPort_fab_joinHeld (s : State) (k : Nat) (x : FPort) : (s.setPort k x).fab.joinHeld = s.fab.joinHeld := rfl
@[simp] theorem State.setPort_fab_joined (s : State) (k : Nat) (x : FPort) : (s.setPort k x).fab.joined = s.fab.joined := rfl
@[simp] theorem State.setPort_fab_twinMute (s : State) (k : Nat) (x : FPort) : (s.setPort k x).fab.twinMute = s.fab.twinMute := rfl
@[simp] theorem State.setPort_reg (s : State) (k : Nat) (x : FPort) (a : Nat) : (s.setPort k x).reg a = s.reg a := rfl
@[simp] theorem State.setPort_g (s : State) (k : Nat) (x : FPort) (pg : Nat) (f : Fld) : (s.setPort k x).g pg f = s.g pg f := rfl
@[simp] theorem State.setPort_on (s : State) (k : Nat) (x : FPort) (pg : Nat) (f : Fld) : (s.setPort k x).on pg f = s.on pg f := rfl
@[simp] theorem State.setPort_port_self (s : State) (k : Nat) (x : FPort) : (s.setPort k x).port k = x := by
  simp [State.setPort, State.port, Tab.get_set_self]
theorem State.setPort_port_ne (s : State) {k j : Nat} (x : FPort) (h : j ≠ k) : (s.setPort k x).port j = s.port j := by
  simp [State.setPort, State.port, Tab.get_set_ne _ _ _ h]

/-! ### setSlice -/

@[simp] theorem State.setSlice_pending (s : State) (k : Nat) (x : Slice) : (s.setSlice k x).pending = s.pending := rfl
@[simp] theorem State.setSlice_regs (s : State) (k : Nat) (x : Slice) : (s.setSlice k x).regs = s.regs := rfl
@[simp] theorem State.setSlice_shadow (s : State) (k : Nat) (x : Slice) : (s.setSlice k x).shadow = s.shadow := rfl
@[simp] theorem State.setSlice_heldRd (s : State) (k : Nat) (x : Slice) : (s.setSlice k x).heldRd = s.heldRd := rfl
@[simp] theorem State.setSlice_heldWr (s : State) (k : Nat) (x : Slice) : (s.setSlice k x).heldWr = s.heldWr := rfl
@[simp] theorem State.setSlice_free (s : State) (k : Nat) (x : Slice) : (s.setSlice k x).free = s.free := rfl
@[simp] theorem State.setSlice_tim (s : State) (k : Nat) (x : Slice) : (s.setSlice k x).tim = s.tim := rfl
@[simp] theorem State.setSlice_syn (s : State) (k : Nat) (x : Slice) : (s.setSlice k x).syn = s.syn := rfl
@[simp] theorem State.setSlice_sqr (s : State) (k : Nat) (x : Slice) : (s.setSlice k x).sqr = s.sqr := rfl
@[simp] theorem State.setSlice_rdo (s : State) (k : Nat) (x : Slice) : (s.setSlice k x).rdo = s.rdo := rfl
@[simp] theorem State.setSlice_dec (s : State) (k : Nat) (x : Slice) : (s.setSlice k x).dec = s.dec := rfl
@[simp] theorem State.setSlice_acq (s : State) (k : Nat) (x : Slice) : (s.setSlice k x).acq = s.acq := rfl
@[simp] theorem State.setSlice_bm (s : State) (k : Nat) (x : Slice) : (s.setSlice k x).bm = s.bm := rfl
@[simp] theorem State.setSlice_mem (s : State) (k : Nat) (x : Slice) : (s.setSlice k x).mem = s.mem := rfl
@[simp] theorem State.setSlice_hif (s : State) (k : Nat) (x : Slice) : (s.setSlice k x).hif = s.hif := rfl
@[simp] theorem State.setSlice_fab (s : State) (k : Nat) (x : Slice) : (s.setSlice k x).fab = s.fab := rfl
@[simp] theorem State.setSlice_hrt (s : State) (k : Nat) (x : Slice) : (s.setSlice k x).hrt = s.hrt := rfl
@[simp] theorem State.setSlice_int (s : State) (k : Nat) (x : Slice) : (s.setSlice k x).int = s.int := rfl
@[simp] theorem State.setSlice_evr (s : State) (k : Nat) (x : Slice) : (s.setSlice k x).evr = s.evr := rfl
@[simp] theorem State.setSlice_log (s : State) (k : Nat) (x : Slice) : (s.setSlice k x).log = s.log := rfl
@[simp] theorem State.setSlice_pwr (s : State) (k : Nat) (x : Slice) : (s.setSlice k x).pwr = s.pwr := rfl
@[simp] theorem State.setSlice_thm (s : State) (k : Nat) (x : Slice) : (s.setSlice k x).thm = s.thm := rfl
@[simp] theorem State.setSlice_sec (s : State) (k : Nat) (x : Slice) : (s.setSlice k x).sec = s.sec := rfl
@[simp] theorem State.setSlice_pins (s : State) (k : Nat) (x : Slice) : (s.setSlice k x).pins = s.pins := rfl
@[simp] theorem State.setSlice_bst_left (s : State) (k : Nat) (x : Slice) : (s.setSlice k x).bst.left = s.bst.left := rfl
@[simp] theorem State.setSlice_bst_now (s : State) (k : Nat) (x : Slice) : (s.setSlice k x).bst.now = s.bst.now := rfl
@[simp] theorem State.setSlice_bst_ended (s : State) (k : Nat) (x : Slice) : (s.setSlice k x).bst.ended = s.bst.ended := rfl
@[simp] theorem State.setSlice_bst_owed (s : State) (k : Nat) (x : Slice) : (s.setSlice k x).bst.owed = s.bst.owed := rfl
@[simp] theorem State.setSlice_bst_why (s : State) (k : Nat) (x : Slice) : (s.setSlice k x).bst.why = s.bst.why := rfl
@[simp] theorem State.setSlice_bst_fails (s : State) (k : Nat) (x : Slice) : (s.setSlice k x).bst.fails = s.bst.fails := rfl
@[simp] theorem State.setSlice_bst_turns (s : State) (k : Nat) (x : Slice) : (s.setSlice k x).bst.turns = s.bst.turns := rfl
@[simp] theorem State.setSlice_bst_checks (s : State) (k : Nat) (x : Slice) : (s.setSlice k x).bst.checks = s.bst.checks := rfl
@[simp] theorem State.setSlice_bst_proofs (s : State) (k : Nat) (x : Slice) : (s.setSlice k x).bst.proofs = s.bst.proofs := rfl
@[simp] theorem State.setSlice_bst_after (s : State) (k : Nat) (x : Slice) : (s.setSlice k x).bst.after = s.bst.after := rfl
@[simp] theorem State.setSlice_reg (s : State) (k : Nat) (x : Slice) (a : Nat) : (s.setSlice k x).reg a = s.reg a := rfl
@[simp] theorem State.setSlice_g (s : State) (k : Nat) (x : Slice) (pg : Nat) (f : Fld) : (s.setSlice k x).g pg f = s.g pg f := rfl
@[simp] theorem State.setSlice_on (s : State) (k : Nat) (x : Slice) (pg : Nat) (f : Fld) : (s.setSlice k x).on pg f = s.on pg f := rfl
@[simp] theorem State.setSlice_slice_self (s : State) (k : Nat) (x : Slice) : (s.setSlice k x).slice k = x := by
  simp [State.setSlice, State.slice, Tab.get_set_self]
theorem State.setSlice_slice_ne (s : State) {k j : Nat} (x : Slice) (h : j ≠ k) : (s.setSlice k x).slice j = s.slice j := by
  simp [State.setSlice, State.slice, Tab.get_set_ne _ _ _ h]

/-! ### setHctx -/

@[simp] theorem State.setHctx_pending (s : State) (k : Nat) (x : Ctx) : (s.setHctx k x).pending = s.pending := rfl
@[simp] theorem State.setHctx_regs (s : State) (k : Nat) (x : Ctx) : (s.setHctx k x).regs = s.regs := rfl
@[simp] theorem State.setHctx_shadow (s : State) (k : Nat) (x : Ctx) : (s.setHctx k x).shadow = s.shadow := rfl
@[simp] theorem State.setHctx_heldRd (s : State) (k : Nat) (x : Ctx) : (s.setHctx k x).heldRd = s.heldRd := rfl
@[simp] theorem State.setHctx_heldWr (s : State) (k : Nat) (x : Ctx) : (s.setHctx k x).heldWr = s.heldWr := rfl
@[simp] theorem State.setHctx_free (s : State) (k : Nat) (x : Ctx) : (s.setHctx k x).free = s.free := rfl
@[simp] theorem State.setHctx_tim (s : State) (k : Nat) (x : Ctx) : (s.setHctx k x).tim = s.tim := rfl
@[simp] theorem State.setHctx_syn (s : State) (k : Nat) (x : Ctx) : (s.setHctx k x).syn = s.syn := rfl
@[simp] theorem State.setHctx_sqr (s : State) (k : Nat) (x : Ctx) : (s.setHctx k x).sqr = s.sqr := rfl
@[simp] theorem State.setHctx_rdo (s : State) (k : Nat) (x : Ctx) : (s.setHctx k x).rdo = s.rdo := rfl
@[simp] theorem State.setHctx_dec (s : State) (k : Nat) (x : Ctx) : (s.setHctx k x).dec = s.dec := rfl
@[simp] theorem State.setHctx_acq (s : State) (k : Nat) (x : Ctx) : (s.setHctx k x).acq = s.acq := rfl
@[simp] theorem State.setHctx_bm (s : State) (k : Nat) (x : Ctx) : (s.setHctx k x).bm = s.bm := rfl
@[simp] theorem State.setHctx_mem (s : State) (k : Nat) (x : Ctx) : (s.setHctx k x).mem = s.mem := rfl
@[simp] theorem State.setHctx_hif (s : State) (k : Nat) (x : Ctx) : (s.setHctx k x).hif = s.hif := rfl
@[simp] theorem State.setHctx_fab (s : State) (k : Nat) (x : Ctx) : (s.setHctx k x).fab = s.fab := rfl
@[simp] theorem State.setHctx_int (s : State) (k : Nat) (x : Ctx) : (s.setHctx k x).int = s.int := rfl
@[simp] theorem State.setHctx_evr (s : State) (k : Nat) (x : Ctx) : (s.setHctx k x).evr = s.evr := rfl
@[simp] theorem State.setHctx_log (s : State) (k : Nat) (x : Ctx) : (s.setHctx k x).log = s.log := rfl
@[simp] theorem State.setHctx_bst (s : State) (k : Nat) (x : Ctx) : (s.setHctx k x).bst = s.bst := rfl
@[simp] theorem State.setHctx_pwr (s : State) (k : Nat) (x : Ctx) : (s.setHctx k x).pwr = s.pwr := rfl
@[simp] theorem State.setHctx_thm (s : State) (k : Nat) (x : Ctx) : (s.setHctx k x).thm = s.thm := rfl
@[simp] theorem State.setHctx_sec (s : State) (k : Nat) (x : Ctx) : (s.setHctx k x).sec = s.sec := rfl
@[simp] theorem State.setHctx_pins (s : State) (k : Nat) (x : Ctx) : (s.setHctx k x).pins = s.pins := rfl
@[simp] theorem State.setHctx_hrt_cur (s : State) (k : Nat) (x : Ctx) : (s.setHctx k x).hrt.cur = s.hrt.cur := rfl
@[simp] theorem State.setHctx_hrt_frames (s : State) (k : Nat) (x : Ctx) : (s.setHctx k x).hrt.frames = s.hrt.frames := rfl
@[simp] theorem State.setHctx_hrt_traps (s : State) (k : Nat) (x : Ctx) : (s.setHctx k x).hrt.traps = s.hrt.traps := rfl
@[simp] theorem State.setHctx_hrt_patch (s : State) (k : Nat) (x : Ctx) : (s.setHctx k x).hrt.patch = s.hrt.patch := rfl
@[simp] theorem State.setHctx_hrt_quiesce (s : State) (k : Nat) (x : Ctx) : (s.setHctx k x).hrt.quiesce = s.hrt.quiesce := rfl
@[simp] theorem State.setHctx_hrt_defer (s : State) (k : Nat) (x : Ctx) : (s.setHctx k x).hrt.defer = s.hrt.defer := rfl
@[simp] theorem State.setHctx_hrt_tickAt (s : State) (k : Nat) (x : Ctx) : (s.setHctx k x).hrt.tickAt = s.hrt.tickAt := rfl
@[simp] theorem State.setHctx_reg (s : State) (k : Nat) (x : Ctx) (a : Nat) : (s.setHctx k x).reg a = s.reg a := rfl
@[simp] theorem State.setHctx_g (s : State) (k : Nat) (x : Ctx) (pg : Nat) (f : Fld) : (s.setHctx k x).g pg f = s.g pg f := rfl
@[simp] theorem State.setHctx_on (s : State) (k : Nat) (x : Ctx) (pg : Nat) (f : Fld) : (s.setHctx k x).on pg f = s.on pg f := rfl
@[simp] theorem State.setHctx_hctx_self (s : State) (k : Nat) (x : Ctx) : (s.setHctx k x).hctx k = x := by
  simp [State.setHctx, State.hctx, Tab.get_set_self]
theorem State.setHctx_hctx_ne (s : State) {k j : Nat} (x : Ctx) (h : j ≠ k) : (s.setHctx k x).hctx j = s.hctx j := by
  simp [State.setHctx, State.hctx, Tab.get_set_ne _ _ _ h]

/-! ### Registers -/

/-- A register depends on the register table and the retained settings only. -/
theorem State.reg_congr {s t : State} (h : t.regs = s.regs) (h1 : t.pwr.ret = s.pwr.ret)
    (h2 : t.pwr.restored = s.pwr.restored) (a : Nat) : t.reg a = s.reg a := by
  simp only [State.reg, h, h1, h2]

/-- A register reads as it was written; its retained bits only once the settings are restored. -/
theorem State.reg_setReg_self (s : State) (a : Nat) (w : Word) :
    (s.setReg a w).reg a = (w &&& ~~~ retMask a) ||| (if s.pwr.restored then w &&& retMask a else 0) := by
  simp only [State.reg, State.setReg, Tab.get_set_self]
  by_cases h : s.pwr.restored = true
  · simp only [h, if_true, Tab.get_set_self]
    ext i
    simp only [BitVec.getElem_or, BitVec.getElem_and, BitVec.getElem_not]
    cases w[i] <;> cases (retMask a)[i] <;> rfl
  · simp only [h]
    ext i
    simp only [BitVec.getElem_or, BitVec.getElem_and, BitVec.getElem_not]
    cases w[i] <;> cases (retMask a)[i] <;> rfl

/-- Once the settings are restored, a register reads as it was written. -/
theorem State.reg_setReg_restored {s : State} (h : s.pwr.restored = true) (a : Nat) (w : Word) :
    (s.setReg a w).reg a = w := by
  rw [State.reg_setReg_self, h, if_pos rfl]
  ext i
  simp only [BitVec.getElem_or, BitVec.getElem_and, BitVec.getElem_not]
  cases w[i] <;> cases (retMask a)[i] <;> rfl

/-- Writing a register leaves every other as it was. -/
theorem State.reg_setReg_ne (s : State) {a b : Nat} (w : Word) (h : b ≠ a) : (s.setReg a w).reg b = s.reg b := by
  have h1 : (s.setReg a w).regs = s.regs.set (resetWord a) a (w &&& ~~~ retMask a) := rfl
  have h2 : (s.setReg a w).pwr.ret =
    if s.pwr.restored then s.pwr.ret.set (factoryWord a) a (w &&& retMask a) else s.pwr.ret := rfl
  simp only [State.reg, h1, h2, State.setReg_pwr_restored, Tab.get_set_other _ _ _ _ h]
  split
  · rw [Tab.get_set_other _ _ _ _ h]
  · rfl

end Sys2Proof.Machine
end

