-- ==== Sys2Proof/Laws/Issue.lean ====
section
/-!
SUPPORT. Laws/Issue.lean: what executing a sequencer instruction comes to, once the sequencer stands before its word
(`State.Issues`): the rule of R207 for an instruction that goes on, cited by every instruction's statement.
-/

namespace Sys2Proof.Machine
open Sys2Proof

theorem State.setSq_setSq (s : State) (q : Nat) (x y : Seq) (h : x.st ≠ 0) : (s.setSq q x).setSq q y = s.setSq q y := by
  unfold State.setSq
  have : x ≠ Seq.init := fun e => h (by rw [e]; rfl)
  simp only [Tab.set_set _ _ this]

@[simp] theorem State.setSq_sqs (s : State) (q : Nat) (x : Seq) : (s.setSq q x).sqs q = x := Tab.get_set_self _ _ _ _

/-- Moving timeline ticks by 0 leaves them. -/
@[simp] theorem Seq.shift_zero (x : Seq) (t0 : Nat) : x.shift t0 0 = x := by
  unfold Seq.shift
  rcases x with @⟨pc, last, st, sub, loops, v, acc, zero, neg, accSat, vSat, timeout, mtch, set, value, cfAt, cfBy, tau, ready, rep, seg⟩
  rcases seg with _ | ⟨b, _ | t⟩ <;> simp

/-- An instruction that executes runs its body on the running sequencer. -/
theorem issue_eq {s : State} {q op : Nat} {w : W64} (h : s.Issues q op w) (h2 : op ≠ 2) (body : State → W64 → Nat → Nat → Res) :
    s.issue q op body = (s.setSq q (s.seqOn q)).after q (s.sqs q).pc (s.tk (s.seqOwner q)) none
      (body (s.setSq q (s.seqOn q)) w (s.tk (s.seqOwner q)) (s.sqs q).tau) := by
  obtain ⟨h3, h4, h5, h6, h7, h8, h9, h10, h11, h12⟩ := h
  unfold State.issue
  simp only [h3, not_true, if_false, h8]
  unfold State.issue1
  have hl' : ¬ (s.sqs q).tau < s.tk (s.seqOwner q) + 92 := by omega
  simp only [h5, h6, h7, h8, h9, h10, h11, h2, hl', Nat.not_le.2 h4, if_false, false_and, Option.isSome_none, ne_eq,
    not_true, not_false_eq_true, decide_false, Bool.false_eq_true, State.seqOn, Nat.sub_self, Seq.shift_zero]

/-- A SEGMENT executes at the later of the stream's tick and the declared end of the segment before it (R217). -/
theorem issue_segment_at {s : State} {q t : Nat} {w : W64} (h : s.Issues q 2 w) (ht : max (s.sqs q).tau (s.sqs q).segEnd = t)
    (hf : (s.sqs q).first = false ∨ (s.sqs q).segEnd ≤ (s.sqs q).tau) (body : State → W64 → Nat → Nat → Res) :
    s.issue q 2 body = (s.setSq q { s.seqOn q with tau := t }).after q (s.sqs q).pc (s.tk (s.seqOwner q)) none
      (body (s.setSq q { s.seqOn q with tau := t }) w (s.tk (s.seqOwner q)) t) := by
  obtain ⟨h3, h4, h5, h6, h7, h8, h9, h10, h11, h12⟩ := h
  unfold State.issue
  simp only [h3, not_true, if_false, h8]
  unfold State.issue1
  have hl' : ¬ t < s.tk (s.seqOwner q) + 92 := by omega
  have hf' : ¬ ((s.sqs q).first = true ∧ (s.sqs q).tau < (s.sqs q).segEnd) := by
    rintro ⟨h, h'⟩; rcases hf with hf | hf
    · rw [hf] at h; cases h
    · omega
  simp only [h5, h6, h7, h8, h9, h10, h11, ht, hf', hl', Nat.not_le.2 h4, if_true, if_false, false_and, true_and, Option.isSome_none,
    ne_eq, not_true, decide_false, Bool.false_eq_true, State.seqOn, Nat.sub_self, Seq.shift_zero]

/-- A SEGMENT at whose declared end the stream stands, or has yet to come to, executes at that end (R217). -/
theorem issue_segment {s : State} {q l t : Nat} {w : W64} (h : s.Issues q 2 w) (hs : (s.sqs q).seg = some (l, some t))
    (ht : (s.sqs q).tau ≤ t) (hf : (s.sqs q).first = false) (body : State → W64 → Nat → Nat → Res) :
    s.issue q 2 body = (s.setSq q { s.seqOn q with tau := t }).after q (s.sqs q).pc (s.tk (s.seqOwner q)) none
      (body (s.setSq q { s.seqOn q with tau := t }) w (s.tk (s.seqOwner q)) t) :=
  issue_segment_at h (by unfold Seq.segEnd; rw [hs]; exact Nat.max_eq_right ht) (.inl hf) body

/-- The end of an instruction that went on. -/
theorem after_go (s s0 t : State) (q a cost dur : Nat) (y : Seq) (n : Nat)
    (ht : t = s.setSq q y) (hy : y.st ≠ 0) (hd : (s0.sqs q).first = false ∨ dur = 0) :
    s0.after q a (s.tk (s.seqOwner q)) none (.go t (some n) cost dur) = s.seqGo q y n cost dur := by
  subst ht
  have h1 : ¬ ((s0.sqs q).first = true ∧ dur ≠ 0) := by
    rintro ⟨h, h'⟩; rcases hd with hd | hd
    · rw [hd] at h; cases h
    · exact h' hd
  unfold State.after
  simp only [if_neg h1, State.setSq_sqs, State.setSq_setSq _ _ _ _ hy]
  rfl

/-- An instruction that changes only its sequencer, and goes on to the next. -/
theorem issue_alu {s : State} {q op : Nat} {w : W64} {body : State → W64 → Nat → Nat → Res} (f : Seq → Seq)
    (h : s.Issues q op w) (h2 : op ≠ 2) (hf : (f (s.seqOn q)).st ≠ 0)
    (hp : (f (s.seqOn q)).pc = (s.sqs q).pc)
    (hb : ∀ t e τ, body t w e τ = t.alu q f) : s.issue q op body = s.seqNext q (f (s.seqOn q)) := by
  rw [issue_eq h h2, hb]
  unfold State.alu State.nextA
  simp only [State.setSq_sqs, hp]
  exact after_go s _ ((s.setSq q (s.seqOn q)).setSq q (f (s.seqOn q))) q (s.sqs q).pc 1 0 (f (s.seqOn q)) ((s.sqs q).pc + 1)
    (State.setSq_setSq _ _ _ _ (show (2 : Nat) ≠ 0 by decide)) hf (.inr rfl)

/-- An instruction that leaves sequencer state `y`, where its rule names the next address. -/
theorem issue_go {s : State} {q op : Nat} {w : W64} {body : State → W64 → Nat → Nat → Res} (y : Seq) (n cost dur : Nat)
    (h : s.Issues q op w) (h2 : op ≠ 2) (hy : y.st ≠ 0) (hd : (s.sqs q).first = false ∨ dur = 0)
    (hb : body (s.setSq q (s.seqOn q)) w (s.tk (s.seqOwner q)) (s.sqs q).tau
      = .go (s.setSq q y) (some n) cost dur) : s.issue q op body = s.seqGo q y n cost dur := by
  rw [issue_eq h h2, hb]
  exact after_go s _ _ q _ cost dur y n rfl hy (by rw [State.setSq_sqs]; exact hd)

/-- An instruction that leaves effects for its timeline tick. -/
theorem setSq_later (s : State) (q t : Nat) (x : Seq) (f : Eff) (hx : x.st ≠ 0) :
    (s.setSq q x).later q t f = s.setSq q { x with eff := x.eff ++ [(t, f)] } := by
  unfold State.later
  simp only [State.setSq_sqs, State.setSq_setSq _ _ _ _ hx]

end Sys2Proof.Machine
end

