-- ==== Sys2Proof/Laws/Kept.lean ====
section
/-!
SUPPORT. Laws/Kept.lean: what every command keeps, as one relation between a state and a later one, with the rules by which
it passes through the operations from which meanings are built.
-/

namespace Sys2Proof.Machine
open Sys2Proof

/-- `t` keeps what Safety says of `s` and the queue of waiting commands, the module count of R47 is `s`'s, and
every domain that was ANCHORED keeps its offset from it (R53). -/
structure Kept (s t : State) : Prop where
  canon : s.Canonical → t.Canonical
  blown : ∀ f, State.Blown f s → State.Blown f t
  bounded : s.Bounded → t.Bounded
  texp : t.tim.texp = s.tim.texp
  queue : t.pending = s.pending
  offs : ∀ d, s.anchored d = true → (t.tim.doms.get Dom.zero d).off = (s.tim.doms.get Dom.zero d).off

theorem Kept.refl (s : State) : Kept s s := ⟨id, fun _ => id, id, rfl, rfl, fun _ _ => rfl⟩

/-- A state with the same memories, fuses, ring length and counts. -/
theorem Kept.upd {s0 s t : State} (h : Kept s0 s) (e1 : t.mem.ddr = s.mem.ddr) (e2 : t.acq.buf = s.acq.buf)
    (e3 : t.hif.hostMem = s.hif.hostMem) (e4 : t.sec.fuses = s.sec.fuses) (e5 : t.sec.pendFuses = s.sec.pendFuses)
    (e6 : t.log.count = s.log.count) (e7 : t.tim.wallFrac = s.tim.wallFrac) (e8 : t.tim.texp = s.tim.texp)
    (e9 : t.pending = s.pending) (e10 : t.tim.doms = s.tim.doms) :
    Kept s0 t := by
  have eb : t.burned = s.burned := by unfold State.burned; rw [e4, e5]
  refine ⟨fun c => ?_, fun f b => ?_, fun b => ?_, e8.trans h.texp, e9.trans h.queue,
    fun d a => e10 ▸ h.offs d a⟩
  · have := h.canon c; unfold State.Canonical at this ⊢; rw [e1, e2, e3]; exact this
  · have := h.blown f b; unfold State.Blown at this ⊢; rw [e4, eb]; exact this
  · have := h.bounded b; unfold State.Bounded at this ⊢; rw [e6, e7]; exact this

/-- A state whose memories, fuses, ring and counts have changed as they may. -/
theorem Kept.change {s0 s t : State} (h : Kept s0 s) (c1 : Tab.wf 0 s.mem.ddr = true → Tab.wf 0 t.mem.ddr = true)
    (c2 : Tab.wf 0 s.acq.buf = true → Tab.wf 0 t.acq.buf = true)
    (c3 : Tab.wf 0 s.hif.hostMem = true → Tab.wf 0 t.hif.hostMem = true)
    (c4 : ∀ f : Fuses, State.Blown f s → State.Blown f t)
    (c6 : s.log.count ≤ 16384 → t.log.count ≤ 16384) (c7 : s.tim.wallFrac < 2 ^ 44 → t.tim.wallFrac < 2 ^ 44)
    (c8 : t.tim.texp = s.tim.texp) (c9 : t.pending = s.pending)
    (c10 : ∀ d, (t.tim.doms.get Dom.zero d).off = (s.tim.doms.get Dom.zero d).off) : Kept s0 t :=
  ⟨fun c => have k := h.canon c; ⟨c1 k.1, c2 k.2.1, c3 k.2.2⟩, fun f b => c4 f (h.blown f b),
   fun b => have k := h.bounded b; ⟨c6 k.1, c7 k.2⟩, c8.trans h.texp, c9.trans h.queue,
   fun d a => (c10 d).trans (h.offs d a)⟩

/-- A domain's entry with the same offset leaves every domain's. -/
theorem doms_off {t : Tab Dom} {d : Nat} {x : Dom} (h : x.off = (t.get Dom.zero d).off) (k : Nat) :
    ((t.set Dom.zero d x).get Dom.zero k).off = (t.get Dom.zero k).off := by
  by_cases e : k = d
  · subst e; rw [Tab.get_set_self, h]
  · rw [Tab.get_set_ne _ _ _ e]

theorem domCounts_off (t : Tab Dom) (k : Nat) : ((domCounts t).get Dom.zero k).off = (t.get Dom.zero k).off := by
  unfold domCounts
  generalize List.range 5 = l
  induction l generalizing t with
  | nil => rfl
  | cons d l ih => rw [List.foldl_cons, ih]; exact doms_off (x := { t.get Dom.zero d with pend := none }) rfl k

/-- A state whose domains wait for other loads and keep their offsets. -/
theorem Kept.pend {s0 s : State} (h : Kept s0 s) (d : Nat) (x : Dom) (hx : x.off = (s.tim.doms.get Dom.zero d).off) :
    Kept s0 { s with tim.doms := s.tim.doms.set Dom.zero d x } :=
  h.change id id id (fun _ => id) id id rfl rfl (doms_off hx)

/-- A state in which a domain that was not ANCHORED has taken an offset. -/
theorem Kept.anchor {s0 s : State} (h : Kept s0 s) (d : Nat) (x : Dom) (h0 : s0.anchored d = false) :
    Kept s0 { s with tim.doms := s.tim.doms.set Dom.zero d x } :=
  ⟨h.canon, h.blown, h.bounded, h.texp, h.queue, fun k a => by
    have e : k ≠ d := fun e => by rw [e, h0] at a; cases a
    exact (congrArg Dom.off (Tab.get_set_ne Dom.zero s.tim.doms x e)).trans (h.offs k a)⟩

/-- Fuses that have only grown. -/
theorem Fuses.Le.trans {f g k : Fuses} (h : f.Le g) (h' : g.Le k) : f.Le k :=
  ⟨fun i e => h'.life i (h.life i e), Nat.le_trans h.fw h'.fw, Nat.le_trans h.patch h'.patch, Nat.le_trans h.cal h'.cal,
   fun e => h'.cust (h.cust e), fun e => h'.req (h.req e), fun e => h'.secret (h.secret e), h.pmaps.trans h'.pmaps,
   h.evmaps.trans h'.evmaps⟩
theorem Fuses.Le.refl (f : Fuses) : f.Le f :=
  ⟨fun _ e => e, Nat.le_refl _, Nat.le_refl _, Nat.le_refl _, id, id, id, List.prefix_refl _, List.prefix_refl _⟩

/-- The same for a state given field by field. -/
theorem Kept.put {s0 s : State}
    {pending : List Instr} {regs : Tab Word} {shadow : Tab (Option Word)} {heldRd : Tab Word} {heldWr : Tab Word}
    {free : Nat} {tim : Tim} {syn : Syn} {sqr : Sqr} {rdo : Rdo} {dec : Dec} {acq : Acq} {bm : Bm} {mem : Mem}
    {hif : Hif} {fab : Fab} {hrt : Hrt} {int : Int'} {evr : Evr} {log : Log} {bst : Bst} {pwr : Pwr} {thm : Thm}
    {sec : Sec} {pins : Pins}
    (h : Kept s0 s) (e1 : mem.ddr = s.mem.ddr) (e2 : acq.buf = s.acq.buf)
    (e3 : hif.hostMem = s.hif.hostMem) (e4 : sec.fuses = s.sec.fuses) (e5 : sec.pendFuses = s.sec.pendFuses)
    (e6 : log.count = s.log.count) (e7 : tim.wallFrac = s.tim.wallFrac) (e8 : tim.texp = s.tim.texp)
    (e9 : pending = s.pending) (e10 : tim.doms = s.tim.doms) :
    Kept s0 ⟨pending, regs, shadow, heldRd, heldWr, free, tim, syn, sqr, rdo, dec, acq, bm, mem, hif, fab, hrt,
      int, evr, log, bst, pwr, thm, sec, pins⟩ := Kept.upd h e1 e2 e3 e4 e5 e6 e7 e8 e9 e10

theorem Kept.ite {s0 a b : State} {c : Prop} [Decidable c] (ha : Kept s0 a) (hb : Kept s0 b) :
    Kept s0 (if c then a else b) := by split <;> assumption

theorem State.when_kept {s0 s : State} (h : Kept s0 s) (c : Prop) [Decidable c] (f : State → State)
    (hf : ∀ s, Kept s0 s → Kept s0 (f s)) : Kept s0 (s.when c f) := by
  unfold State.when; split
  · exact hf s h
  · exact h

theorem forEach_kept {s0 : State} (l : List Nat) (s : State) (h : Kept s0 s) (f : State → Nat → State)
    (hf : ∀ s n, Kept s0 s → Kept s0 (f s n)) : Kept s0 (forEach l s f) := by
  induction l generalizing s with
  | nil => exact h
  | cons n l ih => exact ih (f s n) (hf s n h)

theorem foldl_kept {α : Type} {s0 : State} (l : List α) (s : State) (h : Kept s0 s) (f : State → α → State)
    (hf : ∀ s a, Kept s0 s → Kept s0 (f s a)) : Kept s0 (l.foldl f s) := by
  induction l generalizing s with
  | nil => exact h
  | cons a l ih => exact ih (f s a) (hf s a h)

theorem pairFold_kept {α β : Type} {s0 : State} (l : List α) (r : State × β) (h : Kept s0 r.1)
    (f : State × β → α → State × β) (hf : ∀ r a, Kept s0 r.1 → Kept s0 (f r a).1) : Kept s0 (l.foldl f r).1 := by
  induction l generalizing r with
  | nil => exact h
  | cons a l ih => exact ih (f r a) (hf r a h)

/-- What an instruction's own rule gives keeps it. -/
def KeptRes (s0 : State) : Res → Prop
  | .go t _ _ _ => Kept s0 t
  | .bad t => Kept s0 t
  | .held t => Kept s0 t

/-- A meaning's answer keeps it. -/
def KeptOut (s0 : State) : Out → Prop
  | .next t => Kept s0 t
  | _ => True

theorem id_kept {s0 s : State} (h : Kept s0 s) : Kept s0 (id s) := h

theorem KeptRes.go {s0 t : State} (n : Option Nat) (c d : Nat) (h : Kept s0 t) : KeptRes s0 (.go t n c d) := h
theorem KeptRes.bad {s0 t : State} (h : Kept s0 t) : KeptRes s0 (.bad t) := h
theorem KeptRes.held {s0 t : State} (h : Kept s0 t) : KeptRes s0 (.held t) := h
theorem KeptRes.ite {s0 : State} {a b : Res} {c : Prop} [Decidable c] (ha : KeptRes s0 a) (hb : KeptRes s0 b) :
    KeptRes s0 (if c then a else b) := by split <;> assumption
theorem KeptOut.next {s0 t : State} (h : Kept s0 t) : KeptOut s0 (.next t) := h
theorem KeptOut.ite {s0 : State} {a b : Out} {c : Prop} [Decidable c] (ha : KeptOut s0 a) (hb : KeptOut s0 b) :
    KeptOut s0 (if c then a else b) := by split <;> assumption

/-- Each action of a list keeps it. -/
def KeptActs (s0 : State) : List (Nat × (State → Out)) → Prop
  | [] => True
  | x :: l => (∀ s, Kept s0 s → KeptOut s0 (x.2 s)) ∧ KeptActs s0 l
theorem KeptActs.nil {s0 : State} : KeptActs s0 [] := trivial
theorem KeptActs.cons {s0 : State} {n : Nat} {f : State → Out} {l : List (Nat × (State → Out))}
    (hf : ∀ s, Kept s0 s → KeptOut s0 (f s)) (hl : KeptActs s0 l) : KeptActs s0 ((n, f) :: l) := ⟨hf, hl⟩

/-- A command's effect, and what its refusal leaves, keep it. -/
structure KeptCmd (c : Cmd) : Prop where
  run : ∀ s0 s p, Kept s0 s → Kept s0 (c.run s p)
  rej : ∀ s0 s p f, Kept s0 s → Kept s0 (c.rej s p f)

end Sys2Proof.Machine
end

