-- ==== Sys2Proof/Laws/KeptA.lean ====
section
/-!
SUPPORT. Laws/KeptA.lean: that the operations of the model keep what Laws/Kept.lean says, one lemma an operation, in the order in
which they build on one another.
-/

namespace Sys2Proof.Machine
open Sys2Proof

theorem State.setSq_kept {s0 : State} (s : State) (i : Nat) (q : Seq) (h : Kept s0 s) :
    Kept s0 (State.setSq s i q) := by
  unfold State.setSq
  repeat' first
    | with_reducible assumption | intro _ | with_reducible apply Kept.ite | split | dsimp only
    | with_reducible refine Kept.put ?_ rfl rfl rfl rfl rfl rfl rfl rfl rfl rfl

theorem State.abortGroup_kept {s0 : State} (s : State) (p : Nat) (g : Nat) (no : Nat) (r : Nat) (h : Kept s0 s) :
    Kept s0 (State.abortGroup s p g no r) := by
  unfold State.abortGroup
  repeat' first
    | with_reducible assumption | intro _ | with_reducible apply forEach_kept | with_reducible apply State.setSq_kept
    | with_reducible apply Kept.ite | split | dsimp only
    | with_reducible refine Kept.put ?_ rfl rfl rfl rfl rfl rfl rfl rfl rfl rfl

theorem State.abortIn_kept {s0 : State} (s : State) (p : Nat) (g : Nat) (r : Nat) (h : Kept s0 s) :
    Kept s0 (State.abortIn s p g r) := by
  unfold State.abortIn
  repeat' first
    | with_reducible assumption | intro _ | with_reducible apply State.abortGroup_kept | with_reducible apply Kept.ite
    | split | dsimp only | with_reducible refine Kept.put ?_ rfl rfl rfl rfl rfl rfl rfl rfl rfl rfl

theorem State.setReg_kept {s0 : State} (s : State) (a : Nat) (w : Word) (h : Kept s0 s) :
    Kept s0 (State.setReg s a w) := by
  unfold State.setReg
  repeat' first
    | with_reducible assumption | intro _ | with_reducible apply Kept.ite | split | dsimp only
    | with_reducible refine Kept.put ?_ rfl rfl rfl rfl rfl rfl rfl rfl rfl rfl

theorem State.bump_kept {s0 : State} (s : State) (pg : Nat) (f : Fld) (n : Nat) (h : Kept s0 s) :
    Kept s0 (State.bump s pg f n) := by
  unfold State.bump
  repeat' first
    | with_reducible assumption | intro _ | with_reducible apply State.setReg_kept | with_reducible apply Kept.ite
    | split | dsimp only | with_reducible refine Kept.put ?_ rfl rfl rfl rfl rfl rfl rfl rfl rfl rfl

theorem State.p64_kept {s0 : State} (s : State) (pg : Nat) (f : Fld) (v : Nat) (h : Kept s0 s) :
    Kept s0 (State.p64 s pg f v) := by
  unfold State.p64
  repeat' first
    | with_reducible assumption | intro _ | with_reducible apply State.setReg_kept | with_reducible apply Kept.ite
    | split | dsimp only | with_reducible refine Kept.put ?_ rfl rfl rfl rfl rfl rfl rfl rfl rfl rfl

theorem State.bump64_kept {s0 : State} (s : State) (pg : Nat) (f : Fld) (n : Nat) (h : Kept s0 s) :
    Kept s0 (State.bump64 s pg f n) := by
  unfold State.bump64
  repeat' first
    | with_reducible assumption | intro _ | with_reducible apply State.p64_kept | with_reducible apply Kept.ite
    | split | dsimp only | with_reducible refine Kept.put ?_ rfl rfl rfl rfl rfl rfl rfl rfl rfl rfl

theorem State.p_kept {s0 : State} (s : State) (pg : Nat) (f : Fld) (v : Nat) (h : Kept s0 s) :
    Kept s0 (State.p s pg f v) := by
  unfold State.p
  repeat' first
    | with_reducible assumption | intro _ | with_reducible apply State.setReg_kept | with_reducible apply Kept.ite
    | split | dsimp only | with_reducible refine Kept.put ?_ rfl rfl rfl rfl rfl rfl rfl rfl rfl rfl

theorem State.flag_kept {s0 : State} (s : State) (pg : Nat) (f : Fld) (h : Kept s0 s) :
    Kept s0 (State.flag s pg f) := by
  unfold State.flag
  repeat' first
    | with_reducible assumption | intro _ | with_reducible apply State.p_kept | with_reducible apply Kept.ite | split
    | dsimp only | with_reducible refine Kept.put ?_ rfl rfl rfl rfl rfl rfl rfl rfl rfl rfl

theorem State.bumpW_kept {s0 : State} (s : State) (pg : Nat) (f : Fld) (n : Nat) (h : Kept s0 s) :
    Kept s0 (State.bumpW s pg f n) := by
  unfold State.bumpW
  repeat' first
    | with_reducible assumption | intro _ | with_reducible apply State.setReg_kept | with_reducible apply Kept.ite
    | split | dsimp only | with_reducible refine Kept.put ?_ rfl rfl rfl rfl rfl rfl rfl rfl rfl rfl

theorem State.logWrite_kept {s0 : State} (s : State) (cause kind part source detail repeat_ : Nat) (h : Kept s0 s) :
    Kept s0 (State.logWrite s cause kind part source detail repeat_) := by
  unfold State.logWrite
  have h1 := State.when_kept h (s.log.count = 16384)
    (fun s => (s.bump Page.log F.LOG_OVERWRITES).flag Page.log F.LOG_STATUS_WRAPPED)
    (fun s hs => State.flag_kept _ _ _ (State.bump_kept s _ _ _ hs))
  dsimp only
  generalize s.when (s.log.count = 16384) (fun s => (s.bump Page.log F.LOG_OVERWRITES).flag Page.log F.LOG_STATUS_WRAPPED) = x
    at h1 ⊢
  apply Kept.ite
  · with_reducible apply State.flag_kept
    with_reducible apply State.bumpW_kept
    with_reducible apply State.p_kept
    exact h1.change id id id (fun _ => id) (fun _ => Nat.min_le_right (x.log.count + 1) 16384) id rfl rfl (fun _ => rfl)
  · with_reducible apply State.bumpW_kept
    with_reducible apply State.p_kept
    exact h1.change id id id (fun _ => id) (fun _ => Nat.min_le_right (x.log.count + 1) 16384) id rfl rfl (fun _ => rfl)

theorem State.logAs_kept {s0 : State} (s : State) (cause : Nat) (kind : Nat) (part : Nat) (source : Nat) (detail : Nat) (h : Kept s0 s) :
    Kept s0 (State.logAs s cause kind part source detail) := by
  unfold State.logAs
  repeat' first
    | with_reducible assumption | intro _ | with_reducible apply State.when_kept
    | with_reducible apply State.bump_kept | with_reducible apply State.bump64_kept
    | with_reducible apply State.flag_kept | with_reducible apply State.logWrite_kept | with_reducible apply Kept.ite
    | split | dsimp only | with_reducible refine Kept.put ?_ rfl rfl rfl rfl rfl rfl rfl rfl rfl rfl

theorem State.logIt_kept {s0 : State} (s : State) (cause : Nat) (part : Nat) (source : Nat) (detail : Nat) (h : Kept s0 s) :
    Kept s0 (State.logIt s cause part source detail) := by
  unfold State.logIt
  repeat' first
    | with_reducible assumption | intro _ | with_reducible apply State.logAs_kept | with_reducible apply Kept.ite
    | split | dsimp only | with_reducible refine Kept.put ?_ rfl rfl rfl rfl rfl rfl rfl rfl rfl rfl

theorem State.accFault_kept {s0 : State} (s : State) (q : Nat) (v : Int) (h : Kept s0 s) :
    Kept s0 (State.accFault s q v) := by
  unfold State.accFault
  repeat' first
    | with_reducible assumption | intro _ | with_reducible apply State.when_kept
    | with_reducible apply State.logIt_kept | with_reducible apply Kept.ite | split | dsimp only
    | with_reducible refine Kept.put ?_ rfl rfl rfl rfl rfl rfl rfl rfl rfl rfl

theorem State.accept_kept {s0 : State} (s : State) (c : Cmd) (p : Pkt) (h : Kept s0 s) :
    Kept s0 (State.accept s c p) := by
  unfold State.accept
  repeat' first
    | with_reducible assumption | intro _ | with_reducible apply hc.run | with_reducible apply hc.rej
    | with_reducible apply Kept.ite | split | dsimp only
    | with_reducible refine Kept.put ?_ rfl rfl rfl rfl rfl rfl rfl rfl rfl rfl

theorem State.grpShow_kept {s0 : State} (s : State) (g : Nat) (v : Bool) (h : Kept s0 s) :
    Kept s0 (State.grpShow s g v) := by
  unfold State.grpShow
  repeat' first
    | with_reducible assumption | intro _ | with_reducible apply forEach_kept | with_reducible apply State.p_kept
    | with_reducible apply Kept.ite | split | dsimp only
    | with_reducible refine Kept.put ?_ rfl rfl rfl rfl rfl rfl rfl rfl rfl rfl

theorem State.setHctx_kept {s0 : State} (s : State) (c : Nat) (x : Ctx) (h : Kept s0 s) :
    Kept s0 (State.setHctx s c x) := by
  unfold State.setHctx
  repeat' first
    | with_reducible assumption | intro _ | with_reducible apply Kept.ite | split | dsimp only
    | with_reducible refine Kept.put ?_ rfl rfl rfl rfl rfl rfl rfl rfl rfl rfl

theorem State.applyDefer_kept {s0 : State} (s : State) (d : DeferOp) (h : Kept s0 s) :
    Kept s0 (State.applyDefer s d) := by
  unfold State.applyDefer
  repeat' first
    | with_reducible assumption | intro _ | with_reducible apply State.setReg_kept | with_reducible apply Kept.ite
    | split | dsimp only | with_reducible refine Kept.put ?_ rfl rfl rfl rfl rfl rfl rfl rfl rfl rfl

theorem State.applyDefers_kept {s0 : State} (s : State) (g : Nat) (h : Kept s0 s) :
    Kept s0 (State.applyDefers s g) := by
  unfold State.applyDefers
  repeat' first
    | with_reducible assumption | intro _ | with_reducible apply foldl_kept
    | with_reducible apply State.applyDefer_kept | with_reducible apply Kept.ite | split | dsimp only
    | with_reducible refine Kept.put ?_ rfl rfl rfl rfl rfl rfl rfl rfl rfl rfl

theorem State.switchCtx_kept {s0 : State} (s : State) (c : Nat) (h : Kept s0 s) :
    Kept s0 (State.switchCtx s c) := by
  unfold State.switchCtx
  repeat' first
    | with_reducible assumption | intro _ | with_reducible apply State.setHctx_kept | with_reducible apply Kept.ite
    | split | dsimp only | with_reducible refine Kept.put ?_ rfl rfl rfl rfl rfl rfl rfl rfl rfl rfl

theorem State.freeCtx_kept {s0 : State} (s : State) (c : Nat) (h : Kept s0 s) :
    Kept s0 (State.freeCtx s c) := by
  unfold State.freeCtx
  repeat' first
    | with_reducible assumption | intro _ | with_reducible apply forEach_kept
    | with_reducible apply State.setHctx_kept | with_reducible apply State.applyDefers_kept
    | with_reducible apply State.switchCtx_kept | with_reducible apply Kept.ite | split | dsimp only
    | with_reducible refine Kept.put ?_ rfl rfl rfl rfl rfl rfl rfl rfl rfl rfl

theorem State.endCtx_kept {s0 : State} (s : State) (sq : Nat) (tag : Nat) (h : Kept s0 s) :
    Kept s0 (State.endCtx s sq tag) := by
  unfold State.endCtx
  repeat' first
    | with_reducible assumption | intro _ | with_reducible apply State.freeCtx_kept | with_reducible apply Kept.ite
    | split | dsimp only | with_reducible refine Kept.put ?_ rfl rfl rfl rfl rfl rfl rfl rfl rfl rfl

theorem State.settle_kept {s0 : State} (s : State) (w : Option (Nat × Nat)) (status : Nat) (result : Nat) (h : Kept s0 s) :
    Kept s0 (State.settle s w status result) := by
  unfold State.settle
  repeat' first
    | with_reducible assumption | intro _ | with_reducible apply State.endCtx_kept | with_reducible apply Kept.ite
    | split | dsimp only | with_reducible refine Kept.put ?_ rfl rfl rfl rfl rfl rfl rfl rfl rfl rfl

theorem State.setCu_kept {s0 : State} (s : State) (u : Nat) (x : Cu) (h : Kept s0 s) :
    Kept s0 (State.setCu s u x) := by
  unfold State.setCu
  repeat' first
    | with_reducible assumption | intro _ | with_reducible apply Kept.ite | split | dsimp only
    | with_reducible refine Kept.put ?_ rfl rfl rfl rfl rfl rfl rfl rfl rfl rfl

theorem State.setPrt_kept {s0 : State} (s : State) (p : Nat) (x : Part) (h : Kept s0 s) :
    Kept s0 (State.setPrt s p x) := by
  unfold State.setPrt
  repeat' first
    | with_reducible assumption | intro _ | with_reducible apply Kept.ite | split | dsimp only
    | with_reducible refine Kept.put ?_ rfl rfl rfl rfl rfl rfl rfl rfl rfl rfl

theorem State.onBar_kept {s0 : State} (s : State) (p : Nat) (k : Nat) (g : Nat) (tick : Nat) (f : Bar → Bar) (h : Kept s0 s) :
    Kept s0 (State.onBar s p k g tick f) := by
  unfold State.onBar
  repeat' first
    | with_reducible assumption | intro _ | with_reducible apply State.setPrt_kept | with_reducible apply Kept.ite
    | split | dsimp only | with_reducible refine Kept.put ?_ rfl rfl rfl rfl rfl rfl rfl rfl rfl rfl

theorem State.holdLearned_kept {s0 : State} (s : State) (p : Nat) (g : Nat) (t : Nat) (h : Kept s0 s) :
    Kept s0 (State.holdLearned s p g t) := by
  unfold State.holdLearned
  repeat' first
    | with_reducible assumption | intro _ | with_reducible apply forEach_kept | with_reducible apply State.onBar_kept
    | with_reducible apply State.setSq_kept | with_reducible apply Kept.ite | split | dsimp only
    | with_reducible refine Kept.put ?_ rfl rfl rfl rfl rfl rfl rfl rfl rfl rfl

theorem State.noticeIn_kept {s0 : State} (s : State) (w : W64) (h : Kept s0 s) :
    Kept s0 (State.noticeIn s w) := by
  unfold State.noticeIn
  repeat' first
    | with_reducible assumption | intro _ | with_reducible apply State.when_kept
    | with_reducible apply State.bump_kept | with_reducible apply State.onBar_kept
    | with_reducible apply State.holdLearned_kept | with_reducible apply Kept.ite | split | dsimp only
    | with_reducible refine Kept.put ?_ rfl rfl rfl rfl rfl rfl rfl rfl rfl rfl

theorem State.fabDeliver_kept {s0 : State} (s : State) (w : FWord) (h : Kept s0 s) :
    Kept s0 (State.fabDeliver s w) := by
  unfold State.fabDeliver
  repeat' first
    | with_reducible assumption | intro _ | with_reducible apply State.noticeIn_kept
    | with_reducible apply State.abortIn_kept | with_reducible apply Kept.ite | split | dsimp only
    | with_reducible refine Kept.put ?_ rfl rfl rfl rfl rfl rfl rfl rfl rfl rfl

theorem State.setPort_kept {s0 : State} (s : State) (p : Nat) (x : FPort) (h : Kept s0 s) :
    Kept s0 (State.setPort s p x) := by
  unfold State.setPort
  repeat' first
    | with_reducible assumption | intro _ | with_reducible apply Kept.ite | split | dsimp only
    | with_reducible refine Kept.put ?_ rfl rfl rfl rfl rfl rfl rfl rfl rfl rfl

theorem State.fabQueue_kept {s0 : State} (s : State) (p : Nat) (w : FWord) (h : Kept s0 s) :
    Kept s0 (State.fabQueue s p w) := by
  unfold State.fabQueue
  repeat' first
    | with_reducible assumption | intro _ | with_reducible apply State.setPort_kept
    | with_reducible apply State.p_kept | with_reducible apply Kept.ite | split | dsimp only
    | with_reducible refine Kept.put ?_ rfl rfl rfl rfl rfl rfl rfl rfl rfl rfl

theorem State.fabRoute_kept {s0 : State} (s : State) (w : FWord) (h : Kept s0 s) :
    Kept s0 (State.fabRoute s w) := by
  unfold State.fabRoute
  repeat' first
    | with_reducible assumption | intro _ | with_reducible apply State.fabDeliver_kept
    | with_reducible apply State.bump_kept | with_reducible apply State.fabQueue_kept | with_reducible apply Kept.ite
    | split | dsimp only | with_reducible refine Kept.put ?_ rfl rfl rfl rfl rfl rfl rfl rfl rfl rfl

theorem State.fabSend_kept {s0 : State} (s : State) (typ : Nat) (dst : Nat) (twins : Nat) (ws : List W64) (h : Kept s0 s) :
    Kept s0 (State.fabSend s typ dst twins ws) := by
  unfold State.fabSend
  repeat' first
    | with_reducible assumption | intro _ | with_reducible apply State.fabRoute_kept | with_reducible apply Kept.ite
    | split | dsimp only | with_reducible refine Kept.put ?_ rfl rfl rfl rfl rfl rfl rfl rfl rfl rfl

theorem State.grpSend_kept {s0 : State} (s : State) (g : Nat) (typ : Nat) (t : Nat) (frac : Nat) (fv : Nat) (h : Kept s0 s) :
    Kept s0 (State.grpSend s g typ t frac fv) := by
  unfold State.grpSend
  repeat' first
    | with_reducible assumption | intro _ | with_reducible apply forEach_kept
    | with_reducible apply State.fabSend_kept | with_reducible apply Kept.ite | split | dsimp only
    | with_reducible refine Kept.put ?_ rfl rfl rfl rfl rfl rfl rfl rfl rfl rfl

theorem State.grpSettle_kept {s0 : State} (s : State) (g : Nat) (h : Kept s0 s) :
    Kept s0 (State.grpSettle s g) := by
  unfold State.grpSettle
  repeat' first
    | with_reducible assumption | intro _ | with_reducible apply State.grpShow_kept
    | with_reducible apply State.settle_kept | with_reducible apply State.setCu_kept
    | with_reducible apply State.grpSend_kept | with_reducible apply Kept.ite | split | dsimp only
    | with_reducible refine Kept.put ?_ rfl rfl rfl rfl rfl rfl rfl rfl rfl rfl

theorem State.acqEpoch_kept {s0 : State} (s : State) (p : Nat) (h : Kept s0 s) :
    Kept s0 (State.acqEpoch s p) := by
  unfold State.acqEpoch
  repeat' first
    | with_reducible assumption | intro _ | with_reducible apply forEach_kept
    | with_reducible apply State.grpShow_kept | with_reducible apply State.grpSettle_kept
    | with_reducible apply State.grpSend_kept | with_reducible apply Kept.ite | split | dsimp only
    | with_reducible refine Kept.put ?_ rfl rfl rfl rfl rfl rfl rfl rfl rfl rfl

theorem State.bufWrite_kept {s0 : State} (s : State) (a : Nat) (b : List Byte) (h : Kept s0 s) :
    Kept s0 (State.bufWrite s a b) :=
  h.change id (fun c => writeBytes_wf c a b) id (fun _ => id) id id rfl rfl (fun _ => rfl)

theorem State.capStore_kept {s0 : State} (s : State) (u : Nat) (incomplete : Bool) (h : Kept s0 s) :
    Kept s0 (State.capStore s u incomplete) := by
  unfold State.capStore
  repeat' first
    | with_reducible assumption | intro _ | with_reducible apply State.when_kept
    | with_reducible apply State.bufWrite_kept | with_reducible apply State.setCu_kept
    | with_reducible apply State.bump_kept | with_reducible apply State.flag_kept | with_reducible apply Kept.ite
    | split | dsimp only | with_reducible refine Kept.put ?_ rfl rfl rfl rfl rfl rfl rfl rfl rfl rfl

theorem State.putMark_kept {s0 : State} (s : State) (u : Nat) (m : SItem) (h : Kept s0 s) :
    Kept s0 (State.putMark s u m) := by
  unfold State.putMark
  repeat' first
    | with_reducible assumption | intro _ | with_reducible apply State.setCu_kept | with_reducible apply Kept.ite
    | split | dsimp only | with_reducible refine Kept.put ?_ rfl rfl rfl rfl rfl rfl rfl rfl rfl rfl

theorem State.endGap_kept {s0 : State} (s : State) (u : Nat) (h : Kept s0 s) :
    Kept s0 (State.endGap s u) := by
  unfold State.endGap
  repeat' first
    | with_reducible assumption | intro _ | with_reducible apply State.putMark_kept
    | with_reducible apply State.setCu_kept | with_reducible apply Kept.ite | split | dsimp only
    | with_reducible refine Kept.put ?_ rfl rfl rfl rfl rfl rfl rfl rfl rfl rfl

theorem State.closeItem_kept {s0 : State} (s : State) (u : Nat) (h : Kept s0 s) :
    Kept s0 (State.closeItem s u) := by
  unfold State.closeItem
  repeat' first
    | with_reducible assumption | intro _ | with_reducible apply State.setCu_kept | with_reducible apply Kept.ite
    | split | dsimp only | with_reducible refine Kept.put ?_ rfl rfl rfl rfl rfl rfl rfl rfl rfl rfl

theorem State.cuMark_kept {s0 : State} (s : State) (u : Nat) (sub : Nat) (t : Nat) (count : Nat) (arg : Nat) (frac : Nat) (fv : Bool) (dead : Nat) (h : Kept s0 s) :
    Kept s0 (State.cuMark s u sub t count arg frac fv dead) := by
  unfold State.cuMark
  repeat' first
    | with_reducible assumption | intro _ | with_reducible apply State.endGap_kept
    | with_reducible apply State.putMark_kept | with_reducible apply Kept.ite | split | dsimp only
    | with_reducible refine Kept.put ?_ rfl rfl rfl rfl rfl rfl rfl rfl rfl rfl

theorem State.trigMark_kept {s0 : State} (s : State) (u : Nat) (h : Kept s0 s) :
    Kept s0 (State.trigMark s u) := by
  unfold State.trigMark
  repeat' first
    | with_reducible assumption | intro _ | with_reducible apply State.cuMark_kept
    | with_reducible apply State.setCu_kept | with_reducible apply Kept.ite | split | dsimp only
    | with_reducible refine Kept.put ?_ rfl rfl rfl rfl rfl rfl rfl rfl rfl rfl

theorem State.streamEnd_kept {s0 : State} (s : State) (u : Nat) (cause : Nat) (h : Kept s0 s) :
    Kept s0 (State.streamEnd s u cause) := by
  unfold State.streamEnd
  repeat' first
    | with_reducible assumption | intro _ | with_reducible apply State.endGap_kept
    | with_reducible apply State.closeItem_kept | with_reducible apply State.trigMark_kept
    | with_reducible apply State.setCu_kept | with_reducible apply Kept.ite | split | dsimp only
    | with_reducible refine Kept.put ?_ rfl rfl rfl rfl rfl rfl rfl rfl rfl rfl

theorem State.setCuState_kept {s0 : State} (s : State) (u : Nat) (v : Nat) (h : Kept s0 s) :
    Kept s0 (State.setCuState s u v) := by
  unfold State.setCuState
  repeat' first
    | with_reducible assumption | intro _ | with_reducible apply State.p_kept | with_reducible apply Kept.ite | split
    | dsimp only | with_reducible refine Kept.put ?_ rfl rfl rfl rfl rfl rfl rfl rfl rfl rfl

theorem State.cuEnd_kept {s0 : State} (s : State) (u : Nat) (cause : Nat) (v : Nat) (h : Kept s0 s) :
    Kept s0 (State.cuEnd s u cause v) := by
  unfold State.cuEnd
  repeat' first
    | with_reducible assumption | intro _ | with_reducible apply State.capStore_kept
    | with_reducible apply State.streamEnd_kept | with_reducible apply State.settle_kept
    | with_reducible apply State.setCuState_kept | with_reducible apply State.setCu_kept
    | with_reducible apply Kept.ite | split | dsimp only
    | with_reducible refine Kept.put ?_ rfl rfl rfl rfl rfl rfl rfl rfl rfl rfl

theorem State.acqSafe_kept {s0 : State} (s : State) (h : Kept s0 s) :
    Kept s0 (State.acqSafe s) := by
  unfold State.acqSafe
  repeat' first
    | with_reducible assumption | intro _ | with_reducible apply forEach_kept | with_reducible apply State.cuEnd_kept
    | with_reducible apply Kept.ite | split | dsimp only
    | with_reducible refine Kept.put ?_ rfl rfl rfl rfl rfl rfl rfl rfl rfl rfl

theorem State.lastTrig_kept {s0 : State} (s : State) (u : Nat) (t : Nat) (frac : Nat) (fv : Bool) (h : Kept s0 s) :
    Kept s0 (State.lastTrig s u t frac fv) := by
  unfold State.lastTrig
  repeat' first
    | with_reducible assumption | intro _ | with_reducible apply State.p_kept | with_reducible apply State.p64_kept
    | with_reducible apply Kept.ite | split | dsimp only
    | with_reducible refine Kept.put ?_ rfl rfl rfl rfl rfl rfl rfl rfl rfl rfl

theorem State.maskStep_kept {s0 : State} (s : State) (u : Nat) (stamp : Nat) (c : Int) (h : Kept s0 s) :
    Kept s0 (State.maskStep s u stamp c) := by
  unfold State.maskStep
  repeat' first
    | with_reducible assumption | intro _ | with_reducible apply State.setCu_kept | with_reducible apply Kept.ite
    | split | dsimp only | with_reducible refine Kept.put ?_ rfl rfl rfl rfl rfl rfl rfl rfl rfl rfl

theorem State.maskRestart_kept {s0 : State} (s : State) (u : Nat) (stamp : Nat) (h : Kept s0 s) :
    Kept s0 (State.maskRestart s u stamp) := by
  unfold State.maskRestart
  repeat' first
    | with_reducible assumption | intro _ | with_reducible apply foldl_kept | with_reducible apply State.setCu_kept
    | with_reducible apply State.maskStep_kept | with_reducible apply Kept.ite | split | dsimp only
    | with_reducible refine Kept.put ?_ rfl rfl rfl rfl rfl rfl rfl rfl rfl rfl

theorem State.withhold_kept {s0 : State} (s : State) (h : Kept s0 s) :
    Kept s0 (State.withhold s) := by
  unfold State.withhold
  repeat' first
    | with_reducible assumption | intro _ | with_reducible apply State.bump_kept | with_reducible apply Kept.ite
    | split | dsimp only | with_reducible refine Kept.put ?_ rfl rfl rfl rfl rfl rfl rfl rfl rfl rfl

theorem State.denyPub_kept {s0 : State} (s : State) (h : Kept s0 s) :
    Kept s0 (State.denyPub s) := by
  unfold State.denyPub
  repeat' first
    | with_reducible assumption | intro _ | with_reducible apply State.flag_kept
    | with_reducible apply State.withhold_kept | with_reducible apply Kept.ite | split | dsimp only
    | with_reducible refine Kept.put ?_ rfl rfl rfl rfl rfl rfl rfl rfl rfl rfl

theorem State.rateCount_kept {s0 : State} (s : State) (ch : Nat) (h : Kept s0 s) :
    Kept s0 (State.rateCount s ch) := by
  unfold State.rateCount
  repeat' first
    | with_reducible assumption | intro _ | with_reducible apply State.logIt_kept
    | with_reducible apply State.flag_kept | with_reducible apply Kept.ite | split | dsimp only
    | with_reducible refine Kept.put ?_ rfl rfl rfl rfl rfl rfl rfl rfl rfl rfl

theorem State.intEdge_kept {s0 : State} (s : State) (n : Nat) (h : Kept s0 s) :
    Kept s0 (State.intEdge s n) := by
  unfold State.intEdge
  repeat' first
    | with_reducible assumption | intro _ | with_reducible apply State.bump_kept | with_reducible apply Kept.ite
    | split | dsimp only | with_reducible refine Kept.put ?_ rfl rfl rfl rfl rfl rfl rfl rfl rfl rfl

theorem State.consume_kept {s0 : State} (s : State) (ch : Nat) (p : Nat) (f : State → State) (h : Kept s0 s) (hf : ∀ s, Kept s0 s → Kept s0 (f s)) :
    Kept s0 (State.consume s ch p f) := by
  unfold State.consume
  repeat' first
    | with_reducible assumption | intro _ | with_reducible apply hf | with_reducible apply State.withhold_kept
    | with_reducible apply Kept.ite | split | dsimp only
    | with_reducible refine Kept.put ?_ rfl rfl rfl rfl rfl rfl rfl rfl rfl rfl

theorem State.jumpRequest_kept {s0 : State} (s : State) (q : Nat) (v : Nat) (h : Kept s0 s) :
    Kept s0 (State.jumpRequest s q v) := by
  unfold State.jumpRequest
  repeat' first
    | with_reducible assumption | intro _ | with_reducible apply State.setSq_kept
    | with_reducible apply State.bump_kept | with_reducible apply State.flag_kept | with_reducible apply Kept.ite
    | split | dsimp only | with_reducible refine Kept.put ?_ rfl rfl rfl rfl rfl rfl rfl rfl rfl rfl

theorem State.setBias_kept {s0 : State} (s : State) (b : Nat) (x : Bias) (h : Kept s0 s) :
    Kept s0 (State.setBias s b x) := by
  unfold State.setBias
  repeat' first
    | with_reducible assumption | intro _ | with_reducible apply Kept.ite | split | dsimp only
    | with_reducible refine Kept.put ?_ rfl rfl rfl rfl rfl rfl rfl rfl rfl rfl

theorem State.biasClockStart_kept {s0 : State} (s : State) (b : Nat) (h : Kept s0 s) :
    Kept s0 (State.biasClockStart s b) := by
  unfold State.biasClockStart
  repeat' first
    | with_reducible assumption | intro _ | with_reducible apply State.setBias_kept | with_reducible apply Kept.ite
    | split | dsimp only | with_reducible refine Kept.put ?_ rfl rfl rfl rfl rfl rfl rfl rfl rfl rfl

theorem State.setMon_kept {s0 : State} (s : State) (m : Nat) (x : Mon) (h : Kept s0 s) :
    Kept s0 (State.setMon s m x) := by
  unfold State.setMon
  repeat' first
    | with_reducible assumption | intro _ | with_reducible apply Kept.ite | split | dsimp only
    | with_reducible refine Kept.put ?_ rfl rfl rfl rfl rfl rfl rfl rfl rfl rfl

theorem State.monInject_kept {s0 : State} (s : State) (m : Nat) (h : Kept s0 s) :
    Kept s0 (State.monInject s m) := by
  unfold State.monInject
  repeat' first
    | with_reducible assumption | intro _ | with_reducible apply State.bump_kept
    | with_reducible apply State.flag_kept | with_reducible apply State.setMon_kept | with_reducible apply Kept.ite
    | split | dsimp only | with_reducible refine Kept.put ?_ rfl rfl rfl rfl rfl rfl rfl rfl rfl rfl

theorem State.deliver_kept {s0 : State} (s : State) (ch : Nat) (h : Kept s0 s) :
    Kept s0 (State.deliver s ch) := by
  unfold State.deliver
  repeat' first
    | with_reducible assumption | intro _ | with_reducible apply forEach_kept | with_reducible apply State.when_kept
    | with_reducible apply id_kept | with_reducible apply State.consume_kept
    | with_reducible apply State.jumpRequest_kept | with_reducible apply State.biasClockStart_kept
    | with_reducible apply State.monInject_kept | with_reducible apply Kept.ite | split | dsimp only
    | with_reducible refine Kept.put ?_ rfl rfl rfl rfl rfl rfl rfl rfl rfl rfl

theorem State.carry_kept {s0 : State} (s : State) (ch : Nat) (h : Kept s0 s) :
    Kept s0 (State.carry s ch) := by
  unfold State.carry
  repeat' first
    | with_reducible assumption | intro _ | with_reducible apply State.when_kept
    | with_reducible apply State.rateCount_kept | with_reducible apply State.bump_kept
    | with_reducible apply State.intEdge_kept | with_reducible apply State.deliver_kept
    | with_reducible apply Kept.ite | split | dsimp only
    | with_reducible refine Kept.put ?_ rfl rfl rfl rfl rfl rfl rfl rfl rfl rfl

theorem State.publish_kept {s0 : State} (s : State) (own : Nat) (ch : Nat) (ao : Bool) (h : Kept s0 s) :
    Kept s0 (State.publish s own ch ao) := by
  unfold State.publish
  repeat' first
    | with_reducible assumption | intro _ | with_reducible apply State.denyPub_kept
    | with_reducible apply State.bump_kept | with_reducible apply State.carry_kept | with_reducible apply Kept.ite
    | split | dsimp only | with_reducible refine Kept.put ?_ rfl rfl rfl rfl rfl rfl rfl rfl rfl rfl

theorem State.cuTake_kept {s0 : State} (s : State) (u : Nat) (t : Nat) (frac : Nat) (fv : Bool) (group : Bool) (h : Kept s0 s) :
    Kept s0 (State.cuTake s u t frac fv group) := by
  unfold State.cuTake
  repeat' first
    | with_reducible assumption | intro _ | with_reducible apply State.when_kept
    | with_reducible apply State.lastTrig_kept | with_reducible apply State.setCuState_kept
    | with_reducible apply State.flag_kept | with_reducible apply State.setCu_kept
    | with_reducible apply State.maskRestart_kept | with_reducible apply State.publish_kept
    | with_reducible apply Kept.ite | split | dsimp only
    | with_reducible refine Kept.put ?_ rfl rfl rfl rfl rfl rfl rfl rfl rfl rfl

theorem State.cuMiss_kept {s0 : State} (s : State) (u : Nat) (h : Kept s0 s) :
    Kept s0 (State.cuMiss s u) := by
  unfold State.cuMiss
  repeat' first
    | with_reducible assumption | intro _ | with_reducible apply State.flag_kept
    | with_reducible apply State.bump_kept | with_reducible apply State.setCu_kept | with_reducible apply Kept.ite
    | split | dsimp only | with_reducible refine Kept.put ?_ rfl rfl rfl rfl rfl rfl rfl rfl rfl rfl

theorem State.grpFire_kept {s0 : State} (s : State) (g : Nat) (t : Nat) (frac : Nat) (fv : Bool) (own : Option Nat) (h : Kept s0 s) :
    Kept s0 (State.grpFire s g t frac fv own) := by
  unfold State.grpFire
  repeat' first
    | with_reducible assumption | intro _ | with_reducible apply forEach_kept | with_reducible apply State.setCu_kept
    | with_reducible apply State.cuTake_kept | with_reducible apply State.cuMiss_kept
    | with_reducible apply State.grpShow_kept | with_reducible apply Kept.ite | split | dsimp only
    | with_reducible refine Kept.put ?_ rfl rfl rfl rfl rfl rfl rfl rfl rfl rfl

theorem State.acqSettle_kept {s0 : State} (s : State) (h : Kept s0 s) :
    Kept s0 (State.acqSettle s) := by
  unfold State.acqSettle
  repeat' first
    | with_reducible assumption | intro _ | with_reducible apply forEach_kept
    | with_reducible apply State.trigMark_kept | with_reducible apply State.grpSend_kept
    | with_reducible apply State.setCu_kept | with_reducible apply State.grpFire_kept | with_reducible apply Kept.ite
    | split | dsimp only | with_reducible refine Kept.put ?_ rfl rfl rfl rfl rfl rfl rfl rfl rfl rfl

theorem State.acqSweep_kept {s0 : State} (s : State) (h : Kept s0 s) :
    Kept s0 (State.acqSweep s) := by
  unfold State.acqSweep
  repeat' first
    | with_reducible assumption | intro _ | with_reducible apply forEach_kept | with_reducible apply State.cuEnd_kept
    | with_reducible apply Kept.ite | split | dsimp only
    | with_reducible refine Kept.put ?_ rfl rfl rfl rfl rfl rfl rfl rfl rfl rfl

theorem State.rateNow_kept {s0 : State} (s : State) (u : Nat) (st : Nat) (k' : Nat) (h : Kept s0 s) :
    Kept s0 (State.rateNow s u st k') := by
  unfold State.rateNow
  repeat' first
    | with_reducible assumption | intro _ | with_reducible apply State.endGap_kept
    | with_reducible apply State.closeItem_kept | with_reducible apply State.p_kept
    | with_reducible apply State.setCu_kept | with_reducible apply State.cuMark_kept
    | with_reducible apply State.bump_kept | with_reducible apply Kept.ite | split | dsimp only
    | with_reducible refine Kept.put ?_ rfl rfl rfl rfl rfl rfl rfl rfl rfl rfl

theorem State.levelStep_kept {s0 : State} (s : State) (u : Nat) (stamp : Nat) (p : Int) (c : Int) (h : Kept s0 s) :
    Kept s0 (State.levelStep s u stamp p c) := by
  unfold State.levelStep
  repeat' first
    | with_reducible assumption | intro _ | with_reducible apply State.setCu_kept | with_reducible apply Kept.ite
    | split | dsimp only | with_reducible refine Kept.put ?_ rfl rfl rfl rfl rfl rfl rfl rfl rfl rfl

theorem State.streamDrop_kept {s0 : State} (s : State) (u : Nat) (stamp : Nat) (c : Nat) (h : Kept s0 s) :
    Kept s0 (State.streamDrop s u stamp c) := by
  unfold State.streamDrop
  repeat' first
    | with_reducible assumption | intro _ | with_reducible apply State.setCu_kept
    | with_reducible apply State.endGap_kept | with_reducible apply State.flag_kept
    | with_reducible apply State.bump64_kept | with_reducible apply Kept.ite | split | dsimp only
    | with_reducible refine Kept.put ?_ rfl rfl rfl rfl rfl rfl rfl rfl rfl rfl

theorem State.streamAdd_kept {s0 : State} (s : State) (u : Nat) (stamp : Nat) (y : IQ) (h : Kept s0 s) :
    Kept s0 (State.streamAdd s u stamp y) := by
  unfold State.streamAdd
  repeat' first
    | with_reducible assumption | intro _ | with_reducible apply State.setCu_kept
    | with_reducible apply State.closeItem_kept | with_reducible apply Kept.ite | split | dsimp only
    | with_reducible refine Kept.put ?_ rfl rfl rfl rfl rfl rfl rfl rfl rfl rfl

theorem State.lowMark_kept {s0 : State} (s : State) (u : Nat) (h : Kept s0 s) :
    Kept s0 (State.lowMark s u) := by
  unfold State.lowMark
  repeat' first
    | with_reducible assumption | intro _ | with_reducible apply State.setCu_kept | with_reducible apply Kept.ite
    | split | dsimp only | with_reducible refine Kept.put ?_ rfl rfl rfl rfl rfl rfl rfl rfl rfl rfl

theorem State.streamPut_kept {s0 : State} (s : State) (u : Nat) (stamp : Nat) (y : IQ) (h : Kept s0 s) :
    Kept s0 (State.streamPut s u stamp y) := by
  unfold State.streamPut
  repeat' first
    | with_reducible assumption | intro _ | with_reducible apply State.streamDrop_kept
    | with_reducible apply State.streamAdd_kept | with_reducible apply State.endGap_kept
    | with_reducible apply State.lowMark_kept | with_reducible apply Kept.ite | split | dsimp only
    | with_reducible refine Kept.put ?_ rfl rfl rfl rfl rfl rfl rfl rfl rfl rfl

theorem State.emit_kept {s0 : State} (s : State) (u : Nat) (stamp : Nat) (y : IQ) (h : Kept s0 s) :
    Kept s0 (State.emit s u stamp y) := by
  unfold State.emit
  repeat' first
    | with_reducible assumption | intro _ | with_reducible apply State.levelStep_kept
    | with_reducible apply State.maskStep_kept | with_reducible apply State.setCu_kept
    | with_reducible apply State.streamPut_kept | with_reducible apply Kept.ite | split | dsimp only
    | with_reducible refine Kept.put ?_ rfl rfl rfl rfl rfl rfl rfl rfl rfl rfl

theorem State.feedOne_kept {s0 : State} (s : State) (u : Nat) (w : Nat) (st : Nat) (v : IQ) (h : Kept s0 s) :
    Kept s0 (State.feedOne s u w st v) := by
  unfold State.feedOne
  repeat' first
    | with_reducible assumption | intro _ | with_reducible apply State.rateNow_kept
    | with_reducible apply State.setCu_kept | with_reducible apply State.emit_kept | with_reducible apply Kept.ite
    | split | dsimp only | with_reducible refine Kept.put ?_ rfl rfl rfl rfl rfl rfl rfl rfl rfl rfl

theorem State.feedDac_kept {s0 : State} (s : State) (u : Nat) (r : Nat) (h : Kept s0 s) :
    Kept s0 (State.feedDac s u r) := by
  unfold State.feedDac
  repeat' first
    | with_reducible assumption | intro _ | with_reducible apply forEach_kept
    | with_reducible apply State.feedOne_kept | with_reducible apply Kept.ite | split | dsimp only
    | with_reducible refine Kept.put ?_ rfl rfl rfl rfl rfl rfl rfl rfl rfl rfl

theorem State.acqTick_kept {s0 : State} (s : State) (h : Kept s0 s) :
    Kept s0 (State.acqTick s) := by
  unfold State.acqTick
  repeat' first
    | with_reducible assumption | intro _ | with_reducible apply forEach_kept
    | with_reducible apply State.feedDac_kept | with_reducible apply Kept.ite | split | dsimp only
    | with_reducible refine Kept.put ?_ rfl rfl rfl rfl rfl rfl rfl rfl rfl rfl

theorem State.raiseFlag_kept {s0 : State} (s : State) (q : Nat) (n : Nat) (rank : Nat) (v : Bool) (h : Kept s0 s) :
    Kept s0 (State.raiseFlag s q n rank v) := by
  unfold State.raiseFlag
  repeat' first
    | with_reducible assumption | intro _ | with_reducible apply State.when_kept
    | with_reducible apply State.flag_kept | with_reducible apply State.setSq_kept | with_reducible apply Kept.ite
    | split | dsimp only | with_reducible refine Kept.put ?_ rfl rfl rfl rfl rfl rfl rfl rfl rfl rfl

theorem State.badAction_kept {s0 : State} (s : State) (h : Kept s0 s) :
    Kept s0 (State.badAction s) := by
  unfold State.badAction
  repeat' first
    | with_reducible assumption | intro _ | with_reducible apply State.bump_kept | with_reducible apply Kept.ite
    | split | dsimp only | with_reducible refine Kept.put ?_ rfl rfl rfl rfl rfl rfl rfl rfl rfl rfl

theorem State.actFlag_kept {s0 : State} (s : State) (p : Nat) (q : Nat) (n : Nat) (rank : Nat) (v : Bool) (h : Kept s0 s) :
    Kept s0 (State.actFlag s p q n rank v) := by
  unfold State.actFlag
  repeat' first
    | with_reducible assumption | intro _ | with_reducible apply State.raiseFlag_kept
    | with_reducible apply State.badAction_kept | with_reducible apply Kept.ite | split | dsimp only
    | with_reducible refine Kept.put ?_ rfl rfl rfl rfl rfl rfl rfl rfl rfl rfl

theorem State.toggle_kept {s0 : State} (s : State) (f : Nat) (xz : Nat) (h : Kept s0 s) :
    Kept s0 (State.toggle s f xz) := by
  unfold State.toggle
  repeat' first
    | with_reducible assumption | intro _ | with_reducible apply Kept.ite | split | dsimp only
    | with_reducible refine Kept.put ?_ rfl rfl rfl rfl rfl rfl rfl rfl rfl rfl

theorem State.actPauli_kept {s0 : State} (s : State) (p : Nat) (f : Nat) (xz : Nat) (h : Kept s0 s) :
    Kept s0 (State.actPauli s p f xz) := by
  unfold State.actPauli
  repeat' first
    | with_reducible assumption | intro _ | with_reducible apply State.toggle_kept
    | with_reducible apply State.badAction_kept | with_reducible apply Kept.ite | split | dsimp only
    | with_reducible refine Kept.put ?_ rfl rfl rfl rfl rfl rfl rfl rfl rfl rfl

theorem State.via_kept {s0 : State} (s : State) (f : State → Out) (h : Kept s0 s)
    (hf : ∀ s, Kept s0 s → KeptOut s0 (f s)) : Kept s0 (State.via s f) := by
  have := hf s h
  unfold State.via
  split
  · rename_i e; rw [e] at this; exact this
  · exact h

theorem State.acts_kept {s0 : State} (s : State) (w : Word) (l : List (Nat × (State → Out))) (h : Kept s0 s)
    (hl : KeptActs s0 l) : Kept s0 (State.acts s w l) := by
  unfold State.acts
  induction l generalizing s with
  | nil => exact h
  | cons x l ih => exact ih _ (Kept.ite (State.via_kept _ _ h hl.1) h) hl.2

theorem State.adcTake_kept {s0 : State} (s : State) (m : Nat) (l : List AdcCode) (h : Kept s0 s) :
    Kept s0 (State.adcTake s m l) := by
  unfold State.adcTake
  repeat' first
    | with_reducible assumption | intro _ | with_reducible apply State.when_kept
    | with_reducible apply State.flag_kept | with_reducible apply State.bump_kept | with_reducible apply Kept.ite
    | split | dsimp only | with_reducible refine Kept.put ?_ rfl rfl rfl rfl rfl rfl rfl rfl rfl rfl

theorem State.feedAdc_kept {s0 : State} (s : State) (u : Nat) (h : Kept s0 s) :
    Kept s0 (State.feedAdc s u) := by
  unfold State.feedAdc
  repeat' first
    | with_reducible assumption | intro _ | with_reducible apply forEach_kept
    | with_reducible apply State.feedOne_kept | with_reducible apply Kept.ite | split | dsimp only
    | with_reducible refine Kept.put ?_ rfl rfl rfl rfl rfl rfl rfl rfl rfl rfl

theorem State.adcIn_kept {s0 : State} (s : State) (m : Nat) (l : List AdcCode) (h : Kept s0 s) :
    Kept s0 (State.adcIn s m l) := by
  unfold State.adcIn
  repeat' first
    | with_reducible assumption | intro _ | with_reducible apply forEach_kept
    | with_reducible apply State.adcTake_kept | with_reducible apply State.feedAdc_kept
    | with_reducible apply Kept.ite | split | dsimp only
    | with_reducible refine Kept.put ?_ rfl rfl rfl rfl rfl rfl rfl rfl rfl rfl

theorem State.adcReady_kept {s0 : State} (s : State) (i : Nat) (h : Kept s0 s) :
    Kept s0 (State.adcReady s i) := by
  unfold State.adcReady
  repeat' first
    | with_reducible assumption | intro _ | with_reducible apply State.settle_kept | with_reducible apply Kept.ite
    | split | dsimp only | with_reducible refine Kept.put ?_ rfl rfl rfl rfl rfl rfl rfl rfl rfl rfl

theorem State.admitRestored_kept {s0 : State} (s : State) (l : List Nat) (n : Nat) (h : Kept s0 s) :
    Kept s0 (State.admitRestored s l n) := by
  induction l generalizing s n with
  | nil => exact h
  | cons c l ih =>
    unfold State.admitRestored
    dsimp only
    refine Kept.ite (ih _ _ h) (ih _ _ ?_)
    exact Kept.upd (State.flag_kept s (chanPage c) (fldShed c) h) rfl rfl rfl rfl rfl rfl rfl rfl rfl rfl

theorem State.ppsDrop_kept {s0 : State} (s : State) (h : Kept s0 s) :
    Kept s0 (State.ppsDrop s) := by
  unfold State.ppsDrop
  repeat' first
    | with_reducible assumption | intro _ | with_reducible apply Kept.ite | split | dsimp only
    | with_reducible refine Kept.put ?_ rfl rfl rfl rfl rfl rfl rfl rfl rfl rfl

theorem State.wallAdvance_kept {s0 : State} (s : State) (n : Nat) (h : Kept s0 s) : Kept s0 (State.wallAdvance s n) :=
  h.change id id id (fun _ => id) id (fun _ => Nat.mod_lt _ (by decide)) rfl rfl (fun _ => rfl)

theorem State.sendAbort_kept {s0 : State} (s : State) (p : Nat) (g : Nat) (r : Nat) (h : Kept s0 s) :
    Kept s0 (State.sendAbort s p g r) := by
  unfold State.sendAbort
  repeat' first
    | with_reducible assumption | intro _ | with_reducible apply forEach_kept
    | with_reducible apply State.fabSend_kept | with_reducible apply Kept.ite | split | dsimp only
    | with_reducible refine Kept.put ?_ rfl rfl rfl rfl rfl rfl rfl rfl rfl rfl

theorem State.leaveBars_kept {s0 : State} (s : State) (q : Nat) (h : Kept s0 s) :
    Kept s0 (State.leaveBars s q) := by
  unfold State.leaveBars
  repeat' first
    | with_reducible assumption | intro _ | with_reducible apply State.setPrt_kept | with_reducible apply Kept.ite
    | split | dsimp only | with_reducible refine Kept.put ?_ rfl rfl rfl rfl rfl rfl rfl rfl rfl rfl

theorem State.endFetch_kept {s0 : State} (s : State) (q : Nat) (h : Kept s0 s) :
    Kept s0 (State.endFetch s q) := by
  unfold State.endFetch
  repeat' first
    | with_reducible assumption | intro _ | with_reducible apply State.setSq_kept
    | with_reducible apply State.bump64_kept | with_reducible apply Kept.ite | split | dsimp only
    | with_reducible refine Kept.put ?_ rfl rfl rfl rfl rfl rfl rfl rfl rfl rfl

theorem State.setPlays_kept {s0 : State} (s : State) (k : Nat) (l : List Play) (h : Kept s0 s) :
    Kept s0 (State.setPlays s k l) := by
  unfold State.setPlays
  repeat' first
    | with_reducible assumption | intro _ | with_reducible apply Kept.ite | split | dsimp only
    | with_reducible refine Kept.put ?_ rfl rfl rfl rfl rfl rfl rfl rfl rfl rfl

theorem State.laneClear_kept {s0 : State} (s : State) (k : Nat) (h : Kept s0 s) :
    Kept s0 (State.laneClear s k) := by
  unfold State.laneClear
  repeat' first
    | with_reducible assumption | intro _ | with_reducible apply State.setPlays_kept | with_reducible apply Kept.ite
    | split | dsimp only | with_reducible refine Kept.put ?_ rfl rfl rfl rfl rfl rfl rfl rfl rfl rfl

theorem State.setOutp_kept {s0 : State} (s : State) (k : Nat) (o : Outp) (h : Kept s0 s) :
    Kept s0 (State.setOutp s k o) := by
  unfold State.setOutp
  repeat' first
    | with_reducible assumption | intro _ | with_reducible apply Kept.ite | split | dsimp only
    | with_reducible refine Kept.put ?_ rfl rfl rfl rfl rfl rfl rfl rfl rfl rfl

theorem State.setFlx_kept {s0 : State} (s : State) (k : Nat) (o : Flx) (h : Kept s0 s) :
    Kept s0 (State.setFlx s k o) := by
  unfold State.setFlx
  repeat' first
    | with_reducible assumption | intro _ | with_reducible apply Kept.ite | split | dsimp only
    | with_reducible refine Kept.put ?_ rfl rfl rfl rfl rfl rfl rfl rfl rfl rfl

theorem State.seqQuiet_kept {s0 : State} (s : State) (q : Nat) (h : Kept s0 s) :
    Kept s0 (State.seqQuiet s q) := by
  unfold State.seqQuiet
  repeat' first
    | with_reducible assumption | intro _ | with_reducible apply forEach_kept
    | with_reducible apply State.laneClear_kept | with_reducible apply State.setOutp_kept
    | with_reducible apply State.setFlx_kept | with_reducible apply Kept.ite | split | dsimp only
    | with_reducible refine Kept.put ?_ rfl rfl rfl rfl rfl rfl rfl rfl rfl rfl

theorem State.setWin_kept {s0 : State} (s : State) (t : Nat) (w : Option Win) (h : Kept s0 s) :
    Kept s0 (State.setWin s t w) := by
  unfold State.setWin
  repeat' first
    | with_reducible assumption | intro _ | with_reducible apply Kept.ite | split | dsimp only
    | with_reducible refine Kept.put ?_ rfl rfl rfl rfl rfl rfl rfl rfl rfl rfl

theorem State.unflag_kept {s0 : State} (s : State) (pg : Nat) (f : Fld) (h : Kept s0 s) :
    Kept s0 (State.unflag s pg f) := by
  unfold State.unflag
  repeat' first
    | with_reducible assumption | intro _ | with_reducible apply State.p_kept | with_reducible apply Kept.ite | split
    | dsimp only | with_reducible refine Kept.put ?_ rfl rfl rfl rfl rfl rfl rfl rfl rfl rfl

theorem State.closeWin_kept {s0 : State} (s : State) (t : Nat) (stamp : Nat) (w : Win) (o : Outc) (clip : Bool) (m : Int) (sv : IQ) (h : Kept s0 s) :
    Kept s0 (State.closeWin s t stamp w o clip m sv) := by
  unfold State.closeWin
  repeat' first
    | with_reducible assumption | intro _ | with_reducible apply State.setPrt_kept
    | with_reducible apply State.setWin_kept | with_reducible apply State.bump64_kept
    | with_reducible apply State.bump_kept | with_reducible apply State.p_kept
    | with_reducible apply State.unflag_kept | with_reducible apply State.setReg_kept | with_reducible apply Kept.ite
    | split | dsimp only | with_reducible refine Kept.put ?_ rfl rfl rfl rfl rfl rfl rfl rfl rfl rfl

theorem State.toneOverflow_kept {s0 : State} (s : State) (t : Nat) (h : Kept s0 s) :
    Kept s0 (State.toneOverflow s t) := by
  unfold State.toneOverflow
  repeat' first
    | with_reducible assumption | intro _ | with_reducible apply State.logIt_kept
    | with_reducible apply State.bump_kept | with_reducible apply State.flag_kept | with_reducible apply Kept.ite
    | split | dsimp only | with_reducible refine Kept.put ?_ rfl rfl rfl rfl rfl rfl rfl rfl rfl rfl

theorem State.voidWin_kept {s0 : State} (s : State) (t : Nat) (stamp : Nat) (w : Win) (n : Nat) (c : Nat) (h : Kept s0 s) :
    Kept s0 (State.voidWin s t stamp w n c) := by
  unfold State.voidWin
  repeat' first
    | with_reducible assumption | intro _ | with_reducible apply State.when_kept
    | with_reducible apply State.closeWin_kept | with_reducible apply State.toneOverflow_kept
    | with_reducible apply Kept.ite | split | dsimp only
    | with_reducible refine Kept.put ?_ rfl rfl rfl rfl rfl rfl rfl rfl rfl rfl

theorem State.cutWin_kept {s0 : State} (s : State) (c : Nat) (t : Nat) (h : Kept s0 s) :
    Kept s0 (State.cutWin s c t) := by
  unfold State.cutWin
  repeat' first
    | with_reducible assumption | intro _ | with_reducible apply State.voidWin_kept | with_reducible apply Kept.ite
    | split | dsimp only | with_reducible refine Kept.put ?_ rfl rfl rfl rfl rfl rfl rfl rfl rfl rfl

theorem State.wantNext_kept {s0 : State} (s : State) (q : Nat) (h : Kept s0 s) :
    Kept s0 (State.wantNext s q) := by
  unfold State.wantNext
  repeat' first
    | with_reducible assumption | intro _ | with_reducible apply State.setSq_kept | with_reducible apply Kept.ite
    | split | dsimp only | with_reducible refine Kept.put ?_ rfl rfl rfl rfl rfl rfl rfl rfl rfl rfl

theorem State.goto_kept {s0 : State} (s : State) (q : Nat) (a : Nat) (h : Kept s0 s) :
    Kept s0 (State.goto s q a) := by
  unfold State.goto
  repeat' first
    | with_reducible assumption | intro _ | with_reducible apply State.wantNext_kept
    | with_reducible apply State.setSq_kept | with_reducible apply Kept.ite | split | dsimp only
    | with_reducible refine Kept.put ?_ rfl rfl rfl rfl rfl rfl rfl rfl rfl rfl

theorem State.markAdd_kept {s0 : State} (s : State) (p : Nat) (b : Nat) (n : Nat) (h : Kept s0 s) :
    Kept s0 (State.markAdd s p b n) := by
  unfold State.markAdd
  repeat' first
    | with_reducible assumption | intro _ | with_reducible apply State.setPrt_kept | with_reducible apply Kept.ite
    | split | dsimp only | with_reducible refine Kept.put ?_ rfl rfl rfl rfl rfl rfl rfl rfl rfl rfl

theorem State.mark_kept {s0 : State} (s : State) (p : Nat) (b : Nat) (h : Kept s0 s) :
    Kept s0 (State.mark s p b) := by
  unfold State.mark
  repeat' first
    | with_reducible assumption | intro _ | with_reducible apply State.markAdd_kept | with_reducible apply Kept.ite
    | split | dsimp only | with_reducible refine Kept.put ?_ rfl rfl rfl rfl rfl rfl rfl rfl rfl rfl

theorem State.regionAbort_kept {s0 : State} (s : State) (q : Nat) (r : Nat) (h : Kept s0 s) :
    Kept s0 (State.regionAbort s q r) := by
  unfold State.regionAbort
  repeat' first
    | with_reducible assumption | intro _ | with_reducible apply forEach_kept
    | with_reducible apply State.leaveBars_kept | with_reducible apply State.endFetch_kept
    | with_reducible apply State.setSq_kept | with_reducible apply State.setPrt_kept
    | with_reducible apply State.seqQuiet_kept | with_reducible apply State.cutWin_kept
    | with_reducible apply State.flag_kept | with_reducible apply State.bump_kept
    | with_reducible apply State.goto_kept | with_reducible apply State.mark_kept | with_reducible apply Kept.ite
    | split | dsimp only | with_reducible refine Kept.put ?_ rfl rfl rfl rfl rfl rfl rfl rfl rfl rfl

theorem State.regionMiss_kept {s0 : State} (s : State) (q : Nat) (e : Nat) (h : Kept s0 s) :
    Kept s0 (State.regionMiss s q e) := by
  unfold State.regionMiss
  repeat' first
    | with_reducible assumption | intro _ | with_reducible apply State.setSq_kept
    | with_reducible apply State.abortGroup_kept | with_reducible apply State.sendAbort_kept
    | with_reducible apply State.regionAbort_kept | with_reducible apply Kept.ite | split | dsimp only
    | with_reducible refine Kept.put ?_ rfl rfl rfl rfl rfl rfl rfl rfl rfl rfl

theorem State.levelPark_kept {s0 : State} (s : State) (n : Nat) (h : Kept s0 s) :
    Kept s0 (State.levelPark s n) := by
  unfold State.levelPark
  repeat' first
    | with_reducible assumption | intro _ | with_reducible apply State.setFlx_kept | with_reducible apply Kept.ite
    | split | dsimp only | with_reducible refine Kept.put ?_ rfl rfl rfl rfl rfl rfl rfl rfl rfl rfl

theorem State.seqSilence_kept {s0 : State} (s : State) (q : Nat) (h : Kept s0 s) :
    Kept s0 (State.seqSilence s q) := by
  unfold State.seqSilence
  repeat' first
    | with_reducible assumption | intro _ | with_reducible apply forEach_kept
    | with_reducible apply State.laneClear_kept | with_reducible apply State.levelPark_kept
    | with_reducible apply Kept.ite | split | dsimp only
    | with_reducible refine Kept.put ?_ rfl rfl rfl rfl rfl rfl rfl rfl rfl rfl

theorem State.cancelEff_kept {s0 : State} (s : State) (q : Nat) (r : Nat) (h : Kept s0 s) :
    Kept s0 (State.cancelEff s q r) := by
  unfold State.cancelEff
  repeat' first
    | with_reducible assumption | intro _ | with_reducible apply State.setSq_kept | with_reducible apply Kept.ite
    | split | dsimp only | with_reducible refine Kept.put ?_ rfl rfl rfl rfl rfl rfl rfl rfl rfl rfl

theorem State.shotOver_kept {s0 : State} (s : State) (p : Nat) (h : Kept s0 s) :
    Kept s0 (State.shotOver s p) := by
  unfold State.shotOver
  repeat' first
    | with_reducible assumption | intro _ | with_reducible apply State.setPrt_kept
    | with_reducible apply State.p64_kept | with_reducible apply Kept.ite | split | dsimp only
    | with_reducible refine Kept.put ?_ rfl rfl rfl rfl rfl rfl rfl rfl rfl rfl

theorem State.publishSrc_kept {s0 : State} (s : State) (n : Nat) (h : Kept s0 s) :
    Kept s0 (State.publishSrc s n) := by
  unfold State.publishSrc
  repeat' first
    | with_reducible assumption | intro _ | with_reducible apply forEach_kept
    | with_reducible apply State.publish_kept | with_reducible apply Kept.ite | split | dsimp only
    | with_reducible refine Kept.put ?_ rfl rfl rfl rfl rfl rfl rfl rfl rfl rfl

theorem State.settleMode_kept {s0 : State} (s : State) (h : Kept s0 s) :
    Kept s0 (State.settleMode s) := by
  unfold State.settleMode
  repeat' first
    | with_reducible assumption | intro _ | with_reducible apply State.logIt_kept
    | with_reducible apply State.publishSrc_kept | with_reducible apply Kept.ite | split | dsimp only
    | with_reducible refine Kept.put ?_ rfl rfl rfl rfl rfl rfl rfl rfl rfl rfl

theorem State.setPst_kept {s0 : State} (s : State) (p : Nat) (v : Nat) (h : Kept s0 s) :
    Kept s0 (State.setPst s p v) := by
  unfold State.setPst
  repeat' first
    | with_reducible assumption | intro _ | with_reducible apply State.p_kept | with_reducible apply State.logIt_kept
    | with_reducible apply State.settleMode_kept | with_reducible apply State.intEdge_kept
    | with_reducible apply Kept.ite | split | dsimp only
    | with_reducible refine Kept.put ?_ rfl rfl rfl rfl rfl rfl rfl rfl rfl rfl

theorem State.settleAll_kept {s0 : State} (s : State) (l : List (Nat × Nat)) (status : Nat) (result : Nat) (h : Kept s0 s) :
    Kept s0 (State.settleAll s l status result) := by
  unfold State.settleAll
  repeat' first
    | with_reducible assumption | intro _ | with_reducible apply foldl_kept | with_reducible apply State.settle_kept
    | with_reducible apply Kept.ite | split | dsimp only
    | with_reducible refine Kept.put ?_ rfl rfl rfl rfl rfl rfl rfl rfl rfl rfl

theorem State.dropShots_kept {s0 : State} (s : State) (p : Nat) (status : Nat) (h : Kept s0 s) :
    Kept s0 (State.dropShots s p status) := by
  unfold State.dropShots
  repeat' first
    | with_reducible assumption | intro _ | with_reducible apply State.settleAll_kept | with_reducible apply Kept.ite
    | split | dsimp only | with_reducible refine Kept.put ?_ rfl rfl rfl rfl rfl rfl rfl rfl rfl rfl

theorem State.toIdle_kept {s0 : State} (s : State) (p : Nat) (arm : Nat) (shots : Nat) (h : Kept s0 s) :
    Kept s0 (State.toIdle s p arm shots) := by
  unfold State.toIdle
  repeat' first
    | with_reducible assumption | intro _ | with_reducible apply forEach_kept
    | with_reducible apply State.endFetch_kept | with_reducible apply State.setSq_kept
    | with_reducible apply State.setPrt_kept | with_reducible apply State.unflag_kept
    | with_reducible apply State.setPst_kept | with_reducible apply State.publishSrc_kept
    | with_reducible apply State.settleAll_kept | with_reducible apply State.settle_kept
    | with_reducible apply State.dropShots_kept | with_reducible apply Kept.ite | split | dsimp only
    | with_reducible refine Kept.put ?_ rfl rfl rfl rfl rfl rfl rfl rfl rfl rfl

theorem State.runAbort_kept {s0 : State} (s : State) (p : Nat) (c : Nat) (m : Nat) (arm : Nat) (shots : Nat) (h : Kept s0 s) :
    Kept s0 (State.runAbort s p c m arm shots) := by
  unfold State.runAbort
  repeat' first
    | with_reducible assumption | intro _ | with_reducible apply forEach_kept
    | with_reducible apply State.seqSilence_kept | with_reducible apply State.cancelEff_kept
    | with_reducible apply State.cutWin_kept | with_reducible apply State.mark_kept
    | with_reducible apply State.shotOver_kept | with_reducible apply State.toIdle_kept
    | with_reducible apply Kept.ite | split | dsimp only
    | with_reducible refine Kept.put ?_ rfl rfl rfl rfl rfl rfl rfl rfl rfl rfl

theorem State.partAbort_kept {s0 : State} (s : State) (p : Nat) (h : Kept s0 s) :
    Kept s0 (State.partAbort s p) := by
  unfold State.partAbort
  repeat' first
    | with_reducible assumption | intro _ | with_reducible apply State.runAbort_kept | with_reducible apply Kept.ite
    | split | dsimp only | with_reducible refine Kept.put ?_ rfl rfl rfl rfl rfl rfl rfl rfl rfl rfl

theorem State.seqError_kept {s0 : State} (s : State) (q : Nat) (a : Nat) (e : Nat) (h : Kept s0 s) :
    Kept s0 (State.seqError s q a e) := by
  unfold State.seqError
  repeat' first
    | with_reducible assumption | intro _ | with_reducible apply State.bump_kept | with_reducible apply State.p_kept
    | with_reducible apply State.flag_kept | with_reducible apply State.regionMiss_kept
    | with_reducible apply State.partAbort_kept | with_reducible apply State.logIt_kept
    | with_reducible apply Kept.ite | split | dsimp only
    | with_reducible refine Kept.put ?_ rfl rfl rfl rfl rfl rfl rfl rfl rfl rfl

theorem State.repeatDone_kept {s0 : State} (s : State) (q : Nat) (a : Nat) (e : Nat) (h : Kept s0 s) :
    Kept s0 (State.repeatDone s q a e) := by
  unfold State.repeatDone
  repeat' first
    | with_reducible assumption | intro _ | with_reducible apply State.setSq_kept
    | with_reducible apply State.seqError_kept | with_reducible apply State.goto_kept | with_reducible apply Kept.ite
    | split | dsimp only | with_reducible refine Kept.put ?_ rfl rfl rfl rfl rfl rfl rfl rfl rfl rfl

theorem State.after_kept {s0 : State} (s : State) (q a e : Nat) (r0 : Option Nat) (r : Res) (h : KeptRes s0 r) :
    Kept s0 (State.after s q a e r0 r) := by
  cases r with
  | held t => exact h
  | bad t => exact State.seqError_kept _ _ _ _ h
  | go t nxt cost dur =>
    have ht : Kept s0 t := h
    unfold State.after
    dsimp only
    refine Kept.ite (State.seqError_kept _ _ _ _ ht) ?_
    split
    · exact State.setSq_kept _ _ _ ht
    · exact State.repeatDone_kept _ _ _ _ (State.setSq_kept _ _ _ ht)
    · split
      · exact State.seqError_kept _ _ _ _ ht
      · exact State.goto_kept _ _ _ (State.setSq_kept _ _ _ ht)

theorem State.setPending_kept {s0 : State} (s : State) (b : Nat) (h : Kept s0 s) :
    Kept s0 (State.setPending s b) := by
  unfold State.setPending
  repeat' first
    | with_reducible assumption | intro _ | with_reducible apply State.p_kept | with_reducible apply Kept.ite | split
    | dsimp only | with_reducible refine Kept.put ?_ rfl rfl rfl rfl rfl rfl rfl rfl rfl rfl

theorem State.firstCause_kept {s0 : State} (s : State) (c : Nat) (h : Kept s0 s) :
    Kept s0 (State.firstCause s c) := by
  unfold State.firstCause
  repeat' first
    | with_reducible assumption | intro _ | with_reducible apply State.when_kept | with_reducible apply State.p_kept
    | with_reducible apply Kept.ite | split | dsimp only
    | with_reducible refine Kept.put ?_ rfl rfl rfl rfl rfl rfl rfl rfl rfl rfl

theorem State.biasCut_kept {s0 : State} (s : State) (b : Nat) (h : Kept s0 s) :
    Kept s0 (State.biasCut s b) := by
  unfold State.biasCut
  repeat' first
    | with_reducible assumption | intro _ | with_reducible apply State.unflag_kept
    | with_reducible apply State.setBias_kept | with_reducible apply Kept.ite | split | dsimp only
    | with_reducible refine Kept.put ?_ rfl rfl rfl rfl rfl rfl rfl rfl rfl rfl

theorem State.biasOff_kept {s0 : State} (s : State) (b : Nat) (h : Kept s0 s) :
    Kept s0 (State.biasOff s b) := by
  unfold State.biasOff
  repeat' first
    | with_reducible assumption | intro _ | with_reducible apply State.biasCut_kept | with_reducible apply Kept.ite
    | split | dsimp only | with_reducible refine Kept.put ?_ rfl rfl rfl rfl rfl rfl rfl rfl rfl rfl

theorem State.endBusy_kept {s0 : State} (s : State) (h : Kept s0 s) :
    Kept s0 (State.endBusy s) := by
  unfold State.endBusy
  repeat' first
    | with_reducible assumption | intro _ | with_reducible apply forEach_kept | with_reducible apply State.when_kept
    | with_reducible apply State.biasOff_kept | with_reducible apply State.freeCtx_kept
    | with_reducible apply State.settleAll_kept | with_reducible apply Kept.ite | split | dsimp only
    | with_reducible refine Kept.put ?_ rfl rfl rfl rfl rfl rfl rfl rfl rfl rfl

theorem State.fresh_kept {s0 : State} (s : State) (bits : Nat) (h : Kept s0 s) :
    Kept s0 (State.fresh s bits).1 := by
  unfold State.fresh
  repeat' first
    | with_reducible assumption | intro _ | with_reducible apply Kept.ite | split | dsimp only
    | with_reducible refine Kept.put ?_ rfl rfl rfl rfl rfl rfl rfl rfl rfl rfl

theorem State.setSl_kept {s0 : State} (s : State) (g : Nat) (v : Nat) (h : Kept s0 s) :
    Kept s0 (State.setSl s g v) := by
  unfold State.setSl
  repeat' first
    | with_reducible assumption | intro _ | with_reducible apply State.p_kept | with_reducible apply Kept.ite | split
    | dsimp only | with_reducible refine Kept.put ?_ rfl rfl rfl rfl rfl rfl rfl rfl rfl rfl

theorem State.setSlice_kept {s0 : State} (s : State) (g : Nat) (x : Slice) (h : Kept s0 s) :
    Kept s0 (State.setSlice s g x) := by
  unfold State.setSlice
  repeat' first
    | with_reducible assumption | intro _ | with_reducible apply Kept.ite | split | dsimp only
    | with_reducible refine Kept.put ?_ rfl rfl rfl rfl rfl rfl rfl rfl rfl rfl

theorem State.sliceEnd_kept {s0 : State} (s : State) (g : Nat) (r : Nat) (n : Nat) (sig : W64) (h : Kept s0 s) :
    Kept s0 (State.sliceEnd s g r n sig) := by
  unfold State.sliceEnd
  repeat' first
    | with_reducible assumption | intro _ | with_reducible apply State.when_kept | with_reducible apply State.p64_kept
    | with_reducible apply State.p_kept | with_reducible apply State.bump_kept
    | with_reducible apply State.setReg_kept | with_reducible apply State.fresh_kept
    | with_reducible apply State.logIt_kept | with_reducible apply State.flag_kept
    | with_reducible apply State.settle_kept | with_reducible apply State.setSlice_kept
    | with_reducible apply Kept.ite | split | dsimp only
    | with_reducible refine Kept.put ?_ rfl rfl rfl rfl rfl rfl rfl rfl rfl rfl

theorem State.sliceAbandon_kept {s0 : State} (s : State) (g : Nat) (h : Kept s0 s) :
    Kept s0 (State.sliceAbandon s g) := by
  unfold State.sliceAbandon
  repeat' first
    | with_reducible assumption | intro _ | with_reducible apply State.fresh_kept
    | with_reducible apply State.setSl_kept | with_reducible apply State.sliceEnd_kept | with_reducible apply Kept.ite
    | split | dsimp only | with_reducible refine Kept.put ?_ rfl rfl rfl rfl rfl rfl rfl rfl rfl rfl

theorem State.setSp_kept {s0 : State} (s : State) (g : Nat) (v : Nat) (h : Kept s0 s) :
    Kept s0 (State.setSp s g v) := by
  unfold State.setSp
  repeat' first
    | with_reducible assumption | intro _ | with_reducible apply State.p_kept | with_reducible apply Kept.ite | split
    | dsimp only | with_reducible refine Kept.put ?_ rfl rfl rfl rfl rfl rfl rfl rfl rfl rfl

theorem State.crossbar_kept {s0 : State} (s : State) (g : Nat) (i : Nat) (on : Bool) (h : Kept s0 s) :
    Kept s0 (State.crossbar s g i on) := by
  unfold State.crossbar
  repeat' first
    | with_reducible assumption | intro _ | with_reducible apply State.bumpW_kept | with_reducible apply State.p_kept
    | with_reducible apply Kept.ite | split | dsimp only
    | with_reducible refine Kept.put ?_ rfl rfl rfl rfl rfl rfl rfl rfl rfl rfl

theorem State.sliceSafe_kept {s0 : State} (s : State) (g : Nat) (h : Kept s0 s) :
    Kept s0 (State.sliceSafe s g) := by
  unfold State.sliceSafe
  repeat' first
    | with_reducible assumption | intro _ | with_reducible apply State.sliceAbandon_kept
    | with_reducible apply State.setSp_kept | with_reducible apply State.crossbar_kept | with_reducible apply Kept.ite
    | split | dsimp only | with_reducible refine Kept.put ?_ rfl rfl rfl rfl rfl rfl rfl rfl rfl rfl

theorem State.biasFlush_kept {s0 : State} (s : State) (b : Nat) (h : Kept s0 s) :
    Kept s0 (State.biasFlush s b) := by
  unfold State.biasFlush
  repeat' first
    | with_reducible assumption | intro _ | with_reducible apply State.setBias_kept | with_reducible apply Kept.ite
    | split | dsimp only | with_reducible refine Kept.put ?_ rfl rfl rfl rfl rfl rfl rfl rfl rfl rfl

theorem State.biasClockStop_kept {s0 : State} (s : State) (b : Nat) (h : Kept s0 s) :
    Kept s0 (State.biasClockStop s b) := by
  unfold State.biasClockStop
  repeat' first
    | with_reducible assumption | intro _ | with_reducible apply State.setBias_kept | with_reducible apply Kept.ite
    | split | dsimp only | with_reducible refine Kept.put ?_ rfl rfl rfl rfl rfl rfl rfl rfl rfl rfl

theorem State.biasRamp_kept {s0 : State} (s : State) (b : Nat) (d : Int) (next : Nat) (h : Kept s0 s) :
    Kept s0 (State.biasRamp s b d next) := by
  unfold State.biasRamp
  repeat' first
    | with_reducible assumption | intro _ | with_reducible apply State.flag_kept
    | with_reducible apply State.setBias_kept | with_reducible apply Kept.ite | split | dsimp only
    | with_reducible refine Kept.put ?_ rfl rfl rfl rfl rfl rfl rfl rfl rfl rfl

theorem State.biasToSafe_kept {s0 : State} (s : State) (b : Nat) (h : Kept s0 s) :
    Kept s0 (State.biasToSafe s b) := by
  unfold State.biasToSafe
  repeat' first
    | with_reducible assumption | intro _ | with_reducible apply State.flag_kept
    | with_reducible apply State.biasRamp_kept | with_reducible apply Kept.ite | split | dsimp only
    | with_reducible refine Kept.put ?_ rfl rfl rfl rfl rfl rfl rfl rfl rfl rfl

theorem State.biasSafe_kept {s0 : State} (s : State) (b : Nat) (h : Kept s0 s) :
    Kept s0 (State.biasSafe s b) := by
  unfold State.biasSafe
  repeat' first
    | with_reducible assumption | intro _ | with_reducible apply State.biasFlush_kept
    | with_reducible apply State.biasClockStop_kept | with_reducible apply State.biasToSafe_kept
    | with_reducible apply State.unflag_kept | with_reducible apply State.setBias_kept | with_reducible apply Kept.ite
    | split | dsimp only | with_reducible refine Kept.put ?_ rfl rfl rfl rfl rfl rfl rfl rfl rfl rfl

theorem State.twinPat_kept {s0 : State} (s : State) (h : Kept s0 s) :
    Kept s0 (State.twinPat s) := by
  unfold State.twinPat
  repeat' first
    | with_reducible assumption | intro _ | with_reducible apply State.p_kept | with_reducible apply Kept.ite | split
    | dsimp only | with_reducible refine Kept.put ?_ rfl rfl rfl rfl rfl rfl rfl rfl rfl rfl

theorem State.twinSet_kept {s0 : State} (s : State) (v : Nat) (h : Kept s0 s) :
    Kept s0 (State.twinSet s v) := by
  unfold State.twinSet
  repeat' first
    | with_reducible assumption | intro _ | with_reducible apply State.logIt_kept | with_reducible apply State.p_kept
    | with_reducible apply State.twinPat_kept | with_reducible apply Kept.ite | split | dsimp only
    | with_reducible refine Kept.put ?_ rfl rfl rfl rfl rfl rfl rfl rfl rfl rfl

theorem State.mirror_kept {s0 : State} (s : State) (ws : List W64) (h : Kept s0 s) :
    Kept s0 (State.mirror s ws) := by
  unfold State.mirror
  repeat' first
    | with_reducible assumption | intro _ | with_reducible apply State.fabQueue_kept | with_reducible apply Kept.ite
    | split | dsimp only | with_reducible refine Kept.put ?_ rfl rfl rfl rfl rfl rfl rfl rfl rfl rfl

theorem State.mirrorAll_kept {s0 : State} (s : State) (ws : List W64) (h : Kept s0 s) :
    Kept s0 (State.mirrorAll s ws) := by
  unfold State.mirrorAll
  repeat' first
    | with_reducible assumption | intro _ | with_reducible apply State.mirror_kept
    | with_reducible apply State.fabQueue_kept | with_reducible apply Kept.ite | split | dsimp only
    | with_reducible refine Kept.put ?_ rfl rfl rfl rfl rfl rfl rfl rfl rfl rfl

theorem State.twinFail_kept {s0 : State} (s : State) (cause : Nat) (h : Kept s0 s) :
    Kept s0 (State.twinFail s cause) := by
  unfold State.twinFail
  repeat' first
    | with_reducible assumption | intro _ | with_reducible apply State.twinSet_kept
    | with_reducible apply State.mirrorAll_kept | with_reducible apply Kept.ite | split | dsimp only
    | with_reducible refine Kept.put ?_ rfl rfl rfl rfl rfl rfl rfl rfl rfl rfl

theorem State.ringSq_kept {s0 : State} (s : State) (n : Nat) (v : Nat) (h : Kept s0 s) :
    Kept s0 (State.ringSq s n v) := by
  unfold State.ringSq
  repeat' first
    | with_reducible assumption | intro _ | with_reducible apply State.flag_kept | with_reducible apply State.p_kept
    | with_reducible apply Kept.ite | split | dsimp only
    | with_reducible refine Kept.put ?_ rfl rfl rfl rfl rfl rfl rfl rfl rfl rfl

theorem State.ringCq_kept {s0 : State} (s : State) (n : Nat) (v : Nat) (h : Kept s0 s) :
    Kept s0 (State.ringCq s n v) := by
  unfold State.ringCq
  repeat' first
    | with_reducible assumption | intro _ | with_reducible apply State.flag_kept | with_reducible apply State.p_kept
    | with_reducible apply Kept.ite | split | dsimp only
    | with_reducible refine Kept.put ?_ rfl rfl rfl rfl rfl rfl rfl rfl rfl rfl

theorem State.ringHeld_kept {s0 : State} (s : State) (h : Kept s0 s) :
    Kept s0 (State.ringHeld s) := by
  unfold State.ringHeld
  repeat' first
    | with_reducible assumption | intro _ | with_reducible apply foldl_kept | with_reducible apply State.ringSq_kept
    | with_reducible apply State.ringCq_kept | with_reducible apply Kept.ite | split | dsimp only
    | with_reducible refine Kept.put ?_ rfl rfl rfl rfl rfl rfl rfl rfl rfl rfl

theorem State.enterSafe_kept {s0 : State} (s : State) (cause : Nat) (h : Kept s0 s) :
    Kept s0 (State.enterSafe s cause) := by
  unfold State.enterSafe
  repeat' first
    | with_reducible assumption | intro _ | with_reducible apply forEach_kept | with_reducible apply State.when_kept
    | with_reducible apply State.flag_kept | with_reducible apply State.p_kept
    | with_reducible apply State.endBusy_kept | with_reducible apply State.sliceSafe_kept
    | with_reducible apply State.dropShots_kept | with_reducible apply State.runAbort_kept
    | with_reducible apply State.acqSafe_kept | with_reducible apply State.biasSafe_kept
    | with_reducible apply State.twinFail_kept | with_reducible apply State.settleMode_kept
    | with_reducible apply State.ringHeld_kept | with_reducible apply Kept.ite | split | dsimp only
    | with_reducible refine Kept.put ?_ rfl rfl rfl rfl rfl rfl rfl rfl rfl rfl

theorem State.safeFor_kept {s0 : State} (s : State) (cause : Nat) (h : Kept s0 s) :
    Kept s0 (State.safeFor s cause) := by
  unfold State.safeFor
  repeat' first
    | with_reducible assumption | intro _ | with_reducible apply State.setPending_kept
    | with_reducible apply State.firstCause_kept | with_reducible apply State.enterSafe_kept
    | with_reducible apply Kept.ite | split | dsimp only
    | with_reducible refine Kept.put ?_ rfl rfl rfl rfl rfl rfl rfl rfl rfl rfl

theorem State.raiseSafe_kept {s0 : State} (s : State) (cause : Nat) (part : Nat) (source : Nat) (detail : Nat) (h : Kept s0 s) :
    Kept s0 (State.raiseSafe s cause part source detail) := by
  unfold State.raiseSafe
  repeat' first
    | with_reducible assumption | intro _ | with_reducible apply State.safeFor_kept
    | with_reducible apply State.logIt_kept | with_reducible apply Kept.ite | split | dsimp only
    | with_reducible refine Kept.put ?_ rfl rfl rfl rfl rfl rfl rfl rfl rfl rfl

theorem State.alignBad_kept {s0 : State} (s : State) (h : Kept s0 s) :
    Kept s0 (State.alignBad s) := by
  unfold State.alignBad
  repeat' first
    | with_reducible assumption | intro _ | with_reducible apply State.settle_kept
    | with_reducible apply State.flag_kept | with_reducible apply State.unflag_kept
    | with_reducible apply State.raiseSafe_kept | with_reducible apply Kept.ite | split | dsimp only
    | with_reducible refine Kept.put ?_ rfl rfl rfl rfl rfl rfl rfl rfl rfl rfl

end Sys2Proof.Machine
end

