-- ==== Sys2Proof/Laws/KeptB.lean ====
section
/-!
SUPPORT. Laws/KeptB.lean: that the operations of the model keep what Laws/Kept.lean says, one lemma an operation, in the order in
which they build on one another.
-/

namespace Sys2Proof.Machine
open Sys2Proof

theorem State.setLane_kept {s0 : State} (s : State) (l : Nat) (x : Lane) (h : Kept s0 s) :
    Kept s0 (State.setLane s l x) := by
  unfold State.setLane
  repeat' first
    | with_reducible assumption | intro _ | with_reducible apply Kept.ite | split | dsimp only
    | with_reducible refine Kept.put ?_ rfl rfl rfl rfl rfl rfl rfl rfl rfl rfl

theorem State.setRoute_kept {s0 : State} (s : State) (n : Nat) (x : Nat) (h : Kept s0 s) :
    Kept s0 (State.setRoute s n x) := by
  unfold State.setRoute
  repeat' first
    | with_reducible assumption | intro _ | with_reducible apply State.flag_kept | with_reducible apply State.p_kept
    | with_reducible apply Kept.ite | split | dsimp only
    | with_reducible refine Kept.put ?_ rfl rfl rfl rfl rfl rfl rfl rfl rfl rfl

theorem State.reroute_kept {s0 : State} (s : State) (h : Kept s0 s) :
    Kept s0 (State.reroute s) := by
  unfold State.reroute
  repeat' first
    | with_reducible assumption | intro _ | with_reducible apply forEach_kept
    | with_reducible apply State.setRoute_kept | with_reducible apply Kept.ite | split | dsimp only
    | with_reducible refine Kept.put ?_ rfl rfl rfl rfl rfl rfl rfl rfl rfl rfl

theorem State.portGone_kept {s0 : State} (s : State) (p : Nat) (h : Kept s0 s) :
    Kept s0 (State.portGone s p) := by
  unfold State.portGone
  repeat' first
    | with_reducible assumption | intro _ | with_reducible apply State.reroute_kept | with_reducible apply Kept.ite
    | split | dsimp only | with_reducible refine Kept.put ?_ rfl rfl rfl rfl rfl rfl rfl rfl rfl rfl

theorem State.portLeave_kept {s0 : State} (s : State) (p : Nat) (st : Nat) (h : Kept s0 s) :
    Kept s0 (State.portLeave s p st) := by
  unfold State.portLeave
  repeat' first
    | with_reducible assumption | intro _ | with_reducible apply State.unflag_kept | with_reducible apply State.p_kept
    | with_reducible apply State.setPort_kept | with_reducible apply Kept.ite | split | dsimp only
    | with_reducible refine Kept.put ?_ rfl rfl rfl rfl rfl rfl rfl rfl rfl rfl

theorem State.portFall_kept {s0 : State} (s : State) (p : Nat) (h : Kept s0 s) :
    Kept s0 (State.portFall s p) := by
  unfold State.portFall
  repeat' first
    | with_reducible assumption | intro _ | with_reducible apply State.flag_kept
    | with_reducible apply State.portLeave_kept | with_reducible apply State.logIt_kept
    | with_reducible apply State.bump_kept | with_reducible apply Kept.ite | split | dsimp only
    | with_reducible refine Kept.put ?_ rfl rfl rfl rfl rfl rfl rfl rfl rfl rfl

theorem State.portWidths_kept {s0 : State} (s : State) (p : Nat) (h : Kept s0 s) :
    Kept s0 (State.portWidths s p) := by
  unfold State.portWidths
  repeat' first
    | with_reducible assumption | intro _ | with_reducible apply State.p_kept
    | with_reducible apply State.portFall_kept | with_reducible apply Kept.ite | split | dsimp only
    | with_reducible refine Kept.put ?_ rfl rfl rfl rfl rfl rfl rfl rfl rfl rfl

theorem State.setLaneRx_kept {s0 : State} (s : State) (l : Nat) (v : Nat) (h : Kept s0 s) :
    Kept s0 (State.setLaneRx s l v) := by
  unfold State.setLaneRx
  repeat' first
    | with_reducible assumption | intro _ | with_reducible apply State.when_kept | with_reducible apply State.p_kept
    | with_reducible apply State.unflag_kept | with_reducible apply State.setLane_kept
    | with_reducible apply State.portGone_kept | with_reducible apply State.portWidths_kept
    | with_reducible apply Kept.ite | split | dsimp only
    | with_reducible refine Kept.put ?_ rfl rfl rfl rfl rfl rfl rfl rfl rfl rfl

theorem State.retire_kept {s0 : State} (s : State) (kind : Nat) (num : Nat) (h : Kept s0 s) :
    Kept s0 (State.retire s kind num) := by
  unfold State.retire
  repeat' first
    | with_reducible assumption | intro _ | with_reducible apply State.flag_kept | with_reducible apply Kept.ite
    | split | dsimp only | with_reducible refine Kept.put ?_ rfl rfl rfl rfl rfl rfl rfl rfl rfl rfl

theorem State.laneRetire_kept {s0 : State} (s : State) (l : Nat) (h : Kept s0 s) :
    Kept s0 (State.laneRetire s l) := by
  unfold State.laneRetire
  repeat' first
    | with_reducible assumption | intro _ | with_reducible apply State.p_kept | with_reducible apply State.flag_kept
    | with_reducible apply State.setLaneRx_kept | with_reducible apply State.logIt_kept
    | with_reducible apply State.retire_kept | with_reducible apply Kept.ite | split | dsimp only
    | with_reducible refine Kept.put ?_ rfl rfl rfl rfl rfl rfl rfl rfl rfl rfl

theorem State.alignFail_kept {s0 : State} (s : State) (l : Nat) (h : Kept s0 s) :
    Kept s0 (State.alignFail s l) := by
  unfold State.alignFail
  repeat' first
    | with_reducible assumption | intro _ | with_reducible apply State.setLane_kept
    | with_reducible apply State.laneRetire_kept | with_reducible apply State.setLaneRx_kept
    | with_reducible apply Kept.ite | split | dsimp only
    | with_reducible refine Kept.put ?_ rfl rfl rfl rfl rfl rfl rfl rfl rfl rfl

theorem State.clearPending_kept {s0 : State} (s : State) (b : Nat) (h : Kept s0 s) :
    Kept s0 (State.clearPending s b) := by
  unfold State.clearPending
  repeat' first
    | with_reducible assumption | intro _ | with_reducible apply State.p_kept | with_reducible apply Kept.ite | split
    | dsimp only | with_reducible refine Kept.put ?_ rfl rfl rfl rfl rfl rfl rfl rfl rfl rfl

theorem State.flxRamp_kept {s0 : State} (s : State) (n : Nat) (x1 : Int) (h : Kept s0 s) :
    Kept s0 (State.flxRamp s n x1) := by
  unfold State.flxRamp
  repeat' first
    | with_reducible assumption | intro _ | with_reducible apply State.flag_kept
    | with_reducible apply State.setFlx_kept | with_reducible apply Kept.ite | split | dsimp only
    | with_reducible refine Kept.put ?_ rfl rfl rfl rfl rfl rfl rfl rfl rfl rfl

theorem State.flxAllUp_kept {s0 : State} (s : State) (h : Kept s0 s) :
    Kept s0 (State.flxAllUp s) := by
  unfold State.flxAllUp
  repeat' first
    | with_reducible assumption | intro _ | with_reducible apply forEach_kept
    | with_reducible apply State.flxRamp_kept | with_reducible apply State.levelPark_kept
    | with_reducible apply Kept.ite | split | dsimp only
    | with_reducible refine Kept.put ?_ rfl rfl rfl rfl rfl rfl rfl rfl rfl rfl

theorem State.wakeUp_kept {s0 : State} (s : State) (h : Kept s0 s) :
    Kept s0 (State.wakeUp s) := by
  unfold State.wakeUp
  repeat' first
    | with_reducible assumption | intro _ | with_reducible apply forEach_kept
    | with_reducible apply State.setOutp_kept | with_reducible apply State.unflag_kept
    | with_reducible apply State.flxAllUp_kept | with_reducible apply Kept.ite | split | dsimp only
    | with_reducible refine Kept.put ?_ rfl rfl rfl rfl rfl rfl rfl rfl rfl rfl

theorem State.twinReturn_kept {s0 : State} (s : State) (h : Kept s0 s) :
    Kept s0 (State.twinReturn s) := by
  unfold State.twinReturn
  repeat' first
    | with_reducible assumption | intro _ | with_reducible apply State.fresh_kept
    | with_reducible apply State.twinSet_kept | with_reducible apply Kept.ite | split | dsimp only
    | with_reducible refine Kept.put ?_ rfl rfl rfl rfl rfl rfl rfl rfl rfl rfl

theorem State.laneApply_kept {s0 : State} (s : State) (l : Nat) (h : Kept s0 s) :
    Kept s0 (State.laneApply s l) := by
  unfold State.laneApply
  repeat' first
    | with_reducible assumption | intro _ | with_reducible apply State.when_kept | with_reducible apply State.p_kept
    | with_reducible apply State.flag_kept | with_reducible apply State.unflag_kept
    | with_reducible apply State.portGone_kept | with_reducible apply State.portWidths_kept
    | with_reducible apply State.setLaneRx_kept | with_reducible apply Kept.ite | split | dsimp only
    | with_reducible refine Kept.put ?_ rfl rfl rfl rfl rfl rfl rfl rfl rfl rfl

theorem State.lanesApply_kept {s0 : State} (s : State) (h : Kept s0 s) :
    Kept s0 (State.lanesApply s) := by
  unfold State.lanesApply
  repeat' first
    | with_reducible assumption | intro _ | with_reducible apply forEach_kept
    | with_reducible apply State.laneApply_kept | with_reducible apply Kept.ite | split | dsimp only
    | with_reducible refine Kept.put ?_ rfl rfl rfl rfl rfl rfl rfl rfl rfl rfl

theorem State.exitSafe_kept {s0 : State} (s : State) (h : Kept s0 s) :
    Kept s0 (State.exitSafe s) := by
  unfold State.exitSafe
  repeat' first
    | with_reducible assumption | intro _ | with_reducible apply State.settle_kept
    | with_reducible apply State.wakeUp_kept | with_reducible apply State.twinReturn_kept
    | with_reducible apply State.lanesApply_kept | with_reducible apply State.settleMode_kept
    | with_reducible apply State.unflag_kept | with_reducible apply Kept.ite | split | dsimp only
    | with_reducible refine Kept.put ?_ rfl rfl rfl rfl rfl rfl rfl rfl rfl rfl

theorem State.alignGood_kept {s0 : State} (s : State) (h : Kept s0 s) :
    Kept s0 (State.alignGood s) := by
  unfold State.alignGood
  repeat' first
    | with_reducible assumption | intro _ | with_reducible apply State.when_kept
    | with_reducible apply State.settle_kept | with_reducible apply State.flag_kept
    | with_reducible apply State.clearPending_kept | with_reducible apply State.exitSafe_kept
    | with_reducible apply Kept.ite | split | dsimp only
    | with_reducible refine Kept.put ?_ rfl rfl rfl rfl rfl rfl rfl rfl rfl rfl

theorem State.alignStart_kept {s0 : State} (s : State) (h : Kept s0 s) :
    Kept s0 (State.alignStart s) := by
  unfold State.alignStart
  repeat' first
    | with_reducible assumption | intro _ | with_reducible apply Kept.ite | split | dsimp only
    | with_reducible refine Kept.put ?_ rfl rfl rfl rfl rfl rfl rfl rfl rfl rfl

theorem State.alu_kept {s0 : State} (s : State) (q : Nat) (f : Seq → Seq) (h : Kept s0 s) :
    KeptRes s0 (State.alu s q f) := State.setSq_kept _ _ _ h

theorem State.aluBus_kept {s0 : State} (s : State) (w : CtlWord) (h : Kept s0 s) :
    Kept s0 (State.aluBus s w) := by
  unfold State.aluBus
  repeat' first
    | with_reducible assumption | intro _ | with_reducible apply State.fresh_kept | with_reducible apply Kept.ite
    | split | dsimp only | with_reducible refine Kept.put ?_ rfl rfl rfl rfl rfl rfl rfl rfl rfl rfl

theorem State.linkSend_kept {s0 : State} (s : State) (f : AFrame) (h : Kept s0 s) :
    Kept s0 (State.linkSend s f) := by
  unfold State.linkSend
  repeat' first
    | with_reducible assumption | intro _ | with_reducible apply Kept.ite | split | dsimp only
    | with_reducible refine Kept.put ?_ rfl rfl rfl rfl rfl rfl rfl rfl rfl rfl

theorem State.anchorAccept_kept {s0 : State} (s : State) (d : Nat) (v : Nat) (h : Kept s0 s) :
    Kept s0 (State.anchorAccept s d v) := by
  unfold State.anchorAccept
  dsimp only
  exact State.when_kept (h.pend d ⟨_, some (BitVec.ofNat 64 v, _)⟩ rfl) _ _ (fun s hs => State.linkSend_kept _ _ hs)

theorem State.setPair_kept {s0 : State} (s : State) (k : Nat) (x : Pair) (h : Kept s0 s) :
    Kept s0 (State.setPair s k x) := by
  unfold State.setPair
  repeat' first
    | with_reducible assumption | intro _ | with_reducible apply Kept.ite | split | dsimp only
    | with_reducible refine Kept.put ?_ rfl rfl rfl rfl rfl rfl rfl rfl rfl rfl

theorem State.pairsRestart_kept {s0 : State} (s : State) (p : Nat) (h : Kept s0 s) :
    Kept s0 (State.pairsRestart s p) := by
  unfold State.pairsRestart
  repeat' first
    | with_reducible assumption | intro _ | with_reducible apply forEach_kept
    | with_reducible apply State.setPair_kept | with_reducible apply Kept.ite | split | dsimp only
    | with_reducible refine Kept.put ?_ rfl rfl rfl rfl rfl rfl rfl rfl rfl rfl

theorem State.anchorTake_kept {s0 : State} (s : State) (d : Nat) (v : W64) (e : Nat) (h : Kept s0 s)
    (h0 : s0.anchored d = false) : Kept s0 (State.anchorTake s d v e) := by
  unfold State.anchorTake
  exact State.acqEpoch_kept _ _ (State.pairsRestart_kept _ _ (State.logIt_kept _ _ _ _ _ (State.flag_kept _ _ _
    (State.p_kept _ _ _ _ (h.anchor d _ h0)))))

theorem State.answer_kept {s0 : State} (s : State) (w : Word) (h : Kept s0 s) :
    Kept s0 (State.answer s w) := by
  unfold State.answer
  repeat' first
    | with_reducible assumption | intro _ | with_reducible apply Kept.ite | split | dsimp only
    | with_reducible refine Kept.put ?_ rfl rfl rfl rfl rfl rfl rfl rfl rfl rfl

theorem State.applyConf_kept {s0 : State} (s : State) (fn : Nat) (k : EvrConf) (h : Kept s0 s) :
    Kept s0 (State.applyConf s fn k) := by
  unfold State.applyConf
  repeat' first
    | with_reducible assumption | intro _ | with_reducible apply State.when_kept | with_reducible apply foldl_kept
    | with_reducible apply State.setReg_kept | with_reducible apply State.p_kept | with_reducible apply Kept.ite
    | split | dsimp only | with_reducible refine Kept.put ?_ rfl rfl rfl rfl rfl rfl rfl rfl rfl rfl

theorem State.applyDp_kept {s0 : State} (s : State) (g : Nat) (i : Nat) (h : Kept s0 s) :
    Kept s0 (State.applyDp s g i) := by
  unfold State.applyDp
  repeat' first
    | with_reducible assumption | intro _ | with_reducible apply State.when_kept | with_reducible apply State.p_kept
    | with_reducible apply State.flag_kept | with_reducible apply State.unflag_kept
    | with_reducible apply State.setSp_kept | with_reducible apply Kept.ite | split | dsimp only
    | with_reducible refine Kept.put ?_ rfl rfl rfl rfl rfl rfl rfl rfl rfl rfl

theorem State.bandCheck_kept {s0 : State} (s : State) (k : Nat) (h : Kept s0 s) :
    Kept s0 (State.bandCheck s k) := by
  unfold State.bandCheck
  repeat' first
    | with_reducible assumption | intro _ | with_reducible apply State.when_kept
    | with_reducible apply State.flag_kept | with_reducible apply Kept.ite | split | dsimp only
    | with_reducible refine Kept.put ?_ rfl rfl rfl rfl rfl rfl rfl rfl rfl rfl

theorem State.badPlay_kept {s0 : State} (s : State) (k : Nat) (h : Kept s0 s) :
    Kept s0 (State.badPlay s k) := by
  unfold State.badPlay
  repeat' first
    | with_reducible assumption | intro _ | with_reducible apply State.flag_kept
    | with_reducible apply State.bump_kept | with_reducible apply Kept.ite | split | dsimp only
    | with_reducible refine Kept.put ?_ rfl rfl rfl rfl rfl rfl rfl rfl rfl rfl

theorem State.later_kept {s0 : State} (s : State) (q : Nat) (t : Nat) (f : Eff) (h : Kept s0 s) :
    Kept s0 (State.later s q t f) := by
  unfold State.later
  repeat' first
    | with_reducible assumption | intro _ | with_reducible apply State.setSq_kept | with_reducible apply Kept.ite
    | split | dsimp only | with_reducible refine Kept.put ?_ rfl rfl rfl rfl rfl rfl rfl rfl rfl rfl

theorem State.playReq_kept {s0 : State} (s : State) (q : Nat) (k : Nat) (desc : Nat) (sub : Nat) (amp : Int) (pauli : Bool) (τ : Nat) (h : Kept s0 s) :
    Kept s0 (State.playReq s q k desc sub amp pauli τ) := by
  unfold State.playReq
  repeat' first
    | with_reducible assumption | intro _ | with_reducible apply State.bandCheck_kept
    | with_reducible apply State.bump64_kept | with_reducible apply State.badPlay_kept
    | with_reducible apply State.later_kept | with_reducible apply Kept.ite | split | dsimp only
    | with_reducible refine Kept.put ?_ rfl rfl rfl rfl rfl rfl rfl rfl rfl rfl

theorem State.playStart_kept {s0 : State} (s : State) (k : Nat) (p : Play) (h : Kept s0 s) :
    Kept s0 (State.playStart s k p).1 := by
  unfold State.playStart
  repeat' first
    | with_reducible assumption | intro _ | with_reducible apply State.setPlays_kept | with_reducible apply Kept.ite
    | split | dsimp only | with_reducible refine Kept.put ?_ rfl rfl rfl rfl rfl rfl rfl rfl rfl rfl

theorem State.startPlay_kept {s0 : State} (s : State) (k : Nat) (pl : Play) (h : Kept s0 s) :
    Kept s0 (State.startPlay s k pl) := by
  unfold State.startPlay
  repeat' first
    | with_reducible assumption | intro _ | with_reducible apply State.when_kept
    | with_reducible apply State.playStart_kept | with_reducible apply State.flag_kept
    | with_reducible apply State.bump_kept | with_reducible apply Kept.ite | split | dsimp only
    | with_reducible refine Kept.put ?_ rfl rfl rfl rfl rfl rfl rfl rfl rfl rfl

theorem State.setOsc_kept {s0 : State} (s : State) (k : Nat) (o : Osc) (h : Kept s0 s) :
    Kept s0 (State.setOsc s k o) := by
  unfold State.setOsc
  repeat' first
    | with_reducible assumption | intro _ | with_reducible apply Kept.ite | split | dsimp only
    | with_reducible refine Kept.put ?_ rfl rfl rfl rfl rfl rfl rfl rfl rfl rfl

theorem State.oscSet_kept {s0 : State} (s : State) (k : Nat) (t0 : Nat) (f : Nat) (p : Nat) (h : Kept s0 s) :
    Kept s0 (State.oscSet s k t0 f p) := by
  unfold State.oscSet
  repeat' first
    | with_reducible assumption | intro _ | with_reducible apply State.setOsc_kept | with_reducible apply Kept.ite
    | split | dsimp only | with_reducible refine Kept.put ?_ rfl rfl rfl rfl rfl rfl rfl rfl rfl rfl

theorem State.openWin_kept {s0 : State} (s : State) (t : Nat) (τ : Nat) (len : Nat) (early : Bool) (h : Kept s0 s) :
    Kept s0 (State.openWin s t τ len early) := by
  unfold State.openWin
  repeat' first
    | with_reducible assumption | intro _ | with_reducible apply State.when_kept
    | with_reducible apply State.mark_kept | with_reducible apply State.setWin_kept
    | with_reducible apply State.flag_kept | with_reducible apply Kept.ite | split | dsimp only
    | with_reducible refine Kept.put ?_ rfl rfl rfl rfl rfl rfl rfl rfl rfl rfl

theorem State.takeShadow_kept {s0 : State} (s : State) (k : Nat) (a : Nat) (h : Kept s0 s) :
    Kept s0 (State.takeShadow s k a) := by
  unfold State.takeShadow
  repeat' first
    | with_reducible assumption | intro _ | with_reducible apply State.setReg_kept | with_reducible apply Kept.ite
    | split | dsimp only | with_reducible refine Kept.put ?_ rfl rfl rfl rfl rfl rfl rfl rfl rfl rfl

theorem State.boundary_kept {s0 : State} (s : State) (k : Nat) (f : RegDesc → List Nat → Bool) (h : Kept s0 s) :
    Kept s0 (State.boundary s k f) := by
  unfold State.boundary
  repeat' first
    | with_reducible assumption | intro _ | with_reducible apply forEach_kept
    | with_reducible apply State.takeShadow_kept | with_reducible apply Kept.ite | split | dsimp only
    | with_reducible refine Kept.put ?_ rfl rfl rfl rfl rfl rfl rfl rfl rfl rfl

theorem State.markRise_kept {s0 : State} (s : State) (q : Nat) (b : Nat) (τ : Nat) (h : Kept s0 s) :
    Kept s0 (State.markRise s q b τ) := by
  unfold State.markRise
  repeat' first
    | with_reducible assumption | intro _ | with_reducible apply State.setSq_kept
    | with_reducible apply State.publishSrc_kept | with_reducible apply Kept.ite | split | dsimp only
    | with_reducible refine Kept.put ?_ rfl rfl rfl rfl rfl rfl rfl rfl rfl rfl

theorem State.holdOn_kept {s0 : State} (s : State) (q : Nat) (ready : Bool) (h : Kept s0 s) :
    Kept s0 (State.holdOn s q ready) := by
  unfold State.holdOn
  repeat' first
    | with_reducible assumption | intro _ | with_reducible apply State.when_kept
    | with_reducible apply State.setSq_kept | with_reducible apply State.mark_kept
    | with_reducible apply State.bump_kept | with_reducible apply Kept.ite | split | dsimp only
    | with_reducible refine Kept.put ?_ rfl rfl rfl rfl rfl rfl rfl rfl rfl rfl

theorem State.holdCheck_kept {s0 : State} (s : State) (q : Nat) (h : Kept s0 s) :
    Kept s0 (State.holdCheck s q) := by
  unfold State.holdCheck
  repeat' first
    | with_reducible assumption | intro _ | with_reducible apply foldl_kept | with_reducible apply State.holdOn_kept
    | with_reducible apply Kept.ite | split | dsimp only
    | with_reducible refine Kept.put ?_ rfl rfl rfl rfl rfl rfl rfl rfl rfl rfl

theorem State.applyEff_kept {s0 : State} (s : State) (q : Nat) (t : Nat) (f : Eff) (h : Kept s0 s) :
    Kept s0 (State.applyEff s q t f) := by
  unfold State.applyEff
  repeat' first
    | with_reducible assumption | intro _ | with_reducible apply forEach_kept
    | with_reducible apply State.playReq_kept | with_reducible apply State.startPlay_kept
    | with_reducible apply State.oscSet_kept | with_reducible apply State.setFlx_kept
    | with_reducible apply State.flag_kept | with_reducible apply State.openWin_kept
    | with_reducible apply State.boundary_kept | with_reducible apply State.markRise_kept
    | with_reducible apply State.setSq_kept | with_reducible apply State.holdCheck_kept
    | with_reducible apply Kept.ite | split | dsimp only
    | with_reducible refine Kept.put ?_ rfl rfl rfl rfl rfl rfl rfl rfl rfl rfl

theorem State.applyDue_kept {s0 : State} (s : State) (q : Nat) (h : Kept s0 s) :
    Kept s0 (State.applyDue s q) := by
  unfold State.applyDue
  repeat' first
    | with_reducible assumption | intro _ | with_reducible apply foldl_kept | with_reducible apply State.setSq_kept
    | with_reducible apply State.applyEff_kept | with_reducible apply Kept.ite | split | dsimp only
    | with_reducible refine Kept.put ?_ rfl rfl rfl rfl rfl rfl rfl rfl rfl rfl

theorem State.spareFresh_kept {s0 : State} (s : State) (g : Nat) (h : Kept s0 s) :
    Kept s0 (State.spareFresh s g) := by
  unfold State.spareFresh
  repeat' first
    | with_reducible assumption | intro _ | with_reducible apply State.p_kept | with_reducible apply State.setSp_kept
    | with_reducible apply State.unflag_kept | with_reducible apply Kept.ite | split | dsimp only
    | with_reducible refine Kept.put ?_ rfl rfl rfl rfl rfl rfl rfl rfl rfl rfl

theorem State.applySpare_kept {s0 : State} (s : State) (g : Nat) (h : Kept s0 s) :
    Kept s0 (State.applySpare s g) := by
  unfold State.applySpare
  repeat' first
    | with_reducible assumption | intro _ | with_reducible apply State.when_kept
    | with_reducible apply State.unflag_kept | with_reducible apply State.setSp_kept
    | with_reducible apply State.flag_kept | with_reducible apply Kept.ite | split | dsimp only
    | with_reducible refine Kept.put ?_ rfl rfl rfl rfl rfl rfl rfl rfl rfl rfl

theorem State.applyRetired_kept {s0 : State} (s : State) (r : Retired) (h : Kept s0 s) :
    Kept s0 (State.applyRetired s r) := by
  unfold State.applyRetired
  repeat' first
    | with_reducible assumption | intro _ | with_reducible apply State.applyDp_kept
    | with_reducible apply State.applySpare_kept | with_reducible apply State.flag_kept
    | with_reducible apply State.p_kept | with_reducible apply Kept.ite | split | dsimp only
    | with_reducible refine Kept.put ?_ rfl rfl rfl rfl rfl rfl rfl rfl rfl rfl

theorem State.applyMap_kept {s0 : State} (s : State) (h : Kept s0 s) :
    Kept s0 (State.applyMap s) := by
  unfold State.applyMap
  repeat' first
    | with_reducible assumption | intro _ | with_reducible apply forEach_kept | with_reducible apply State.when_kept
    | with_reducible apply foldl_kept | with_reducible apply State.spareFresh_kept
    | with_reducible apply State.unflag_kept | with_reducible apply State.p_kept
    | with_reducible apply State.applyRetired_kept | with_reducible apply Kept.ite | split | dsimp only
    | with_reducible refine Kept.put ?_ rfl rfl rfl rfl rfl rfl rfl rfl rfl rfl

theorem State.arm_kept {s0 : State} (s : State) (p : Nat) (start : Nat) (owed : Option (Nat × Nat)) (h : Kept s0 s) :
    Kept s0 (State.arm s p start owed) := by
  unfold State.arm
  repeat' first
    | with_reducible assumption | intro _ | with_reducible apply forEach_kept | with_reducible apply State.setSq_kept
    | with_reducible apply State.setPrt_kept | with_reducible apply State.setPst_kept | with_reducible apply Kept.ite
    | split | dsimp only | with_reducible refine Kept.put ?_ rfl rfl rfl rfl rfl rfl rfl rfl rfl rfl

theorem State.arrive_kept {s0 : State} (s : State) (q : Nat) (k : Nat) (τ : Nat) (ready : Bool) (h : Kept s0 s) :
    Kept s0 (State.arrive s q k τ ready) := by
  unfold State.arrive
  repeat' first
    | with_reducible assumption | intro _ | with_reducible apply State.onBar_kept | with_reducible apply Kept.ite
    | split | dsimp only | with_reducible refine Kept.put ?_ rfl rfl rfl rfl rfl rfl rfl rfl rfl rfl

theorem State.assemble_kept {s0 : State} (s : State) (p : Nat) (h : Kept s0 s) :
    Kept s0 (State.assemble s p) := by
  unfold State.assemble
  repeat' first
    | with_reducible assumption | intro _ | with_reducible apply State.setPrt_kept | with_reducible apply Kept.ite
    | split | dsimp only | with_reducible refine Kept.put ?_ rfl rfl rfl rfl rfl rfl rfl rfl rfl rfl

theorem State.finish_kept {s0 : State} (s : State) (p : Pkt) (x : Fail) (result : Nat) (h : Kept s0 s) :
    Kept s0 (State.finish s p x result) := by
  unfold State.finish
  repeat' first
    | with_reducible assumption | intro _ | with_reducible apply State.endCtx_kept | with_reducible apply Kept.ite
    | split | dsimp only | with_reducible refine Kept.put ?_ rfl rfl rfl rfl rfl rfl rfl rfl rfl rfl

theorem State.succeed_kept {s0 : State} (s : State) (p : Pkt) (result : Nat) (h : Kept s0 s) :
    Kept s0 (State.succeed s p result) := by
  unfold State.succeed
  repeat' first
    | with_reducible assumption | intro _ | with_reducible apply State.finish_kept | with_reducible apply Kept.ite
    | split | dsimp only | with_reducible refine Kept.put ?_ rfl rfl rfl rfl rfl rfl rfl rfl rfl rfl

theorem State.hostWrite_kept {s0 : State} (s : State) (a : Nat) (bs : List Byte) (h : Kept s0 s) :
    Kept s0 (State.hostWrite s a bs) :=
  h.change id id (fun c => writeBytes_wf c a bs) (fun _ => id) id id rfl rfl (fun _ => rfl)

theorem State.attest_kept {s0 : State} (s : State) (p : Pkt) (h : Kept s0 s) :
    Kept s0 (State.attest s p) := by
  unfold State.attest
  repeat' first
    | with_reducible assumption | intro _ | with_reducible apply State.succeed_kept
    | with_reducible apply State.bump_kept | with_reducible apply State.hostWrite_kept | with_reducible apply Kept.ite
    | split | dsimp only | with_reducible refine Kept.put ?_ rfl rfl rfl rfl rfl rfl rfl rfl rfl rfl

theorem State.attestAll_kept {s0 : State} (s : State) (h : Kept s0 s) :
    Kept s0 (State.attestAll s) := by
  unfold State.attestAll
  repeat' first
    | with_reducible assumption | intro _ | with_reducible apply foldl_kept | with_reducible apply State.attest_kept
    | with_reducible apply Kept.ite | split | dsimp only
    | with_reducible refine Kept.put ?_ rfl rfl rfl rfl rfl rfl rfl rfl rfl rfl

theorem State.biasRestore_kept {s0 : State} (s : State) (b : Nat) (h : Kept s0 s) :
    Kept s0 (State.biasRestore s b) := by
  unfold State.biasRestore
  repeat' first
    | with_reducible assumption | intro _ | with_reducible apply State.unflag_kept
    | with_reducible apply State.biasRamp_kept | with_reducible apply Kept.ite | split | dsimp only
    | with_reducible refine Kept.put ?_ rfl rfl rfl rfl rfl rfl rfl rfl rfl rfl

theorem State.autoRestore_kept {s0 : State} (s : State) (h : Kept s0 s) :
    Kept s0 (State.autoRestore s) := by
  unfold State.autoRestore
  repeat' first
    | with_reducible assumption | intro _ | with_reducible apply forEach_kept
    | with_reducible apply State.biasRestore_kept | with_reducible apply Kept.ite | split | dsimp only
    | with_reducible refine Kept.put ?_ rfl rfl rfl rfl rfl rfl rfl rfl rfl rfl

theorem State.setActReg_kept {s0 : State} (s : State) (a : Nat) (w : Word) (h : Kept s0 s) :
    Kept s0 (State.setActReg s a w) := by
  unfold State.setActReg
  repeat' first
    | with_reducible assumption | intro _ | with_reducible apply Kept.ite | split | dsimp only
    | with_reducible refine Kept.put ?_ rfl rfl rfl rfl rfl rfl rfl rfl rfl rfl

theorem State.bankSwap_kept {s0 : State} (s : State) (n : Nat) (h : Kept s0 s) :
    Kept s0 (State.bankSwap s n) := by
  unfold State.bankSwap
  repeat' first
    | with_reducible assumption | intro _ | with_reducible apply forEach_kept
    | with_reducible apply State.setActReg_kept | with_reducible apply State.setReg_kept
    | with_reducible apply State.unflag_kept | with_reducible apply State.p_kept | with_reducible apply Kept.ite
    | split | dsimp only | with_reducible refine Kept.put ?_ rfl rfl rfl rfl rfl rfl rfl rfl rfl rfl

theorem State.bankCommit_kept {s0 : State} (s : State) (n : Nat) (h : Kept s0 s) :
    Kept s0 (State.bankCommit s n) := by
  unfold State.bankCommit
  repeat' first
    | with_reducible assumption | intro _ | with_reducible apply State.flag_kept
    | with_reducible apply State.bankSwap_kept | with_reducible apply Kept.ite | split | dsimp only
    | with_reducible refine Kept.put ?_ rfl rfl rfl rfl rfl rfl rfl rfl rfl rfl

theorem State.storesOff_kept {s0 : State} (s : State) (h : Kept s0 s) :
    Kept s0 (State.storesOff s) := by
  unfold State.storesOff
  repeat' first
    | with_reducible assumption | intro _ | with_reducible apply forEach_kept | with_reducible apply State.setSq_kept
    | with_reducible apply Kept.ite | split | dsimp only
    | with_reducible refine Kept.put ?_ rfl rfl rfl rfl rfl rfl rfl rfl rfl rfl

theorem State.convDown_kept {s0 : State} (s : State) (h : Kept s0 s) :
    Kept s0 (State.convDown s) := by
  unfold State.convDown
  repeat' first
    | with_reducible assumption | intro _ | with_reducible apply Kept.ite | split | dsimp only
    | with_reducible refine Kept.put ?_ rfl rfl rfl rfl rfl rfl rfl rfl rfl rfl

theorem State.bankOff_kept {s0 : State} (s : State) (h : Kept s0 s) : Kept s0 (State.bankOff s) := by
  unfold State.bankOff
  have k := State.storesOff_kept _ (State.convDown_kept _ (State.unflag_kept _ Page.mem F.MEM_STATUS_INIT_DONE
    (forEach_kept s.biasList _ (State.unflag_kept _ Page.tim F.TIM_STATUS_ALIGNED
      (State.unflag_kept _ Page.tim F.TIM_STATUS_PLL_LOCK h)) _ (fun s b hs => State.biasOff_kept s b hs))))
  exact k.change id (fun _ => rfl) id (fun _ => id) id id rfl rfl (fun _ => rfl)

theorem State.bankDone_kept {s0 : State} (s : State) (h : Kept s0 s) :
    Kept s0 (State.bankDone s) := by
  unfold State.bankDone
  repeat' first
    | with_reducible assumption | intro _ | with_reducible apply State.bankOff_kept
    | with_reducible apply State.freeCtx_kept | with_reducible apply State.settleAll_kept
    | with_reducible apply State.settleMode_kept | with_reducible apply Kept.ite | split | dsimp only
    | with_reducible refine Kept.put ?_ rfl rfl rfl rfl rfl rfl rfl rfl rfl rfl

theorem State.takeCtx_kept {s0 : State} (s : State) (k : Nat) (x : Ctx) (h : Kept s0 s) :
    Kept s0 (State.takeCtx s k x) := by
  unfold State.takeCtx
  repeat' first
    | with_reducible assumption | intro _ | with_reducible apply State.setHctx_kept | with_reducible apply Kept.ite
    | split | dsimp only | with_reducible refine Kept.put ?_ rfl rfl rfl rfl rfl rfl rfl rfl rfl rfl

theorem State.biasDown_kept {s0 : State} (s : State) (b : Nat) (h : Kept s0 s) :
    Kept s0 (State.biasDown s b) := by
  unfold State.biasDown
  repeat' first
    | with_reducible assumption | intro _ | with_reducible apply State.biasFlush_kept
    | with_reducible apply State.biasClockStop_kept | with_reducible apply State.flag_kept
    | with_reducible apply State.biasRamp_kept | with_reducible apply Kept.ite | split | dsimp only
    | with_reducible refine Kept.put ?_ rfl rfl rfl rfl rfl rfl rfl rfl rfl rfl

theorem State.biasAllDown_kept {s0 : State} (s : State) (h : Kept s0 s) :
    Kept s0 (State.biasAllDown s) := by
  unfold State.biasAllDown
  repeat' first
    | with_reducible assumption | intro _ | with_reducible apply forEach_kept
    | with_reducible apply State.biasDown_kept | with_reducible apply Kept.ite | split | dsimp only
    | with_reducible refine Kept.put ?_ rfl rfl rfl rfl rfl rfl rfl rfl rfl rfl

theorem State.flxAllDown_kept {s0 : State} (s : State) (h : Kept s0 s) :
    Kept s0 (State.flxAllDown s) := by
  unfold State.flxAllDown
  repeat' first
    | with_reducible assumption | intro _ | with_reducible apply forEach_kept
    | with_reducible apply State.flxRamp_kept | with_reducible apply Kept.ite | split | dsimp only
    | with_reducible refine Kept.put ?_ rfl rfl rfl rfl rfl rfl rfl rfl rfl rfl

theorem State.monStop_kept {s0 : State} (s : State) (m : Nat) (h : Kept s0 s) :
    Kept s0 (State.monStop s m) := by
  unfold State.monStop
  repeat' first
    | with_reducible assumption | intro _ | with_reducible apply State.setMon_kept | with_reducible apply Kept.ite
    | split | dsimp only | with_reducible refine Kept.put ?_ rfl rfl rfl rfl rfl rfl rfl rfl rfl rfl

theorem State.setSpare_kept {s0 : State} (s : State) (g : Nat) (o : Spare) (h : Kept s0 s) :
    Kept s0 (State.setSpare s g o) := by
  unfold State.setSpare
  repeat' first
    | with_reducible assumption | intro _ | with_reducible apply Kept.ite | split | dsimp only
    | with_reducible refine Kept.put ?_ rfl rfl rfl rfl rfl rfl rfl rfl rfl rfl

theorem State.spareReturn_kept {s0 : State} (s : State) (g : Nat) (owed : Option (Nat × Nat)) (h : Kept s0 s) :
    Kept s0 (State.spareReturn s g owed) := by
  unfold State.spareReturn
  repeat' first
    | with_reducible assumption | intro _ | with_reducible apply State.setSp_kept
    | with_reducible apply State.setSpare_kept | with_reducible apply Kept.ite | split | dsimp only
    | with_reducible refine Kept.put ?_ rfl rfl rfl rfl rfl rfl rfl rfl rfl rfl

theorem State.slicesBack_kept {s0 : State} (s : State) (h : Kept s0 s) :
    Kept s0 (State.slicesBack s) := by
  unfold State.slicesBack
  repeat' first
    | with_reducible assumption | intro _ | with_reducible apply forEach_kept
    | with_reducible apply State.sliceAbandon_kept | with_reducible apply State.setSp_kept
    | with_reducible apply State.spareReturn_kept | with_reducible apply Kept.ite | split | dsimp only
    | with_reducible refine Kept.put ?_ rfl rfl rfl rfl rfl rfl rfl rfl rfl rfl

theorem State.rampAll_kept {s0 : State} (s : State) (h : Kept s0 s) :
    Kept s0 (State.rampAll s) := by
  unfold State.rampAll
  repeat' first
    | with_reducible assumption | intro _ | with_reducible apply forEach_kept
    | with_reducible apply State.biasAllDown_kept | with_reducible apply State.flxAllDown_kept
    | with_reducible apply State.monStop_kept | with_reducible apply State.slicesBack_kept
    | with_reducible apply Kept.ite | split | dsimp only
    | with_reducible refine Kept.put ?_ rfl rfl rfl rfl rfl rfl rfl rfl rfl rfl

theorem State.bankStart_kept {s0 : State} (s : State) (owed : List (Nat × Nat)) (h : Kept s0 s) :
    Kept s0 (State.bankStart s owed) := by
  unfold State.bankStart
  repeat' first
    | with_reducible assumption | intro _ | with_reducible apply State.lanesApply_kept
    | with_reducible apply State.rampAll_kept | with_reducible apply Kept.ite | split | dsimp only
    | with_reducible refine Kept.put ?_ rfl rfl rfl rfl rfl rfl rfl rfl rfl rfl

theorem State.bankReg_kept {s0 : State} (s : State) (h : Kept s0 s) :
    Kept s0 (State.bankReg s) := by
  unfold State.bankReg
  repeat' first
    | with_reducible assumption | intro _ | with_reducible apply State.flag_kept
    | with_reducible apply State.takeCtx_kept | with_reducible apply State.bankStart_kept
    | with_reducible apply Kept.ite | split | dsimp only
    | with_reducible refine Kept.put ?_ rfl rfl rfl rfl rfl rfl rfl rfl rfl rfl

theorem State.begin_kept {s0 : State} (s : State) (c : Cmd) (p : Pkt) (h : Kept s0 s) :
    Kept s0 (State.begin s c p) := by
  unfold State.begin
  repeat' first
    | with_reducible assumption | intro _ | with_reducible apply hc.run | with_reducible apply hc.rej
    | with_reducible apply State.takeCtx_kept | with_reducible apply Kept.ite | split | dsimp only
    | with_reducible refine Kept.put ?_ rfl rfl rfl rfl rfl rfl rfl rfl rfl rfl

theorem cPwrWake_kept :
    KeptCmd cPwrWake := by
  constructor
  all_goals (unfold cPwrWake)
  repeat' first
    | with_reducible assumption | intro _ | with_reducible apply State.finish_kept
    | with_reducible apply State.succeed_kept | with_reducible apply Kept.ite | split | dsimp only
    | with_reducible refine Kept.put ?_ rfl rfl rfl rfl rfl rfl rfl rfl rfl rfl

theorem State.wakeBegin_kept {s0 : State} (s : State) (p : Pkt) (h : Kept s0 s) :
    Kept s0 (State.wakeBegin s p) := by
  unfold State.wakeBegin
  repeat' first
    | with_reducible assumption | intro _ | with_reducible apply State.begin_kept | with_reducible apply cPwrWake_kept
    | with_reducible apply Kept.ite | split | dsimp only
    | with_reducible refine Kept.put ?_ rfl rfl rfl rfl rfl rfl rfl rfl rfl rfl

theorem State.wakesWaiting_kept {s0 : State} (s : State) (h : Kept s0 s) :
    Kept s0 (State.wakesWaiting s) := by
  unfold State.wakesWaiting
  repeat' first
    | with_reducible assumption | intro _ | with_reducible apply foldl_kept
    | with_reducible apply State.wakeBegin_kept | with_reducible apply Kept.ite | split | dsimp only
    | with_reducible refine Kept.put ?_ rfl rfl rfl rfl rfl rfl rfl rfl rfl rfl

theorem State.biasUp_kept {s0 : State} (s : State) (b : Nat) (h : Kept s0 s) :
    Kept s0 (State.biasUp s b) := by
  unfold State.biasUp
  repeat' first
    | with_reducible assumption | intro _ | with_reducible apply State.flag_kept
    | with_reducible apply State.setBias_kept | with_reducible apply Kept.ite | split | dsimp only
    | with_reducible refine Kept.put ?_ rfl rfl rfl rfl rfl rfl rfl rfl rfl rfl

theorem State.biasSettle_kept {s0 : State} (s : State) (b : Nat) (st : Nat) (h : Kept s0 s) :
    Kept s0 (State.biasSettle s b st) := by
  unfold State.biasSettle
  repeat' first
    | with_reducible assumption | intro _ | with_reducible apply State.settleAll_kept
    | with_reducible apply State.setBias_kept | with_reducible apply Kept.ite | split | dsimp only
    | with_reducible refine Kept.put ?_ rfl rfl rfl rfl rfl rfl rfl rfl rfl rfl

theorem State.biasDark_kept {s0 : State} (s : State) (b : Nat) (h : Kept s0 s) :
    Kept s0 (State.biasDark s b) := by
  unfold State.biasDark
  repeat' first
    | with_reducible assumption | intro _ | with_reducible apply State.biasSettle_kept
    | with_reducible apply State.flag_kept | with_reducible apply State.biasCut_kept | with_reducible apply Kept.ite
    | split | dsimp only | with_reducible refine Kept.put ?_ rfl rfl rfl rfl rfl rfl rfl rfl rfl rfl

theorem State.biasLost_kept {s0 : State} (s : State) (b : Nat) (cause : Nat) (h : Kept s0 s) :
    Kept s0 (State.biasLost s b cause) := by
  unfold State.biasLost
  repeat' first
    | with_reducible assumption | intro _ | with_reducible apply State.biasDark_kept
    | with_reducible apply State.logAs_kept | with_reducible apply State.retire_kept | with_reducible apply Kept.ite
    | split | dsimp only | with_reducible refine Kept.put ?_ rfl rfl rfl rfl rfl rfl rfl rfl rfl rfl

theorem State.biasMeasure_kept {s0 : State} (s : State) (b : Nat) (h : Kept s0 s) :
    Kept s0 (State.biasMeasure s b) := by
  unfold State.biasMeasure
  repeat' first
    | with_reducible assumption | intro _ | with_reducible apply State.biasLost_kept | with_reducible apply Kept.ite
    | split | dsimp only | with_reducible refine Kept.put ?_ rfl rfl rfl rfl rfl rfl rfl rfl rfl rfl

theorem State.convUp_kept {s0 : State} (s : State) (h : Kept s0 s) :
    Kept s0 (State.convUp s) := by
  unfold State.convUp
  repeat' first
    | with_reducible assumption | intro _ | with_reducible apply forEach_kept | with_reducible apply State.biasUp_kept
    | with_reducible apply State.biasMeasure_kept | with_reducible apply Kept.ite | split | dsimp only
    | with_reducible refine Kept.put ?_ rfl rfl rfl rfl rfl rfl rfl rfl rfl rfl

theorem State.wakeSteps_kept {s0 : State} (s : State) (h : Kept s0 s) :
    Kept s0 (State.wakeSteps s) := by
  unfold State.wakeSteps
  repeat' first
    | with_reducible assumption | intro _ | with_reducible apply State.alignStart_kept
    | with_reducible apply State.convUp_kept | with_reducible apply State.flag_kept | with_reducible apply Kept.ite
    | split | dsimp only | with_reducible refine Kept.put ?_ rfl rfl rfl rfl rfl rfl rfl rfl rfl rfl

theorem State.startWake_kept {s0 : State} (s : State) (h : Kept s0 s) :
    Kept s0 (State.startWake s) := by
  unfold State.startWake
  repeat' first
    | with_reducible assumption | intro _ | with_reducible apply State.flag_kept
    | with_reducible apply State.wakeSteps_kept | with_reducible apply Kept.ite | split | dsimp only
    | with_reducible refine Kept.put ?_ rfl rfl rfl rfl rfl rfl rfl rfl rfl rfl

theorem State.bankWakes_kept {s0 : State} (s : State) (h : Kept s0 s) :
    Kept s0 (State.bankWakes s) := by
  unfold State.bankWakes
  repeat' first
    | with_reducible assumption | intro _ | with_reducible apply State.wakesWaiting_kept
    | with_reducible apply State.startWake_kept | with_reducible apply Kept.ite | split | dsimp only
    | with_reducible refine Kept.put ?_ rfl rfl rfl rfl rfl rfl rfl rfl rfl rfl

theorem State.setGath_kept {s0 : State} (s : State) (g : Nat) (x : Gath) (h : Kept s0 s) :
    Kept s0 (State.setGath s g x) := by
  unfold State.setGath
  repeat' first
    | with_reducible assumption | intro _ | with_reducible apply Kept.ite | split | dsimp only
    | with_reducible refine Kept.put ?_ rfl rfl rfl rfl rfl rfl rfl rfl rfl rfl

theorem State.guClear_kept {s0 : State} (s : State) (g : Nat) (h : Kept s0 s) :
    Kept s0 (State.guClear s g) := by
  unfold State.guClear
  repeat' first
    | with_reducible assumption | intro _ | with_reducible apply State.setGath_kept | with_reducible apply Kept.ite
    | split | dsimp only | with_reducible refine Kept.put ?_ rfl rfl rfl rfl rfl rfl rfl rfl rfl rfl

theorem State.decShot_kept {s0 : State} (s : State) (p : Nat) (h : Kept s0 s) :
    Kept s0 (State.decShot s p) := by
  unfold State.decShot
  repeat' first
    | with_reducible assumption | intro _ | with_reducible apply forEach_kept
    | with_reducible apply State.guClear_kept | with_reducible apply Kept.ite | split | dsimp only
    | with_reducible refine Kept.put ?_ rfl rfl rfl rfl rfl rfl rfl rfl rfl rfl

theorem State.fluxBoundary_kept {s0 : State} (s : State) (p : Nat) (swap : Bool) (h : Kept s0 s) :
    Kept s0 (State.fluxBoundary s p swap) := by
  unfold State.fluxBoundary
  repeat' first
    | with_reducible assumption | intro _ | with_reducible apply forEach_kept
    | with_reducible apply State.levelPark_kept | with_reducible apply State.bankSwap_kept
    | with_reducible apply Kept.ite | split | dsimp only
    | with_reducible refine Kept.put ?_ rfl rfl rfl rfl rfl rfl rfl rfl rfl rfl

theorem State.shotBegin_kept {s0 : State} (s : State) (p : Nat) (t : Nat) (h : Kept s0 s) :
    Kept s0 (State.shotBegin s p t) := by
  unfold State.shotBegin
  repeat' first
    | with_reducible assumption | intro _ | with_reducible apply forEach_kept | with_reducible apply State.when_kept
    | with_reducible apply State.setPrt_kept | with_reducible apply State.mark_kept
    | with_reducible apply State.decShot_kept | with_reducible apply State.fluxBoundary_kept
    | with_reducible apply Kept.ite | split | dsimp only
    | with_reducible refine Kept.put ?_ rfl rfl rfl rfl rfl rfl rfl rfl rfl rfl

theorem State.takeDigest_kept {s0 : State} (s : State) (p : Nat) (n : Nat) (h : Kept s0 s) :
    Kept s0 (State.takeDigest s p n) := by
  unfold State.takeDigest
  repeat' first
    | with_reducible assumption | intro _ | with_reducible apply Kept.ite | split | dsimp only
    | with_reducible refine Kept.put ?_ rfl rfl rfl rfl rfl rfl rfl rfl rfl rfl

theorem State.shotFinish_kept {s0 : State} (s : State) (p : Nat) (h : Kept s0 s) :
    Kept s0 (State.shotFinish s p) := by
  unfold State.shotFinish
  repeat' first
    | with_reducible assumption | intro _ | with_reducible apply forEach_kept | with_reducible apply State.cutWin_kept
    | with_reducible apply State.shotOver_kept | with_reducible apply State.boundary_kept
    | with_reducible apply State.fluxBoundary_kept | with_reducible apply State.takeDigest_kept
    | with_reducible apply Kept.ite | split | dsimp only
    | with_reducible refine Kept.put ?_ rfl rfl rfl rfl rfl rfl rfl rfl rfl rfl

theorem State.barRelease_kept {s0 : State} (s : State) (p : Nat) (b : Bar) (t : Nat) (h : Kept s0 s) :
    Kept s0 (State.barRelease s p b t) := by
  unfold State.barRelease
  repeat' first
    | with_reducible assumption | intro _ | with_reducible apply forEach_kept | with_reducible apply State.setPrt_kept
    | with_reducible apply State.toIdle_kept | with_reducible apply State.shotBegin_kept
    | with_reducible apply State.shotFinish_kept | with_reducible apply State.setSq_kept
    | with_reducible apply Kept.ite | split | dsimp only
    | with_reducible refine Kept.put ?_ rfl rfl rfl rfl rfl rfl rfl rfl rfl rfl

theorem State.twinShotStart_kept {s0 : State} (s : State) (h : Kept s0 s) :
    Kept s0 (State.twinShotStart s) := by
  unfold State.twinShotStart
  repeat' first
    | with_reducible assumption | intro _ | with_reducible apply State.twinSet_kept | with_reducible apply Kept.ite
    | split | dsimp only | with_reducible refine Kept.put ?_ rfl rfl rfl rfl rfl rfl rfl rfl rfl rfl

theorem State.handOver_kept {s0 : State} (s : State) (h : Kept s0 s) :
    Kept s0 (State.handOver s) := by
  unfold State.handOver
  repeat' first
    | with_reducible assumption | intro _ | with_reducible apply State.settle_kept
    | with_reducible apply State.twinSet_kept | with_reducible apply Kept.ite | split | dsimp only
    | with_reducible refine Kept.put ?_ rfl rfl rfl rfl rfl rfl rfl rfl rfl rfl

theorem State.handDue_kept {s0 : State} (s : State) (h : Kept s0 s) :
    Kept s0 (State.handDue s) := by
  unfold State.handDue
  repeat' first
    | with_reducible assumption | intro _ | with_reducible apply State.handOver_kept | with_reducible apply Kept.ite
    | split | dsimp only | with_reducible refine Kept.put ?_ rfl rfl rfl rfl rfl rfl rfl rfl rfl rfl

theorem State.joinSend_kept {s0 : State} (s : State) (h : Kept s0 s) :
    Kept s0 (State.joinSend s) := by
  unfold State.joinSend
  repeat' first
    | with_reducible assumption | intro _ | with_reducible apply foldl_kept | with_reducible apply State.mirror_kept
    | with_reducible apply State.fabQueue_kept | with_reducible apply Kept.ite | split | dsimp only
    | with_reducible refine Kept.put ?_ rfl rfl rfl rfl rfl rfl rfl rfl rfl rfl

theorem State.diverge_kept {s0 : State} (s : State) (h : Kept s0 s) :
    Kept s0 (State.diverge s) := by
  unfold State.diverge
  repeat' first
    | with_reducible assumption | intro _ | with_reducible apply State.bump_kept
    | with_reducible apply State.flag_kept | with_reducible apply State.twinSet_kept
    | with_reducible apply State.unflag_kept | with_reducible apply State.logIt_kept | with_reducible apply Kept.ite
    | split | dsimp only | with_reducible refine Kept.put ?_ rfl rfl rfl rfl rfl rfl rfl rfl rfl rfl

theorem State.twinCompare_kept {s0 : State} (s : State) (p : Nat) (n : Nat) (h : Kept s0 s) :
    Kept s0 (State.twinCompare s p n) := by
  unfold State.twinCompare
  repeat' first
    | with_reducible assumption | intro _ | with_reducible apply State.flag_kept
    | with_reducible apply State.diverge_kept | with_reducible apply Kept.ite | split | dsimp only
    | with_reducible refine Kept.put ?_ rfl rfl rfl rfl rfl rfl rfl rfl rfl rfl

theorem State.twinShotEnd_kept {s0 : State} (s : State) (p : Nat) (n : Nat) (h : Kept s0 s) :
    Kept s0 (State.twinShotEnd s p n) := by
  unfold State.twinShotEnd
  repeat' first
    | with_reducible assumption | intro _ | with_reducible apply State.handDue_kept
    | with_reducible apply State.joinSend_kept | with_reducible apply State.twinCompare_kept
    | with_reducible apply Kept.ite | split | dsimp only
    | with_reducible refine Kept.put ?_ rfl rfl rfl rfl rfl rfl rfl rfl rfl rfl

theorem State.barGo_kept {s0 : State} (s : State) (p : Nat) (b : Bar) (t : Nat) (h : Kept s0 s) :
    Kept s0 (State.barGo s p b t) := by
  unfold State.barGo
  repeat' first
    | with_reducible assumption | intro _ | with_reducible apply State.barRelease_kept
    | with_reducible apply State.twinShotStart_kept | with_reducible apply State.twinShotEnd_kept
    | with_reducible apply Kept.ite | split | dsimp only
    | with_reducible refine Kept.put ?_ rfl rfl rfl rfl rfl rfl rfl rfl rfl rfl

theorem State.barrier_kept {s0 : State} (s : State) (q : Nat) (k : Nat) (e : Nat) (τ : Nat) (ready : Bool) (h : Kept s0 s) :
    KeptRes s0 (State.barrier s q k e τ ready) := by
  unfold State.barrier
  repeat' first
    | with_reducible assumption | intro _ | with_reducible apply State.setSq_kept
    | with_reducible apply State.arrive_kept | with_reducible apply State.goto_kept | with_reducible apply KeptRes.go
    | with_reducible apply KeptRes.bad | with_reducible apply KeptRes.held | with_reducible apply KeptRes.ite
    | with_reducible apply Kept.ite | split | dsimp only
    | with_reducible refine Kept.put ?_ rfl rfl rfl rfl rfl rfl rfl rfl rfl rfl

theorem State.joinWanted_kept {s0 : State} (s : State) (h : Kept s0 s) :
    Kept s0 (State.joinWanted s) := by
  unfold State.joinWanted
  repeat' first
    | with_reducible assumption | intro _ | with_reducible apply State.joinSend_kept | with_reducible apply Kept.ite
    | split | dsimp only | with_reducible refine Kept.put ?_ rfl rfl rfl rfl rfl rfl rfl rfl rfl rfl

theorem State.beat_kept {s0 : State} (s : State) (step : Bool) (h : Kept s0 s) :
    Kept s0 (State.beat s step) := by
  unfold State.beat
  repeat' first
    | with_reducible assumption | intro _ | with_reducible apply State.fresh_kept
    | with_reducible apply State.twinSet_kept | with_reducible apply State.p_kept
    | with_reducible apply State.joinWanted_kept | with_reducible apply State.twinReturn_kept
    | with_reducible apply Kept.ite | split | dsimp only
    | with_reducible refine Kept.put ?_ rfl rfl rfl rfl rfl rfl rfl rfl rfl rfl

theorem State.becomeReady_kept {s0 : State} (s : State) (q : Nat) (τ : Nat) (h : Kept s0 s) :
    Kept s0 (State.becomeReady s q τ) := by
  unfold State.becomeReady
  repeat' first
    | with_reducible assumption | intro _ | with_reducible apply State.onBar_kept | with_reducible apply Kept.ite
    | split | dsimp only | with_reducible refine Kept.put ?_ rfl rfl rfl rfl rfl rfl rfl rfl rfl rfl

theorem State.biasConnect_kept {s0 : State} (s : State) (b : Nat) (h : Kept s0 s) :
    Kept s0 (State.biasConnect s b) := by
  unfold State.biasConnect
  repeat' first
    | with_reducible assumption | intro _ | with_reducible apply State.setBias_kept | with_reducible apply Kept.ite
    | split | dsimp only | with_reducible refine Kept.put ?_ rfl rfl rfl rfl rfl rfl rfl rfl rfl rfl

theorem State.bumpAt_kept {s0 : State} (s : State) (a : Nat) (h : Kept s0 s) :
    Kept s0 (State.bumpAt s a) := by
  unfold State.bumpAt
  repeat' first
    | with_reducible assumption | intro _ | with_reducible apply State.setReg_kept | with_reducible apply Kept.ite
    | split | dsimp only | with_reducible refine Kept.put ?_ rfl rfl rfl rfl rfl rfl rfl rfl rfl rfl

theorem State.lockedWrite_kept {s0 : State} (s : State) (a : Nat) (h : Kept s0 s) :
    Kept s0 (State.lockedWrite s a) := by
  unfold State.lockedWrite
  repeat' first
    | with_reducible assumption | intro _ | with_reducible apply State.bumpAt_kept | with_reducible apply Kept.ite
    | split | dsimp only | with_reducible refine Kept.put ?_ rfl rfl rfl rfl rfl rfl rfl rfl rfl rfl

theorem State.biasSpan_kept {s0 : State} (s : State) (b : Nat) (span : Nat) (h : Kept s0 s) :
    Kept s0 (State.biasSpan s b span) := by
  unfold State.biasSpan
  repeat' first
    | with_reducible assumption | intro _ | with_reducible apply State.p_kept | with_reducible apply State.flag_kept
    | with_reducible apply State.biasFlush_kept | with_reducible apply State.biasClockStop_kept
    | with_reducible apply State.biasRamp_kept | with_reducible apply State.setBias_kept
    | with_reducible apply Kept.ite | split | dsimp only
    | with_reducible refine Kept.put ?_ rfl rfl rfl rfl rfl rfl rfl rfl rfl rfl

theorem State.biasSpanSet_kept {s0 : State} (s : State) (b : Nat) (v : Nat) (h : Kept s0 s) :
    Kept s0 (State.biasSpanSet s b v) := by
  unfold State.biasSpanSet
  repeat' first
    | with_reducible assumption | intro _ | with_reducible apply State.lockedWrite_kept
    | with_reducible apply State.biasSpan_kept | with_reducible apply Kept.ite | split | dsimp only
    | with_reducible refine Kept.put ?_ rfl rfl rfl rfl rfl rfl rfl rfl rfl rfl

theorem State.biasDisable_kept {s0 : State} (s : State) (b : Nat) (h : Kept s0 s) :
    Kept s0 (State.biasDisable s b) := by
  unfold State.biasDisable
  repeat' first
    | with_reducible assumption | intro _ | with_reducible apply State.unflag_kept
    | with_reducible apply State.biasRamp_kept | with_reducible apply Kept.ite | split | dsimp only
    | with_reducible refine Kept.put ?_ rfl rfl rfl rfl rfl rfl rfl rfl rfl rfl

theorem State.disableChan_kept {s0 : State} (s : State) (c : Nat) (h : Kept s0 s) :
    Kept s0 (State.disableChan s c) := by
  unfold State.disableChan
  repeat' first
    | with_reducible assumption | intro _ | with_reducible apply State.unflag_kept
    | with_reducible apply State.monStop_kept | with_reducible apply State.flxRamp_kept
    | with_reducible apply State.biasDisable_kept | with_reducible apply Kept.ite | split | dsimp only
    | with_reducible refine Kept.put ?_ rfl rfl rfl rfl rfl rfl rfl rfl rfl rfl

theorem State.biasEnable_kept {s0 : State} (s : State) (b : Nat) (h : Kept s0 s) :
    Kept s0 (State.biasEnable s b) := by
  unfold State.biasEnable
  repeat' first
    | with_reducible assumption | intro _ | with_reducible apply State.flag_kept
    | with_reducible apply State.biasConnect_kept | with_reducible apply State.unflag_kept
    | with_reducible apply State.biasRamp_kept | with_reducible apply Kept.ite | split | dsimp only
    | with_reducible refine Kept.put ?_ rfl rfl rfl rfl rfl rfl rfl rfl rfl rfl

theorem State.enableChan_kept {s0 : State} (s : State) (c : Nat) (h : Kept s0 s) :
    Kept s0 (State.enableChan s c) := by
  unfold State.enableChan
  repeat' first
    | with_reducible assumption | intro _ | with_reducible apply State.flag_kept
    | with_reducible apply State.flxRamp_kept | with_reducible apply State.biasEnable_kept
    | with_reducible apply Kept.ite | split | dsimp only
    | with_reducible refine Kept.put ?_ rfl rfl rfl rfl rfl rfl rfl rfl rfl rfl

theorem State.refuseEnable_kept {s0 : State} (s : State) (c : Nat) (h : Kept s0 s) :
    Kept s0 (State.refuseEnable s c) := by
  unfold State.refuseEnable
  repeat' first
    | with_reducible assumption | intro _ | with_reducible apply State.flag_kept
    | with_reducible apply State.bump_kept | with_reducible apply Kept.ite | split | dsimp only
    | with_reducible refine Kept.put ?_ rfl rfl rfl rfl rfl rfl rfl rfl rfl rfl

theorem State.writeEnable_kept {s0 : State} (s : State) (c : Nat) (v : Nat) (h : Kept s0 s) :
    Kept s0 (State.writeEnable s c v) := by
  unfold State.writeEnable
  repeat' first
    | with_reducible assumption | intro _ | with_reducible apply State.disableChan_kept
    | with_reducible apply State.enableChan_kept | with_reducible apply State.refuseEnable_kept
    | with_reducible apply Kept.ite | split | dsimp only
    | with_reducible refine Kept.put ?_ rfl rfl rfl rfl rfl rfl rfl rfl rfl rfl

theorem State.setEnable_kept {s0 : State} (s : State) (c : Nat) (v : Nat) (h : Kept s0 s) :
    Kept s0 (State.setEnable s c v) := by
  unfold State.setEnable
  repeat' first
    | with_reducible assumption | intro _ | with_reducible apply State.acqSweep_kept
    | with_reducible apply State.writeEnable_kept | with_reducible apply Kept.ite | split | dsimp only
    | with_reducible refine Kept.put ?_ rfl rfl rfl rfl rfl rfl rfl rfl rfl rfl

theorem State.biasCtrl_kept {s0 : State} (s : State) (b : Nat) (span : Nat) (en : Nat) (h : Kept s0 s) :
    Kept s0 (State.biasCtrl s b span en) := by
  unfold State.biasCtrl
  repeat' first
    | with_reducible assumption | intro _ | with_reducible apply State.biasSpanSet_kept
    | with_reducible apply State.setEnable_kept | with_reducible apply Kept.ite | split | dsimp only
    | with_reducible refine Kept.put ?_ rfl rfl rfl rfl rfl rfl rfl rfl rfl rfl

theorem State.biasEdge_kept {s0 : State} (s : State) (b : Nat) (h : Kept s0 s) :
    Kept s0 (State.biasEdge s b) := by
  unfold State.biasEdge
  repeat' first
    | with_reducible assumption | intro _ | with_reducible apply State.setBias_kept | with_reducible apply Kept.ite
    | split | dsimp only | with_reducible refine Kept.put ?_ rfl rfl rfl rfl rfl rfl rfl rfl rfl rfl

theorem State.biasMove_kept {s0 : State} (s : State) (b : Nat) (d : Int) (h : Kept s0 s) :
    Kept s0 (State.biasMove s b d) := by
  unfold State.biasMove
  repeat' first
    | with_reducible assumption | intro _ | with_reducible apply State.biasRamp_kept
    | with_reducible apply State.setBias_kept | with_reducible apply Kept.ite | split | dsimp only
    | with_reducible refine Kept.put ?_ rfl rfl rfl rfl rfl rfl rfl rfl rfl rfl

theorem State.finishDark_kept {s0 : State} (s : State) (p : Pkt) (dark : Bool) (h : Kept s0 s) :
    Kept s0 (State.finishDark s p dark) := by
  unfold State.finishDark
  repeat' first
    | with_reducible assumption | intro _ | with_reducible apply State.finish_kept | with_reducible apply Kept.ite
    | split | dsimp only | with_reducible refine Kept.put ?_ rfl rfl rfl rfl rfl rfl rfl rfl rfl rfl

theorem State.biasOwe_kept {s0 : State} (s : State) (p : Pkt) (b : Nat) (dark : Bool) (h : Kept s0 s) :
    Kept s0 (State.biasOwe s p b dark) := by
  unfold State.biasOwe
  repeat' first
    | with_reducible assumption | intro _ | with_reducible apply State.setBias_kept
    | with_reducible apply State.finishDark_kept | with_reducible apply Kept.ite | split | dsimp only
    | with_reducible refine Kept.put ?_ rfl rfl rfl rfl rfl rfl rfl rfl rfl rfl

theorem State.setBiasCode_kept {s0 : State} (s : State) (b : Nat) (c : Int) (h : Kept s0 s) :
    Kept s0 (State.setBiasCode s b c) := by
  unfold State.setBiasCode
  repeat' first
    | with_reducible assumption | intro _ | with_reducible apply State.p_kept | with_reducible apply Kept.ite | split
    | dsimp only | with_reducible refine Kept.put ?_ rfl rfl rfl rfl rfl rfl rfl rfl rfl rfl

theorem State.biasTarget_kept {s0 : State} (s : State) (b : Nat) (c : Int) (h : Kept s0 s) :
    Kept s0 (State.biasTarget s b c) := by
  unfold State.biasTarget
  repeat' first
    | with_reducible assumption | intro _ | with_reducible apply State.setBiasCode_kept
    | with_reducible apply State.biasRestore_kept | with_reducible apply State.biasMove_kept
    | with_reducible apply Kept.ite | split | dsimp only
    | with_reducible refine Kept.put ?_ rfl rfl rfl rfl rfl rfl rfl rfl rfl rfl

theorem State.biasPop_kept {s0 : State} (s : State) (b : Nat) (h : Kept s0 s) :
    Kept s0 (State.biasPop s b) := by
  unfold State.biasPop
  repeat' first
    | with_reducible assumption | intro _ | with_reducible apply State.biasTarget_kept
    | with_reducible apply State.setBias_kept | with_reducible apply Kept.ite | split | dsimp only
    | with_reducible refine Kept.put ?_ rfl rfl rfl rfl rfl rfl rfl rfl rfl rfl

theorem State.biasReslew_kept {s0 : State} (s : State) (b : Nat) (h : Kept s0 s) :
    Kept s0 (State.biasReslew s b) := by
  unfold State.biasReslew
  repeat' first
    | with_reducible assumption | intro _ | with_reducible apply State.setBias_kept | with_reducible apply Kept.ite
    | split | dsimp only | with_reducible refine Kept.put ?_ rfl rfl rfl rfl rfl rfl rfl rfl rfl rfl

theorem State.biasShed_kept {s0 : State} (s : State) (b : Nat) (h : Kept s0 s) :
    Kept s0 (State.biasShed s b) := by
  unfold State.biasShed
  repeat' first
    | with_reducible assumption | intro _ | with_reducible apply State.flag_kept
    | with_reducible apply State.biasRamp_kept | with_reducible apply Kept.ite | split | dsimp only
    | with_reducible refine Kept.put ?_ rfl rfl rfl rfl rfl rfl rfl rfl rfl rfl

theorem State.writeRs_kept {s0 : State} (s : State) (r : RegDesc) (ix : List Nat) (a : Nat) (m : Word) (w : Word) (h : Kept s0 s) :
    Kept s0 (State.writeRs s r ix a m w) := by
  unfold State.writeRs
  repeat' first
    | with_reducible assumption | intro _ | with_reducible apply State.setReg_kept | with_reducible apply Kept.ite
    | split | dsimp only | with_reducible refine Kept.put ?_ rfl rfl rfl rfl rfl rfl rfl rfl rfl rfl

theorem State.putBits_kept {s0 : State} (s : State) (a : Nat) (m : Word) (w : Word) (h : Kept s0 s) :
    Kept s0 (State.putBits s a m w) := by
  unfold State.putBits
  repeat' first
    | with_reducible assumption | intro _ | with_reducible apply State.setReg_kept
    | with_reducible apply State.writeRs_kept | with_reducible apply Kept.ite | split | dsimp only
    | with_reducible refine Kept.put ?_ rfl rfl rfl rfl rfl rfl rfl rfl rfl rfl

theorem State.putImg_kept {s0 : State} (s : State) (a : Nat) (w : Word) (h : Kept s0 s) :
    Kept s0 (State.putImg s a w) := by
  unfold State.putImg
  repeat' first
    | with_reducible assumption | intro _ | with_reducible apply State.putBits_kept | with_reducible apply Kept.ite
    | split | dsimp only | with_reducible refine Kept.put ?_ rfl rfl rfl rfl rfl rfl rfl rfl rfl rfl

theorem State.biasSlewSet_kept {s0 : State} (s : State) (b : Nat) (w : Word) (h : Kept s0 s) :
    Kept s0 (State.biasSlewSet s b w) := by
  unfold State.biasSlewSet
  repeat' first
    | with_reducible assumption | intro _ | with_reducible apply State.putImg_kept
    | with_reducible apply State.biasReslew_kept | with_reducible apply Kept.ite | split | dsimp only
    | with_reducible refine Kept.put ?_ rfl rfl rfl rfl rfl rfl rfl rfl rfl rfl

theorem State.biasUnshed_kept {s0 : State} (s : State) (b : Nat) (h : Kept s0 s) :
    Kept s0 (State.biasUnshed s b) := by
  unfold State.biasUnshed
  repeat' first
    | with_reducible assumption | intro _ | with_reducible apply State.unflag_kept
    | with_reducible apply State.flag_kept | with_reducible apply State.biasConnect_kept
    | with_reducible apply State.biasRestore_kept | with_reducible apply Kept.ite | split | dsimp only
    | with_reducible refine Kept.put ?_ rfl rfl rfl rfl rfl rfl rfl rfl rfl rfl

theorem State.biasWrite_kept {s0 : State} (s : State) (b : Nat) (c : Int) (h : Kept s0 s) :
    Kept s0 (State.biasWrite s b c) := by
  unfold State.biasWrite
  repeat' first
    | with_reducible assumption | intro _ | with_reducible apply State.flag_kept
    | with_reducible apply State.biasTarget_kept | with_reducible apply State.bump_kept
    | with_reducible apply State.setBias_kept | with_reducible apply Kept.ite | split | dsimp only
    | with_reducible refine Kept.put ?_ rfl rfl rfl rfl rfl rfl rfl rfl rfl rfl

theorem State.frameBad_kept {s0 : State} (s : State) (p : Nat) (h : Kept s0 s) :
    Kept s0 (State.frameBad s p) := by
  unfold State.frameBad
  repeat' first
    | with_reducible assumption | intro _ | with_reducible apply State.logIt_kept
    | with_reducible apply State.bump_kept | with_reducible apply State.setPort_kept | with_reducible apply Kept.ite
    | split | dsimp only | with_reducible refine Kept.put ?_ rfl rfl rfl rfl rfl rfl rfl rfl rfl rfl

theorem State.lackIn_kept {s0 : State} (s : State) (p : Nat) (k : Nat) (h : Kept s0 s) :
    Kept s0 (State.lackIn s p k) := by
  unfold State.lackIn
  repeat' first
    | with_reducible assumption | intro _ | with_reducible apply foldl_kept | with_reducible apply State.bump64_kept
    | with_reducible apply State.setPort_kept | with_reducible apply Kept.ite | split | dsimp only
    | with_reducible refine Kept.put ?_ rfl rfl rfl rfl rfl rfl rfl rfl rfl rfl

theorem State.resend_kept {s0 : State} (s : State) (p : Nat) (h : Kept s0 s) :
    Kept s0 (State.resend s p) := by
  unfold State.resend
  repeat' first
    | with_reducible assumption | intro _ | with_reducible apply State.bump_kept
    | with_reducible apply State.setPort_kept | with_reducible apply Kept.ite | split | dsimp only
    | with_reducible refine Kept.put ?_ rfl rfl rfl rfl rfl rfl rfl rfl rfl rfl

theorem State.wordIn_kept {s0 : State} (s : State) (p : Nat) (w : FWord) (h : Kept s0 s) :
    Kept s0 (State.wordIn s p w) := by
  unfold State.wordIn
  repeat' first
    | with_reducible assumption | intro _ | with_reducible apply State.fabRoute_kept | with_reducible apply Kept.ite
    | split | dsimp only | with_reducible refine Kept.put ?_ rfl rfl rfl rfl rfl rfl rfl rfl rfl rfl

theorem State.dataIn_kept {s0 : State} (s : State) (p : Nat) (f : FabFrame) (h : Kept s0 s) :
    Kept s0 (State.dataIn s p f) := by
  unfold State.dataIn
  repeat' first
    | with_reducible assumption | intro _ | with_reducible apply foldl_kept | with_reducible apply State.setPort_kept
    | with_reducible apply State.bump_kept | with_reducible apply State.bump64_kept
    | with_reducible apply State.wordIn_kept | with_reducible apply Kept.ite | split | dsimp only
    | with_reducible refine Kept.put ?_ rfl rfl rfl rfl rfl rfl rfl rfl rfl rfl

theorem State.frameIn_kept {s0 : State} (s : State) (p : Nat) (f : FabFrame) (h : Kept s0 s) :
    Kept s0 (State.frameIn s p f) := by
  unfold State.frameIn
  repeat' first
    | with_reducible assumption | intro _ | with_reducible apply State.frameBad_kept
    | with_reducible apply State.portWidths_kept | with_reducible apply State.setPort_kept
    | with_reducible apply State.lackIn_kept | with_reducible apply State.portGone_kept
    | with_reducible apply State.resend_kept | with_reducible apply State.dataIn_kept | with_reducible apply Kept.ite
    | split | dsimp only | with_reducible refine Kept.put ?_ rfl rfl rfl rfl rfl rfl rfl rfl rfl rfl

theorem State.blockIn_kept {s0 : State} (s : State) (p : Nat) (v : Nat) (h : Kept s0 s) :
    Kept s0 (State.blockIn s p v) := by
  unfold State.blockIn
  repeat' first
    | with_reducible assumption | intro _ | with_reducible apply State.frameBad_kept
    | with_reducible apply State.setPort_kept | with_reducible apply State.frameIn_kept
    | with_reducible apply Kept.ite | split | dsimp only
    | with_reducible refine Kept.put ?_ rfl rfl rfl rfl rfl rfl rfl rfl rfl rfl

theorem State.blockReset_kept {s0 : State} (s : State) (d : Nat) (h : Kept s0 s) :
    Kept s0 (State.blockReset s d) := by
  unfold State.blockReset
  repeat' first
    | with_reducible assumption | intro _ | with_reducible apply Kept.ite | split | dsimp only
    | with_reducible refine Kept.put ?_ rfl rfl rfl rfl rfl rfl rfl rfl rfl rfl

theorem State.blockSettle_kept {s0 : State} (s : State) (d : Nat) (h : Kept s0 s) :
    Kept s0 (State.blockSettle s d) := by
  unfold State.blockSettle
  repeat' first
    | with_reducible assumption | intro _ | with_reducible apply forEach_kept | with_reducible apply State.setSp_kept
    | with_reducible apply State.unflag_kept | with_reducible apply State.flag_kept | with_reducible apply Kept.ite
    | split | dsimp only | with_reducible refine Kept.put ?_ rfl rfl rfl rfl rfl rfl rfl rfl rfl rfl

theorem State.linkLost_kept {s0 : State} (s : State) (h : Kept s0 s) :
    Kept s0 (State.linkLost s) := by
  unfold State.linkLost
  repeat' first
    | with_reducible assumption | intro _ | with_reducible apply State.logIt_kept
    | with_reducible apply State.bump_kept | with_reducible apply Kept.ite | split | dsimp only
    | with_reducible refine Kept.put ?_ rfl rfl rfl rfl rfl rfl rfl rfl rfl rfl

theorem State.bmeClear_kept {s0 : State} (s : State) (h : Kept s0 s) :
    Kept s0 (State.bmeClear s) := by
  unfold State.bmeClear
  repeat' first
    | with_reducible assumption | intro _ | with_reducible apply State.linkLost_kept | with_reducible apply Kept.ite
    | split | dsimp only | with_reducible refine Kept.put ?_ rfl rfl rfl rfl rfl rfl rfl rfl rfl rfl

theorem State.body_kept {s0 : State} (s : State) (c : Cmd) (p : Pkt) (h : Kept s0 s) (hc : KeptCmd c) :
    Kept s0 (State.body s c p) := by
  unfold State.body
  split
  · exact hc.run _ _ _ (h.upd rfl rfl rfl rfl rfl rfl rfl rfl rfl rfl)
  · exact hc.run _ _ _ h

theorem State.burn_kept {s0 : State} (s : State) (f : Fuses → Fuses) (hf : ∀ g : Fuses, g.Le (f g)) (h : Kept s0 s) :
    Kept s0 (State.burn s f) := by
  refine h.change id id id (fun g b => ⟨b.1.trans (hf _), ?_⟩) id id rfl rfl (fun _ => rfl)
  have := b.2
  unfold State.burned at this ⊢
  unfold State.burn
  cases e : s.sec.pendFuses with
  | none => rw [e] at this; exact this.trans (hf _)
  | some x => rw [e] at this; exact this.trans (hf _)

theorem State.busyReject_kept {s0 : State} (s : State) (fn : Nat) (a : Nat) (h : Kept s0 s) :
    Kept s0 (State.busyReject s fn a) := by
  unfold State.busyReject
  repeat' first
    | with_reducible assumption | intro _ | with_reducible apply State.p_kept | with_reducible apply State.bumpAt_kept
    | with_reducible apply Kept.ite | split | dsimp only
    | with_reducible refine Kept.put ?_ rfl rfl rfl rfl rfl rfl rfl rfl rfl rfl

theorem State.calFactors_kept {s0 : State} (s : State) (m : Nat) (h : Kept s0 s) :
    Kept s0 (State.calFactors s m) := by
  unfold State.calFactors
  repeat' first
    | with_reducible assumption | intro _ | with_reducible apply State.fresh_kept | with_reducible apply State.p_kept
    | with_reducible apply Kept.ite | split | dsimp only
    | with_reducible refine Kept.put ?_ rfl rfl rfl rfl rfl rfl rfl rfl rfl rfl

theorem State.calResume_kept {s0 : State} (s : State) (m : Nat) (h : Kept s0 s) :
    Kept s0 (State.calResume s m) := by
  unfold State.calResume
  repeat' first
    | with_reducible assumption | intro _ | with_reducible apply State.setMon_kept | with_reducible apply Kept.ite
    | split | dsimp only | with_reducible refine Kept.put ?_ rfl rfl rfl rfl rfl rfl rfl rfl rfl rfl

theorem State.calSettle_kept {s0 : State} (s : State) (q : Nat) (h : Kept s0 s) :
    Kept s0 (State.calSettle s q) := by
  unfold State.calSettle
  repeat' first
    | with_reducible assumption | intro _ | with_reducible apply State.unflag_kept | with_reducible apply Kept.ite
    | split | dsimp only | with_reducible refine Kept.put ?_ rfl rfl rfl rfl rfl rfl rfl rfl rfl rfl

end Sys2Proof.Machine
end

