-- ==== Sys2Proof/Laws/KeptC.lean ====
section
/-!
SUPPORT. Laws/KeptC.lean: that the operations of the model keep what Laws/Kept.lean says, one lemma an operation, in the order in
which they build on one another.
-/

namespace Sys2Proof.Machine
open Sys2Proof

theorem State.calStart_kept {s0 : State} (s : State) (q : Nat) (h : Kept s0 s) :
    Kept s0 (State.calStart s q) := by
  unfold State.calStart
  repeat' first
    | with_reducible assumption | intro _ | with_reducible apply forEach_kept | with_reducible apply State.setMon_kept
    | with_reducible apply State.calSettle_kept | with_reducible apply State.flag_kept | with_reducible apply Kept.ite
    | split | dsimp only | with_reducible refine Kept.put ?_ rfl rfl rfl rfl rfl rfl rfl rfl rfl rfl

theorem State.capDone_kept {s0 : State} (s : State) (u : Nat) (h : Kept s0 s) :
    Kept s0 (State.capDone s u) := by
  unfold State.capDone
  repeat' first
    | with_reducible assumption | intro _ | with_reducible apply State.capStore_kept
    | with_reducible apply State.setCuState_kept | with_reducible apply State.flag_kept
    | with_reducible apply State.setCu_kept | with_reducible apply Kept.ite | split | dsimp only
    | with_reducible refine Kept.put ?_ rfl rfl rfl rfl rfl rfl rfl rfl rfl rfl

theorem State.cellFire_kept {s0 : State} (s : State) (c : Nat) (h : Kept s0 s) :
    Kept s0 (State.cellFire s c) := by
  unfold State.cellFire
  repeat' first
    | with_reducible assumption | intro _ | with_reducible apply State.publish_kept
    | with_reducible apply State.bump_kept | with_reducible apply Kept.ite | split | dsimp only
    | with_reducible refine Kept.put ?_ rfl rfl rfl rfl rfl rfl rfl rfl rfl rfl

theorem State.cellOut_kept {s0 : State} (s : State) (c : Nat) (v : Bool) (h : Kept s0 s) :
    Kept s0 (State.cellOut s c v) := by
  unfold State.cellOut
  repeat' first
    | with_reducible assumption | intro _ | with_reducible apply State.when_kept
    | with_reducible apply State.cellFire_kept | with_reducible apply Kept.ite | split | dsimp only
    | with_reducible refine Kept.put ?_ rfl rfl rfl rfl rfl rfl rfl rfl rfl rfl

theorem State.cellSettle_kept {s0 : State} (s : State) (c : Nat) (h : Kept s0 s) :
    Kept s0 (State.cellSettle s c) := by
  unfold State.cellSettle
  repeat' first
    | with_reducible assumption | intro _ | with_reducible apply State.when_kept
    | with_reducible apply State.cellFire_kept | with_reducible apply Kept.ite | split | dsimp only
    | with_reducible refine Kept.put ?_ rfl rfl rfl rfl rfl rfl rfl rfl rfl rfl

theorem State.cellsAoEdge_kept {s0 : State} (s : State) (h : Kept s0 s) :
    Kept s0 (State.cellsAoEdge s) := by
  unfold State.cellsAoEdge
  repeat' first
    | with_reducible assumption | intro _ | with_reducible apply forEach_kept | with_reducible apply foldl_kept
    | with_reducible apply State.p_kept | with_reducible apply Kept.ite | split | dsimp only
    | with_reducible refine Kept.put ?_ rfl rfl rfl rfl rfl rfl rfl rfl rfl rfl

theorem State.cellsInit_kept {s0 : State} (s : State) (h : Kept s0 s) :
    Kept s0 (State.cellsInit s) := by
  unfold State.cellsInit
  repeat' first
    | with_reducible assumption | intro _ | with_reducible apply forEach_kept | with_reducible apply State.flag_kept
    | with_reducible apply Kept.ite | split | dsimp only
    | with_reducible refine Kept.put ?_ rfl rfl rfl rfl rfl rfl rfl rfl rfl rfl

theorem State.combCells_kept {s0 : State} (s : State) (n : Nat) (l : List Nat) (h : Kept s0 s) :
    Kept s0 (State.combCells s n l) := by
  induction n generalizing s l with
  | zero => exact h
  | succ n ih =>
    unfold State.combCells
    split
    · exact h
    · exact ih _ _ (State.cellOut_kept _ _ _ h)

theorem State.cellsTickEnd_kept {s0 : State} (s : State) (h : Kept s0 s) :
    Kept s0 (State.cellsTickEnd s) := by
  unfold State.cellsTickEnd
  repeat' first
    | with_reducible assumption | intro _ | with_reducible apply foldl_kept
    | with_reducible apply State.combCells_kept | with_reducible apply State.p_kept | with_reducible apply Kept.ite
    | split | dsimp only | with_reducible refine Kept.put ?_ rfl rfl rfl rfl rfl rfl rfl rfl rfl rfl

theorem State.cellsTickStart_kept {s0 : State} (s : State) (h : Kept s0 s) :
    Kept s0 (State.cellsTickStart s) := by
  unfold State.cellsTickStart
  repeat' first
    | with_reducible assumption | intro _ | with_reducible apply forEach_kept
    | with_reducible apply State.cellOut_kept | with_reducible apply Kept.ite | split | dsimp only
    | with_reducible refine Kept.put ?_ rfl rfl rfl rfl rfl rfl rfl rfl rfl rfl

theorem State.chainAsk_kept {s0 : State} (s : State) (k : Nat) (p : Nat) (h : Kept s0 s) :
    Kept s0 (State.chainAsk s k p) := by
  unfold State.chainAsk
  repeat' first
    | with_reducible assumption | intro _ | with_reducible apply Kept.ite | split | dsimp only
    | with_reducible refine Kept.put ?_ rfl rfl rfl rfl rfl rfl rfl rfl rfl rfl

theorem State.moduleFault_kept {s0 : State} (s : State) (cause : Nat) (source : Nat) (detail : Nat) (h : Kept s0 s) :
    Kept s0 (State.moduleFault s cause source detail) := by
  unfold State.moduleFault
  repeat' first
    | with_reducible assumption | intro _ | with_reducible apply State.raiseSafe_kept
    | with_reducible apply State.retire_kept | with_reducible apply Kept.ite | split | dsimp only
    | with_reducible refine Kept.put ?_ rfl rfl rfl rfl rfl rfl rfl rfl rfl rfl

theorem State.chanFail_kept {s0 : State} (s : State) (c : Nat) (r : Nat) (n : Nat) (h : Kept s0 s) :
    Kept s0 (State.chanFail s c r n) := by
  unfold State.chanFail
  repeat' first
    | with_reducible assumption | intro _ | with_reducible apply State.moduleFault_kept
    | with_reducible apply State.flag_kept | with_reducible apply Kept.ite | split | dsimp only
    | with_reducible refine Kept.put ?_ rfl rfl rfl rfl rfl rfl rfl rfl rfl rfl

theorem State.darken_kept {s0 : State} (s : State) (c : Nat) (h : Kept s0 s) :
    Kept s0 (State.darken s c) := by
  unfold State.darken
  repeat' first
    | with_reducible assumption | intro _ | with_reducible apply State.acqSweep_kept
    | with_reducible apply State.flag_kept | with_reducible apply Kept.ite | split | dsimp only
    | with_reducible refine Kept.put ?_ rfl rfl rfl rfl rfl rfl rfl rfl rfl rfl

theorem State.stuckChan_kept {s0 : State} (s : State) (c : Nat) (h : Kept s0 s) :
    Kept s0 (State.stuckChan s c) := by
  unfold State.stuckChan
  repeat' first
    | with_reducible assumption | intro _ | with_reducible apply State.biasLost_kept
    | with_reducible apply State.flag_kept | with_reducible apply State.monStop_kept
    | with_reducible apply State.logIt_kept | with_reducible apply State.retire_kept
    | with_reducible apply State.darken_kept | with_reducible apply Kept.ite | split | dsimp only
    | with_reducible refine Kept.put ?_ rfl rfl rfl rfl rfl rfl rfl rfl rfl rfl

theorem State.checkJudge_kept {s0 : State} (s : State) (c : Nat) (fail : Bool) (h : Kept s0 s) :
    Kept s0 (State.checkJudge s c fail) := by
  unfold State.checkJudge
  repeat' first
    | with_reducible assumption | intro _ | with_reducible apply State.bump_kept
    | with_reducible apply State.stuckChan_kept | with_reducible apply State.flag_kept | with_reducible apply Kept.ite
    | split | dsimp only | with_reducible refine Kept.put ?_ rfl rfl rfl rfl rfl rfl rfl rfl rfl rfl

theorem State.reqFall_kept {s0 : State} (s : State) (t : Nat) (h : Kept s0 s) :
    Kept s0 (State.reqFall s t) := by
  unfold State.reqFall
  repeat' first
    | with_reducible assumption | intro _ | with_reducible apply Kept.ite | split | dsimp only
    | with_reducible refine Kept.put ?_ rfl rfl rfl rfl rfl rfl rfl rfl rfl rfl

theorem State.claim_kept {s0 : State} (s : State) (t : Nat) (h : Kept s0 s) :
    Kept s0 (State.claim s t).1 := by
  unfold State.claim
  repeat' first
    | with_reducible assumption | intro _ | with_reducible apply State.bump_kept
    | with_reducible apply State.reqFall_kept | with_reducible apply Kept.ite | split | dsimp only
    | with_reducible refine Kept.put ?_ rfl rfl rfl rfl rfl rfl rfl rfl rfl rfl

theorem State.claimRead_kept {s0 : State} (s : State) (t : Nat) (h : Kept s0 s) :
    Kept s0 (State.claimRead s t) := by
  unfold State.claimRead
  repeat' first
    | with_reducible assumption | intro _ | with_reducible apply State.claim_kept | with_reducible apply Kept.ite
    | split | dsimp only | with_reducible refine Kept.put ?_ rfl rfl rfl rfl rfl rfl rfl rfl rfl rfl

theorem State.watchRestore_kept {s0 : State} (s : State) (h : Kept s0 s) :
    Kept s0 (State.watchRestore s) := by
  unfold State.watchRestore
  repeat' first
    | with_reducible assumption | intro _ | with_reducible apply Kept.ite | split | dsimp only
    | with_reducible refine Kept.put ?_ rfl rfl rfl rfl rfl rfl rfl rfl rfl rfl

theorem State.govern_kept {s0 : State} (s : State) (h : Kept s0 s) :
    Kept s0 (State.govern s) := by
  unfold State.govern
  repeat' first
    | with_reducible assumption | intro _ | with_reducible apply State.p_kept
    | with_reducible apply State.watchRestore_kept | with_reducible apply Kept.ite | split | dsimp only
    | with_reducible refine Kept.put ?_ rfl rfl rfl rfl rfl rfl rfl rfl rfl rfl

theorem State.throttle_kept {s0 : State} (s : State) (h : Kept s0 s) :
    Kept s0 (State.throttle s) := by
  unfold State.throttle
  repeat' first
    | with_reducible assumption | intro _ | with_reducible apply State.govern_kept | with_reducible apply State.p_kept
    | with_reducible apply Kept.ite | split | dsimp only
    | with_reducible refine Kept.put ?_ rfl rfl rfl rfl rfl rfl rfl rfl rfl rfl

theorem State.convShut_kept {s0 : State} (s : State) (h : Kept s0 s) :
    Kept s0 (State.convShut s) := by
  unfold State.convShut
  repeat' first
    | with_reducible assumption | intro _ | with_reducible apply State.biasAllDown_kept
    | with_reducible apply Kept.ite | split | dsimp only
    | with_reducible refine Kept.put ?_ rfl rfl rfl rfl rfl rfl rfl rfl rfl rfl

theorem State.levelEnter_kept {s0 : State} (s : State) (cls : Nat) (l : Nat) (n : Nat) (h : Kept s0 s) :
    Kept s0 (State.levelEnter s cls l n) := by
  unfold State.levelEnter
  repeat' first
    | with_reducible assumption | intro _ | with_reducible apply State.logIt_kept
    | with_reducible apply State.flag_kept | with_reducible apply State.publishSrc_kept
    | with_reducible apply State.throttle_kept | with_reducible apply State.convShut_kept
    | with_reducible apply State.raiseSafe_kept | with_reducible apply State.bump_kept | with_reducible apply Kept.ite
    | split | dsimp only | with_reducible refine Kept.put ?_ rfl rfl rfl rfl rfl rfl rfl rfl rfl rfl

theorem State.levelEval_kept {s0 : State} (s : State) (cls : Nat) (l : Nat) (h : Kept s0 s) :
    Kept s0 (State.levelEval s cls l) := by
  unfold State.levelEval
  repeat' first
    | with_reducible assumption | intro _ | with_reducible apply State.levelEnter_kept | with_reducible apply Kept.ite
    | split | dsimp only | with_reducible refine Kept.put ?_ rfl rfl rfl rfl rfl rfl rfl rfl rfl rfl

theorem State.classEval_kept {s0 : State} (s : State) (cls : Nat) (h : Kept s0 s) :
    Kept s0 (State.classEval s cls) := by
  unfold State.classEval
  repeat' first
    | with_reducible assumption | intro _ | with_reducible apply forEach_kept
    | with_reducible apply State.levelEval_kept | with_reducible apply Kept.ite | split | dsimp only
    | with_reducible refine Kept.put ?_ rfl rfl rfl rfl rfl rfl rfl rfl rfl rfl

theorem State.clearSecrets_kept {s0 : State} (s : State) (h : Kept s0 s) :
    Kept s0 (State.clearSecrets s) := by
  unfold State.clearSecrets
  repeat' first
    | with_reducible assumption | intro _ | with_reducible apply Kept.ite | split | dsimp only
    | with_reducible refine Kept.put ?_ rfl rfl rfl rfl rfl rfl rfl rfl rfl rfl

theorem State.closeRegion_kept {s0 : State} (s : State) (q : Nat) (τ : Nat) (h : Kept s0 s) :
    Kept s0 (State.closeRegion s q τ) := by
  unfold State.closeRegion
  repeat' first
    | with_reducible assumption | intro _ | with_reducible apply State.flag_kept
    | with_reducible apply State.setSq_kept | with_reducible apply Kept.ite | split | dsimp only
    | with_reducible refine Kept.put ?_ rfl rfl rfl rfl rfl rfl rfl rfl rfl rfl

theorem State.warmReset_kept {s0 : State} (s : State) (h : Kept s0 s) : Kept s0 (State.warmReset s) := by
  unfold State.warmReset
  refine h.change (fun _ => rfl) (fun _ => rfl) id (fun _ => id) id (fun _ => Nat.two_pow_pos 44) rfl rfl ?_
  intro d
  have e := domCounts_off s.tim.doms d
  generalize domCounts s.tim.doms = t at e ⊢
  exact e

/-- A loss of input power keeps what Safety says and the queue; its count starts again at 0 (R47). -/

theorem State.coldReset_keeps (s : State) : (s.Canonical → s.coldReset.Canonical)
    ∧ (∀ f, State.Blown f s → State.Blown f s.coldReset) ∧ (s.Bounded → s.coldReset.Bounded)
    ∧ s.coldReset.pending = s.pending :=
  have h := State.warmReset_kept s (Kept.refl s)
  ⟨h.canon, h.blown, fun _ => ⟨Nat.zero_le _, Nat.two_pow_pos 44⟩, h.queue⟩

theorem State.cometAct_kept {s0 : State} (s : State) (w : W64) (h : Kept s0 s) :
    Kept s0 (State.cometAct s w) := by
  unfold State.cometAct
  repeat' first
    | with_reducible assumption | intro _ | with_reducible apply State.actFlag_kept
    | with_reducible apply State.actPauli_kept | with_reducible apply State.badAction_kept
    | with_reducible apply Kept.ite | split | dsimp only
    | with_reducible refine Kept.put ?_ rfl rfl rfl rfl rfl rfl rfl rfl rfl rfl

theorem State.cometEmit_kept {s0 : State} (s : State) (p : Nat) (node : Nat) (kind : Nat) (arg : Nat) (h : Kept s0 s) :
    Kept s0 (State.cometEmit s p node kind arg) := by
  unfold State.cometEmit
  repeat' first
    | with_reducible assumption | intro _ | with_reducible apply State.setPair_kept
    | with_reducible apply State.bump64_kept | with_reducible apply State.fabSend_kept | with_reducible apply Kept.ite
    | split | dsimp only | with_reducible refine Kept.put ?_ rfl rfl rfl rfl rfl rfl rfl rfl rfl rfl

theorem State.cometDrain_kept {s0 : State} (s : State) (p node n : Nat) (h : Kept s0 s) :
    Kept s0 (State.cometDrain s p node n) := by
  induction n generalizing s with
  | zero => exact h
  | succ n ih =>
    unfold State.cometDrain
    dsimp only
    split
    · exact h
    · exact Kept.ite h (ih _ (State.cometEmit_kept _ _ _ _ _ (State.setPair_kept _ _ _ h)))

theorem State.cometLoss_kept {s0 : State} (s : State) (p : Nat) (node : Nat) (twin : Nat) (first : Nat) (d : Nat) (h : Kept s0 s) :
    Kept s0 (State.cometLoss s p node twin first d) := by
  unfold State.cometLoss
  repeat' first
    | with_reducible assumption | intro _ | with_reducible apply State.bump_kept
    | with_reducible apply State.logIt_kept | with_reducible apply State.mark_kept | with_reducible apply Kept.ite
    | split | dsimp only | with_reducible refine Kept.put ?_ rfl rfl rfl rfl rfl rfl rfl rfl rfl rfl

theorem State.cometTake_kept {s0 : State} (s : State) (w : W64) (h : Kept s0 s) :
    Kept s0 (State.cometTake s w) := by
  unfold State.cometTake
  repeat' first
    | with_reducible assumption | intro _ | with_reducible apply State.when_kept
    | with_reducible apply State.setPair_kept | with_reducible apply State.bump64_kept
    | with_reducible apply State.p_kept | with_reducible apply State.mirror_kept
    | with_reducible apply State.cometAct_kept | with_reducible apply Kept.ite | split | dsimp only
    | with_reducible refine Kept.put ?_ rfl rfl rfl rfl rfl rfl rfl rfl rfl rfl

theorem State.cometIn_kept {s0 : State} (s : State) (w : W64) (h : Kept s0 s) :
    Kept s0 (State.cometIn s w) := by
  unfold State.cometIn
  repeat' first
    | with_reducible assumption | intro _ | with_reducible apply State.when_kept
    | with_reducible apply State.bump_kept | with_reducible apply State.cometLoss_kept
    | with_reducible apply State.cometTake_kept | with_reducible apply Kept.ite | split | dsimp only
    | with_reducible refine Kept.put ?_ rfl rfl rfl rfl rfl rfl rfl rfl rfl rfl

theorem State.cometNamed_kept {s0 : State} (s : State) (w : W64) (h : Kept s0 s) :
    Kept s0 (State.cometNamed s w) := by
  unfold State.cometNamed
  repeat' first
    | with_reducible assumption | intro _ | with_reducible apply State.cometIn_kept
    | with_reducible apply State.bump_kept | with_reducible apply Kept.ite | split | dsimp only
    | with_reducible refine Kept.put ?_ rfl rfl rfl rfl rfl rfl rfl rfl rfl rfl

theorem State.cometSend_kept {s0 : State} (s : State) (p : Nat) (node : Nat) (kind : Nat) (arg : Nat) (h : Kept s0 s) :
    Kept s0 (State.cometSend s p node kind arg) := by
  unfold State.cometSend
  repeat' first
    | with_reducible assumption | intro _ | with_reducible apply State.bump_kept
    | with_reducible apply State.setPair_kept | with_reducible apply State.cometEmit_kept
    | with_reducible apply Kept.ite | split | dsimp only
    | with_reducible refine Kept.put ?_ rfl rfl rfl rfl rfl rfl rfl rfl rfl rfl

theorem State.deny_kept {s0 : State} (s : State) (fn : Nat) (h : Kept s0 s) :
    Kept s0 (State.deny s fn) := by
  unfold State.deny
  repeat' first
    | with_reducible assumption | intro _ | with_reducible apply State.when_kept
    | with_reducible apply State.bump_kept | with_reducible apply Kept.ite | split | dsimp only
    | with_reducible refine Kept.put ?_ rfl rfl rfl rfl rfl rfl rfl rfl rfl rfl

theorem State.refuse_kept {s0 : State} (s : State) (p : Pkt) (f : Fail) (denied : Bool) (h : Kept s0 s) :
    Kept s0 (State.refuse s p f denied) := by
  unfold State.refuse
  repeat' first
    | with_reducible assumption | intro _ | with_reducible apply State.when_kept
    | with_reducible apply State.deny_kept | with_reducible apply State.bump_kept | with_reducible apply Kept.ite
    | split | dsimp only | with_reducible refine Kept.put ?_ rfl rfl rfl rfl rfl rfl rfl rfl rfl rfl

theorem State.command_kept {s0 : State} (s : State) (c : Cmd) (p : Pkt) (h : Kept s0 s) (hc : KeptCmd c) :
    Kept s0 (State.command s c p) := by
  unfold State.command
  generalize { p with op := c.op } = q
  dsimp only
  refine Kept.ite h ?_
  split
  · exact State.body_kept s c _ h hc
  · split
    · exact hc.rej _ _ _ _ (State.refuse_kept _ _ _ _ h)
    · have ha := State.accept_kept s c q h
      exact Kept.ite (State.body_kept _ c q (State.begin_kept _ c q ha) hc) ha

theorem State.monStart_kept {s0 : State} (s : State) (m : Nat) (h : Kept s0 s) :
    Kept s0 (State.monStart s m) := by
  unfold State.monStart
  repeat' first
    | with_reducible assumption | intro _ | with_reducible apply State.bump_kept
    | with_reducible apply State.flag_kept | with_reducible apply State.setMon_kept | with_reducible apply Kept.ite
    | split | dsimp only | with_reducible refine Kept.put ?_ rfl rfl rfl rfl rfl rfl rfl rfl rfl rfl

theorem State.monCommon_kept {s0 : State} (s : State) (h : Kept s0 s) :
    Kept s0 (State.monCommon s) := by
  unfold State.monCommon
  repeat' first
    | with_reducible assumption | intro _ | with_reducible apply forEach_kept
    | with_reducible apply State.monStart_kept | with_reducible apply Kept.ite | split | dsimp only
    | with_reducible refine Kept.put ?_ rfl rfl rfl rfl rfl rfl rfl rfl rfl rfl

theorem State.commonFire_kept {s0 : State} (s : State) (h : Kept s0 s) :
    Kept s0 (State.commonFire s) := by
  unfold State.commonFire
  repeat' first
    | with_reducible assumption | intro _ | with_reducible apply State.when_kept
    | with_reducible apply State.monCommon_kept | with_reducible apply Kept.ite | split | dsimp only
    | with_reducible refine Kept.put ?_ rfl rfl rfl rfl rfl rfl rfl rfl rfl rfl

theorem State.compareOwn_kept {s0 : State} (s : State) (p : Nat) (h : Kept s0 s) :
    Kept s0 (State.compareOwn s p) := by
  unfold State.compareOwn
  repeat' first
    | with_reducible assumption | intro _ | with_reducible apply State.bump_kept | with_reducible apply Kept.ite
    | split | dsimp only | with_reducible refine Kept.put ?_ rfl rfl rfl rfl rfl rfl rfl rfl rfl rfl

theorem State.complete_kept {s0 : State} (s : State) (t : Nat) (n : Nat) (h : Kept s0 s) :
    Kept s0 (State.complete s t n) := by
  unfold State.complete
  repeat' first
    | with_reducible assumption | intro _ | with_reducible apply State.reqFall_kept
    | with_reducible apply State.bump_kept | with_reducible apply Kept.ite | split | dsimp only
    | with_reducible refine Kept.put ?_ rfl rfl rfl rfl rfl rfl rfl rfl rfl rfl

theorem State.condSet_kept {s0 : State} (s : State) (b : Nat) (cause : Nat) (live : Fld) (seen : Fld) (h : Kept s0 s) :
    Kept s0 (State.condSet s b cause live seen) := by
  unfold State.condSet
  repeat' first
    | with_reducible assumption | intro _ | with_reducible apply State.logIt_kept
    | with_reducible apply State.flag_kept | with_reducible apply Kept.ite | split | dsimp only
    | with_reducible refine Kept.put ?_ rfl rfl rfl rfl rfl rfl rfl rfl rfl rfl

theorem State.condIs_kept {s0 : State} (s : State) (b : Nat) (cause : Nat) (live : Fld) (seen : Fld) (v : Bool) (h : Kept s0 s) :
    Kept s0 (State.condIs s b cause live seen v) := by
  unfold State.condIs
  repeat' first
    | with_reducible assumption | intro _ | with_reducible apply State.condSet_kept
    | with_reducible apply State.unflag_kept | with_reducible apply Kept.ite | split | dsimp only
    | with_reducible refine Kept.put ?_ rfl rfl rfl rfl rfl rfl rfl rfl rfl rfl

theorem State.condResolve_kept {s0 : State} (s : State) (q : Nat) (c : Wc) (t : Nat) (r : Nat) (h : Kept s0 s) :
    Kept s0 (State.condResolve s q c t r) := by
  unfold State.condResolve
  repeat' first
    | with_reducible assumption | intro _ | with_reducible apply State.setSq_kept
    | with_reducible apply State.seqError_kept | with_reducible apply State.goto_kept | with_reducible apply Kept.ite
    | split | dsimp only | with_reducible refine Kept.put ?_ rfl rfl rfl rfl rfl rfl rfl rfl rfl rfl

theorem State.convLater_kept {s0 : State} (s : State) (h : Kept s0 s) :
    Kept s0 (State.convLater s) := by
  unfold State.convLater
  repeat' first
    | with_reducible assumption | intro _ | with_reducible apply State.convDown_kept | with_reducible apply Kept.ite
    | split | dsimp only | with_reducible refine Kept.put ?_ rfl rfl rfl rfl rfl rfl rfl rfl rfl rfl

theorem State.muteStep_kept {s0 : State} (s : State) (n : Nat) (h : Kept s0 s) :
    Kept s0 (State.muteStep s n) := by
  unfold State.muteStep
  repeat' first
    | with_reducible assumption | intro _ | with_reducible apply State.setOutp_kept
    | with_reducible apply State.fresh_kept | with_reducible apply Kept.ite | split | dsimp only
    | with_reducible refine Kept.put ?_ rfl rfl rfl rfl rfl rfl rfl rfl rfl rfl

theorem State.oscTrim_kept {s0 : State} (s : State) (k : Nat) (t : Nat) (h : Kept s0 s) :
    Kept s0 (State.oscTrim s k t) := by
  unfold State.oscTrim
  repeat' first
    | with_reducible assumption | intro _ | with_reducible apply State.setOsc_kept | with_reducible apply Kept.ite
    | split | dsimp only | with_reducible refine Kept.put ?_ rfl rfl rfl rfl rfl rfl rfl rfl rfl rfl

theorem State.convNext_kept {s0 : State} (s : State) (h : Kept s0 s) :
    Kept s0 (State.convNext s) := by
  unfold State.convNext
  repeat' first
    | with_reducible assumption | intro _ | with_reducible apply forEach_kept
    | with_reducible apply State.biasEdge_kept | with_reducible apply State.muteStep_kept
    | with_reducible apply State.oscTrim_kept | with_reducible apply Kept.ite | split | dsimp only
    | with_reducible refine Kept.put ?_ rfl rfl rfl rfl rfl rfl rfl rfl rfl rfl

theorem State.convStart_kept {s0 : State} (s : State) (h : Kept s0 s) :
    Kept s0 (State.convStart s) := by
  unfold State.convStart
  repeat' first
    | with_reducible assumption | intro _ | with_reducible apply State.raiseSafe_kept | with_reducible apply Kept.ite
    | split | dsimp only | with_reducible refine Kept.put ?_ rfl rfl rfl rfl rfl rfl rfl rfl rfl rfl

theorem State.countMuted_kept {s0 : State} (s : State) (n : Nat) (t : Nat) (h : Kept s0 s) :
    Kept s0 (State.countMuted s n t) := by
  unfold State.countMuted
  repeat' first
    | with_reducible assumption | intro _ | with_reducible apply forEach_kept
    | with_reducible apply State.setPlays_kept | with_reducible apply State.flag_kept
    | with_reducible apply State.bump_kept | with_reducible apply Kept.ite | split | dsimp only
    | with_reducible refine Kept.put ?_ rfl rfl rfl rfl rfl rfl rfl rfl rfl rfl

theorem State.outTick_kept {s0 : State} (s : State) (n : Nat) (h : Kept s0 s) :
    Kept s0 (State.outTick s n) := by
  unfold State.outTick
  repeat' first
    | with_reducible assumption | intro _ | with_reducible apply State.when_kept | with_reducible apply foldl_kept
    | with_reducible apply State.flag_kept | with_reducible apply State.bump_kept
    | with_reducible apply State.setOutp_kept | with_reducible apply State.countMuted_kept
    | with_reducible apply Kept.ite | split | dsimp only
    | with_reducible refine Kept.put ?_ rfl rfl rfl rfl rfl rfl rfl rfl rfl rfl

theorem State.flxChain_kept {s0 : State} (s : State) (n : Nat) (x : Int × Bool) (h : Kept s0 s) :
    Kept s0 (State.flxChain s n x) := by
  unfold State.flxChain
  repeat' first
    | with_reducible assumption | intro _ | with_reducible apply State.setFlx_kept
    | with_reducible apply State.flag_kept | with_reducible apply State.bump_kept | with_reducible apply Kept.ite
    | split | dsimp only | with_reducible refine Kept.put ?_ rfl rfl rfl rfl rfl rfl rfl rfl rfl rfl

theorem State.flxSample_kept {s0 : State} (s : State) (n : Nat) (t : Nat) (h : Kept s0 s) :
    Kept s0 (State.flxSample s n t) := by
  unfold State.flxSample
  repeat' first
    | with_reducible assumption | intro _ | with_reducible apply State.setFlx_kept
    | with_reducible apply State.flxChain_kept | with_reducible apply Kept.ite | split | dsimp only
    | with_reducible refine Kept.put ?_ rfl rfl rfl rfl rfl rfl rfl rfl rfl rfl

theorem State.flxCut_kept {s0 : State} (s : State) (n : Nat) (t : Nat) (h : Kept s0 s) :
    Kept s0 (State.flxCut s n t) := by
  unfold State.flxCut
  repeat' first
    | with_reducible assumption | intro _ | with_reducible apply forEach_kept
    | with_reducible apply State.setPlays_kept | with_reducible apply Kept.ite | split | dsimp only
    | with_reducible refine Kept.put ?_ rfl rfl rfl rfl rfl rfl rfl rfl rfl rfl

theorem State.flxFirst_kept {s0 : State} (s : State) (n : Nat) (h : Kept s0 s) :
    Kept s0 (State.flxFirst s n) := by
  unfold State.flxFirst
  repeat' first
    | with_reducible assumption | intro _ | with_reducible apply State.flxSample_kept
    | with_reducible apply State.flxCut_kept | with_reducible apply Kept.ite | split | dsimp only
    | with_reducible refine Kept.put ?_ rfl rfl rfl rfl rfl rfl rfl rfl rfl rfl

theorem State.flxTick_kept {s0 : State} (s : State) (n : Nat) (h : Kept s0 s) :
    Kept s0 (State.flxTick s n) := by
  unfold State.flxTick
  repeat' first
    | with_reducible assumption | intro _ | with_reducible apply State.flxFirst_kept
    | with_reducible apply State.setFlx_kept | with_reducible apply State.flxSample_kept
    | with_reducible apply Kept.ite | split | dsimp only
    | with_reducible refine Kept.put ?_ rfl rfl rfl rfl rfl rfl rfl rfl rfl rfl

theorem State.monSampling_kept {s0 : State} (s : State) (m : Nat) (h : Kept s0 s) :
    Kept s0 (State.monSampling s m) := by
  unfold State.monSampling
  repeat' first
    | with_reducible assumption | intro _ | with_reducible apply State.setMon_kept | with_reducible apply Kept.ite
    | split | dsimp only | with_reducible refine Kept.put ?_ rfl rfl rfl rfl rfl rfl rfl rfl rfl rfl

theorem State.convTick_kept {s0 : State} (s : State) (h : Kept s0 s) :
    Kept s0 (State.convTick s) := by
  unfold State.convTick
  repeat' first
    | with_reducible assumption | intro _ | with_reducible apply forEach_kept
    | with_reducible apply State.acqTick_kept | with_reducible apply State.outTick_kept
    | with_reducible apply State.flxTick_kept | with_reducible apply State.monSampling_kept
    | with_reducible apply Kept.ite | split | dsimp only
    | with_reducible refine Kept.put ?_ rfl rfl rfl rfl rfl rfl rfl rfl rfl rfl

theorem State.countStall_kept {s0 : State} (s : State) (p : Nat) (b : Bar) (n : Nat) (h : Kept s0 s) :
    Kept s0 (State.countStall s p b n) := by
  unfold State.countStall
  repeat' first
    | with_reducible assumption | intro _ | with_reducible apply forEach_kept | with_reducible apply State.bump64_kept
    | with_reducible apply State.markAdd_kept | with_reducible apply Kept.ite | split | dsimp only
    | with_reducible refine Kept.put ?_ rfl rfl rfl rfl rfl rfl rfl rfl rfl rfl

theorem State.cqEnable_kept {s0 : State} (s : State) (n : Nat) (v : Nat) (h : Kept s0 s) :
    Kept s0 (State.cqEnable s n v) := by
  unfold State.cqEnable
  repeat' first
    | with_reducible assumption | intro _ | with_reducible apply State.unflag_kept | with_reducible apply State.p_kept
    | with_reducible apply State.flag_kept | with_reducible apply Kept.ite | split | dsimp only
    | with_reducible refine Kept.put ?_ rfl rfl rfl rfl rfl rfl rfl rfl rfl rfl

theorem State.cqStall_kept {s0 : State} (s : State) (n : Nat) (h : Kept s0 s) :
    Kept s0 (State.cqStall s n) := by
  unfold State.cqStall
  repeat' first
    | with_reducible assumption | intro _ | with_reducible apply State.bump_kept | with_reducible apply Kept.ite
    | split | dsimp only | with_reducible refine Kept.put ?_ rfl rfl rfl rfl rfl rfl rfl rfl rfl rfl

theorem State.proofUse_kept {s0 : State} (s : State) (h : Kept s0 s) :
    Kept s0 (State.proofUse s) := by
  unfold State.proofUse
  repeat' first
    | with_reducible assumption | intro _ | with_reducible apply State.fresh_kept | with_reducible apply Kept.ite
    | split | dsimp only | with_reducible refine Kept.put ?_ rfl rfl rfl rfl rfl rfl rfl rfl rfl rfl

theorem State.credit_kept {s0 : State} (s : State) (ok : Bool) (h : Kept s0 s) :
    Kept s0 (State.credit s ok) := by
  unfold State.credit
  repeat' first
    | with_reducible assumption | intro _ | with_reducible apply State.setReg_kept | with_reducible apply State.p_kept
    | with_reducible apply State.proofUse_kept | with_reducible apply Kept.ite | split | dsimp only
    | with_reducible refine Kept.put ?_ rfl rfl rfl rfl rfl rfl rfl rfl rfl rfl

theorem State.ctrlRefused_kept {s0 : State} (s : State) (h : Kept s0 s) :
    Kept s0 (State.ctrlRefused s) := by
  unfold State.ctrlRefused
  repeat' first
    | with_reducible assumption | intro _ | with_reducible apply State.flag_kept | with_reducible apply Kept.ite
    | split | dsimp only | with_reducible refine Kept.put ?_ rfl rfl rfl rfl rfl rfl rfl rfl rfl rfl

theorem State.writeFields_kept {s0 : State} (s : State) (fn : Nat) (a : Nat) (r : RegDesc) (ix : List Nat) (w : Word) (low : Option Word) (h : Kept s0 s) :
    Kept s0 (State.writeFields s fn a r ix w low) := by
  unfold State.writeFields
  repeat' first
    | with_reducible assumption | intro _ | with_reducible apply State.when_kept
    | with_reducible apply State.deny_kept | with_reducible apply State.lockedWrite_kept
    | with_reducible apply State.setReg_kept | with_reducible apply State.writeRs_kept | with_reducible apply Kept.ite
    | split | dsimp only | with_reducible refine Kept.put ?_ rfl rfl rfl rfl rfl rfl rfl rfl rfl rfl

theorem State.plainWrite_kept {s0 : State} (s : State) (fn : Nat) (a : Nat) (w : Word) (h : Kept s0 s) :
    Kept s0 (State.plainWrite s fn a w) := by
  unfold State.plainWrite
  repeat' first
    | with_reducible assumption | intro _ | with_reducible apply State.writeFields_kept
    | with_reducible apply Kept.ite | split | dsimp only
    | with_reducible refine Kept.put ?_ rfl rfl rfl rfl rfl rfl rfl rfl rfl rfl

theorem State.ctrlWrite_kept {s0 : State} (s : State) (fn : Nat) (a : Nat) (r : RegDesc) (ix : List Nat) (m : Word) (w : Word) (f : State → State) (h : Kept s0 s) (hf : ∀ s, Kept s0 s → Kept s0 (f s)) :
    Kept s0 (State.ctrlWrite s fn a r ix m w f) := by
  unfold State.ctrlWrite
  repeat' first
    | with_reducible assumption | intro _ | with_reducible apply hf | with_reducible apply State.plainWrite_kept
    | with_reducible apply Kept.ite | split | dsimp only
    | with_reducible refine Kept.put ?_ rfl rfl rfl rfl rfl rfl rfl rfl rfl rfl

theorem State.cuStart_kept {s0 : State} (s : State) (u : Nat) (h : Kept s0 s) : Kept s0 (State.cuStart s u) := by
  unfold State.cuStart
  refine Kept.ite (State.cuMark_kept _ _ _ _ _ _ _ _ _ (State.setCuState_kept _ _ _ ?_)) (State.setCuState_kept _ _ _ ?_) <;>
    exact State.unflag_kept _ _ _ (State.p_kept _ _ _ _ (State.setReg_kept _ _ _
      ((State.setCu_kept _ _ _ h).change id (fun c => Tab.wf_filter c _) id (fun _ => id) id id rfl rfl (fun _ => rfl))))

theorem State.grpClear_kept {s0 : State} (s : State) (g : Nat) (h : Kept s0 s) :
    Kept s0 (State.grpClear s g) := by
  unfold State.grpClear
  repeat' first
    | with_reducible assumption | intro _ | with_reducible apply Kept.ite | split | dsimp only
    | with_reducible refine Kept.put ?_ rfl rfl rfl rfl rfl rfl rfl rfl rfl rfl

theorem State.grpArm_kept {s0 : State} (s : State) (g : Nat) (h : Kept s0 s) :
    Kept s0 (State.grpArm s g) := by
  unfold State.grpArm
  repeat' first
    | with_reducible assumption | intro _ | with_reducible apply forEach_kept
    | with_reducible apply State.cuStart_kept | with_reducible apply Kept.ite | split | dsimp only
    | with_reducible refine Kept.put ?_ rfl rfl rfl rfl rfl rfl rfl rfl rfl rfl

theorem State.cuArm_kept {s0 : State} (s : State) (u : Nat) (owed : Option (Nat × Nat)) (h : Kept s0 s) :
    Kept s0 (State.cuArm s u owed) := by
  unfold State.cuArm
  have hk := State.cuStart_kept s u h
  generalize s.cuStart u = x at hk ⊢
  dsimp only
  exact Kept.ite (State.settle_kept _ _ _ _ hk) (State.grpSettle_kept _ _ (State.grpSend_kept _ _ _ _ _ _
    (State.grpArm_kept _ _ (State.grpClear_kept _ _ (State.setCu_kept _ _ _ hk)))))

theorem State.cuAsk_kept {s0 : State} (s : State) (u : Nat) (t : Nat) (frac : Nat) (fv : Bool) (h : Kept s0 s) :
    Kept s0 (State.cuAsk s u t frac fv) := by
  unfold State.cuAsk
  repeat' first
    | with_reducible assumption | intro _ | with_reducible apply State.setCu_kept
    | with_reducible apply State.bump_kept | with_reducible apply Kept.ite | split | dsimp only
    | with_reducible refine Kept.put ?_ rfl rfl rfl rfl rfl rfl rfl rfl rfl rfl

theorem State.cuRetime_kept {s0 : State} (s : State) (u : Nat) (t : Nat) (frac : Nat) (fv : Bool) (hv : Shoot) (h : Kept s0 s) :
    Kept s0 (State.cuRetime s u t frac fv hv) := by
  unfold State.cuRetime
  repeat' first
    | with_reducible assumption | intro _ | with_reducible apply State.maskRestart_kept
    | with_reducible apply State.lastTrig_kept | with_reducible apply State.setCu_kept | with_reducible apply Kept.ite
    | split | dsimp only | with_reducible refine Kept.put ?_ rfl rfl rfl rfl rfl rfl rfl rfl rfl rfl

theorem State.grpStop_kept {s0 : State} (s : State) (g : Nat) (h : Kept s0 s) :
    Kept s0 (State.grpStop s g) := by
  unfold State.grpStop
  repeat' first
    | with_reducible assumption | intro _ | with_reducible apply forEach_kept | with_reducible apply State.cuEnd_kept
    | with_reducible apply State.grpShow_kept | with_reducible apply Kept.ite | split | dsimp only
    | with_reducible refine Kept.put ?_ rfl rfl rfl rfl rfl rfl rfl rfl rfl rfl

theorem State.cuStop_kept {s0 : State} (s : State) (u : Nat) (h : Kept s0 s) :
    Kept s0 (State.cuStop s u) := by
  unfold State.cuStop
  repeat' first
    | with_reducible assumption | intro _ | with_reducible apply State.grpStop_kept
    | with_reducible apply State.grpSend_kept | with_reducible apply State.cuEnd_kept | with_reducible apply Kept.ite
    | split | dsimp only | with_reducible refine Kept.put ?_ rfl rfl rfl rfl rfl rfl rfl rfl rfl rfl

theorem State.cuStopCheck_kept {s0 : State} (s : State) (u : Nat) (h : Kept s0 s) :
    Kept s0 (State.cuStopCheck s u) := by
  unfold State.cuStopCheck
  repeat' first
    | with_reducible assumption | intro _ | with_reducible apply State.cuEnd_kept
    | with_reducible apply State.capStore_kept | with_reducible apply Kept.ite | split | dsimp only
    | with_reducible refine Kept.put ?_ rfl rfl rfl rfl rfl rfl rfl rfl rfl rfl

theorem State.grpAsk_kept {s0 : State} (s : State) (g : Nat) (m : Nat) (t : Nat) (frac : Nat) (fv : Bool) (own : Option Nat) (h : Kept s0 s) :
    Kept s0 (State.grpAsk s g m t frac fv own) := by
  unfold State.grpAsk
  repeat' first
    | with_reducible assumption | intro _ | with_reducible apply State.bump_kept | with_reducible apply Kept.ite
    | split | dsimp only | with_reducible refine Kept.put ?_ rfl rfl rfl rfl rfl rfl rfl rfl rfl rfl

theorem State.cuTrigger_kept {s0 : State} (s : State) (u : Nat) (t : Nat) (frac : Nat) (fv : Bool) (h : Kept s0 s) :
    Kept s0 (State.cuTrigger s u t frac fv) := by
  unfold State.cuTrigger
  repeat' first
    | with_reducible assumption | intro _ | with_reducible apply State.bump_kept
    | with_reducible apply State.cuRetime_kept | with_reducible apply State.cuMiss_kept
    | with_reducible apply State.cuTake_kept | with_reducible apply State.grpAsk_kept
    | with_reducible apply State.cuAsk_kept | with_reducible apply Kept.ite | split | dsimp only
    | with_reducible refine Kept.put ?_ rfl rfl rfl rfl rfl rfl rfl rfl rfl rfl

theorem State.placeAll_kept {s0 : State} (s : State) (u : Nat) (l : List Trig) (h : Kept s0 s) :
    Kept s0 (State.placeAll s u l).1 := by
  induction l generalizing s with
  | nil => exact h
  | cons r l ih => exact ih _ (Kept.ite (State.setCu_kept _ _ _ h) h)

theorem State.cuTriggers_kept {s0 : State} (s : State) (u : Nat) (ts : List Trig) (h : Kept s0 s) :
    Kept s0 (State.cuTriggers s u ts) := by
  unfold State.cuTriggers
  have hk := State.placeAll_kept s u ts h
  generalize s.placeAll u ts = k at hk ⊢
  dsimp only
  split
  · exact hk
  · exact State.cuTrigger_kept _ _ _ _ _ (State.when_kept hk _ _ (fun _ hs => State.bump_kept _ _ _ _ hs))

theorem State.ddrIssue_kept {s0 : State} (s : State) (n : Nat) (h : Kept s0 s) :
    Kept s0 (State.ddrIssue s n) := by
  unfold State.ddrIssue
  repeat' first
    | with_reducible assumption | intro _ | with_reducible apply State.fresh_kept
    | with_reducible apply State.bump_kept | with_reducible apply Kept.ite | split | dsimp only
    | with_reducible refine Kept.put ?_ rfl rfl rfl rfl rfl rfl rfl rfl rfl rfl

theorem State.ddrPut_kept {s0 : State} (s : State) (x : Nat × Nat) (b : Byte) (h : Kept s0 s) :
    Kept s0 (State.ddrPut s x b) :=
  h.change (fun c => Tab.wf_set c _ _) id id (fun _ => id) id id rfl rfl (fun _ => rfl)

theorem State.ddrWrite_kept {s0 : State} (s : State) (a : Nat) (l : List Byte) (h : Kept s0 s) :
    Kept s0 (State.ddrWrite s a l) := by
  induction l generalizing s a with
  | nil => exact h
  | cons b l ih =>
    unfold State.ddrWrite
    refine ih _ _ ?_
    split
    · exact State.ddrPut_kept _ _ _ h
    · exact h

theorem State.deadOver_kept {s0 : State} (s : State) (u : Nat) (h : Kept s0 s) :
    Kept s0 (State.deadOver s u) := by
  unfold State.deadOver
  repeat' first
    | with_reducible assumption | intro _ | with_reducible apply State.when_kept
    | with_reducible apply State.setReg_kept | with_reducible apply State.setCu_kept
    | with_reducible apply State.setCuState_kept | with_reducible apply State.grpSettle_kept
    | with_reducible apply Kept.ite | split | dsimp only
    | with_reducible refine Kept.put ?_ rfl rfl rfl rfl rfl rfl rfl rfl rfl rfl

theorem State.decCut_kept {s0 : State} (s : State) (p : Nat) (h : Kept s0 s) :
    Kept s0 (State.decCut s p) := by
  unfold State.decCut
  repeat' first
    | with_reducible assumption | intro _ | with_reducible apply forEach_kept
    | with_reducible apply State.guClear_kept | with_reducible apply State.p_kept
    | with_reducible apply State.setGath_kept | with_reducible apply Kept.ite | split | dsimp only
    | with_reducible refine Kept.put ?_ rfl rfl rfl rfl rfl rfl rfl rfl rfl rfl

theorem State.msixSend_kept {s0 : State} (s : State) (fn : Nat) (v : Nat) (h : Kept s0 s) :
    Kept s0 (State.msixSend s fn v) := by
  unfold State.msixSend
  repeat' first
    | with_reducible assumption | intro _ | with_reducible apply State.hostWrite_kept | with_reducible apply Kept.ite
    | split | dsimp only | with_reducible refine Kept.put ?_ rfl rfl rfl rfl rfl rfl rfl rfl rfl rfl

theorem State.deliverReq_kept {s0 : State} (s : State) (t : Nat) (h : Kept s0 s) :
    Kept s0 (State.deliverReq s t) := by
  unfold State.deliverReq
  repeat' first
    | with_reducible assumption | intro _ | with_reducible apply State.bump_kept
    | with_reducible apply State.msixSend_kept | with_reducible apply Kept.ite | split | dsimp only
    | with_reducible refine Kept.put ?_ rfl rfl rfl rfl rfl rfl rfl rfl rfl rfl

theorem State.deplPlay_kept {s0 : State} (s : State) (t : Nat) (x : Nat) (τ : Nat) (h : Kept s0 s) :
    Kept s0 (State.deplPlay s t x τ) := by
  unfold State.deplPlay
  repeat' first
    | with_reducible assumption | intro _ | with_reducible apply State.bandCheck_kept
    | with_reducible apply State.bump64_kept | with_reducible apply State.badPlay_kept
    | with_reducible apply State.later_kept | with_reducible apply Kept.ite | split | dsimp only
    | with_reducible refine Kept.put ?_ rfl rfl rfl rfl rfl rfl rfl rfl rfl rfl

theorem State.disableStart_kept {s0 : State} (s : State) (h : Kept s0 s) :
    Kept s0 (State.disableStart s) := by
  unfold State.disableStart
  repeat' first
    | with_reducible assumption | intro _ | with_reducible apply forEach_kept | with_reducible apply State.when_kept
    | with_reducible apply State.endBusy_kept | with_reducible apply State.settle_kept
    | with_reducible apply State.partAbort_kept | with_reducible apply State.rampAll_kept
    | with_reducible apply Kept.ite | split | dsimp only
    | with_reducible refine Kept.put ?_ rfl rfl rfl rfl rfl rfl rfl rfl rfl rfl

theorem State.discTick_kept {s0 : State} (s : State) (h : Kept s0 s) :
    Kept s0 (State.discTick s) := by
  unfold State.discTick
  repeat' first
    | with_reducible assumption | intro _ | with_reducible apply State.settle_kept | with_reducible apply Kept.ite
    | split | dsimp only | with_reducible refine Kept.put ?_ rfl rfl rfl rfl rfl rfl rfl rfl rfl rfl

theorem State.linkWord_kept {s0 : State} (s : State) (p : Nat) (w : Nat) (h : Kept s0 s) :
    Kept s0 (State.linkWord s p w) := by
  unfold State.linkWord
  repeat' first
    | with_reducible assumption | intro _ | with_reducible apply State.fabQueue_kept | with_reducible apply Kept.ite
    | split | dsimp only | with_reducible refine Kept.put ?_ rfl rfl rfl rfl rfl rfl rfl rfl rfl rfl

theorem State.sendDiscover_kept {s0 : State} (s : State) (hops : Nat) (num : Nat) (root : Nat) (except : Option Nat) (h : Kept s0 s) :
    Kept s0 (State.sendDiscover s hops num root except) := by
  unfold State.sendDiscover
  repeat' first
    | with_reducible assumption | intro _ | with_reducible apply forEach_kept
    | with_reducible apply State.linkWord_kept | with_reducible apply Kept.ite | split | dsimp only
    | with_reducible refine Kept.put ?_ rfl rfl rfl rfl rfl rfl rfl rfl rfl rfl

theorem State.discover_kept {s0 : State} (s : State) (who : Option (Nat × Nat)) (h : Kept s0 s) :
    Kept s0 (State.discover s who) := by
  unfold State.discover
  repeat' first
    | with_reducible assumption | intro _ | with_reducible apply State.flag_kept | with_reducible apply State.p_kept
    | with_reducible apply State.sendDiscover_kept | with_reducible apply Kept.ite | split | dsimp only
    | with_reducible refine Kept.put ?_ rfl rfl rfl rfl rfl rfl rfl rfl rfl rfl

theorem State.domResult_kept {s0 : State} (s : State) (d : Nat) (n : Nat) (r : Nat) (sig : W64) (h : Kept s0 s) :
    Kept s0 (State.domResult s d n r sig) := by
  unfold State.domResult
  repeat' first
    | with_reducible assumption | intro _ | with_reducible apply State.p64_kept | with_reducible apply State.p_kept
    | with_reducible apply State.setReg_kept | with_reducible apply Kept.ite | split | dsimp only
    | with_reducible refine Kept.put ?_ rfl rfl rfl rfl rfl rfl rfl rfl rfl rfl

theorem State.losePlays_kept {s0 : State} (s : State) (c : Nat) (h : Kept s0 s) :
    Kept s0 (State.losePlays s c) := by
  unfold State.losePlays
  repeat' first
    | with_reducible assumption | intro _ | with_reducible apply forEach_kept | with_reducible apply State.when_kept
    | with_reducible apply State.setSq_kept | with_reducible apply State.setPlays_kept
    | with_reducible apply State.mark_kept | with_reducible apply Kept.ite | split | dsimp only
    | with_reducible refine Kept.put ?_ rfl rfl rfl rfl rfl rfl rfl rfl rfl rfl

theorem State.loseState_kept {s0 : State} (s : State) (c : Nat) (h : Kept s0 s) :
    Kept s0 (State.loseState s c) := by
  unfold State.loseState
  repeat' first
    | with_reducible assumption | intro _ | with_reducible apply forEach_kept | with_reducible apply State.when_kept
    | with_reducible apply foldl_kept | with_reducible apply State.setWin_kept | with_reducible apply State.mark_kept
    | with_reducible apply State.setCu_kept | with_reducible apply State.losePlays_kept
    | with_reducible apply State.setFlx_kept | with_reducible apply Kept.ite | split | dsimp only
    | with_reducible refine Kept.put ?_ rfl rfl rfl rfl rfl rfl rfl rfl rfl rfl

theorem State.retireDp_kept {s0 : State} (s : State) (g : Nat) (i : Nat) (h : Kept s0 s) :
    Kept s0 (State.retireDp s g i) := by
  unfold State.retireDp
  repeat' first
    | with_reducible assumption | intro _ | with_reducible apply State.retire_kept
    | with_reducible apply State.logIt_kept | with_reducible apply State.p_kept
    | with_reducible apply State.setSpare_kept | with_reducible apply State.setSp_kept | with_reducible apply Kept.ite
    | split | dsimp only | with_reducible refine Kept.put ?_ rfl rfl rfl rfl rfl rfl rfl rfl rfl rfl

theorem State.loseWaiting_kept {s0 : State} (s : State) (g : Nat) (h : Kept s0 s) :
    Kept s0 (State.loseWaiting s g) := by
  unfold State.loseWaiting
  repeat' first
    | with_reducible assumption | intro _ | with_reducible apply forEach_kept
    | with_reducible apply State.setSpare_kept | with_reducible apply State.retireDp_kept
    | with_reducible apply State.darken_kept | with_reducible apply Kept.ite | split | dsimp only
    | with_reducible refine Kept.put ?_ rfl rfl rfl rfl rfl rfl rfl rfl rfl rfl

theorem State.spareFail_kept {s0 : State} (s : State) (g : Nat) (h : Kept s0 s) :
    Kept s0 (State.spareFail s g) := by
  unfold State.spareFail
  repeat' first
    | with_reducible assumption | intro _ | with_reducible apply State.logIt_kept
    | with_reducible apply State.retire_kept | with_reducible apply State.sliceAbandon_kept
    | with_reducible apply State.setSpare_kept | with_reducible apply State.settle_kept
    | with_reducible apply State.setSp_kept | with_reducible apply State.crossbar_kept
    | with_reducible apply State.darken_kept | with_reducible apply State.losePlays_kept
    | with_reducible apply State.loseState_kept | with_reducible apply State.loseWaiting_kept
    | with_reducible apply Kept.ite | split | dsimp only
    | with_reducible refine Kept.put ?_ rfl rfl rfl rfl rfl rfl rfl rfl rfl rfl

theorem State.sliceLost_kept {s0 : State} (s : State) (g : Nat) (m : Nat) (h : Kept s0 s) :
    Kept s0 (State.sliceLost s g m) := by
  unfold State.sliceLost
  repeat' first
    | with_reducible assumption | intro _ | with_reducible apply State.spareFail_kept
    | with_reducible apply State.applyDp_kept | with_reducible apply State.retireDp_kept
    | with_reducible apply Kept.ite | split | dsimp only
    | with_reducible refine Kept.put ?_ rfl rfl rfl rfl rfl rfl rfl rfl rfl rfl

theorem State.domainFail_kept {s0 : State} (s : State) (d : Nat) (h : Kept s0 s) :
    Kept s0 (State.domainFail s d) := by
  unfold State.domainFail
  repeat' first
    | with_reducible assumption | intro _ | with_reducible apply State.fresh_kept
    | with_reducible apply State.logIt_kept | with_reducible apply State.sliceLost_kept
    | with_reducible apply State.moduleFault_kept | with_reducible apply Kept.ite | split | dsimp only
    | with_reducible refine Kept.put ?_ rfl rfl rfl rfl rfl rfl rfl rfl rfl rfl

theorem State.logicFill_kept {s0 : State} (n : Nat) (s : State) (h : Kept s0 s) : Kept s0 (State.logicFill n s) := by
  induction n generalizing s with
  | zero => exact h
  | succ n ih =>
    unfold State.logicFill
    split
    · exact h
    · exact Kept.ite h (ih _ (h.upd rfl rfl rfl rfl rfl rfl rfl rfl rfl rfl))

theorem State.logicOver_kept {s0 : State} (s : State) (h : Kept s0 s) :
    Kept s0 (State.logicOver s) := by
  unfold State.logicOver
  repeat' first
    | with_reducible assumption | intro _ | with_reducible apply forEach_kept | with_reducible apply foldl_kept
    | with_reducible apply State.unflag_kept | with_reducible apply State.blockSettle_kept
    | with_reducible apply State.blockReset_kept | with_reducible apply State.applyRetired_kept
    | with_reducible apply State.settle_kept | with_reducible apply Kept.ite | split | dsimp only
    | with_reducible refine Kept.put ?_ rfl rfl rfl rfl rfl rfl rfl rfl rfl rfl

theorem State.domainEnd_kept {s0 : State} (s : State) (d : Nat) (sig : W64) (h : Kept s0 s) :
    Kept s0 (State.domainEnd s d sig) := by
  unfold State.domainEnd
  repeat' first
    | with_reducible assumption | intro _ | with_reducible apply State.domResult_kept
    | with_reducible apply State.domainFail_kept | with_reducible apply State.logicFill_kept
    | with_reducible apply State.logicOver_kept | with_reducible apply Kept.ite | split | dsimp only
    | with_reducible refine Kept.put ?_ rfl rfl rfl rfl rfl rfl rfl rfl rfl rfl

theorem State.dpErr_kept {s0 : State} (s : State) (d : Nat) (h : Kept s0 s) :
    Kept s0 (State.dpErr s d).1 := by
  unfold State.dpErr
  repeat' first
    | with_reducible assumption | intro _ | with_reducible apply Kept.ite | split | dsimp only
    | with_reducible refine Kept.put ?_ rfl rfl rfl rfl rfl rfl rfl rfl rfl rfl

theorem State.sliceBegin_kept {s0 : State} (s : State) (g : Nat) (m : Nat) (forced : Bool) (h : Kept s0 s) :
    Kept s0 (State.sliceBegin s g m forced) := by
  unfold State.sliceBegin
  repeat' first
    | with_reducible assumption | intro _ | with_reducible apply State.setSl_kept
    | with_reducible apply State.setSlice_kept | with_reducible apply Kept.ite | split | dsimp only
    | with_reducible refine Kept.put ?_ rfl rfl rfl rfl rfl rfl rfl rfl rfl rfl

theorem State.spareTake_kept {s0 : State} (s : State) (g : Nat) (i : Nat) (h : Kept s0 s) :
    Kept s0 (State.spareTake s g i) := by
  unfold State.spareTake
  repeat' first
    | with_reducible assumption | intro _ | with_reducible apply State.when_kept
    | with_reducible apply State.sliceAbandon_kept | with_reducible apply State.setSp_kept
    | with_reducible apply State.p_kept | with_reducible apply State.loseState_kept
    | with_reducible apply State.crossbar_kept | with_reducible apply State.setSpare_kept
    | with_reducible apply State.unflag_kept | with_reducible apply State.sliceBegin_kept
    | with_reducible apply Kept.ite | split | dsimp only
    | with_reducible refine Kept.put ?_ rfl rfl rfl rfl rfl rfl rfl rfl rfl rfl

theorem State.dpWait_kept {s0 : State} (s : State) (g : Nat) (i : Nat) (st : Nat) (h : Kept s0 s) :
    Kept s0 (State.dpWait s g i st) := by
  unfold State.dpWait
  repeat' first
    | with_reducible assumption | intro _ | with_reducible apply State.setSpare_kept
    | with_reducible apply State.darken_kept | with_reducible apply State.losePlays_kept
    | with_reducible apply State.spareReturn_kept | with_reducible apply State.sliceAbandon_kept
    | with_reducible apply Kept.ite | split | dsimp only
    | with_reducible refine Kept.put ?_ rfl rfl rfl rfl rfl rfl rfl rfl rfl rfl

theorem State.dpReplace_kept {s0 : State} (s : State) (g : Nat) (i : Nat) (h : Kept s0 s) :
    Kept s0 (State.dpReplace s g i) := by
  unfold State.dpReplace
  repeat' first
    | with_reducible assumption | intro _ | with_reducible apply State.spareTake_kept
    | with_reducible apply State.retireDp_kept | with_reducible apply State.darken_kept
    | with_reducible apply State.dpWait_kept | with_reducible apply Kept.ite | split | dsimp only
    | with_reducible refine Kept.put ?_ rfl rfl rfl rfl rfl rfl rfl rfl rfl rfl

theorem State.dpFail_kept {s0 : State} (s : State) (d : Nat) (h : Kept s0 s) :
    Kept s0 (State.dpFail s d) := by
  unfold State.dpFail
  repeat' first
    | with_reducible assumption | intro _ | with_reducible apply State.logIt_kept
    | with_reducible apply State.dpErr_kept | with_reducible apply State.dpReplace_kept
    | with_reducible apply State.retireDp_kept | with_reducible apply State.loseWaiting_kept
    | with_reducible apply Kept.ite | split | dsimp only
    | with_reducible refine Kept.put ?_ rfl rfl rfl rfl rfl rfl rfl rfl rfl rfl

theorem State.dropQueues_kept {s0 : State} (s : State) (fn : Nat) (h : Kept s0 s) :
    Kept s0 (State.dropQueues s fn) := by
  unfold State.dropQueues
  repeat' first
    | with_reducible assumption | intro _ | with_reducible apply forEach_kept | with_reducible apply State.unflag_kept
    | with_reducible apply Kept.ite | split | dsimp only
    | with_reducible refine Kept.put ?_ rfl rfl rfl rfl rfl rfl rfl rfl rfl rfl

theorem State.dropReplay_kept {s0 : State} (s : State) (p : Nat) (h : Kept s0 s) :
    Kept s0 (State.dropReplay s p) := by
  unfold State.dropReplay
  repeat' first
    | with_reducible assumption | intro _ | with_reducible apply State.bump_kept
    | with_reducible apply State.setPort_kept | with_reducible apply Kept.ite | split | dsimp only
    | with_reducible refine Kept.put ?_ rfl rfl rfl rfl rfl rfl rfl rfl rfl rfl

theorem State.locPut_kept {s0 : State} (s : State) (i : Nat) (d : Nat) (hv : Nat) (o : Nat) (n : Nat) (h : Kept s0 s) :
    Kept s0 (State.locPut s i d hv o n) := by
  unfold State.locPut
  repeat' first
    | with_reducible assumption | intro _ | with_reducible apply State.setReg_kept | with_reducible apply State.p_kept
    | with_reducible apply Kept.ite | split | dsimp only
    | with_reducible refine Kept.put ?_ rfl rfl rfl rfl rfl rfl rfl rfl rfl rfl

theorem State.memShrink_kept {s0 : State} (s : State) (h : Kept s0 s) : Kept s0 (State.memShrink s) :=
  h.change (fun c => Tab.wf_filter c _) id id (fun _ => id) id id rfl rfl (fun _ => rfl)

theorem State.rankRetire_kept {s0 : State} (s : State) (c : Nat) (r : Nat) (n : Nat) (h : Kept s0 s) :
    Kept s0 (State.rankRetire s c r n) := by
  unfold State.rankRetire
  repeat' first
    | with_reducible assumption | intro _ | with_reducible apply State.chanFail_kept
    | with_reducible apply State.retire_kept | with_reducible apply State.p_kept
    | with_reducible apply State.flag_kept | with_reducible apply State.logIt_kept
    | with_reducible apply State.memShrink_kept | with_reducible apply Kept.ite | split | dsimp only
    | with_reducible refine Kept.put ?_ rfl rfl rfl rfl rfl rfl rfl rfl rfl rfl

theorem State.rowRepair_kept {s0 : State} (s : State) (store : Nat) (quad : Nat) (row : Nat) (h : Kept s0 s) :
    Kept s0 (State.rowRepair s store quad row) := by
  unfold State.rowRepair
  repeat' first
    | with_reducible assumption | intro _ | with_reducible apply State.retire_kept
    | with_reducible apply State.moduleFault_kept | with_reducible apply Kept.ite | split | dsimp only
    | with_reducible refine Kept.put ?_ rfl rfl rfl rfl rfl rfl rfl rfl rfl rfl

theorem State.locLost_kept {s0 : State} (s : State) (d : Nat) (h : Kept s0 s) :
    Kept s0 (State.locLost s d) := by
  unfold State.locLost
  repeat' first
    | with_reducible assumption | intro _ | with_reducible apply State.rankRetire_kept
    | with_reducible apply State.rowRepair_kept | with_reducible apply Kept.ite | split | dsimp only
    | with_reducible refine Kept.put ?_ rfl rfl rfl rfl rfl rfl rfl rfl rfl rfl

theorem State.locClear_kept {s0 : State} (s : State) (i : Nat) (h : Kept s0 s) :
    Kept s0 (State.locClear s i) := by
  unfold State.locClear
  repeat' first
    | with_reducible assumption | intro _ | with_reducible apply State.p_kept | with_reducible apply State.unflag_kept
    | with_reducible apply Kept.ite | split | dsimp only
    | with_reducible refine Kept.put ?_ rfl rfl rfl rfl rfl rfl rfl rfl rfl rfl

theorem State.locSlot_kept {s0 : State} (s : State) (h : Kept s0 s) :
    Kept s0 (State.locSlot s).1 := by
  unfold State.locSlot
  repeat' first
    | with_reducible assumption | intro _ | with_reducible apply State.bump_kept | with_reducible apply Kept.ite
    | split | dsimp only | with_reducible refine Kept.put ?_ rfl rfl rfl rfl rfl rfl rfl rfl rfl rfl

theorem State.locHit_kept {s0 : State} (s : State) (d : Nat) (source : Nat) (h : Kept s0 s) :
    Kept s0 (State.locHit s d source) := by
  unfold State.locHit
  repeat' first
    | with_reducible assumption | intro _ | with_reducible apply State.locPut_kept
    | with_reducible apply State.logIt_kept | with_reducible apply State.locLost_kept
    | with_reducible apply State.locClear_kept | with_reducible apply State.locSlot_kept
    | with_reducible apply Kept.ite | split | dsimp only
    | with_reducible refine Kept.put ?_ rfl rfl rfl rfl rfl rfl rfl rfl rfl rfl

theorem State.memBad_kept {s0 : State} (s : State) (p : Nat) (d : Nat) (h : Kept s0 s) :
    Kept s0 (State.memBad s p d) := by
  unfold State.memBad
  repeat' first
    | with_reducible assumption | intro _ | with_reducible apply State.flag_kept
    | with_reducible apply State.bump_kept | with_reducible apply State.locHit_kept
    | with_reducible apply State.logIt_kept | with_reducible apply Kept.ite | split | dsimp only
    | with_reducible refine Kept.put ?_ rfl rfl rfl rfl rfl rfl rfl rfl rfl rfl

theorem State.eccReads_kept {s0 : State} (s : State) (h : Kept s0 s) : Kept s0 (State.eccReads s) := by
  unfold State.eccReads
  exact foldl_kept _ _ (Kept.put h rfl rfl rfl rfl rfl rfl rfl rfl rfl rfl) _ (fun s a hs => State.memBad_kept _ _ _ hs)

theorem State.enableWrite_kept {s0 : State} (s : State) (fn : Nat) (a : Nat) (c : Nat) (r : RegDesc) (ix : List Nat) (w : Word) (h : Kept s0 s) :
    Kept s0 (State.enableWrite s fn a c r ix w) := by
  unfold State.enableWrite
  repeat' first
    | with_reducible assumption | intro _ | with_reducible apply State.when_kept
    | with_reducible apply State.ctrlWrite_kept | with_reducible apply State.setEnable_kept
    | with_reducible apply Kept.ite | split | dsimp only
    | with_reducible refine Kept.put ?_ rfl rfl rfl rfl rfl rfl rfl rfl rfl rfl

theorem State.endEarly_kept {s0 : State} (s : State) (t : Nat) (w : Win) (u : List IQ) (h : Kept s0 s) :
    Kept s0 (State.endEarly s t w u) := by
  unfold State.endEarly
  repeat' first
    | with_reducible assumption | intro _ | with_reducible apply State.closeWin_kept
    | with_reducible apply State.bump_kept | with_reducible apply Kept.ite | split | dsimp only
    | with_reducible refine Kept.put ?_ rfl rfl rfl rfl rfl rfl rfl rfl rfl rfl

theorem State.endWin_kept {s0 : State} (s : State) (t : Nat) (w : Win) (u : List IQ) (h : Kept s0 s) :
    Kept s0 (State.endWin s t w u) := by
  unfold State.endWin
  repeat' first
    | with_reducible assumption | intro _ | with_reducible apply State.voidWin_kept
    | with_reducible apply State.closeWin_kept | with_reducible apply Kept.ite | split | dsimp only
    | with_reducible refine Kept.put ?_ rfl rfl rfl rfl rfl rfl rfl rfl rfl rfl

theorem State.setEntry_kept {s0 : State} (s : State) (k : Nat) (e : BitVec 128) (h : Kept s0 s) :
    Kept s0 (State.setEntry s k e) := by
  unfold State.setEntry
  repeat' first
    | with_reducible assumption | intro _ | with_reducible apply Kept.ite | split | dsimp only
    | with_reducible refine Kept.put ?_ rfl rfl rfl rfl rfl rfl rfl rfl rfl rfl

theorem State.entryDone_kept {s0 : State} (s : State) (fn : Nat) (k : Nat) (v : Word) (h : Kept s0 s) :
    Kept s0 (State.entryDone s fn k v) := by
  unfold State.entryDone
  repeat' first
    | with_reducible assumption | intro _ | with_reducible apply State.lockedWrite_kept
    | with_reducible apply State.badAction_kept | with_reducible apply State.setEntry_kept
    | with_reducible apply Kept.ite | split | dsimp only
    | with_reducible refine Kept.put ?_ rfl rfl rfl rfl rfl rfl rfl rfl rfl rfl

theorem State.entryWrite_kept {s0 : State} (s : State) (k : Nat) (l : List Nat) (h : Kept s0 s) :
    Kept s0 (State.entryWrite s k l) := by
  induction l generalizing s k with
  | nil => exact h
  | cons v l ih => exact ih _ _ (State.setEntry_kept _ _ _ h)

theorem State.setEnv_kept {s0 : State} (s : State) (q : Nat) (a : Nat) (w : Word) (h : Kept s0 s) :
    Kept s0 (State.setEnv s q a w) := by
  unfold State.setEnv
  repeat' first
    | with_reducible assumption | intro _ | with_reducible apply Kept.ite | split | dsimp only
    | with_reducible refine Kept.put ?_ rfl rfl rfl rfl rfl rfl rfl rfl rfl rfl

theorem State.envData_kept {s0 : State} (s : State) (fn : Nat) (q : Nat) (wr : Option Word) (h : Kept s0 s) :
    Kept s0 (State.envData s fn q wr) := by
  unfold State.envData
  repeat' first
    | with_reducible assumption | intro _ | with_reducible apply State.deny_kept
    | with_reducible apply State.setEnv_kept | with_reducible apply State.p_kept | with_reducible apply Kept.ite
    | split | dsimp only | with_reducible refine Kept.put ?_ rfl rfl rfl rfl rfl rfl rfl rfl rfl rfl

theorem State.envWrite_kept {s0 : State} (s : State) (q a : Nat) (l : List Nat) (h : Kept s0 s) :
    Kept s0 (State.envWrite s q a l) := by
  induction l generalizing s a with
  | nil => exact h
  | cons v l ih => exact ih _ _ (State.setEnv_kept _ _ _ _ h)

theorem State.episodeCause_kept {s0 : State} (s : State) (h : Kept s0 s) :
    Kept s0 (State.episodeCause s) := by
  unfold State.episodeCause
  repeat' first
    | with_reducible assumption | intro _ | with_reducible apply State.logIt_kept
    | with_reducible apply State.flag_kept | with_reducible apply Kept.ite | split | dsimp only
    | with_reducible refine Kept.put ?_ rfl rfl rfl rfl rfl rfl rfl rfl rfl rfl

theorem State.evchWrite_kept {s0 : State} (s : State) (fn : Nat) (ch : Nat) (f : State → State) (h : Kept s0 s) (hf : ∀ s, Kept s0 s → Kept s0 (f s)) :
    Kept s0 (State.evchWrite s fn ch f) := by
  unfold State.evchWrite
  repeat' first
    | with_reducible assumption | intro _ | with_reducible apply hf | with_reducible apply State.deny_kept
    | with_reducible apply Kept.ite | split | dsimp only
    | with_reducible refine Kept.put ?_ rfl rfl rfl rfl rfl rfl rfl rfl rfl rfl

theorem State.evrCommit_kept {s0 : State} (s : State) (fn : Nat) (h : Kept s0 s) : Kept s0 (State.evrCommit s fn).1 := by
  unfold State.evrCommit
  dsimp only
  split
  · exact State.p_kept _ _ _ _ (State.p_kept _ _ _ _ (State.flag_kept _ _ _ h))
  · split
    · exact State.p_kept _ _ _ _ (State.p_kept _ _ _ _ (State.flag_kept _ _ _ h))
    · split
      · exact State.p_kept _ _ _ _ (State.p_kept _ _ _ _ (State.flag_kept _ _ _ h))
      · split
        · exact State.p_kept _ _ _ _ (State.p_kept _ _ _ _ h)
        · exact State.p_kept _ _ _ _ (State.p_kept _ _ _ _ (State.bump_kept _ _ _ _ (State.applyConf_kept _ _ _ h)))

theorem State.evrDiscard_kept {s0 : State} (s : State) (fn : Nat) (h : Kept s0 s) :
    Kept s0 (State.evrDiscard s fn) := by
  unfold State.evrDiscard
  repeat' first
    | with_reducible assumption | intro _ | with_reducible apply forEach_kept | with_reducible apply State.setReg_kept
    | with_reducible apply Kept.ite | split | dsimp only
    | with_reducible refine Kept.put ?_ rfl rfl rfl rfl rfl rfl rfl rfl rfl rfl

theorem State.portEnable_kept {s0 : State} (s : State) (p : Nat) (v : Nat) (h : Kept s0 s) :
    Kept s0 (State.portEnable s p v) := by
  unfold State.portEnable
  repeat' first
    | with_reducible assumption | intro _ | with_reducible apply State.p_kept
    | with_reducible apply State.portLeave_kept | with_reducible apply State.bump_kept
    | with_reducible apply State.setPort_kept | with_reducible apply State.portGone_kept
    | with_reducible apply Kept.ite | split | dsimp only
    | with_reducible refine Kept.put ?_ rfl rfl rfl rfl rfl rfl rfl rfl rfl rfl

theorem State.fabStart_kept {s0 : State} (s : State) (h : Kept s0 s) :
    Kept s0 (State.fabStart s) := by
  unfold State.fabStart
  repeat' first
    | with_reducible assumption | intro _ | with_reducible apply forEach_kept
    | with_reducible apply State.lanesApply_kept | with_reducible apply State.portEnable_kept
    | with_reducible apply State.twinPat_kept | with_reducible apply Kept.ite | split | dsimp only
    | with_reducible refine Kept.put ?_ rfl rfl rfl rfl rfl rfl rfl rfl rfl rfl

theorem State.laneSend_kept {s0 : State} (s : State) (l : Nat) (b : List Bool) (h : Kept s0 s) :
    Kept s0 (State.laneSend s l b) := by
  unfold State.laneSend
  repeat' first
    | with_reducible assumption | intro _ | with_reducible apply State.setLane_kept | with_reducible apply Kept.ite
    | split | dsimp only | with_reducible refine Kept.put ?_ rfl rfl rfl rfl rfl rfl rfl rfl rfl rfl

theorem State.frameSend_kept {s0 : State} (s : State) (p : Nat) (f : FabFrame) (h : Kept s0 s) :
    Kept s0 (State.frameSend s p f) := by
  unfold State.frameSend
  repeat' first
    | with_reducible assumption | intro _ | with_reducible apply forEach_kept
    | with_reducible apply State.setPort_kept | with_reducible apply State.setLane_kept
    | with_reducible apply State.laneSend_kept | with_reducible apply Kept.ite | split | dsimp only
    | with_reducible refine Kept.put ?_ rfl rfl rfl rfl rfl rfl rfl rfl rfl rfl

theorem State.portSend_kept {s0 : State} (s : State) (p : Nat) (h : Kept s0 s) :
    Kept s0 (State.portSend s p) := by
  unfold State.portSend
  repeat' first
    | with_reducible assumption | intro _ | with_reducible apply State.setPort_kept
    | with_reducible apply State.frameSend_kept | with_reducible apply Kept.ite | split | dsimp only
    | with_reducible refine Kept.put ?_ rfl rfl rfl rfl rfl rfl rfl rfl rfl rfl

theorem State.fabTick_kept {s0 : State} (s : State) (h : Kept s0 s) :
    Kept s0 (State.fabTick s) := by
  unfold State.fabTick
  repeat' first
    | with_reducible assumption | intro _ | with_reducible apply forEach_kept
    | with_reducible apply State.portSend_kept | with_reducible apply Kept.ite | split | dsimp only
    | with_reducible refine Kept.put ?_ rfl rfl rfl rfl rfl rfl rfl rfl rfl rfl

theorem State.failInput_kept {s0 : State} (s : State) (h : Kept s0 s) :
    Kept s0 (State.failInput s) := by
  unfold State.failInput
  repeat' first
    | with_reducible assumption | intro _ | with_reducible apply State.flag_kept
    | with_reducible apply State.convShut_kept | with_reducible apply State.raiseSafe_kept
    | with_reducible apply Kept.ite | split | dsimp only
    | with_reducible refine Kept.put ?_ rfl rfl rfl rfl rfl rfl rfl rfl rfl rfl

theorem State.handlerSet_kept {s0 : State} (s : State) (grp : Nat) (a : Nat) (b : Word) (h : Kept s0 s) :
    Kept s0 (State.handlerSet s grp a b) := by
  unfold State.handlerSet
  repeat' first
    | with_reducible assumption | intro _ | with_reducible apply State.bump_kept
    | with_reducible apply State.setReg_kept | with_reducible apply Kept.ite | split | dsimp only
    | with_reducible refine Kept.put ?_ rfl rfl rfl rfl rfl rfl rfl rfl rfl rfl

theorem State.patchOff_kept {s0 : State} (s : State) (h : Kept s0 s) :
    Kept s0 (State.patchOff s) := by
  unfold State.patchOff
  repeat' first
    | with_reducible assumption | intro _ | with_reducible apply forEach_kept | with_reducible apply State.unflag_kept
    | with_reducible apply Kept.ite | split | dsimp only
    | with_reducible refine Kept.put ?_ rfl rfl rfl rfl rfl rfl rfl rfl rfl rfl

theorem State.pathCorrect_kept {s0 : State} (s : State) (h : Kept s0 s) :
    Kept s0 (State.pathCorrect s) := by
  unfold State.pathCorrect
  repeat' first
    | with_reducible assumption | intro _ | with_reducible apply State.fresh_kept
    | with_reducible apply State.bump64_kept | with_reducible apply State.logIt_kept | with_reducible apply Kept.ite
    | split | dsimp only | with_reducible refine Kept.put ?_ rfl rfl rfl rfl rfl rfl rfl rfl rfl rfl

theorem State.pathBad_kept {s0 : State} (s : State) (h : Kept s0 s) :
    Kept s0 (State.pathBad s) := by
  unfold State.pathBad
  repeat' first
    | with_reducible assumption | intro _ | with_reducible apply State.fresh_kept
    | with_reducible apply State.flag_kept | with_reducible apply State.bump_kept
    | with_reducible apply State.logIt_kept | with_reducible apply Kept.ite | split | dsimp only
    | with_reducible refine Kept.put ?_ rfl rfl rfl rfl rfl rfl rfl rfl rfl rfl

theorem State.vectorTo_kept {s0 : State} (s : State) (cause : Nat) (h : Kept s0 s) :
    Kept s0 (State.vectorTo s cause) := by
  unfold State.vectorTo
  repeat' first
    | with_reducible assumption | intro _ | with_reducible apply Kept.ite | split | dsimp only
    | with_reducible refine Kept.put ?_ rfl rfl rfl rfl rfl rfl rfl rfl rfl rfl

theorem State.takeTrap_kept {s0 : State} (s : State) (c : Nat) (claimed : Option Nat) (h : Kept s0 s) :
    Kept s0 (State.takeTrap s c claimed) := by
  unfold State.takeTrap
  repeat' first
    | with_reducible assumption | intro _ | with_reducible apply State.vectorTo_kept
    | with_reducible apply State.bump_kept | with_reducible apply Kept.ite | split | dsimp only
    | with_reducible refine Kept.put ?_ rfl rfl rfl rfl rfl rfl rfl rfl rfl rfl

theorem State.takeFault_kept {s0 : State} (s : State) (h : Kept s0 s) :
    Kept s0 (State.takeFault s) := by
  unfold State.takeFault
  repeat' first
    | with_reducible assumption | intro _ | with_reducible apply State.takeTrap_kept
    | with_reducible apply State.vectorTo_kept | with_reducible apply State.bump_kept | with_reducible apply Kept.ite
    | split | dsimp only | with_reducible refine Kept.put ?_ rfl rfl rfl rfl rfl rfl rfl rfl rfl rfl

theorem State.faultTrap_kept {s0 : State} (s : State) (kind : Nat) (upc : Nat) (h : Kept s0 s) :
    Kept s0 (State.faultTrap s kind upc) := by
  unfold State.faultTrap
  repeat' first
    | with_reducible assumption | intro _ | with_reducible apply State.when_kept
    | with_reducible apply State.logIt_kept | with_reducible apply State.handlerSet_kept
    | with_reducible apply State.patchOff_kept | with_reducible apply State.moduleFault_kept
    | with_reducible apply State.pathCorrect_kept | with_reducible apply State.pathBad_kept
    | with_reducible apply State.takeFault_kept | with_reducible apply Kept.ite | split | dsimp only
    | with_reducible refine Kept.put ?_ rfl rfl rfl rfl rfl rfl rfl rfl rfl rfl

theorem State.fed_kept {s0 : State} (s : State) (u : Nat) (adc : List AdcCode) (h : Kept s0 s) :
    Kept s0 (State.fed s u adc) := by
  unfold State.fed
  repeat' first
    | with_reducible assumption | intro _ | with_reducible apply State.cuStopCheck_kept
    | with_reducible apply State.adcIn_kept | with_reducible apply Kept.ite | split | dsimp only
    | with_reducible refine Kept.put ?_ rfl rfl rfl rfl rfl rfl rfl rfl rfl rfl

theorem State.rrServed_kept {s0 : State} (s : State) (n : Nat) (h : Kept s0 s) :
    Kept s0 (State.rrServed s n) := by
  unfold State.rrServed
  repeat' first
    | with_reducible assumption | intro _ | with_reducible apply Kept.ite | split | dsimp only
    | with_reducible refine Kept.put ?_ rfl rfl rfl rfl rfl rfl rfl rfl rfl rfl

end Sys2Proof.Machine
end

