-- ==== Sys2Proof/Laws/KeptD.lean ====
section
/-!
SUPPORT. Laws/KeptD.lean: that the operations of the model keep what Laws/Kept.lean says, one lemma an operation, in the order in
which they build on one another.
-/

namespace Sys2Proof.Machine
open Sys2Proof

theorem State.recResize_kept {s0 : State} (s : State) (p : Nat) (n : Nat) (h : Kept s0 s) :
    Kept s0 (State.recResize s p n) := by
  unfold State.recResize
  repeat' first
    | with_reducible assumption | intro _ | with_reducible apply State.unflag_kept | with_reducible apply State.p_kept
    | with_reducible apply State.flag_kept | with_reducible apply Kept.ite | split | dsimp only
    | with_reducible refine Kept.put ?_ rfl rfl rfl rfl rfl rfl rfl rfl rfl rfl

theorem State.recTake_kept {s0 : State} (s : State) (p : Nat) (h : Kept s0 s) :
    Kept s0 (State.recTake s p) := by
  unfold State.recTake
  repeat' first
    | with_reducible assumption | intro _ | with_reducible apply State.unflag_kept | with_reducible apply State.p_kept
    | with_reducible apply Kept.ite | split | dsimp only
    | with_reducible refine Kept.put ?_ rfl rfl rfl rfl rfl rfl rfl rfl rfl rfl

theorem State.recRestart_kept {s0 : State} (s : State) (p : Nat) (h : Kept s0 s) :
    Kept s0 (State.recRestart s p) := by
  unfold State.recRestart
  repeat' first
    | with_reducible assumption | intro _ | with_reducible apply State.recTake_kept
    | with_reducible apply State.p_kept | with_reducible apply Kept.ite | split | dsimp only
    | with_reducible refine Kept.put ?_ rfl rfl rfl rfl rfl rfl rfl rfl rfl rfl

theorem State.ringBase_kept {s0 : State} (s : State) (p : Nat) (lo : Word) (hi : Word) (en : Nat) (h : Kept s0 s) :
    Kept s0 (State.ringBase s p lo hi en) := by
  unfold State.ringBase
  repeat' first
    | with_reducible assumption | intro _ | with_reducible apply State.when_kept | with_reducible apply State.p_kept
    | with_reducible apply State.putImg_kept | with_reducible apply State.recRestart_kept
    | with_reducible apply Kept.ite | split | dsimp only
    | with_reducible refine Kept.put ?_ rfl rfl rfl rfl rfl rfl rfl rfl rfl rfl

theorem cRecRingSet_kept :
    KeptCmd cRecRingSet := by
  constructor
  all_goals (unfold cRecRingSet)
  repeat' first
    | with_reducible assumption | intro _ | with_reducible apply State.recResize_kept
    | with_reducible apply State.putImg_kept | with_reducible apply State.succeed_kept
    | with_reducible apply State.ringBase_kept | with_reducible apply Kept.ite | split | dsimp only
    | with_reducible refine Kept.put ?_ rfl rfl rfl rfl rfl rfl rfl rfl rfl rfl

theorem State.hostFail_kept {s0 : State} (s : State) (p : Pkt) (result : Nat) (h : Kept s0 s) :
    Kept s0 (State.hostFail s p result) := by
  unfold State.hostFail
  repeat' first
    | with_reducible assumption | intro _ | with_reducible apply State.finish_kept
    | with_reducible apply State.bump_kept | with_reducible apply Kept.ite | split | dsimp only
    | with_reducible refine Kept.put ?_ rfl rfl rfl rfl rfl rfl rfl rfl rfl rfl

theorem State.withData_kept {s0 : State} (s : State) (p : Pkt) (n : Nat) (f : State → List Byte → State) (h : Kept s0 s) (hf : ∀ s b, Kept s0 s → Kept s0 (f s b)) :
    Kept s0 (State.withData s p n f) := by
  unfold State.withData
  repeat' first
    | with_reducible assumption | intro _ | with_reducible apply hf | with_reducible apply State.succeed_kept
    | with_reducible apply State.hostFail_kept | with_reducible apply Kept.ite | split | dsimp only
    | with_reducible refine Kept.put ?_ rfl rfl rfl rfl rfl rfl rfl rfl rfl rfl

theorem cEnvLoad_kept :
    KeptCmd cEnvLoad := by
  constructor
  all_goals (unfold cEnvLoad)
  repeat' first
    | with_reducible assumption | intro _ | with_reducible apply State.withData_kept
    | with_reducible apply State.envWrite_kept | with_reducible apply Kept.ite | split | dsimp only
    | with_reducible refine Kept.put ?_ rfl rfl rfl rfl rfl rfl rfl rfl rfl rfl

theorem cAcqTrigger_kept :
    KeptCmd cAcqTrigger := by
  constructor
  all_goals (unfold cAcqTrigger)
  repeat' first
    | with_reducible assumption | intro _ | with_reducible apply State.succeed_kept
    | with_reducible apply State.cuTrigger_kept | with_reducible apply Kept.ite | split | dsimp only
    | with_reducible refine Kept.put ?_ rfl rfl rfl rfl rfl rfl rfl rfl rfl rfl

theorem cMonInject_kept :
    KeptCmd cMonInject := by
  constructor
  all_goals (unfold cMonInject)
  repeat' first
    | with_reducible assumption | intro _ | with_reducible apply State.succeed_kept
    | with_reducible apply State.monInject_kept | with_reducible apply Kept.ite | split | dsimp only
    | with_reducible refine Kept.put ?_ rfl rfl rfl rfl rfl rfl rfl rfl rfl rfl

theorem cAcqStop_kept :
    KeptCmd cAcqStop := by
  constructor
  all_goals (unfold cAcqStop)
  repeat' first
    | with_reducible assumption | intro _ | with_reducible apply State.succeed_kept
    | with_reducible apply State.cuStop_kept | with_reducible apply Kept.ite | split | dsimp only
    | with_reducible refine Kept.put ?_ rfl rfl rfl rfl rfl rfl rfl rfl rfl rfl

theorem State.storePut_kept {s0 : State} (s : State) (m : March) (n v : Nat) (h : Kept s0 s) :
    Kept s0 (State.storePut s m n v) := by
  unfold State.storePut
  dsimp only
  split
  case h_10 => exact h.change id (fun c => writeBytes_wf c _ _) id (fun _ => id) id id rfl rfl (fun _ => rfl)
  case h_5 => exact State.setEnv_kept _ _ _ _ (State.setEnv_kept _ _ _ _ h)
  case h_6 => exact State.putImg_kept _ _ _ (State.putImg_kept _ _ _ h)
  case h_7 => exact h.upd rfl rfl rfl rfl rfl rfl rfl rfl rfl rfl
  case h_12 => exact h
  case h_8 => exact h.upd rfl rfl rfl rfl rfl rfl rfl rfl rfl rfl
  case h_9 => exact h.upd rfl rfl rfl rfl rfl rfl rfl rfl rfl rfl
  case h_11 => exact h.upd rfl rfl rfl rfl rfl rfl rfl rfl rfl rfl
  all_goals
    split
    · exact foldl_kept _ _ h _ (fun s i hs => State.ddrPut_kept _ _ _ hs)
    · exact h

theorem State.marchFill_kept {s0 : State} (s : State) (m : March) (whole : Bool) (h : Kept s0 s) :
    Kept s0 (State.marchFill s m whole) := by
  unfold State.marchFill
  repeat' first
    | with_reducible assumption | intro _ | with_reducible apply foldl_kept | with_reducible apply State.storePut_kept
    | with_reducible apply State.fresh_kept | with_reducible apply Kept.ite | split | dsimp only
    | with_reducible refine Kept.put ?_ rfl rfl rfl rfl rfl rfl rfl rfl rfl rfl

theorem State.marchReport_kept {s0 : State} (s : State) (result : Nat) (fails : Nat) (first : Nat) (ops : Nat) (diff : W64) (chk : Nat) (h : Kept s0 s) :
    Kept s0 (State.marchReport s result fails first ops diff chk) := by
  unfold State.marchReport
  repeat' first
    | with_reducible assumption | intro _ | with_reducible apply State.p_kept | with_reducible apply State.unflag_kept
    | with_reducible apply State.p64_kept | with_reducible apply State.settle_kept | with_reducible apply Kept.ite
    | split | dsimp only | with_reducible refine Kept.put ?_ rfl rfl rfl rfl rfl rfl rfl rfl rfl rfl

theorem State.marchStop_kept {s0 : State} (s : State) (h : Kept s0 s) :
    Kept s0 (State.marchStop s) := by
  unfold State.marchStop
  repeat' first
    | with_reducible assumption | intro _ | with_reducible apply State.marchFill_kept
    | with_reducible apply State.fresh_kept | with_reducible apply State.marchReport_kept
    | with_reducible apply Kept.ite | split | dsimp only
    | with_reducible refine Kept.put ?_ rfl rfl rfl rfl rfl rfl rfl rfl rfl rfl

theorem cMemMarchStop_kept :
    KeptCmd cMemMarchStop := by
  constructor
  all_goals (unfold cMemMarchStop)
  repeat' first
    | with_reducible assumption | intro _ | with_reducible apply State.when_kept
    | with_reducible apply State.succeed_kept | with_reducible apply State.marchStop_kept
    | with_reducible apply Kept.ite | split | dsimp only
    | with_reducible refine Kept.put ?_ rfl rfl rfl rfl rfl rfl rfl rfl rfl rfl

theorem cFabPortConfig_kept :
    KeptCmd cFabPortConfig := by
  constructor
  all_goals (unfold cFabPortConfig)
  repeat' first
    | with_reducible assumption | intro _ | with_reducible apply State.succeed_kept
    | with_reducible apply State.portEnable_kept | with_reducible apply Kept.ite | split | dsimp only
    | with_reducible refine Kept.put ?_ rfl rfl rfl rfl rfl rfl rfl rfl rfl rfl

theorem cBiasSet_kept :
    KeptCmd cBiasSet := by
  constructor
  all_goals (unfold cBiasSet)
  repeat' first
    | with_reducible assumption | intro _ | with_reducible apply State.succeed_kept
    | with_reducible apply State.biasWrite_kept | with_reducible apply Kept.ite | split | dsimp only
    | with_reducible refine Kept.put ?_ rfl rfl rfl rfl rfl rfl rfl rfl rfl rfl

theorem State.unanchor_kept {s0 : State} (s : State) (d : Nat) (h : Kept s0 s) :
    Kept s0 (State.unanchor s d) := by
  have h1 : Kept s0 { s with tim.doms := s.tim.doms.set Dom.zero d { s.tim.doms.get Dom.zero d with pend := none } } :=
    h.pend d { s.tim.doms.get Dom.zero d with pend := none } rfl
  unfold State.unanchor
  exact Kept.ite (State.logIt_kept _ _ _ _ _ (State.unflag_kept _ _ _ h1)) h1

theorem cTimeRelease_kept :
    KeptCmd cTimeRelease := by
  constructor
  all_goals (unfold cTimeRelease)
  repeat' first
    | with_reducible assumption | intro _ | with_reducible apply State.succeed_kept
    | with_reducible apply State.unanchor_kept | with_reducible apply Kept.ite | split | dsimp only
    | with_reducible refine Kept.put ?_ rfl rfl rfl rfl rfl rfl rfl rfl rfl rfl

theorem State.putImgs_kept {s0 : State} (s : State) (p : Pkt) (l : List (Nat × Nat)) (h : Kept s0 s) :
    Kept s0 (State.putImgs s p l) := by
  unfold State.putImgs
  repeat' first
    | with_reducible assumption | intro _ | with_reducible apply foldl_kept | with_reducible apply State.putImg_kept
    | with_reducible apply Kept.ite | split | dsimp only
    | with_reducible refine Kept.put ?_ rfl rfl rfl rfl rfl rfl rfl rfl rfl rfl

theorem cRdoHeatSet_kept :
    KeptCmd cRdoHeatSet := by
  constructor
  all_goals (unfold cRdoHeatSet)
  repeat' first
    | with_reducible assumption | intro _ | with_reducible apply State.succeed_kept
    | with_reducible apply State.putImgs_kept | with_reducible apply Kept.ite | split | dsimp only
    | with_reducible refine Kept.put ?_ rfl rfl rfl rfl rfl rfl rfl rfl rfl rfl

theorem State.swapRefused_kept {s0 : State} (s : State) (g : Nat) (h : Kept s0 s) :
    Kept s0 (State.swapRefused s g) := by
  unfold State.swapRefused
  repeat' first
    | with_reducible assumption | intro _ | with_reducible apply State.flag_kept | with_reducible apply Kept.ite
    | split | dsimp only | with_reducible refine Kept.put ?_ rfl rfl rfl rfl rfl rfl rfl rfl rfl rfl

theorem rejSpare_kept {s0 : State} (g : Pkt → Nat) (s : State) (p : Pkt) (f : Fail) (h : Kept s0 s) :
    Kept s0 (rejSpare g s p f) := by
  unfold rejSpare
  repeat' first
    | with_reducible assumption | intro _ | with_reducible apply State.when_kept
    | with_reducible apply State.swapRefused_kept | with_reducible apply Kept.ite | split | dsimp only
    | with_reducible refine Kept.put ?_ rfl rfl rfl rfl rfl rfl rfl rfl rfl rfl

theorem State.spareGo_kept {s0 : State} (s : State) (g : Nat) (i : Nat) (owed : Option (Nat × Nat)) (test : Bool) (h : Kept s0 s) :
    Kept s0 (State.spareGo s g i owed test) := by
  unfold State.spareGo
  repeat' first
    | with_reducible assumption | intro _ | with_reducible apply State.sliceAbandon_kept
    | with_reducible apply State.setSpare_kept | with_reducible apply State.setSp_kept
    | with_reducible apply State.p_kept | with_reducible apply Kept.ite | split | dsimp only
    | with_reducible refine Kept.put ?_ rfl rfl rfl rfl rfl rfl rfl rfl rfl rfl

theorem cDrvSpareSwap_kept :
    KeptCmd cDrvSpareSwap := by
  constructor
  all_goals (unfold cDrvSpareSwap)
  repeat' first
    | with_reducible assumption | intro _ | with_reducible apply rejSpare_kept
    | with_reducible apply State.spareGo_kept | with_reducible apply Kept.ite | split | dsimp only
    | with_reducible refine Kept.put ?_ rfl rfl rfl rfl rfl rfl rfl rfl rfl rfl

theorem State.weightSet_kept {s0 : State} (s : State) (m : Nat) (a : Nat) (v : BitVec 48) (h : Kept s0 s) :
    Kept s0 (State.weightSet s m a v) := by
  unfold State.weightSet
  repeat' first
    | with_reducible assumption | intro _ | with_reducible apply forEach_kept | with_reducible apply State.setWin_kept
    | with_reducible apply Kept.ite | split | dsimp only
    | with_reducible refine Kept.put ?_ rfl rfl rfl rfl rfl rfl rfl rfl rfl rfl

theorem State.kernWrite_kept {s0 : State} (s : State) (m a : Nat) (l : List Nat) (h : Kept s0 s) :
    Kept s0 (State.kernWrite s m a l) := by
  induction l generalizing s a with
  | nil => exact h
  | cons v l ih => exact ih _ _ (State.weightSet_kept _ _ _ _ h)

theorem cKernelLoad_kept :
    KeptCmd cKernelLoad := by
  constructor
  all_goals (unfold cKernelLoad)
  repeat' first
    | with_reducible assumption | intro _ | with_reducible apply State.withData_kept
    | with_reducible apply State.kernWrite_kept | with_reducible apply Kept.ite | split | dsimp only
    | with_reducible refine Kept.put ?_ rfl rfl rfl rfl rfl rfl rfl rfl rfl rfl

theorem cBiasRestore_kept :
    KeptCmd cBiasRestore := by
  constructor
  all_goals (unfold cBiasRestore)
  repeat' first
    | with_reducible assumption | intro _ | with_reducible apply forEach_kept
    | with_reducible apply State.succeed_kept | with_reducible apply State.biasRestore_kept
    | with_reducible apply Kept.ite | split | dsimp only
    | with_reducible refine Kept.put ?_ rfl rfl rfl rfl rfl rfl rfl rfl rfl rfl

theorem imgCmd_kept (op a : Nat) (after : State → State) (ha : ∀ s0 s, Kept s0 s → Kept s0 (after s)) :
    KeptCmd (imgCmd op a after) :=
  ⟨fun _ _ _ h => State.succeed_kept _ _ _ (ha _ _ (State.putImg_kept _ _ _ h)), fun _ _ _ _ h => h⟩

theorem cPwrRankSet_kept : KeptCmd cPwrRankSet := imgCmd_kept _ _ _ (fun _ _ h => h)

theorem cThmSnapshotFetch_kept :
    KeptCmd cThmSnapshotFetch := by
  constructor
  all_goals (unfold cThmSnapshotFetch)
  repeat' first
    | with_reducible assumption | intro _ | with_reducible apply id_kept | with_reducible apply State.succeed_kept
    | with_reducible apply State.hostWrite_kept | with_reducible apply Kept.ite | split | dsimp only
    | with_reducible refine Kept.put ?_ rfl rfl rfl rfl rfl rfl rfl rfl rfl rfl

theorem cMonConfig_kept :
    KeptCmd cMonConfig := by
  constructor
  all_goals (unfold cMonConfig)
  repeat' first
    | with_reducible assumption | intro _ | with_reducible apply State.putImgs_kept
    | with_reducible apply State.putBits_kept | with_reducible apply State.setEnable_kept
    | with_reducible apply State.finishDark_kept | with_reducible apply Kept.ite | split | dsimp only
    | with_reducible refine Kept.put ?_ rfl rfl rfl rfl rfl rfl rfl rfl rfl rfl

theorem State.laneRestore_kept {s0 : State} (s : State) (l : Nat) (h : Kept s0 s) :
    Kept s0 (State.laneRestore s l) := by
  unfold State.laneRestore
  repeat' first
    | with_reducible assumption | intro _ | with_reducible apply State.setLane_kept
    | with_reducible apply State.setLaneRx_kept | with_reducible apply State.p_kept | with_reducible apply Kept.ite
    | split | dsimp only | with_reducible refine Kept.put ?_ rfl rfl rfl rfl rfl rfl rfl rfl rfl rfl

theorem cFabLaneRestore_kept :
    KeptCmd cFabLaneRestore := by
  constructor
  all_goals (unfold cFabLaneRestore)
  repeat' first
    | with_reducible assumption | intro _ | with_reducible apply State.succeed_kept
    | with_reducible apply State.laneRestore_kept | with_reducible apply Kept.ite | split | dsimp only
    | with_reducible refine Kept.put ?_ rfl rfl rfl rfl rfl rfl rfl rfl rfl rfl

theorem cDrvHeatSet_kept :
    KeptCmd cDrvHeatSet := by
  constructor
  all_goals (unfold cDrvHeatSet)
  repeat' first
    | with_reducible assumption | intro _ | with_reducible apply State.succeed_kept
    | with_reducible apply State.putImgs_kept | with_reducible apply Kept.ite | split | dsimp only
    | with_reducible refine Kept.put ?_ rfl rfl rfl rfl rfl rfl rfl rfl rfl rfl

theorem cFlxPdLoad_kept :
    KeptCmd cFlxPdLoad := by
  constructor
  all_goals (unfold cFlxPdLoad)
  repeat' first
    | with_reducible assumption | intro _ | with_reducible apply State.flag_kept
    | with_reducible apply State.putImgs_kept | with_reducible apply State.succeed_kept
    | with_reducible apply State.bankCommit_kept | with_reducible apply Kept.ite | split | dsimp only
    | with_reducible refine Kept.put ?_ rfl rfl rfl rfl rfl rfl rfl rfl rfl rfl

theorem State.outConfig_kept {s0 : State} (s : State) (c : Nat) (pg : Nat) (p : Pkt) (h : Kept s0 s) :
    Kept s0 (State.outConfig s c pg p) := by
  unfold State.outConfig
  repeat' first
    | with_reducible assumption | intro _ | with_reducible apply State.when_kept
    | with_reducible apply State.setEnable_kept | with_reducible apply State.p_kept
    | with_reducible apply State.putImg_kept | with_reducible apply State.finishDark_kept
    | with_reducible apply Kept.ite | split | dsimp only
    | with_reducible refine Kept.put ?_ rfl rfl rfl rfl rfl rfl rfl rfl rfl rfl

theorem cDrvConfig_kept :
    KeptCmd cDrvConfig := by
  constructor
  all_goals (unfold cDrvConfig)
  repeat' first
    | with_reducible assumption | intro _ | with_reducible apply State.outConfig_kept | with_reducible apply Kept.ite
    | split | dsimp only | with_reducible refine Kept.put ?_ rfl rfl rfl rfl rfl rfl rfl rfl rfl rfl

theorem State.memUnmapped_kept {s0 : State} (s : State) (h : Kept s0 s) :
    Kept s0 (State.memUnmapped s) := by
  unfold State.memUnmapped
  repeat' first
    | with_reducible assumption | intro _ | with_reducible apply State.bump_kept
    | with_reducible apply State.flag_kept | with_reducible apply Kept.ite | split | dsimp only
    | with_reducible refine Kept.put ?_ rfl rfl rfl rfl rfl rfl rfl rfl rfl rfl

theorem rejCopy_kept {s0 : State} (s : State) (p : Pkt) (f : Fail) (h : Kept s0 s) :
    Kept s0 (rejCopy s p f) := by
  unfold rejCopy
  repeat' first
    | with_reducible assumption | intro _ | with_reducible apply State.memUnmapped_kept
    | with_reducible apply Kept.ite | split | dsimp only
    | with_reducible refine Kept.put ?_ rfl rfl rfl rfl rfl rfl rfl rfl rfl rfl

theorem cMemRead_kept :
    KeptCmd cMemRead := by
  constructor
  all_goals (unfold cMemRead)
  repeat' first
    | with_reducible assumption | intro _ | with_reducible apply rejCopy_kept
    | with_reducible apply State.ddrIssue_kept | with_reducible apply State.succeed_kept
    | with_reducible apply State.hostWrite_kept | with_reducible apply State.finish_kept
    | with_reducible apply State.memBad_kept | with_reducible apply Kept.ite | split | dsimp only
    | with_reducible refine Kept.put ?_ rfl rfl rfl rfl rfl rfl rfl rfl rfl rfl

theorem cAcqGroupSet_kept :
    KeptCmd cAcqGroupSet := by
  constructor
  all_goals (unfold cAcqGroupSet)
  repeat' first
    | with_reducible assumption | intro _ | with_reducible apply State.succeed_kept
    | with_reducible apply State.putImgs_kept | with_reducible apply Kept.ite | split | dsimp only
    | with_reducible refine Kept.put ?_ rfl rfl rfl rfl rfl rfl rfl rfl rfl rfl

theorem bstCmd_kept (op n : Nat) (bad : State → Pkt → Option Nat) (chk : State → Pkt → Option Fail)
    (run : State → Pkt → State) (hr : ∀ s0 s p, Kept s0 s → Kept s0 (run s p)) : KeptCmd (bstCmd op n bad chk run) :=
  ⟨hr, fun _ _ _ _ h => h⟩

theorem State.windowUse_kept {s0 : State} (s : State) (g : Nat) (i : Nat) (h : Kept s0 s) :
    Kept s0 (State.windowUse s g i) := by
  unfold State.windowUse
  repeat' first
    | with_reducible assumption | intro _ | with_reducible apply State.setSq_kept | with_reducible apply Kept.ite
    | split | dsimp only | with_reducible refine Kept.put ?_ rfl rfl rfl rfl rfl rfl rfl rfl rfl rfl

theorem State.turnStep_kept {s0 : State} (s : State) (g : Nat) (h : Kept s0 s) :
    Kept s0 (State.turnStep s g) := by
  unfold State.turnStep
  repeat' first
    | with_reducible assumption | intro _ | with_reducible apply State.setSp_kept
    | with_reducible apply State.sliceBegin_kept | with_reducible apply State.settle_kept
    | with_reducible apply State.setSlice_kept | with_reducible apply State.setSl_kept
    | with_reducible apply State.spareGo_kept | with_reducible apply State.windowUse_kept
    | with_reducible apply State.spareReturn_kept | with_reducible apply Kept.ite | split | dsimp only
    | with_reducible refine Kept.put ?_ rfl rfl rfl rfl rfl rfl rfl rfl rfl rfl

theorem State.turnWait_kept {s0 : State} (s : State) (g : Nat) (m : Nat) (owed : Option (Nat × Nat)) (h : Kept s0 s) :
    Kept s0 (State.turnWait s g m owed) := by
  unfold State.turnWait
  repeat' first
    | with_reducible assumption | intro _ | with_reducible apply State.turnStep_kept
    | with_reducible apply State.setSl_kept | with_reducible apply State.setSlice_kept | with_reducible apply Kept.ite
    | split | dsimp only | with_reducible refine Kept.put ?_ rfl rfl rfl rfl rfl rfl rfl rfl rfl rfl

theorem State.sliceCmd_kept {s0 : State} (s : State) (p : Pkt) (h : Kept s0 s) :
    Kept s0 (State.sliceCmd s p) := by
  unfold State.sliceCmd
  repeat' first
    | with_reducible assumption | intro _ | with_reducible apply State.setSp_kept
    | with_reducible apply State.sliceBegin_kept | with_reducible apply State.setSlice_kept
    | with_reducible apply State.turnWait_kept | with_reducible apply Kept.ite | split | dsimp only
    | with_reducible refine Kept.put ?_ rfl rfl rfl rfl rfl rfl rfl rfl rfl rfl

theorem cBstSliceTest_kept : KeptCmd cBstSliceTest :=
  bstCmd_kept _ _ _ _ _ (fun _ _ _ h => State.sliceCmd_kept _ _ h)

theorem cMonCommonSet_kept :
    KeptCmd cMonCommonSet := by
  constructor
  all_goals (unfold cMonCommonSet)
  repeat' first
    | with_reducible assumption | intro _ | with_reducible apply State.putImgs_kept
    | with_reducible apply State.succeed_kept | with_reducible apply Kept.ite | split | dsimp only
    | with_reducible refine Kept.put ?_ rfl rfl rfl rfl rfl rfl rfl rfl rfl rfl

theorem cIntSrcSet_kept :
    KeptCmd cIntSrcSet := by
  constructor
  all_goals (unfold cIntSrcSet)
  repeat' first
    | with_reducible assumption | intro _ | with_reducible apply State.succeed_kept
    | with_reducible apply State.putImgs_kept | with_reducible apply Kept.ite | split | dsimp only
    | with_reducible refine Kept.put ?_ rfl rfl rfl rfl rfl rfl rfl rfl rfl rfl

theorem cPartArm_kept :
    KeptCmd cPartArm := by
  constructor
  all_goals (unfold cPartArm)
  repeat' first
    | with_reducible assumption | intro _ | with_reducible apply State.arm_kept
    | with_reducible apply State.putImgs_kept | with_reducible apply Kept.ite | split | dsimp only
    | with_reducible refine Kept.put ?_ rfl rfl rfl rfl rfl rfl rfl rfl rfl rfl

theorem cHrtIdentify_kept :
    KeptCmd cHrtIdentify := by
  constructor
  all_goals (unfold cHrtIdentify)
  repeat' first
    | with_reducible assumption | intro _ | with_reducible apply State.succeed_kept | with_reducible apply Kept.ite
    | split | dsimp only | with_reducible refine Kept.put ?_ rfl rfl rfl rfl rfl rfl rfl rfl rfl rfl

theorem cSecAttest_kept :
    KeptCmd cSecAttest := by
  constructor
  all_goals (unfold cSecAttest)
  repeat' first
    | with_reducible assumption | intro _ | with_reducible apply State.attest_kept | with_reducible apply Kept.ite
    | split | dsimp only | with_reducible refine Kept.put ?_ rfl rfl rfl rfl rfl rfl rfl rfl rfl rfl

theorem State.turnStop_kept {s0 : State} (s : State) (g : Nat) (h : Kept s0 s) :
    Kept s0 (State.turnStop s g) := by
  unfold State.turnStop
  repeat' first
    | with_reducible assumption | intro _ | with_reducible apply State.settle_kept
    | with_reducible apply State.setSlice_kept | with_reducible apply State.setSl_kept
    | with_reducible apply State.setSpare_kept | with_reducible apply State.sliceAbandon_kept
    | with_reducible apply State.sliceBegin_kept | with_reducible apply State.setSp_kept
    | with_reducible apply State.turnStep_kept | with_reducible apply Kept.ite | split | dsimp only
    | with_reducible refine Kept.put ?_ rfl rfl rfl rfl rfl rfl rfl rfl rfl rfl

theorem cBstStop_kept :
    KeptCmd cBstStop := by
  constructor
  all_goals (unfold cBstStop)
  repeat' first
    | with_reducible assumption | intro _ | with_reducible apply forEach_kept
    | with_reducible apply State.succeed_kept | with_reducible apply State.turnStop_kept
    | with_reducible apply Kept.ite | split | dsimp only
    | with_reducible refine Kept.put ?_ rfl rfl rfl rfl rfl rfl rfl rfl rfl rfl

theorem cRdoSpareRelease_kept :
    KeptCmd cRdoSpareRelease := by
  constructor
  all_goals (unfold cRdoSpareRelease)
  repeat' first
    | with_reducible assumption | intro _ | with_reducible apply rejSpare_kept
    | with_reducible apply State.spareReturn_kept | with_reducible apply Kept.ite | split | dsimp only
    | with_reducible refine Kept.put ?_ rfl rfl rfl rfl rfl rfl rfl rfl rfl rfl

theorem cBiasQueueStop_kept :
    KeptCmd cBiasQueueStop := by
  constructor
  all_goals (unfold cBiasQueueStop)
  repeat' first
    | with_reducible assumption | intro _ | with_reducible apply forEach_kept
    | with_reducible apply State.succeed_kept | with_reducible apply State.biasFlush_kept
    | with_reducible apply State.biasClockStop_kept | with_reducible apply Kept.ite | split | dsimp only
    | with_reducible refine Kept.put ?_ rfl rfl rfl rfl rfl rfl rfl rfl rfl rfl

theorem cBstConfig_kept : KeptCmd cBstConfig :=
  bstCmd_kept _ _ _ _ _ (fun _ _ _ h => State.succeed_kept _ _ _ (State.putImg_kept _ _ _ h))

theorem cBstAnalogRun_kept :
    KeptCmd cBstAnalogRun := by
  constructor
  all_goals (unfold cBstAnalogRun)
  repeat' first
    | with_reducible assumption | intro _ | with_reducible apply State.fresh_kept
    | with_reducible apply State.succeed_kept | with_reducible apply State.checkJudge_kept
    | with_reducible apply Kept.ite | split | dsimp only
    | with_reducible refine Kept.put ?_ rfl rfl rfl rfl rfl rfl rfl rfl rfl rfl

theorem cFlxSpareSwap_kept :
    KeptCmd cFlxSpareSwap := by
  constructor
  all_goals (unfold cFlxSpareSwap)
  repeat' first
    | with_reducible assumption | intro _ | with_reducible apply rejSpare_kept
    | with_reducible apply State.spareGo_kept | with_reducible apply Kept.ite | split | dsimp only
    | with_reducible refine Kept.put ?_ rfl rfl rfl rfl rfl rfl rfl rfl rfl rfl

theorem State.secEvent_kept {s0 : State} (s : State) (code : Nat) (typ : Nat) (ver : Nat) (h : Kept s0 s) :
    Kept s0 (State.secEvent s code typ ver) := by
  unfold State.secEvent
  repeat' first
    | with_reducible assumption | intro _ | with_reducible apply State.logIt_kept | with_reducible apply Kept.ite
    | split | dsimp only | with_reducible refine Kept.put ?_ rfl rfl rfl rfl rfl rfl rfl rfl rfl rfl

theorem State.fuseBurn_kept {s0 : State} (s : State) (field : Nat) (b : List Byte) (ok : Bool) (h : Kept s0 s) :
    Kept s0 (State.fuseBurn s field b ok) := by
  unfold State.fuseBurn
  refine State.secEvent_kept _ _ _ _ ?_
  split
  · refine h.change id id id (fun g x => ⟨x.1, ?_⟩) id id rfl rfl (fun _ => rfl)
    exact x.2.trans { Fuses.Le.refl s.burned with pmaps := List.prefix_append _ _ }
  · refine h.change id id id (fun g x => ⟨x.1, ?_⟩) id id rfl rfl (fun _ => rfl)
    exact x.2.trans { Fuses.Le.refl s.burned with evmaps := List.prefix_append _ _ }
  · exact Kept.ite (State.burn_kept _ _ (fun g => { Fuses.Le.refl g with cust := fun _ => rfl }) h) h
  · exact Kept.ite (State.burn_kept _ _ (fun g => { Fuses.Le.refl g with req := fun _ => rfl }) h) h

theorem State.fuseProgram_kept {s0 : State} (s : State) (p : Pkt) (b : List Byte) (h : Kept s0 s) :
    Kept s0 (State.fuseProgram s p b) := by
  unfold State.fuseProgram
  repeat' first
    | with_reducible assumption | intro _ | with_reducible apply State.finish_kept
    | with_reducible apply State.fresh_kept | with_reducible apply State.succeed_kept
    | with_reducible apply State.fuseBurn_kept | with_reducible apply State.flag_kept | with_reducible apply Kept.ite
    | split | dsimp only | with_reducible refine Kept.put ?_ rfl rfl rfl rfl rfl rfl rfl rfl rfl rfl

theorem cSecFuseProgram_kept :
    KeptCmd cSecFuseProgram := by
  constructor
  all_goals (unfold cSecFuseProgram)
  repeat' first
    | with_reducible assumption | intro _ | with_reducible apply State.fuseProgram_kept
    | with_reducible apply State.hostFail_kept | with_reducible apply Kept.ite | split | dsimp only
    | with_reducible refine Kept.put ?_ rfl rfl rfl rfl rfl rfl rfl rfl rfl rfl

theorem cFlxGainSet_kept :
    KeptCmd cFlxGainSet := by
  constructor
  all_goals (unfold cFlxGainSet)
  repeat' first
    | with_reducible assumption | intro _ | with_reducible apply State.succeed_kept
    | with_reducible apply State.putImg_kept | with_reducible apply Kept.ite | split | dsimp only
    | with_reducible refine Kept.put ?_ rfl rfl rfl rfl rfl rfl rfl rfl rfl rfl

theorem State.marchStart_kept {s0 : State} (s : State) (w : Word) (first : Nat) (count : Nat) (owed : Option (Nat × Nat)) (h : Kept s0 s) :
    Kept s0 (State.marchStart s w first count owed) := by
  unfold State.marchStart
  repeat' first
    | with_reducible assumption | intro _ | with_reducible apply foldl_kept | with_reducible apply State.p_kept
    | with_reducible apply State.flag_kept | with_reducible apply State.setReg_kept | with_reducible apply Kept.ite
    | split | dsimp only | with_reducible refine Kept.put ?_ rfl rfl rfl rfl rfl rfl rfl rfl rfl rfl

theorem cMemMarch_kept :
    KeptCmd cMemMarch := by
  constructor
  all_goals (unfold cMemMarch)
  repeat' first
    | with_reducible assumption | intro _ | with_reducible apply State.putImgs_kept
    | with_reducible apply State.finish_kept | with_reducible apply State.marchStart_kept
    | with_reducible apply Kept.ite | split | dsimp only
    | with_reducible refine Kept.put ?_ rfl rfl rfl rfl rfl rfl rfl rfl rfl rfl

theorem cDecGatherSet_kept :
    KeptCmd cDecGatherSet := by
  constructor
  all_goals (unfold cDecGatherSet)
  repeat' first
    | with_reducible assumption | intro _ | with_reducible apply State.succeed_kept
    | with_reducible apply State.putImgs_kept | with_reducible apply Kept.ite | split | dsimp only
    | with_reducible refine Kept.put ?_ rfl rfl rfl rfl rfl rfl rfl rfl rfl rfl

theorem cBstProofRead_kept : KeptCmd cBstProofRead :=
  bstCmd_kept _ _ _ _ _ (fun _ _ _ h => State.succeed_kept _ _ _ (State.hostWrite_kept _ _ _ h))

theorem State.handStart_kept {s0 : State} (s : State) (who : Option (Nat × Nat)) (h : Kept s0 s) :
    Kept s0 (State.handStart s who) := by
  unfold State.handStart
  repeat' first
    | with_reducible assumption | intro _ | with_reducible apply State.mirror_kept
    | with_reducible apply State.handDue_kept | with_reducible apply Kept.ite | split | dsimp only
    | with_reducible refine Kept.put ?_ rfl rfl rfl rfl rfl rfl rfl rfl rfl rfl

theorem cFabTwinHandover_kept :
    KeptCmd cFabTwinHandover := by
  constructor
  all_goals (unfold cFabTwinHandover)
  repeat' first
    | with_reducible assumption | intro _ | with_reducible apply State.handStart_kept | with_reducible apply Kept.ite
    | split | dsimp only | with_reducible refine Kept.put ?_ rfl rfl rfl rfl rfl rfl rfl rfl rfl rfl

theorem State.patchIn_kept {s0 : State} (s : State) (im : Image) (h : Kept s0 s) :
    Kept s0 (State.patchIn s im) := by
  unfold State.patchIn
  repeat' first
    | with_reducible assumption | intro _ | with_reducible apply forEach_kept | with_reducible apply foldl_kept
    | with_reducible apply State.setReg_kept | with_reducible apply State.p_kept | with_reducible apply Kept.ite
    | split | dsimp only | with_reducible refine Kept.put ?_ rfl rfl rfl rfl rfl rfl rfl rfl rfl rfl

theorem State.tryQuiesce_kept {s0 : State} (s : State) (h : Kept s0 s) :
    Kept s0 (State.tryQuiesce s) := by
  unfold State.tryQuiesce
  repeat' first
    | with_reducible assumption | intro _ | with_reducible apply State.p_kept
    | with_reducible apply State.patchOff_kept | with_reducible apply State.patchIn_kept
    | with_reducible apply State.settle_kept | with_reducible apply Kept.ite | split | dsimp only
    | with_reducible refine Kept.put ?_ rfl rfl rfl rfl rfl rfl rfl rfl rfl rfl

theorem cHrtPatchClear_kept :
    KeptCmd cHrtPatchClear := by
  constructor
  all_goals (unfold cHrtPatchClear)
  repeat' first
    | with_reducible assumption | intro _ | with_reducible apply State.tryQuiesce_kept | with_reducible apply Kept.ite
    | split | dsimp only | with_reducible refine Kept.put ?_ rfl rfl rfl rfl rfl rfl rfl rfl rfl rfl

theorem State.saveSettings_kept {s0 : State} (s : State) (h : Kept s0 s) :
    Kept s0 (State.saveSettings s) := by
  unfold State.saveSettings
  repeat' first
    | with_reducible assumption | intro _ | with_reducible apply State.bump_kept | with_reducible apply Kept.ite
    | split | dsimp only | with_reducible refine Kept.put ?_ rfl rfl rfl rfl rfl rfl rfl rfl rfl rfl

theorem cPwrSettingsSave_kept :
    KeptCmd cPwrSettingsSave := by
  constructor
  all_goals (unfold cPwrSettingsSave)
  repeat' first
    | with_reducible assumption | intro _ | with_reducible apply State.succeed_kept
    | with_reducible apply State.saveSettings_kept | with_reducible apply Kept.ite | split | dsimp only
    | with_reducible refine Kept.put ?_ rfl rfl rfl rfl rfl rfl rfl rfl rfl rfl

theorem cFabDiscover_kept :
    KeptCmd cFabDiscover := by
  constructor
  all_goals (unfold cFabDiscover)
  repeat' first
    | with_reducible assumption | intro _ | with_reducible apply State.discover_kept | with_reducible apply Kept.ite
    | split | dsimp only | with_reducible refine Kept.put ?_ rfl rfl rfl rfl rfl rfl rfl rfl rfl rfl

theorem cFltSafe_kept :
    KeptCmd cFltSafe := by
  constructor
  all_goals (unfold cFltSafe)
  repeat' first
    | with_reducible assumption | intro _ | with_reducible apply State.succeed_kept
    | with_reducible apply State.raiseSafe_kept | with_reducible apply Kept.ite | split | dsimp only
    | with_reducible refine Kept.put ?_ rfl rfl rfl rfl rfl rfl rfl rfl rfl rfl

theorem cBiasConfig_kept :
    KeptCmd cBiasConfig := by
  constructor
  all_goals (unfold cBiasConfig)
  repeat' first
    | with_reducible assumption | intro _ | with_reducible apply State.p_kept
    | with_reducible apply State.biasSlewSet_kept | with_reducible apply State.putImg_kept
    | with_reducible apply State.biasCtrl_kept | with_reducible apply State.biasOwe_kept
    | with_reducible apply Kept.ite | split | dsimp only
    | with_reducible refine Kept.put ?_ rfl rfl rfl rfl rfl rfl rfl rfl rfl rfl

theorem State.lcAdvance_kept {s0 : State} (s : State) (v : Nat) (h : Kept s0 s) : Kept s0 (State.lcAdvance s v) := by
  unfold State.lcAdvance
  have hb := State.secEvent_kept _ 6 0 0 (State.burn_kept s
    (fun f => { f with lifecycle := f.lifecycle ||| v, secretBlown := f.secretBlown || v = 7 })
    (fun g => { Fuses.Le.refl g with
      life := fun i e => by simp [Nat.testBit_or, e]
      secret := fun e => by simp [e] }) h)
  refine Kept.ite hb (State.settleAll_kept _ _ _ _ ?_)
  exact (State.clearSecrets_kept _ hb).upd rfl rfl rfl rfl rfl rfl rfl rfl rfl rfl

theorem cSecLcAdvance_kept :
    KeptCmd cSecLcAdvance := by
  constructor
  all_goals (unfold cSecLcAdvance)
  repeat' first
    | with_reducible assumption | intro _ | with_reducible apply State.succeed_kept
    | with_reducible apply State.lcAdvance_kept | with_reducible apply Kept.ite | split | dsimp only
    | with_reducible refine Kept.put ?_ rfl rfl rfl rfl rfl rfl rfl rfl rfl rfl

theorem cTimeWallRelock_kept :
    KeptCmd cTimeWallRelock := by
  constructor
  all_goals (unfold cTimeWallRelock)
  repeat' first
    | with_reducible assumption | intro _ | with_reducible apply State.succeed_kept | with_reducible apply Kept.ite
    | split | dsimp only | with_reducible refine Kept.put ?_ rfl rfl rfl rfl rfl rfl rfl rfl rfl rfl

theorem cEvrPubStage_kept :
    KeptCmd cEvrPubStage := by
  constructor
  all_goals (unfold cEvrPubStage)
  repeat' first
    | with_reducible assumption | intro _ | with_reducible apply State.succeed_kept
    | with_reducible apply State.putImg_kept | with_reducible apply Kept.ite | split | dsimp only
    | with_reducible refine Kept.put ?_ rfl rfl rfl rfl rfl rfl rfl rfl rfl rfl

theorem cDecTableClear_kept :
    KeptCmd cDecTableClear := by
  constructor
  all_goals (unfold cDecTableClear)
  repeat' first
    | with_reducible assumption | intro _ | with_reducible apply State.succeed_kept | with_reducible apply Kept.ite
    | split | dsimp only | with_reducible refine Kept.put ?_ rfl rfl rfl rfl rfl rfl rfl rfl rfl rfl

theorem cFabPartNodesSet_kept :
    KeptCmd cFabPartNodesSet := by
  constructor
  all_goals (unfold cFabPartNodesSet)
  repeat' first
    | with_reducible assumption | intro _ | with_reducible apply State.succeed_kept
    | with_reducible apply State.p64_kept | with_reducible apply Kept.ite | split | dsimp only
    | with_reducible refine Kept.put ?_ rfl rfl rfl rfl rfl rfl rfl rfl rfl rfl

theorem State.logClear_kept {s0 : State} (s : State) (h : Kept s0 s) : Kept s0 (State.logClear s) :=
  State.logIt_kept _ _ _ _ _ (State.unflag_kept _ _ _
    (h.change id id id (fun _ => id) (fun _ => Nat.zero_le _) id rfl rfl (fun _ => rfl)))

theorem cLogClear_kept :
    KeptCmd cLogClear := by
  constructor
  all_goals (unfold cLogClear)
  repeat' first
    | with_reducible assumption | intro _ | with_reducible apply State.succeed_kept
    | with_reducible apply State.logClear_kept | with_reducible apply Kept.ite | split | dsimp only
    | with_reducible refine Kept.put ?_ rfl rfl rfl rfl rfl rfl rfl rfl rfl rfl

theorem cAcqFetch_kept :
    KeptCmd cAcqFetch := by
  constructor
  all_goals (unfold cAcqFetch)
  repeat' first
    | with_reducible assumption | intro _ | with_reducible apply State.succeed_kept
    | with_reducible apply State.hostWrite_kept | with_reducible apply Kept.ite | split | dsimp only
    | with_reducible refine Kept.put ?_ rfl rfl rfl rfl rfl rfl rfl rfl rfl rfl

theorem cMemRankRetire_kept :
    KeptCmd cMemRankRetire := by
  constructor
  all_goals (unfold cMemRankRetire)
  repeat' first
    | with_reducible assumption | intro _ | with_reducible apply State.succeed_kept
    | with_reducible apply State.rankRetire_kept | with_reducible apply Kept.ite | split | dsimp only
    | with_reducible refine Kept.put ?_ rfl rfl rfl rfl rfl rfl rfl rfl rfl rfl

theorem cEvrPublish_kept :
    KeptCmd cEvrPublish := by
  constructor
  all_goals (unfold cEvrPublish)
  repeat' first
    | with_reducible assumption | intro _ | with_reducible apply State.succeed_kept
    | with_reducible apply State.publish_kept | with_reducible apply Kept.ite | split | dsimp only
    | with_reducible refine Kept.put ?_ rfl rfl rfl rfl rfl rfl rfl rfl rfl rfl

theorem cNop_kept :
    KeptCmd cNop := by
  constructor
  all_goals (unfold cNop)
  repeat' first
    | with_reducible assumption | intro _ | with_reducible apply State.succeed_kept | with_reducible apply Kept.ite
    | split | dsimp only | with_reducible refine Kept.put ?_ rfl rfl rfl rfl rfl rfl rfl rfl rfl rfl

theorem cBiasQueueLoad_kept :
    KeptCmd cBiasQueueLoad := by
  constructor
  all_goals (unfold cBiasQueueLoad)
  repeat' first
    | with_reducible assumption | intro _ | with_reducible apply foldl_kept | with_reducible apply State.succeed_kept
    | with_reducible apply State.biasWrite_kept | with_reducible apply Kept.ite | split | dsimp only
    | with_reducible refine Kept.put ?_ rfl rfl rfl rfl rfl rfl rfl rfl rfl rfl

theorem cSeqMarkerMap_kept :
    KeptCmd cSeqMarkerMap := by
  constructor
  all_goals (unfold cSeqMarkerMap)
  repeat' first
    | with_reducible assumption | intro _ | with_reducible apply State.succeed_kept
    | with_reducible apply State.putImg_kept | with_reducible apply Kept.ite | split | dsimp only
    | with_reducible refine Kept.put ?_ rfl rfl rfl rfl rfl rfl rfl rfl rfl rfl

theorem cMonTdacSet_kept :
    KeptCmd cMonTdacSet := by
  constructor
  all_goals (unfold cMonTdacSet)
  repeat' first
    | with_reducible assumption | intro _ | with_reducible apply State.succeed_kept
    | with_reducible apply State.putImg_kept | with_reducible apply Kept.ite | split | dsimp only
    | with_reducible refine Kept.put ?_ rfl rfl rfl rfl rfl rfl rfl rfl rfl rfl

theorem cTimeAlign_kept :
    KeptCmd cTimeAlign := by
  constructor
  all_goals (unfold cTimeAlign)
  repeat' first
    | with_reducible assumption | intro _ | with_reducible apply State.alignStart_kept | with_reducible apply Kept.ite
    | split | dsimp only | with_reducible refine Kept.put ?_ rfl rfl rfl rfl rfl rfl rfl rfl rfl rfl

theorem State.safeExitGo_kept {s0 : State} (s : State) (who : Option (Nat × Nat)) (h : Kept s0 s) :
    Kept s0 (State.safeExitGo s who) := by
  unfold State.safeExitGo
  repeat' first
    | with_reducible assumption | intro _ | with_reducible apply State.clearPending_kept
    | with_reducible apply State.wakeSteps_kept | with_reducible apply State.flxAllUp_kept
    | with_reducible apply State.convUp_kept | with_reducible apply State.alignStart_kept
    | with_reducible apply State.exitSafe_kept | with_reducible apply Kept.ite | split | dsimp only
    | with_reducible refine Kept.put ?_ rfl rfl rfl rfl rfl rfl rfl rfl rfl rfl

theorem cPwrSafeExit_kept :
    KeptCmd cPwrSafeExit := by
  constructor
  all_goals (unfold cPwrSafeExit)
  repeat' first
    | with_reducible assumption | intro _ | with_reducible apply State.safeExitGo_kept
    | with_reducible apply State.finish_kept | with_reducible apply Kept.ite | split | dsimp only
    | with_reducible refine Kept.put ?_ rfl rfl rfl rfl rfl rfl rfl rfl rfl rfl

theorem cDrvSpareRelease_kept :
    KeptCmd cDrvSpareRelease := by
  constructor
  all_goals (unfold cDrvSpareRelease)
  repeat' first
    | with_reducible assumption | intro _ | with_reducible apply rejSpare_kept
    | with_reducible apply State.spareReturn_kept | with_reducible apply Kept.ite | split | dsimp only
    | with_reducible refine Kept.put ?_ rfl rfl rfl rfl rfl rfl rfl rfl rfl rfl

theorem cRdoAdcConfig_kept :
    KeptCmd cRdoAdcConfig := by
  constructor
  all_goals (unfold cRdoAdcConfig)
  repeat' first
    | with_reducible assumption | intro _ | with_reducible apply State.setEnable_kept
    | with_reducible apply State.finishDark_kept | with_reducible apply Kept.ite | split | dsimp only
    | with_reducible refine Kept.put ?_ rfl rfl rfl rfl rfl rfl rfl rfl rfl rfl

theorem cPwrCapSet_kept : KeptCmd cPwrCapSet := imgCmd_kept _ _ _ (fun _ _ h => State.govern_kept _ h)

theorem cFlxSpareRelease_kept :
    KeptCmd cFlxSpareRelease := by
  constructor
  all_goals (unfold cFlxSpareRelease)
  repeat' first
    | with_reducible assumption | intro _ | with_reducible apply rejSpare_kept
    | with_reducible apply State.spareReturn_kept | with_reducible apply Kept.ite | split | dsimp only
    | with_reducible refine Kept.put ?_ rfl rfl rfl rfl rfl rfl rfl rfl rfl rfl

theorem State.monRef_kept {s0 : State} (s : State) (q : Nat) (sel : Nat) (h : Kept s0 s) :
    Kept s0 (State.monRef s q sel) := by
  unfold State.monRef
  repeat' first
    | with_reducible assumption | intro _ | with_reducible apply State.p_kept | with_reducible apply State.unflag_kept
    | with_reducible apply State.flag_kept | with_reducible apply Kept.ite | split | dsimp only
    | with_reducible refine Kept.put ?_ rfl rfl rfl rfl rfl rfl rfl rfl rfl rfl

theorem cMonRefSet_kept :
    KeptCmd cMonRefSet := by
  constructor
  all_goals (unfold cMonRefSet)
  repeat' first
    | with_reducible assumption | intro _ | with_reducible apply State.finish_kept
    | with_reducible apply State.lockedWrite_kept | with_reducible apply State.monRef_kept
    | with_reducible apply State.succeed_kept | with_reducible apply Kept.ite | split | dsimp only
    | with_reducible refine Kept.put ?_ rfl rfl rfl rfl rfl rfl rfl rfl rfl rfl

theorem cAcqConfig_kept :
    KeptCmd cAcqConfig := by
  constructor
  all_goals (unfold cAcqConfig)
  repeat' first
    | with_reducible assumption | intro _ | with_reducible apply State.putImg_kept
    | with_reducible apply State.succeed_kept | with_reducible apply State.putImgs_kept
    | with_reducible apply Kept.ite | split | dsimp only
    | with_reducible refine Kept.put ?_ rfl rfl rfl rfl rfl rfl rfl rfl rfl rfl

theorem cToneSet_kept :
    KeptCmd cToneSet := by
  constructor
  all_goals (unfold cToneSet)
  repeat' first
    | with_reducible assumption | intro _ | with_reducible apply State.succeed_kept
    | with_reducible apply State.putImgs_kept | with_reducible apply Kept.ite | split | dsimp only
    | with_reducible refine Kept.put ?_ rfl rfl rfl rfl rfl rfl rfl rfl rfl rfl

theorem State.imgRefused_kept {s0 : State} (s : State) (t : Nat) (ver : Nat) (status : Nat) (h : Kept s0 s) :
    Kept s0 (State.imgRefused s t ver status) := by
  unfold State.imgRefused
  repeat' first
    | with_reducible assumption | intro _ | with_reducible apply State.bump_kept
    | with_reducible apply State.flag_kept | with_reducible apply State.secEvent_kept | with_reducible apply Kept.ite
    | split | dsimp only | with_reducible refine Kept.put ?_ rfl rfl rfl rfl rfl rfl rfl rfl rfl rfl

theorem State.loadImage_kept {s0 : State} (s : State) (p : Pkt) (t n : Nat) (f : State → Image → State) (h : Kept s0 s)
    (hf : ∀ s i, Kept s0 s → Kept s0 (f s i)) : Kept s0 (State.loadImage s p t n f) := by
  unfold State.loadImage
  split
  · exact State.hostFail_kept _ _ _ h
  · exact Kept.ite (State.finish_kept _ _ _ _ (State.imgRefused_kept _ _ _ _ h)) (hf _ _ h)

theorem cHrtPatchLoad_kept :
    KeptCmd cHrtPatchLoad := by
  constructor
  all_goals (unfold cHrtPatchLoad)
  repeat' first
    | with_reducible assumption | intro _ | with_reducible apply State.loadImage_kept
    | with_reducible apply State.tryQuiesce_kept | with_reducible apply Kept.ite | split | dsimp only
    | with_reducible refine Kept.put ?_ rfl rfl rfl rfl rfl rfl rfl rfl rfl rfl

theorem State.flxSpan_kept {s0 : State} (s : State) (n : Nat) (v : Nat) (h : Kept s0 s) :
    Kept s0 (State.flxSpan s n v) := by
  unfold State.flxSpan
  repeat' first
    | with_reducible assumption | intro _ | with_reducible apply State.flag_kept | with_reducible apply State.p_kept
    | with_reducible apply Kept.ite | split | dsimp only
    | with_reducible refine Kept.put ?_ rfl rfl rfl rfl rfl rfl rfl rfl rfl rfl

theorem State.flxPark_kept {s0 : State} (s : State) (n : Nat) (v : Nat) (h : Kept s0 s) :
    Kept s0 (State.flxPark s n v) := by
  unfold State.flxPark
  repeat' first
    | with_reducible assumption | intro _ | with_reducible apply State.p_kept
    | with_reducible apply State.flxRamp_kept | with_reducible apply Kept.ite | split | dsimp only
    | with_reducible refine Kept.put ?_ rfl rfl rfl rfl rfl rfl rfl rfl rfl rfl

theorem cFlxConfig_kept :
    KeptCmd cFlxConfig := by
  constructor
  all_goals (unfold cFlxConfig)
  repeat' first
    | with_reducible assumption | intro _ | with_reducible apply State.p_kept
    | with_reducible apply State.flxSpan_kept | with_reducible apply State.setEnable_kept
    | with_reducible apply State.putImg_kept | with_reducible apply State.flxPark_kept
    | with_reducible apply State.setFlx_kept | with_reducible apply State.finishDark_kept
    | with_reducible apply Kept.ite | split | dsimp only
    | with_reducible refine Kept.put ?_ rfl rfl rfl rfl rfl rfl rfl rfl rfl rfl

theorem cIntTargetSet_kept :
    KeptCmd cIntTargetSet := by
  constructor
  all_goals (unfold cIntTargetSet)
  repeat' first
    | with_reducible assumption | intro _ | with_reducible apply State.succeed_kept
    | with_reducible apply State.putImgs_kept | with_reducible apply Kept.ite | split | dsimp only
    | with_reducible refine Kept.put ?_ rfl rfl rfl rfl rfl rfl rfl rfl rfl rfl

theorem cMemMapSet_kept :
    KeptCmd cMemMapSet := by
  constructor
  all_goals (unfold cMemMapSet)
  repeat' first
    | with_reducible assumption | intro _ | with_reducible apply State.succeed_kept
    | with_reducible apply State.putImg_kept | with_reducible apply Kept.ite | split | dsimp only
    | with_reducible refine Kept.put ?_ rfl rfl rfl rfl rfl rfl rfl rfl rfl rfl

theorem cRdoSpareSwap_kept :
    KeptCmd cRdoSpareSwap := by
  constructor
  all_goals (unfold cRdoSpareSwap)
  repeat' first
    | with_reducible assumption | intro _ | with_reducible apply rejSpare_kept
    | with_reducible apply State.spareGo_kept | with_reducible apply Kept.ite | split | dsimp only
    | with_reducible refine Kept.put ?_ rfl rfl rfl rfl rfl rfl rfl rfl rfl rfl

theorem cAcqKConfig_kept :
    KeptCmd cAcqKConfig := by
  constructor
  all_goals (unfold cAcqKConfig)
  repeat' first
    | with_reducible assumption | intro _ | with_reducible apply State.succeed_kept
    | with_reducible apply State.putImg_kept | with_reducible apply Kept.ite | split | dsimp only
    | with_reducible refine Kept.put ?_ rfl rfl rfl rfl rfl rfl rfl rfl rfl rfl

theorem State.fwWrite_kept {s0 : State} (s : State) (im : Image) (h : Kept s0 s) :
    Kept s0 (State.fwWrite s im) := by
  unfold State.fwWrite
  repeat' first
    | with_reducible assumption | intro _ | with_reducible apply State.flag_kept
    | with_reducible apply State.unflag_kept | with_reducible apply Kept.ite | split | dsimp only
    | with_reducible refine Kept.put ?_ rfl rfl rfl rfl rfl rfl rfl rfl rfl rfl

theorem cSecFwUpdate_kept :
    KeptCmd cSecFwUpdate := by
  constructor
  all_goals (unfold cSecFwUpdate)
  repeat' first
    | with_reducible assumption | intro _ | with_reducible apply State.loadImage_kept
    | with_reducible apply State.succeed_kept | with_reducible apply State.fwWrite_kept
    | with_reducible apply Kept.ite | split | dsimp only
    | with_reducible refine Kept.put ?_ rfl rfl rfl rfl rfl rfl rfl rfl rfl rfl

theorem cAcqArm_kept :
    KeptCmd cAcqArm := by
  constructor
  all_goals (unfold cAcqArm)
  repeat' first
    | with_reducible assumption | intro _ | with_reducible apply State.cuArm_kept | with_reducible apply Kept.ite
    | split | dsimp only | with_reducible refine Kept.put ?_ rfl rfl rfl rfl rfl rfl rfl rfl rfl rfl

theorem cMonStop_kept :
    KeptCmd cMonStop := by
  constructor
  all_goals (unfold cMonStop)
  repeat' first
    | with_reducible assumption | intro _ | with_reducible apply forEach_kept
    | with_reducible apply State.succeed_kept | with_reducible apply State.monStop_kept
    | with_reducible apply Kept.ite | split | dsimp only
    | with_reducible refine Kept.put ?_ rfl rfl rfl rfl rfl rfl rfl rfl rfl rfl

theorem cEvrCommit_kept :
    KeptCmd cEvrCommit := by
  constructor
  all_goals (unfold cEvrCommit)
  repeat' first
    | with_reducible assumption | intro _ | with_reducible apply State.evrCommit_kept
    | with_reducible apply State.finish_kept | with_reducible apply Kept.ite | split | dsimp only
    | with_reducible refine Kept.put ?_ rfl rfl rfl rfl rfl rfl rfl rfl rfl rfl

theorem cMemHintSet_kept :
    KeptCmd cMemHintSet := by
  constructor
  all_goals (unfold cMemHintSet)
  repeat' first
    | with_reducible assumption | intro _ | with_reducible apply State.succeed_kept
    | with_reducible apply State.putImg_kept | with_reducible apply Kept.ite | split | dsimp only
    | with_reducible refine Kept.put ?_ rfl rfl rfl rfl rfl rfl rfl rfl rfl rfl

theorem cDecRouteSet_kept :
    KeptCmd cDecRouteSet := by
  constructor
  all_goals (unfold cDecRouteSet)
  repeat' first
    | with_reducible assumption | intro _ | with_reducible apply State.succeed_kept
    | with_reducible apply State.putImgs_kept | with_reducible apply Kept.ite | split | dsimp only
    | with_reducible refine Kept.put ?_ rfl rfl rfl rfl rfl rfl rfl rfl rfl rfl

theorem cDecDecoderSet_kept :
    KeptCmd cDecDecoderSet := by
  constructor
  all_goals (unfold cDecDecoderSet)
  repeat' first
    | with_reducible assumption | intro _ | with_reducible apply State.succeed_kept
    | with_reducible apply State.putImg_kept | with_reducible apply Kept.ite | split | dsimp only
    | with_reducible refine Kept.put ?_ rfl rfl rfl rfl rfl rfl rfl rfl rfl rfl

theorem cEvrCellStage_kept :
    KeptCmd cEvrCellStage := by
  constructor
  all_goals (unfold cEvrCellStage)
  repeat' first
    | with_reducible assumption | intro _ | with_reducible apply State.succeed_kept
    | with_reducible apply State.putImgs_kept | with_reducible apply Kept.ite | split | dsimp only
    | with_reducible refine Kept.put ?_ rfl rfl rfl rfl rfl rfl rfl rfl rfl rfl

theorem State.tripClear_kept {s0 : State} (s : State) (n : Nat) (h : Kept s0 s) :
    Kept s0 (State.tripClear s n) := by
  unfold State.tripClear
  repeat' first
    | with_reducible assumption | intro _ | with_reducible apply State.unflag_kept | with_reducible apply Kept.ite
    | split | dsimp only | with_reducible refine Kept.put ?_ rfl rfl rfl rfl rfl rfl rfl rfl rfl rfl

theorem cDrvTripClear_kept :
    KeptCmd cDrvTripClear := by
  constructor
  all_goals (unfold cDrvTripClear)
  repeat' first
    | with_reducible assumption | intro _ | with_reducible apply State.succeed_kept
    | with_reducible apply State.tripClear_kept | with_reducible apply Kept.ite | split | dsimp only
    | with_reducible refine Kept.put ?_ rfl rfl rfl rfl rfl rfl rfl rfl rfl rfl

theorem cEvrDiscard_kept :
    KeptCmd cEvrDiscard := by
  constructor
  all_goals (unfold cEvrDiscard)
  repeat' first
    | with_reducible assumption | intro _ | with_reducible apply State.succeed_kept
    | with_reducible apply State.evrDiscard_kept | with_reducible apply Kept.ite | split | dsimp only
    | with_reducible refine Kept.put ?_ rfl rfl rfl rfl rfl rfl rfl rfl rfl rfl

theorem State.monSoftStart_kept {s0 : State} (s : State) (m : Nat) (h : Kept s0 s) :
    Kept s0 (State.monSoftStart s m) := by
  unfold State.monSoftStart
  repeat' first
    | with_reducible assumption | intro _ | with_reducible apply State.setMon_kept
    | with_reducible apply State.monStart_kept | with_reducible apply Kept.ite | split | dsimp only
    | with_reducible refine Kept.put ?_ rfl rfl rfl rfl rfl rfl rfl rfl rfl rfl

theorem cMonStart_kept :
    KeptCmd cMonStart := by
  constructor
  all_goals (unfold cMonStart)
  repeat' first
    | with_reducible assumption | intro _ | with_reducible apply forEach_kept
    | with_reducible apply State.succeed_kept | with_reducible apply State.monSoftStart_kept
    | with_reducible apply Kept.ite | split | dsimp only
    | with_reducible refine Kept.put ?_ rfl rfl rfl rfl rfl rfl rfl rfl rfl rfl

theorem cSeqConfig_kept :
    KeptCmd cSeqConfig := by
  constructor
  all_goals (unfold cSeqConfig)
  repeat' first
    | with_reducible assumption | intro _ | with_reducible apply State.succeed_kept
    | with_reducible apply State.putImgs_kept | with_reducible apply Kept.ite | split | dsimp only
    | with_reducible refine Kept.put ?_ rfl rfl rfl rfl rfl rfl rfl rfl rfl rfl

theorem cPartAbort_kept :
    KeptCmd cPartAbort := by
  constructor
  all_goals (unfold cPartAbort)
  repeat' first
    | with_reducible assumption | intro _ | with_reducible apply State.succeed_kept
    | with_reducible apply State.partAbort_kept | with_reducible apply Kept.ite | split | dsimp only
    | with_reducible refine Kept.put ?_ rfl rfl rfl rfl rfl rfl rfl rfl rfl rfl

theorem State.propagate_kept {s0 : State} (s : State) (d : Nat) (h : Kept s0 s) :
    Kept s0 (State.propagate s d) := by
  unfold State.propagate
  repeat' first
    | with_reducible assumption | intro _ | with_reducible apply State.linkSend_kept | with_reducible apply Kept.ite
    | split | dsimp only | with_reducible refine Kept.put ?_ rfl rfl rfl rfl rfl rfl rfl rfl rfl rfl

theorem cTimePropagate_kept :
    KeptCmd cTimePropagate := by
  constructor
  all_goals (unfold cTimePropagate)
  repeat' first
    | with_reducible assumption | intro _ | with_reducible apply State.succeed_kept
    | with_reducible apply State.propagate_kept | with_reducible apply Kept.ite | split | dsimp only
    | with_reducible refine Kept.put ?_ rfl rfl rfl rfl rfl rfl rfl rfl rfl rfl

theorem cSeqJump_kept :
    KeptCmd cSeqJump := by
  constructor
  all_goals (unfold cSeqJump)
  repeat' first
    | with_reducible assumption | intro _ | with_reducible apply State.succeed_kept
    | with_reducible apply State.jumpRequest_kept | with_reducible apply Kept.ite | split | dsimp only
    | with_reducible refine Kept.put ?_ rfl rfl rfl rfl rfl rfl rfl rfl rfl rfl

theorem cBiasQueueStart_kept :
    KeptCmd cBiasQueueStart := by
  constructor
  all_goals (unfold cBiasQueueStart)
  repeat' first
    | with_reducible assumption | intro _ | with_reducible apply forEach_kept
    | with_reducible apply State.succeed_kept | with_reducible apply State.biasClockStart_kept
    | with_reducible apply Kept.ite | split | dsimp only
    | with_reducible refine Kept.put ?_ rfl rfl rfl rfl rfl rfl rfl rfl rfl rfl

theorem cMonCommonFire_kept :
    KeptCmd cMonCommonFire := by
  constructor
  all_goals (unfold cMonCommonFire)
  repeat' first
    | with_reducible assumption | intro _ | with_reducible apply State.succeed_kept
    | with_reducible apply State.commonFire_kept | with_reducible apply Kept.ite | split | dsimp only
    | with_reducible refine Kept.put ?_ rfl rfl rfl rfl rfl rfl rfl rfl rfl rfl

theorem cRdoProbeConfig_kept :
    KeptCmd cRdoProbeConfig := by
  constructor
  all_goals (unfold cRdoProbeConfig)
  repeat' first
    | with_reducible assumption | intro _ | with_reducible apply State.outConfig_kept | with_reducible apply Kept.ite
    | split | dsimp only | with_reducible refine Kept.put ?_ rfl rfl rfl rfl rfl rfl rfl rfl rfl rfl

theorem cMemScrubSet_kept :
    KeptCmd cMemScrubSet := by
  constructor
  all_goals (unfold cMemScrubSet)
  repeat' first
    | with_reducible assumption | intro _ | with_reducible apply State.succeed_kept
    | with_reducible apply State.putImg_kept | with_reducible apply Kept.ite | split | dsimp only
    | with_reducible refine Kept.put ?_ rfl rfl rfl rfl rfl rfl rfl rfl rfl rfl

theorem cIntSwi_kept :
    KeptCmd cIntSwi := by
  constructor
  all_goals (unfold cIntSwi)
  repeat' first
    | with_reducible assumption | intro _ | with_reducible apply State.succeed_kept
    | with_reducible apply State.intEdge_kept | with_reducible apply Kept.ite | split | dsimp only
    | with_reducible refine Kept.put ?_ rfl rfl rfl rfl rfl rfl rfl rfl rfl rfl

theorem State.maskWrite_kept {s0 : State} (s : State) (q e : Nat) (l : List Nat) (h : Kept s0 s) :
    Kept s0 (State.maskWrite s q e l) := by
  induction l generalizing s e with
  | nil => exact h
  | cons v l ih => exact ih _ _ (h.upd rfl rfl rfl rfl rfl rfl rfl rfl rfl rfl)

theorem cAcqMaskLoad_kept :
    KeptCmd cAcqMaskLoad := by
  constructor
  all_goals (unfold cAcqMaskLoad)
  repeat' first
    | with_reducible assumption | intro _ | with_reducible apply State.withData_kept
    | with_reducible apply State.maskWrite_kept | with_reducible apply Kept.ite | split | dsimp only
    | with_reducible refine Kept.put ?_ rfl rfl rfl rfl rfl rfl rfl rfl rfl rfl

theorem cSeqVectorSet_kept :
    KeptCmd cSeqVectorSet := by
  constructor
  all_goals (unfold cSeqVectorSet)
  repeat' first
    | with_reducible assumption | intro _ | with_reducible apply State.succeed_kept
    | with_reducible apply State.putImg_kept | with_reducible apply Kept.ite | split | dsimp only
    | with_reducible refine Kept.put ?_ rfl rfl rfl rfl rfl rfl rfl rfl rfl rfl

theorem State.logicStart_kept {s0 : State} (s : State) (ds : List Nat) (why : Nat) (owed : Option (Nat × Nat)) (h : Kept s0 s) :
    Kept s0 (State.logicStart s ds why owed) := by
  unfold State.logicStart
  repeat' first
    | with_reducible assumption | intro _ | with_reducible apply State.flag_kept
    | with_reducible apply State.secEvent_kept | with_reducible apply State.clearSecrets_kept
    | with_reducible apply State.logicFill_kept | with_reducible apply Kept.ite | split | dsimp only
    | with_reducible refine Kept.put ?_ rfl rfl rfl rfl rfl rfl rfl rfl rfl rfl

theorem State.logicCmd_kept {s0 : State} (s : State) (p : Pkt) (h : Kept s0 s) :
    Kept s0 (State.logicCmd s p) := by
  unfold State.logicCmd
  repeat' first
    | with_reducible assumption | intro _ | with_reducible apply forEach_kept
    | with_reducible apply State.succeed_kept | with_reducible apply State.logicStart_kept
    | with_reducible apply State.sliceSafe_kept | with_reducible apply Kept.ite | split | dsimp only
    | with_reducible refine Kept.put ?_ rfl rfl rfl rfl rfl rfl rfl rfl rfl rfl

theorem cBstLogicRun_kept : KeptCmd cBstLogicRun :=
  bstCmd_kept _ _ _ _ _ (fun _ _ _ h => State.logicCmd_kept _ _ h)

theorem State.strTake_kept {s0 : State} (s : State) (u : Nat) (h : Kept s0 s) :
    Kept s0 (State.strTake s u) := by
  unfold State.strTake
  repeat' first
    | with_reducible assumption | intro _ | with_reducible apply State.unflag_kept | with_reducible apply State.p_kept
    | with_reducible apply State.setCu_kept | with_reducible apply Kept.ite | split | dsimp only
    | with_reducible refine Kept.put ?_ rfl rfl rfl rfl rfl rfl rfl rfl rfl rfl

theorem State.strRestart_kept {s0 : State} (s : State) (u : Nat) (h : Kept s0 s) :
    Kept s0 (State.strRestart s u) := by
  unfold State.strRestart
  repeat' first
    | with_reducible assumption | intro _ | with_reducible apply State.strTake_kept
    | with_reducible apply State.p_kept | with_reducible apply Kept.ite | split | dsimp only
    | with_reducible refine Kept.put ?_ rfl rfl rfl rfl rfl rfl rfl rfl rfl rfl

theorem State.strBaseSet_kept {s0 : State} (s : State) (u : Nat) (lo : Word) (hi : Word) (en : Nat) (h : Kept s0 s) :
    Kept s0 (State.strBaseSet s u lo hi en) := by
  unfold State.strBaseSet
  repeat' first
    | with_reducible assumption | intro _ | with_reducible apply State.when_kept | with_reducible apply State.p_kept
    | with_reducible apply State.putImg_kept | with_reducible apply State.strRestart_kept
    | with_reducible apply Kept.ite | split | dsimp only
    | with_reducible refine Kept.put ?_ rfl rfl rfl rfl rfl rfl rfl rfl rfl rfl

theorem State.strResize_kept {s0 : State} (s : State) (u : Nat) (n : Nat) (h : Kept s0 s) :
    Kept s0 (State.strResize s u n) := by
  unfold State.strResize
  repeat' first
    | with_reducible assumption | intro _ | with_reducible apply State.unflag_kept | with_reducible apply State.p_kept
    | with_reducible apply State.setCu_kept | with_reducible apply State.flag_kept | with_reducible apply Kept.ite
    | split | dsimp only | with_reducible refine Kept.put ?_ rfl rfl rfl rfl rfl rfl rfl rfl rfl rfl

theorem cStrRingSet_kept :
    KeptCmd cStrRingSet := by
  constructor
  all_goals (unfold cStrRingSet)
  repeat' first
    | with_reducible assumption | intro _ | with_reducible apply State.succeed_kept
    | with_reducible apply State.strBaseSet_kept | with_reducible apply State.strResize_kept
    | with_reducible apply Kept.ite | split | dsimp only
    | with_reducible refine Kept.put ?_ rfl rfl rfl rfl rfl rfl rfl rfl rfl rfl

theorem cMonCalibrate_kept :
    KeptCmd cMonCalibrate := by
  constructor
  all_goals (unfold cMonCalibrate)
  repeat' first
    | with_reducible assumption | intro _ | with_reducible apply State.succeed_kept
    | with_reducible apply State.calStart_kept | with_reducible apply Kept.ite | split | dsimp only
    | with_reducible refine Kept.put ?_ rfl rfl rfl rfl rfl rfl rfl rfl rfl rfl

theorem cFabLinkTrain_kept :
    KeptCmd cFabLinkTrain := by
  constructor
  all_goals (unfold cFabLinkTrain)
  repeat' first
    | with_reducible assumption | intro _ | with_reducible apply forEach_kept
    | with_reducible apply State.setLane_kept | with_reducible apply State.succeed_kept
    | with_reducible apply State.setPort_kept | with_reducible apply Kept.ite | split | dsimp only
    | with_reducible refine Kept.put ?_ rfl rfl rfl rfl rfl rfl rfl rfl rfl rfl

theorem cSecCalLoad_kept :
    KeptCmd cSecCalLoad := by
  constructor
  all_goals (unfold cSecCalLoad)
  repeat' first
    | with_reducible assumption | intro _ | with_reducible apply State.loadImage_kept
    | with_reducible apply State.succeed_kept | with_reducible apply Kept.ite | split | dsimp only
    | with_reducible refine Kept.put ?_ rfl rfl rfl rfl rfl rfl rfl rfl rfl rfl

theorem cFabLaneConfig_kept :
    KeptCmd cFabLaneConfig := by
  constructor
  all_goals (unfold cFabLaneConfig)
  repeat' first
    | with_reducible assumption | intro _ | with_reducible apply State.succeed_kept
    | with_reducible apply State.laneApply_kept | with_reducible apply State.putImg_kept
    | with_reducible apply Kept.ite | split | dsimp only
    | with_reducible refine Kept.put ?_ rfl rfl rfl rfl rfl rfl rfl rfl rfl rfl

theorem State.putEnts_kept {s0 : State} (s : State) (a : Nat) (l : List LogEnt) (h : Kept s0 s) :
    Kept s0 (State.putEnts s a l) := by
  unfold State.putEnts
  repeat' first
    | with_reducible assumption | intro _ | with_reducible apply State.hostWrite_kept | with_reducible apply Kept.ite
    | split | dsimp only | with_reducible refine Kept.put ?_ rfl rfl rfl rfl rfl rfl rfl rfl rfl rfl

end Sys2Proof.Machine
end

