-- ==== Sys2Proof/Laws/KeptE.lean ====
section
/-!
SUPPORT. Laws/KeptE.lean: that the operations of the model keep what Laws/Kept.lean says, one lemma an operation, in the order in
which they build on one another.
-/

namespace Sys2Proof.Machine
open Sys2Proof

theorem cLogNvFetch_kept :
    KeptCmd cLogNvFetch := by
  constructor
  all_goals (unfold cLogNvFetch)
  repeat' first
    | with_reducible assumption | intro _ | with_reducible apply State.succeed_kept
    | with_reducible apply State.putEnts_kept | with_reducible apply Kept.ite | split | dsimp only
    | with_reducible refine Kept.put ?_ rfl rfl rfl rfl rfl rfl rfl rfl rfl rfl

theorem cDrvFrameSet_kept :
    KeptCmd cDrvFrameSet := by
  constructor
  all_goals (unfold cDrvFrameSet)
  repeat' first
    | with_reducible assumption | intro _ | with_reducible apply State.succeed_kept
    | with_reducible apply State.putImgs_kept | with_reducible apply Kept.ite | split | dsimp only
    | with_reducible refine Kept.put ?_ rfl rfl rfl rfl rfl rfl rfl rfl rfl rfl

theorem cMemWrite_kept :
    KeptCmd cMemWrite := by
  constructor
  all_goals (unfold cMemWrite)
  repeat' first
    | with_reducible assumption | intro _ | with_reducible apply rejCopy_kept
    | with_reducible apply State.withData_kept | with_reducible apply State.ddrIssue_kept
    | with_reducible apply State.ddrWrite_kept | with_reducible apply Kept.ite | split | dsimp only
    | with_reducible refine Kept.put ?_ rfl rfl rfl rfl rfl rfl rfl rfl rfl rfl

theorem cFabAddrClear_kept :
    KeptCmd cFabAddrClear := by
  constructor
  all_goals (unfold cFabAddrClear)
  repeat' first
    | with_reducible assumption | intro _ | with_reducible apply State.succeed_kept
    | with_reducible apply State.unflag_kept | with_reducible apply Kept.ite | split | dsimp only
    | with_reducible refine Kept.put ?_ rfl rfl rfl rfl rfl rfl rfl rfl rfl rfl

theorem cPwrShutdown_kept :
    KeptCmd cPwrShutdown := by
  constructor
  all_goals (unfold cPwrShutdown)
  repeat' first
    | with_reducible assumption | intro _ | with_reducible apply State.rampAll_kept | with_reducible apply Kept.ite
    | split | dsimp only | with_reducible refine Kept.put ?_ rfl rfl rfl rfl rfl rfl rfl rfl rfl rfl

theorem cDecTableLoad_kept :
    KeptCmd cDecTableLoad := by
  constructor
  all_goals (unfold cDecTableLoad)
  repeat' first
    | with_reducible assumption | intro _ | with_reducible apply State.finish_kept
    | with_reducible apply State.withData_kept | with_reducible apply State.entryWrite_kept
    | with_reducible apply Kept.ite | split | dsimp only
    | with_reducible refine Kept.put ?_ rfl rfl rfl rfl rfl rfl rfl rfl rfl rfl

theorem State.memWrite_kept {s0 : State} (s : State) (a : Nat) (b : List Byte) (h : Kept s0 s) :
    Kept s0 (State.memWrite s a b) := by
  unfold State.memWrite
  repeat' first
    | with_reducible assumption | intro _ | with_reducible apply State.when_kept
    | with_reducible apply State.memUnmapped_kept | with_reducible apply State.ddrWrite_kept
    | with_reducible apply Kept.ite | split | dsimp only
    | with_reducible refine Kept.put ?_ rfl rfl rfl rfl rfl rfl rfl rfl rfl rfl

theorem cSeqImageLoad_kept :
    KeptCmd cSeqImageLoad := by
  constructor
  all_goals (unfold cSeqImageLoad)
  repeat' first
    | with_reducible assumption | intro _ | with_reducible apply State.withData_kept
    | with_reducible apply State.memWrite_kept | with_reducible apply Kept.ite | split | dsimp only
    | with_reducible refine Kept.put ?_ rfl rfl rfl rfl rfl rfl rfl rfl rfl rfl

theorem State.twinWritten_kept {s0 : State} (s : State) (old : Bool) (h : Kept s0 s) :
    Kept s0 (State.twinWritten s old) := by
  unfold State.twinWritten
  repeat' first
    | with_reducible assumption | intro _ | with_reducible apply State.twinSet_kept
    | with_reducible apply State.unflag_kept | with_reducible apply State.twinPat_kept | with_reducible apply Kept.ite
    | split | dsimp only | with_reducible refine Kept.put ?_ rfl rfl rfl rfl rfl rfl rfl rfl rfl rfl

theorem cFabTwinConfig_kept :
    KeptCmd cFabTwinConfig := by
  constructor
  all_goals (unfold cFabTwinConfig)
  repeat' first
    | with_reducible assumption | intro _ | with_reducible apply State.succeed_kept
    | with_reducible apply State.twinWritten_kept | with_reducible apply State.putImgs_kept
    | with_reducible apply Kept.ite | split | dsimp only
    | with_reducible refine Kept.put ?_ rfl rfl rfl rfl rfl rfl rfl rfl rfl rfl

theorem cTimeAnchor_kept :
    KeptCmd cTimeAnchor := by
  constructor
  all_goals (unfold cTimeAnchor)
  repeat' first
    | with_reducible assumption | intro _ | with_reducible apply State.succeed_kept
    | with_reducible apply State.anchorAccept_kept | with_reducible apply Kept.ite | split | dsimp only
    | with_reducible refine Kept.put ?_ rfl rfl rfl rfl rfl rfl rfl rfl rfl rfl

theorem cRdoTripClear_kept :
    KeptCmd cRdoTripClear := by
  constructor
  all_goals (unfold cRdoTripClear)
  repeat' first
    | with_reducible assumption | intro _ | with_reducible apply State.succeed_kept
    | with_reducible apply State.tripClear_kept | with_reducible apply Kept.ite | split | dsimp only
    | with_reducible refine Kept.put ?_ rfl rfl rfl rfl rfl rfl rfl rfl rfl rfl

theorem cBiasPolicySet_kept :
    KeptCmd cBiasPolicySet := by
  constructor
  all_goals (unfold cBiasPolicySet)
  repeat' first
    | with_reducible assumption | intro _ | with_reducible apply State.succeed_kept
    | with_reducible apply State.putImg_kept | with_reducible apply State.putBits_kept | with_reducible apply Kept.ite
    | split | dsimp only | with_reducible refine Kept.put ?_ rfl rfl rfl rfl rfl rfl rfl rfl rfl rfl

theorem cPwrBank_kept :
    KeptCmd cPwrBank := by
  constructor
  all_goals (unfold cPwrBank)
  repeat' first
    | with_reducible assumption | intro _ | with_reducible apply State.flag_kept
    | with_reducible apply State.bankStart_kept | with_reducible apply Kept.ite | split | dsimp only
    | with_reducible refine Kept.put ?_ rfl rfl rfl rfl rfl rfl rfl rfl rfl rfl

theorem cDecCometSet_kept :
    KeptCmd cDecCometSet := by
  constructor
  all_goals (unfold cDecCometSet)
  repeat' first
    | with_reducible assumption | intro _ | with_reducible apply State.succeed_kept
    | with_reducible apply State.putImg_kept | with_reducible apply Kept.ite | split | dsimp only
    | with_reducible refine Kept.put ?_ rfl rfl rfl rfl rfl rfl rfl rfl rfl rfl

theorem State.putRoute_kept {s0 : State} (s : State) (a : Nat) (w : Word) (h : Kept s0 s) :
    Kept s0 (State.putRoute s a w) := by
  unfold State.putRoute
  repeat' first
    | with_reducible assumption | intro _ | with_reducible apply State.when_kept
    | with_reducible apply State.putImg_kept | with_reducible apply State.flag_kept | with_reducible apply Kept.ite
    | split | dsimp only | with_reducible refine Kept.put ?_ rfl rfl rfl rfl rfl rfl rfl rfl rfl rfl

theorem cFabRouteSet_kept :
    KeptCmd cFabRouteSet := by
  constructor
  all_goals (unfold cFabRouteSet)
  repeat' first
    | with_reducible assumption | intro _ | with_reducible apply foldl_kept | with_reducible apply State.succeed_kept
    | with_reducible apply State.putRoute_kept | with_reducible apply Kept.ite | split | dsimp only
    | with_reducible refine Kept.put ?_ rfl rfl rfl rfl rfl rfl rfl rfl rfl rfl

theorem cSecCertFetch_kept :
    KeptCmd cSecCertFetch := by
  constructor
  all_goals (unfold cSecCertFetch)
  repeat' first
    | with_reducible assumption | intro _ | with_reducible apply State.succeed_kept
    | with_reducible apply State.hostWrite_kept | with_reducible apply Kept.ite | split | dsimp only
    | with_reducible refine Kept.put ?_ rfl rfl rfl rfl rfl rfl rfl rfl rfl rfl

theorem cLogFetch_kept :
    KeptCmd cLogFetch := by
  constructor
  all_goals (unfold cLogFetch)
  repeat' first
    | with_reducible assumption | intro _ | with_reducible apply State.succeed_kept
    | with_reducible apply State.putEnts_kept | with_reducible apply Kept.ite | split | dsimp only
    | with_reducible refine Kept.put ?_ rfl rfl rfl rfl rfl rfl rfl rfl rfl rfl

theorem cPwrCfgSet_kept : KeptCmd cPwrCfgSet := imgCmd_kept _ _ _ (fun _ _ h => h)

theorem State.svnCommit_kept {s0 : State} (s : State) (m : Nat) (h : Kept s0 s) : Kept s0 (State.svnCommit s m) := by
  unfold State.svnCommit
  dsimp only
  refine State.secEvent_kept _ _ _ _ (State.burn_kept _ _ (fun g => ?_) h)
  exact { Fuses.Le.refl g with fw := Nat.le_max_left _ _, patch := Nat.le_max_left _ _, cal := Nat.le_max_left _ _ }

theorem cSecSvnCommit_kept :
    KeptCmd cSecSvnCommit := by
  constructor
  all_goals (unfold cSecSvnCommit)
  repeat' first
    | with_reducible assumption | intro _ | with_reducible apply State.succeed_kept
    | with_reducible apply State.svnCommit_kept | with_reducible apply Kept.ite | split | dsimp only
    | with_reducible refine Kept.put ?_ rfl rfl rfl rfl rfl rfl rfl rfl rfl rfl

theorem State.partStop_kept {s0 : State} (s : State) (p : Nat) (h : Kept s0 s) :
    Kept s0 (State.partStop s p) := by
  unfold State.partStop
  repeat' first
    | with_reducible assumption | intro _ | with_reducible apply State.toIdle_kept
    | with_reducible apply State.setPst_kept | with_reducible apply Kept.ite | split | dsimp only
    | with_reducible refine Kept.put ?_ rfl rfl rfl rfl rfl rfl rfl rfl rfl rfl

theorem cPartStop_kept :
    KeptCmd cPartStop := by
  constructor
  all_goals (unfold cPartStop)
  repeat' first
    | with_reducible assumption | intro _ | with_reducible apply State.partStop_kept
    | with_reducible apply State.succeed_kept | with_reducible apply State.setPrt_kept | with_reducible apply Kept.ite
    | split | dsimp only | with_reducible refine Kept.put ?_ rfl rfl rfl rfl rfl rfl rfl rfl rfl rfl

theorem cEnvDescSet_kept :
    KeptCmd cEnvDescSet := by
  constructor
  all_goals (unfold cEnvDescSet)
  repeat' first
    | with_reducible assumption | intro _ | with_reducible apply State.succeed_kept
    | with_reducible apply State.putImgs_kept | with_reducible apply Kept.ite | split | dsimp only
    | with_reducible refine Kept.put ?_ rfl rfl rfl rfl rfl rfl rfl rfl rfl rfl

theorem cEvrChanSet_kept :
    KeptCmd cEvrChanSet := by
  constructor
  all_goals (unfold cEvrChanSet)
  repeat' first
    | with_reducible assumption | intro _ | with_reducible apply State.succeed_kept
    | with_reducible apply State.putBits_kept | with_reducible apply Kept.ite | split | dsimp only
    | with_reducible refine Kept.put ?_ rfl rfl rfl rfl rfl rfl rfl rfl rfl rfl

theorem cmdsHost_kept : ∀ c ∈ cmdsHost, KeptCmd c := by
  unfold cmdsHost
  intro c hm
  rcases List.mem_cons.1 hm with rfl | hm
  · exact cHrtIdentify_kept
  rcases List.mem_cons.1 hm with rfl | hm
  · exact cNop_kept
  rcases List.mem_cons.1 hm with rfl | hm
  · exact cHrtPatchLoad_kept
  rcases List.mem_cons.1 hm with rfl | hm
  · exact cHrtPatchClear_kept
  rcases List.mem_cons.1 hm with rfl | hm
  · exact cIntSrcSet_kept
  rcases List.mem_cons.1 hm with rfl | hm
  · exact cIntTargetSet_kept
  rcases List.mem_cons.1 hm with rfl | hm
  · exact cIntSwi_kept
  rcases List.mem_cons.1 hm with rfl | hm
  · exact cEvrChanSet_kept
  rcases List.mem_cons.1 hm with rfl | hm
  · exact cEvrCellStage_kept
  rcases List.mem_cons.1 hm with rfl | hm
  · exact cEvrPubStage_kept
  rcases List.mem_cons.1 hm with rfl | hm
  · exact cEvrCommit_kept
  rcases List.mem_cons.1 hm with rfl | hm
  · exact cEvrDiscard_kept
  rcases List.mem_cons.1 hm with rfl | hm
  · exact cEvrPublish_kept
  rcases List.mem_cons.1 hm with rfl | hm
  · exact cTimeAnchor_kept
  rcases List.mem_cons.1 hm with rfl | hm
  · exact cTimePropagate_kept
  rcases List.mem_cons.1 hm with rfl | hm
  · exact cTimeRelease_kept
  rcases List.mem_cons.1 hm with rfl | hm
  · exact cTimeAlign_kept
  rcases List.mem_cons.1 hm with rfl | hm
  · exact cTimeWallRelock_kept
  rcases List.mem_cons.1 hm with rfl | hm
  · exact cPwrBank_kept
  rcases List.mem_cons.1 hm with rfl | hm
  · exact cPwrWake_kept
  rcases List.mem_cons.1 hm with rfl | hm
  · exact cPwrSafeExit_kept
  rcases List.mem_cons.1 hm with rfl | hm
  · exact cPwrShutdown_kept
  rcases List.mem_cons.1 hm with rfl | hm
  · exact cPwrSettingsSave_kept
  rcases List.mem_cons.1 hm with rfl | hm
  · exact cPwrCapSet_kept
  rcases List.mem_cons.1 hm with rfl | hm
  · exact cPwrRankSet_kept
  rcases List.mem_cons.1 hm with rfl | hm
  · exact cPwrCfgSet_kept
  rcases List.mem_cons.1 hm with rfl | hm
  · exact cThmSnapshotFetch_kept
  cases hm

theorem cmdsCommon_kept : ∀ c ∈ cmdsCommon, KeptCmd c := by
  unfold cmdsCommon
  intro c hm
  rcases List.mem_cons.1 hm with rfl | hm
  · exact cSecFwUpdate_kept
  rcases List.mem_cons.1 hm with rfl | hm
  · exact cSecCalLoad_kept
  rcases List.mem_cons.1 hm with rfl | hm
  · exact cSecAttest_kept
  rcases List.mem_cons.1 hm with rfl | hm
  · exact cSecCertFetch_kept
  rcases List.mem_cons.1 hm with rfl | hm
  · exact cSecFuseProgram_kept
  rcases List.mem_cons.1 hm with rfl | hm
  · exact cSecLcAdvance_kept
  rcases List.mem_cons.1 hm with rfl | hm
  · exact cSecSvnCommit_kept
  rcases List.mem_cons.1 hm with rfl | hm
  · exact cFabLaneConfig_kept
  rcases List.mem_cons.1 hm with rfl | hm
  · exact cFabLinkTrain_kept
  rcases List.mem_cons.1 hm with rfl | hm
  · exact cFabPortConfig_kept
  rcases List.mem_cons.1 hm with rfl | hm
  · exact cFabDiscover_kept
  rcases List.mem_cons.1 hm with rfl | hm
  · exact cFabAddrClear_kept
  rcases List.mem_cons.1 hm with rfl | hm
  · exact cFabRouteSet_kept
  rcases List.mem_cons.1 hm with rfl | hm
  · exact cFabPartNodesSet_kept
  rcases List.mem_cons.1 hm with rfl | hm
  · exact cFabTwinConfig_kept
  rcases List.mem_cons.1 hm with rfl | hm
  · exact cFabTwinHandover_kept
  rcases List.mem_cons.1 hm with rfl | hm
  · exact cFabLaneRestore_kept
  rcases List.mem_cons.1 hm with rfl | hm
  · exact cMemWrite_kept
  rcases List.mem_cons.1 hm with rfl | hm
  · exact cMemRead_kept
  rcases List.mem_cons.1 hm with rfl | hm
  · exact cMemMapSet_kept
  rcases List.mem_cons.1 hm with rfl | hm
  · exact cMemHintSet_kept
  rcases List.mem_cons.1 hm with rfl | hm
  · exact cMemScrubSet_kept
  rcases List.mem_cons.1 hm with rfl | hm
  · exact cMemRankRetire_kept
  rcases List.mem_cons.1 hm with rfl | hm
  · exact cMemMarch_kept
  rcases List.mem_cons.1 hm with rfl | hm
  · exact cMemMarchStop_kept
  rcases List.mem_cons.1 hm with rfl | hm
  · exact cBstLogicRun_kept
  rcases List.mem_cons.1 hm with rfl | hm
  · exact cBstStop_kept
  rcases List.mem_cons.1 hm with rfl | hm
  · exact cBstSliceTest_kept
  rcases List.mem_cons.1 hm with rfl | hm
  · exact cBstConfig_kept
  rcases List.mem_cons.1 hm with rfl | hm
  · exact cBstAnalogRun_kept
  rcases List.mem_cons.1 hm with rfl | hm
  · exact cBstProofRead_kept
  rcases List.mem_cons.1 hm with rfl | hm
  · exact cLogFetch_kept
  rcases List.mem_cons.1 hm with rfl | hm
  · exact cLogNvFetch_kept
  rcases List.mem_cons.1 hm with rfl | hm
  · exact cLogClear_kept
  rcases List.mem_cons.1 hm with rfl | hm
  · exact cFltSafe_kept
  cases hm

theorem cmdsSignal_kept : ∀ c ∈ cmdsSignal, KeptCmd c := by
  unfold cmdsSignal
  intro c hm
  rcases List.mem_cons.1 hm with rfl | hm
  · exact cDrvConfig_kept
  rcases List.mem_cons.1 hm with rfl | hm
  · exact cDrvFrameSet_kept
  rcases List.mem_cons.1 hm with rfl | hm
  · exact cEnvLoad_kept
  rcases List.mem_cons.1 hm with rfl | hm
  · exact cEnvDescSet_kept
  rcases List.mem_cons.1 hm with rfl | hm
  · exact cDrvHeatSet_kept
  rcases List.mem_cons.1 hm with rfl | hm
  · exact cDrvTripClear_kept
  rcases List.mem_cons.1 hm with rfl | hm
  · exact cDrvSpareSwap_kept
  rcases List.mem_cons.1 hm with rfl | hm
  · exact cDrvSpareRelease_kept
  rcases List.mem_cons.1 hm with rfl | hm
  · exact cFlxConfig_kept
  rcases List.mem_cons.1 hm with rfl | hm
  · exact cFlxGainSet_kept
  rcases List.mem_cons.1 hm with rfl | hm
  · exact cFlxPdLoad_kept
  rcases List.mem_cons.1 hm with rfl | hm
  · exact cFlxSpareSwap_kept
  rcases List.mem_cons.1 hm with rfl | hm
  · exact cFlxSpareRelease_kept
  rcases List.mem_cons.1 hm with rfl | hm
  · exact cRdoProbeConfig_kept
  rcases List.mem_cons.1 hm with rfl | hm
  · exact cRdoAdcConfig_kept
  rcases List.mem_cons.1 hm with rfl | hm
  · exact cToneSet_kept
  rcases List.mem_cons.1 hm with rfl | hm
  · exact cKernelLoad_kept
  rcases List.mem_cons.1 hm with rfl | hm
  · exact cRdoHeatSet_kept
  rcases List.mem_cons.1 hm with rfl | hm
  · exact cRdoTripClear_kept
  rcases List.mem_cons.1 hm with rfl | hm
  · exact cRdoSpareSwap_kept
  rcases List.mem_cons.1 hm with rfl | hm
  · exact cRdoSpareRelease_kept
  rcases List.mem_cons.1 hm with rfl | hm
  · exact cRecRingSet_kept
  rcases List.mem_cons.1 hm with rfl | hm
  · exact cAcqConfig_kept
  rcases List.mem_cons.1 hm with rfl | hm
  · exact cAcqGroupSet_kept
  rcases List.mem_cons.1 hm with rfl | hm
  · exact cAcqKConfig_kept
  rcases List.mem_cons.1 hm with rfl | hm
  · exact cStrRingSet_kept
  rcases List.mem_cons.1 hm with rfl | hm
  · exact cAcqArm_kept
  rcases List.mem_cons.1 hm with rfl | hm
  · exact cAcqStop_kept
  rcases List.mem_cons.1 hm with rfl | hm
  · exact cAcqTrigger_kept
  rcases List.mem_cons.1 hm with rfl | hm
  · exact cAcqFetch_kept
  rcases List.mem_cons.1 hm with rfl | hm
  · exact cAcqMaskLoad_kept
  rcases List.mem_cons.1 hm with rfl | hm
  · exact cDecRouteSet_kept
  rcases List.mem_cons.1 hm with rfl | hm
  · exact cDecGatherSet_kept
  rcases List.mem_cons.1 hm with rfl | hm
  · exact cDecTableLoad_kept
  rcases List.mem_cons.1 hm with rfl | hm
  · exact cDecTableClear_kept
  rcases List.mem_cons.1 hm with rfl | hm
  · exact cDecCometSet_kept
  rcases List.mem_cons.1 hm with rfl | hm
  · exact cDecDecoderSet_kept
  cases hm

theorem cmdsRun_kept : ∀ c ∈ cmdsRun, KeptCmd c := by
  unfold cmdsRun
  intro c hm
  rcases List.mem_cons.1 hm with rfl | hm
  · exact cSeqConfig_kept
  rcases List.mem_cons.1 hm with rfl | hm
  · exact cSeqImageLoad_kept
  rcases List.mem_cons.1 hm with rfl | hm
  · exact cSeqJump_kept
  rcases List.mem_cons.1 hm with rfl | hm
  · exact cSeqVectorSet_kept
  rcases List.mem_cons.1 hm with rfl | hm
  · exact cSeqMarkerMap_kept
  rcases List.mem_cons.1 hm with rfl | hm
  · exact cPartArm_kept
  rcases List.mem_cons.1 hm with rfl | hm
  · exact cPartStop_kept
  rcases List.mem_cons.1 hm with rfl | hm
  · exact cPartAbort_kept
  rcases List.mem_cons.1 hm with rfl | hm
  · exact cBiasConfig_kept
  rcases List.mem_cons.1 hm with rfl | hm
  · exact cBiasSet_kept
  rcases List.mem_cons.1 hm with rfl | hm
  · exact cBiasQueueLoad_kept
  rcases List.mem_cons.1 hm with rfl | hm
  · exact cBiasQueueStart_kept
  rcases List.mem_cons.1 hm with rfl | hm
  · exact cBiasQueueStop_kept
  rcases List.mem_cons.1 hm with rfl | hm
  · exact cBiasRestore_kept
  rcases List.mem_cons.1 hm with rfl | hm
  · exact cBiasPolicySet_kept
  rcases List.mem_cons.1 hm with rfl | hm
  · exact cMonConfig_kept
  rcases List.mem_cons.1 hm with rfl | hm
  · exact cMonStart_kept
  rcases List.mem_cons.1 hm with rfl | hm
  · exact cMonStop_kept
  rcases List.mem_cons.1 hm with rfl | hm
  · exact cMonInject_kept
  rcases List.mem_cons.1 hm with rfl | hm
  · exact cMonCommonSet_kept
  rcases List.mem_cons.1 hm with rfl | hm
  · exact cMonCommonFire_kept
  rcases List.mem_cons.1 hm with rfl | hm
  · exact cMonRefSet_kept
  rcases List.mem_cons.1 hm with rfl | hm
  · exact cMonTdacSet_kept
  rcases List.mem_cons.1 hm with rfl | hm
  · exact cMonCalibrate_kept
  cases hm

theorem cmdOf_kept {op : Nat} {c : Cmd} (h : cmdOf op = some c) : KeptCmd c := by
  have hm := List.mem_of_find?_eq_some h
  rcases List.mem_append.1 hm with hm | hm
  · rcases List.mem_append.1 hm with hm | hm
    · rcases List.mem_append.1 hm with hm | hm
      · exact cmdsHost_kept c hm
      · exact cmdsCommon_kept c hm
    · exact cmdsSignal_kept c hm
  · exact cmdsRun_kept c hm

theorem State.takeIn_kept {s0 : State} (s : State) (p : Pkt) (h : Kept s0 s) : Kept s0 (State.takeIn s p) := by
  unfold State.takeIn
  split
  · split
    · exact State.refuse_kept _ _ _ _ h
    · exact h
  · rename_i c e
    have hc := cmdOf_kept e
    split
    · exact hc.rej _ _ _ _ (State.refuse_kept _ _ _ _ h)
    · exact State.accept_kept _ c p h

theorem State.fetchPkt_kept {s0 : State} (s : State) (n : Nat) (p : Pkt) (h : Kept s0 s) :
    Kept s0 (State.fetchPkt s n p) := by
  unfold State.fetchPkt
  repeat' first
    | with_reducible assumption | intro _ | with_reducible apply State.bumpW_kept
    | with_reducible apply State.rrServed_kept | with_reducible apply State.refuse_kept
    | with_reducible apply State.flag_kept | with_reducible apply State.p_kept
    | with_reducible apply State.takeIn_kept | with_reducible apply Kept.ite | split | dsimp only
    | with_reducible refine Kept.put ?_ rfl rfl rfl rfl rfl rfl rfl rfl rfl rfl

theorem State.wantWin_kept {s0 : State} (s : State) (q : Nat) (w : Nat) (h : Kept s0 s) :
    Kept s0 (State.wantWin s q w) := by
  unfold State.wantWin
  repeat' first
    | with_reducible assumption | intro _ | with_reducible apply State.setSq_kept | with_reducible apply Kept.ite
    | split | dsimp only | with_reducible refine Kept.put ?_ rfl rfl rfl rfl rfl rfl rfl rfl rfl rfl

theorem State.fetchWait_kept {s0 : State} (s : State) (q : Nat) (e : Nat) (h : Kept s0 s) :
    Kept s0 (State.fetchWait s q e) := by
  unfold State.fetchWait
  repeat' first
    | with_reducible assumption | intro _ | with_reducible apply State.wantWin_kept
    | with_reducible apply State.mark_kept | with_reducible apply State.setSq_kept | with_reducible apply Kept.ite
    | split | dsimp only | with_reducible refine Kept.put ?_ rfl rfl rfl rfl rfl rfl rfl rfl rfl rfl

theorem State.firmware_kept {s0 : State} (s : State) (ok : Bool) (h : Kept s0 s) :
    Kept s0 (State.firmware s ok) := by
  unfold State.firmware
  repeat' first
    | with_reducible assumption | intro _ | with_reducible apply State.p_kept | with_reducible apply State.setReg_kept
    | with_reducible apply State.secEvent_kept | with_reducible apply State.flag_kept | with_reducible apply Kept.ite
    | split | dsimp only | with_reducible refine Kept.put ?_ rfl rfl rfl rfl rfl rfl rfl rfl rfl rfl

theorem State.flashPop_kept {s0 : State} (s : State) (h : Kept s0 s) :
    Kept s0 (State.flashPop s) := by
  unfold State.flashPop
  repeat' first
    | with_reducible assumption | intro _ | with_reducible apply State.when_kept
    | with_reducible apply State.unflag_kept | with_reducible apply Kept.ite | split | dsimp only
    | with_reducible refine Kept.put ?_ rfl rfl rfl rfl rfl rfl rfl rfl rfl rfl

theorem State.nvStore_kept {s0 : State} (s : State) (e : LogEnt) (h : Kept s0 s) :
    Kept s0 (State.nvStore s e) := by
  unfold State.nvStore
  repeat' first
    | with_reducible assumption | intro _ | with_reducible apply State.when_kept
    | with_reducible apply State.bump_kept | with_reducible apply Kept.ite | split | dsimp only
    | with_reducible refine Kept.put ?_ rfl rfl rfl rfl rfl rfl rfl rfl rfl rfl

theorem State.flashWrite_kept {s0 : State} (s : State) (ok : Bool) (h : Kept s0 s) :
    Kept s0 (State.flashWrite s ok) := by
  unfold State.flashWrite
  repeat' first
    | with_reducible assumption | intro _ | with_reducible apply State.flashPop_kept
    | with_reducible apply State.nvStore_kept | with_reducible apply State.flag_kept | with_reducible apply Kept.ite
    | split | dsimp only | with_reducible refine Kept.put ?_ rfl rfl rfl rfl rfl rfl rfl rfl rfl rfl

theorem State.freeInst_kept {s0 : State} (s : State) (p : Nat) (h : Kept s0 s) :
    Kept s0 (State.freeInst s p) := by
  unfold State.freeInst
  repeat' first
    | with_reducible assumption | intro _ | with_reducible apply forEach_kept | with_reducible apply State.fresh_kept
    | with_reducible apply State.setPrt_kept | with_reducible apply Kept.ite | split | dsimp only
    | with_reducible refine Kept.put ?_ rfl rfl rfl rfl rfl rfl rfl rfl rfl rfl

theorem State.gate_kept {s0 : State} (s : State) (fn : Nat) (a : Nat) (write : Bool) (h : Kept s0 s) :
    Kept s0 (State.gate s fn a write).1 := by
  unfold State.gate
  repeat' first
    | with_reducible assumption | intro _ | with_reducible apply State.bump_kept
    | with_reducible apply State.deny_kept | with_reducible apply State.busyReject_kept
    | with_reducible apply Kept.ite | split | dsimp only
    | with_reducible refine Kept.put ?_ rfl rfl rfl rfl rfl rfl rfl rfl rfl rfl

theorem State.goTo_kept {s0 : State} (s : State) (a : Nat) (h : Kept s0 s) :
    Kept s0 (State.goTo s a) := by
  unfold State.goTo
  repeat' first
    | with_reducible assumption | intro _ | with_reducible apply Kept.ite | split | dsimp only
    | with_reducible refine Kept.put ?_ rfl rfl rfl rfl rfl rfl rfl rfl rfl rfl

theorem State.releaseGroup_kept {s0 : State} (s : State) (c : Nat) (grp : Nat) (h : Kept s0 s) :
    Kept s0 (State.releaseGroup s c grp) := by
  unfold State.releaseGroup
  repeat' first
    | with_reducible assumption | intro _ | with_reducible apply State.applyDefers_kept
    | with_reducible apply State.setHctx_kept | with_reducible apply Kept.ite | split | dsimp only
    | with_reducible refine Kept.put ?_ rfl rfl rfl rfl rfl rfl rfl rfl rfl rfl

theorem State.groupStep_kept {s0 : State} (s : State) (w : CtlWord) (h : Kept s0 s) :
    Kept s0 (State.groupStep s w) := by
  unfold State.groupStep
  repeat' first
    | with_reducible assumption | intro _ | with_reducible apply forEach_kept
    | with_reducible apply State.setHctx_kept | with_reducible apply State.releaseGroup_kept
    | with_reducible apply Kept.ite | split | dsimp only
    | with_reducible refine Kept.put ?_ rfl rfl rfl rfl rfl rfl rfl rfl rfl rfl

theorem State.grpReq_kept {s0 : State} (s : State) (g : Nat) (m : Nat) (t : Nat) (frac : Nat) (fv : Bool) (h : Kept s0 s) :
    Kept s0 (State.grpReq s g m t frac fv) := by
  unfold State.grpReq
  repeat' first
    | with_reducible assumption | intro _ | with_reducible apply State.when_kept
    | with_reducible apply State.grpAsk_kept | with_reducible apply Kept.ite | split | dsimp only
    | with_reducible refine Kept.put ?_ rfl rfl rfl rfl rfl rfl rfl rfl rfl rfl

theorem State.grpIn_kept {s0 : State} (s : State) (g : Nat) (n : Nat) (typ : Nat) (t : Nat) (frac : Nat) (fv : Bool) (h : Kept s0 s) :
    Kept s0 (State.grpIn s g n typ t frac fv) := by
  unfold State.grpIn
  repeat' first
    | with_reducible assumption | intro _ | with_reducible apply State.grpSettle_kept
    | with_reducible apply State.grpArm_kept | with_reducible apply State.grpShow_kept
    | with_reducible apply State.grpReq_kept | with_reducible apply State.grpFire_kept
    | with_reducible apply State.grpStop_kept | with_reducible apply Kept.ite | split | dsimp only
    | with_reducible refine Kept.put ?_ rfl rfl rfl rfl rfl rfl rfl rfl rfl rfl

theorem State.perform_kept {s0 : State} (s : State) (p : Nat) (e : BitVec 128) (d : Nat) (rank : Nat) (h : Kept s0 s) :
    Kept s0 (State.perform s p e d rank) := by
  unfold State.perform
  repeat' first
    | with_reducible assumption | intro _ | with_reducible apply State.when_kept
    | with_reducible apply State.bump64_kept | with_reducible apply State.bump_kept
    | with_reducible apply State.actFlag_kept | with_reducible apply State.actPauli_kept
    | with_reducible apply State.cometSend_kept | with_reducible apply State.publish_kept
    | with_reducible apply State.badAction_kept | with_reducible apply Kept.ite | split | dsimp only
    | with_reducible refine Kept.put ?_ rfl rfl rfl rfl rfl rfl rfl rfl rfl rfl

theorem State.readEntry_kept {s0 : State} (s : State) (p : Nat) (k : Nat) (d : Nat) (rank : Nat) (h : Kept s0 s) :
    Kept s0 (State.readEntry s p k d rank) := by
  unfold State.readEntry
  repeat' first
    | with_reducible assumption | intro _ | with_reducible apply State.perform_kept
    | with_reducible apply State.mark_kept | with_reducible apply State.flag_kept
    | with_reducible apply State.bump64_kept | with_reducible apply Kept.ite | split | dsimp only
    | with_reducible refine Kept.put ?_ rfl rfl rfl rfl rfl rfl rfl rfl rfl rfl

theorem State.lookup_kept {s0 : State} (s : State) (p : Nat) (k : Nat) (rank : Nat) (h : Kept s0 s) :
    Kept s0 (State.lookup s p k rank) := by
  unfold State.lookup
  repeat' first
    | with_reducible assumption | intro _ | with_reducible apply State.when_kept
    | with_reducible apply State.compareOwn_kept | with_reducible apply State.mirror_kept
    | with_reducible apply State.readEntry_kept | with_reducible apply Kept.ite | split | dsimp only
    | with_reducible refine Kept.put ?_ rfl rfl rfl rfl rfl rfl rfl rfl rfl rfl

theorem State.guRound_kept {s0 : State} (s : State) (g : Nat) (w : W64) (h : Kept s0 s) :
    Kept s0 (State.guRound s g w) := by
  unfold State.guRound
  repeat' first
    | with_reducible assumption | intro _ | with_reducible apply State.p_kept
    | with_reducible apply State.setGath_kept | with_reducible apply State.fabSend_kept
    | with_reducible apply Kept.ite | split | dsimp only
    | with_reducible refine Kept.put ?_ rfl rfl rfl rfl rfl rfl rfl rfl rfl rfl

theorem State.guComplete_kept {s0 : State} (s : State) (g : Nat) (G : W64) (h : Kept s0 s) :
    Kept s0 (State.guComplete s g G) := by
  unfold State.guComplete
  repeat' first
    | with_reducible assumption | intro _ | with_reducible apply State.when_kept
    | with_reducible apply State.lookup_kept | with_reducible apply State.setGath_kept
    | with_reducible apply State.guRound_kept | with_reducible apply Kept.ite | split | dsimp only
    | with_reducible refine Kept.put ?_ rfl rfl rfl rfl rfl rfl rfl rfl rfl rfl

theorem State.guDefaults_kept {s0 : State} (s : State) (g : Nat) (h : Kept s0 s) :
    Kept s0 (State.guDefaults s g) := by
  unfold State.guDefaults
  repeat' first
    | with_reducible assumption | intro _ | with_reducible apply State.when_kept | with_reducible apply foldl_kept
    | with_reducible apply State.setGath_kept | with_reducible apply State.bump_kept | with_reducible apply Kept.ite
    | split | dsimp only | with_reducible refine Kept.put ?_ rfl rfl rfl rfl rfl rfl rfl rfl rfl rfl

theorem State.guDue_kept {s0 : State} (s : State) (g : Nat) (h : Kept s0 s) :
    Kept s0 (State.guDue s g) := by
  unfold State.guDue
  repeat' first
    | with_reducible assumption | intro _ | with_reducible apply State.bump_kept
    | with_reducible apply State.setGath_kept | with_reducible apply Kept.ite | split | dsimp only
    | with_reducible refine Kept.put ?_ rfl rfl rfl rfl rfl rfl rfl rfl rfl rfl

theorem State.guDeliver_kept {s0 : State} (s : State) (g : Nat) (t : Nat) (e : Nat) (h : Kept s0 s) :
    Kept s0 (State.guDeliver s g t e) := by
  unfold State.guDeliver
  repeat' first
    | with_reducible assumption | intro _ | with_reducible apply State.when_kept
    | with_reducible apply State.bump_kept | with_reducible apply State.setGath_kept
    | with_reducible apply State.guDue_kept | with_reducible apply Kept.ite | split | dsimp only
    | with_reducible refine Kept.put ?_ rfl rfl rfl rfl rfl rfl rfl rfl rfl rfl

theorem State.guFollow_kept {s0 : State} (s : State) (g : Nat) (k : Nat) (h : Kept s0 s) :
    Kept s0 (State.guFollow s g k) := by
  unfold State.guFollow
  repeat' first
    | with_reducible assumption | intro _ | with_reducible apply State.guRound_kept
    | with_reducible apply State.setGath_kept | with_reducible apply Kept.ite | split | dsimp only
    | with_reducible refine Kept.put ?_ rfl rfl rfl rfl rfl rfl rfl rfl rfl rfl

theorem State.guServe_kept {s0 : State} (s : State) (g : Nat) (h : Kept s0 s) :
    Kept s0 (State.guServe s g) := by
  unfold State.guServe
  repeat' first
    | with_reducible assumption | intro _ | with_reducible apply State.guComplete_kept
    | with_reducible apply State.setGath_kept | with_reducible apply Kept.ite | split | dsimp only
    | with_reducible refine Kept.put ?_ rfl rfl rfl rfl rfl rfl rfl rfl rfl rfl

theorem State.hear_kept {s0 : State} (s : State) (h : Kept s0 s) :
    Kept s0 (State.hear s) := by
  unfold State.hear
  repeat' first
    | with_reducible assumption | intro _ | with_reducible apply State.flag_kept | with_reducible apply Kept.ite
    | split | dsimp only | with_reducible refine Kept.put ?_ rfl rfl rfl rfl rfl rfl rfl rfl rfl rfl

theorem State.takeWord_kept {s0 : State} (s : State) (typ : Nat) (w : W64) (h : Kept s0 s) :
    Kept s0 (State.takeWord s typ w) := by
  unfold State.takeWord
  repeat' first
    | with_reducible assumption | intro _ | with_reducible apply Kept.ite | split | dsimp only
    | with_reducible refine Kept.put ?_ rfl rfl rfl rfl rfl rfl rfl rfl rfl rfl

theorem State.heard_kept {s0 : State} (s : State) (t : Nat) (w : W64) (f : State → State) (h : Kept s0 s) (hf : ∀ s, Kept s0 s → Kept s0 (f s)) :
    Kept s0 (State.heard s t w f) := by
  unfold State.heard
  repeat' first
    | with_reducible assumption | intro _ | with_reducible apply hf | with_reducible apply State.hear_kept
    | with_reducible apply State.takeWord_kept | with_reducible apply Kept.ite | split | dsimp only
    | with_reducible refine Kept.put ?_ rfl rfl rfl rfl rfl rfl rfl rfl rfl rfl

theorem State.serviceInt_kept {s0 : State} (s : State) (h : Kept s0 s) :
    Kept s0 (State.serviceInt s) := by
  unfold State.serviceInt
  repeat' first
    | with_reducible assumption | intro _ | with_reducible apply State.claim_kept
    | with_reducible apply State.takeTrap_kept | with_reducible apply State.fresh_kept
    | with_reducible apply State.logWrite_kept | with_reducible apply Kept.ite | split | dsimp only
    | with_reducible refine Kept.put ?_ rfl rfl rfl rfl rfl rfl rfl rfl rfl rfl

theorem State.serviceTick_kept {s0 : State} (s : State) (h : Kept s0 s) :
    Kept s0 (State.serviceTick s) := by
  unfold State.serviceTick
  repeat' first
    | with_reducible assumption | intro _ | with_reducible apply State.takeTrap_kept | with_reducible apply Kept.ite
    | split | dsimp only | with_reducible refine Kept.put ?_ rfl rfl rfl rfl rfl rfl rfl rfl rfl rfl

theorem State.trapStep_kept {s0 : State} (s : State) (w : CtlWord) (h : Kept s0 s) :
    Kept s0 (State.trapStep s w) := by
  unfold State.trapStep
  repeat' first
    | with_reducible assumption | intro _ | with_reducible apply State.serviceInt_kept
    | with_reducible apply State.serviceTick_kept | with_reducible apply Kept.ite | split | dsimp only
    | with_reducible refine Kept.put ?_ rfl rfl rfl rfl rfl rfl rfl rfl rfl rfl

theorem State.setMreg_kept {s0 : State} (s : State) (r : Nat) (v : W64) (h : Kept s0 s) :
    Kept s0 (State.setMreg s r v) := by
  unfold State.setMreg
  repeat' first
    | with_reducible assumption | intro _ | with_reducible apply Kept.ite | split | dsimp only
    | with_reducible refine Kept.put ?_ rfl rfl rfl rfl rfl rfl rfl rfl rfl rfl

theorem execTrapReturn_kept {s0 : State} (s : State) (h : Kept s0 s) :
    KeptOut s0 (execTrapReturn s) := by
  unfold execTrapReturn
  repeat' first
    | with_reducible assumption | intro _ | with_reducible apply State.complete_kept
    | with_reducible apply State.serviceInt_kept | with_reducible apply State.serviceTick_kept
    | with_reducible apply State.tryQuiesce_kept | with_reducible apply State.switchCtx_kept
    | with_reducible apply KeptOut.next | with_reducible apply KeptOut.ite | with_reducible apply Kept.ite | split
    | dsimp only | with_reducible refine Kept.put ?_ rfl rfl rfl rfl rfl rfl rfl rfl rfl rfl

theorem State.yieldAt_kept {s0 : State} (s : State) (upc : Nat) (h : Kept s0 s) :
    Kept s0 (State.yieldAt s upc) := by
  unfold State.yieldAt
  repeat' first
    | with_reducible assumption | intro _ | with_reducible apply State.tryQuiesce_kept
    | with_reducible apply State.switchCtx_kept | with_reducible apply State.setHctx_kept
    | with_reducible apply Kept.ite | split | dsimp only
    | with_reducible refine Kept.put ?_ rfl rfl rfl rfl rfl rfl rfl rfl rfl rfl

theorem State.seqStep_kept {s0 : State} (s : State) (w : CtlWord) (h : Kept s0 s) :
    Kept s0 (State.seqStep s w) := by
  unfold State.seqStep
  repeat' first
    | with_reducible assumption | intro _ | with_reducible apply State.goTo_kept
    | with_reducible apply State.fresh_kept | with_reducible apply State.setMreg_kept
    | with_reducible apply State.via_kept | with_reducible apply execTrapReturn_kept
    | with_reducible apply State.yieldAt_kept | with_reducible apply Kept.ite | split | dsimp only
    | with_reducible refine Kept.put ?_ rfl rfl rfl rfl rfl rfl rfl rfl rfl rfl

theorem State.hearthCycle_kept {s0 : State} (s : State) (h : Kept s0 s) : Kept s0 (State.hearthCycle s) := by
  unfold State.hearthCycle
  refine Kept.ite h ?_
  split
  · exact State.faultTrap_kept _ _ _ h
  · exact Kept.ite h (State.trapStep_kept _ _ (State.seqStep_kept _ _ (State.groupStep_kept _ _ (State.aluBus_kept _ _ h))))

theorem State.hold_kept {s0 : State} (s : State) (fn : Nat) (a : Nat) (w : Word) (h : Kept s0 s) :
    Kept s0 (State.hold s fn a w) := by
  unfold State.hold
  repeat' first
    | with_reducible assumption | intro _ | with_reducible apply Kept.ite | split | dsimp only
    | with_reducible refine Kept.put ?_ rfl rfl rfl rfl rfl rfl rfl rfl rfl rfl

theorem State.holdTrap_kept {s0 : State} (s : State) (c : Nat) (h : Kept s0 s) :
    Kept s0 (State.holdTrap s c) := by
  unfold State.holdTrap
  repeat' first
    | with_reducible assumption | intro _ | with_reducible apply State.bump_kept | with_reducible apply Kept.ite
    | split | dsimp only | with_reducible refine Kept.put ?_ rfl rfl rfl rfl rfl rfl rfl rfl rfl rfl

theorem State.inRun_kept {s0 : State} (s : State) (p : Pkt) (h : Kept s0 s) :
    Kept s0 (State.inRun s p) := by
  unfold State.inRun
  repeat' first
    | with_reducible assumption | intro _ | with_reducible apply Kept.ite | split | dsimp only
    | with_reducible refine Kept.put ?_ rfl rfl rfl rfl rfl rfl rfl rfl rfl rfl

theorem State.inputTake_kept {s0 : State} (s : State) (vin : Nat) (h : Kept s0 s) :
    Kept s0 (State.inputTake s vin) := by
  unfold State.inputTake
  repeat' first
    | with_reducible assumption | intro _ | with_reducible apply Kept.ite | split | dsimp only
    | with_reducible refine Kept.put ?_ rfl rfl rfl rfl rfl rfl rfl rfl rfl rfl

theorem State.intReset_kept {s0 : State} (s : State) (t : Nat) (h : Kept s0 s) :
    Kept s0 (State.intReset s t) := by
  unfold State.intReset
  repeat' first
    | with_reducible assumption | intro _ | with_reducible apply Kept.ite | split | dsimp only
    | with_reducible refine Kept.put ?_ rfl rfl rfl rfl rfl rfl rfl rfl rfl rfl

theorem State.slip_kept {s0 : State} (s : State) (q : Nat) (h : Kept s0 s) :
    Kept s0 (State.slip s q) := by
  unfold State.slip
  repeat' first
    | with_reducible assumption | intro _ | with_reducible apply State.mark_kept
    | with_reducible apply State.flag_kept | with_reducible apply State.bump_kept | with_reducible apply Kept.ite
    | split | dsimp only | with_reducible refine Kept.put ?_ rfl rfl rfl rfl rfl rfl rfl rfl rfl rfl

theorem State.seqUnquiet_kept {s0 : State} (s : State) (q : Nat) (h : Kept s0 s) :
    Kept s0 (State.seqUnquiet s q) := by
  unfold State.seqUnquiet
  repeat' first
    | with_reducible assumption | intro _ | with_reducible apply State.setOutp_kept
    | with_reducible apply State.setFlx_kept | with_reducible apply Kept.ite | split | dsimp only
    | with_reducible refine Kept.put ?_ rfl rfl rfl rfl rfl rfl rfl rfl rfl rfl

theorem State.issue1_kept {s0 : State} (s : State) (q : Nat) (op : Nat) (body : State → W64 → Nat → Nat → Res) (h : Kept s0 s) (hbody : ∀ s w e τ, Kept s0 s → KeptRes s0 (body s w e τ)) :
    Kept s0 (State.issue1 s q op body) := by
  unfold State.issue1
  repeat' first
    | with_reducible assumption | intro _ | with_reducible apply hbody | with_reducible apply State.seqError_kept
    | with_reducible apply State.regionMiss_kept | with_reducible apply State.fetchWait_kept
    | with_reducible apply State.slip_kept | with_reducible apply State.seqUnquiet_kept
    | with_reducible apply State.setSq_kept | with_reducible apply State.after_kept | with_reducible apply Kept.ite
    | split | dsimp only | with_reducible refine Kept.put ?_ rfl rfl rfl rfl rfl rfl rfl rfl rfl rfl

theorem State.issue_kept {s0 : State} (s : State) (q : Nat) (op : Nat) (body : State → W64 → Nat → Nat → Res) (h : Kept s0 s) (hbody : ∀ s w e τ, Kept s0 s → KeptRes s0 (body s w e τ)) :
    Kept s0 (State.issue s q op body) := by
  unfold State.issue
  repeat' first
    | with_reducible assumption | intro _ | with_reducible apply hbody | with_reducible apply State.repeatDone_kept
    | with_reducible apply State.issue1_kept | with_reducible apply Kept.ite | split | dsimp only
    | with_reducible refine Kept.put ?_ rfl rfl rfl rfl rfl rfl rfl rfl rfl rfl

theorem State.loadOsc_kept {s0 : State} (s : State) (k : Nat) (f : W64) (p : W64) (h : Kept s0 s) :
    Kept s0 (State.loadOsc s k f p) := by
  unfold State.loadOsc
  repeat' first
    | with_reducible assumption | intro _ | with_reducible apply State.setOsc_kept | with_reducible apply Kept.ite
    | split | dsimp only | with_reducible refine Kept.put ?_ rfl rfl rfl rfl rfl rfl rfl rfl rfl rfl

theorem State.loadPauli_kept {s0 : State} (s : State) (f : Nat) (w : Nat) (h : Kept s0 s) :
    Kept s0 (State.loadPauli s f w) := by
  unfold State.loadPauli
  repeat' first
    | with_reducible assumption | intro _ | with_reducible apply Kept.ite | split | dsimp only
    | with_reducible refine Kept.put ?_ rfl rfl rfl rfl rfl rfl rfl rfl rfl rfl

theorem State.loadDec_kept {s0 : State} (s : State) (p : Nat) (ws : List W64) (h : Kept s0 s) :
    Kept s0 (State.loadDec s p ws).1 := by
  unfold State.loadDec
  dsimp only
  with_reducible refine pairFold_kept _ _ ?_ _ ?_
  · with_reducible refine pairFold_kept _ _ ?_ _ ?_
    · with_reducible refine pairFold_kept _ _ ?_ _ ?_
      · with_reducible refine pairFold_kept _ _ h _ ?_
        intro r a hr
        with_reducible apply State.loadOsc_kept
        exact hr
      · intro r a hr
        with_reducible apply forEach_kept
        · exact hr
        · intro s n hs
          with_reducible apply State.loadPauli_kept
          exact hs
    · intro r a hr
      with_reducible apply State.p_kept
      with_reducible apply State.setGath_kept
      exact hr
  · intro r a hr
    with_reducible apply State.setPair_kept
    exact hr

theorem State.loadSeq_kept {s0 : State} (s : State) (q : Nat) (ws : List W64) (h : Kept s0 s) :
    Kept s0 (State.loadSeq s q ws) := by
  unfold State.loadSeq
  repeat' first
    | with_reducible assumption | intro _ | with_reducible apply foldl_kept | with_reducible apply State.setReg_kept
    | with_reducible apply State.setSq_kept | with_reducible apply Kept.ite | split | dsimp only
    | with_reducible refine Kept.put ?_ rfl rfl rfl rfl rfl rfl rfl rfl rfl rfl

theorem State.loadParts_kept {s0 : State} (s : State) (n : Nat) (ws : List W64) (h : Kept s0 s) :
    Kept s0 (State.loadParts s n ws) := by
  induction n generalizing s ws with
  | zero => exact h
  | succ n ih =>
    cases ws with
    | nil => exact h
    | cons x ws =>
      unfold State.loadParts
      dsimp only
      refine Kept.ite h (ih _ _ (State.loadDec_kept _ _ _ (State.acqEpoch_kept _ _ (State.setPst_kept _ _ _ (State.p_kept _ _ _ _ (State.p64_kept _ _ _ _
        (State.freeInst_kept _ _ (State.setPrt_kept _ _ _ ?_))))))))
      exact pairFold_kept _ _ h _ (fun r a hr => State.loadSeq_kept _ _ _ hr)

theorem State.mirrorRead_kept {s0 : State} (s : State) (w : W64) (h : Kept s0 s) :
    Kept s0 (State.mirrorRead s w) := by
  unfold State.mirrorRead
  repeat' first
    | with_reducible assumption | intro _ | with_reducible apply State.when_kept
    | with_reducible apply State.compareOwn_kept | with_reducible apply State.eccReads_kept
    | with_reducible apply State.readEntry_kept | with_reducible apply State.guFollow_kept
    | with_reducible apply Kept.ite | split | dsimp only
    | with_reducible refine Kept.put ?_ rfl rfl rfl rfl rfl rfl rfl rfl rfl rfl

theorem State.mirrored_kept {s0 : State} (s : State) (w : W64) (h : Kept s0 s) :
    Kept s0 (State.mirrored s w) := by
  unfold State.mirrored
  repeat' first
    | with_reducible assumption | intro _ | with_reducible apply State.mirrorRead_kept
    | with_reducible apply State.cometNamed_kept | with_reducible apply Kept.ite | split | dsimp only
    | with_reducible refine Kept.put ?_ rfl rfl rfl rfl rfl rfl rfl rfl rfl rfl

theorem State.joinDone_kept {s0 : State} (s : State) (h : Kept s0 s) :
    Kept s0 (State.joinDone s) := by
  unfold State.joinDone
  repeat' first
    | with_reducible assumption | intro _ | with_reducible apply foldl_kept
    | with_reducible apply State.loadParts_kept | with_reducible apply State.mirrored_kept
    | with_reducible apply State.twinSet_kept | with_reducible apply Kept.ite | split | dsimp only
    | with_reducible refine Kept.put ?_ rfl rfl rfl rfl rfl rfl rfl rfl rfl rfl

theorem State.kernI_kept {s0 : State} (s : State) (fn : Nat) (q : Nat) (h : Kept s0 s) :
    Kept s0 (State.kernI s fn q) := by
  unfold State.kernI
  repeat' first
    | with_reducible assumption | intro _ | with_reducible apply State.deny_kept | with_reducible apply Kept.ite
    | split | dsimp only | with_reducible refine Kept.put ?_ rfl rfl rfl rfl rfl rfl rfl rfl rfl rfl

theorem State.kernQ_kept {s0 : State} (s : State) (fn : Nat) (q : Nat) (wr : Option Word) (h : Kept s0 s) :
    Kept s0 (State.kernQ s fn q wr) := by
  unfold State.kernQ
  repeat' first
    | with_reducible assumption | intro _ | with_reducible apply State.deny_kept
    | with_reducible apply State.kernWrite_kept | with_reducible apply State.p_kept | with_reducible apply Kept.ite
    | split | dsimp only | with_reducible refine Kept.put ?_ rfl rfl rfl rfl rfl rfl rfl rfl rfl rfl

theorem State.laneBlock_kept {s0 : State} (s : State) (l : Nat) (v : Nat) (h : Kept s0 s) :
    Kept s0 (State.laneBlock s l v) := by
  unfold State.laneBlock
  repeat' first
    | with_reducible assumption | intro _ | with_reducible apply State.p_kept
    | with_reducible apply State.setLane_kept | with_reducible apply State.blockIn_kept
    | with_reducible apply State.bump_kept | with_reducible apply Kept.ite | split | dsimp only
    | with_reducible refine Kept.put ?_ rfl rfl rfl rfl rfl rfl rfl rfl rfl rfl

theorem State.laneBit_kept {s0 : State} (s : State) (l : Nat) (b : Bool) (h : Kept s0 s) :
    Kept s0 (State.laneBit s l b) := by
  unfold State.laneBit
  repeat' first
    | with_reducible assumption | intro _ | with_reducible apply State.when_kept
    | with_reducible apply State.bump_kept | with_reducible apply State.setLane_kept
    | with_reducible apply State.laneBlock_kept | with_reducible apply Kept.ite | split | dsimp only
    | with_reducible refine Kept.put ?_ rfl rfl rfl rfl rfl rfl rfl rfl rfl rfl

theorem State.laneCut_kept {s0 : State} (s : State) (q : Nat) (k : Nat) (b : Nat) (h : Kept s0 s) :
    Kept s0 (State.laneCut s q k b) := by
  unfold State.laneCut
  repeat' first
    | with_reducible assumption | intro _ | with_reducible apply State.setPlays_kept
    | with_reducible apply State.setSq_kept | with_reducible apply Kept.ite | split | dsimp only
    | with_reducible refine Kept.put ?_ rfl rfl rfl rfl rfl rfl rfl rfl rfl rfl

theorem State.laneDetect_kept {s0 : State} (s : State) (l : Nat) (h : Kept s0 s) :
    Kept s0 (State.laneDetect s l) := by
  unfold State.laneDetect
  repeat' first
    | with_reducible assumption | intro _ | with_reducible apply State.flag_kept
    | with_reducible apply State.fresh_kept | with_reducible apply Kept.ite | split | dsimp only
    | with_reducible refine Kept.put ?_ rfl rfl rfl rfl rfl rfl rfl rfl rfl rfl

theorem State.laneRetrain_kept {s0 : State} (s : State) (l : Nat) (h : Kept s0 s) :
    Kept s0 (State.laneRetrain s l) := by
  unfold State.laneRetrain
  repeat' first
    | with_reducible assumption | intro _ | with_reducible apply State.setLaneRx_kept | with_reducible apply Kept.ite
    | split | dsimp only | with_reducible refine Kept.put ?_ rfl rfl rfl rfl rfl rfl rfl rfl rfl rfl

theorem State.laneSlip_kept {s0 : State} (s : State) (l : Nat) (h : Kept s0 s) :
    Kept s0 (State.laneSlip s l) := by
  unfold State.laneSlip
  repeat' first
    | with_reducible assumption | intro _ | with_reducible apply State.p_kept
    | with_reducible apply State.setLane_kept | with_reducible apply Kept.ite | split | dsimp only
    | with_reducible refine Kept.put ?_ rfl rfl rfl rfl rfl rfl rfl rfl rfl rfl

theorem State.ringGate_kept {s0 : State} (s : State) (p : Nat) (b : Bar) (h : Kept s0 s) :
    Kept s0 (State.ringGate s p b).1 := by
  unfold State.ringGate
  split
  · exact h
  · dsimp only
    split
    · exact h
    · split
      · exact State.bump64_kept _ _ _ _ (State.unflag_kept _ _ _ (State.setPrt_kept _ _ _ h))
      · exact State.flag_kept _ _ _ (State.setPrt_kept _ _ _ h)

theorem State.sendNotice_kept {s0 : State} (s : State) (p : Nat) (b : Bar) (ready : Bool) (tick : Nat) (h : Kept s0 s) :
    Kept s0 (State.sendNotice s p b ready tick) := by
  unfold State.sendNotice
  repeat' first
    | with_reducible assumption | intro _ | with_reducible apply forEach_kept
    | with_reducible apply State.fabSend_kept | with_reducible apply Kept.ite | split | dsimp only
    | with_reducible refine Kept.put ?_ rfl rfl rfl rfl rfl rfl rfl rfl rfl rfl

theorem State.notify_kept {s0 : State} (s : State) (p : Nat) (b : Bar) (h : Kept s0 s) :
    Kept s0 (State.notify s p b).1 := by
  unfold State.notify
  repeat' first
    | with_reducible assumption | intro _ | with_reducible apply State.sendNotice_kept | with_reducible apply Kept.ite
    | split | dsimp only | with_reducible refine Kept.put ?_ rfl rfl rfl rfl rfl rfl rfl rfl rfl rfl

theorem State.putBar_kept {s0 : State} (s : State) (p : Nat) (b : Bar) (h : Kept s0 s) :
    Kept s0 (State.putBar s p b) := by
  unfold State.putBar
  repeat' first
    | with_reducible assumption | intro _ | with_reducible apply State.setPrt_kept | with_reducible apply Kept.ite
    | split | dsimp only | with_reducible refine Kept.put ?_ rfl rfl rfl rfl rfl rfl rfl rfl rfl rfl

theorem State.leave_kept {s0 : State} (s : State) (b : Bar) (q : Nat) (t : Nat) (rel : Nat) (h : Kept s0 s) :
    Kept s0 (State.leave s b q t rel) := by
  unfold State.leave
  repeat' first
    | with_reducible assumption | intro _ | with_reducible apply State.setSq_kept | with_reducible apply Kept.ite
    | split | dsimp only | with_reducible refine Kept.put ?_ rfl rfl rfl rfl rfl rfl rfl rfl rfl rfl

theorem State.learn_kept {s0 : State} (s : State) (p : Nat) (b : Bar) (h : Kept s0 s) : Kept s0 (State.learn s p b) := by
  unfold State.learn
  have hg := State.ringGate_kept s p b h
  generalize s.ringGate p b = g at hg ⊢
  dsimp only
  have hn := State.notify_kept g.1 p g.2 hg
  generalize g.1.notify p g.2 = sb at hn ⊢
  have hp := State.putBar_kept sb.1 p sb.2 hn
  generalize sb.1.putBar p sb.2 = y at hp ⊢
  refine Kept.ite hp (Kept.ite hp ?_)
  split
  · exact hp
  · split
    · exact hp
    · refine State.putBar_kept _ _ _ (Kept.ite ?_ (forEach_kept _ _ ?_ _ (fun s q hs => State.leave_kept _ _ _ _ _ hs))) <;>
      · refine State.when_kept ?_ _ _ (fun s hs => State.mark_kept _ _ _ hs)
        split
        · exact State.countStall_kept _ _ _ _ (State.when_kept hp _ _ (fun s hs => State.p_kept _ _ _ _ hs))
        · exact State.when_kept hp _ _ (fun s hs => State.p_kept _ _ _ _ hs)

theorem State.learnAll_kept {s0 : State} (s : State) (p : Nat) (h : Kept s0 s) : Kept s0 (State.learnAll s p) := by
  unfold State.learnAll
  dsimp only
  have hf := foldl_kept ((s.prt p).bars.filter (fun b => b.rel.isNone)) s h (fun s b => s.learn p b)
    (fun s b hs => State.learn_kept _ _ _ hs)
  generalize ((s.prt p).bars.filter (fun b => b.rel.isNone)).foldl (fun s b => s.learn p b) s = y at hf ⊢
  exact Kept.ite (State.toIdle_kept _ _ _ _ hf) hf

theorem State.lineIn_kept {s0 : State} (s : State) (p : Nat) (line : List (List Bool)) (h : Kept s0 s) :
    Kept s0 (State.lineIn s p line) := by
  unfold State.lineIn
  repeat' first
    | with_reducible assumption | intro _ | with_reducible apply forEach_kept | with_reducible apply foldl_kept
    | with_reducible apply State.laneBit_kept | with_reducible apply Kept.ite | split | dsimp only
    | with_reducible refine Kept.put ?_ rfl rfl rfl rfl rfl rfl rfl rfl rfl rfl

theorem State.linkFall_kept {s0 : State} (s : State) (h : Kept s0 s) :
    Kept s0 (State.linkFall s) := by
  unfold State.linkFall
  repeat' first
    | with_reducible assumption | intro _ | with_reducible apply State.linkLost_kept
    | with_reducible apply State.unflag_kept | with_reducible apply State.p_kept | with_reducible apply Kept.ite
    | split | dsimp only | with_reducible refine Kept.put ?_ rfl rfl rfl rfl rfl rfl rfl rfl rfl rfl

theorem State.linkReset_kept {s0 : State} (s : State) (h : Kept s0 s) :
    Kept s0 (State.linkReset s) := by
  unfold State.linkReset
  repeat' first
    | with_reducible assumption | intro _ | with_reducible apply forEach_kept
    | with_reducible apply State.linkFall_kept | with_reducible apply State.intReset_kept
    | with_reducible apply State.dropQueues_kept | with_reducible apply Kept.ite | split | dsimp only
    | with_reducible refine Kept.put ?_ rfl rfl rfl rfl rfl rfl rfl rfl rfl rfl

theorem State.linkTrain_kept {s0 : State} (s : State) (h : Kept s0 s) :
    Kept s0 (State.linkTrain s) := by
  unfold State.linkTrain
  repeat' first
    | with_reducible assumption | intro _ | with_reducible apply State.fresh_kept
    | with_reducible apply State.flag_kept | with_reducible apply State.p_kept | with_reducible apply Kept.ite | split
    | dsimp only | with_reducible refine Kept.put ?_ rfl rfl rfl rfl rfl rfl rfl rfl rfl rfl

theorem State.loadFuses_kept {s0 : State} (s : State) (h : Kept s0 s) : Kept s0 (State.loadFuses s) := by
  unfold State.loadFuses
  dsimp only
  refine State.setReg_kept _ _ _ (State.when_kept ?_ _ _ (fun s hs => State.flag_kept _ _ _ hs))
  exact h.change id id id (fun g x => ⟨x.2, x.2⟩) id id rfl rfl (fun _ => rfl)

theorem State.loadSettings_kept {s0 : State} (s : State) (ok : Bool) (h : Kept s0 s) :
    Kept s0 (State.loadSettings s ok) := by
  unfold State.loadSettings
  repeat' first
    | with_reducible assumption | intro _ | with_reducible apply State.p_kept | with_reducible apply State.flag_kept
    | with_reducible apply Kept.ite | split | dsimp only
    | with_reducible refine Kept.put ?_ rfl rfl rfl rfl rfl rfl rfl rfl rfl rfl

theorem State.loadWin_kept {s0 : State} (s : State) (q : Nat) (hv : Nat) (w : Nat) (h : Kept s0 s) :
    Kept s0 (State.loadWin s q hv w) := by
  unfold State.loadWin
  repeat' first
    | with_reducible assumption | intro _ | with_reducible apply foldl_kept | with_reducible apply State.bump_kept
    | with_reducible apply State.setSq_kept | with_reducible apply Kept.ite | split | dsimp only
    | with_reducible refine Kept.put ?_ rfl rfl rfl rfl rfl rfl rfl rfl rfl rfl

theorem State.lockLoss_kept {s0 : State} (s : State) (l : Nat) (h : Kept s0 s) :
    Kept s0 (State.lockLoss s l) := by
  unfold State.lockLoss
  repeat' first
    | with_reducible assumption | intro _ | with_reducible apply State.setLane_kept
    | with_reducible apply State.logIt_kept | with_reducible apply State.bump_kept
    | with_reducible apply State.laneRetire_kept | with_reducible apply State.setLaneRx_kept
    | with_reducible apply Kept.ite | split | dsimp only
    | with_reducible refine Kept.put ?_ rfl rfl rfl rfl rfl rfl rfl rfl rfl rfl

theorem State.logRead_kept {s0 : State} (s : State) (fn : Nat) (i : Nat) (h : Kept s0 s) :
    Kept s0 (State.logRead s fn i) := by
  unfold State.logRead
  repeat' first
    | with_reducible assumption | intro _ | with_reducible apply forEach_kept | with_reducible apply Kept.ite | split
    | dsimp only | with_reducible refine Kept.put ?_ rfl rfl rfl rfl rfl rfl rfl rfl rfl rfl

theorem State.logicStop_kept {s0 : State} (s : State) (h : Kept s0 s) :
    Kept s0 (State.logicStop s) := by
  unfold State.logicStop
  repeat' first
    | with_reducible assumption | intro _ | with_reducible apply foldl_kept | with_reducible apply State.fresh_kept
    | with_reducible apply State.flag_kept | with_reducible apply State.domResult_kept
    | with_reducible apply State.settle_kept | with_reducible apply State.unflag_kept | with_reducible apply Kept.ite
    | split | dsimp only | with_reducible refine Kept.put ?_ rfl rfl rfl rfl rfl rfl rfl rfl rfl rfl

theorem State.winRead_kept {s0 : State} (s : State) (fn : Nat) (a : Nat) (h : Kept s0 s) :
    Kept s0 (State.winRead s fn a) := by
  unfold State.winRead
  repeat' first
    | with_reducible assumption | intro _ | with_reducible apply State.answer_kept
    | with_reducible apply State.hold_kept | with_reducible apply State.memUnmapped_kept
    | with_reducible apply State.ddrIssue_kept | with_reducible apply State.fresh_kept
    | with_reducible apply State.memBad_kept | with_reducible apply Kept.ite | split | dsimp only
    | with_reducible refine Kept.put ?_ rfl rfl rfl rfl rfl rfl rfl rfl rfl rfl

theorem State.lowRead_kept {s0 : State} (s : State) (fn : Nat) (a : Nat) (r : RegDesc) (ix : List Nat) (h : Kept s0 s) :
    Kept s0 (State.lowRead s fn a r ix) := by
  unfold State.lowRead
  repeat' first
    | with_reducible assumption | intro _ | with_reducible apply State.kernI_kept
    | with_reducible apply State.winRead_kept | with_reducible apply State.answer_kept
    | with_reducible apply State.hold_kept | with_reducible apply State.setMon_kept | with_reducible apply Kept.ite
    | split | dsimp only | with_reducible refine Kept.put ?_ rfl rfl rfl rfl rfl rfl rfl rfl rfl rfl

theorem State.mapCauses_kept {s0 : State} (s : State) (h : Kept s0 s) :
    Kept s0 (State.mapCauses s) := by
  unfold State.mapCauses
  repeat' first
    | with_reducible assumption | intro _ | with_reducible apply foldl_kept
    | with_reducible apply State.raiseSafe_kept | with_reducible apply Kept.ite | split | dsimp only
    | with_reducible refine Kept.put ?_ rfl rfl rfl rfl rfl rfl rfl rfl rfl rfl

theorem State.mapChannels_kept {s0 : State} (s : State) (h : Kept s0 s) :
    Kept s0 (State.mapChannels s) := by
  unfold State.mapChannels
  repeat' first
    | with_reducible assumption | intro _ | with_reducible apply foldl_kept | with_reducible apply State.flag_kept
    | with_reducible apply Kept.ite | split | dsimp only
    | with_reducible refine Kept.put ?_ rfl rfl rfl rfl rfl rfl rfl rfl rfl rfl

theorem State.mapWrite_kept {s0 : State} (s : State) (h : Kept s0 s) :
    Kept s0 (State.mapWrite s) := by
  unfold State.mapWrite
  repeat' first
    | with_reducible assumption | intro _ | with_reducible apply forEach_kept
    | with_reducible apply State.flashWrite_kept | with_reducible apply Kept.ite | split | dsimp only
    | with_reducible refine Kept.put ?_ rfl rfl rfl rfl rfl rfl rfl rfl rfl rfl

theorem State.marchBad_kept {s0 : State} (s : State) (bad : List Nat) (h : Kept s0 s) :
    Kept s0 (State.marchBad s bad) := by
  unfold State.marchBad
  repeat' first
    | with_reducible assumption | intro _ | with_reducible apply forEach_kept | with_reducible apply State.fresh_kept
    | with_reducible apply State.rowRepair_kept | with_reducible apply State.logIt_kept
    | with_reducible apply Kept.ite | split | dsimp only
    | with_reducible refine Kept.put ?_ rfl rfl rfl rfl rfl rfl rfl rfl rfl rfl

theorem State.marchReg_kept {s0 : State} (s : State) (h : Kept s0 s) :
    Kept s0 (State.marchReg s) := by
  unfold State.marchReg
  repeat' first
    | with_reducible assumption | intro _ | with_reducible apply State.marchStart_kept | with_reducible apply Kept.ite
    | split | dsimp only | with_reducible refine Kept.put ?_ rfl rfl rfl rfl rfl rfl rfl rfl rfl rfl

theorem State.maskNext_kept {s0 : State} (s : State) (q : Nat) (h : Kept s0 s) :
    Kept s0 (State.maskNext s q) := by
  unfold State.maskNext
  repeat' first
    | with_reducible assumption | intro _ | with_reducible apply State.p_kept | with_reducible apply Kept.ite | split
    | dsimp only | with_reducible refine Kept.put ?_ rfl rfl rfl rfl rfl rfl rfl rfl rfl rfl

theorem State.memCorrect_kept {s0 : State} (s : State) (d : Nat) (h : Kept s0 s) :
    Kept s0 (State.memCorrect s d) := by
  unfold State.memCorrect
  repeat' first
    | with_reducible assumption | intro _ | with_reducible apply State.when_kept
    | with_reducible apply State.bump64_kept | with_reducible apply State.bump_kept
    | with_reducible apply State.locHit_kept | with_reducible apply State.logIt_kept | with_reducible apply Kept.ite
    | split | dsimp only | with_reducible refine Kept.put ?_ rfl rfl rfl rfl rfl rfl rfl rfl rfl rfl

theorem State.monResult_kept {s0 : State} (s : State) (m : Nat) (raw : Int) (inj : Bool) (at_ : Nat) (elem : Nat) (h : Kept s0 s) :
    Kept s0 (State.monResult s m raw inj at_ elem) := by
  unfold State.monResult
  repeat' first
    | with_reducible assumption | intro _ | with_reducible apply State.when_kept | with_reducible apply foldl_kept
    | with_reducible apply State.bump_kept | with_reducible apply State.flag_kept | with_reducible apply State.p_kept
    | with_reducible apply State.setMon_kept | with_reducible apply Kept.ite | split | dsimp only
    | with_reducible refine Kept.put ?_ rfl rfl rfl rfl rfl rfl rfl rfl rfl rfl

theorem State.monDone_kept {s0 : State} (s : State) (m : Nat) (raw : Int) (inj : Bool) (at_ : Nat) (elem : Nat) (h : Kept s0 s) :
    Kept s0 (State.monDone s m raw inj at_ elem) := by
  unfold State.monDone
  repeat' first
    | with_reducible assumption | intro _ | with_reducible apply State.when_kept
    | with_reducible apply State.monResult_kept | with_reducible apply Kept.ite | split | dsimp only
    | with_reducible refine Kept.put ?_ rfl rfl rfl rfl rfl rfl rfl rfl rfl rfl

theorem State.moveRead_kept {s0 : State} (s : State) (c : Nat) (p : Nat) (q : Nat) (h : Kept s0 s) :
    Kept s0 (State.moveRead s c p q) := by
  unfold State.moveRead
  repeat' first
    | with_reducible assumption | intro _ | with_reducible apply forEach_kept | with_reducible apply State.memBad_kept
    | with_reducible apply Kept.ite | split | dsimp only
    | with_reducible refine Kept.put ?_ rfl rfl rfl rfl rfl rfl rfl rfl rfl rfl

theorem State.moveTick_kept {s0 : State} (s : State) (h : Kept s0 s) :
    Kept s0 (State.moveTick s) := by
  unfold State.moveTick
  repeat' first
    | with_reducible assumption | intro _ | with_reducible apply forEach_kept | with_reducible apply State.fresh_kept
    | with_reducible apply State.p_kept | with_reducible apply State.moveRead_kept | with_reducible apply Kept.ite
    | split | dsimp only | with_reducible refine Kept.put ?_ rfl rfl rfl rfl rfl rfl rfl rfl rfl rfl

theorem State.msixReset_kept {s0 : State} (s : State) (fn : Nat) (h : Kept s0 s) :
    Kept s0 (State.msixReset s fn) := by
  unfold State.msixReset
  repeat' first
    | with_reducible assumption | intro _ | with_reducible apply Kept.ite | split | dsimp only
    | with_reducible refine Kept.put ?_ rfl rfl rfl rfl rfl rfl rfl rfl rfl rfl

theorem State.msixUnmask_kept {s0 : State} (s : State) (fn : Nat) (v : Nat) (h : Kept s0 s) :
    Kept s0 (State.msixUnmask s fn v) := by
  unfold State.msixUnmask
  repeat' first
    | with_reducible assumption | intro _ | with_reducible apply State.msixSend_kept | with_reducible apply Kept.ite
    | split | dsimp only | with_reducible refine Kept.put ?_ rfl rfl rfl rfl rfl rfl rfl rfl rfl rfl

theorem State.msixResume_kept {s0 : State} (s : State) (h : Kept s0 s) :
    Kept s0 (State.msixResume s) := by
  unfold State.msixResume
  repeat' first
    | with_reducible assumption | intro _ | with_reducible apply forEach_kept
    | with_reducible apply State.msixUnmask_kept | with_reducible apply Kept.ite | split | dsimp only
    | with_reducible refine Kept.put ?_ rfl rfl rfl rfl rfl rfl rfl rfl rfl rfl

theorem State.msixWrite_kept {s0 : State} (s : State) (fn : Nat) (o : Nat) (w : Word) (h : Kept s0 s) :
    Kept s0 (State.msixWrite s fn o w) := by
  unfold State.msixWrite
  repeat' first
    | with_reducible assumption | intro _ | with_reducible apply State.msixUnmask_kept | with_reducible apply Kept.ite
    | split | dsimp only | with_reducible refine Kept.put ?_ rfl rfl rfl rfl rfl rfl rfl rfl rfl rfl

theorem State.onRead_kept {s0 : State} (s : State) (fn a : Nat) (f : State → State) (h : Kept s0 s)
    (hf : ∀ s, Kept s0 s → Kept s0 (f s)) : Kept s0 (State.onRead s fn a f) := by
  have hg := State.gate_kept s fn a false h
  unfold State.onRead
  split
  · rename_i e; rw [e] at hg; exact hf _ hg
  · rename_i e; rw [e] at hg; exact Kept.upd (s := _) hg rfl rfl rfl rfl rfl rfl rfl rfl rfl rfl

theorem State.onWrite_kept {s0 : State} (s : State) (fn a : Nat) (f : State → State) (h : Kept s0 s)
    (hf : ∀ s, Kept s0 s → Kept s0 (f s)) : Kept s0 (State.onWrite s fn a f) := by
  have hg := State.gate_kept s fn a true h
  unfold State.onWrite
  split
  · rename_i e; rw [e] at hg; exact hf _ hg
  · rename_i e; rw [e] at hg; exact hg

theorem execHeatTripWrite_kept {s0 : State} (fn : Nat) (ch : Nat) (s : State) (h : Kept s0 s) :
    KeptOut s0 (execHeatTripWrite fn ch s) := by
  unfold execHeatTripWrite
  repeat' first
    | with_reducible assumption | intro _ | with_reducible apply State.onWrite_kept
    | with_reducible apply State.tripClear_kept | with_reducible apply KeptOut.next | with_reducible apply KeptOut.ite
    | with_reducible apply Kept.ite | split | dsimp only
    | with_reducible refine Kept.put ?_ rfl rfl rfl rfl rfl rfl rfl rfl rfl rfl

theorem State.outStatus_kept {s0 : State} (s : State) (fn : Nat) (a : Nat) (n : Nat) (w : Word) (h : Kept s0 s) :
    Kept s0 (State.outStatus s fn a n w) := by
  unfold State.outStatus
  repeat' first
    | with_reducible assumption | intro _ | with_reducible apply KeptActs.cons | with_reducible apply KeptActs.nil
    | with_reducible apply State.acts_kept | with_reducible apply State.plainWrite_kept
    | with_reducible apply execHeatTripWrite_kept | with_reducible apply Kept.ite | split | dsimp only
    | with_reducible refine Kept.put ?_ rfl rfl rfl rfl rfl rfl rfl rfl rfl rfl

theorem State.paceGo_kept {s0 : State} (s : State) (b : Nat) (h : Kept s0 s) :
    Kept s0 (State.paceGo s b) := by
  unfold State.paceGo
  repeat' first
    | with_reducible assumption | intro _ | with_reducible apply State.biasPop_kept
    | with_reducible apply State.setBias_kept | with_reducible apply Kept.ite | split | dsimp only
    | with_reducible refine Kept.put ?_ rfl rfl rfl rfl rfl rfl rfl rfl rfl rfl

theorem State.paceMerge_kept {s0 : State} (s : State) (b : Nat) (h : Kept s0 s) :
    Kept s0 (State.paceMerge s b) := by
  unfold State.paceMerge
  repeat' first
    | with_reducible assumption | intro _ | with_reducible apply State.bump_kept | with_reducible apply Kept.ite
    | split | dsimp only | with_reducible refine Kept.put ?_ rfl rfl rfl rfl rfl rfl rfl rfl rfl rfl

theorem State.partArmReg_kept {s0 : State} (s : State) (p : Nat) (h : Kept s0 s) :
    Kept s0 (State.partArmReg s p) := by
  unfold State.partArmReg
  repeat' first
    | with_reducible assumption | intro _ | with_reducible apply State.arm_kept | with_reducible apply Kept.ite
    | split | dsimp only | with_reducible refine Kept.put ?_ rfl rfl rfl rfl rfl rfl rfl rfl rfl rfl

theorem State.writeWithheld_kept {s0 : State} (s : State) (p : Nat) (f : Nat → Bool) (g : Nat → Nat) (h : Kept s0 s) :
    Kept s0 (State.writeWithheld s p f g) := by
  unfold State.writeWithheld
  repeat' first
    | with_reducible assumption | intro _ | with_reducible apply Kept.ite | split | dsimp only
    | with_reducible refine Kept.put ?_ rfl rfl rfl rfl rfl rfl rfl rfl rfl rfl

theorem State.partnerFailed_kept {s0 : State} (s : State) (cause : Nat) (h : Kept s0 s) :
    Kept s0 (State.partnerFailed s cause) := by
  unfold State.partnerFailed
  repeat' first
    | with_reducible assumption | intro _ | with_reducible apply forEach_kept | with_reducible apply id_kept
    | with_reducible apply State.raiseSafe_kept | with_reducible apply State.twinFail_kept
    | with_reducible apply State.mirrorAll_kept | with_reducible apply State.bump_kept
    | with_reducible apply State.twinSet_kept | with_reducible apply State.logIt_kept
    | with_reducible apply State.flag_kept | with_reducible apply State.learnAll_kept
    | with_reducible apply State.writeWithheld_kept | with_reducible apply Kept.ite | split | dsimp only
    | with_reducible refine Kept.put ?_ rfl rfl rfl rfl rfl rfl rfl rfl rfl rfl

theorem State.passDone_kept {s0 : State} (s : State) (c : Nat) (h : Kept s0 s) :
    Kept s0 (State.passDone s c) := by
  unfold State.passDone
  repeat' first
    | with_reducible assumption | intro _ | with_reducible apply foldl_kept | with_reducible apply State.bump_kept
    | with_reducible apply Kept.ite | split | dsimp only
    | with_reducible refine Kept.put ?_ rfl rfl rfl rfl rfl rfl rfl rfl rfl rfl

theorem State.peerChanged_kept {s0 : State} (s : State) (p : Nat) (h : Kept s0 s) :
    Kept s0 (State.peerChanged s p) := by
  unfold State.peerChanged
  repeat' first
    | with_reducible assumption | intro _ | with_reducible apply State.dropReplay_kept
    | with_reducible apply State.setPort_kept | with_reducible apply State.portGone_kept
    | with_reducible apply State.flag_kept | with_reducible apply State.portLeave_kept | with_reducible apply Kept.ite
    | split | dsimp only | with_reducible refine Kept.put ?_ rfl rfl rfl rfl rfl rfl rfl rfl rfl rfl

theorem State.peerIs_kept {s0 : State} (s : State) (p : Nat) (w : W64) (h : Kept s0 s) :
    Kept s0 (State.peerIs s p w) := by
  unfold State.peerIs
  repeat' first
    | with_reducible assumption | intro _ | with_reducible apply State.p64_kept | with_reducible apply State.p_kept
    | with_reducible apply State.flag_kept | with_reducible apply Kept.ite | split | dsimp only
    | with_reducible refine Kept.put ?_ rfl rfl rfl rfl rfl rfl rfl rfl rfl rfl

theorem State.post_kept {s0 : State} (s : State) (n : Nat) (h : Kept s0 s) :
    Kept s0 (State.post s n) := by
  unfold State.post
  repeat' first
    | with_reducible assumption | intro _ | with_reducible apply State.when_kept
    | with_reducible apply State.hostWrite_kept | with_reducible apply State.p_kept
    | with_reducible apply State.intEdge_kept | with_reducible apply State.msixSend_kept
    | with_reducible apply Kept.ite | split | dsimp only
    | with_reducible refine Kept.put ?_ rfl rfl rfl rfl rfl rfl rfl rfl rfl rfl

theorem State.postAll_kept {s0 : State} (s : State) (n : Nat) (h : Kept s0 s) :
    Kept s0 (State.postAll s n) := by
  unfold State.postAll
  repeat' first
    | with_reducible assumption | intro _ | with_reducible apply forEach_kept | with_reducible apply State.post_kept
    | with_reducible apply Kept.ite | split | dsimp only
    | with_reducible refine Kept.put ?_ rfl rfl rfl rfl rfl rfl rfl rfl rfl rfl

theorem State.proofMarch_kept {s0 : State} (s : State) (bad ranks : List Nat) (h : Kept s0 s) :
    Kept s0 (State.proofMarch s bad ranks).1 := by
  unfold State.proofMarch
  dsimp only
  have hb := State.marchBad_kept s bad h
  generalize s.marchBad bad = x at hb ⊢
  have hk : Kept s0 (if s.on Page.bst F.BST_CFG_DDR4_PROOF = true then
      forEach (ranks.filter (· < 8)) x (fun s r => s.rankRetire (r / 2) (r % 2) 0) else x) :=
    Kept.ite (forEach_kept _ _ hb _ (fun s n hs => State.rankRetire_kept _ _ _ _ hs)) hb
  exact hk.change id id id (fun _ => id) (fun _ => Nat.zero_le _) id rfl rfl (fun _ => rfl)

theorem State.proofEnd_kept {s0 : State} (s : State) (bad : List Nat) (ranks : List Nat) (h : Kept s0 s) :
    Kept s0 (State.proofEnd s bad ranks) := by
  unfold State.proofEnd
  repeat' first
    | with_reducible assumption | intro _ | with_reducible apply State.proofMarch_kept
    | with_reducible apply State.mapWrite_kept | with_reducible apply State.fresh_kept | with_reducible apply Kept.ite
    | split | dsimp only | with_reducible refine Kept.put ?_ rfl rfl rfl rfl rfl rfl rfl rfl rfl rfl

theorem State.rampEnd_kept {s0 : State} (s : State) (b : Nat) (h : Kept s0 s) :
    Kept s0 (State.rampEnd s b) := by
  unfold State.rampEnd
  repeat' first
    | with_reducible assumption | intro _ | with_reducible apply State.unflag_kept
    | with_reducible apply State.setBias_kept | with_reducible apply State.biasCut_kept
    | with_reducible apply Kept.ite | split | dsimp only
    | with_reducible refine Kept.put ?_ rfl rfl rfl rfl rfl rfl rfl rfl rfl rfl

theorem State.rateFree_kept {s0 : State} (s : State) (h : Kept s0 s) :
    Kept s0 (State.rateFree s) := by
  unfold State.rateFree
  repeat' first
    | with_reducible assumption | intro _ | with_reducible apply State.fresh_kept | with_reducible apply State.p_kept
    | with_reducible apply Kept.ite | split | dsimp only
    | with_reducible refine Kept.put ?_ rfl rfl rfl rfl rfl rfl rfl rfl rfl rfl

theorem State.rateTo_kept {s0 : State} (s : State) (u : Nat) (k : Nat) (h : Kept s0 s) :
    Kept s0 (State.rateTo s u k) := by
  unfold State.rateTo
  repeat' first
    | with_reducible assumption | intro _ | with_reducible apply State.setCu_kept | with_reducible apply Kept.ite
    | split | dsimp only | with_reducible refine Kept.put ?_ rfl rfl rfl rfl rfl rfl rfl rfl rfl rfl

theorem State.windowRead_kept {s0 : State} (s : State) (fn : Nat) (a : Nat) (h : Kept s0 s) :
    Kept s0 (State.windowRead s fn a) := by
  unfold State.windowRead
  repeat' first
    | with_reducible assumption | intro _ | with_reducible apply forEach_kept | with_reducible apply State.answer_kept
    | with_reducible apply State.hold_kept | with_reducible apply State.logRead_kept | with_reducible apply Kept.ite
    | split | dsimp only | with_reducible refine Kept.put ?_ rfl rfl rfl rfl rfl rfl rfl rfl rfl rfl

theorem execTcuTimeHiRead_kept {s0 : State} (fn : Nat) (n : Nat) (s : State) (h : Kept s0 s) :
    KeptOut s0 (execTcuTimeHiRead fn n s) := by
  unfold execTcuTimeHiRead
  repeat' first
    | with_reducible assumption | intro _ | with_reducible apply State.onRead_kept
    | with_reducible apply State.unflag_kept | with_reducible apply KeptOut.next | with_reducible apply KeptOut.ite
    | with_reducible apply Kept.ite | split | dsimp only
    | with_reducible refine Kept.put ?_ rfl rfl rfl rfl rfl rfl rfl rfl rfl rfl

theorem execIntClaimRead_kept {s0 : State} (fn : Nat) (t : Nat) (s : State) (h : Kept s0 s) :
    KeptOut s0 (execIntClaimRead fn t s) := by
  unfold execIntClaimRead
  repeat' first
    | with_reducible assumption | intro _ | with_reducible apply State.onRead_kept
    | with_reducible apply State.claimRead_kept | with_reducible apply KeptOut.next | with_reducible apply KeptOut.ite
    | with_reducible apply Kept.ite | split | dsimp only
    | with_reducible refine Kept.put ?_ rfl rfl rfl rfl rfl rfl rfl rfl rfl rfl

theorem execDrvEnvDataAccess_kept {s0 : State} (fn : Nat) (q : Nat) (wr : Option Word) (s : State) (h : Kept s0 s) :
    KeptOut s0 (execDrvEnvDataAccess fn q wr s) := by
  unfold execDrvEnvDataAccess
  repeat' first
    | with_reducible assumption | intro _ | with_reducible apply State.onWrite_kept
    | with_reducible apply State.envData_kept | with_reducible apply State.onRead_kept
    | with_reducible apply KeptOut.next | with_reducible apply KeptOut.ite | with_reducible apply Kept.ite | split
    | dsimp only | with_reducible refine Kept.put ?_ rfl rfl rfl rfl rfl rfl rfl rfl rfl rfl

theorem execRdoKernQAccess_kept {s0 : State} (fn : Nat) (q : Nat) (wr : Option Word) (s : State) (h : Kept s0 s) :
    KeptOut s0 (execRdoKernQAccess fn q wr s) := by
  unfold execRdoKernQAccess
  repeat' first
    | with_reducible assumption | intro _ | with_reducible apply State.onWrite_kept
    | with_reducible apply State.kernQ_kept | with_reducible apply State.onRead_kept
    | with_reducible apply KeptOut.next | with_reducible apply KeptOut.ite | with_reducible apply Kept.ite | split
    | dsimp only | with_reducible refine Kept.put ?_ rfl rfl rfl rfl rfl rfl rfl rfl rfl rfl

theorem execAcqMaskHiAccess_kept {s0 : State} (fn : Nat) (q : Nat) (wr : Option Word) (s : State) (h : Kept s0 s) :
    KeptOut s0 (execAcqMaskHiAccess fn q wr s) := by
  unfold execAcqMaskHiAccess
  repeat' first
    | with_reducible assumption | intro _ | with_reducible apply State.onWrite_kept
    | with_reducible apply State.maskNext_kept | with_reducible apply State.lockedWrite_kept
    | with_reducible apply State.maskWrite_kept | with_reducible apply State.onRead_kept
    | with_reducible apply KeptOut.next | with_reducible apply KeptOut.ite | with_reducible apply Kept.ite | split
    | dsimp only | with_reducible refine Kept.put ?_ rfl rfl rfl rfl rfl rfl rfl rfl rfl rfl

theorem execMonDataHiRead_kept {s0 : State} (fn : Nat) (m : Nat) (s : State) (h : Kept s0 s) :
    KeptOut s0 (execMonDataHiRead fn m s) := by
  unfold execMonDataHiRead
  repeat' first
    | with_reducible assumption | intro _ | with_reducible apply State.onRead_kept
    | with_reducible apply State.setMon_kept | with_reducible apply State.unflag_kept
    | with_reducible apply KeptOut.next | with_reducible apply KeptOut.ite | with_reducible apply Kept.ite | split
    | dsimp only | with_reducible refine Kept.put ?_ rfl rfl rfl rfl rfl rfl rfl rfl rfl rfl

theorem State.winNext_kept {s0 : State} (s : State) (h : Kept s0 s) :
    Kept s0 (State.winNext s) := by
  unfold State.winNext
  repeat' first
    | with_reducible assumption | intro _ | with_reducible apply State.p_kept | with_reducible apply State.setReg_kept
    | with_reducible apply Kept.ite | split | dsimp only
    | with_reducible refine Kept.put ?_ rfl rfl rfl rfl rfl rfl rfl rfl rfl rfl

theorem execMemWinDataHiAccess_kept {s0 : State} (fn : Nat) (wr : Option Word) (s : State) (h : Kept s0 s) :
    KeptOut s0 (execMemWinDataHiAccess fn wr s) := by
  unfold execMemWinDataHiAccess
  repeat' first
    | with_reducible assumption | intro _ | with_reducible apply State.onWrite_kept
    | with_reducible apply State.winNext_kept | with_reducible apply State.ddrWrite_kept
    | with_reducible apply State.ddrIssue_kept | with_reducible apply State.memUnmapped_kept
    | with_reducible apply State.onRead_kept | with_reducible apply KeptOut.next | with_reducible apply KeptOut.ite
    | with_reducible apply Kept.ite | split | dsimp only
    | with_reducible refine Kept.put ?_ rfl rfl rfl rfl rfl rfl rfl rfl rfl rfl

theorem State.readAt_kept {s0 : State} (s : State) (fn a : Nat) (h : Kept s0 s) : Kept s0 (State.readAt s fn a) := by
  have hr : ∀ r ix f, rowRead fn r ix = some f → ∀ s, Kept s0 s → KeptOut s0 (f s) := by
    intro r ix f e s hs
    unfold rowRead at e
    dsimp only at e
    repeat' split at e
    all_goals first
      | contradiction
      | cases e
        first
          | exact execTcuTimeHiRead_kept _ _ _ hs
          | exact execIntClaimRead_kept _ _ _ hs
          | exact execDrvEnvDataAccess_kept _ _ _ _ hs
          | exact execRdoKernQAccess_kept _ _ _ _ hs
          | exact execAcqMaskHiAccess_kept _ _ _ _ hs
          | exact execMonDataHiRead_kept _ _ _ hs
          | exact execMemWinDataHiAccess_kept _ _ _ hs
  unfold State.readAt
  split
  · split
    · rename_i e
      exact State.via_kept _ _ h (hr _ _ _ e)
    · exact State.onRead_kept _ _ _ _ h (fun s hs => State.lowRead_kept _ _ _ _ _ hs)
  · exact State.onRead_kept _ _ _ _ h (fun s hs => State.windowRead_kept _ _ _ hs)

theorem State.recConsume_kept {s0 : State} (s : State) (p : Nat) (v : Nat) (h : Kept s0 s) :
    Kept s0 (State.recConsume s p v) := by
  unfold State.recConsume
  repeat' first
    | with_reducible assumption | intro _ | with_reducible apply State.flag_kept | with_reducible apply State.p_kept
    | with_reducible apply State.recTake_kept | with_reducible apply Kept.ite | split | dsimp only
    | with_reducible refine Kept.put ?_ rfl rfl rfl rfl rfl rfl rfl rfl rfl rfl

theorem State.recProdTo_kept {s0 : State} (s : State) (p : Nat) (n : Nat) (h : Kept s0 s) :
    Kept s0 (State.recProdTo s p n) := by
  unfold State.recProdTo
  repeat' first
    | with_reducible assumption | intro _ | with_reducible apply State.p_kept
    | with_reducible apply State.recTake_kept | with_reducible apply Kept.ite | split | dsimp only
    | with_reducible refine Kept.put ?_ rfl rfl rfl rfl rfl rfl rfl rfl rfl rfl

end Sys2Proof.Machine
end

