-- ==== Sys2Proof/Laws/KeptF.lean ====
section
/-!
SUPPORT. Laws/KeptF.lean: that the operations of the model keep what Laws/Kept.lean says, one lemma an operation, in the order in
which they build on one another.
-/

namespace Sys2Proof.Machine
open Sys2Proof

theorem State.recPad_kept {s0 : State} (s : State) (p : Nat) (h : Kept s0 s) :
    Kept s0 (State.recPad s p) := by
  unfold State.recPad
  repeat' first
    | with_reducible assumption | intro _ | with_reducible apply State.recProdTo_kept
    | with_reducible apply State.hostWrite_kept | with_reducible apply Kept.ite | split | dsimp only
    | with_reducible refine Kept.put ?_ rfl rfl rfl rfl rfl rfl rfl rfl rfl rfl

theorem State.recPut_kept {s0 : State} (s : State) (p : Nat) (r : Record) (l : List RecEnt) (h : Kept s0 s) :
    Kept s0 (State.recPut s p r l) := by
  unfold State.recPut
  repeat' first
    | with_reducible assumption | intro _ | with_reducible apply State.when_kept
    | with_reducible apply State.bump_kept | with_reducible apply State.hostWrite_kept
    | with_reducible apply State.recProdTo_kept | with_reducible apply Kept.ite | split | dsimp only
    | with_reducible refine Kept.put ?_ rfl rfl rfl rfl rfl rfl rfl rfl rfl rfl

theorem State.recWrite_kept {s0 : State} (s : State) (p : Nat) (h : Kept s0 s) :
    Kept s0 (State.recWrite s p) := by
  unfold State.recWrite
  repeat' first
    | with_reducible assumption | intro _ | with_reducible apply State.recPut_kept
    | with_reducible apply State.recPad_kept | with_reducible apply Kept.ite | split | dsimp only
    | with_reducible refine Kept.put ?_ rfl rfl rfl rfl rfl rfl rfl rfl rfl rfl

theorem State.refFall_kept {s0 : State} (s : State) (h : Kept s0 s) :
    Kept s0 (State.refFall s) := by
  unfold State.refFall
  repeat' first
    | with_reducible assumption | intro _ | with_reducible apply forEach_kept | with_reducible apply State.when_kept
    | with_reducible apply State.unflag_kept | with_reducible apply State.flag_kept
    | with_reducible apply State.unanchor_kept | with_reducible apply State.p_kept
    | with_reducible apply State.raiseSafe_kept | with_reducible apply Kept.ite | split | dsimp only
    | with_reducible refine Kept.put ?_ rfl rfl rfl rfl rfl rfl rfl rfl rfl rfl

theorem State.refillFail_kept {s0 : State} (s : State) (q : Nat) (w : Nat) (h : Kept s0 s) :
    Kept s0 (State.refillFail s q w) := by
  unfold State.refillFail
  repeat' first
    | with_reducible assumption | intro _ | with_reducible apply State.runAbort_kept
    | with_reducible apply State.memBad_kept | with_reducible apply Kept.ite | split | dsimp only
    | with_reducible refine Kept.put ?_ rfl rfl rfl rfl rfl rfl rfl rfl rfl rfl

theorem execBankedDoorbell_kept {s0 : State} (fn : Nat) (n : Nat) (v : Word) (s : State) (h : Kept s0 s) :
    KeptOut s0 (execBankedDoorbell fn n v s) := by
  unfold execBankedDoorbell
  repeat' first
    | with_reducible assumption | intro _ | with_reducible apply State.onWrite_kept
    | with_reducible apply State.startWake_kept | with_reducible apply KeptOut.next | with_reducible apply KeptOut.ite
    | with_reducible apply Kept.ite | split | dsimp only
    | with_reducible refine Kept.put ?_ rfl rfl rfl rfl rfl rfl rfl rfl rfl rfl

theorem execSqTailDoorbell_kept {s0 : State} (fn : Nat) (n : Nat) (v : Word) (s : State) (h : Kept s0 s) :
    KeptOut s0 (execSqTailDoorbell fn n v s) := by
  unfold execSqTailDoorbell
  repeat' first
    | with_reducible assumption | intro _ | with_reducible apply State.onWrite_kept
    | with_reducible apply State.ringSq_kept | with_reducible apply KeptOut.next | with_reducible apply KeptOut.ite
    | with_reducible apply Kept.ite | split | dsimp only
    | with_reducible refine Kept.put ?_ rfl rfl rfl rfl rfl rfl rfl rfl rfl rfl

theorem execCqHeadDoorbell_kept {s0 : State} (fn : Nat) (n : Nat) (v : Word) (s : State) (h : Kept s0 s) :
    KeptOut s0 (execCqHeadDoorbell fn n v s) := by
  unfold execCqHeadDoorbell
  repeat' first
    | with_reducible assumption | intro _ | with_reducible apply State.onWrite_kept
    | with_reducible apply State.ringCq_kept | with_reducible apply KeptOut.next | with_reducible apply KeptOut.ite
    | with_reducible apply Kept.ite | split | dsimp only
    | with_reducible refine Kept.put ?_ rfl rfl rfl rfl rfl rfl rfl rfl rfl rfl

theorem execIntSwiRegisterWrite_kept {s0 : State} (fn : Nat) (sw : Nat) (s : State) (h : Kept s0 s) :
    KeptOut s0 (execIntSwiRegisterWrite fn sw s) := by
  unfold execIntSwiRegisterWrite
  repeat' first
    | with_reducible assumption | intro _ | with_reducible apply State.onWrite_kept
    | with_reducible apply State.intEdge_kept | with_reducible apply KeptOut.next | with_reducible apply KeptOut.ite
    | with_reducible apply Kept.ite | split | dsimp only
    | with_reducible refine Kept.put ?_ rfl rfl rfl rfl rfl rfl rfl rfl rfl rfl

theorem execIntCompleteWrite_kept {s0 : State} (fn : Nat) (t : Nat) (id : Nat) (s : State) (h : Kept s0 s) :
    KeptOut s0 (execIntCompleteWrite fn t id s) := by
  unfold execIntCompleteWrite
  repeat' first
    | with_reducible assumption | intro _ | with_reducible apply State.onWrite_kept
    | with_reducible apply State.complete_kept | with_reducible apply KeptOut.next | with_reducible apply KeptOut.ite
    | with_reducible apply Kept.ite | split | dsimp only
    | with_reducible refine Kept.put ?_ rfl rfl rfl rfl rfl rfl rfl rfl rfl rfl

theorem execEvrCtrlCommit_kept {s0 : State} (fn : Nat) (s : State) (h : Kept s0 s) :
    KeptOut s0 (execEvrCtrlCommit fn s) := by
  unfold execEvrCtrlCommit
  repeat' first
    | with_reducible assumption | intro _ | with_reducible apply State.onWrite_kept
    | with_reducible apply State.evrCommit_kept | with_reducible apply KeptOut.next | with_reducible apply KeptOut.ite
    | with_reducible apply Kept.ite | split | dsimp only
    | with_reducible refine Kept.put ?_ rfl rfl rfl rfl rfl rfl rfl rfl rfl rfl

theorem execEvrCtrlDiscard_kept {s0 : State} (fn : Nat) (s : State) (h : Kept s0 s) :
    KeptOut s0 (execEvrCtrlDiscard fn s) := by
  unfold execEvrCtrlDiscard
  repeat' first
    | with_reducible assumption | intro _ | with_reducible apply State.onWrite_kept
    | with_reducible apply State.evrDiscard_kept | with_reducible apply KeptOut.next
    | with_reducible apply KeptOut.ite | with_reducible apply Kept.ite | split | dsimp only
    | with_reducible refine Kept.put ?_ rfl rfl rfl rfl rfl rfl rfl rfl rfl rfl

theorem execEvrSwPub_kept {s0 : State} (fn : Nat) (ch : Nat) (s : State) (h : Kept s0 s) :
    KeptOut s0 (execEvrSwPub fn ch s) := by
  unfold execEvrSwPub
  repeat' first
    | with_reducible assumption | intro _ | with_reducible apply State.onWrite_kept
    | with_reducible apply State.publish_kept | with_reducible apply KeptOut.next | with_reducible apply KeptOut.ite
    | with_reducible apply Kept.ite | split | dsimp only
    | with_reducible refine Kept.put ?_ rfl rfl rfl rfl rfl rfl rfl rfl rfl rfl

theorem State.writeCtl_kept {s0 : State} (s : State) (fn : Nat) (a : Nat) (r : RegDesc) (ix : List Nat) (w : Word) (h : Kept s0 s) :
    Kept s0 (State.writeCtl s fn a r ix w) := by
  unfold State.writeCtl
  repeat' first
    | with_reducible assumption | intro _ | with_reducible apply KeptActs.cons | with_reducible apply KeptActs.nil
    | with_reducible apply State.via_kept | with_reducible apply execBankedDoorbell_kept
    | with_reducible apply execSqTailDoorbell_kept | with_reducible apply execCqHeadDoorbell_kept
    | with_reducible apply execIntSwiRegisterWrite_kept | with_reducible apply execIntCompleteWrite_kept
    | with_reducible apply State.acts_kept | with_reducible apply execEvrCtrlCommit_kept
    | with_reducible apply execEvrCtrlDiscard_kept | with_reducible apply execEvrSwPub_kept
    | with_reducible apply State.evchWrite_kept | with_reducible apply State.plainWrite_kept
    | with_reducible apply Kept.ite | split | dsimp only
    | with_reducible refine Kept.put ?_ rfl rfl rfl rfl rfl rfl rfl rfl rfl rfl

theorem State.tdAnchor_kept {s0 : State} (s : State) (d : Nat) (h : Kept s0 s) :
    Kept s0 (State.tdAnchor s d) := by
  unfold State.tdAnchor
  repeat' first
    | with_reducible assumption | intro _ | with_reducible apply State.ctrlRefused_kept
    | with_reducible apply State.anchorAccept_kept | with_reducible apply Kept.ite | split | dsimp only
    | with_reducible refine Kept.put ?_ rfl rfl rfl rfl rfl rfl rfl rfl rfl rfl

theorem execTdCtrlAnchor_kept {s0 : State} (fn : Nat) (d : Nat) (s : State) (h : Kept s0 s) :
    KeptOut s0 (execTdCtrlAnchor fn d s) := by
  unfold execTdCtrlAnchor
  repeat' first
    | with_reducible assumption | intro _ | with_reducible apply State.onWrite_kept
    | with_reducible apply State.tdAnchor_kept | with_reducible apply KeptOut.next | with_reducible apply KeptOut.ite
    | with_reducible apply Kept.ite | split | dsimp only
    | with_reducible refine Kept.put ?_ rfl rfl rfl rfl rfl rfl rfl rfl rfl rfl

theorem State.tdPropagate_kept {s0 : State} (s : State) (d : Nat) (h : Kept s0 s) :
    Kept s0 (State.tdPropagate s d) := by
  unfold State.tdPropagate
  repeat' first
    | with_reducible assumption | intro _ | with_reducible apply State.ctrlRefused_kept
    | with_reducible apply State.propagate_kept | with_reducible apply Kept.ite | split | dsimp only
    | with_reducible refine Kept.put ?_ rfl rfl rfl rfl rfl rfl rfl rfl rfl rfl

theorem execTdCtrlPropagate_kept {s0 : State} (fn : Nat) (d : Nat) (s : State) (h : Kept s0 s) :
    KeptOut s0 (execTdCtrlPropagate fn d s) := by
  unfold execTdCtrlPropagate
  repeat' first
    | with_reducible assumption | intro _ | with_reducible apply State.onWrite_kept
    | with_reducible apply State.tdPropagate_kept | with_reducible apply KeptOut.next
    | with_reducible apply KeptOut.ite | with_reducible apply Kept.ite | split | dsimp only
    | with_reducible refine Kept.put ?_ rfl rfl rfl rfl rfl rfl rfl rfl rfl rfl

theorem State.tdRelease_kept {s0 : State} (s : State) (d : Nat) (h : Kept s0 s) :
    Kept s0 (State.tdRelease s d) := by
  unfold State.tdRelease
  repeat' first
    | with_reducible assumption | intro _ | with_reducible apply State.ctrlRefused_kept
    | with_reducible apply State.unanchor_kept | with_reducible apply Kept.ite | split | dsimp only
    | with_reducible refine Kept.put ?_ rfl rfl rfl rfl rfl rfl rfl rfl rfl rfl

theorem execTdCtrlRelease_kept {s0 : State} (fn : Nat) (d : Nat) (s : State) (h : Kept s0 s) :
    KeptOut s0 (execTdCtrlRelease fn d s) := by
  unfold execTdCtrlRelease
  repeat' first
    | with_reducible assumption | intro _ | with_reducible apply State.onWrite_kept
    | with_reducible apply State.tdRelease_kept | with_reducible apply KeptOut.next | with_reducible apply KeptOut.ite
    | with_reducible apply Kept.ite | split | dsimp only
    | with_reducible refine Kept.put ?_ rfl rfl rfl rfl rfl rfl rfl rfl rfl rfl

theorem State.ttuArm_kept {s0 : State} (s : State) (n : Nat) (h : Kept s0 s) :
    Kept s0 (State.ttuArm s n) := by
  unfold State.ttuArm
  repeat' first
    | with_reducible assumption | intro _ | with_reducible apply Kept.ite | split | dsimp only
    | with_reducible refine Kept.put ?_ rfl rfl rfl rfl rfl rfl rfl rfl rfl rfl

theorem State.ttuArmNext_kept {s0 : State} (s : State) (n : Nat) (h : Kept s0 s) :
    Kept s0 (State.ttuArmNext s n) := by
  unfold State.ttuArmNext
  repeat' first
    | with_reducible assumption | intro _ | with_reducible apply Kept.ite | split | dsimp only
    | with_reducible refine Kept.put ?_ rfl rfl rfl rfl rfl rfl rfl rfl rfl rfl

theorem State.ttuFire_kept {s0 : State} (s : State) (n : Nat) (h : Kept s0 s) :
    Kept s0 (State.ttuFire s n) := by
  unfold State.ttuFire
  repeat' first
    | with_reducible assumption | intro _ | with_reducible apply State.when_kept
    | with_reducible apply State.flag_kept | with_reducible apply State.p_kept
    | with_reducible apply State.ttuArm_kept | with_reducible apply State.p64_kept
    | with_reducible apply State.publish_kept | with_reducible apply Kept.ite | split | dsimp only
    | with_reducible refine Kept.put ?_ rfl rfl rfl rfl rfl rfl rfl rfl rfl rfl

theorem State.ttuRetarget_kept {s0 : State} (s : State) (n : Nat) (f : State → State) (h : Kept s0 s) (hf : ∀ s, Kept s0 s → Kept s0 (f s)) :
    Kept s0 (State.ttuRetarget s n f) := by
  unfold State.ttuRetarget
  repeat' first
    | with_reducible assumption | intro _ | with_reducible apply hf | with_reducible apply State.ttuArmNext_kept
    | with_reducible apply State.ttuFire_kept | with_reducible apply State.ttuArm_kept | with_reducible apply Kept.ite
    | split | dsimp only | with_reducible refine Kept.put ?_ rfl rfl rfl rfl rfl rfl rfl rfl rfl rfl

theorem State.setWall_kept {s0 : State} (s : State) (v : Nat) (h : Kept s0 s) :
    Kept s0 (State.setWall s v) := by
  unfold State.setWall
  repeat' first
    | with_reducible assumption | intro _ | with_reducible apply State.ppsDrop_kept
    | with_reducible apply State.p_kept | with_reducible apply Kept.ite | split | dsimp only
    | with_reducible refine Kept.put ?_ rfl rfl rfl rfl rfl rfl rfl rfl rfl rfl

theorem State.writeTim_kept {s0 : State} (s : State) (fn : Nat) (a : Nat) (r : RegDesc) (ix : List Nat) (w : Word) (h : Kept s0 s) :
    Kept s0 (State.writeTim s fn a r ix w) := by
  unfold State.writeTim
  repeat' first
    | with_reducible assumption | intro _ | with_reducible apply State.when_kept | with_reducible apply KeptActs.cons
    | with_reducible apply KeptActs.nil | with_reducible apply State.plainWrite_kept
    | with_reducible apply State.acts_kept | with_reducible apply execTdCtrlAnchor_kept
    | with_reducible apply execTdCtrlPropagate_kept | with_reducible apply execTdCtrlRelease_kept
    | with_reducible apply State.ttuArm_kept | with_reducible apply State.ttuRetarget_kept
    | with_reducible apply State.ppsDrop_kept | with_reducible apply State.setWall_kept
    | with_reducible apply Kept.ite | split | dsimp only
    | with_reducible refine Kept.put ?_ rfl rfl rfl rfl rfl rfl rfl rfl rfl rfl

theorem execPwrCtrlBank_kept {s0 : State} (fn : Nat) (s : State) (h : Kept s0 s) :
    KeptOut s0 (execPwrCtrlBank fn s) := by
  unfold execPwrCtrlBank
  repeat' first
    | with_reducible assumption | intro _ | with_reducible apply State.onWrite_kept
    | with_reducible apply State.bankReg_kept | with_reducible apply KeptOut.next | with_reducible apply KeptOut.ite
    | with_reducible apply Kept.ite | split | dsimp only
    | with_reducible refine Kept.put ?_ rfl rfl rfl rfl rfl rfl rfl rfl rfl rfl

theorem execPwrCtrlWake_kept {s0 : State} (fn : Nat) (s : State) (h : Kept s0 s) :
    KeptOut s0 (execPwrCtrlWake fn s) := by
  unfold execPwrCtrlWake
  repeat' first
    | with_reducible assumption | intro _ | with_reducible apply State.onWrite_kept
    | with_reducible apply State.startWake_kept | with_reducible apply KeptOut.next | with_reducible apply KeptOut.ite
    | with_reducible apply Kept.ite | split | dsimp only
    | with_reducible refine Kept.put ?_ rfl rfl rfl rfl rfl rfl rfl rfl rfl rfl

theorem execPwrCtrlSave_kept {s0 : State} (fn : Nat) (s : State) (h : Kept s0 s) :
    KeptOut s0 (execPwrCtrlSave fn s) := by
  unfold execPwrCtrlSave
  repeat' first
    | with_reducible assumption | intro _ | with_reducible apply State.onWrite_kept
    | with_reducible apply State.saveSettings_kept | with_reducible apply KeptOut.next
    | with_reducible apply KeptOut.ite | with_reducible apply Kept.ite | split | dsimp only
    | with_reducible refine Kept.put ?_ rfl rfl rfl rfl rfl rfl rfl rfl rfl rfl

theorem State.sqEnable_kept {s0 : State} (s : State) (n : Nat) (v : Nat) (h : Kept s0 s) :
    Kept s0 (State.sqEnable s n v) := by
  unfold State.sqEnable
  repeat' first
    | with_reducible assumption | intro _ | with_reducible apply State.unflag_kept | with_reducible apply State.p_kept
    | with_reducible apply State.flag_kept | with_reducible apply Kept.ite | split | dsimp only
    | with_reducible refine Kept.put ?_ rfl rfl rfl rfl rfl rfl rfl rfl rfl rfl

theorem State.sqCtrl_kept {s0 : State} (s : State) (fn : Nat) (n : Nat) (v : Word) (h : Kept s0 s) :
    Kept s0 (State.sqCtrl s fn n v) := by
  unfold State.sqCtrl
  repeat' first
    | with_reducible assumption | intro _ | with_reducible apply State.sqEnable_kept
    | with_reducible apply State.plainWrite_kept | with_reducible apply Kept.ite | split | dsimp only
    | with_reducible refine Kept.put ?_ rfl rfl rfl rfl rfl rfl rfl rfl rfl rfl

theorem execSqCtrlEnableWrite_kept {s0 : State} (fn : Nat) (n : Nat) (v : Word) (s : State) (h : Kept s0 s) :
    KeptOut s0 (execSqCtrlEnableWrite fn n v s) := by
  unfold execSqCtrlEnableWrite
  repeat' first
    | with_reducible assumption | intro _ | with_reducible apply State.onWrite_kept
    | with_reducible apply State.sqCtrl_kept | with_reducible apply KeptOut.next | with_reducible apply KeptOut.ite
    | with_reducible apply Kept.ite | split | dsimp only
    | with_reducible refine Kept.put ?_ rfl rfl rfl rfl rfl rfl rfl rfl rfl rfl

theorem State.writeHost_kept {s0 : State} (s : State) (fn : Nat) (a : Nat) (r : RegDesc) (ix : List Nat) (w : Word) (h : Kept s0 s) :
    Kept s0 (State.writeHost s fn a r ix w) := by
  unfold State.writeHost
  repeat' first
    | with_reducible assumption | intro _ | with_reducible apply State.when_kept | with_reducible apply KeptActs.cons
    | with_reducible apply KeptActs.nil | with_reducible apply State.acts_kept
    | with_reducible apply execPwrCtrlBank_kept | with_reducible apply execPwrCtrlWake_kept
    | with_reducible apply execPwrCtrlSave_kept | with_reducible apply State.govern_kept
    | with_reducible apply State.plainWrite_kept | with_reducible apply State.via_kept
    | with_reducible apply execSqCtrlEnableWrite_kept | with_reducible apply State.ctrlWrite_kept
    | with_reducible apply State.cqEnable_kept | with_reducible apply Kept.ite | split | dsimp only
    | with_reducible refine Kept.put ?_ rfl rfl rfl rfl rfl rfl rfl rfl rfl rfl

theorem execLaneSlip_kept {s0 : State} (fn : Nat) (l : Nat) (s : State) (h : Kept s0 s) :
    KeptOut s0 (execLaneSlip fn l s) := by
  unfold execLaneSlip
  repeat' first
    | with_reducible assumption | intro _ | with_reducible apply State.onWrite_kept
    | with_reducible apply State.laneSlip_kept | with_reducible apply KeptOut.next | with_reducible apply KeptOut.ite
    | with_reducible apply Kept.ite | split | dsimp only
    | with_reducible refine Kept.put ?_ rfl rfl rfl rfl rfl rfl rfl rfl rfl rfl

theorem execLaneRetrain_kept {s0 : State} (fn : Nat) (l : Nat) (s : State) (h : Kept s0 s) :
    KeptOut s0 (execLaneRetrain fn l s) := by
  unfold execLaneRetrain
  repeat' first
    | with_reducible assumption | intro _ | with_reducible apply State.onWrite_kept
    | with_reducible apply State.laneRetrain_kept | with_reducible apply KeptOut.next
    | with_reducible apply KeptOut.ite | with_reducible apply Kept.ite | split | dsimp only
    | with_reducible refine Kept.put ?_ rfl rfl rfl rfl rfl rfl rfl rfl rfl rfl

theorem State.writeFab_kept {s0 : State} (s : State) (fn : Nat) (a : Nat) (r : RegDesc) (ix : List Nat) (w : Word) (h : Kept s0 s) :
    Kept s0 (State.writeFab s fn a r ix w) := by
  unfold State.writeFab
  repeat' first
    | with_reducible assumption | intro _ | with_reducible apply State.when_kept | with_reducible apply KeptActs.cons
    | with_reducible apply KeptActs.nil | with_reducible apply State.plainWrite_kept
    | with_reducible apply State.laneApply_kept | with_reducible apply State.acts_kept
    | with_reducible apply execLaneSlip_kept | with_reducible apply execLaneRetrain_kept
    | with_reducible apply State.ctrlWrite_kept | with_reducible apply State.portEnable_kept
    | with_reducible apply State.flag_kept | with_reducible apply State.twinWritten_kept
    | with_reducible apply Kept.ite | split | dsimp only
    | with_reducible refine Kept.put ?_ rfl rfl rfl rfl rfl rfl rfl rfl rfl rfl

theorem execMemMarchCtrlStart_kept {s0 : State} (fn : Nat) (s : State) (h : Kept s0 s) :
    KeptOut s0 (execMemMarchCtrlStart fn s) := by
  unfold execMemMarchCtrlStart
  repeat' first
    | with_reducible assumption | intro _ | with_reducible apply State.onWrite_kept
    | with_reducible apply State.marchReg_kept | with_reducible apply KeptOut.next | with_reducible apply KeptOut.ite
    | with_reducible apply Kept.ite | split | dsimp only
    | with_reducible refine Kept.put ?_ rfl rfl rfl rfl rfl rfl rfl rfl rfl rfl

theorem execMemMarchCtrlStop_kept {s0 : State} (fn : Nat) (s : State) (h : Kept s0 s) :
    KeptOut s0 (execMemMarchCtrlStop fn s) := by
  unfold execMemMarchCtrlStop
  repeat' first
    | with_reducible assumption | intro _ | with_reducible apply State.when_kept
    | with_reducible apply State.onWrite_kept | with_reducible apply State.marchStop_kept
    | with_reducible apply KeptOut.next | with_reducible apply KeptOut.ite | with_reducible apply Kept.ite | split
    | dsimp only | with_reducible refine Kept.put ?_ rfl rfl rfl rfl rfl rfl rfl rfl rfl rfl

theorem State.writeMem_kept {s0 : State} (s : State) (fn : Nat) (a : Nat) (r : RegDesc) (w : Word) (h : Kept s0 s) :
    Kept s0 (State.writeMem s fn a r w) := by
  unfold State.writeMem
  repeat' first
    | with_reducible assumption | intro _ | with_reducible apply KeptActs.cons | with_reducible apply KeptActs.nil
    | with_reducible apply State.acts_kept | with_reducible apply State.plainWrite_kept
    | with_reducible apply execMemMarchCtrlStart_kept | with_reducible apply execMemMarchCtrlStop_kept
    | with_reducible apply State.via_kept | with_reducible apply execMemWinDataHiAccess_kept
    | with_reducible apply Kept.ite | split | dsimp only
    | with_reducible refine Kept.put ?_ rfl rfl rfl rfl rfl rfl rfl rfl rfl rfl

theorem State.spareSwapReg_kept {s0 : State} (s : State) (g : Nat) (i : Nat) (h : Kept s0 s) :
    Kept s0 (State.spareSwapReg s g i) := by
  unfold State.spareSwapReg
  repeat' first
    | with_reducible assumption | intro _ | with_reducible apply State.swapRefused_kept
    | with_reducible apply State.spareGo_kept | with_reducible apply Kept.ite | split | dsimp only
    | with_reducible refine Kept.put ?_ rfl rfl rfl rfl rfl rfl rfl rfl rfl rfl

theorem execSpareCtrlSwap_kept {s0 : State} (fn : Nat) (g : Nat) (target : Nat) (s : State) (h : Kept s0 s) :
    KeptOut s0 (execSpareCtrlSwap fn g target s) := by
  unfold execSpareCtrlSwap
  repeat' first
    | with_reducible assumption | intro _ | with_reducible apply State.onWrite_kept
    | with_reducible apply State.spareSwapReg_kept | with_reducible apply State.p_kept
    | with_reducible apply KeptOut.next | with_reducible apply KeptOut.ite | with_reducible apply Kept.ite | split
    | dsimp only | with_reducible refine Kept.put ?_ rfl rfl rfl rfl rfl rfl rfl rfl rfl rfl

theorem State.spareReleaseReg_kept {s0 : State} (s : State) (g : Nat) (h : Kept s0 s) :
    Kept s0 (State.spareReleaseReg s g) := by
  unfold State.spareReleaseReg
  repeat' first
    | with_reducible assumption | intro _ | with_reducible apply State.swapRefused_kept
    | with_reducible apply State.spareReturn_kept | with_reducible apply Kept.ite | split | dsimp only
    | with_reducible refine Kept.put ?_ rfl rfl rfl rfl rfl rfl rfl rfl rfl rfl

theorem execSpareCtrlRelease_kept {s0 : State} (fn : Nat) (g : Nat) (s : State) (h : Kept s0 s) :
    KeptOut s0 (execSpareCtrlRelease fn g s) := by
  unfold execSpareCtrlRelease
  repeat' first
    | with_reducible assumption | intro _ | with_reducible apply State.onWrite_kept
    | with_reducible apply State.spareReleaseReg_kept | with_reducible apply KeptOut.next
    | with_reducible apply KeptOut.ite | with_reducible apply Kept.ite | split | dsimp only
    | with_reducible refine Kept.put ?_ rfl rfl rfl rfl rfl rfl rfl rfl rfl rfl

theorem State.spareCtrl_kept {s0 : State} (s : State) (fn : Nat) (a : Nat) (g : Nat) (hi : Nat) (w : Word) (h : Kept s0 s) :
    Kept s0 (State.spareCtrl s fn a g hi w) := by
  unfold State.spareCtrl
  repeat' first
    | with_reducible assumption | intro _ | with_reducible apply KeptActs.cons | with_reducible apply KeptActs.nil
    | with_reducible apply State.acts_kept | with_reducible apply State.plainWrite_kept
    | with_reducible apply execSpareCtrlSwap_kept | with_reducible apply execSpareCtrlRelease_kept
    | with_reducible apply Kept.ite | split | dsimp only
    | with_reducible refine Kept.put ?_ rfl rfl rfl rfl rfl rfl rfl rfl rfl rfl

theorem State.writeDrv_kept {s0 : State} (s : State) (fn : Nat) (a : Nat) (r : RegDesc) (ix : List Nat) (w : Word) (h : Kept s0 s) :
    Kept s0 (State.writeDrv s fn a r ix w) := by
  unfold State.writeDrv
  repeat' first
    | with_reducible assumption | intro _ | with_reducible apply State.enableWrite_kept
    | with_reducible apply State.outStatus_kept | with_reducible apply State.via_kept
    | with_reducible apply execDrvEnvDataAccess_kept | with_reducible apply State.spareCtrl_kept
    | with_reducible apply State.plainWrite_kept | with_reducible apply Kept.ite | split | dsimp only
    | with_reducible refine Kept.put ?_ rfl rfl rfl rfl rfl rfl rfl rfl rfl rfl

theorem execFlxPdCommit_kept {s0 : State} (fn : Nat) (ch : Nat) (s : State) (h : Kept s0 s) :
    KeptOut s0 (execFlxPdCommit fn ch s) := by
  unfold execFlxPdCommit
  repeat' first
    | with_reducible assumption | intro _ | with_reducible apply State.onWrite_kept
    | with_reducible apply State.bankCommit_kept | with_reducible apply KeptOut.next
    | with_reducible apply KeptOut.ite | with_reducible apply Kept.ite | split | dsimp only
    | with_reducible refine Kept.put ?_ rfl rfl rfl rfl rfl rfl rfl rfl rfl rfl

theorem State.writeFlx_kept {s0 : State} (s : State) (fn : Nat) (a : Nat) (r : RegDesc) (ix : List Nat) (w : Word) (h : Kept s0 s) :
    Kept s0 (State.writeFlx s fn a r ix w) := by
  unfold State.writeFlx
  repeat' first
    | with_reducible assumption | intro _ | with_reducible apply State.when_kept | with_reducible apply KeptActs.cons
    | with_reducible apply KeptActs.nil | with_reducible apply State.ctrlWrite_kept
    | with_reducible apply State.flxSpan_kept | with_reducible apply State.setEnable_kept
    | with_reducible apply State.flxPark_kept | with_reducible apply State.acts_kept
    | with_reducible apply execFlxPdCommit_kept | with_reducible apply State.spareCtrl_kept
    | with_reducible apply State.lockedWrite_kept | with_reducible apply State.plainWrite_kept
    | with_reducible apply Kept.ite | split | dsimp only
    | with_reducible refine Kept.put ?_ rfl rfl rfl rfl rfl rfl rfl rfl rfl rfl

theorem execRecConsWrite_kept {s0 : State} (fn : Nat) (p : Nat) (v : Word) (s : State) (h : Kept s0 s) :
    KeptOut s0 (execRecConsWrite fn p v s) := by
  unfold execRecConsWrite
  repeat' first
    | with_reducible assumption | intro _ | with_reducible apply State.onWrite_kept
    | with_reducible apply State.recConsume_kept | with_reducible apply KeptOut.next
    | with_reducible apply KeptOut.ite | with_reducible apply Kept.ite | split | dsimp only
    | with_reducible refine Kept.put ?_ rfl rfl rfl rfl rfl rfl rfl rfl rfl rfl

theorem State.writeRec_kept {s0 : State} (s : State) (fn : Nat) (a : Nat) (r : RegDesc) (ix : List Nat) (w : Word) (h : Kept s0 s) :
    Kept s0 (State.writeRec s fn a r ix w) := by
  unfold State.writeRec
  repeat' first
    | with_reducible assumption | intro _ | with_reducible apply State.when_kept
    | with_reducible apply State.plainWrite_kept | with_reducible apply State.recRestart_kept
    | with_reducible apply State.recResize_kept | with_reducible apply State.via_kept
    | with_reducible apply execRecConsWrite_kept | with_reducible apply Kept.ite | split | dsimp only
    | with_reducible refine Kept.put ?_ rfl rfl rfl rfl rfl rfl rfl rfl rfl rfl

theorem State.writeRdo_kept {s0 : State} (s : State) (fn : Nat) (a : Nat) (r : RegDesc) (ix : List Nat) (w : Word) (h : Kept s0 s) :
    Kept s0 (State.writeRdo s fn a r ix w) := by
  unfold State.writeRdo
  repeat' first
    | with_reducible assumption | intro _ | with_reducible apply State.enableWrite_kept
    | with_reducible apply State.outStatus_kept | with_reducible apply State.spareCtrl_kept
    | with_reducible apply State.deny_kept | with_reducible apply State.via_kept
    | with_reducible apply execRdoKernQAccess_kept | with_reducible apply State.plainWrite_kept
    | with_reducible apply Kept.ite | split | dsimp only
    | with_reducible refine Kept.put ?_ rfl rfl rfl rfl rfl rfl rfl rfl rfl rfl

theorem execAcqCuArm_kept {s0 : State} (fn : Nat) (u : Nat) (s : State) (h : Kept s0 s) :
    KeptOut s0 (execAcqCuArm fn u s) := by
  unfold execAcqCuArm
  repeat' first
    | with_reducible assumption | intro _ | with_reducible apply State.when_kept
    | with_reducible apply State.onWrite_kept | with_reducible apply State.cuArm_kept
    | with_reducible apply KeptOut.next | with_reducible apply KeptOut.ite | with_reducible apply Kept.ite | split
    | dsimp only | with_reducible refine Kept.put ?_ rfl rfl rfl rfl rfl rfl rfl rfl rfl rfl

theorem execAcqCuStop_kept {s0 : State} (fn : Nat) (u : Nat) (s : State) (h : Kept s0 s) :
    KeptOut s0 (execAcqCuStop fn u s) := by
  unfold execAcqCuStop
  repeat' first
    | with_reducible assumption | intro _ | with_reducible apply State.onWrite_kept
    | with_reducible apply State.cuStop_kept | with_reducible apply KeptOut.next | with_reducible apply KeptOut.ite
    | with_reducible apply Kept.ite | split | dsimp only
    | with_reducible refine Kept.put ?_ rfl rfl rfl rfl rfl rfl rfl rfl rfl rfl

theorem execAcqCuSwTrig_kept {s0 : State} (fn : Nat) (u : Nat) (s : State) (h : Kept s0 s) :
    KeptOut s0 (execAcqCuSwTrig fn u s) := by
  unfold execAcqCuSwTrig
  repeat' first
    | with_reducible assumption | intro _ | with_reducible apply State.onWrite_kept
    | with_reducible apply State.cuTrigger_kept | with_reducible apply KeptOut.next | with_reducible apply KeptOut.ite
    | with_reducible apply Kept.ite | split | dsimp only
    | with_reducible refine Kept.put ?_ rfl rfl rfl rfl rfl rfl rfl rfl rfl rfl

theorem State.strConsume_kept {s0 : State} (s : State) (u : Nat) (v : Nat) (h : Kept s0 s) :
    Kept s0 (State.strConsume s u v) := by
  unfold State.strConsume
  repeat' first
    | with_reducible assumption | intro _ | with_reducible apply State.flag_kept | with_reducible apply State.p_kept
    | with_reducible apply State.strTake_kept | with_reducible apply Kept.ite | split | dsimp only
    | with_reducible refine Kept.put ?_ rfl rfl rfl rfl rfl rfl rfl rfl rfl rfl

theorem execStrConsWrite_kept {s0 : State} (fn : Nat) (u : Nat) (v : Word) (s : State) (h : Kept s0 s) :
    KeptOut s0 (execStrConsWrite fn u v s) := by
  unfold execStrConsWrite
  repeat' first
    | with_reducible assumption | intro _ | with_reducible apply State.onWrite_kept
    | with_reducible apply State.strConsume_kept | with_reducible apply KeptOut.next
    | with_reducible apply KeptOut.ite | with_reducible apply Kept.ite | split | dsimp only
    | with_reducible refine Kept.put ?_ rfl rfl rfl rfl rfl rfl rfl rfl rfl rfl

theorem State.writeAcq_kept {s0 : State} (s : State) (fn : Nat) (a : Nat) (r : RegDesc) (ix : List Nat) (w : Word) (h : Kept s0 s) :
    Kept s0 (State.writeAcq s fn a r ix w) := by
  unfold State.writeAcq
  repeat' first
    | with_reducible assumption | intro _ | with_reducible apply State.when_kept | with_reducible apply KeptActs.cons
    | with_reducible apply KeptActs.nil | with_reducible apply State.plainWrite_kept
    | with_reducible apply State.acts_kept | with_reducible apply execAcqCuArm_kept
    | with_reducible apply execAcqCuStop_kept | with_reducible apply execAcqCuSwTrig_kept
    | with_reducible apply State.via_kept | with_reducible apply execAcqMaskHiAccess_kept
    | with_reducible apply State.strRestart_kept | with_reducible apply State.strResize_kept
    | with_reducible apply execStrConsWrite_kept | with_reducible apply Kept.ite | split | dsimp only
    | with_reducible refine Kept.put ?_ rfl rfl rfl rfl rfl rfl rfl rfl rfl rfl

theorem execBiasCodeWrite_kept {s0 : State} (fn : Nat) (b : Nat) (v : Word) (s : State) (h : Kept s0 s) :
    KeptOut s0 (execBiasCodeWrite fn b v s) := by
  unfold execBiasCodeWrite
  repeat' first
    | with_reducible assumption | intro _ | with_reducible apply State.onWrite_kept
    | with_reducible apply State.biasWrite_kept | with_reducible apply KeptOut.next | with_reducible apply KeptOut.ite
    | with_reducible apply Kept.ite | split | dsimp only
    | with_reducible refine Kept.put ?_ rfl rfl rfl rfl rfl rfl rfl rfl rfl rfl

theorem execBiasQcmdStart_kept {s0 : State} (fn : Nat) (b : Nat) (s : State) (h : Kept s0 s) :
    KeptOut s0 (execBiasQcmdStart fn b s) := by
  unfold execBiasQcmdStart
  repeat' first
    | with_reducible assumption | intro _ | with_reducible apply State.onWrite_kept
    | with_reducible apply State.biasClockStart_kept | with_reducible apply KeptOut.next
    | with_reducible apply KeptOut.ite | with_reducible apply Kept.ite | split | dsimp only
    | with_reducible refine Kept.put ?_ rfl rfl rfl rfl rfl rfl rfl rfl rfl rfl

theorem execBiasQcmdStop_kept {s0 : State} (fn : Nat) (b : Nat) (s : State) (h : Kept s0 s) :
    KeptOut s0 (execBiasQcmdStop fn b s) := by
  unfold execBiasQcmdStop
  repeat' first
    | with_reducible assumption | intro _ | with_reducible apply State.onWrite_kept
    | with_reducible apply State.biasClockStop_kept | with_reducible apply KeptOut.next
    | with_reducible apply KeptOut.ite | with_reducible apply Kept.ite | split | dsimp only
    | with_reducible refine Kept.put ?_ rfl rfl rfl rfl rfl rfl rfl rfl rfl rfl

theorem execBiasQcmdFlush_kept {s0 : State} (fn : Nat) (b : Nat) (s : State) (h : Kept s0 s) :
    KeptOut s0 (execBiasQcmdFlush fn b s) := by
  unfold execBiasQcmdFlush
  repeat' first
    | with_reducible assumption | intro _ | with_reducible apply State.onWrite_kept
    | with_reducible apply State.biasFlush_kept | with_reducible apply KeptOut.next | with_reducible apply KeptOut.ite
    | with_reducible apply Kept.ite | split | dsimp only
    | with_reducible refine Kept.put ?_ rfl rfl rfl rfl rfl rfl rfl rfl rfl rfl

theorem execBiasQcmdRestore_kept {s0 : State} (fn : Nat) (b : Nat) (s : State) (h : Kept s0 s) :
    KeptOut s0 (execBiasQcmdRestore fn b s) := by
  unfold execBiasQcmdRestore
  repeat' first
    | with_reducible assumption | intro _ | with_reducible apply State.onWrite_kept
    | with_reducible apply State.biasRestore_kept | with_reducible apply KeptOut.next
    | with_reducible apply KeptOut.ite | with_reducible apply Kept.ite | split | dsimp only
    | with_reducible refine Kept.put ?_ rfl rfl rfl rfl rfl rfl rfl rfl rfl rfl

theorem execBiasQstartWrite_kept {s0 : State} (fn : Nat) (q : Nat) (i : Nat) (v : Word) (s : State) (h : Kept s0 s) :
    KeptOut s0 (execBiasQstartWrite fn q i v s) := by
  unfold execBiasQstartWrite
  repeat' first
    | with_reducible assumption | intro _ | with_reducible apply forEach_kept
    | with_reducible apply State.onWrite_kept | with_reducible apply State.biasClockStart_kept
    | with_reducible apply KeptOut.next | with_reducible apply KeptOut.ite | with_reducible apply Kept.ite | split
    | dsimp only | with_reducible refine Kept.put ?_ rfl rfl rfl rfl rfl rfl rfl rfl rfl rfl

theorem State.writeBias_kept {s0 : State} (s : State) (fn : Nat) (a : Nat) (r : RegDesc) (ix : List Nat) (w : Word) (h : Kept s0 s) :
    Kept s0 (State.writeBias s fn a r ix w) := by
  unfold State.writeBias
  repeat' first
    | with_reducible assumption | intro _ | with_reducible apply KeptActs.cons | with_reducible apply KeptActs.nil
    | with_reducible apply State.ctrlWrite_kept | with_reducible apply State.biasCtrl_kept
    | with_reducible apply State.via_kept | with_reducible apply execBiasCodeWrite_kept
    | with_reducible apply State.plainWrite_kept | with_reducible apply State.biasReslew_kept
    | with_reducible apply State.acts_kept | with_reducible apply execBiasQcmdStart_kept
    | with_reducible apply execBiasQcmdStop_kept | with_reducible apply execBiasQcmdFlush_kept
    | with_reducible apply execBiasQcmdRestore_kept | with_reducible apply execBiasQstartWrite_kept
    | with_reducible apply Kept.ite | split | dsimp only
    | with_reducible refine Kept.put ?_ rfl rfl rfl rfl rfl rfl rfl rfl rfl rfl

theorem execMonCmdStart_kept {s0 : State} (fn : Nat) (m : Nat) (s : State) (h : Kept s0 s) :
    KeptOut s0 (execMonCmdStart fn m s) := by
  unfold execMonCmdStart
  repeat' first
    | with_reducible assumption | intro _ | with_reducible apply State.onWrite_kept
    | with_reducible apply State.monSoftStart_kept | with_reducible apply KeptOut.next
    | with_reducible apply KeptOut.ite | with_reducible apply Kept.ite | split | dsimp only
    | with_reducible refine Kept.put ?_ rfl rfl rfl rfl rfl rfl rfl rfl rfl rfl

theorem execMonCmdStop_kept {s0 : State} (fn : Nat) (m : Nat) (s : State) (h : Kept s0 s) :
    KeptOut s0 (execMonCmdStop fn m s) := by
  unfold execMonCmdStop
  repeat' first
    | with_reducible assumption | intro _ | with_reducible apply State.onWrite_kept
    | with_reducible apply State.monStop_kept | with_reducible apply KeptOut.next | with_reducible apply KeptOut.ite
    | with_reducible apply Kept.ite | split | dsimp only
    | with_reducible refine Kept.put ?_ rfl rfl rfl rfl rfl rfl rfl rfl rfl rfl

theorem execMonCmdInject_kept {s0 : State} (fn : Nat) (m : Nat) (s : State) (h : Kept s0 s) :
    KeptOut s0 (execMonCmdInject fn m s) := by
  unfold execMonCmdInject
  repeat' first
    | with_reducible assumption | intro _ | with_reducible apply State.onWrite_kept
    | with_reducible apply State.monInject_kept | with_reducible apply KeptOut.next | with_reducible apply KeptOut.ite
    | with_reducible apply Kept.ite | split | dsimp only
    | with_reducible refine Kept.put ?_ rfl rfl rfl rfl rfl rfl rfl rfl rfl rfl

theorem execMonCalCtrlStart_kept {s0 : State} (fn : Nat) (q : Nat) (s : State) (h : Kept s0 s) :
    KeptOut s0 (execMonCalCtrlStart fn q s) := by
  unfold execMonCalCtrlStart
  repeat' first
    | with_reducible assumption | intro _ | with_reducible apply State.onWrite_kept
    | with_reducible apply State.calStart_kept | with_reducible apply KeptOut.next | with_reducible apply KeptOut.ite
    | with_reducible apply Kept.ite | split | dsimp only
    | with_reducible refine Kept.put ?_ rfl rfl rfl rfl rfl rfl rfl rfl rfl rfl

theorem execMonCommonCmdFire_kept {s0 : State} (fn : Nat) (s : State) (h : Kept s0 s) :
    KeptOut s0 (execMonCommonCmdFire fn s) := by
  unfold execMonCommonCmdFire
  repeat' first
    | with_reducible assumption | intro _ | with_reducible apply State.onWrite_kept
    | with_reducible apply State.commonFire_kept | with_reducible apply KeptOut.next
    | with_reducible apply KeptOut.ite | with_reducible apply Kept.ite | split | dsimp only
    | with_reducible refine Kept.put ?_ rfl rfl rfl rfl rfl rfl rfl rfl rfl rfl

theorem execMonCommonCmdRun_kept {s0 : State} (fn : Nat) (s : State) (h : Kept s0 s) :
    KeptOut s0 (execMonCommonCmdRun fn s) := by
  unfold execMonCommonCmdRun
  repeat' first
    | with_reducible assumption | intro _ | with_reducible apply State.onWrite_kept
    | with_reducible apply KeptOut.next | with_reducible apply KeptOut.ite | with_reducible apply Kept.ite | split
    | dsimp only | with_reducible refine Kept.put ?_ rfl rfl rfl rfl rfl rfl rfl rfl rfl rfl

theorem execMonCommonCmdHalt_kept {s0 : State} (fn : Nat) (s : State) (h : Kept s0 s) :
    KeptOut s0 (execMonCommonCmdHalt fn s) := by
  unfold execMonCommonCmdHalt
  repeat' first
    | with_reducible assumption | intro _ | with_reducible apply State.onWrite_kept
    | with_reducible apply KeptOut.next | with_reducible apply KeptOut.ite | with_reducible apply Kept.ite | split
    | dsimp only | with_reducible refine Kept.put ?_ rfl rfl rfl rfl rfl rfl rfl rfl rfl rfl

theorem State.writeMon_kept {s0 : State} (s : State) (fn : Nat) (a : Nat) (r : RegDesc) (ix : List Nat) (w : Word) (h : Kept s0 s) :
    Kept s0 (State.writeMon s fn a r ix w) := by
  unfold State.writeMon
  repeat' first
    | with_reducible assumption | intro _ | with_reducible apply KeptActs.cons | with_reducible apply KeptActs.nil
    | with_reducible apply State.enableWrite_kept | with_reducible apply State.acts_kept
    | with_reducible apply execMonCmdStart_kept | with_reducible apply execMonCmdStop_kept
    | with_reducible apply execMonCmdInject_kept | with_reducible apply State.lockedWrite_kept
    | with_reducible apply State.plainWrite_kept | with_reducible apply State.monRef_kept
    | with_reducible apply execMonCalCtrlStart_kept | with_reducible apply execMonCommonCmdFire_kept
    | with_reducible apply execMonCommonCmdRun_kept | with_reducible apply execMonCommonCmdHalt_kept
    | with_reducible apply Kept.ite | split | dsimp only
    | with_reducible refine Kept.put ?_ rfl rfl rfl rfl rfl rfl rfl rfl rfl rfl

theorem execSeqJumpReq_kept {s0 : State} (fn : Nat) (q : Nat) (vec : Nat) (s : State) (h : Kept s0 s) :
    KeptOut s0 (execSeqJumpReq fn q vec s) := by
  unfold execSeqJumpReq
  repeat' first
    | with_reducible assumption | intro _ | with_reducible apply State.onWrite_kept
    | with_reducible apply State.jumpRequest_kept | with_reducible apply KeptOut.next
    | with_reducible apply KeptOut.ite | with_reducible apply Kept.ite | split | dsimp only
    | with_reducible refine Kept.put ?_ rfl rfl rfl rfl rfl rfl rfl rfl rfl rfl

theorem execPartCtrlAbort_kept {s0 : State} (fn : Nat) (p : Nat) (s : State) (h : Kept s0 s) :
    KeptOut s0 (execPartCtrlAbort fn p s) := by
  unfold execPartCtrlAbort
  repeat' first
    | with_reducible assumption | intro _ | with_reducible apply State.onWrite_kept
    | with_reducible apply State.partAbort_kept | with_reducible apply KeptOut.next | with_reducible apply KeptOut.ite
    | with_reducible apply Kept.ite | split | dsimp only
    | with_reducible refine Kept.put ?_ rfl rfl rfl rfl rfl rfl rfl rfl rfl rfl

theorem execPartCtrlStop_kept {s0 : State} (fn : Nat) (p : Nat) (s : State) (h : Kept s0 s) :
    KeptOut s0 (execPartCtrlStop fn p s) := by
  unfold execPartCtrlStop
  repeat' first
    | with_reducible assumption | intro _ | with_reducible apply State.onWrite_kept
    | with_reducible apply State.partStop_kept | with_reducible apply KeptOut.next | with_reducible apply KeptOut.ite
    | with_reducible apply Kept.ite | split | dsimp only
    | with_reducible refine Kept.put ?_ rfl rfl rfl rfl rfl rfl rfl rfl rfl rfl

theorem execPartCtrlArm_kept {s0 : State} (fn : Nat) (p : Nat) (s : State) (h : Kept s0 s) :
    KeptOut s0 (execPartCtrlArm fn p s) := by
  unfold execPartCtrlArm
  repeat' first
    | with_reducible assumption | intro _ | with_reducible apply State.onWrite_kept
    | with_reducible apply State.partArmReg_kept | with_reducible apply KeptOut.next
    | with_reducible apply KeptOut.ite | with_reducible apply Kept.ite | split | dsimp only
    | with_reducible refine Kept.put ?_ rfl rfl rfl rfl rfl rfl rfl rfl rfl rfl

theorem State.writeSeq_kept {s0 : State} (s : State) (fn : Nat) (a : Nat) (r : RegDesc) (ix : List Nat) (w : Word) (h : Kept s0 s) :
    Kept s0 (State.writeSeq s fn a r ix w) := by
  unfold State.writeSeq
  repeat' first
    | with_reducible assumption | intro _ | with_reducible apply KeptActs.cons | with_reducible apply KeptActs.nil
    | with_reducible apply State.acts_kept | with_reducible apply execSeqJumpReq_kept
    | with_reducible apply State.via_kept | with_reducible apply execPartCtrlAbort_kept
    | with_reducible apply execPartCtrlStop_kept | with_reducible apply execPartCtrlArm_kept
    | with_reducible apply State.plainWrite_kept | with_reducible apply Kept.ite | split | dsimp only
    | with_reducible refine Kept.put ?_ rfl rfl rfl rfl rfl rfl rfl rfl rfl rfl

theorem State.regWrite_kept {s0 : State} (s : State) (fn : Nat) (a : Nat) (r : RegDesc) (ix : List Nat) (w : Word) (h : Kept s0 s) :
    Kept s0 (State.regWrite s fn a r ix w) := by
  unfold State.regWrite
  repeat' first
    | with_reducible assumption | intro _ | with_reducible apply State.writeCtl_kept
    | with_reducible apply State.writeTim_kept | with_reducible apply State.writeHost_kept
    | with_reducible apply State.writeFab_kept | with_reducible apply State.writeMem_kept
    | with_reducible apply State.plainWrite_kept | with_reducible apply State.writeDrv_kept
    | with_reducible apply State.writeFlx_kept | with_reducible apply State.writeRec_kept
    | with_reducible apply State.writeRdo_kept | with_reducible apply State.writeAcq_kept
    | with_reducible apply State.writeBias_kept | with_reducible apply State.writeMon_kept
    | with_reducible apply State.writeSeq_kept | with_reducible apply Kept.ite | split | dsimp only
    | with_reducible refine Kept.put ?_ rfl rfl rfl rfl rfl rfl rfl rfl rfl rfl

theorem State.replayOver_kept {s0 : State} (s : State) (c : Nat) (h : Kept s0 s) :
    Kept s0 (State.replayOver s c) := by
  unfold State.replayOver
  repeat' first
    | with_reducible assumption | intro _ | with_reducible apply Kept.ite | split | dsimp only
    | with_reducible refine Kept.put ?_ rfl rfl rfl rfl rfl rfl rfl rfl rfl rfl

theorem State.replayFail_kept {s0 : State} (s : State) (c : Nat) (m : Nat) (h : Kept s0 s) :
    Kept s0 (State.replayFail s c m) := by
  unfold State.replayFail
  repeat' first
    | with_reducible assumption | intro _ | with_reducible apply State.flag_kept
    | with_reducible apply State.replayOver_kept | with_reducible apply State.bump_kept
    | with_reducible apply State.logIt_kept | with_reducible apply State.chanFail_kept
    | with_reducible apply State.rankRetire_kept | with_reducible apply Kept.ite | split | dsimp only
    | with_reducible refine Kept.put ?_ rfl rfl rfl rfl rfl rfl rfl rfl rfl rfl

theorem State.replayTick_kept {s0 : State} (s : State) (h : Kept s0 s) :
    Kept s0 (State.replayTick s) := by
  unfold State.replayTick
  repeat' first
    | with_reducible assumption | intro _ | with_reducible apply forEach_kept | with_reducible apply State.bump_kept
    | with_reducible apply State.replayOver_kept | with_reducible apply State.logIt_kept
    | with_reducible apply Kept.ite | split | dsimp only
    | with_reducible refine Kept.put ?_ rfl rfl rfl rfl rfl rfl rfl rfl rfl rfl

theorem State.resolve_kept {s0 : State} (s : State) (g : Nat) (r : Nat) (h : Kept s0 s) :
    Kept s0 (State.resolve s g r) := by
  unfold State.resolve
  repeat' first
    | with_reducible assumption | intro _ | with_reducible apply State.when_kept
    | with_reducible apply State.setGath_kept | with_reducible apply State.chainAsk_kept
    | with_reducible apply State.eccReads_kept | with_reducible apply State.guServe_kept
    | with_reducible apply State.guDue_kept | with_reducible apply Kept.ite | split | dsimp only
    | with_reducible refine Kept.put ?_ rfl rfl rfl rfl rfl rfl rfl rfl rfl rfl

theorem State.restoreEnables_kept {s0 : State} (s : State) (h : Kept s0 s) :
    Kept s0 (State.restoreEnables s) := by
  unfold State.restoreEnables
  repeat' first
    | with_reducible assumption | intro _ | with_reducible apply State.p_kept
    | with_reducible apply State.admitRestored_kept | with_reducible apply Kept.ite | split | dsimp only
    | with_reducible refine Kept.put ?_ rfl rfl rfl rfl rfl rfl rfl rfl rfl rfl

theorem State.restoreAll_kept {s0 : State} (s : State) (ok : Bool) (h : Kept s0 s) :
    Kept s0 (State.restoreAll s ok) := by
  unfold State.restoreAll
  repeat' first
    | with_reducible assumption | intro _ | with_reducible apply forEach_kept
    | with_reducible apply State.imgRefused_kept | with_reducible apply State.mapChannels_kept
    | with_reducible apply State.applyMap_kept | with_reducible apply State.loadSettings_kept
    | with_reducible apply State.fabStart_kept | with_reducible apply State.cellsInit_kept
    | with_reducible apply State.restoreEnables_kept | with_reducible apply State.ttuArm_kept
    | with_reducible apply Kept.ite | split | dsimp only
    | with_reducible refine Kept.put ?_ rfl rfl rfl rfl rfl rfl rfl rfl rfl rfl

theorem State.retryLater_kept {s0 : State} (s : State) (r : Nat) (h : Kept s0 s) :
    Kept s0 (State.retryLater s r) := by
  unfold State.retryLater
  repeat' first
    | with_reducible assumption | intro _ | with_reducible apply Kept.ite | split | dsimp only
    | with_reducible refine Kept.put ?_ rfl rfl rfl rfl rfl rfl rfl rfl rfl rfl

theorem State.strProdTo_kept {s0 : State} (s : State) (u : Nat) (n : Nat) (h : Kept s0 s) :
    Kept s0 (State.strProdTo s u n) := by
  unfold State.strProdTo
  repeat' first
    | with_reducible assumption | intro _ | with_reducible apply State.p_kept
    | with_reducible apply State.strTake_kept | with_reducible apply State.setCu_kept | with_reducible apply Kept.ite
    | split | dsimp only | with_reducible refine Kept.put ?_ rfl rfl rfl rfl rfl rfl rfl rfl rfl rfl

theorem State.strStore_kept {s0 : State} (s : State) (u : Nat) (b : List Byte) (h : Kept s0 s) :
    Kept s0 (State.strStore s u b) := by
  unfold State.strStore
  repeat' first
    | with_reducible assumption | intro _ | with_reducible apply State.strProdTo_kept
    | with_reducible apply State.hostWrite_kept | with_reducible apply Kept.ite | split | dsimp only
    | with_reducible refine Kept.put ?_ rfl rfl rfl rfl rfl rfl rfl rfl rfl rfl

theorem State.strPad_kept {s0 : State} (s : State) (u : Nat) (h : Kept s0 s) :
    Kept s0 (State.strPad s u) := by
  unfold State.strPad
  repeat' first
    | with_reducible assumption | intro _ | with_reducible apply State.strProdTo_kept
    | with_reducible apply State.hostWrite_kept | with_reducible apply Kept.ite | split | dsimp only
    | with_reducible refine Kept.put ?_ rfl rfl rfl rfl rfl rfl rfl rfl rfl rfl

theorem State.strPut_kept {s0 : State} (s : State) (u : Nat) (b : List Byte) (h : Kept s0 s) :
    Kept s0 (State.strPut s u b).1 := by
  unfold State.strPut
  repeat' first
    | with_reducible assumption | intro _ | with_reducible apply State.strStore_kept
    | with_reducible apply State.strPad_kept | with_reducible apply Kept.ite | split | dsimp only
    | with_reducible refine Kept.put ?_ rfl rfl rfl rfl rfl rfl rfl rfl rfl rfl

theorem State.strWrite_kept {s0 : State} (s : State) (u : Nat) (h : Kept s0 s) : Kept s0 (State.strWrite s u) := by
  unfold State.strWrite
  dsimp only
  refine Kept.ite h ?_
  split
  · exact h
  · rename_i it _
    have hp := State.strPut_kept s u (s.sitemBytes u (s.cu u).item it) h
    exact Kept.ite hp (State.lowMark_kept _ _ (State.setCu_kept _ _ _ hp))

theorem State.ringRetry_kept {s0 : State} (s : State) (r : Nat) (h : Kept s0 s) :
    Kept s0 (State.ringRetry s r) := by
  unfold State.ringRetry
  repeat' first
    | with_reducible assumption | intro _ | with_reducible apply State.post_kept
    | with_reducible apply State.recWrite_kept | with_reducible apply State.strWrite_kept
    | with_reducible apply Kept.ite | split | dsimp only
    | with_reducible refine Kept.put ?_ rfl rfl rfl rfl rfl rfl rfl rfl rfl rfl

theorem State.routeOutc_kept {s0 : State} (s : State) (t : Nat) (o : Outc) (h : Kept s0 s) :
    Kept s0 (State.routeOutc s t o) := by
  unfold State.routeOutc
  repeat' first
    | with_reducible assumption | intro _ | with_reducible apply State.when_kept
    | with_reducible apply State.lookup_kept | with_reducible apply State.eccReads_kept
    | with_reducible apply State.guDeliver_kept | with_reducible apply Kept.ite | split | dsimp only
    | with_reducible refine Kept.put ?_ rfl rfl rfl rfl rfl rfl rfl rfl rfl rfl

theorem State.runCut_kept {s0 : State} (s : State) (p : Nat) (h : Kept s0 s) :
    Kept s0 (State.runCut s p) := by
  unfold State.runCut
  repeat' first
    | with_reducible assumption | intro _ | with_reducible apply forEach_kept | with_reducible apply State.setPrt_kept
    | with_reducible apply State.boundary_kept | with_reducible apply State.fluxBoundary_kept
    | with_reducible apply State.setOsc_kept | with_reducible apply State.setSq_kept
    | with_reducible apply State.decCut_kept | with_reducible apply Kept.ite | split | dsimp only
    | with_reducible refine Kept.put ?_ rfl rfl rfl rfl rfl rfl rfl rfl rfl rfl

theorem State.runStart_kept {s0 : State} (s : State) (p : Nat) (h : Kept s0 s) :
    Kept s0 (State.runStart s p) := by
  unfold State.runStart
  repeat' first
    | with_reducible assumption | intro _ | with_reducible apply State.flag_kept
    | with_reducible apply State.toIdle_kept | with_reducible apply State.runCut_kept
    | with_reducible apply State.p_kept | with_reducible apply State.pairsRestart_kept
    | with_reducible apply State.setPst_kept | with_reducible apply State.publishSrc_kept
    | with_reducible apply State.shotBegin_kept | with_reducible apply State.setPrt_kept
    | with_reducible apply Kept.ite | split | dsimp only
    | with_reducible refine Kept.put ?_ rfl rfl rfl rfl rfl rfl rfl rfl rfl rfl

theorem State.scrubDdr_kept {s0 : State} (s : State) (c : Nat) (err : Nat) (h : Kept s0 s) :
    Kept s0 (State.scrubDdr s c err) := by
  unfold State.scrubDdr
  repeat' first
    | with_reducible assumption | intro _ | with_reducible apply State.ddrIssue_kept
    | with_reducible apply State.memBad_kept | with_reducible apply State.memCorrect_kept
    | with_reducible apply State.passDone_kept | with_reducible apply Kept.ite | split | dsimp only
    | with_reducible refine Kept.put ?_ rfl rfl rfl rfl rfl rfl rfl rfl rfl rfl

theorem State.scrubDie_kept {s0 : State} (s : State) (store : Nat) (quad : Nat) (err : Nat) (h : Kept s0 s) :
    Kept s0 (State.scrubDie s store quad err) := by
  unfold State.scrubDie
  repeat' first
    | with_reducible assumption | intro _ | with_reducible apply State.memBad_kept
    | with_reducible apply State.memCorrect_kept | with_reducible apply Kept.ite | split | dsimp only
    | with_reducible refine Kept.put ?_ rfl rfl rfl rfl rfl rfl rfl rfl rfl rfl

theorem State.takeJump_kept {s0 : State} (s : State) (q : Nat) (v : Nat) (h : Kept s0 s) :
    KeptRes s0 (State.takeJump s q v) := by
  unfold State.takeJump
  repeat' first
    | with_reducible assumption | intro _ | with_reducible apply State.bump_kept
    | with_reducible apply State.setSq_kept | with_reducible apply KeptRes.go | with_reducible apply KeptRes.bad
    | with_reducible apply KeptRes.held | with_reducible apply KeptRes.ite | with_reducible apply Kept.ite | split
    | dsimp only | with_reducible refine Kept.put ?_ rfl rfl rfl rfl rfl rfl rfl rfl rfl rfl

theorem State.segment_kept {s0 : State} (s : State) (q : Nat) (e : Nat) (τ : Nat) (w : W64) (h : Kept s0 s) :
    KeptRes s0 (State.segment s q e τ w) := by
  unfold State.segment
  repeat' first
    | with_reducible assumption | intro _ | with_reducible apply State.when_kept
    | with_reducible apply State.flag_kept | with_reducible apply State.bump_kept
    | with_reducible apply State.takeJump_kept | with_reducible apply State.setSq_kept
    | with_reducible apply State.later_kept | with_reducible apply KeptRes.go | with_reducible apply KeptRes.bad
    | with_reducible apply KeptRes.held | with_reducible apply KeptRes.ite | with_reducible apply Kept.ite | split
    | dsimp only | with_reducible refine Kept.put ?_ rfl rfl rfl rfl rfl rfl rfl rfl rfl rfl

theorem State.sensorTake_kept {s0 : State} (s : State) (n : Nat) (t : Int) (h : Kept s0 s) :
    Kept s0 (State.sensorTake s n t) := by
  unfold State.sensorTake
  repeat' first
    | with_reducible assumption | intro _ | with_reducible apply State.p_kept | with_reducible apply State.logIt_kept
    | with_reducible apply State.flag_kept | with_reducible apply Kept.ite | split | dsimp only
    | with_reducible refine Kept.put ?_ rfl rfl rfl rfl rfl rfl rfl rfl rfl rfl

theorem State.sensorsTake_kept {s0 : State} (s : State) (n : Nat) (l : List Int) (h : Kept s0 s) :
    Kept s0 (State.sensorsTake s n l) := by
  induction l generalizing s n with
  | nil => exact h
  | cons v l ih => exact ih _ _ (Kept.ite (State.sensorTake_kept _ _ _ h) h)

theorem State.seqGo_kept {s0 : State} (s : State) (q : Nat) (y : Seq) (a : Nat) (cost : Nat) (dur : Nat) (h : Kept s0 s) :
    Kept s0 (State.seqGo s q y a cost dur) := by
  unfold State.seqGo
  repeat' first
    | with_reducible assumption | intro _ | with_reducible apply State.goto_kept
    | with_reducible apply State.setSq_kept | with_reducible apply Kept.ite | split | dsimp only
    | with_reducible refine Kept.put ?_ rfl rfl rfl rfl rfl rfl rfl rfl rfl rfl

theorem State.seqNext_kept {s0 : State} (s : State) (q : Nat) (y : Seq) (h : Kept s0 s) :
    Kept s0 (State.seqNext s q y) := by
  unfold State.seqNext
  repeat' first
    | with_reducible assumption | intro _ | with_reducible apply State.seqGo_kept | with_reducible apply Kept.ite
    | split | dsimp only | with_reducible refine Kept.put ?_ rfl rfl rfl rfl rfl rfl rfl rfl rfl rfl

theorem State.shedChan_kept {s0 : State} (s : State) (c : Nat) (h : Kept s0 s) :
    Kept s0 (State.shedChan s c) := by
  unfold State.shedChan
  repeat' first
    | with_reducible assumption | intro _ | with_reducible apply State.flag_kept
    | with_reducible apply State.monStop_kept | with_reducible apply State.flxRamp_kept
    | with_reducible apply State.biasShed_kept | with_reducible apply State.bump_kept | with_reducible apply Kept.ite
    | split | dsimp only | with_reducible refine Kept.put ?_ rfl rfl rfl rfl rfl rfl rfl rfl rfl rfl

theorem State.shotMark_kept {s0 : State} (s : State) (p : Nat) (n : Nat) (d : W64) (h : Kept s0 s) :
    Kept s0 (State.shotMark s p n d) := by
  unfold State.shotMark
  repeat' first
    | with_reducible assumption | intro _ | with_reducible apply State.twinCompare_kept
    | with_reducible apply Kept.ite | split | dsimp only
    | with_reducible refine Kept.put ?_ rfl rfl rfl rfl rfl rfl rfl rfl rfl rfl

theorem State.slicePass_kept {s0 : State} (s : State) (g : Nat) (m : Nat) (forced : Bool) (h : Kept s0 s) :
    Kept s0 (State.slicePass s g m forced) := by
  unfold State.slicePass
  repeat' first
    | with_reducible assumption | intro _ | with_reducible apply State.setSp_kept
    | with_reducible apply State.setSl_kept | with_reducible apply State.turnStep_kept
    | with_reducible apply State.setSpare_kept | with_reducible apply Kept.ite | split | dsimp only
    | with_reducible refine Kept.put ?_ rfl rfl rfl rfl rfl rfl rfl rfl rfl rfl

theorem State.sliceDone_kept {s0 : State} (s : State) (g : Nat) (sig : W64) (h : Kept s0 s) :
    Kept s0 (State.sliceDone s g sig) := by
  unfold State.sliceDone
  repeat' first
    | with_reducible assumption | intro _ | with_reducible apply State.sliceEnd_kept
    | with_reducible apply State.setSl_kept | with_reducible apply State.spareFail_kept
    | with_reducible apply State.retireDp_kept | with_reducible apply State.loseWaiting_kept
    | with_reducible apply State.slicePass_kept | with_reducible apply Kept.ite | split | dsimp only
    | with_reducible refine Kept.put ?_ rfl rfl rfl rfl rfl rfl rfl rfl rfl rfl

theorem State.sliceGiveUp_kept {s0 : State} (s : State) (g : Nat) (h : Kept s0 s) :
    Kept s0 (State.sliceGiveUp s g) := by
  unfold State.sliceGiveUp
  repeat' first
    | with_reducible assumption | intro _ | with_reducible apply State.sliceAbandon_kept
    | with_reducible apply State.sliceBegin_kept | with_reducible apply State.spareReturn_kept
    | with_reducible apply Kept.ite | split | dsimp only
    | with_reducible refine Kept.put ?_ rfl rfl rfl rfl rfl rfl rfl rfl rfl rfl

theorem State.spareCopied_kept {s0 : State} (s : State) (g : Nat) (h : Kept s0 s) :
    Kept s0 (State.spareCopied s g) := by
  unfold State.spareCopied
  repeat' first
    | with_reducible assumption | intro _ | with_reducible apply State.when_kept
    | with_reducible apply State.crossbar_kept | with_reducible apply State.setSpare_kept
    | with_reducible apply State.settle_kept | with_reducible apply State.setSp_kept
    | with_reducible apply State.spareReturn_kept | with_reducible apply State.sliceBegin_kept
    | with_reducible apply State.setSl_kept | with_reducible apply State.spareTake_kept
    | with_reducible apply Kept.ite | split | dsimp only
    | with_reducible refine Kept.put ?_ rfl rfl rfl rfl rfl rfl rfl rfl rfl rfl

theorem State.stepBegin_kept {s0 : State} (s : State) (n : Nat) (h : Kept s0 s) :
    Kept s0 (State.stepBegin s n) := by
  unfold State.stepBegin
  repeat' first
    | with_reducible assumption | intro _ | with_reducible apply State.logicStart_kept
    | with_reducible apply State.convUp_kept | with_reducible apply State.alignStart_kept
    | with_reducible apply State.flag_kept | with_reducible apply Kept.ite | split | dsimp only
    | with_reducible refine Kept.put ?_ rfl rfl rfl rfl rfl rfl rfl rfl rfl rfl

theorem State.startBegin_kept {s0 : State} (s : State) (cold : Bool) (h : Kept s0 s) :
    Kept s0 (State.startBegin s cold) := by
  unfold State.startBegin
  repeat' first
    | with_reducible assumption | intro _ | with_reducible apply State.warmReset_kept
    | with_reducible apply State.stepBegin_kept | with_reducible apply Kept.ite | split | dsimp only
    | with_reducible refine Kept.put ?_ rfl rfl rfl rfl rfl rfl rfl rfl rfl rfl

theorem State.startAgain_kept {s0 : State} (s : State) (h : Kept s0 s) :
    Kept s0 (State.startAgain s) := by
  unfold State.startAgain
  repeat' first
    | with_reducible assumption | intro _ | with_reducible apply State.startBegin_kept | with_reducible apply Kept.ite
    | split | dsimp only | with_reducible refine Kept.put ?_ rfl rfl rfl rfl rfl rfl rfl rfl rfl rfl

theorem State.startEnd_kept {s0 : State} (s : State) (h : Kept s0 s) :
    Kept s0 (State.startEnd s) := by
  unfold State.startEnd
  repeat' first
    | with_reducible assumption | intro _ | with_reducible apply State.settleMode_kept
    | with_reducible apply State.flxAllUp_kept | with_reducible apply State.flag_kept
    | with_reducible apply State.autoRestore_kept | with_reducible apply State.unflag_kept
    | with_reducible apply Kept.ite | split | dsimp only
    | with_reducible refine Kept.put ?_ rfl rfl rfl rfl rfl rfl rfl rfl rfl rfl

theorem State.startStop_kept {s0 : State} (s : State) (h : Kept s0 s) :
    Kept s0 (State.startStop s) := by
  unfold State.startStop
  repeat' first
    | with_reducible assumption | intro _ | with_reducible apply forEach_kept
    | with_reducible apply State.biasOff_kept | with_reducible apply State.startAgain_kept
    | with_reducible apply Kept.ite | split | dsimp only
    | with_reducible refine Kept.put ?_ rfl rfl rfl rfl rfl rfl rfl rfl rfl rfl

theorem State.stepEffect_kept {s0 : State} (s : State) (n : Nat) (ok : Bool) (bad : List Nat) (h : Kept s0 s) :
    Kept s0 (State.stepEffect s n ok bad) := by
  unfold State.stepEffect
  repeat' first
    | with_reducible assumption | intro _ | with_reducible apply State.loadFuses_kept
    | with_reducible apply State.firmware_kept | with_reducible apply State.credit_kept
    | with_reducible apply State.mapCauses_kept | with_reducible apply State.marchBad_kept
    | with_reducible apply State.restoreAll_kept | with_reducible apply State.patchIn_kept
    | with_reducible apply State.imgRefused_kept | with_reducible apply State.convStart_kept
    | with_reducible apply Kept.ite | split | dsimp only
    | with_reducible refine Kept.put ?_ rfl rfl rfl rfl rfl rfl rfl rfl rfl rfl

theorem State.stopDone_kept {s0 : State} (s : State) (proof : Bool) (h : Kept s0 s) :
    Kept s0 (State.stopDone s proof) := by
  unfold State.stopDone
  repeat' first
    | with_reducible assumption | intro _ | with_reducible apply forEach_kept
    | with_reducible apply State.convDown_kept | with_reducible apply State.biasOff_kept
    | with_reducible apply State.settleMode_kept | with_reducible apply State.p_kept
    | with_reducible apply State.settleAll_kept | with_reducible apply State.linkFall_kept
    | with_reducible apply State.postAll_kept | with_reducible apply State.logicStart_kept
    | with_reducible apply State.logicStop_kept | with_reducible apply State.saveSettings_kept
    | with_reducible apply Kept.ite | split | dsimp only
    | with_reducible refine Kept.put ?_ rfl rfl rfl rfl rfl rfl rfl rfl rfl rfl

theorem State.stopStep_kept {s0 : State} (s : State) (h : Kept s0 s) :
    Kept s0 (State.stopStep s) := by
  unfold State.stopStep
  repeat' first
    | with_reducible assumption | intro _ | with_reducible apply State.stopDone_kept | with_reducible apply Kept.ite
    | split | dsimp only | with_reducible refine Kept.put ?_ rfl rfl rfl rfl rfl rfl rfl rfl rfl rfl

theorem State.storeZero_kept {s0 : State} (s : State) (st : Nat) (h : Kept s0 s) : Kept s0 (State.storeZero s st) := by
  unfold State.storeZero
  split
  case h_9 => exact h.change id (fun _ => rfl) id (fun _ => id) id id rfl rfl (fun _ => rfl)
  all_goals first
    | exact h
    | exact h.change (fun c => Tab.wf_filter c _) id id (fun _ => id) id id rfl rfl (fun _ => rfl)
    | exact h.upd rfl rfl rfl rfl rfl rfl rfl rfl rfl rfl

theorem State.takeBoundary_kept {s0 : State} (s : State) (p : Nat) (h : Kept s0 s) :
    Kept s0 (State.takeBoundary s p) := by
  unfold State.takeBoundary
  repeat' first
    | with_reducible assumption | intro _ | with_reducible apply State.bump_kept
    | with_reducible apply State.twinSet_kept | with_reducible apply State.logIt_kept
    | with_reducible apply State.flag_kept | with_reducible apply State.writeWithheld_kept
    | with_reducible apply State.setPrt_kept | with_reducible apply Kept.ite | split | dsimp only
    | with_reducible refine Kept.put ?_ rfl rfl rfl rfl rfl rfl rfl rfl rfl rfl

theorem State.tcuTake_kept {s0 : State} (s : State) (n : Nat) (k : Nat) (t : Nat) (frac : Option Nat) (h : Kept s0 s) :
    Kept s0 (State.tcuTake s n k t frac) := by
  unfold State.tcuTake
  repeat' first
    | with_reducible assumption | intro _ | with_reducible apply State.when_kept | with_reducible apply State.p_kept
    | with_reducible apply State.flag_kept | with_reducible apply State.p64_kept
    | with_reducible apply State.unflag_kept | with_reducible apply Kept.ite | split | dsimp only
    | with_reducible refine Kept.put ?_ rfl rfl rfl rfl rfl rfl rfl rfl rfl rfl

theorem State.thmShow_kept {s0 : State} (s : State) (h : Kept s0 s) :
    Kept s0 (State.thmShow s) := by
  unfold State.thmShow
  repeat' first
    | with_reducible assumption | intro _ | with_reducible apply forEach_kept | with_reducible apply foldl_kept
    | with_reducible apply State.p_kept | with_reducible apply Kept.ite | split | dsimp only
    | with_reducible refine Kept.put ?_ rfl rfl rfl rfl rfl rfl rfl rfl rfl rfl

theorem State.uartStep_kept {s0 : State} (s : State) (h : Kept s0 s) :
    Kept s0 (State.uartStep s) := by
  unfold State.uartStep
  repeat' first
    | with_reducible assumption | intro _ | with_reducible apply Kept.ite | split | dsimp only
    | with_reducible refine Kept.put ?_ rfl rfl rfl rfl rfl rfl rfl rfl rfl rfl

theorem State.trainLate_kept {s0 : State} (s : State) (p : Nat) (h : Kept s0 s) :
    Kept s0 (State.trainLate s p) := by
  unfold State.trainLate
  repeat' first
    | with_reducible assumption | intro _ | with_reducible apply State.settle_kept
    | with_reducible apply State.setPort_kept | with_reducible apply Kept.ite | split | dsimp only
    | with_reducible refine Kept.put ?_ rfl rfl rfl rfl rfl rfl rfl rfl rfl rfl

theorem State.waitTick_kept {s0 : State} (s : State) (h : Kept s0 s) :
    Kept s0 (State.waitTick s) := by
  unfold State.waitTick
  repeat' first
    | with_reducible assumption | intro _ | with_reducible apply forEach_kept
    | with_reducible apply State.cqStall_kept | with_reducible apply State.moveTick_kept
    | with_reducible apply State.replayTick_kept | with_reducible apply State.discTick_kept
    | with_reducible apply State.fabTick_kept | with_reducible apply State.trainLate_kept
    | with_reducible apply State.adcReady_kept | with_reducible apply State.turnStep_kept
    | with_reducible apply State.reqFall_kept | with_reducible apply State.hearthCycle_kept
    | with_reducible apply State.stopStep_kept | with_reducible apply State.tryQuiesce_kept
    | with_reducible apply Kept.ite | split | dsimp only
    | with_reducible refine Kept.put ?_ rfl rfl rfl rfl rfl rfl rfl rfl rfl rfl

theorem State.tryStart_kept {s0 : State} (s : State) (p : Pkt) (h : Kept s0 s) : Kept s0 (State.tryStart s p) := by
  unfold State.tryStart
  split
  · rename_i c _
    exact Kept.ite (State.begin_kept s c p h) h
  · exact h

theorem State.turnPass_kept {s0 : State} (s : State) (g : Nat) (h : Kept s0 s) :
    Kept s0 (State.turnPass s g) := by
  unfold State.turnPass
  repeat' first
    | with_reducible assumption | intro _ | with_reducible apply State.p_kept | with_reducible apply Kept.ite | split
    | dsimp only | with_reducible refine Kept.put ?_ rfl rfl rfl rfl rfl rfl rfl rfl rfl rfl

theorem State.turnSkip_kept {s0 : State} (s : State) (g : Nat) (h : Kept s0 s) :
    Kept s0 (State.turnSkip s g) := by
  unfold State.turnSkip
  repeat' first
    | with_reducible assumption | intro _ | with_reducible apply State.when_kept
    | with_reducible apply State.flag_kept | with_reducible apply State.bump_kept
    | with_reducible apply State.setSl_kept | with_reducible apply State.turnPass_kept
    | with_reducible apply State.settle_kept | with_reducible apply State.setSlice_kept
    | with_reducible apply Kept.ite | split | dsimp only
    | with_reducible refine Kept.put ?_ rfl rfl rfl rfl rfl rfl rfl rfl rfl rfl

theorem State.unshedChan_kept {s0 : State} (s : State) (c : Nat) (h : Kept s0 s) :
    Kept s0 (State.unshedChan s c) := by
  unfold State.unshedChan
  repeat' first
    | with_reducible assumption | intro _ | with_reducible apply State.unflag_kept
    | with_reducible apply State.flxRamp_kept | with_reducible apply State.biasUnshed_kept
    | with_reducible apply State.flag_kept | with_reducible apply State.bump_kept | with_reducible apply Kept.ite
    | split | dsimp only | with_reducible refine Kept.put ?_ rfl rfl rfl rfl rfl rfl rfl rfl rfl rfl

theorem State.update_kept {s0 : State} (s : State) (src : Nat) (w : W64) (h : Kept s0 s) :
    Kept s0 (State.update s src w) := by
  unfold State.update
  repeat' first
    | with_reducible assumption | intro _ | with_reducible apply State.bump_kept
    | with_reducible apply State.toggle_kept | with_reducible apply State.resolve_kept | with_reducible apply Kept.ite
    | split | dsimp only | with_reducible refine Kept.put ?_ rfl rfl rfl rfl rfl rfl rfl rfl rfl rfl

theorem State.violate_kept {s0 : State} (s : State) (u : Nat) (stamp : Nat) (seg : Nat) (first : Bool) (h : Kept s0 s) :
    Kept s0 (State.violate s u stamp seg first) := by
  unfold State.violate
  repeat' first
    | with_reducible assumption | intro _ | with_reducible apply State.when_kept
    | with_reducible apply State.flag_kept | with_reducible apply State.bump_kept
    | with_reducible apply State.publish_kept | with_reducible apply State.cuMark_kept
    | with_reducible apply State.setCu_kept | with_reducible apply State.cuTrigger_kept
    | with_reducible apply Kept.ite | split | dsimp only
    | with_reducible refine Kept.put ?_ rfl rfl rfl rfl rfl rfl rfl rfl rfl rfl

theorem State.wakeDone_kept {s0 : State} (s : State) (h : Kept s0 s) :
    Kept s0 (State.wakeDone s) := by
  unfold State.wakeDone
  repeat' first
    | with_reducible assumption | intro _ | with_reducible apply State.wakeUp_kept
    | with_reducible apply State.autoRestore_kept | with_reducible apply State.ringHeld_kept
    | with_reducible apply State.settleAll_kept | with_reducible apply State.settleMode_kept
    | with_reducible apply State.lanesApply_kept | with_reducible apply Kept.ite | split | dsimp only
    | with_reducible refine Kept.put ?_ rfl rfl rfl rfl rfl rfl rfl rfl rfl rfl

theorem State.wallCount_kept {s0 : State} (s : State) (h : Kept s0 s) :
    Kept s0 (State.wallCount s) := by
  unfold State.wallCount
  repeat' first
    | with_reducible assumption | intro _ | with_reducible apply Kept.ite | split | dsimp only
    | with_reducible refine Kept.put ?_ rfl rfl rfl rfl rfl rfl rfl rfl rfl rfl

theorem State.wallStep_kept {s0 : State} (s : State) (off : Int) (h : Kept s0 s) :
    Kept s0 (State.wallStep s off) := by
  unfold State.wallStep
  repeat' first
    | with_reducible assumption | intro _ | with_reducible apply State.logIt_kept
    | with_reducible apply State.flag_kept | with_reducible apply Kept.ite | split | dsimp only
    | with_reducible refine Kept.put ?_ rfl rfl rfl rfl rfl rfl rfl rfl rfl rfl

theorem State.windowOf_kept {s0 : State} (s : State) (t : Nat) (whole : Bool) (h : Kept s0 s) :
    Kept s0 (State.windowOf s t whole) := by
  unfold State.windowOf
  repeat' first
    | with_reducible assumption | intro _ | with_reducible apply State.endEarly_kept
    | with_reducible apply State.endWin_kept | with_reducible apply Kept.ite | split | dsimp only
    | with_reducible refine Kept.put ?_ rfl rfl rfl rfl rfl rfl rfl rfl rfl rfl

theorem execDecEntryWrite_kept {s0 : State} (fn : Nat) (key : Nat) (v : Word) (s : State) (h : Kept s0 s) :
    KeptOut s0 (execDecEntryWrite fn key v s) := by
  unfold execDecEntryWrite
  repeat' first
    | with_reducible assumption | intro _ | with_reducible apply State.onWrite_kept
    | with_reducible apply State.entryDone_kept | with_reducible apply KeptOut.next | with_reducible apply KeptOut.ite
    | with_reducible apply Kept.ite | split | dsimp only
    | with_reducible refine Kept.put ?_ rfl rfl rfl rfl rfl rfl rfl rfl rfl rfl

theorem State.windowWrite_kept {s0 : State} (s : State) (fn : Nat) (a : Nat) (w : Word) (h : Kept s0 s) :
    Kept s0 (State.windowWrite s fn a w) := by
  unfold State.windowWrite
  repeat' first
    | with_reducible assumption | intro _ | with_reducible apply State.via_kept
    | with_reducible apply execDecEntryWrite_kept | with_reducible apply State.msixWrite_kept
    | with_reducible apply Kept.ite | split | dsimp only
    | with_reducible refine Kept.put ?_ rfl rfl rfl rfl rfl rfl rfl rfl rfl rfl

theorem State.wordGone_kept {s0 : State} (s : State) (p : Nat) (n : Nat) (h : Kept s0 s) :
    Kept s0 (State.wordGone s p n) := by
  unfold State.wordGone
  repeat' first
    | with_reducible assumption | intro _ | with_reducible apply State.bump_kept
    | with_reducible apply State.logIt_kept | with_reducible apply State.setPort_kept | with_reducible apply Kept.ite
    | split | dsimp only | with_reducible refine Kept.put ?_ rfl rfl rfl rfl rfl rfl rfl rfl rfl rfl

theorem State.writeAt_kept {s0 : State} (s : State) (fn : Nat) (a : Nat) (w : Word) (h : Kept s0 s) :
    Kept s0 (State.writeAt s fn a w) := by
  unfold State.writeAt
  repeat' first
    | with_reducible assumption | intro _ | with_reducible apply State.onWrite_kept
    | with_reducible apply State.regWrite_kept | with_reducible apply State.windowWrite_kept
    | with_reducible apply Kept.ite | split | dsimp only
    | with_reducible refine Kept.put ?_ rfl rfl rfl rfl rfl rfl rfl rfl rfl rfl

theorem execNop_kept {s0 : State} (o : NopOp) (s : State) (h : Kept s0 s) :
    KeptOut s0 (execNop o s) := by
  unfold execNop
  repeat' first
    | with_reducible assumption | intro _ | with_reducible apply State.command_kept | with_reducible apply cNop_kept
    | with_reducible apply State.issue_kept | with_reducible apply KeptRes.go | with_reducible apply KeptRes.bad
    | with_reducible apply KeptRes.held | with_reducible apply KeptRes.ite | with_reducible apply KeptOut.next
    | with_reducible apply KeptOut.ite | with_reducible apply Kept.ite | split | dsimp only
    | with_reducible refine Kept.put ?_ rfl rfl rfl rfl rfl rfl rfl rfl rfl rfl

theorem execHrtIdentify_kept {s0 : State} (p : Pkt) (s : State) (h : Kept s0 s) :
    KeptOut s0 (execHrtIdentify p s) := by
  unfold execHrtIdentify
  repeat' first
    | with_reducible assumption | intro _ | with_reducible apply State.command_kept
    | with_reducible apply cHrtIdentify_kept | with_reducible apply KeptOut.next | with_reducible apply KeptOut.ite
    | with_reducible apply Kept.ite | split | dsimp only
    | with_reducible refine Kept.put ?_ rfl rfl rfl rfl rfl rfl rfl rfl rfl rfl

theorem execHrtPatchLoad_kept {s0 : State} (p : Pkt) (s : State) (h : Kept s0 s) :
    KeptOut s0 (execHrtPatchLoad p s) := by
  unfold execHrtPatchLoad
  repeat' first
    | with_reducible assumption | intro _ | with_reducible apply State.command_kept
    | with_reducible apply cHrtPatchLoad_kept | with_reducible apply KeptOut.next | with_reducible apply KeptOut.ite
    | with_reducible apply Kept.ite | split | dsimp only
    | with_reducible refine Kept.put ?_ rfl rfl rfl rfl rfl rfl rfl rfl rfl rfl

theorem execHrtPatchClear_kept {s0 : State} (p : Pkt) (s : State) (h : Kept s0 s) :
    KeptOut s0 (execHrtPatchClear p s) := by
  unfold execHrtPatchClear
  repeat' first
    | with_reducible assumption | intro _ | with_reducible apply State.command_kept
    | with_reducible apply cHrtPatchClear_kept | with_reducible apply KeptOut.next | with_reducible apply KeptOut.ite
    | with_reducible apply Kept.ite | split | dsimp only
    | with_reducible refine Kept.put ?_ rfl rfl rfl rfl rfl rfl rfl rfl rfl rfl

theorem execIntSrcSet_kept {s0 : State} (p : Pkt) (s : State) (h : Kept s0 s) :
    KeptOut s0 (execIntSrcSet p s) := by
  unfold execIntSrcSet
  repeat' first
    | with_reducible assumption | intro _ | with_reducible apply State.command_kept
    | with_reducible apply cIntSrcSet_kept | with_reducible apply KeptOut.next | with_reducible apply KeptOut.ite
    | with_reducible apply Kept.ite | split | dsimp only
    | with_reducible refine Kept.put ?_ rfl rfl rfl rfl rfl rfl rfl rfl rfl rfl

theorem execIntTargetSet_kept {s0 : State} (p : Pkt) (s : State) (h : Kept s0 s) :
    KeptOut s0 (execIntTargetSet p s) := by
  unfold execIntTargetSet
  repeat' first
    | with_reducible assumption | intro _ | with_reducible apply State.command_kept
    | with_reducible apply cIntTargetSet_kept | with_reducible apply KeptOut.next | with_reducible apply KeptOut.ite
    | with_reducible apply Kept.ite | split | dsimp only
    | with_reducible refine Kept.put ?_ rfl rfl rfl rfl rfl rfl rfl rfl rfl rfl

theorem execIntSwi_kept {s0 : State} (p : Pkt) (s : State) (h : Kept s0 s) :
    KeptOut s0 (execIntSwi p s) := by
  unfold execIntSwi
  repeat' first
    | with_reducible assumption | intro _ | with_reducible apply State.command_kept
    | with_reducible apply cIntSwi_kept | with_reducible apply KeptOut.next | with_reducible apply KeptOut.ite
    | with_reducible apply Kept.ite | split | dsimp only
    | with_reducible refine Kept.put ?_ rfl rfl rfl rfl rfl rfl rfl rfl rfl rfl

theorem execIntDelivery_kept {s0 : State} (t : Nat) (s : State) (h : Kept s0 s) :
    KeptOut s0 (execIntDelivery t s) := by
  unfold execIntDelivery
  repeat' first
    | with_reducible assumption | intro _ | with_reducible apply State.reqFall_kept
    | with_reducible apply State.deliverReq_kept | with_reducible apply KeptOut.next
    | with_reducible apply KeptOut.ite | with_reducible apply Kept.ite | split | dsimp only
    | with_reducible refine Kept.put ?_ rfl rfl rfl rfl rfl rfl rfl rfl rfl rfl

theorem execModerationWindowEnd_kept {s0 : State} (t : Nat) (s : State) (h : Kept s0 s) :
    KeptOut s0 (execModerationWindowEnd t s) := by
  unfold execModerationWindowEnd
  repeat' first
    | with_reducible assumption | intro _ | with_reducible apply State.deliverReq_kept
    | with_reducible apply KeptOut.next | with_reducible apply KeptOut.ite | with_reducible apply Kept.ite | split
    | dsimp only | with_reducible refine Kept.put ?_ rfl rfl rfl rfl rfl rfl rfl rfl rfl rfl

theorem execFaultTrap_kept {s0 : State} (kind : Nat) (upc : Nat) (s : State) (h : Kept s0 s) :
    KeptOut s0 (execFaultTrap kind upc s) := by
  unfold execFaultTrap
  repeat' first
    | with_reducible assumption | intro _ | with_reducible apply State.faultTrap_kept
    | with_reducible apply KeptOut.next | with_reducible apply KeptOut.ite | with_reducible apply Kept.ite | split
    | dsimp only | with_reducible refine Kept.put ?_ rfl rfl rfl rfl rfl rfl rfl rfl rfl rfl

theorem execInterruptTrap_kept {s0 : State} (s : State) (h : Kept s0 s) :
    KeptOut s0 (execInterruptTrap s) := by
  unfold execInterruptTrap
  repeat' first
    | with_reducible assumption | intro _ | with_reducible apply State.serviceInt_kept
    | with_reducible apply State.holdTrap_kept | with_reducible apply KeptOut.next | with_reducible apply KeptOut.ite
    | with_reducible apply Kept.ite | split | dsimp only
    | with_reducible refine Kept.put ?_ rfl rfl rfl rfl rfl rfl rfl rfl rfl rfl

theorem execTickTrap_kept {s0 : State} (s : State) (h : Kept s0 s) :
    KeptOut s0 (execTickTrap s) := by
  unfold execTickTrap
  repeat' first
    | with_reducible assumption | intro _ | with_reducible apply State.serviceTick_kept
    | with_reducible apply State.holdTrap_kept | with_reducible apply KeptOut.next | with_reducible apply KeptOut.ite
    | with_reducible apply Kept.ite | split | dsimp only
    | with_reducible refine Kept.put ?_ rfl rfl rfl rfl rfl rfl rfl rfl rfl rfl

theorem execRoutineYield_kept {s0 : State} (upc : Nat) (s : State) (h : Kept s0 s) :
    KeptOut s0 (execRoutineYield upc s) := by
  unfold execRoutineYield
  repeat' first
    | with_reducible assumption | intro _ | with_reducible apply State.yieldAt_kept
    | with_reducible apply KeptOut.next | with_reducible apply KeptOut.ite | with_reducible apply Kept.ite | split
    | dsimp only | with_reducible refine Kept.put ?_ rfl rfl rfl rfl rfl rfl rfl rfl rfl rfl

theorem execGroupRelease_kept {s0 : State} (ctx : Nat) (grp : Nat) (s : State) (h : Kept s0 s) :
    KeptOut s0 (execGroupRelease ctx grp s) := by
  unfold execGroupRelease
  repeat' first
    | with_reducible assumption | intro _ | with_reducible apply State.releaseGroup_kept
    | with_reducible apply KeptOut.next | with_reducible apply KeptOut.ite | with_reducible apply Kept.ite | split
    | dsimp only | with_reducible refine Kept.put ?_ rfl rfl rfl rfl rfl rfl rfl rfl rfl rfl

theorem execEvrChanSet_kept {s0 : State} (p : Pkt) (s : State) (h : Kept s0 s) :
    KeptOut s0 (execEvrChanSet p s) := by
  unfold execEvrChanSet
  repeat' first
    | with_reducible assumption | intro _ | with_reducible apply State.command_kept
    | with_reducible apply cEvrChanSet_kept | with_reducible apply KeptOut.next | with_reducible apply KeptOut.ite
    | with_reducible apply Kept.ite | split | dsimp only
    | with_reducible refine Kept.put ?_ rfl rfl rfl rfl rfl rfl rfl rfl rfl rfl

theorem execEvrCellStage_kept {s0 : State} (p : Pkt) (s : State) (h : Kept s0 s) :
    KeptOut s0 (execEvrCellStage p s) := by
  unfold execEvrCellStage
  repeat' first
    | with_reducible assumption | intro _ | with_reducible apply State.command_kept
    | with_reducible apply cEvrCellStage_kept | with_reducible apply KeptOut.next | with_reducible apply KeptOut.ite
    | with_reducible apply Kept.ite | split | dsimp only
    | with_reducible refine Kept.put ?_ rfl rfl rfl rfl rfl rfl rfl rfl rfl rfl

theorem execEvrPubStage_kept {s0 : State} (p : Pkt) (s : State) (h : Kept s0 s) :
    KeptOut s0 (execEvrPubStage p s) := by
  unfold execEvrPubStage
  repeat' first
    | with_reducible assumption | intro _ | with_reducible apply State.command_kept
    | with_reducible apply cEvrPubStage_kept | with_reducible apply KeptOut.next | with_reducible apply KeptOut.ite
    | with_reducible apply Kept.ite | split | dsimp only
    | with_reducible refine Kept.put ?_ rfl rfl rfl rfl rfl rfl rfl rfl rfl rfl

theorem execEvrCommit_kept {s0 : State} (p : Pkt) (s : State) (h : Kept s0 s) :
    KeptOut s0 (execEvrCommit p s) := by
  unfold execEvrCommit
  repeat' first
    | with_reducible assumption | intro _ | with_reducible apply State.command_kept
    | with_reducible apply cEvrCommit_kept | with_reducible apply KeptOut.next | with_reducible apply KeptOut.ite
    | with_reducible apply Kept.ite | split | dsimp only
    | with_reducible refine Kept.put ?_ rfl rfl rfl rfl rfl rfl rfl rfl rfl rfl

theorem execEvrDiscard_kept {s0 : State} (p : Pkt) (s : State) (h : Kept s0 s) :
    KeptOut s0 (execEvrDiscard p s) := by
  unfold execEvrDiscard
  repeat' first
    | with_reducible assumption | intro _ | with_reducible apply State.command_kept
    | with_reducible apply cEvrDiscard_kept | with_reducible apply KeptOut.next | with_reducible apply KeptOut.ite
    | with_reducible apply Kept.ite | split | dsimp only
    | with_reducible refine Kept.put ?_ rfl rfl rfl rfl rfl rfl rfl rfl rfl rfl

theorem execEvrPublish_kept {s0 : State} (p : Pkt) (s : State) (h : Kept s0 s) :
    KeptOut s0 (execEvrPublish p s) := by
  unfold execEvrPublish
  repeat' first
    | with_reducible assumption | intro _ | with_reducible apply State.command_kept
    | with_reducible apply cEvrPublish_kept | with_reducible apply KeptOut.next | with_reducible apply KeptOut.ite
    | with_reducible apply Kept.ite | split | dsimp only
    | with_reducible refine Kept.put ?_ rfl rfl rfl rfl rfl rfl rfl rfl rfl rfl

theorem execEventPublication_kept {s0 : State} (o : EvSrc) (s : State) (h : Kept s0 s) :
    KeptOut s0 (execEventPublication o s) := by
  unfold execEventPublication
  repeat' first
    | with_reducible assumption | intro _ | with_reducible apply State.publishSrc_kept
    | with_reducible apply State.publish_kept | with_reducible apply KeptOut.next | with_reducible apply KeptOut.ite
    | with_reducible apply Kept.ite | split | dsimp only
    | with_reducible refine Kept.put ?_ rfl rfl rfl rfl rfl rfl rfl rfl rfl rfl

end Sys2Proof.Machine
end

