-- ==== Sys2Proof/Laws/KeptG.lean ====
section
/-!
SUPPORT. Laws/KeptG.lean: that the operations of the model keep what Laws/Kept.lean says, one lemma an operation, in the order in
which they build on one another.
-/

namespace Sys2Proof.Machine
open Sys2Proof

theorem execChanRateTripClear_kept {s0 : State} (fn : Nat) (ch : Nat) (s : State) (h : Kept s0 s) :
    KeptOut s0 (execChanRateTripClear fn ch s) := by
  unfold execChanRateTripClear
  repeat' first
    | with_reducible assumption | intro _ | with_reducible apply State.onWrite_kept
    | with_reducible apply State.evchWrite_kept | with_reducible apply State.unflag_kept
    | with_reducible apply KeptOut.next | with_reducible apply KeptOut.ite | with_reducible apply Kept.ite | split
    | dsimp only | with_reducible refine Kept.put ?_ rfl rfl rfl rfl rfl rfl rfl rfl rfl rfl

theorem execCellFilterSettled_kept {s0 : State} (c : Nat) (s : State) (h : Kept s0 s) :
    KeptOut s0 (execCellFilterSettled c s) := by
  unfold execCellFilterSettled
  repeat' first
    | with_reducible assumption | intro _ | with_reducible apply State.cellSettle_kept
    | with_reducible apply KeptOut.next | with_reducible apply KeptOut.ite | with_reducible apply Kept.ite | split
    | dsimp only | with_reducible refine Kept.put ?_ rfl rfl rfl rfl rfl rfl rfl rfl rfl rfl

theorem execWakeEvent_kept {s0 : State} (ch : Nat) (s : State) (h : Kept s0 s) :
    KeptOut s0 (execWakeEvent ch s) := by
  unfold execWakeEvent
  repeat' first
    | with_reducible assumption | intro _ | with_reducible apply State.startWake_kept
    | with_reducible apply KeptOut.next | with_reducible apply KeptOut.ite | with_reducible apply Kept.ite | split
    | dsimp only | with_reducible refine Kept.put ?_ rfl rfl rfl rfl rfl rfl rfl rfl rfl rfl

theorem execTimeAnchor_kept {s0 : State} (p : Pkt) (s : State) (h : Kept s0 s) :
    KeptOut s0 (execTimeAnchor p s) := by
  unfold execTimeAnchor
  repeat' first
    | with_reducible assumption | intro _ | with_reducible apply State.command_kept
    | with_reducible apply cTimeAnchor_kept | with_reducible apply KeptOut.next | with_reducible apply KeptOut.ite
    | with_reducible apply Kept.ite | split | dsimp only
    | with_reducible refine Kept.put ?_ rfl rfl rfl rfl rfl rfl rfl rfl rfl rfl

theorem execTimePropagate_kept {s0 : State} (p : Pkt) (s : State) (h : Kept s0 s) :
    KeptOut s0 (execTimePropagate p s) := by
  unfold execTimePropagate
  repeat' first
    | with_reducible assumption | intro _ | with_reducible apply State.command_kept
    | with_reducible apply cTimePropagate_kept | with_reducible apply KeptOut.next | with_reducible apply KeptOut.ite
    | with_reducible apply Kept.ite | split | dsimp only
    | with_reducible refine Kept.put ?_ rfl rfl rfl rfl rfl rfl rfl rfl rfl rfl

theorem execTimeRelease_kept {s0 : State} (p : Pkt) (s : State) (h : Kept s0 s) :
    KeptOut s0 (execTimeRelease p s) := by
  unfold execTimeRelease
  repeat' first
    | with_reducible assumption | intro _ | with_reducible apply State.command_kept
    | with_reducible apply cTimeRelease_kept | with_reducible apply KeptOut.next | with_reducible apply KeptOut.ite
    | with_reducible apply Kept.ite | split | dsimp only
    | with_reducible refine Kept.put ?_ rfl rfl rfl rfl rfl rfl rfl rfl rfl rfl

theorem execAnchorLoad_kept (d : Nat) (s : State) : KeptOut s (execAnchorLoad d s) := by
  have h := Kept.refl s
  unfold execAnchorLoad
  refine KeptOut.next ?_
  split
  · split
    · exact h
    · rename_i e; exact State.anchorTake_kept s d _ _ h (Bool.eq_false_iff.2 e)
  · exact h

theorem execAnchorFrameReceive_kept (frame : BitVec 104) (s : State) :
    KeptOut s (execAnchorFrameReceive frame s) := by
  unfold execAnchorFrameReceive
  refine KeptOut.next (Kept.ite (Kept.refl s) ?_)
  dsimp only
  generalize hx : s.when (s.on Page.tim F.TIM_CTRL_LINK_OUT_EN = true) _ = x
  have ha : x.anchored (afDomain frame) = s.anchored (afDomain frame) := by
    rw [← hx]; unfold State.when; split <;> rfl
  have h : Kept s x := by
    rw [← hx]
    apply State.when_kept (Kept.refl s)
    intro t ht
    exact Kept.put ht rfl rfl rfl rfl rfl rfl rfl rfl rfl rfl
  split
  · exact State.bump_kept _ _ _ _ (State.flag_kept _ _ _ h)
  · split
    · exact State.bump_kept _ _ _ _ h
    · rename_i e
      split
      · exact h
      · refine State.anchorTake_kept _ _ _ _ h ?_
        rw [← ha]
        exact Bool.eq_false_iff.2 (fun e' => e (by simp [e']))

theorem execAnchorFrameForward_kept {s0 : State} (s : State) (h : Kept s0 s) :
    KeptOut s0 (execAnchorFrameForward s) := by
  unfold execAnchorFrameForward
  repeat' first
    | with_reducible assumption | intro _ | with_reducible apply KeptOut.next | with_reducible apply KeptOut.ite
    | with_reducible apply Kept.ite | split | dsimp only
    | with_reducible refine Kept.put ?_ rfl rfl rfl rfl rfl rfl rfl rfl rfl rfl

theorem execTimeAlign_kept {s0 : State} (p : Pkt) (s : State) (h : Kept s0 s) :
    KeptOut s0 (execTimeAlign p s) := by
  unfold execTimeAlign
  repeat' first
    | with_reducible assumption | intro _ | with_reducible apply State.command_kept
    | with_reducible apply cTimeAlign_kept | with_reducible apply KeptOut.next | with_reducible apply KeptOut.ite
    | with_reducible apply Kept.ite | split | dsimp only
    | with_reducible refine Kept.put ?_ rfl rfl rfl rfl rfl rfl rfl rfl rfl rfl

theorem execAlignmentVerify_kept {s0 : State} (ok : Bool) (s : State) (h : Kept s0 s) :
    KeptOut s0 (execAlignmentVerify ok s) := by
  unfold execAlignmentVerify
  repeat' first
    | with_reducible assumption | intro _ | with_reducible apply State.alignGood_kept
    | with_reducible apply State.flag_kept | with_reducible apply State.alignBad_kept
    | with_reducible apply KeptOut.next | with_reducible apply KeptOut.ite | with_reducible apply Kept.ite | split
    | dsimp only | with_reducible refine Kept.put ?_ rfl rfl rfl rfl rfl rfl rfl rfl rfl rfl

theorem execTimeWallRelock_kept {s0 : State} (p : Pkt) (s : State) (h : Kept s0 s) :
    KeptOut s0 (execTimeWallRelock p s) := by
  unfold execTimeWallRelock
  repeat' first
    | with_reducible assumption | intro _ | with_reducible apply State.command_kept
    | with_reducible apply cTimeWallRelock_kept | with_reducible apply KeptOut.next | with_reducible apply KeptOut.ite
    | with_reducible apply Kept.ite | split | dsimp only
    | with_reducible refine Kept.put ?_ rfl rfl rfl rfl rfl rfl rfl rfl rfl rfl

theorem execRefLost_kept {s0 : State} (s : State) (h : Kept s0 s) :
    KeptOut s0 (execRefLost s) := by
  unfold execRefLost
  repeat' first
    | with_reducible assumption | intro _ | with_reducible apply State.refFall_kept
    | with_reducible apply KeptOut.next | with_reducible apply KeptOut.ite | with_reducible apply Kept.ite | split
    | dsimp only | with_reducible refine Kept.put ?_ rfl rfl rfl rfl rfl rfl rfl rfl rfl rfl

theorem execRefRestored_kept {s0 : State} (s : State) (h : Kept s0 s) :
    KeptOut s0 (execRefRestored s) := by
  unfold execRefRestored
  repeat' first
    | with_reducible assumption | intro _ | with_reducible apply State.flag_kept
    | with_reducible apply State.clearPending_kept | with_reducible apply State.startWake_kept
    | with_reducible apply State.alignStart_kept | with_reducible apply KeptOut.next
    | with_reducible apply KeptOut.ite | with_reducible apply Kept.ite | split | dsimp only
    | with_reducible refine Kept.put ?_ rfl rfl rfl rfl rfl rfl rfl rfl rfl rfl

theorem execPtpSync_kept {s0 : State} (m : PtpSync) (s : State) (h : Kept s0 s) :
    KeptOut s0 (execPtpSync m s) := by
  unfold execPtpSync
  repeat' first
    | with_reducible assumption | intro _ | with_reducible apply State.when_kept | with_reducible apply State.p_kept
    | with_reducible apply State.flag_kept | with_reducible apply State.wallCount_kept
    | with_reducible apply State.setWall_kept | with_reducible apply State.wallStep_kept
    | with_reducible apply State.rateFree_kept | with_reducible apply KeptOut.next | with_reducible apply KeptOut.ite
    | with_reducible apply Kept.ite | split | dsimp only
    | with_reducible refine Kept.put ?_ rfl rfl rfl rfl rfl rfl rfl rfl rfl rfl

theorem execWallHoldover_kept {s0 : State} (s : State) (h : Kept s0 s) :
    KeptOut s0 (execWallHoldover s) := by
  unfold execWallHoldover
  repeat' first
    | with_reducible assumption | intro _ | with_reducible apply State.flag_kept
    | with_reducible apply State.setWall_kept | with_reducible apply KeptOut.next | with_reducible apply KeptOut.ite
    | with_reducible apply Kept.ite | split | dsimp only
    | with_reducible refine Kept.put ?_ rfl rfl rfl rfl rfl rfl rfl rfl rfl rfl

theorem execTtuFire_kept {s0 : State} (n : Nat) (s : State) (h : Kept s0 s) :
    KeptOut s0 (execTtuFire n s) := by
  unfold execTtuFire
  repeat' first
    | with_reducible assumption | intro _ | with_reducible apply State.ttuFire_kept
    | with_reducible apply KeptOut.next | with_reducible apply KeptOut.ite | with_reducible apply Kept.ite | split
    | dsimp only | with_reducible refine Kept.put ?_ rfl rfl rfl rfl rfl rfl rfl rfl rfl rfl

theorem execTcuCapture_kept {s0 : State} (n : Nat) (t : Nat) (frac : Nat) (s : State) (h : Kept s0 s) :
    KeptOut s0 (execTcuCapture n t frac s) := by
  unfold execTcuCapture
  repeat' first
    | with_reducible assumption | intro _ | with_reducible apply State.tcuTake_kept
    | with_reducible apply KeptOut.next | with_reducible apply KeptOut.ite | with_reducible apply Kept.ite | split
    | dsimp only | with_reducible refine Kept.put ?_ rfl rfl rfl rfl rfl rfl rfl rfl rfl rfl

theorem execReg64LowRead_kept {s0 : State} (fn : Nat) (a : Nat) (s : State) (h : Kept s0 s) :
    KeptOut s0 (execReg64LowRead fn a s) := by
  unfold execReg64LowRead
  repeat' first
    | with_reducible assumption | intro _ | with_reducible apply State.readAt_kept
    | with_reducible apply State.answer_kept | with_reducible apply State.deny_kept
    | with_reducible apply KeptOut.next | with_reducible apply KeptOut.ite | with_reducible apply Kept.ite | split
    | dsimp only | with_reducible refine Kept.put ?_ rfl rfl rfl rfl rfl rfl rfl rfl rfl rfl

theorem execReg64HighWrite_kept {s0 : State} (fn : Nat) (a : Nat) (v : Word) (s : State) (h : Kept s0 s) :
    KeptOut s0 (execReg64HighWrite fn a v s) := by
  unfold execReg64HighWrite
  repeat' first
    | with_reducible assumption | intro _ | with_reducible apply State.writeAt_kept
    | with_reducible apply State.deny_kept | with_reducible apply KeptOut.next | with_reducible apply KeptOut.ite
    | with_reducible apply Kept.ite | split | dsimp only
    | with_reducible refine Kept.put ?_ rfl rfl rfl rfl rfl rfl rfl rfl rfl rfl

theorem execRegisterWrite_kept {s0 : State} (fn : Nat) (a : Nat) (v : Word) (s : State) (h : Kept s0 s) :
    KeptOut s0 (execRegisterWrite fn a v s) := by
  unfold execRegisterWrite
  repeat' first
    | with_reducible assumption | intro _ | with_reducible apply State.writeAt_kept
    | with_reducible apply State.deny_kept | with_reducible apply KeptOut.next | with_reducible apply KeptOut.ite
    | with_reducible apply Kept.ite | split | dsimp only
    | with_reducible refine Kept.put ?_ rfl rfl rfl rfl rfl rfl rfl rfl rfl rfl

theorem execDrvConfig_kept {s0 : State} (p : Pkt) (s : State) (h : Kept s0 s) :
    KeptOut s0 (execDrvConfig p s) := by
  unfold execDrvConfig
  repeat' first
    | with_reducible assumption | intro _ | with_reducible apply State.command_kept
    | with_reducible apply cDrvConfig_kept | with_reducible apply KeptOut.next | with_reducible apply KeptOut.ite
    | with_reducible apply Kept.ite | split | dsimp only
    | with_reducible refine Kept.put ?_ rfl rfl rfl rfl rfl rfl rfl rfl rfl rfl

theorem execDrvFrameSet_kept {s0 : State} (p : Pkt) (s : State) (h : Kept s0 s) :
    KeptOut s0 (execDrvFrameSet p s) := by
  unfold execDrvFrameSet
  repeat' first
    | with_reducible assumption | intro _ | with_reducible apply State.command_kept
    | with_reducible apply cDrvFrameSet_kept | with_reducible apply KeptOut.next | with_reducible apply KeptOut.ite
    | with_reducible apply Kept.ite | split | dsimp only
    | with_reducible refine Kept.put ?_ rfl rfl rfl rfl rfl rfl rfl rfl rfl rfl

theorem execEnvLoad_kept {s0 : State} (p : Pkt) (s : State) (h : Kept s0 s) :
    KeptOut s0 (execEnvLoad p s) := by
  unfold execEnvLoad
  repeat' first
    | with_reducible assumption | intro _ | with_reducible apply State.command_kept
    | with_reducible apply cEnvLoad_kept | with_reducible apply KeptOut.next | with_reducible apply KeptOut.ite
    | with_reducible apply Kept.ite | split | dsimp only
    | with_reducible refine Kept.put ?_ rfl rfl rfl rfl rfl rfl rfl rfl rfl rfl

theorem execEnvDescSet_kept {s0 : State} (p : Pkt) (s : State) (h : Kept s0 s) :
    KeptOut s0 (execEnvDescSet p s) := by
  unfold execEnvDescSet
  repeat' first
    | with_reducible assumption | intro _ | with_reducible apply State.command_kept
    | with_reducible apply cEnvDescSet_kept | with_reducible apply KeptOut.next | with_reducible apply KeptOut.ite
    | with_reducible apply Kept.ite | split | dsimp only
    | with_reducible refine Kept.put ?_ rfl rfl rfl rfl rfl rfl rfl rfl rfl rfl

theorem execDrvHeatSet_kept {s0 : State} (p : Pkt) (s : State) (h : Kept s0 s) :
    KeptOut s0 (execDrvHeatSet p s) := by
  unfold execDrvHeatSet
  repeat' first
    | with_reducible assumption | intro _ | with_reducible apply State.command_kept
    | with_reducible apply cDrvHeatSet_kept | with_reducible apply KeptOut.next | with_reducible apply KeptOut.ite
    | with_reducible apply Kept.ite | split | dsimp only
    | with_reducible refine Kept.put ?_ rfl rfl rfl rfl rfl rfl rfl rfl rfl rfl

theorem execDrvTripClear_kept {s0 : State} (p : Pkt) (s : State) (h : Kept s0 s) :
    KeptOut s0 (execDrvTripClear p s) := by
  unfold execDrvTripClear
  repeat' first
    | with_reducible assumption | intro _ | with_reducible apply State.command_kept
    | with_reducible apply cDrvTripClear_kept | with_reducible apply KeptOut.next | with_reducible apply KeptOut.ite
    | with_reducible apply Kept.ite | split | dsimp only
    | with_reducible refine Kept.put ?_ rfl rfl rfl rfl rfl rfl rfl rfl rfl rfl

theorem execHeatTrip_kept {s0 : State} (ch : Nat) (s : State) (h : Kept s0 s) :
    KeptOut s0 (execHeatTrip ch s) := by
  unfold execHeatTrip
  repeat' first
    | with_reducible assumption | intro _ | with_reducible apply State.when_kept
    | with_reducible apply State.flag_kept | with_reducible apply State.logIt_kept
    | with_reducible apply State.mark_kept | with_reducible apply State.muteStep_kept
    | with_reducible apply KeptOut.next | with_reducible apply KeptOut.ite | with_reducible apply Kept.ite | split
    | dsimp only | with_reducible refine Kept.put ?_ rfl rfl rfl rfl rfl rfl rfl rfl rfl rfl

theorem execDrvSpareSwap_kept {s0 : State} (p : Pkt) (s : State) (h : Kept s0 s) :
    KeptOut s0 (execDrvSpareSwap p s) := by
  unfold execDrvSpareSwap
  repeat' first
    | with_reducible assumption | intro _ | with_reducible apply State.command_kept
    | with_reducible apply cDrvSpareSwap_kept | with_reducible apply KeptOut.next | with_reducible apply KeptOut.ite
    | with_reducible apply Kept.ite | split | dsimp only
    | with_reducible refine Kept.put ?_ rfl rfl rfl rfl rfl rfl rfl rfl rfl rfl

theorem execDrvSpareRelease_kept {s0 : State} (p : Pkt) (s : State) (h : Kept s0 s) :
    KeptOut s0 (execDrvSpareRelease p s) := by
  unfold execDrvSpareRelease
  repeat' first
    | with_reducible assumption | intro _ | with_reducible apply State.command_kept
    | with_reducible apply cDrvSpareRelease_kept | with_reducible apply KeptOut.next
    | with_reducible apply KeptOut.ite | with_reducible apply Kept.ite | split | dsimp only
    | with_reducible refine Kept.put ?_ rfl rfl rfl rfl rfl rfl rfl rfl rfl rfl

theorem execSpareCopyComplete_kept {s0 : State} (g : Nat) (s : State) (h : Kept s0 s) :
    KeptOut s0 (execSpareCopyComplete g s) := by
  unfold execSpareCopyComplete
  repeat' first
    | with_reducible assumption | intro _ | with_reducible apply State.spareCopied_kept
    | with_reducible apply KeptOut.next | with_reducible apply KeptOut.ite | with_reducible apply Kept.ite | split
    | dsimp only | with_reducible refine Kept.put ?_ rfl rfl rfl rfl rfl rfl rfl rfl rfl rfl

theorem execDatapathFailure_kept {s0 : State} (ch : Nat) (s : State) (h : Kept s0 s) :
    KeptOut s0 (execDatapathFailure ch s) := by
  unfold execDatapathFailure
  repeat' first
    | with_reducible assumption | intro _ | with_reducible apply State.dpFail_kept | with_reducible apply KeptOut.next
    | with_reducible apply KeptOut.ite | with_reducible apply Kept.ite | split | dsimp only
    | with_reducible refine Kept.put ?_ rfl rfl rfl rfl rfl rfl rfl rfl rfl rfl

theorem execSpareFailure_kept {s0 : State} (g : Nat) (s : State) (h : Kept s0 s) :
    KeptOut s0 (execSpareFailure g s) := by
  unfold execSpareFailure
  repeat' first
    | with_reducible assumption | intro _ | with_reducible apply State.spareFail_kept
    | with_reducible apply KeptOut.next | with_reducible apply KeptOut.ite | with_reducible apply Kept.ite | split
    | dsimp only | with_reducible refine Kept.put ?_ rfl rfl rfl rfl rfl rfl rfl rfl rfl rfl

theorem execExtMuteInput_kept {s0 : State} (asserted : Bool) (s : State) (h : Kept s0 s) :
    KeptOut s0 (execExtMuteInput asserted s) := by
  unfold execExtMuteInput
  repeat' first
    | with_reducible assumption | intro _ | with_reducible apply forEach_kept | with_reducible apply State.when_kept
    | with_reducible apply State.muteStep_kept | with_reducible apply State.publishSrc_kept
    | with_reducible apply KeptOut.next | with_reducible apply KeptOut.ite | with_reducible apply Kept.ite | split
    | dsimp only | with_reducible refine Kept.put ?_ rfl rfl rfl rfl rfl rfl rfl rfl rfl rfl

theorem execFlxConfig_kept {s0 : State} (p : Pkt) (s : State) (h : Kept s0 s) :
    KeptOut s0 (execFlxConfig p s) := by
  unfold execFlxConfig
  repeat' first
    | with_reducible assumption | intro _ | with_reducible apply State.command_kept
    | with_reducible apply cFlxConfig_kept | with_reducible apply KeptOut.next | with_reducible apply KeptOut.ite
    | with_reducible apply Kept.ite | split | dsimp only
    | with_reducible refine Kept.put ?_ rfl rfl rfl rfl rfl rfl rfl rfl rfl rfl

theorem execFlxGainSet_kept {s0 : State} (p : Pkt) (s : State) (h : Kept s0 s) :
    KeptOut s0 (execFlxGainSet p s) := by
  unfold execFlxGainSet
  repeat' first
    | with_reducible assumption | intro _ | with_reducible apply State.command_kept
    | with_reducible apply cFlxGainSet_kept | with_reducible apply KeptOut.next | with_reducible apply KeptOut.ite
    | with_reducible apply Kept.ite | split | dsimp only
    | with_reducible refine Kept.put ?_ rfl rfl rfl rfl rfl rfl rfl rfl rfl rfl

theorem execFlxPdLoad_kept {s0 : State} (p : Pkt) (s : State) (h : Kept s0 s) :
    KeptOut s0 (execFlxPdLoad p s) := by
  unfold execFlxPdLoad
  repeat' first
    | with_reducible assumption | intro _ | with_reducible apply State.command_kept
    | with_reducible apply cFlxPdLoad_kept | with_reducible apply KeptOut.next | with_reducible apply KeptOut.ite
    | with_reducible apply Kept.ite | split | dsimp only
    | with_reducible refine Kept.put ?_ rfl rfl rfl rfl rfl rfl rfl rfl rfl rfl

theorem execFlxSpareSwap_kept {s0 : State} (p : Pkt) (s : State) (h : Kept s0 s) :
    KeptOut s0 (execFlxSpareSwap p s) := by
  unfold execFlxSpareSwap
  repeat' first
    | with_reducible assumption | intro _ | with_reducible apply State.command_kept
    | with_reducible apply cFlxSpareSwap_kept | with_reducible apply KeptOut.next | with_reducible apply KeptOut.ite
    | with_reducible apply Kept.ite | split | dsimp only
    | with_reducible refine Kept.put ?_ rfl rfl rfl rfl rfl rfl rfl rfl rfl rfl

theorem execFlxSpareRelease_kept {s0 : State} (p : Pkt) (s : State) (h : Kept s0 s) :
    KeptOut s0 (execFlxSpareRelease p s) := by
  unfold execFlxSpareRelease
  repeat' first
    | with_reducible assumption | intro _ | with_reducible apply State.command_kept
    | with_reducible apply cFlxSpareRelease_kept | with_reducible apply KeptOut.next
    | with_reducible apply KeptOut.ite | with_reducible apply Kept.ite | split | dsimp only
    | with_reducible refine Kept.put ?_ rfl rfl rfl rfl rfl rfl rfl rfl rfl rfl

theorem execFlxRampEnd_kept {s0 : State} (ch : Nat) (s : State) (h : Kept s0 s) :
    KeptOut s0 (execFlxRampEnd ch s) := by
  unfold execFlxRampEnd
  repeat' first
    | with_reducible assumption | intro _ | with_reducible apply State.setFlx_kept
    | with_reducible apply State.settle_kept | with_reducible apply State.unflag_kept
    | with_reducible apply KeptOut.next | with_reducible apply KeptOut.ite | with_reducible apply Kept.ite | split
    | dsimp only | with_reducible refine Kept.put ?_ rfl rfl rfl rfl rfl rfl rfl rfl rfl rfl

theorem execSeqConfig_kept {s0 : State} (p : Pkt) (s : State) (h : Kept s0 s) :
    KeptOut s0 (execSeqConfig p s) := by
  unfold execSeqConfig
  repeat' first
    | with_reducible assumption | intro _ | with_reducible apply State.command_kept
    | with_reducible apply cSeqConfig_kept | with_reducible apply KeptOut.next | with_reducible apply KeptOut.ite
    | with_reducible apply Kept.ite | split | dsimp only
    | with_reducible refine Kept.put ?_ rfl rfl rfl rfl rfl rfl rfl rfl rfl rfl

theorem execSeqImageLoad_kept {s0 : State} (p : Pkt) (s : State) (h : Kept s0 s) :
    KeptOut s0 (execSeqImageLoad p s) := by
  unfold execSeqImageLoad
  repeat' first
    | with_reducible assumption | intro _ | with_reducible apply State.command_kept
    | with_reducible apply cSeqImageLoad_kept | with_reducible apply KeptOut.next | with_reducible apply KeptOut.ite
    | with_reducible apply Kept.ite | split | dsimp only
    | with_reducible refine Kept.put ?_ rfl rfl rfl rfl rfl rfl rfl rfl rfl rfl

theorem execSeqJump_kept {s0 : State} (p : Pkt) (s : State) (h : Kept s0 s) :
    KeptOut s0 (execSeqJump p s) := by
  unfold execSeqJump
  repeat' first
    | with_reducible assumption | intro _ | with_reducible apply State.command_kept
    | with_reducible apply cSeqJump_kept | with_reducible apply KeptOut.next | with_reducible apply KeptOut.ite
    | with_reducible apply Kept.ite | split | dsimp only
    | with_reducible refine Kept.put ?_ rfl rfl rfl rfl rfl rfl rfl rfl rfl rfl

theorem execSeqVectorSet_kept {s0 : State} (p : Pkt) (s : State) (h : Kept s0 s) :
    KeptOut s0 (execSeqVectorSet p s) := by
  unfold execSeqVectorSet
  repeat' first
    | with_reducible assumption | intro _ | with_reducible apply State.command_kept
    | with_reducible apply cSeqVectorSet_kept | with_reducible apply KeptOut.next | with_reducible apply KeptOut.ite
    | with_reducible apply Kept.ite | split | dsimp only
    | with_reducible refine Kept.put ?_ rfl rfl rfl rfl rfl rfl rfl rfl rfl rfl

theorem execSeqMarkerMap_kept {s0 : State} (p : Pkt) (s : State) (h : Kept s0 s) :
    KeptOut s0 (execSeqMarkerMap p s) := by
  unfold execSeqMarkerMap
  repeat' first
    | with_reducible assumption | intro _ | with_reducible apply State.command_kept
    | with_reducible apply cSeqMarkerMap_kept | with_reducible apply KeptOut.next | with_reducible apply KeptOut.ite
    | with_reducible apply Kept.ite | split | dsimp only
    | with_reducible refine Kept.put ?_ rfl rfl rfl rfl rfl rfl rfl rfl rfl rfl

theorem execPartArm_kept {s0 : State} (p : Pkt) (s : State) (h : Kept s0 s) :
    KeptOut s0 (execPartArm p s) := by
  unfold execPartArm
  repeat' first
    | with_reducible assumption | intro _ | with_reducible apply State.command_kept
    | with_reducible apply cPartArm_kept | with_reducible apply KeptOut.next | with_reducible apply KeptOut.ite
    | with_reducible apply Kept.ite | split | dsimp only
    | with_reducible refine Kept.put ?_ rfl rfl rfl rfl rfl rfl rfl rfl rfl rfl

theorem execPartStop_kept {s0 : State} (p : Pkt) (s : State) (h : Kept s0 s) :
    KeptOut s0 (execPartStop p s) := by
  unfold execPartStop
  repeat' first
    | with_reducible assumption | intro _ | with_reducible apply State.command_kept
    | with_reducible apply cPartStop_kept | with_reducible apply KeptOut.next | with_reducible apply KeptOut.ite
    | with_reducible apply Kept.ite | split | dsimp only
    | with_reducible refine Kept.put ?_ rfl rfl rfl rfl rfl rfl rfl rfl rfl rfl

theorem execPartAbort_kept {s0 : State} (p : Pkt) (s : State) (h : Kept s0 s) :
    KeptOut s0 (execPartAbort p s) := by
  unfold execPartAbort
  repeat' first
    | with_reducible assumption | intro _ | with_reducible apply State.command_kept
    | with_reducible apply cPartAbort_kept | with_reducible apply KeptOut.next | with_reducible apply KeptOut.ite
    | with_reducible apply Kept.ite | split | dsimp only
    | with_reducible refine Kept.put ?_ rfl rfl rfl rfl rfl rfl rfl rfl rfl rfl

theorem execArmingComplete_kept {s0 : State} (p : Nat) (s : State) (h : Kept s0 s) :
    KeptOut s0 (execArmingComplete p s) := by
  unfold execArmingComplete
  repeat' first
    | with_reducible assumption | intro _ | with_reducible apply forEach_kept | with_reducible apply State.setPrt_kept
    | with_reducible apply State.setSq_kept | with_reducible apply State.settle_kept
    | with_reducible apply State.setPst_kept | with_reducible apply KeptOut.next | with_reducible apply KeptOut.ite
    | with_reducible apply Kept.ite | split | dsimp only
    | with_reducible refine Kept.put ?_ rfl rfl rfl rfl rfl rfl rfl rfl rfl rfl

theorem execRunStartCut_kept {s0 : State} (p : Nat) (s : State) (h : Kept s0 s) :
    KeptOut s0 (execRunStartCut p s) := by
  unfold execRunStartCut
  repeat' first
    | with_reducible assumption | intro _ | with_reducible apply State.runCut_kept | with_reducible apply KeptOut.next
    | with_reducible apply KeptOut.ite | with_reducible apply Kept.ite | split | dsimp only
    | with_reducible refine Kept.put ?_ rfl rfl rfl rfl rfl rfl rfl rfl rfl rfl

theorem execStartTime_kept {s0 : State} (p : Nat) (s : State) (h : Kept s0 s) :
    KeptOut s0 (execStartTime p s) := by
  unfold execStartTime
  repeat' first
    | with_reducible assumption | intro _ | with_reducible apply State.runStart_kept
    | with_reducible apply State.acqEpoch_kept | with_reducible apply KeptOut.next | with_reducible apply KeptOut.ite
    | with_reducible apply Kept.ite | split | dsimp only
    | with_reducible refine Kept.put ?_ rfl rfl rfl rfl rfl rfl rfl rfl rfl rfl

theorem execRefillComplete_kept {s0 : State} (q : Nat) (half : Nat) (s : State) (h : Kept s0 s) :
    KeptOut s0 (execRefillComplete q half s) := by
  unfold execRefillComplete
  repeat' first
    | with_reducible assumption | intro _ | with_reducible apply State.refillFail_kept
    | with_reducible apply State.loadWin_kept | with_reducible apply State.endFetch_kept
    | with_reducible apply State.setSq_kept | with_reducible apply State.becomeReady_kept
    | with_reducible apply State.wantNext_kept | with_reducible apply KeptOut.next | with_reducible apply KeptOut.ite
    | with_reducible apply Kept.ite | split | dsimp only
    | with_reducible refine Kept.put ?_ rfl rfl rfl rfl rfl rfl rfl rfl rfl rfl

theorem execBarrierNotice_kept {s0 : State} (p : Nat) (s : State) (h : Kept s0 s) :
    KeptOut s0 (execBarrierNotice p s) := by
  unfold execBarrierNotice
  repeat' first
    | with_reducible assumption | intro _ | with_reducible apply State.learnAll_kept
    | with_reducible apply KeptOut.next | with_reducible apply KeptOut.ite | with_reducible apply Kept.ite | split
    | dsimp only | with_reducible refine Kept.put ?_ rfl rfl rfl rfl rfl rfl rfl rfl rfl rfl

theorem execBarrierRelease_kept {s0 : State} (p : Nat) (s : State) (h : Kept s0 s) :
    KeptOut s0 (execBarrierRelease p s) := by
  unfold execBarrierRelease
  repeat' first
    | with_reducible assumption | intro _ | with_reducible apply foldl_kept | with_reducible apply State.barGo_kept
    | with_reducible apply KeptOut.next | with_reducible apply KeptOut.ite | with_reducible apply Kept.ite | split
    | dsimp only | with_reducible refine Kept.put ?_ rfl rfl rfl rfl rfl rfl rfl rfl rfl rfl

theorem execBarrierTimeout_kept {s0 : State} (p : Nat) (s : State) (h : Kept s0 s) :
    KeptOut s0 (execBarrierTimeout p s) := by
  unfold execBarrierTimeout
  repeat' first
    | with_reducible assumption | intro _ | with_reducible apply State.flag_kept
    | with_reducible apply State.runAbort_kept | with_reducible apply State.logIt_kept
    | with_reducible apply KeptOut.next | with_reducible apply KeptOut.ite | with_reducible apply Kept.ite | split
    | dsimp only | with_reducible refine Kept.put ?_ rfl rfl rfl rfl rfl rfl rfl rfl rfl rfl

theorem execRegionAbortReceive_kept {s0 : State} (q : Nat) (s : State) (h : Kept s0 s) :
    KeptOut s0 (execRegionAbortReceive q s) := by
  unfold execRegionAbortReceive
  repeat' first
    | with_reducible assumption | intro _ | with_reducible apply State.regionAbort_kept
    | with_reducible apply KeptOut.next | with_reducible apply KeptOut.ite | with_reducible apply Kept.ite | split
    | dsimp only | with_reducible refine Kept.put ?_ rfl rfl rfl rfl rfl rfl rfl rfl rfl rfl

theorem execJumpTaken_kept {s0 : State} (q : Nat) (s : State) (h : Kept s0 s) :
    KeptOut s0 (execJumpTaken q s) := by
  unfold execJumpTaken
  repeat' first
    | with_reducible assumption | intro _ | with_reducible apply State.issue_kept
    | with_reducible apply State.segment_kept | with_reducible apply KeptRes.go | with_reducible apply KeptRes.bad
    | with_reducible apply KeptRes.held | with_reducible apply KeptRes.ite | with_reducible apply KeptOut.next
    | with_reducible apply KeptOut.ite | with_reducible apply Kept.ite | split | dsimp only
    | with_reducible refine Kept.put ?_ rfl rfl rfl rfl rfl rfl rfl rfl rfl rfl

theorem execMarkerPulseEnd_kept {s0 : State} (q : Nat) (b : Nat) (s : State) (h : Kept s0 s) :
    KeptOut s0 (execMarkerPulseEnd q b s) := by
  unfold execMarkerPulseEnd
  repeat' first
    | with_reducible assumption | intro _ | with_reducible apply State.setSq_kept | with_reducible apply KeptOut.next
    | with_reducible apply KeptOut.ite | with_reducible apply Kept.ite | split | dsimp only
    | with_reducible refine Kept.put ?_ rfl rfl rfl rfl rfl rfl rfl rfl rfl rfl

theorem execTimelineEffect_kept {s0 : State} (q : Nat) (s : State) (h : Kept s0 s) :
    KeptOut s0 (execTimelineEffect q s) := by
  unfold execTimelineEffect
  repeat' first
    | with_reducible assumption | intro _ | with_reducible apply State.applyDue_kept
    | with_reducible apply KeptOut.next | with_reducible apply KeptOut.ite | with_reducible apply Kept.ite | split
    | dsimp only | with_reducible refine Kept.put ?_ rfl rfl rfl rfl rfl rfl rfl rfl rfl rfl

theorem execWait_kept {s0 : State} (q : Nat) (s : State) (h : Kept s0 s) :
    KeptOut s0 (execWait q s) := by
  unfold execWait
  repeat' first
    | with_reducible assumption | intro _ | with_reducible apply State.issue_kept
    | with_reducible apply State.setSq_kept | with_reducible apply KeptRes.go | with_reducible apply KeptRes.bad
    | with_reducible apply KeptRes.held | with_reducible apply KeptRes.ite | with_reducible apply KeptOut.next
    | with_reducible apply KeptOut.ite | with_reducible apply Kept.ite | split | dsimp only
    | with_reducible refine Kept.put ?_ rfl rfl rfl rfl rfl rfl rfl rfl rfl rfl

theorem execSegment_kept {s0 : State} (q : Nat) (s : State) (h : Kept s0 s) :
    KeptOut s0 (execSegment q s) := by
  unfold execSegment
  repeat' first
    | with_reducible assumption | intro _ | with_reducible apply State.issue_kept
    | with_reducible apply State.segment_kept | with_reducible apply KeptRes.go | with_reducible apply KeptRes.bad
    | with_reducible apply KeptRes.held | with_reducible apply KeptRes.ite | with_reducible apply KeptOut.next
    | with_reducible apply KeptOut.ite | with_reducible apply Kept.ite | split | dsimp only
    | with_reducible refine Kept.put ?_ rfl rfl rfl rfl rfl rfl rfl rfl rfl rfl

theorem execShotStart_kept {s0 : State} (q : Nat) (s : State) (h : Kept s0 s) :
    KeptOut s0 (execShotStart q s) := by
  unfold execShotStart
  repeat' first
    | with_reducible assumption | intro _ | with_reducible apply State.issue_kept
    | with_reducible apply State.setSq_kept | with_reducible apply State.barrier_kept
    | with_reducible apply KeptRes.go | with_reducible apply KeptRes.bad | with_reducible apply KeptRes.held
    | with_reducible apply KeptRes.ite | with_reducible apply KeptOut.next | with_reducible apply KeptOut.ite
    | with_reducible apply Kept.ite | split | dsimp only
    | with_reducible refine Kept.put ?_ rfl rfl rfl rfl rfl rfl rfl rfl rfl rfl

theorem execShotEnd_kept {s0 : State} (q : Nat) (s : State) (h : Kept s0 s) :
    KeptOut s0 (execShotEnd q s) := by
  unfold execShotEnd
  repeat' first
    | with_reducible assumption | intro _ | with_reducible apply State.issue_kept
    | with_reducible apply State.barrier_kept | with_reducible apply State.closeRegion_kept
    | with_reducible apply KeptRes.go | with_reducible apply KeptRes.bad | with_reducible apply KeptRes.held
    | with_reducible apply KeptRes.ite | with_reducible apply KeptOut.next | with_reducible apply KeptOut.ite
    | with_reducible apply Kept.ite | split | dsimp only
    | with_reducible refine Kept.put ?_ rfl rfl rfl rfl rfl rfl rfl rfl rfl rfl

theorem execSync_kept {s0 : State} (q : Nat) (s : State) (h : Kept s0 s) :
    KeptOut s0 (execSync q s) := by
  unfold execSync
  repeat' first
    | with_reducible assumption | intro _ | with_reducible apply State.issue_kept
    | with_reducible apply State.barrier_kept | with_reducible apply KeptRes.go | with_reducible apply KeptRes.bad
    | with_reducible apply KeptRes.held | with_reducible apply KeptRes.ite | with_reducible apply KeptOut.next
    | with_reducible apply KeptOut.ite | with_reducible apply Kept.ite | split | dsimp only
    | with_reducible refine Kept.put ?_ rfl rfl rfl rfl rfl rfl rfl rfl rfl rfl

theorem execRegionBegin_kept {s0 : State} (q : Nat) (s : State) (h : Kept s0 s) :
    KeptOut s0 (execRegionBegin q s) := by
  unfold execRegionBegin
  repeat' first
    | with_reducible assumption | intro _ | with_reducible apply forEach_kept | with_reducible apply State.issue_kept
    | with_reducible apply State.flag_kept | with_reducible apply State.setSq_kept
    | with_reducible apply State.regionMiss_kept | with_reducible apply State.wantWin_kept
    | with_reducible apply State.barrier_kept | with_reducible apply State.later_kept
    | with_reducible apply KeptRes.go | with_reducible apply KeptRes.bad | with_reducible apply KeptRes.held
    | with_reducible apply KeptRes.ite | with_reducible apply KeptOut.next | with_reducible apply KeptOut.ite
    | with_reducible apply Kept.ite | split | dsimp only
    | with_reducible refine Kept.put ?_ rfl rfl rfl rfl rfl rfl rfl rfl rfl rfl

theorem execRegionEnd_kept {s0 : State} (q : Nat) (s : State) (h : Kept s0 s) :
    KeptOut s0 (execRegionEnd q s) := by
  unfold execRegionEnd
  repeat' first
    | with_reducible assumption | intro _ | with_reducible apply State.issue_kept
    | with_reducible apply State.setSq_kept | with_reducible apply State.flag_kept | with_reducible apply KeptRes.go
    | with_reducible apply KeptRes.bad | with_reducible apply KeptRes.held | with_reducible apply KeptRes.ite
    | with_reducible apply KeptOut.next | with_reducible apply KeptOut.ite | with_reducible apply Kept.ite | split
    | dsimp only | with_reducible refine Kept.put ?_ rfl rfl rfl rfl rfl rfl rfl rfl rfl rfl

theorem execTestwin_kept {s0 : State} (q : Nat) (s : State) (h : Kept s0 s) :
    KeptOut s0 (execTestwin q s) := by
  unfold execTestwin
  repeat' first
    | with_reducible assumption | intro _ | with_reducible apply State.issue_kept
    | with_reducible apply State.flag_kept | with_reducible apply State.setSq_kept
    | with_reducible apply State.later_kept | with_reducible apply KeptRes.go | with_reducible apply KeptRes.bad
    | with_reducible apply KeptRes.held | with_reducible apply KeptRes.ite | with_reducible apply KeptOut.next
    | with_reducible apply KeptOut.ite | with_reducible apply Kept.ite | split | dsimp only
    | with_reducible refine Kept.put ?_ rfl rfl rfl rfl rfl rfl rfl rfl rfl rfl

theorem execPrefetch_kept {s0 : State} (q : Nat) (s : State) (h : Kept s0 s) :
    KeptOut s0 (execPrefetch q s) := by
  unfold execPrefetch
  repeat' first
    | with_reducible assumption | intro _ | with_reducible apply State.issue_kept
    | with_reducible apply State.alu_kept | with_reducible apply KeptRes.go | with_reducible apply KeptRes.bad
    | with_reducible apply KeptRes.held | with_reducible apply KeptRes.ite | with_reducible apply KeptOut.next
    | with_reducible apply KeptOut.ite | with_reducible apply Kept.ite | split | dsimp only
    | with_reducible refine Kept.put ?_ rfl rfl rfl rfl rfl rfl rfl rfl rfl rfl

theorem execEndRun_kept {s0 : State} (q : Nat) (s : State) (h : Kept s0 s) :
    KeptOut s0 (execEndRun q s) := by
  unfold execEndRun
  repeat' first
    | with_reducible assumption | intro _ | with_reducible apply State.issue_kept
    | with_reducible apply State.setPrt_kept | with_reducible apply KeptRes.go | with_reducible apply KeptRes.bad
    | with_reducible apply KeptRes.held | with_reducible apply KeptRes.ite | with_reducible apply KeptOut.next
    | with_reducible apply KeptOut.ite | with_reducible apply Kept.ite | split | dsimp only
    | with_reducible refine Kept.put ?_ rfl rfl rfl rfl rfl rfl rfl rfl rfl rfl

theorem execJump_kept {s0 : State} (q : Nat) (s : State) (h : Kept s0 s) :
    KeptOut s0 (execJump q s) := by
  unfold execJump
  repeat' first
    | with_reducible assumption | intro _ | with_reducible apply State.issue_kept | with_reducible apply KeptRes.go
    | with_reducible apply KeptRes.bad | with_reducible apply KeptRes.held | with_reducible apply KeptRes.ite
    | with_reducible apply KeptOut.next | with_reducible apply KeptOut.ite | with_reducible apply Kept.ite | split
    | dsimp only | with_reducible refine Kept.put ?_ rfl rfl rfl rfl rfl rfl rfl rfl rfl rfl

theorem execCall_kept {s0 : State} (q : Nat) (s : State) (h : Kept s0 s) :
    KeptOut s0 (execCall q s) := by
  unfold execCall
  repeat' first
    | with_reducible assumption | intro _ | with_reducible apply State.issue_kept
    | with_reducible apply State.setSq_kept | with_reducible apply KeptRes.go | with_reducible apply KeptRes.bad
    | with_reducible apply KeptRes.held | with_reducible apply KeptRes.ite | with_reducible apply KeptOut.next
    | with_reducible apply KeptOut.ite | with_reducible apply Kept.ite | split | dsimp only
    | with_reducible refine Kept.put ?_ rfl rfl rfl rfl rfl rfl rfl rfl rfl rfl

theorem execRet_kept {s0 : State} (q : Nat) (s : State) (h : Kept s0 s) :
    KeptOut s0 (execRet q s) := by
  unfold execRet
  repeat' first
    | with_reducible assumption | intro _ | with_reducible apply State.issue_kept
    | with_reducible apply State.setSq_kept | with_reducible apply KeptRes.go | with_reducible apply KeptRes.bad
    | with_reducible apply KeptRes.held | with_reducible apply KeptRes.ite | with_reducible apply KeptOut.next
    | with_reducible apply KeptOut.ite | with_reducible apply Kept.ite | split | dsimp only
    | with_reducible refine Kept.put ?_ rfl rfl rfl rfl rfl rfl rfl rfl rfl rfl

theorem execLoop_kept {s0 : State} (q : Nat) (s : State) (h : Kept s0 s) :
    KeptOut s0 (execLoop q s) := by
  unfold execLoop
  repeat' first
    | with_reducible assumption | intro _ | with_reducible apply State.issue_kept
    | with_reducible apply State.alu_kept | with_reducible apply KeptRes.go | with_reducible apply KeptRes.bad
    | with_reducible apply KeptRes.held | with_reducible apply KeptRes.ite | with_reducible apply KeptOut.next
    | with_reducible apply KeptOut.ite | with_reducible apply Kept.ite | split | dsimp only
    | with_reducible refine Kept.put ?_ rfl rfl rfl rfl rfl rfl rfl rfl rfl rfl

theorem execEndloop_kept {s0 : State} (q : Nat) (s : State) (h : Kept s0 s) :
    KeptOut s0 (execEndloop q s) := by
  unfold execEndloop
  repeat' first
    | with_reducible assumption | intro _ | with_reducible apply State.issue_kept
    | with_reducible apply State.alu_kept | with_reducible apply State.setSq_kept | with_reducible apply KeptRes.go
    | with_reducible apply KeptRes.bad | with_reducible apply KeptRes.held | with_reducible apply KeptRes.ite
    | with_reducible apply KeptOut.next | with_reducible apply KeptOut.ite | with_reducible apply Kept.ite | split
    | dsimp only | with_reducible refine Kept.put ?_ rfl rfl rfl rfl rfl rfl rfl rfl rfl rfl

theorem execRepeatN_kept {s0 : State} (q : Nat) (s : State) (h : Kept s0 s) :
    KeptOut s0 (execRepeatN q s) := by
  unfold execRepeatN
  repeat' first
    | with_reducible assumption | intro _ | with_reducible apply State.issue_kept
    | with_reducible apply State.alu_kept | with_reducible apply KeptRes.go | with_reducible apply KeptRes.bad
    | with_reducible apply KeptRes.held | with_reducible apply KeptRes.ite | with_reducible apply KeptOut.next
    | with_reducible apply KeptOut.ite | with_reducible apply Kept.ite | split | dsimp only
    | with_reducible refine Kept.put ?_ rfl rfl rfl rfl rfl rfl rfl rfl rfl rfl

theorem execBranchFlag_kept {s0 : State} (q : Nat) (s : State) (h : Kept s0 s) :
    KeptOut s0 (execBranchFlag q s) := by
  unfold execBranchFlag
  repeat' first
    | with_reducible assumption | intro _ | with_reducible apply State.issue_kept | with_reducible apply KeptRes.go
    | with_reducible apply KeptRes.bad | with_reducible apply KeptRes.held | with_reducible apply KeptRes.ite
    | with_reducible apply KeptOut.next | with_reducible apply KeptOut.ite | with_reducible apply Kept.ite | split
    | dsimp only | with_reducible refine Kept.put ?_ rfl rfl rfl rfl rfl rfl rfl rfl rfl rfl

theorem execBranchCond_kept {s0 : State} (q : Nat) (s : State) (h : Kept s0 s) :
    KeptOut s0 (execBranchCond q s) := by
  unfold execBranchCond
  repeat' first
    | with_reducible assumption | intro _ | with_reducible apply State.issue_kept
    | with_reducible apply State.setSq_kept | with_reducible apply KeptRes.go | with_reducible apply KeptRes.bad
    | with_reducible apply KeptRes.held | with_reducible apply KeptRes.ite | with_reducible apply KeptOut.next
    | with_reducible apply KeptOut.ite | with_reducible apply Kept.ite | split | dsimp only
    | with_reducible refine Kept.put ?_ rfl rfl rfl rfl rfl rfl rfl rfl rfl rfl

theorem execWaitCond_kept {s0 : State} (q : Nat) (s : State) (h : Kept s0 s) :
    KeptOut s0 (execWaitCond q s) := by
  unfold execWaitCond
  repeat' first
    | with_reducible assumption | intro _ | with_reducible apply State.issue_kept
    | with_reducible apply State.condResolve_kept | with_reducible apply State.setSq_kept
    | with_reducible apply KeptRes.go | with_reducible apply KeptRes.bad | with_reducible apply KeptRes.held
    | with_reducible apply KeptRes.ite | with_reducible apply KeptOut.next | with_reducible apply KeptOut.ite
    | with_reducible apply Kept.ite | split | dsimp only
    | with_reducible refine Kept.put ?_ rfl rfl rfl rfl rfl rfl rfl rfl rfl rfl

theorem execWaitCondResolve_kept {s0 : State} (q : Nat) (s : State) (h : Kept s0 s) :
    KeptOut s0 (execWaitCondResolve q s) := by
  unfold execWaitCondResolve
  repeat' first
    | with_reducible assumption | intro _ | with_reducible apply State.condResolve_kept
    | with_reducible apply KeptOut.next | with_reducible apply KeptOut.ite | with_reducible apply Kept.ite | split
    | dsimp only | with_reducible refine Kept.put ?_ rfl rfl rfl rfl rfl rfl rfl rfl rfl rfl

theorem execWaitCondTimeout_kept {s0 : State} (q : Nat) (s : State) (h : Kept s0 s) :
    KeptOut s0 (execWaitCondTimeout q s) := by
  unfold execWaitCondTimeout
  repeat' first
    | with_reducible assumption | intro _ | with_reducible apply State.goto_kept
    | with_reducible apply State.setSq_kept | with_reducible apply KeptOut.next | with_reducible apply KeptOut.ite
    | with_reducible apply Kept.ite | split | dsimp only
    | with_reducible refine Kept.put ?_ rfl rfl rfl rfl rfl rfl rfl rfl rfl rfl

theorem execClrc_kept {s0 : State} (q : Nat) (s : State) (h : Kept s0 s) :
    KeptOut s0 (execClrc q s) := by
  unfold execClrc
  repeat' first
    | with_reducible assumption | intro _ | with_reducible apply State.issue_kept
    | with_reducible apply State.alu_kept | with_reducible apply KeptRes.go | with_reducible apply KeptRes.bad
    | with_reducible apply KeptRes.held | with_reducible apply KeptRes.ite | with_reducible apply KeptOut.next
    | with_reducible apply KeptOut.ite | with_reducible apply Kept.ite | split | dsimp only
    | with_reducible refine Kept.put ?_ rfl rfl rfl rfl rfl rfl rfl rfl rfl rfl

theorem execGetc_kept {s0 : State} (q : Nat) (s : State) (h : Kept s0 s) :
    KeptOut s0 (execGetc q s) := by
  unfold execGetc
  repeat' first
    | with_reducible assumption | intro _ | with_reducible apply State.issue_kept
    | with_reducible apply State.alu_kept | with_reducible apply KeptRes.go | with_reducible apply KeptRes.bad
    | with_reducible apply KeptRes.held | with_reducible apply KeptRes.ite | with_reducible apply KeptOut.next
    | with_reducible apply KeptOut.ite | with_reducible apply Kept.ite | split | dsimp only
    | with_reducible refine Kept.put ?_ rfl rfl rfl rfl rfl rfl rfl rfl rfl rfl

theorem execPlay_kept {s0 : State} (q : Nat) (s : State) (h : Kept s0 s) :
    KeptOut s0 (execPlay q s) := by
  unfold execPlay
  repeat' first
    | with_reducible assumption | intro _ | with_reducible apply State.issue_kept
    | with_reducible apply State.later_kept | with_reducible apply KeptRes.go | with_reducible apply KeptRes.bad
    | with_reducible apply KeptRes.held | with_reducible apply KeptRes.ite | with_reducible apply KeptOut.next
    | with_reducible apply KeptOut.ite | with_reducible apply Kept.ite | split | dsimp only
    | with_reducible refine Kept.put ?_ rfl rfl rfl rfl rfl rfl rfl rfl rfl rfl

theorem execAcquire_kept {s0 : State} (q : Nat) (s : State) (h : Kept s0 s) :
    KeptOut s0 (execAcquire q s) := by
  unfold execAcquire
  repeat' first
    | with_reducible assumption | intro _ | with_reducible apply State.issue_kept
    | with_reducible apply State.later_kept | with_reducible apply KeptRes.go | with_reducible apply KeptRes.bad
    | with_reducible apply KeptRes.held | with_reducible apply KeptRes.ite | with_reducible apply KeptOut.next
    | with_reducible apply KeptOut.ite | with_reducible apply Kept.ite | split | dsimp only
    | with_reducible refine Kept.put ?_ rfl rfl rfl rfl rfl rfl rfl rfl rfl rfl

theorem execFreq_kept {s0 : State} (q : Nat) (s : State) (h : Kept s0 s) :
    KeptOut s0 (execFreq q s) := by
  unfold execFreq
  repeat' first
    | with_reducible assumption | intro _ | with_reducible apply State.issue_kept
    | with_reducible apply State.later_kept | with_reducible apply KeptRes.go | with_reducible apply KeptRes.bad
    | with_reducible apply KeptRes.held | with_reducible apply KeptRes.ite | with_reducible apply KeptOut.next
    | with_reducible apply KeptOut.ite | with_reducible apply Kept.ite | split | dsimp only
    | with_reducible refine Kept.put ?_ rfl rfl rfl rfl rfl rfl rfl rfl rfl rfl

theorem execPhaseAdd_kept {s0 : State} (q : Nat) (s : State) (h : Kept s0 s) :
    KeptOut s0 (execPhaseAdd q s) := by
  unfold execPhaseAdd
  repeat' first
    | with_reducible assumption | intro _ | with_reducible apply State.issue_kept
    | with_reducible apply State.later_kept | with_reducible apply KeptRes.go | with_reducible apply KeptRes.bad
    | with_reducible apply KeptRes.held | with_reducible apply KeptRes.ite | with_reducible apply KeptOut.next
    | with_reducible apply KeptOut.ite | with_reducible apply Kept.ite | split | dsimp only
    | with_reducible refine Kept.put ?_ rfl rfl rfl rfl rfl rfl rfl rfl rfl rfl

theorem execPhaseSet_kept {s0 : State} (q : Nat) (s : State) (h : Kept s0 s) :
    KeptOut s0 (execPhaseSet q s) := by
  unfold execPhaseSet
  repeat' first
    | with_reducible assumption | intro _ | with_reducible apply State.issue_kept
    | with_reducible apply State.later_kept | with_reducible apply KeptRes.go | with_reducible apply KeptRes.bad
    | with_reducible apply KeptRes.held | with_reducible apply KeptRes.ite | with_reducible apply KeptOut.next
    | with_reducible apply KeptOut.ite | with_reducible apply Kept.ite | split | dsimp only
    | with_reducible refine Kept.put ?_ rfl rfl rfl rfl rfl rfl rfl rfl rfl rfl

theorem execPhaseAddV_kept {s0 : State} (q : Nat) (s : State) (h : Kept s0 s) :
    KeptOut s0 (execPhaseAddV q s) := by
  unfold execPhaseAddV
  repeat' first
    | with_reducible assumption | intro _ | with_reducible apply State.issue_kept
    | with_reducible apply State.later_kept | with_reducible apply KeptRes.go | with_reducible apply KeptRes.bad
    | with_reducible apply KeptRes.held | with_reducible apply KeptRes.ite | with_reducible apply KeptOut.next
    | with_reducible apply KeptOut.ite | with_reducible apply Kept.ite | split | dsimp only
    | with_reducible refine Kept.put ?_ rfl rfl rfl rfl rfl rfl rfl rfl rfl rfl

theorem execFrameReset_kept {s0 : State} (q : Nat) (s : State) (h : Kept s0 s) :
    KeptOut s0 (execFrameReset q s) := by
  unfold execFrameReset
  repeat' first
    | with_reducible assumption | intro _ | with_reducible apply State.issue_kept
    | with_reducible apply State.later_kept | with_reducible apply KeptRes.go | with_reducible apply KeptRes.bad
    | with_reducible apply KeptRes.held | with_reducible apply KeptRes.ite | with_reducible apply KeptOut.next
    | with_reducible apply KeptOut.ite | with_reducible apply Kept.ite | split | dsimp only
    | with_reducible refine Kept.put ?_ rfl rfl rfl rfl rfl rfl rfl rfl rfl rfl

theorem execLevel_kept {s0 : State} (q : Nat) (s : State) (h : Kept s0 s) :
    KeptOut s0 (execLevel q s) := by
  unfold execLevel
  repeat' first
    | with_reducible assumption | intro _ | with_reducible apply State.issue_kept
    | with_reducible apply State.later_kept | with_reducible apply KeptRes.go | with_reducible apply KeptRes.bad
    | with_reducible apply KeptRes.held | with_reducible apply KeptRes.ite | with_reducible apply KeptOut.next
    | with_reducible apply KeptOut.ite | with_reducible apply Kept.ite | split | dsimp only
    | with_reducible refine Kept.put ?_ rfl rfl rfl rfl rfl rfl rfl rfl rfl rfl

theorem execLdi_kept {s0 : State} (q : Nat) (s : State) (h : Kept s0 s) :
    KeptOut s0 (execLdi q s) := by
  unfold execLdi
  repeat' first
    | with_reducible assumption | intro _ | with_reducible apply State.issue_kept
    | with_reducible apply State.alu_kept | with_reducible apply KeptRes.go | with_reducible apply KeptRes.bad
    | with_reducible apply KeptRes.held | with_reducible apply KeptRes.ite | with_reducible apply KeptOut.next
    | with_reducible apply KeptOut.ite | with_reducible apply Kept.ite | split | dsimp only
    | with_reducible refine Kept.put ?_ rfl rfl rfl rfl rfl rfl rfl rfl rfl rfl

theorem execAddv_kept {s0 : State} (q : Nat) (s : State) (h : Kept s0 s) :
    KeptOut s0 (execAddv q s) := by
  unfold execAddv
  repeat' first
    | with_reducible assumption | intro _ | with_reducible apply State.issue_kept
    | with_reducible apply State.alu_kept | with_reducible apply KeptRes.go | with_reducible apply KeptRes.bad
    | with_reducible apply KeptRes.held | with_reducible apply KeptRes.ite | with_reducible apply KeptOut.next
    | with_reducible apply KeptOut.ite | with_reducible apply Kept.ite | split | dsimp only
    | with_reducible refine Kept.put ?_ rfl rfl rfl rfl rfl rfl rfl rfl rfl rfl

theorem execSubv_kept {s0 : State} (q : Nat) (s : State) (h : Kept s0 s) :
    KeptOut s0 (execSubv q s) := by
  unfold execSubv
  repeat' first
    | with_reducible assumption | intro _ | with_reducible apply State.issue_kept
    | with_reducible apply State.alu_kept | with_reducible apply KeptRes.go | with_reducible apply KeptRes.bad
    | with_reducible apply KeptRes.held | with_reducible apply KeptRes.ite | with_reducible apply KeptOut.next
    | with_reducible apply KeptOut.ite | with_reducible apply Kept.ite | split | dsimp only
    | with_reducible refine Kept.put ?_ rfl rfl rfl rfl rfl rfl rfl rfl rfl rfl

theorem execAddi_kept {s0 : State} (q : Nat) (s : State) (h : Kept s0 s) :
    KeptOut s0 (execAddi q s) := by
  unfold execAddi
  repeat' first
    | with_reducible assumption | intro _ | with_reducible apply State.issue_kept
    | with_reducible apply State.alu_kept | with_reducible apply KeptRes.go | with_reducible apply KeptRes.bad
    | with_reducible apply KeptRes.held | with_reducible apply KeptRes.ite | with_reducible apply KeptOut.next
    | with_reducible apply KeptOut.ite | with_reducible apply Kept.ite | split | dsimp only
    | with_reducible refine Kept.put ?_ rfl rfl rfl rfl rfl rfl rfl rfl rfl rfl

theorem execCmp_kept {s0 : State} (q : Nat) (s : State) (h : Kept s0 s) :
    KeptOut s0 (execCmp q s) := by
  unfold execCmp
  repeat' first
    | with_reducible assumption | intro _ | with_reducible apply State.issue_kept
    | with_reducible apply State.alu_kept | with_reducible apply KeptRes.go | with_reducible apply KeptRes.bad
    | with_reducible apply KeptRes.held | with_reducible apply KeptRes.ite | with_reducible apply KeptOut.next
    | with_reducible apply KeptOut.ite | with_reducible apply Kept.ite | split | dsimp only
    | with_reducible refine Kept.put ?_ rfl rfl rfl rfl rfl rfl rfl rfl rfl rfl

theorem execMul_kept {s0 : State} (q : Nat) (s : State) (h : Kept s0 s) :
    KeptOut s0 (execMul q s) := by
  unfold execMul
  repeat' first
    | with_reducible assumption | intro _ | with_reducible apply State.issue_kept
    | with_reducible apply State.alu_kept | with_reducible apply KeptRes.go | with_reducible apply KeptRes.bad
    | with_reducible apply KeptRes.held | with_reducible apply KeptRes.ite | with_reducible apply KeptOut.next
    | with_reducible apply KeptOut.ite | with_reducible apply Kept.ite | split | dsimp only
    | with_reducible refine Kept.put ?_ rfl rfl rfl rfl rfl rfl rfl rfl rfl rfl

theorem execMac_kept {s0 : State} (q : Nat) (s : State) (h : Kept s0 s) :
    KeptOut s0 (execMac q s) := by
  unfold execMac
  repeat' first
    | with_reducible assumption | intro _ | with_reducible apply State.issue_kept
    | with_reducible apply State.alu_kept | with_reducible apply State.accFault_kept | with_reducible apply KeptRes.go
    | with_reducible apply KeptRes.bad | with_reducible apply KeptRes.held | with_reducible apply KeptRes.ite
    | with_reducible apply KeptOut.next | with_reducible apply KeptOut.ite | with_reducible apply Kept.ite | split
    | dsimp only | with_reducible refine Kept.put ?_ rfl rfl rfl rfl rfl rfl rfl rfl rfl rfl

theorem execMsu_kept {s0 : State} (q : Nat) (s : State) (h : Kept s0 s) :
    KeptOut s0 (execMsu q s) := by
  unfold execMsu
  repeat' first
    | with_reducible assumption | intro _ | with_reducible apply State.issue_kept
    | with_reducible apply State.alu_kept | with_reducible apply State.accFault_kept | with_reducible apply KeptRes.go
    | with_reducible apply KeptRes.bad | with_reducible apply KeptRes.held | with_reducible apply KeptRes.ite
    | with_reducible apply KeptOut.next | with_reducible apply KeptOut.ite | with_reducible apply Kept.ite | split
    | dsimp only | with_reducible refine Kept.put ?_ rfl rfl rfl rfl rfl rfl rfl rfl rfl rfl

theorem execAccv_kept {s0 : State} (q : Nat) (s : State) (h : Kept s0 s) :
    KeptOut s0 (execAccv q s) := by
  unfold execAccv
  repeat' first
    | with_reducible assumption | intro _ | with_reducible apply State.issue_kept
    | with_reducible apply State.alu_kept | with_reducible apply KeptRes.go | with_reducible apply KeptRes.bad
    | with_reducible apply KeptRes.held | with_reducible apply KeptRes.ite | with_reducible apply KeptOut.next
    | with_reducible apply KeptOut.ite | with_reducible apply Kept.ite | split | dsimp only
    | with_reducible refine Kept.put ?_ rfl rfl rfl rfl rfl rfl rfl rfl rfl rfl

theorem execRnd_kept {s0 : State} (q : Nat) (s : State) (h : Kept s0 s) :
    KeptOut s0 (execRnd q s) := by
  unfold execRnd
  repeat' first
    | with_reducible assumption | intro _ | with_reducible apply State.issue_kept
    | with_reducible apply State.alu_kept | with_reducible apply KeptRes.go | with_reducible apply KeptRes.bad
    | with_reducible apply KeptRes.held | with_reducible apply KeptRes.ite | with_reducible apply KeptOut.next
    | with_reducible apply KeptOut.ite | with_reducible apply Kept.ite | split | dsimp only
    | with_reducible refine Kept.put ?_ rfl rfl rfl rfl rfl rfl rfl rfl rfl rfl

theorem execExpo_kept {s0 : State} (q : Nat) (s : State) (h : Kept s0 s) :
    KeptOut s0 (execExpo q s) := by
  unfold execExpo
  repeat' first
    | with_reducible assumption | intro _ | with_reducible apply State.issue_kept
    | with_reducible apply State.alu_kept | with_reducible apply KeptRes.go | with_reducible apply KeptRes.bad
    | with_reducible apply KeptRes.held | with_reducible apply KeptRes.ite | with_reducible apply KeptOut.next
    | with_reducible apply KeptOut.ite | with_reducible apply Kept.ite | split | dsimp only
    | with_reducible refine Kept.put ?_ rfl rfl rfl rfl rfl rfl rfl rfl rfl rfl

theorem execNorm_kept {s0 : State} (q : Nat) (s : State) (h : Kept s0 s) :
    KeptOut s0 (execNorm q s) := by
  unfold execNorm
  repeat' first
    | with_reducible assumption | intro _ | with_reducible apply State.issue_kept
    | with_reducible apply State.alu_kept | with_reducible apply KeptRes.go | with_reducible apply KeptRes.bad
    | with_reducible apply KeptRes.held | with_reducible apply KeptRes.ite | with_reducible apply KeptOut.next
    | with_reducible apply KeptOut.ite | with_reducible apply Kept.ite | split | dsimp only
    | with_reducible refine Kept.put ?_ rfl rfl rfl rfl rfl rfl rfl rfl rfl rfl

theorem execClrf_kept {s0 : State} (q : Nat) (s : State) (h : Kept s0 s) :
    KeptOut s0 (execClrf q s) := by
  unfold execClrf
  repeat' first
    | with_reducible assumption | intro _ | with_reducible apply State.issue_kept
    | with_reducible apply State.alu_kept | with_reducible apply KeptRes.go | with_reducible apply KeptRes.bad
    | with_reducible apply KeptRes.held | with_reducible apply KeptRes.ite | with_reducible apply KeptOut.next
    | with_reducible apply KeptOut.ite | with_reducible apply Kept.ite | split | dsimp only
    | with_reducible refine Kept.put ?_ rfl rfl rfl rfl rfl rfl rfl rfl rfl rfl

theorem execRdoProbeConfig_kept {s0 : State} (p : Pkt) (s : State) (h : Kept s0 s) :
    KeptOut s0 (execRdoProbeConfig p s) := by
  unfold execRdoProbeConfig
  repeat' first
    | with_reducible assumption | intro _ | with_reducible apply State.command_kept
    | with_reducible apply cRdoProbeConfig_kept | with_reducible apply KeptOut.next | with_reducible apply KeptOut.ite
    | with_reducible apply Kept.ite | split | dsimp only
    | with_reducible refine Kept.put ?_ rfl rfl rfl rfl rfl rfl rfl rfl rfl rfl

theorem execRdoAdcConfig_kept {s0 : State} (p : Pkt) (s : State) (h : Kept s0 s) :
    KeptOut s0 (execRdoAdcConfig p s) := by
  unfold execRdoAdcConfig
  repeat' first
    | with_reducible assumption | intro _ | with_reducible apply State.command_kept
    | with_reducible apply cRdoAdcConfig_kept | with_reducible apply KeptOut.next | with_reducible apply KeptOut.ite
    | with_reducible apply Kept.ite | split | dsimp only
    | with_reducible refine Kept.put ?_ rfl rfl rfl rfl rfl rfl rfl rfl rfl rfl

theorem execToneSet_kept {s0 : State} (p : Pkt) (s : State) (h : Kept s0 s) :
    KeptOut s0 (execToneSet p s) := by
  unfold execToneSet
  repeat' first
    | with_reducible assumption | intro _ | with_reducible apply State.command_kept
    | with_reducible apply cToneSet_kept | with_reducible apply KeptOut.next | with_reducible apply KeptOut.ite
    | with_reducible apply Kept.ite | split | dsimp only
    | with_reducible refine Kept.put ?_ rfl rfl rfl rfl rfl rfl rfl rfl rfl rfl

theorem execKernelLoad_kept {s0 : State} (p : Pkt) (s : State) (h : Kept s0 s) :
    KeptOut s0 (execKernelLoad p s) := by
  unfold execKernelLoad
  repeat' first
    | with_reducible assumption | intro _ | with_reducible apply State.command_kept
    | with_reducible apply cKernelLoad_kept | with_reducible apply KeptOut.next | with_reducible apply KeptOut.ite
    | with_reducible apply Kept.ite | split | dsimp only
    | with_reducible refine Kept.put ?_ rfl rfl rfl rfl rfl rfl rfl rfl rfl rfl

theorem execRdoHeatSet_kept {s0 : State} (p : Pkt) (s : State) (h : Kept s0 s) :
    KeptOut s0 (execRdoHeatSet p s) := by
  unfold execRdoHeatSet
  repeat' first
    | with_reducible assumption | intro _ | with_reducible apply State.command_kept
    | with_reducible apply cRdoHeatSet_kept | with_reducible apply KeptOut.next | with_reducible apply KeptOut.ite
    | with_reducible apply Kept.ite | split | dsimp only
    | with_reducible refine Kept.put ?_ rfl rfl rfl rfl rfl rfl rfl rfl rfl rfl

theorem execRdoTripClear_kept {s0 : State} (p : Pkt) (s : State) (h : Kept s0 s) :
    KeptOut s0 (execRdoTripClear p s) := by
  unfold execRdoTripClear
  repeat' first
    | with_reducible assumption | intro _ | with_reducible apply State.command_kept
    | with_reducible apply cRdoTripClear_kept | with_reducible apply KeptOut.next | with_reducible apply KeptOut.ite
    | with_reducible apply Kept.ite | split | dsimp only
    | with_reducible refine Kept.put ?_ rfl rfl rfl rfl rfl rfl rfl rfl rfl rfl

theorem execRdoSpareSwap_kept {s0 : State} (p : Pkt) (s : State) (h : Kept s0 s) :
    KeptOut s0 (execRdoSpareSwap p s) := by
  unfold execRdoSpareSwap
  repeat' first
    | with_reducible assumption | intro _ | with_reducible apply State.command_kept
    | with_reducible apply cRdoSpareSwap_kept | with_reducible apply KeptOut.next | with_reducible apply KeptOut.ite
    | with_reducible apply Kept.ite | split | dsimp only
    | with_reducible refine Kept.put ?_ rfl rfl rfl rfl rfl rfl rfl rfl rfl rfl

theorem execRdoSpareRelease_kept {s0 : State} (p : Pkt) (s : State) (h : Kept s0 s) :
    KeptOut s0 (execRdoSpareRelease p s) := by
  unfold execRdoSpareRelease
  repeat' first
    | with_reducible assumption | intro _ | with_reducible apply State.command_kept
    | with_reducible apply cRdoSpareRelease_kept | with_reducible apply KeptOut.next
    | with_reducible apply KeptOut.ite | with_reducible apply Kept.ite | split | dsimp only
    | with_reducible refine Kept.put ?_ rfl rfl rfl rfl rfl rfl rfl rfl rfl rfl

theorem execRecRingSet_kept {s0 : State} (p : Pkt) (s : State) (h : Kept s0 s) :
    KeptOut s0 (execRecRingSet p s) := by
  unfold execRecRingSet
  repeat' first
    | with_reducible assumption | intro _ | with_reducible apply State.command_kept
    | with_reducible apply cRecRingSet_kept | with_reducible apply KeptOut.next | with_reducible apply KeptOut.ite
    | with_reducible apply Kept.ite | split | dsimp only
    | with_reducible refine Kept.put ?_ rfl rfl rfl rfl rfl rfl rfl rfl rfl rfl

theorem execWindowEnd_kept {s0 : State} (t : Nat) (adc : List AdcCode) (s : State) (h : Kept s0 s) :
    KeptOut s0 (execWindowEnd t adc s) := by
  unfold execWindowEnd
  repeat' first
    | with_reducible assumption | intro _ | with_reducible apply State.windowOf_kept
    | with_reducible apply State.adcIn_kept | with_reducible apply KeptOut.next | with_reducible apply KeptOut.ite
    | with_reducible apply Kept.ite | split | dsimp only
    | with_reducible refine Kept.put ?_ rfl rfl rfl rfl rfl rfl rfl rfl rfl rfl

theorem execEarlyDecision_kept {s0 : State} (t : Nat) (adc : List AdcCode) (s : State) (h : Kept s0 s) :
    KeptOut s0 (execEarlyDecision t adc s) := by
  unfold execEarlyDecision
  repeat' first
    | with_reducible assumption | intro _ | with_reducible apply State.windowOf_kept
    | with_reducible apply State.adcIn_kept | with_reducible apply KeptOut.next | with_reducible apply KeptOut.ite
    | with_reducible apply Kept.ite | split | dsimp only
    | with_reducible refine Kept.put ?_ rfl rfl rfl rfl rfl rfl rfl rfl rfl rfl

theorem execDepletionStart_kept {s0 : State} (t : Nat) (s : State) (h : Kept s0 s) :
    KeptOut s0 (execDepletionStart t s) := by
  unfold execDepletionStart
  repeat' first
    | with_reducible assumption | intro _ | with_reducible apply State.laneCut_kept
    | with_reducible apply State.deplPlay_kept | with_reducible apply KeptOut.next | with_reducible apply KeptOut.ite
    | with_reducible apply Kept.ite | split | dsimp only
    | with_reducible refine Kept.put ?_ rfl rfl rfl rfl rfl rfl rfl rfl rfl rfl

theorem execOutcomeArrival_kept {s0 : State} (t : Nat) (s : State) (h : Kept s0 s) :
    KeptOut s0 (execOutcomeArrival t s) := by
  unfold execOutcomeArrival
  repeat' first
    | with_reducible assumption | intro _ | with_reducible apply State.routeOutc_kept
    | with_reducible apply KeptOut.next | with_reducible apply KeptOut.ite | with_reducible apply Kept.ite | split
    | dsimp only | with_reducible refine Kept.put ?_ rfl rfl rfl rfl rfl rfl rfl rfl rfl rfl

theorem execRecordAssembled_kept {s0 : State} (p : Nat) (s : State) (h : Kept s0 s) :
    KeptOut s0 (execRecordAssembled p s) := by
  unfold execRecordAssembled
  repeat' first
    | with_reducible assumption | intro _ | with_reducible apply State.when_kept
    | with_reducible apply State.mirror_kept | with_reducible apply State.assemble_kept
    | with_reducible apply KeptOut.next | with_reducible apply KeptOut.ite | with_reducible apply Kept.ite | split
    | dsimp only | with_reducible refine Kept.put ?_ rfl rfl rfl rfl rfl rfl rfl rfl rfl rfl

theorem execRecordWrite_kept {s0 : State} (p : Nat) (s : State) (h : Kept s0 s) :
    KeptOut s0 (execRecordWrite p s) := by
  unfold execRecordWrite
  repeat' first
    | with_reducible assumption | intro _ | with_reducible apply State.recWrite_kept
    | with_reducible apply KeptOut.next | with_reducible apply KeptOut.ite | with_reducible apply Kept.ite | split
    | dsimp only | with_reducible refine Kept.put ?_ rfl rfl rfl rfl rfl rfl rfl rfl rfl rfl

theorem execDecRouteSet_kept {s0 : State} (p : Pkt) (s : State) (h : Kept s0 s) :
    KeptOut s0 (execDecRouteSet p s) := by
  unfold execDecRouteSet
  repeat' first
    | with_reducible assumption | intro _ | with_reducible apply State.command_kept
    | with_reducible apply cDecRouteSet_kept | with_reducible apply KeptOut.next | with_reducible apply KeptOut.ite
    | with_reducible apply Kept.ite | split | dsimp only
    | with_reducible refine Kept.put ?_ rfl rfl rfl rfl rfl rfl rfl rfl rfl rfl

theorem execDecGatherSet_kept {s0 : State} (p : Pkt) (s : State) (h : Kept s0 s) :
    KeptOut s0 (execDecGatherSet p s) := by
  unfold execDecGatherSet
  repeat' first
    | with_reducible assumption | intro _ | with_reducible apply State.command_kept
    | with_reducible apply cDecGatherSet_kept | with_reducible apply KeptOut.next | with_reducible apply KeptOut.ite
    | with_reducible apply Kept.ite | split | dsimp only
    | with_reducible refine Kept.put ?_ rfl rfl rfl rfl rfl rfl rfl rfl rfl rfl

theorem execDecTableLoad_kept {s0 : State} (p : Pkt) (s : State) (h : Kept s0 s) :
    KeptOut s0 (execDecTableLoad p s) := by
  unfold execDecTableLoad
  repeat' first
    | with_reducible assumption | intro _ | with_reducible apply State.command_kept
    | with_reducible apply cDecTableLoad_kept | with_reducible apply KeptOut.next | with_reducible apply KeptOut.ite
    | with_reducible apply Kept.ite | split | dsimp only
    | with_reducible refine Kept.put ?_ rfl rfl rfl rfl rfl rfl rfl rfl rfl rfl

theorem execDecTableClear_kept {s0 : State} (p : Pkt) (s : State) (h : Kept s0 s) :
    KeptOut s0 (execDecTableClear p s) := by
  unfold execDecTableClear
  repeat' first
    | with_reducible assumption | intro _ | with_reducible apply State.command_kept
    | with_reducible apply cDecTableClear_kept | with_reducible apply KeptOut.next | with_reducible apply KeptOut.ite
    | with_reducible apply Kept.ite | split | dsimp only
    | with_reducible refine Kept.put ?_ rfl rfl rfl rfl rfl rfl rfl rfl rfl rfl

theorem execDecCometSet_kept {s0 : State} (p : Pkt) (s : State) (h : Kept s0 s) :
    KeptOut s0 (execDecCometSet p s) := by
  unfold execDecCometSet
  repeat' first
    | with_reducible assumption | intro _ | with_reducible apply State.command_kept
    | with_reducible apply cDecCometSet_kept | with_reducible apply KeptOut.next | with_reducible apply KeptOut.ite
    | with_reducible apply Kept.ite | split | dsimp only
    | with_reducible refine Kept.put ?_ rfl rfl rfl rfl rfl rfl rfl rfl rfl rfl

theorem execDecDecoderSet_kept {s0 : State} (p : Pkt) (s : State) (h : Kept s0 s) :
    KeptOut s0 (execDecDecoderSet p s) := by
  unfold execDecDecoderSet
  repeat' first
    | with_reducible assumption | intro _ | with_reducible apply State.command_kept
    | with_reducible apply cDecDecoderSet_kept | with_reducible apply KeptOut.next | with_reducible apply KeptOut.ite
    | with_reducible apply Kept.ite | split | dsimp only
    | with_reducible refine Kept.put ?_ rfl rfl rfl rfl rfl rfl rfl rfl rfl rfl

theorem execGatherComplete_kept {s0 : State} (g : Nat) (s : State) (h : Kept s0 s) :
    KeptOut s0 (execGatherComplete g s) := by
  unfold execGatherComplete
  repeat' first
    | with_reducible assumption | intro _ | with_reducible apply State.eccReads_kept
    | with_reducible apply State.guServe_kept | with_reducible apply KeptOut.next | with_reducible apply KeptOut.ite
    | with_reducible apply Kept.ite | split | dsimp only
    | with_reducible refine Kept.put ?_ rfl rfl rfl rfl rfl rfl rfl rfl rfl rfl

theorem execGatherTimeout_kept {s0 : State} (g : Nat) (s : State) (h : Kept s0 s) :
    KeptOut s0 (execGatherTimeout g s) := by
  unfold execGatherTimeout
  repeat' first
    | with_reducible assumption | intro _ | with_reducible apply State.eccReads_kept
    | with_reducible apply State.guServe_kept | with_reducible apply State.guDue_kept
    | with_reducible apply State.guDefaults_kept | with_reducible apply KeptOut.next
    | with_reducible apply KeptOut.ite | with_reducible apply Kept.ite | split | dsimp only
    | with_reducible refine Kept.put ?_ rfl rfl rfl rfl rfl rfl rfl rfl rfl rfl

theorem execChainLookup_kept {s0 : State} (s : State) (h : Kept s0 s) :
    KeptOut s0 (execChainLookup s) := by
  unfold execChainLookup
  repeat' first
    | with_reducible assumption | intro _ | with_reducible apply State.eccReads_kept
    | with_reducible apply State.readEntry_kept | with_reducible apply State.bump_kept
    | with_reducible apply State.badAction_kept | with_reducible apply KeptOut.next | with_reducible apply KeptOut.ite
    | with_reducible apply Kept.ite | split | dsimp only
    | with_reducible refine Kept.put ?_ rfl rfl rfl rfl rfl rfl rfl rfl rfl rfl

theorem execCometReceive_kept {s0 : State} (w : BitVec 64) (s : State) (h : Kept s0 s) :
    KeptOut s0 (execCometReceive w s) := by
  unfold execCometReceive
  repeat' first
    | with_reducible assumption | intro _ | with_reducible apply State.takeWord_kept
    | with_reducible apply State.cometIn_kept | with_reducible apply KeptOut.next | with_reducible apply KeptOut.ite
    | with_reducible apply Kept.ite | split | dsimp only
    | with_reducible refine Kept.put ?_ rfl rfl rfl rfl rfl rfl rfl rfl rfl rfl

theorem execCometAckSend_kept {s0 : State} (p : Nat) (node : Nat) (s : State) (h : Kept s0 s) :
    KeptOut s0 (execCometAckSend p node s) := by
  unfold execCometAckSend
  repeat' first
    | with_reducible assumption | intro _ | with_reducible apply State.setPair_kept
    | with_reducible apply State.fabSend_kept | with_reducible apply KeptOut.next | with_reducible apply KeptOut.ite
    | with_reducible apply Kept.ite | split | dsimp only
    | with_reducible refine Kept.put ?_ rfl rfl rfl rfl rfl rfl rfl rfl rfl rfl

theorem execCometAckReceive_kept {s0 : State} (p : Nat) (node : Nat) (a : Nat) (s : State) (h : Kept s0 s) :
    KeptOut s0 (execCometAckReceive p node a s) := by
  unfold execCometAckReceive
  repeat' first
    | with_reducible assumption | intro _ | with_reducible apply State.cometDrain_kept
    | with_reducible apply State.setPair_kept | with_reducible apply State.bump_kept
    | with_reducible apply KeptOut.next | with_reducible apply KeptOut.ite | with_reducible apply Kept.ite | split
    | dsimp only | with_reducible refine Kept.put ?_ rfl rfl rfl rfl rfl rfl rfl rfl rfl rfl

theorem execCometAckTimeout_kept {s0 : State} (p : Nat) (node : Nat) (s : State) (h : Kept s0 s) :
    KeptOut s0 (execCometAckTimeout p node s) := by
  unfold execCometAckTimeout
  repeat' first
    | with_reducible assumption | intro _ | with_reducible apply State.logIt_kept
    | with_reducible apply State.flag_kept | with_reducible apply State.cometDrain_kept
    | with_reducible apply State.setPair_kept | with_reducible apply KeptOut.next | with_reducible apply KeptOut.ite
    | with_reducible apply Kept.ite | split | dsimp only
    | with_reducible refine Kept.put ?_ rfl rfl rfl rfl rfl rfl rfl rfl rfl rfl

theorem execDecoderUpdate_kept {s0 : State} (src : Nat) (w : BitVec 64) (s : State) (h : Kept s0 s) :
    KeptOut s0 (execDecoderUpdate src w s) := by
  unfold execDecoderUpdate
  repeat' first
    | with_reducible assumption | intro _ | with_reducible apply State.update_kept
    | with_reducible apply State.takeWord_kept | with_reducible apply KeptOut.next | with_reducible apply KeptOut.ite
    | with_reducible apply Kept.ite | split | dsimp only
    | with_reducible refine Kept.put ?_ rfl rfl rfl rfl rfl rfl rfl rfl rfl rfl

theorem execFrameBarrierPass_kept {s0 : State} (g : Nat) (s : State) (h : Kept s0 s) :
    KeptOut s0 (execFrameBarrierPass g s) := by
  unfold execFrameBarrierPass
  repeat' first
    | with_reducible assumption | intro _ | with_reducible apply State.when_kept
    | with_reducible apply State.setGath_kept | with_reducible apply State.intEdge_kept
    | with_reducible apply State.chainAsk_kept | with_reducible apply State.mark_kept
    | with_reducible apply KeptOut.next | with_reducible apply KeptOut.ite | with_reducible apply Kept.ite | split
    | dsimp only | with_reducible refine Kept.put ?_ rfl rfl rfl rfl rfl rfl rfl rfl rfl rfl

theorem execAcqConfig_kept {s0 : State} (p : Pkt) (s : State) (h : Kept s0 s) :
    KeptOut s0 (execAcqConfig p s) := by
  unfold execAcqConfig
  repeat' first
    | with_reducible assumption | intro _ | with_reducible apply State.command_kept
    | with_reducible apply cAcqConfig_kept | with_reducible apply KeptOut.next | with_reducible apply KeptOut.ite
    | with_reducible apply Kept.ite | split | dsimp only
    | with_reducible refine Kept.put ?_ rfl rfl rfl rfl rfl rfl rfl rfl rfl rfl

theorem execAcqArm_kept {s0 : State} (p : Pkt) (s : State) (h : Kept s0 s) :
    KeptOut s0 (execAcqArm p s) := by
  unfold execAcqArm
  repeat' first
    | with_reducible assumption | intro _ | with_reducible apply State.command_kept
    | with_reducible apply cAcqArm_kept | with_reducible apply KeptOut.next | with_reducible apply KeptOut.ite
    | with_reducible apply Kept.ite | split | dsimp only
    | with_reducible refine Kept.put ?_ rfl rfl rfl rfl rfl rfl rfl rfl rfl rfl

theorem execAcqStop_kept {s0 : State} (p : Pkt) (s : State) (h : Kept s0 s) :
    KeptOut s0 (execAcqStop p s) := by
  unfold execAcqStop
  repeat' first
    | with_reducible assumption | intro _ | with_reducible apply State.command_kept
    | with_reducible apply cAcqStop_kept | with_reducible apply KeptOut.next | with_reducible apply KeptOut.ite
    | with_reducible apply Kept.ite | split | dsimp only
    | with_reducible refine Kept.put ?_ rfl rfl rfl rfl rfl rfl rfl rfl rfl rfl

theorem execAcqTrigger_kept {s0 : State} (p : Pkt) (s : State) (h : Kept s0 s) :
    KeptOut s0 (execAcqTrigger p s) := by
  unfold execAcqTrigger
  repeat' first
    | with_reducible assumption | intro _ | with_reducible apply State.command_kept
    | with_reducible apply cAcqTrigger_kept | with_reducible apply KeptOut.next | with_reducible apply KeptOut.ite
    | with_reducible apply Kept.ite | split | dsimp only
    | with_reducible refine Kept.put ?_ rfl rfl rfl rfl rfl rfl rfl rfl rfl rfl

theorem execAcqFetch_kept {s0 : State} (p : Pkt) (s : State) (h : Kept s0 s) :
    KeptOut s0 (execAcqFetch p s) := by
  unfold execAcqFetch
  repeat' first
    | with_reducible assumption | intro _ | with_reducible apply State.command_kept
    | with_reducible apply cAcqFetch_kept | with_reducible apply KeptOut.next | with_reducible apply KeptOut.ite
    | with_reducible apply Kept.ite | split | dsimp only
    | with_reducible refine Kept.put ?_ rfl rfl rfl rfl rfl rfl rfl rfl rfl rfl

theorem execAcqMaskLoad_kept {s0 : State} (p : Pkt) (s : State) (h : Kept s0 s) :
    KeptOut s0 (execAcqMaskLoad p s) := by
  unfold execAcqMaskLoad
  repeat' first
    | with_reducible assumption | intro _ | with_reducible apply State.command_kept
    | with_reducible apply cAcqMaskLoad_kept | with_reducible apply KeptOut.next | with_reducible apply KeptOut.ite
    | with_reducible apply Kept.ite | split | dsimp only
    | with_reducible refine Kept.put ?_ rfl rfl rfl rfl rfl rfl rfl rfl rfl rfl

theorem execAcqGroupSet_kept {s0 : State} (p : Pkt) (s : State) (h : Kept s0 s) :
    KeptOut s0 (execAcqGroupSet p s) := by
  unfold execAcqGroupSet
  repeat' first
    | with_reducible assumption | intro _ | with_reducible apply State.command_kept
    | with_reducible apply cAcqGroupSet_kept | with_reducible apply KeptOut.next | with_reducible apply KeptOut.ite
    | with_reducible apply Kept.ite | split | dsimp only
    | with_reducible refine Kept.put ?_ rfl rfl rfl rfl rfl rfl rfl rfl rfl rfl

theorem execAcqKConfig_kept {s0 : State} (p : Pkt) (s : State) (h : Kept s0 s) :
    KeptOut s0 (execAcqKConfig p s) := by
  unfold execAcqKConfig
  repeat' first
    | with_reducible assumption | intro _ | with_reducible apply State.command_kept
    | with_reducible apply cAcqKConfig_kept | with_reducible apply KeptOut.next | with_reducible apply KeptOut.ite
    | with_reducible apply Kept.ite | split | dsimp only
    | with_reducible refine Kept.put ?_ rfl rfl rfl rfl rfl rfl rfl rfl rfl rfl

theorem execStrRingSet_kept {s0 : State} (p : Pkt) (s : State) (h : Kept s0 s) :
    KeptOut s0 (execStrRingSet p s) := by
  unfold execStrRingSet
  repeat' first
    | with_reducible assumption | intro _ | with_reducible apply State.command_kept
    | with_reducible apply cStrRingSet_kept | with_reducible apply KeptOut.next | with_reducible apply KeptOut.ite
    | with_reducible apply Kept.ite | split | dsimp only
    | with_reducible refine Kept.put ?_ rfl rfl rfl rfl rfl rfl rfl rfl rfl rfl

theorem execTriggerArrival_kept {s0 : State} (u : Nat) (adc : List AdcCode) (ts : List Trig) (s : State) (h : Kept s0 s) :
    KeptOut s0 (execTriggerArrival u adc ts s) := by
  unfold execTriggerArrival
  repeat' first
    | with_reducible assumption | intro _ | with_reducible apply State.cuTriggers_kept
    | with_reducible apply State.fed_kept | with_reducible apply KeptOut.next | with_reducible apply KeptOut.ite
    | with_reducible apply Kept.ite | split | dsimp only
    | with_reducible refine Kept.put ?_ rfl rfl rfl rfl rfl rfl rfl rfl rfl rfl

theorem execCaptureComplete_kept {s0 : State} (u : Nat) (adc : List AdcCode) (s : State) (h : Kept s0 s) :
    KeptOut s0 (execCaptureComplete u adc s) := by
  unfold execCaptureComplete
  repeat' first
    | with_reducible assumption | intro _ | with_reducible apply State.fed_kept
    | with_reducible apply State.capDone_kept | with_reducible apply KeptOut.next | with_reducible apply KeptOut.ite
    | with_reducible apply Kept.ite | split | dsimp only
    | with_reducible refine Kept.put ?_ rfl rfl rfl rfl rfl rfl rfl rfl rfl rfl

theorem execRearmEnd_kept {s0 : State} (u : Nat) (adc : List AdcCode) (s : State) (h : Kept s0 s) :
    KeptOut s0 (execRearmEnd u adc s) := by
  unfold execRearmEnd
  repeat' first
    | with_reducible assumption | intro _ | with_reducible apply State.fed_kept
    | with_reducible apply State.deadOver_kept | with_reducible apply KeptOut.next | with_reducible apply KeptOut.ite
    | with_reducible apply Kept.ite | split | dsimp only
    | with_reducible refine Kept.put ?_ rfl rfl rfl rfl rfl rfl rfl rfl rfl rfl

theorem execMaskViolation_kept {s0 : State} (u : Nat) (adc : List AdcCode) (s : State) (h : Kept s0 s) :
    KeptOut s0 (execMaskViolation u adc s) := by
  unfold execMaskViolation
  repeat' first
    | with_reducible assumption | intro _ | with_reducible apply State.fed_kept
    | with_reducible apply State.cuStopCheck_kept | with_reducible apply State.violate_kept
    | with_reducible apply State.setCu_kept | with_reducible apply KeptOut.next | with_reducible apply KeptOut.ite
    | with_reducible apply Kept.ite | split | dsimp only
    | with_reducible refine Kept.put ?_ rfl rfl rfl rfl rfl rfl rfl rfl rfl rfl

theorem execRateChange_kept {s0 : State} (u : Nat) (adc : List AdcCode) (s : State) (h : Kept s0 s) :
    KeptOut s0 (execRateChange u adc s) := by
  unfold execRateChange
  repeat' first
    | with_reducible assumption | intro _ | with_reducible apply State.fed_kept
    | with_reducible apply State.rateTo_kept | with_reducible apply KeptOut.next | with_reducible apply KeptOut.ite
    | with_reducible apply Kept.ite | split | dsimp only
    | with_reducible refine Kept.put ?_ rfl rfl rfl rfl rfl rfl rfl rfl rfl rfl

theorem execStreamGap_kept {s0 : State} (u : Nat) (adc : List AdcCode) (s : State) (h : Kept s0 s) :
    KeptOut s0 (execStreamGap u adc s) := by
  unfold execStreamGap
  repeat' first
    | with_reducible assumption | intro _ | with_reducible apply State.fed_kept | with_reducible apply KeptOut.next
    | with_reducible apply KeptOut.ite | with_reducible apply Kept.ite | split | dsimp only
    | with_reducible refine Kept.put ?_ rfl rfl rfl rfl rfl rfl rfl rfl rfl rfl

theorem execItemFlush_kept {s0 : State} (u : Nat) (adc : List AdcCode) (s : State) (h : Kept s0 s) :
    KeptOut s0 (execItemFlush u adc s) := by
  unfold execItemFlush
  repeat' first
    | with_reducible assumption | intro _ | with_reducible apply State.fed_kept
    | with_reducible apply State.closeItem_kept | with_reducible apply KeptOut.next | with_reducible apply KeptOut.ite
    | with_reducible apply Kept.ite | split | dsimp only
    | with_reducible refine Kept.put ?_ rfl rfl rfl rfl rfl rfl rfl rfl rfl rfl

theorem execItemWrite_kept {s0 : State} (u : Nat) (s : State) (h : Kept s0 s) :
    KeptOut s0 (execItemWrite u s) := by
  unfold execItemWrite
  repeat' first
    | with_reducible assumption | intro _ | with_reducible apply State.strWrite_kept
    | with_reducible apply KeptOut.next | with_reducible apply KeptOut.ite | with_reducible apply Kept.ite | split
    | dsimp only | with_reducible refine Kept.put ?_ rfl rfl rfl rfl rfl rfl rfl rfl rfl rfl

theorem execGroupMessage_kept {s0 : State} (w : BitVec 64) (t : BitVec 64) (s : State) (h : Kept s0 s) :
    KeptOut s0 (execGroupMessage w t s) := by
  unfold execGroupMessage
  repeat' first
    | with_reducible assumption | intro _ | with_reducible apply State.takeWord_kept
    | with_reducible apply State.bump_kept | with_reducible apply State.grpIn_kept | with_reducible apply KeptOut.next
    | with_reducible apply KeptOut.ite | with_reducible apply Kept.ite | split | dsimp only
    | with_reducible refine Kept.put ?_ rfl rfl rfl rfl rfl rfl rfl rfl rfl rfl

theorem execMarkerInputEdge_kept {s0 : State} (k : Nat) (rising : Bool) (s : State) (h : Kept s0 s) :
    KeptOut s0 (execMarkerInputEdge k rising s) := by
  unfold execMarkerInputEdge
  repeat' first
    | with_reducible assumption | intro _ | with_reducible apply State.publish_kept
    | with_reducible apply KeptOut.next | with_reducible apply KeptOut.ite | with_reducible apply Kept.ite | split
    | dsimp only | with_reducible refine Kept.put ?_ rfl rfl rfl rfl rfl rfl rfl rfl rfl rfl

theorem execBiasConfig_kept {s0 : State} (p : Pkt) (s : State) (h : Kept s0 s) :
    KeptOut s0 (execBiasConfig p s) := by
  unfold execBiasConfig
  repeat' first
    | with_reducible assumption | intro _ | with_reducible apply State.command_kept
    | with_reducible apply cBiasConfig_kept | with_reducible apply KeptOut.next | with_reducible apply KeptOut.ite
    | with_reducible apply Kept.ite | split | dsimp only
    | with_reducible refine Kept.put ?_ rfl rfl rfl rfl rfl rfl rfl rfl rfl rfl

theorem execBiasSet_kept {s0 : State} (p : Pkt) (s : State) (h : Kept s0 s) :
    KeptOut s0 (execBiasSet p s) := by
  unfold execBiasSet
  repeat' first
    | with_reducible assumption | intro _ | with_reducible apply State.command_kept
    | with_reducible apply cBiasSet_kept | with_reducible apply KeptOut.next | with_reducible apply KeptOut.ite
    | with_reducible apply Kept.ite | split | dsimp only
    | with_reducible refine Kept.put ?_ rfl rfl rfl rfl rfl rfl rfl rfl rfl rfl

theorem execBiasQueueLoad_kept {s0 : State} (p : Pkt) (s : State) (h : Kept s0 s) :
    KeptOut s0 (execBiasQueueLoad p s) := by
  unfold execBiasQueueLoad
  repeat' first
    | with_reducible assumption | intro _ | with_reducible apply State.command_kept
    | with_reducible apply cBiasQueueLoad_kept | with_reducible apply KeptOut.next | with_reducible apply KeptOut.ite
    | with_reducible apply Kept.ite | split | dsimp only
    | with_reducible refine Kept.put ?_ rfl rfl rfl rfl rfl rfl rfl rfl rfl rfl

theorem execBiasQueueStart_kept {s0 : State} (p : Pkt) (s : State) (h : Kept s0 s) :
    KeptOut s0 (execBiasQueueStart p s) := by
  unfold execBiasQueueStart
  repeat' first
    | with_reducible assumption | intro _ | with_reducible apply State.command_kept
    | with_reducible apply cBiasQueueStart_kept | with_reducible apply KeptOut.next | with_reducible apply KeptOut.ite
    | with_reducible apply Kept.ite | split | dsimp only
    | with_reducible refine Kept.put ?_ rfl rfl rfl rfl rfl rfl rfl rfl rfl rfl

theorem execBiasQueueStop_kept {s0 : State} (p : Pkt) (s : State) (h : Kept s0 s) :
    KeptOut s0 (execBiasQueueStop p s) := by
  unfold execBiasQueueStop
  repeat' first
    | with_reducible assumption | intro _ | with_reducible apply State.command_kept
    | with_reducible apply cBiasQueueStop_kept | with_reducible apply KeptOut.next | with_reducible apply KeptOut.ite
    | with_reducible apply Kept.ite | split | dsimp only
    | with_reducible refine Kept.put ?_ rfl rfl rfl rfl rfl rfl rfl rfl rfl rfl

end Sys2Proof.Machine
end

