-- ==== Sys2Proof/Laws/KeptH.lean ====
section
/-!
SUPPORT. Laws/KeptH.lean: that the operations of the model keep what Laws/Kept.lean says, one lemma an operation, in the order in
which they build on one another.
-/

namespace Sys2Proof.Machine
open Sys2Proof

theorem execBiasRestore_kept {s0 : State} (p : Pkt) (s : State) (h : Kept s0 s) :
    KeptOut s0 (execBiasRestore p s) := by
  unfold execBiasRestore
  repeat' first
    | with_reducible assumption | intro _ | with_reducible apply State.command_kept
    | with_reducible apply cBiasRestore_kept | with_reducible apply KeptOut.next | with_reducible apply KeptOut.ite
    | with_reducible apply Kept.ite | split | dsimp only
    | with_reducible refine Kept.put ?_ rfl rfl rfl rfl rfl rfl rfl rfl rfl rfl

theorem execBiasPolicySet_kept {s0 : State} (p : Pkt) (s : State) (h : Kept s0 s) :
    KeptOut s0 (execBiasPolicySet p s) := by
  unfold execBiasPolicySet
  repeat' first
    | with_reducible assumption | intro _ | with_reducible apply State.command_kept
    | with_reducible apply cBiasPolicySet_kept | with_reducible apply KeptOut.next | with_reducible apply KeptOut.ite
    | with_reducible apply Kept.ite | split | dsimp only
    | with_reducible refine Kept.put ?_ rfl rfl rfl rfl rfl rfl rfl rfl rfl rfl

theorem execQueueClockRelease_kept {s0 : State} (b : Nat) (s : State) (h : Kept s0 s) :
    KeptOut s0 (execQueueClockRelease b s) := by
  unfold execQueueClockRelease
  repeat' first
    | with_reducible assumption | intro _ | with_reducible apply State.setBias_kept
    | with_reducible apply State.bump_kept | with_reducible apply State.flag_kept
    | with_reducible apply State.biasPop_kept | with_reducible apply KeptOut.next | with_reducible apply KeptOut.ite
    | with_reducible apply Kept.ite | split | dsimp only
    | with_reducible refine Kept.put ?_ rfl rfl rfl rfl rfl rfl rfl rfl rfl rfl

theorem execPaceEvent_kept {s0 : State} (b : Nat) (s : State) (h : Kept s0 s) :
    KeptOut s0 (execPaceEvent b s) := by
  unfold execPaceEvent
  repeat' first
    | with_reducible assumption | intro _ | with_reducible apply State.flag_kept
    | with_reducible apply State.paceMerge_kept | with_reducible apply State.paceGo_kept
    | with_reducible apply State.setBias_kept | with_reducible apply KeptOut.next | with_reducible apply KeptOut.ite
    | with_reducible apply Kept.ite | split | dsimp only
    | with_reducible refine Kept.put ?_ rfl rfl rfl rfl rfl rfl rfl rfl rfl rfl

theorem execPaceHoldRelease_kept {s0 : State} (b : Nat) (s : State) (h : Kept s0 s) :
    KeptOut s0 (execPaceHoldRelease b s) := by
  unfold execPaceHoldRelease
  repeat' first
    | with_reducible assumption | intro _ | with_reducible apply State.paceGo_kept | with_reducible apply KeptOut.next
    | with_reducible apply KeptOut.ite | with_reducible apply Kept.ite | split | dsimp only
    | with_reducible refine Kept.put ?_ rfl rfl rfl rfl rfl rfl rfl rfl rfl rfl

theorem execBiasSlewEnd_kept {s0 : State} (b : Nat) (s : State) (h : Kept s0 s) :
    KeptOut s0 (execBiasSlewEnd b s) := by
  unfold execBiasSlewEnd
  repeat' first
    | with_reducible assumption | intro _ | with_reducible apply State.rampEnd_kept
    | with_reducible apply KeptOut.next | with_reducible apply KeptOut.ite | with_reducible apply Kept.ite | split
    | dsimp only | with_reducible refine Kept.put ?_ rfl rfl rfl rfl rfl rfl rfl rfl rfl rfl

theorem execSpanSwitchEnd_kept {s0 : State} (b : Nat) (s : State) (h : Kept s0 s) :
    KeptOut s0 (execSpanSwitchEnd b s) := by
  unfold execSpanSwitchEnd
  repeat' first
    | with_reducible assumption | intro _ | with_reducible apply State.setBias_kept
    | with_reducible apply State.biasSettle_kept | with_reducible apply State.unflag_kept
    | with_reducible apply State.setBiasCode_kept | with_reducible apply KeptOut.next
    | with_reducible apply KeptOut.ite | with_reducible apply Kept.ite | split | dsimp only
    | with_reducible refine Kept.put ?_ rfl rfl rfl rfl rfl rfl rfl rfl rfl rfl

theorem execBiasConditionReport_kept {s0 : State} (b : Nat) (comp : Bool) (opn : Bool) (s : State) (h : Kept s0 s) :
    KeptOut s0 (execBiasConditionReport b comp opn s) := by
  unfold execBiasConditionReport
  repeat' first
    | with_reducible assumption | intro _ | with_reducible apply State.setBias_kept
    | with_reducible apply State.condIs_kept | with_reducible apply KeptOut.next | with_reducible apply KeptOut.ite
    | with_reducible apply Kept.ite | split | dsimp only
    | with_reducible refine Kept.put ?_ rfl rfl rfl rfl rfl rfl rfl rfl rfl rfl

theorem execComplianceWindowExpire_kept {s0 : State} (b : Nat) (s : State) (h : Kept s0 s) :
    KeptOut s0 (execComplianceWindowExpire b s) := by
  unfold execComplianceWindowExpire
  repeat' first
    | with_reducible assumption | intro _ | with_reducible apply State.biasLost_kept
    | with_reducible apply KeptOut.next | with_reducible apply KeptOut.ite | with_reducible apply Kept.ite | split
    | dsimp only | with_reducible refine Kept.put ?_ rfl rfl rfl rfl rfl rfl rfl rfl rfl rfl

theorem execMonConfig_kept {s0 : State} (p : Pkt) (s : State) (h : Kept s0 s) :
    KeptOut s0 (execMonConfig p s) := by
  unfold execMonConfig
  repeat' first
    | with_reducible assumption | intro _ | with_reducible apply State.command_kept
    | with_reducible apply cMonConfig_kept | with_reducible apply KeptOut.next | with_reducible apply KeptOut.ite
    | with_reducible apply Kept.ite | split | dsimp only
    | with_reducible refine Kept.put ?_ rfl rfl rfl rfl rfl rfl rfl rfl rfl rfl

theorem execMonStart_kept {s0 : State} (p : Pkt) (s : State) (h : Kept s0 s) :
    KeptOut s0 (execMonStart p s) := by
  unfold execMonStart
  repeat' first
    | with_reducible assumption | intro _ | with_reducible apply State.command_kept
    | with_reducible apply cMonStart_kept | with_reducible apply KeptOut.next | with_reducible apply KeptOut.ite
    | with_reducible apply Kept.ite | split | dsimp only
    | with_reducible refine Kept.put ?_ rfl rfl rfl rfl rfl rfl rfl rfl rfl rfl

theorem execMonStop_kept {s0 : State} (p : Pkt) (s : State) (h : Kept s0 s) :
    KeptOut s0 (execMonStop p s) := by
  unfold execMonStop
  repeat' first
    | with_reducible assumption | intro _ | with_reducible apply State.command_kept
    | with_reducible apply cMonStop_kept | with_reducible apply KeptOut.next | with_reducible apply KeptOut.ite
    | with_reducible apply Kept.ite | split | dsimp only
    | with_reducible refine Kept.put ?_ rfl rfl rfl rfl rfl rfl rfl rfl rfl rfl

theorem execMonInject_kept {s0 : State} (p : Pkt) (s : State) (h : Kept s0 s) :
    KeptOut s0 (execMonInject p s) := by
  unfold execMonInject
  repeat' first
    | with_reducible assumption | intro _ | with_reducible apply State.command_kept
    | with_reducible apply cMonInject_kept | with_reducible apply KeptOut.next | with_reducible apply KeptOut.ite
    | with_reducible apply Kept.ite | split | dsimp only
    | with_reducible refine Kept.put ?_ rfl rfl rfl rfl rfl rfl rfl rfl rfl rfl

theorem execMonCalibrate_kept {s0 : State} (p : Pkt) (s : State) (h : Kept s0 s) :
    KeptOut s0 (execMonCalibrate p s) := by
  unfold execMonCalibrate
  repeat' first
    | with_reducible assumption | intro _ | with_reducible apply State.command_kept
    | with_reducible apply cMonCalibrate_kept | with_reducible apply KeptOut.next | with_reducible apply KeptOut.ite
    | with_reducible apply Kept.ite | split | dsimp only
    | with_reducible refine Kept.put ?_ rfl rfl rfl rfl rfl rfl rfl rfl rfl rfl

theorem execMonCalEnd_kept {s0 : State} (q : Nat) (s : State) (h : Kept s0 s) :
    KeptOut s0 (execMonCalEnd q s) := by
  unfold execMonCalEnd
  repeat' first
    | with_reducible assumption | intro _ | with_reducible apply forEach_kept
    | with_reducible apply State.calFactors_kept | with_reducible apply State.unflag_kept
    | with_reducible apply State.flag_kept | with_reducible apply State.settle_kept
    | with_reducible apply State.calResume_kept | with_reducible apply KeptOut.next | with_reducible apply KeptOut.ite
    | with_reducible apply Kept.ite | split | dsimp only
    | with_reducible refine Kept.put ?_ rfl rfl rfl rfl rfl rfl rfl rfl rfl rfl

theorem execMonRefSet_kept {s0 : State} (p : Pkt) (s : State) (h : Kept s0 s) :
    KeptOut s0 (execMonRefSet p s) := by
  unfold execMonRefSet
  repeat' first
    | with_reducible assumption | intro _ | with_reducible apply State.command_kept
    | with_reducible apply cMonRefSet_kept | with_reducible apply KeptOut.next | with_reducible apply KeptOut.ite
    | with_reducible apply Kept.ite | split | dsimp only
    | with_reducible refine Kept.put ?_ rfl rfl rfl rfl rfl rfl rfl rfl rfl rfl

theorem execMonRefSettled_kept {s0 : State} (q : Nat) (s : State) (h : Kept s0 s) :
    KeptOut s0 (execMonRefSettled q s) := by
  unfold execMonRefSettled
  repeat' first
    | with_reducible assumption | intro _ | with_reducible apply State.settleAll_kept
    | with_reducible apply State.unflag_kept | with_reducible apply KeptOut.next | with_reducible apply KeptOut.ite
    | with_reducible apply Kept.ite | split | dsimp only
    | with_reducible refine Kept.put ?_ rfl rfl rfl rfl rfl rfl rfl rfl rfl rfl

theorem execMonTdacSet_kept {s0 : State} (p : Pkt) (s : State) (h : Kept s0 s) :
    KeptOut s0 (execMonTdacSet p s) := by
  unfold execMonTdacSet
  repeat' first
    | with_reducible assumption | intro _ | with_reducible apply State.command_kept
    | with_reducible apply cMonTdacSet_kept | with_reducible apply KeptOut.next | with_reducible apply KeptOut.ite
    | with_reducible apply Kept.ite | split | dsimp only
    | with_reducible refine Kept.put ?_ rfl rfl rfl rfl rfl rfl rfl rfl rfl rfl

theorem execMonCommonSet_kept {s0 : State} (p : Pkt) (s : State) (h : Kept s0 s) :
    KeptOut s0 (execMonCommonSet p s) := by
  unfold execMonCommonSet
  repeat' first
    | with_reducible assumption | intro _ | with_reducible apply State.command_kept
    | with_reducible apply cMonCommonSet_kept | with_reducible apply KeptOut.next | with_reducible apply KeptOut.ite
    | with_reducible apply Kept.ite | split | dsimp only
    | with_reducible refine Kept.put ?_ rfl rfl rfl rfl rfl rfl rfl rfl rfl rfl

theorem execMonCommonFire_kept {s0 : State} (p : Pkt) (s : State) (h : Kept s0 s) :
    KeptOut s0 (execMonCommonFire p s) := by
  unfold execMonCommonFire
  repeat' first
    | with_reducible assumption | intro _ | with_reducible apply State.command_kept
    | with_reducible apply cMonCommonFire_kept | with_reducible apply KeptOut.next | with_reducible apply KeptOut.ite
    | with_reducible apply Kept.ite | split | dsimp only
    | with_reducible refine Kept.put ?_ rfl rfl rfl rfl rfl rfl rfl rfl rfl rfl

theorem execMonStartArrival_kept {s0 : State} (m : Nat) (s : State) (h : Kept s0 s) :
    KeptOut s0 (execMonStartArrival m s) := by
  unfold execMonStartArrival
  repeat' first
    | with_reducible assumption | intro _ | with_reducible apply State.monStart_kept
    | with_reducible apply KeptOut.next | with_reducible apply KeptOut.ite | with_reducible apply Kept.ite | split
    | dsimp only | with_reducible refine Kept.put ?_ rfl rfl rfl rfl rfl rfl rfl rfl rfl rfl

theorem execConversionComplete_kept {s0 : State} (m : Nat) (raw : Int) (s : State) (h : Kept s0 s) :
    KeptOut s0 (execConversionComplete m raw s) := by
  unfold execConversionComplete
  repeat' first
    | with_reducible assumption | intro _ | with_reducible apply State.monDone_kept
    | with_reducible apply State.calSettle_kept | with_reducible apply State.setMon_kept
    | with_reducible apply KeptOut.next | with_reducible apply KeptOut.ite | with_reducible apply Kept.ite | split
    | dsimp only | with_reducible refine Kept.put ?_ rfl rfl rfl rfl rfl rfl rfl rfl rfl rfl

theorem execMemWrite_kept {s0 : State} (p : Pkt) (s : State) (h : Kept s0 s) :
    KeptOut s0 (execMemWrite p s) := by
  unfold execMemWrite
  repeat' first
    | with_reducible assumption | intro _ | with_reducible apply State.command_kept
    | with_reducible apply cMemWrite_kept | with_reducible apply KeptOut.next | with_reducible apply KeptOut.ite
    | with_reducible apply Kept.ite | split | dsimp only
    | with_reducible refine Kept.put ?_ rfl rfl rfl rfl rfl rfl rfl rfl rfl rfl

theorem execMemRead_kept {s0 : State} (p : Pkt) (s : State) (h : Kept s0 s) :
    KeptOut s0 (execMemRead p s) := by
  unfold execMemRead
  repeat' first
    | with_reducible assumption | intro _ | with_reducible apply State.command_kept
    | with_reducible apply cMemRead_kept | with_reducible apply KeptOut.next | with_reducible apply KeptOut.ite
    | with_reducible apply Kept.ite | split | dsimp only
    | with_reducible refine Kept.put ?_ rfl rfl rfl rfl rfl rfl rfl rfl rfl rfl

theorem execMemMapSet_kept {s0 : State} (p : Pkt) (s : State) (h : Kept s0 s) :
    KeptOut s0 (execMemMapSet p s) := by
  unfold execMemMapSet
  repeat' first
    | with_reducible assumption | intro _ | with_reducible apply State.command_kept
    | with_reducible apply cMemMapSet_kept | with_reducible apply KeptOut.next | with_reducible apply KeptOut.ite
    | with_reducible apply Kept.ite | split | dsimp only
    | with_reducible refine Kept.put ?_ rfl rfl rfl rfl rfl rfl rfl rfl rfl rfl

theorem execMemHintSet_kept {s0 : State} (p : Pkt) (s : State) (h : Kept s0 s) :
    KeptOut s0 (execMemHintSet p s) := by
  unfold execMemHintSet
  repeat' first
    | with_reducible assumption | intro _ | with_reducible apply State.command_kept
    | with_reducible apply cMemHintSet_kept | with_reducible apply KeptOut.next | with_reducible apply KeptOut.ite
    | with_reducible apply Kept.ite | split | dsimp only
    | with_reducible refine Kept.put ?_ rfl rfl rfl rfl rfl rfl rfl rfl rfl rfl

theorem execMemScrubSet_kept {s0 : State} (p : Pkt) (s : State) (h : Kept s0 s) :
    KeptOut s0 (execMemScrubSet p s) := by
  unfold execMemScrubSet
  repeat' first
    | with_reducible assumption | intro _ | with_reducible apply State.command_kept
    | with_reducible apply cMemScrubSet_kept | with_reducible apply KeptOut.next | with_reducible apply KeptOut.ite
    | with_reducible apply Kept.ite | split | dsimp only
    | with_reducible refine Kept.put ?_ rfl rfl rfl rfl rfl rfl rfl rfl rfl rfl

theorem execMemMarch_kept {s0 : State} (p : Pkt) (s : State) (h : Kept s0 s) :
    KeptOut s0 (execMemMarch p s) := by
  unfold execMemMarch
  repeat' first
    | with_reducible assumption | intro _ | with_reducible apply State.command_kept
    | with_reducible apply cMemMarch_kept | with_reducible apply KeptOut.next | with_reducible apply KeptOut.ite
    | with_reducible apply Kept.ite | split | dsimp only
    | with_reducible refine Kept.put ?_ rfl rfl rfl rfl rfl rfl rfl rfl rfl rfl

theorem execMemMarchStop_kept {s0 : State} (p : Pkt) (s : State) (h : Kept s0 s) :
    KeptOut s0 (execMemMarchStop p s) := by
  unfold execMemMarchStop
  repeat' first
    | with_reducible assumption | intro _ | with_reducible apply State.command_kept
    | with_reducible apply cMemMarchStop_kept | with_reducible apply KeptOut.next | with_reducible apply KeptOut.ite
    | with_reducible apply Kept.ite | split | dsimp only
    | with_reducible refine Kept.put ?_ rfl rfl rfl rfl rfl rfl rfl rfl rfl rfl

theorem execMarchEnd_kept {s0 : State} (fails : Nat) (first : Nat) (ops : Nat) (diff : BitVec 64) (chk : Nat) (s : State) (h : Kept s0 s) :
    KeptOut s0 (execMarchEnd fails first ops diff chk s) := by
  unfold execMarchEnd
  repeat' first
    | with_reducible assumption | intro _ | with_reducible apply State.marchReport_kept
    | with_reducible apply State.marchFill_kept | with_reducible apply KeptOut.next | with_reducible apply KeptOut.ite
    | with_reducible apply Kept.ite | split | dsimp only
    | with_reducible refine Kept.put ?_ rfl rfl rfl rfl rfl rfl rfl rfl rfl rfl

theorem execMemRankRetire_kept {s0 : State} (p : Pkt) (s : State) (h : Kept s0 s) :
    KeptOut s0 (execMemRankRetire p s) := by
  unfold execMemRankRetire
  repeat' first
    | with_reducible assumption | intro _ | with_reducible apply State.command_kept
    | with_reducible apply cMemRankRetire_kept | with_reducible apply KeptOut.next | with_reducible apply KeptOut.ite
    | with_reducible apply Kept.ite | split | dsimp only
    | with_reducible refine Kept.put ?_ rfl rfl rfl rfl rfl rfl rfl rfl rfl rfl

theorem execRefreshDue_kept {s0 : State} (c : Nat) (r : Nat) (made : Nat) (busy : Bool) (s : State) (h : Kept s0 s) :
    KeptOut s0 (execRefreshDue c r made busy s) := by
  unfold execRefreshDue
  repeat' first
    | with_reducible assumption | intro _ | with_reducible apply State.bump_kept | with_reducible apply KeptOut.next
    | with_reducible apply KeptOut.ite | with_reducible apply Kept.ite | split | dsimp only
    | with_reducible refine Kept.put ?_ rfl rfl rfl rfl rfl rfl rfl rfl rfl rfl

theorem execDdrAlert_kept {s0 : State} (c : Nat) (r : Nat) (s : State) (h : Kept s0 s) :
    KeptOut s0 (execDdrAlert c r s) := by
  unfold execDdrAlert
  repeat' first
    | with_reducible assumption | intro _ | with_reducible apply State.replayFail_kept
    | with_reducible apply KeptOut.next | with_reducible apply KeptOut.ite | with_reducible apply Kept.ite | split
    | dsimp only | with_reducible refine Kept.put ?_ rfl rfl rfl rfl rfl rfl rfl rfl rfl rfl

theorem execScrubRead_kept {s0 : State} (store : Nat) (quad : Nat) (err : Nat) (s : State) (h : Kept s0 s) :
    KeptOut s0 (execScrubRead store quad err s) := by
  unfold execScrubRead
  repeat' first
    | with_reducible assumption | intro _ | with_reducible apply State.scrubDdr_kept
    | with_reducible apply State.scrubDie_kept | with_reducible apply KeptOut.next | with_reducible apply KeptOut.ite
    | with_reducible apply Kept.ite | split | dsimp only
    | with_reducible refine Kept.put ?_ rfl rfl rfl rfl rfl rfl rfl rfl rfl rfl

theorem execRowRepairComplete_kept {s0 : State} (store : Nat) (quad : Nat) (s : State) (h : Kept s0 s) :
    KeptOut s0 (execRowRepairComplete store quad s) := by
  unfold execRowRepairComplete
  repeat' first
    | with_reducible assumption | intro _ | with_reducible apply KeptOut.next | with_reducible apply KeptOut.ite
    | with_reducible apply Kept.ite | split | dsimp only
    | with_reducible refine Kept.put ?_ rfl rfl rfl rfl rfl rfl rfl rfl rfl rfl

theorem execRankMoveComplete_kept {s0 : State} (c : Nat) (s : State) (h : Kept s0 s) :
    KeptOut s0 (execRankMoveComplete c s) := by
  unfold execRankMoveComplete
  repeat' first
    | with_reducible assumption | intro _ | with_reducible apply State.fresh_kept
    | with_reducible apply State.moveRead_kept | with_reducible apply State.p_kept
    | with_reducible apply State.unflag_kept | with_reducible apply KeptOut.next | with_reducible apply KeptOut.ite
    | with_reducible apply Kept.ite | split | dsimp only
    | with_reducible refine Kept.put ?_ rfl rfl rfl rfl rfl rfl rfl rfl rfl rfl

theorem execMemoryInitComplete_kept {s0 : State} (st : Nat) (s : State) (h : Kept s0 s) :
    KeptOut s0 (execMemoryInitComplete st s) := by
  unfold execMemoryInitComplete
  repeat' first
    | with_reducible assumption | intro _ | with_reducible apply State.storeZero_kept
    | with_reducible apply State.flag_kept | with_reducible apply KeptOut.next | with_reducible apply KeptOut.ite
    | with_reducible apply Kept.ite | split | dsimp only
    | with_reducible refine Kept.put ?_ rfl rfl rfl rfl rfl rfl rfl rfl rfl rfl

theorem execPacketFetch_kept {s0 : State} (n : Nat) (p : Pkt) (s : State) (h : Kept s0 s) :
    KeptOut s0 (execPacketFetch n p s) := by
  unfold execPacketFetch
  repeat' first
    | with_reducible assumption | intro _ | with_reducible apply State.fetchPkt_kept
    | with_reducible apply KeptOut.next | with_reducible apply KeptOut.ite | with_reducible apply Kept.ite | split
    | dsimp only | with_reducible refine Kept.put ?_ rfl rfl rfl rfl rfl rfl rfl rfl rfl rfl

theorem execCommandStart_kept {s0 : State} (sq : Nat) (tag : Nat) (s : State) (h : Kept s0 s) :
    KeptOut s0 (execCommandStart sq tag s) := by
  unfold execCommandStart
  repeat' first
    | with_reducible assumption | intro _ | with_reducible apply State.tryStart_kept
    | with_reducible apply KeptOut.next | with_reducible apply KeptOut.ite | with_reducible apply Kept.ite | split
    | dsimp only | with_reducible refine Kept.put ?_ rfl rfl rfl rfl rfl rfl rfl rfl rfl rfl

theorem execAtShotRelease_kept {s0 : State} (p : Nat) (s : State) (h : Kept s0 s) :
    KeptOut s0 (execAtShotRelease p s) := by
  unfold execAtShotRelease
  repeat' first
    | with_reducible assumption | intro _ | with_reducible apply foldl_kept | with_reducible apply State.tryStart_kept
    | with_reducible apply KeptOut.next | with_reducible apply KeptOut.ite | with_reducible apply Kept.ite | split
    | dsimp only | with_reducible refine Kept.put ?_ rfl rfl rfl rfl rfl rfl rfl rfl rfl rfl

theorem execCompletionPost_kept {s0 : State} (n : Nat) (s : State) (h : Kept s0 s) :
    KeptOut s0 (execCompletionPost n s) := by
  unfold execCompletionPost
  repeat' first
    | with_reducible assumption | intro _ | with_reducible apply State.post_kept | with_reducible apply KeptOut.next
    | with_reducible apply KeptOut.ite | with_reducible apply Kept.ite | split | dsimp only
    | with_reducible refine Kept.put ?_ rfl rfl rfl rfl rfl rfl rfl rfl rfl rfl

theorem execLinkDown_kept {s0 : State} (phys : Bool) (s : State) (h : Kept s0 s) :
    KeptOut s0 (execLinkDown phys s) := by
  unfold execLinkDown
  repeat' first
    | with_reducible assumption | intro _ | with_reducible apply State.linkFall_kept
    | with_reducible apply State.bmeClear_kept | with_reducible apply KeptOut.next | with_reducible apply KeptOut.ite
    | with_reducible apply Kept.ite | split | dsimp only
    | with_reducible refine Kept.put ?_ rfl rfl rfl rfl rfl rfl rfl rfl rfl rfl

theorem execLinkUp_kept {s0 : State} (phys : Bool) (s : State) (h : Kept s0 s) :
    KeptOut s0 (execLinkUp phys s) := by
  unfold execLinkUp
  repeat' first
    | with_reducible assumption | intro _ | with_reducible apply State.msixResume_kept
    | with_reducible apply State.linkTrain_kept | with_reducible apply KeptOut.next | with_reducible apply KeptOut.ite
    | with_reducible apply Kept.ite | split | dsimp only
    | with_reducible refine Kept.put ?_ rfl rfl rfl rfl rfl rfl rfl rfl rfl rfl

theorem execHotReset_kept {s0 : State} (s : State) (h : Kept s0 s) :
    KeptOut s0 (execHotReset s) := by
  unfold execHotReset
  repeat' first
    | with_reducible assumption | intro _ | with_reducible apply State.linkReset_kept
    | with_reducible apply KeptOut.next | with_reducible apply KeptOut.ite | with_reducible apply Kept.ite | split
    | dsimp only | with_reducible refine Kept.put ?_ rfl rfl rfl rfl rfl rfl rfl rfl rfl rfl

theorem execVfFlr_kept {s0 : State} (i : Nat) (s : State) (h : Kept s0 s) :
    KeptOut s0 (execVfFlr i s) := by
  unfold execVfFlr
  repeat' first
    | with_reducible assumption | intro _ | with_reducible apply State.when_kept
    | with_reducible apply State.partAbort_kept | with_reducible apply State.intReset_kept
    | with_reducible apply State.msixReset_kept | with_reducible apply State.dropQueues_kept
    | with_reducible apply KeptOut.next | with_reducible apply KeptOut.ite | with_reducible apply Kept.ite | split
    | dsimp only | with_reducible refine Kept.put ?_ rfl rfl rfl rfl rfl rfl rfl rfl rfl rfl

theorem execPf0Flr_kept {s0 : State} (s : State) (h : Kept s0 s) :
    KeptOut s0 (execPf0Flr s) := by
  unfold execPf0Flr
  repeat' first
    | with_reducible assumption | intro _ | with_reducible apply forEach_kept | with_reducible apply State.when_kept
    | with_reducible apply State.linkReset_kept | with_reducible apply State.partAbort_kept
    | with_reducible apply KeptOut.next | with_reducible apply KeptOut.ite | with_reducible apply Kept.ite | split
    | dsimp only | with_reducible refine Kept.put ?_ rfl rfl rfl rfl rfl rfl rfl rfl rfl rfl

theorem execFunctionD3hot_kept {s0 : State} (fn : Nat) (s : State) (h : Kept s0 s) :
    KeptOut s0 (execFunctionD3hot fn s) := by
  unfold execFunctionD3hot
  repeat' first
    | with_reducible assumption | intro _ | with_reducible apply KeptOut.next | with_reducible apply KeptOut.ite
    | with_reducible apply Kept.ite | split | dsimp only
    | with_reducible refine Kept.put ?_ rfl rfl rfl rfl rfl rfl rfl rfl rfl rfl

theorem execHostMemoryFail_kept {s0 : State} (sq : Nat) (tag : Nat) (s : State) (h : Kept s0 s) :
    KeptOut s0 (execHostMemoryFail sq tag s) := by
  unfold execHostMemoryFail
  repeat' first
    | with_reducible assumption | intro _ | with_reducible apply State.bump_kept
    | with_reducible apply State.retryLater_kept | with_reducible apply State.flag_kept
    | with_reducible apply State.finish_kept | with_reducible apply State.logIt_kept
    | with_reducible apply KeptOut.next | with_reducible apply KeptOut.ite | with_reducible apply Kept.ite | split
    | dsimp only | with_reducible refine Kept.put ?_ rfl rfl rfl rfl rfl rfl rfl rfl rfl rfl

theorem execHostDmaRetry_kept {s0 : State} (s : State) (h : Kept s0 s) :
    KeptOut s0 (execHostDmaRetry s) := by
  unfold execHostDmaRetry
  repeat' first
    | with_reducible assumption | intro _ | with_reducible apply foldl_kept
    | with_reducible apply State.ringRetry_kept | with_reducible apply KeptOut.next | with_reducible apply KeptOut.ite
    | with_reducible apply Kept.ite | split | dsimp only
    | with_reducible refine Kept.put ?_ rfl rfl rfl rfl rfl rfl rfl rfl rfl rfl

theorem execFabLaneConfig_kept {s0 : State} (p : Pkt) (s : State) (h : Kept s0 s) :
    KeptOut s0 (execFabLaneConfig p s) := by
  unfold execFabLaneConfig
  repeat' first
    | with_reducible assumption | intro _ | with_reducible apply State.command_kept
    | with_reducible apply cFabLaneConfig_kept | with_reducible apply KeptOut.next | with_reducible apply KeptOut.ite
    | with_reducible apply Kept.ite | split | dsimp only
    | with_reducible refine Kept.put ?_ rfl rfl rfl rfl rfl rfl rfl rfl rfl rfl

theorem execFabLinkTrain_kept {s0 : State} (p : Pkt) (s : State) (h : Kept s0 s) :
    KeptOut s0 (execFabLinkTrain p s) := by
  unfold execFabLinkTrain
  repeat' first
    | with_reducible assumption | intro _ | with_reducible apply State.command_kept
    | with_reducible apply cFabLinkTrain_kept | with_reducible apply KeptOut.next | with_reducible apply KeptOut.ite
    | with_reducible apply Kept.ite | split | dsimp only
    | with_reducible refine Kept.put ?_ rfl rfl rfl rfl rfl rfl rfl rfl rfl rfl

theorem execFabPortConfig_kept {s0 : State} (p : Pkt) (s : State) (h : Kept s0 s) :
    KeptOut s0 (execFabPortConfig p s) := by
  unfold execFabPortConfig
  repeat' first
    | with_reducible assumption | intro _ | with_reducible apply State.command_kept
    | with_reducible apply cFabPortConfig_kept | with_reducible apply KeptOut.next | with_reducible apply KeptOut.ite
    | with_reducible apply Kept.ite | split | dsimp only
    | with_reducible refine Kept.put ?_ rfl rfl rfl rfl rfl rfl rfl rfl rfl rfl

theorem execFabDiscover_kept {s0 : State} (p : Pkt) (s : State) (h : Kept s0 s) :
    KeptOut s0 (execFabDiscover p s) := by
  unfold execFabDiscover
  repeat' first
    | with_reducible assumption | intro _ | with_reducible apply State.command_kept
    | with_reducible apply cFabDiscover_kept | with_reducible apply KeptOut.next | with_reducible apply KeptOut.ite
    | with_reducible apply Kept.ite | split | dsimp only
    | with_reducible refine Kept.put ?_ rfl rfl rfl rfl rfl rfl rfl rfl rfl rfl

theorem execFabAddrClear_kept {s0 : State} (p : Pkt) (s : State) (h : Kept s0 s) :
    KeptOut s0 (execFabAddrClear p s) := by
  unfold execFabAddrClear
  repeat' first
    | with_reducible assumption | intro _ | with_reducible apply State.command_kept
    | with_reducible apply cFabAddrClear_kept | with_reducible apply KeptOut.next | with_reducible apply KeptOut.ite
    | with_reducible apply Kept.ite | split | dsimp only
    | with_reducible refine Kept.put ?_ rfl rfl rfl rfl rfl rfl rfl rfl rfl rfl

theorem execFabRouteSet_kept {s0 : State} (p : Pkt) (s : State) (h : Kept s0 s) :
    KeptOut s0 (execFabRouteSet p s) := by
  unfold execFabRouteSet
  repeat' first
    | with_reducible assumption | intro _ | with_reducible apply State.command_kept
    | with_reducible apply cFabRouteSet_kept | with_reducible apply KeptOut.next | with_reducible apply KeptOut.ite
    | with_reducible apply Kept.ite | split | dsimp only
    | with_reducible refine Kept.put ?_ rfl rfl rfl rfl rfl rfl rfl rfl rfl rfl

theorem execFabPartNodesSet_kept {s0 : State} (p : Pkt) (s : State) (h : Kept s0 s) :
    KeptOut s0 (execFabPartNodesSet p s) := by
  unfold execFabPartNodesSet
  repeat' first
    | with_reducible assumption | intro _ | with_reducible apply State.command_kept
    | with_reducible apply cFabPartNodesSet_kept | with_reducible apply KeptOut.next
    | with_reducible apply KeptOut.ite | with_reducible apply Kept.ite | split | dsimp only
    | with_reducible refine Kept.put ?_ rfl rfl rfl rfl rfl rfl rfl rfl rfl rfl

theorem execFabTwinConfig_kept {s0 : State} (p : Pkt) (s : State) (h : Kept s0 s) :
    KeptOut s0 (execFabTwinConfig p s) := by
  unfold execFabTwinConfig
  repeat' first
    | with_reducible assumption | intro _ | with_reducible apply State.command_kept
    | with_reducible apply cFabTwinConfig_kept | with_reducible apply KeptOut.next | with_reducible apply KeptOut.ite
    | with_reducible apply Kept.ite | split | dsimp only
    | with_reducible refine Kept.put ?_ rfl rfl rfl rfl rfl rfl rfl rfl rfl rfl

theorem execFabTwinHandover_kept {s0 : State} (p : Pkt) (s : State) (h : Kept s0 s) :
    KeptOut s0 (execFabTwinHandover p s) := by
  unfold execFabTwinHandover
  repeat' first
    | with_reducible assumption | intro _ | with_reducible apply State.command_kept
    | with_reducible apply cFabTwinHandover_kept | with_reducible apply KeptOut.next
    | with_reducible apply KeptOut.ite | with_reducible apply Kept.ite | split | dsimp only
    | with_reducible refine Kept.put ?_ rfl rfl rfl rfl rfl rfl rfl rfl rfl rfl

theorem execFabLaneRestore_kept {s0 : State} (p : Pkt) (s : State) (h : Kept s0 s) :
    KeptOut s0 (execFabLaneRestore p s) := by
  unfold execFabLaneRestore
  repeat' first
    | with_reducible assumption | intro _ | with_reducible apply State.command_kept
    | with_reducible apply cFabLaneRestore_kept | with_reducible apply KeptOut.next | with_reducible apply KeptOut.ite
    | with_reducible apply Kept.ite | split | dsimp only
    | with_reducible refine Kept.put ?_ rfl rfl rfl rfl rfl rfl rfl rfl rfl rfl

theorem execAutoSlipStep_kept {s0 : State} (l : Nat) (s : State) (h : Kept s0 s) :
    KeptOut s0 (execAutoSlipStep l s) := by
  unfold execAutoSlipStep
  repeat' first
    | with_reducible assumption | intro _ | with_reducible apply State.laneSlip_kept
    | with_reducible apply State.setLane_kept | with_reducible apply KeptOut.next | with_reducible apply KeptOut.ite
    | with_reducible apply Kept.ite | split | dsimp only
    | with_reducible refine Kept.put ?_ rfl rfl rfl rfl rfl rfl rfl rfl rfl rfl

theorem execLaneCdrLock_kept {s0 : State} (l : Nat) (s : State) (h : Kept s0 s) :
    KeptOut s0 (execLaneCdrLock l s) := by
  unfold execLaneCdrLock
  repeat' first
    | with_reducible assumption | intro _ | with_reducible apply State.p_kept | with_reducible apply State.unflag_kept
    | with_reducible apply State.setLane_kept | with_reducible apply State.setLaneRx_kept
    | with_reducible apply KeptOut.next | with_reducible apply KeptOut.ite | with_reducible apply Kept.ite | split
    | dsimp only | with_reducible refine Kept.put ?_ rfl rfl rfl rfl rfl rfl rfl rfl rfl rfl

theorem execLaneAligned_kept {s0 : State} (l : Nat) (s : State) (h : Kept s0 s) :
    KeptOut s0 (execLaneAligned l s) := by
  unfold execLaneAligned
  repeat' first
    | with_reducible assumption | intro _ | with_reducible apply State.setLaneRx_kept
    | with_reducible apply State.setLane_kept | with_reducible apply KeptOut.next | with_reducible apply KeptOut.ite
    | with_reducible apply Kept.ite | split | dsimp only
    | with_reducible refine Kept.put ?_ rfl rfl rfl rfl rfl rfl rfl rfl rfl rfl

theorem execAlignTimeout_kept {s0 : State} (l : Nat) (s : State) (h : Kept s0 s) :
    KeptOut s0 (execAlignTimeout l s) := by
  unfold execAlignTimeout
  repeat' first
    | with_reducible assumption | intro _ | with_reducible apply State.alignFail_kept
    | with_reducible apply KeptOut.next | with_reducible apply KeptOut.ite | with_reducible apply Kept.ite | split
    | dsimp only | with_reducible refine Kept.put ?_ rfl rfl rfl rfl rfl rfl rfl rfl rfl rfl

theorem execLaneLoss_kept {s0 : State} (l : Nat) (s : State) (h : Kept s0 s) :
    KeptOut s0 (execLaneLoss l s) := by
  unfold execLaneLoss
  repeat' first
    | with_reducible assumption | intro _ | with_reducible apply State.lockLoss_kept
    | with_reducible apply State.laneDetect_kept | with_reducible apply KeptOut.next
    | with_reducible apply KeptOut.ite | with_reducible apply Kept.ite | split | dsimp only
    | with_reducible refine Kept.put ?_ rfl rfl rfl rfl rfl rfl rfl rfl rfl rfl

theorem execFrameReceive_kept {s0 : State} (port : Nat) (line : List (List Bool)) (s : State) (h : Kept s0 s) :
    KeptOut s0 (execFrameReceive port line s) := by
  unfold execFrameReceive
  repeat' first
    | with_reducible assumption | intro _ | with_reducible apply State.lineIn_kept | with_reducible apply KeptOut.next
    | with_reducible apply KeptOut.ite | with_reducible apply Kept.ite | split | dsimp only
    | with_reducible refine Kept.put ?_ rfl rfl rfl rfl rfl rfl rfl rfl rfl rfl

theorem execLackStallTimeout_kept {s0 : State} (port : Nat) (s : State) (h : Kept s0 s) :
    KeptOut s0 (execLackStallTimeout port s) := by
  unfold execLackStallTimeout
  repeat' first
    | with_reducible assumption | intro _ | with_reducible apply State.resend_kept | with_reducible apply KeptOut.next
    | with_reducible apply KeptOut.ite | with_reducible apply Kept.ite | split | dsimp only
    | with_reducible refine Kept.put ?_ rfl rfl rfl rfl rfl rfl rfl rfl rfl rfl

theorem execWordExpire_kept {s0 : State} (port : Nat) (s : State) (h : Kept s0 s) :
    KeptOut s0 (execWordExpire port s) := by
  unfold execWordExpire
  repeat' first
    | with_reducible assumption | intro _ | with_reducible apply State.portGone_kept
    | with_reducible apply State.portFall_kept | with_reducible apply State.dropReplay_kept
    | with_reducible apply State.wordGone_kept | with_reducible apply State.setPort_kept
    | with_reducible apply KeptOut.next | with_reducible apply KeptOut.ite | with_reducible apply Kept.ite | split
    | dsimp only | with_reducible refine Kept.put ?_ rfl rfl rfl rfl rfl rfl rfl rfl rfl rfl

theorem execFrameAckTimeout_kept {s0 : State} (port : Nat) (s : State) (h : Kept s0 s) :
    KeptOut s0 (execFrameAckTimeout port s) := by
  unfold execFrameAckTimeout
  repeat' first
    | with_reducible assumption | intro _ | with_reducible apply State.portGone_kept
    | with_reducible apply State.portFall_kept | with_reducible apply State.dropReplay_kept
    | with_reducible apply KeptOut.next | with_reducible apply KeptOut.ite | with_reducible apply Kept.ite | split
    | dsimp only | with_reducible refine Kept.put ?_ rfl rfl rfl rfl rfl rfl rfl rfl rfl rfl

theorem execHelloSend_kept {s0 : State} (port : Nat) (s : State) (h : Kept s0 s) :
    KeptOut s0 (execHelloSend port s) := by
  unfold execHelloSend
  repeat' first
    | with_reducible assumption | intro _ | with_reducible apply State.linkWord_kept
    | with_reducible apply State.setPort_kept | with_reducible apply KeptOut.next | with_reducible apply KeptOut.ite
    | with_reducible apply Kept.ite | split | dsimp only
    | with_reducible refine Kept.put ?_ rfl rfl rfl rfl rfl rfl rfl rfl rfl rfl

theorem execHello_kept {s0 : State} (port : Nat) (w : BitVec 64) (s : State) (h : Kept s0 s) :
    KeptOut s0 (execHello port w s) := by
  unfold execHello
  repeat' first
    | with_reducible assumption | intro _ | with_reducible apply State.takeWord_kept
    | with_reducible apply State.peerChanged_kept | with_reducible apply State.peerIs_kept
    | with_reducible apply State.flag_kept | with_reducible apply State.p_kept
    | with_reducible apply State.setPort_kept | with_reducible apply State.reroute_kept
    | with_reducible apply State.settle_kept | with_reducible apply KeptOut.next | with_reducible apply KeptOut.ite
    | with_reducible apply Kept.ite | split | dsimp only
    | with_reducible refine Kept.put ?_ rfl rfl rfl rfl rfl rfl rfl rfl rfl rfl

theorem execDiscover_kept {s0 : State} (port : Nat) (w : BitVec 64) (s : State) (h : Kept s0 s) :
    KeptOut s0 (execDiscover port w s) := by
  unfold execDiscover
  repeat' first
    | with_reducible assumption | intro _ | with_reducible apply State.takeWord_kept
    | with_reducible apply State.sendDiscover_kept | with_reducible apply State.linkWord_kept
    | with_reducible apply KeptOut.next | with_reducible apply KeptOut.ite | with_reducible apply Kept.ite | split
    | dsimp only | with_reducible refine Kept.put ?_ rfl rfl rfl rfl rfl rfl rfl rfl rfl rfl

theorem execAnnounce_kept {s0 : State} (port : Nat) (w : BitVec 64) (s : State) (h : Kept s0 s) :
    KeptOut s0 (execAnnounce port w s) := by
  unfold execAnnounce
  repeat' first
    | with_reducible assumption | intro _ | with_reducible apply State.takeWord_kept
    | with_reducible apply State.linkWord_kept | with_reducible apply KeptOut.next | with_reducible apply KeptOut.ite
    | with_reducible apply Kept.ite | split | dsimp only
    | with_reducible refine Kept.put ?_ rfl rfl rfl rfl rfl rfl rfl rfl rfl rfl

theorem execAnnounceQuiet_kept {s0 : State} (s : State) (h : Kept s0 s) :
    KeptOut s0 (execAnnounceQuiet s) := by
  unfold execAnnounceQuiet
  repeat' first
    | with_reducible assumption | intro _ | with_reducible apply forEach_kept | with_reducible apply foldl_kept
    | with_reducible apply State.linkWord_kept | with_reducible apply State.flag_kept
    | with_reducible apply State.reroute_kept | with_reducible apply KeptOut.next | with_reducible apply KeptOut.ite
    | with_reducible apply Kept.ite | split | dsimp only
    | with_reducible refine Kept.put ?_ rfl rfl rfl rfl rfl rfl rfl rfl rfl rfl

theorem execAssign_kept {s0 : State} (port : Nat) (w : BitVec 64) (s : State) (h : Kept s0 s) :
    KeptOut s0 (execAssign port w s) := by
  unfold execAssign
  repeat' first
    | with_reducible assumption | intro _ | with_reducible apply forEach_kept
    | with_reducible apply State.takeWord_kept | with_reducible apply State.linkWord_kept
    | with_reducible apply State.logIt_kept | with_reducible apply State.flag_kept
    | with_reducible apply State.reroute_kept | with_reducible apply State.unflag_kept
    | with_reducible apply State.p_kept | with_reducible apply KeptOut.next | with_reducible apply KeptOut.ite
    | with_reducible apply Kept.ite | split | dsimp only
    | with_reducible refine Kept.put ?_ rfl rfl rfl rfl rfl rfl rfl rfl rfl rfl

theorem execVectorSend_kept {s0 : State} (s : State) (h : Kept s0 s) :
    KeptOut s0 (execVectorSend s) := by
  unfold execVectorSend
  repeat' first
    | with_reducible assumption | intro _ | with_reducible apply forEach_kept | with_reducible apply foldl_kept
    | with_reducible apply State.reroute_kept | with_reducible apply State.linkWord_kept
    | with_reducible apply KeptOut.next | with_reducible apply KeptOut.ite | with_reducible apply Kept.ite | split
    | dsimp only | with_reducible refine Kept.put ?_ rfl rfl rfl rfl rfl rfl rfl rfl rfl rfl

theorem execVector_kept {s0 : State} (port : Nat) (w : BitVec 64) (s : State) (h : Kept s0 s) :
    KeptOut s0 (execVector port w s) := by
  unfold execVector
  repeat' first
    | with_reducible assumption | intro _ | with_reducible apply foldl_kept | with_reducible apply State.takeWord_kept
    | with_reducible apply State.reroute_kept | with_reducible apply KeptOut.next | with_reducible apply KeptOut.ite
    | with_reducible apply Kept.ite | split | dsimp only
    | with_reducible refine Kept.put ?_ rfl rfl rfl rfl rfl rfl rfl rfl rfl rfl

theorem execMirrorLookup_kept {s0 : State} (w : BitVec 64) (s : State) (h : Kept s0 s) :
    KeptOut s0 (execMirrorLookup w s) := by
  unfold execMirrorLookup
  repeat' first
    | with_reducible assumption | intro _ | with_reducible apply State.heard_kept
    | with_reducible apply State.mirrored_kept | with_reducible apply KeptOut.next | with_reducible apply KeptOut.ite
    | with_reducible apply Kept.ite | split | dsimp only
    | with_reducible refine Kept.put ?_ rfl rfl rfl rfl rfl rfl rfl rfl rfl rfl

theorem execCometApply_kept {s0 : State} (w : BitVec 64) (s : State) (h : Kept s0 s) :
    KeptOut s0 (execCometApply w s) := by
  unfold execCometApply
  repeat' first
    | with_reducible assumption | intro _ | with_reducible apply State.heard_kept
    | with_reducible apply State.mirrored_kept | with_reducible apply KeptOut.next | with_reducible apply KeptOut.ite
    | with_reducible apply Kept.ite | split | dsimp only
    | with_reducible refine Kept.put ?_ rfl rfl rfl rfl rfl rfl rfl rfl rfl rfl

theorem execShotMark_kept {s0 : State} (w : BitVec 64) (d : BitVec 64) (s : State) (h : Kept s0 s) :
    KeptOut s0 (execShotMark w d s) := by
  unfold execShotMark
  repeat' first
    | with_reducible assumption | intro _ | with_reducible apply State.heard_kept
    | with_reducible apply State.shotMark_kept | with_reducible apply KeptOut.next | with_reducible apply KeptOut.ite
    | with_reducible apply Kept.ite | split | dsimp only
    | with_reducible refine Kept.put ?_ rfl rfl rfl rfl rfl rfl rfl rfl rfl rfl

theorem execHeartbeatSend_kept {s0 : State} (s : State) (h : Kept s0 s) :
    KeptOut s0 (execHeartbeatSend s) := by
  unfold execHeartbeatSend
  repeat' first
    | with_reducible assumption | intro _ | with_reducible apply State.mirrorAll_kept
    | with_reducible apply KeptOut.next | with_reducible apply KeptOut.ite | with_reducible apply Kept.ite | split
    | dsimp only | with_reducible refine Kept.put ?_ rfl rfl rfl rfl rfl rfl rfl rfl rfl rfl

theorem execHeartbeat_kept {s0 : State} (w : BitVec 64) (s : State) (h : Kept s0 s) :
    KeptOut s0 (execHeartbeat w s) := by
  unfold execHeartbeat
  repeat' first
    | with_reducible assumption | intro _ | with_reducible apply State.heard_kept
    | with_reducible apply State.beat_kept | with_reducible apply KeptOut.next | with_reducible apply KeptOut.ite
    | with_reducible apply Kept.ite | split | dsimp only
    | with_reducible refine Kept.put ?_ rfl rfl rfl rfl rfl rfl rfl rfl rfl rfl

theorem execHeartbeatTimeout_kept {s0 : State} (s : State) (h : Kept s0 s) :
    KeptOut s0 (execHeartbeatTimeout s) := by
  unfold execHeartbeatTimeout
  repeat' first
    | with_reducible assumption | intro _ | with_reducible apply State.unflag_kept
    | with_reducible apply State.twinSet_kept | with_reducible apply State.logIt_kept
    | with_reducible apply State.flag_kept | with_reducible apply State.partnerFailed_kept
    | with_reducible apply KeptOut.next | with_reducible apply KeptOut.ite | with_reducible apply Kept.ite | split
    | dsimp only | with_reducible refine Kept.put ?_ rfl rfl rfl rfl rfl rfl rfl rfl rfl rfl

theorem execFail_kept {s0 : State} (w : BitVec 64) (s : State) (h : Kept s0 s) :
    KeptOut s0 (execFail w s) := by
  unfold execFail
  repeat' first
    | with_reducible assumption | intro _ | with_reducible apply State.heard_kept
    | with_reducible apply State.partnerFailed_kept | with_reducible apply KeptOut.next
    | with_reducible apply KeptOut.ite | with_reducible apply Kept.ite | split | dsimp only
    | with_reducible refine Kept.put ?_ rfl rfl rfl rfl rfl rfl rfl rfl rfl rfl

theorem execTaken_kept {s0 : State} (w : BitVec 64) (s : State) (h : Kept s0 s) :
    KeptOut s0 (execTaken w s) := by
  unfold execTaken
  repeat' first
    | with_reducible assumption | intro _ | with_reducible apply State.heard_kept | with_reducible apply KeptOut.next
    | with_reducible apply KeptOut.ite | with_reducible apply Kept.ite | split | dsimp only
    | with_reducible refine Kept.put ?_ rfl rfl rfl rfl rfl rfl rfl rfl rfl rfl

theorem execHandover_kept {s0 : State} (w : BitVec 64) (s : State) (h : Kept s0 s) :
    KeptOut s0 (execHandover w s) := by
  unfold execHandover
  repeat' first
    | with_reducible assumption | intro _ | with_reducible apply State.heard_kept
    | with_reducible apply State.handDue_kept | with_reducible apply KeptOut.next | with_reducible apply KeptOut.ite
    | with_reducible apply Kept.ite | split | dsimp only
    | with_reducible refine Kept.put ?_ rfl rfl rfl rfl rfl rfl rfl rfl rfl rfl

theorem execState_kept {s0 : State} (w : BitVec 64) (s : State) (h : Kept s0 s) :
    KeptOut s0 (execState w s) := by
  unfold execState
  repeat' first
    | with_reducible assumption | intro _ | with_reducible apply State.heard_kept
    | with_reducible apply State.joinDone_kept | with_reducible apply KeptOut.next | with_reducible apply KeptOut.ite
    | with_reducible apply Kept.ite | split | dsimp only
    | with_reducible refine Kept.put ?_ rfl rfl rfl rfl rfl rfl rfl rfl rfl rfl

theorem execJoinImageWord_kept {s0 : State} (w : BitVec 64) (s : State) (h : Kept s0 s) :
    KeptOut s0 (execJoinImageWord w s) := by
  unfold execJoinImageWord
  repeat' first
    | with_reducible assumption | intro _ | with_reducible apply State.takeWord_kept
    | with_reducible apply State.joinDone_kept | with_reducible apply KeptOut.next | with_reducible apply KeptOut.ite
    | with_reducible apply Kept.ite | split | dsimp only
    | with_reducible refine Kept.put ?_ rfl rfl rfl rfl rfl rfl rfl rfl rfl rfl

theorem execTwinPartnerAbsent_kept {s0 : State} (s : State) (h : Kept s0 s) :
    KeptOut s0 (execTwinPartnerAbsent s) := by
  unfold execTwinPartnerAbsent
  repeat' first
    | with_reducible assumption | intro _ | with_reducible apply State.twinSet_kept
    | with_reducible apply KeptOut.next | with_reducible apply KeptOut.ite | with_reducible apply Kept.ite | split
    | dsimp only | with_reducible refine Kept.put ?_ rfl rfl rfl rfl rfl rfl rfl rfl rfl rfl

theorem execTakeoverBoundary_kept {s0 : State} (p : Nat) (s : State) (h : Kept s0 s) :
    KeptOut s0 (execTakeoverBoundary p s) := by
  unfold execTakeoverBoundary
  repeat' first
    | with_reducible assumption | intro _ | with_reducible apply State.takeBoundary_kept
    | with_reducible apply KeptOut.next | with_reducible apply KeptOut.ite | with_reducible apply Kept.ite | split
    | dsimp only | with_reducible refine Kept.put ?_ rfl rfl rfl rfl rfl rfl rfl rfl rfl rfl

theorem execLogFetch_kept {s0 : State} (p : Pkt) (s : State) (h : Kept s0 s) :
    KeptOut s0 (execLogFetch p s) := by
  unfold execLogFetch
  repeat' first
    | with_reducible assumption | intro _ | with_reducible apply State.command_kept
    | with_reducible apply cLogFetch_kept | with_reducible apply KeptOut.next | with_reducible apply KeptOut.ite
    | with_reducible apply Kept.ite | split | dsimp only
    | with_reducible refine Kept.put ?_ rfl rfl rfl rfl rfl rfl rfl rfl rfl rfl

theorem execLogNvFetch_kept {s0 : State} (p : Pkt) (s : State) (h : Kept s0 s) :
    KeptOut s0 (execLogNvFetch p s) := by
  unfold execLogNvFetch
  repeat' first
    | with_reducible assumption | intro _ | with_reducible apply State.command_kept
    | with_reducible apply cLogNvFetch_kept | with_reducible apply KeptOut.next | with_reducible apply KeptOut.ite
    | with_reducible apply Kept.ite | split | dsimp only
    | with_reducible refine Kept.put ?_ rfl rfl rfl rfl rfl rfl rfl rfl rfl rfl

theorem execLogClear_kept {s0 : State} (p : Pkt) (s : State) (h : Kept s0 s) :
    KeptOut s0 (execLogClear p s) := by
  unfold execLogClear
  repeat' first
    | with_reducible assumption | intro _ | with_reducible apply State.command_kept
    | with_reducible apply cLogClear_kept | with_reducible apply KeptOut.next | with_reducible apply KeptOut.ite
    | with_reducible apply Kept.ite | split | dsimp only
    | with_reducible refine Kept.put ?_ rfl rfl rfl rfl rfl rfl rfl rfl rfl rfl

theorem execFltSafe_kept {s0 : State} (p : Pkt) (s : State) (h : Kept s0 s) :
    KeptOut s0 (execFltSafe p s) := by
  unfold execFltSafe
  repeat' first
    | with_reducible assumption | intro _ | with_reducible apply State.command_kept
    | with_reducible apply cFltSafe_kept | with_reducible apply KeptOut.next | with_reducible apply KeptOut.ite
    | with_reducible apply Kept.ite | split | dsimp only
    | with_reducible refine Kept.put ?_ rfl rfl rfl rfl rfl rfl rfl rfl rfl rfl

theorem execLogEntryRead_kept {s0 : State} (fn : Nat) (i : Nat) (s : State) (h : Kept s0 s) :
    KeptOut s0 (execLogEntryRead fn i s) := by
  unfold execLogEntryRead
  repeat' first
    | with_reducible assumption | intro _ | with_reducible apply State.onRead_kept
    | with_reducible apply State.logRead_kept | with_reducible apply KeptOut.next | with_reducible apply KeptOut.ite
    | with_reducible apply Kept.ite | split | dsimp only
    | with_reducible refine Kept.put ?_ rfl rfl rfl rfl rfl rfl rfl rfl rfl rfl

theorem execSafeEntry_kept {s0 : State} (cause : Nat) (s : State) (h : Kept s0 s) :
    KeptOut s0 (execSafeEntry cause s) := by
  unfold execSafeEntry
  repeat' first
    | with_reducible assumption | intro _ | with_reducible apply State.refFall_kept
    | with_reducible apply State.convShut_kept | with_reducible apply State.raiseSafe_kept
    | with_reducible apply State.failInput_kept | with_reducible apply State.fresh_kept
    | with_reducible apply State.moduleFault_kept | with_reducible apply KeptOut.next
    | with_reducible apply KeptOut.ite | with_reducible apply Kept.ite | split | dsimp only
    | with_reducible refine Kept.put ?_ rfl rfl rfl rfl rfl rfl rfl rfl rfl rfl

theorem execNvRecordWrite_kept {s0 : State} (ok : Bool) (s : State) (h : Kept s0 s) :
    KeptOut s0 (execNvRecordWrite ok s) := by
  unfold execNvRecordWrite
  repeat' first
    | with_reducible assumption | intro _ | with_reducible apply State.flashWrite_kept
    | with_reducible apply KeptOut.next | with_reducible apply KeptOut.ite | with_reducible apply Kept.ite | split
    | dsimp only | with_reducible refine Kept.put ?_ rfl rfl rfl rfl rfl rfl rfl rfl rfl rfl

theorem execBstLogicRun_kept {s0 : State} (p : Pkt) (s : State) (h : Kept s0 s) :
    KeptOut s0 (execBstLogicRun p s) := by
  unfold execBstLogicRun
  repeat' first
    | with_reducible assumption | intro _ | with_reducible apply State.command_kept
    | with_reducible apply cBstLogicRun_kept | with_reducible apply KeptOut.next | with_reducible apply KeptOut.ite
    | with_reducible apply Kept.ite | split | dsimp only
    | with_reducible refine Kept.put ?_ rfl rfl rfl rfl rfl rfl rfl rfl rfl rfl

theorem execBstSliceTest_kept {s0 : State} (p : Pkt) (s : State) (h : Kept s0 s) :
    KeptOut s0 (execBstSliceTest p s) := by
  unfold execBstSliceTest
  repeat' first
    | with_reducible assumption | intro _ | with_reducible apply State.command_kept
    | with_reducible apply cBstSliceTest_kept | with_reducible apply KeptOut.next | with_reducible apply KeptOut.ite
    | with_reducible apply Kept.ite | split | dsimp only
    | with_reducible refine Kept.put ?_ rfl rfl rfl rfl rfl rfl rfl rfl rfl rfl

theorem execBstConfig_kept {s0 : State} (p : Pkt) (s : State) (h : Kept s0 s) :
    KeptOut s0 (execBstConfig p s) := by
  unfold execBstConfig
  repeat' first
    | with_reducible assumption | intro _ | with_reducible apply State.command_kept
    | with_reducible apply cBstConfig_kept | with_reducible apply KeptOut.next | with_reducible apply KeptOut.ite
    | with_reducible apply Kept.ite | split | dsimp only
    | with_reducible refine Kept.put ?_ rfl rfl rfl rfl rfl rfl rfl rfl rfl rfl

theorem execBstAnalogRun_kept {s0 : State} (p : Pkt) (s : State) (h : Kept s0 s) :
    KeptOut s0 (execBstAnalogRun p s) := by
  unfold execBstAnalogRun
  repeat' first
    | with_reducible assumption | intro _ | with_reducible apply State.command_kept
    | with_reducible apply cBstAnalogRun_kept | with_reducible apply KeptOut.next | with_reducible apply KeptOut.ite
    | with_reducible apply Kept.ite | split | dsimp only
    | with_reducible refine Kept.put ?_ rfl rfl rfl rfl rfl rfl rfl rfl rfl rfl

theorem execBstProofRead_kept {s0 : State} (p : Pkt) (s : State) (h : Kept s0 s) :
    KeptOut s0 (execBstProofRead p s) := by
  unfold execBstProofRead
  repeat' first
    | with_reducible assumption | intro _ | with_reducible apply State.command_kept
    | with_reducible apply cBstProofRead_kept | with_reducible apply KeptOut.next | with_reducible apply KeptOut.ite
    | with_reducible apply Kept.ite | split | dsimp only
    | with_reducible refine Kept.put ?_ rfl rfl rfl rfl rfl rfl rfl rfl rfl rfl

theorem execBstStop_kept {s0 : State} (p : Pkt) (s : State) (h : Kept s0 s) :
    KeptOut s0 (execBstStop p s) := by
  unfold execBstStop
  repeat' first
    | with_reducible assumption | intro _ | with_reducible apply State.command_kept
    | with_reducible apply cBstStop_kept | with_reducible apply KeptOut.next | with_reducible apply KeptOut.ite
    | with_reducible apply Kept.ite | split | dsimp only
    | with_reducible refine Kept.put ?_ rfl rfl rfl rfl rfl rfl rfl rfl rfl rfl

theorem execDomainTestEnd_kept {s0 : State} (d : Nat) (sig : BitVec 64) (s : State) (h : Kept s0 s) :
    KeptOut s0 (execDomainTestEnd d sig s) := by
  unfold execDomainTestEnd
  repeat' first
    | with_reducible assumption | intro _ | with_reducible apply State.domainEnd_kept
    | with_reducible apply KeptOut.next | with_reducible apply KeptOut.ite | with_reducible apply Kept.ite | split
    | dsimp only | with_reducible refine Kept.put ?_ rfl rfl rfl rfl rfl rfl rfl rfl rfl rfl

theorem execSliceTurn_kept {s0 : State} (g : Nat) (s : State) (h : Kept s0 s) :
    KeptOut s0 (execSliceTurn g s) := by
  unfold execSliceTurn
  repeat' first
    | with_reducible assumption | intro _ | with_reducible apply State.turnPass_kept
    | with_reducible apply State.turnWait_kept | with_reducible apply KeptOut.next | with_reducible apply KeptOut.ite
    | with_reducible apply Kept.ite | split | dsimp only
    | with_reducible refine Kept.put ?_ rfl rfl rfl rfl rfl rfl rfl rfl rfl rfl

theorem execSliceTestEnd_kept {s0 : State} (g : Nat) (sig : BitVec 64) (s : State) (h : Kept s0 s) :
    KeptOut s0 (execSliceTestEnd g sig s) := by
  unfold execSliceTestEnd
  repeat' first
    | with_reducible assumption | intro _ | with_reducible apply State.sliceDone_kept
    | with_reducible apply KeptOut.next | with_reducible apply KeptOut.ite | with_reducible apply Kept.ite | split
    | dsimp only | with_reducible refine Kept.put ?_ rfl rfl rfl rfl rfl rfl rfl rfl rfl rfl

theorem execSliceTestAbandon_kept {s0 : State} (g : Nat) (s : State) (h : Kept s0 s) :
    KeptOut s0 (execSliceTestAbandon g s) := by
  unfold execSliceTestAbandon
  repeat' first
    | with_reducible assumption | intro _ | with_reducible apply State.sliceGiveUp_kept
    | with_reducible apply KeptOut.next | with_reducible apply KeptOut.ite | with_reducible apply Kept.ite | split
    | dsimp only | with_reducible refine Kept.put ?_ rfl rfl rfl rfl rfl rfl rfl rfl rfl rfl

theorem execTurnWaitExpire_kept {s0 : State} (g : Nat) (s : State) (h : Kept s0 s) :
    KeptOut s0 (execTurnWaitExpire g s) := by
  unfold execTurnWaitExpire
  repeat' first
    | with_reducible assumption | intro _ | with_reducible apply State.turnSkip_kept
    | with_reducible apply KeptOut.next | with_reducible apply KeptOut.ite | with_reducible apply Kept.ite | split
    | dsimp only | with_reducible refine Kept.put ?_ rfl rfl rfl rfl rfl rfl rfl rfl rfl rfl

theorem execAnalogCheck_kept {s0 : State} (kind : Nat) (ch : Nat) (stuck : Bool) (s : State) (h : Kept s0 s) :
    KeptOut s0 (execAnalogCheck kind ch stuck s) := by
  unfold execAnalogCheck
  repeat' first
    | with_reducible assumption | intro _ | with_reducible apply State.checkJudge_kept
    | with_reducible apply KeptOut.next | with_reducible apply KeptOut.ite | with_reducible apply Kept.ite | split
    | dsimp only | with_reducible refine Kept.put ?_ rfl rfl rfl rfl rfl rfl rfl rfl rfl rfl

theorem execProofAnomaly_kept {s0 : State} (kind : Nat) (s : State) (h : Kept s0 s) :
    KeptOut s0 (execProofAnomaly kind s) := by
  unfold execProofAnomaly
  repeat' first
    | with_reducible assumption | intro _ | with_reducible apply State.fresh_kept | with_reducible apply KeptOut.next
    | with_reducible apply KeptOut.ite | with_reducible apply Kept.ite | split | dsimp only
    | with_reducible refine Kept.put ?_ rfl rfl rfl rfl rfl rfl rfl rfl rfl rfl

theorem execPwrBank_kept {s0 : State} (p : Pkt) (s : State) (h : Kept s0 s) :
    KeptOut s0 (execPwrBank p s) := by
  unfold execPwrBank
  repeat' first
    | with_reducible assumption | intro _ | with_reducible apply State.command_kept
    | with_reducible apply cPwrBank_kept | with_reducible apply KeptOut.next | with_reducible apply KeptOut.ite
    | with_reducible apply Kept.ite | split | dsimp only
    | with_reducible refine Kept.put ?_ rfl rfl rfl rfl rfl rfl rfl rfl rfl rfl

theorem execBankComplete_kept {s0 : State} (s : State) (h : Kept s0 s) :
    KeptOut s0 (execBankComplete s) := by
  unfold execBankComplete
  repeat' first
    | with_reducible assumption | intro _ | with_reducible apply State.bankWakes_kept
    | with_reducible apply State.bankDone_kept | with_reducible apply KeptOut.next | with_reducible apply KeptOut.ite
    | with_reducible apply Kept.ite | split | dsimp only
    | with_reducible refine Kept.put ?_ rfl rfl rfl rfl rfl rfl rfl rfl rfl rfl

theorem execPwrWake_kept {s0 : State} (p : Pkt) (s : State) (h : Kept s0 s) :
    KeptOut s0 (execPwrWake p s) := by
  unfold execPwrWake
  repeat' first
    | with_reducible assumption | intro _ | with_reducible apply State.command_kept
    | with_reducible apply cPwrWake_kept | with_reducible apply KeptOut.next | with_reducible apply KeptOut.ite
    | with_reducible apply Kept.ite | split | dsimp only
    | with_reducible refine Kept.put ?_ rfl rfl rfl rfl rfl rfl rfl rfl rfl rfl

theorem execWakeComplete_kept {s0 : State} (s : State) (h : Kept s0 s) :
    KeptOut s0 (execWakeComplete s) := by
  unfold execWakeComplete
  repeat' first
    | with_reducible assumption | intro _ | with_reducible apply State.exitSafe_kept
    | with_reducible apply State.wakeDone_kept | with_reducible apply KeptOut.next | with_reducible apply KeptOut.ite
    | with_reducible apply Kept.ite | split | dsimp only
    | with_reducible refine Kept.put ?_ rfl rfl rfl rfl rfl rfl rfl rfl rfl rfl

theorem execPwrSafeExit_kept {s0 : State} (p : Pkt) (s : State) (h : Kept s0 s) :
    KeptOut s0 (execPwrSafeExit p s) := by
  unfold execPwrSafeExit
  repeat' first
    | with_reducible assumption | intro _ | with_reducible apply State.command_kept
    | with_reducible apply cPwrSafeExit_kept | with_reducible apply KeptOut.next | with_reducible apply KeptOut.ite
    | with_reducible apply Kept.ite | split | dsimp only
    | with_reducible refine Kept.put ?_ rfl rfl rfl rfl rfl rfl rfl rfl rfl rfl

theorem execPwrShutdown_kept {s0 : State} (p : Pkt) (s : State) (h : Kept s0 s) :
    KeptOut s0 (execPwrShutdown p s) := by
  unfold execPwrShutdown
  repeat' first
    | with_reducible assumption | intro _ | with_reducible apply State.command_kept
    | with_reducible apply cPwrShutdown_kept | with_reducible apply KeptOut.next | with_reducible apply KeptOut.ite
    | with_reducible apply Kept.ite | split | dsimp only
    | with_reducible refine Kept.put ?_ rfl rfl rfl rfl rfl rfl rfl rfl rfl rfl

theorem execProofingPassEnd_kept {s0 : State} (bad : List Nat) (ranks : List Nat) (s : State) (h : Kept s0 s) :
    KeptOut s0 (execProofingPassEnd bad ranks s) := by
  unfold execProofingPassEnd
  repeat' first
    | with_reducible assumption | intro _ | with_reducible apply State.proofEnd_kept
    | with_reducible apply State.saveSettings_kept | with_reducible apply State.startAgain_kept
    | with_reducible apply KeptOut.next | with_reducible apply KeptOut.ite | with_reducible apply Kept.ite | split
    | dsimp only | with_reducible refine Kept.put ?_ rfl rfl rfl rfl rfl rfl rfl rfl rfl rfl

theorem execPwrSettingsSave_kept {s0 : State} (p : Pkt) (s : State) (h : Kept s0 s) :
    KeptOut s0 (execPwrSettingsSave p s) := by
  unfold execPwrSettingsSave
  repeat' first
    | with_reducible assumption | intro _ | with_reducible apply State.command_kept
    | with_reducible apply cPwrSettingsSave_kept | with_reducible apply KeptOut.next
    | with_reducible apply KeptOut.ite | with_reducible apply Kept.ite | split | dsimp only
    | with_reducible refine Kept.put ?_ rfl rfl rfl rfl rfl rfl rfl rfl rfl rfl

theorem execAutosave_kept {s0 : State} (s : State) (h : Kept s0 s) :
    KeptOut s0 (execAutosave s) := by
  unfold execAutosave
  repeat' first
    | with_reducible assumption | intro _ | with_reducible apply State.saveSettings_kept
    | with_reducible apply KeptOut.next | with_reducible apply KeptOut.ite | with_reducible apply Kept.ite | split
    | dsimp only | with_reducible refine Kept.put ?_ rfl rfl rfl rfl rfl rfl rfl rfl rfl rfl

theorem execPwrCapSet_kept {s0 : State} (p : Pkt) (s : State) (h : Kept s0 s) : KeptOut s0 (execPwrCapSet p s) :=
  State.command_kept _ _ _ h cPwrCapSet_kept

theorem execPwrShedRankSet_kept {s0 : State} (p : Pkt) (s : State) (h : Kept s0 s) : KeptOut s0 (execPwrShedRankSet p s) :=
  State.command_kept _ _ _ h cPwrRankSet_kept

theorem execPwrCfgSet_kept {s0 : State} (p : Pkt) (s : State) (h : Kept s0 s) : KeptOut s0 (execPwrCfgSet p s) :=
  State.command_kept _ _ _ h cPwrCfgSet_kept

theorem execThmSnapshotFetch_kept {s0 : State} (p : Pkt) (s : State) (h : Kept s0 s) :
    KeptOut s0 (execThmSnapshotFetch p s) := by
  unfold execThmSnapshotFetch
  repeat' first
    | with_reducible assumption | intro _ | with_reducible apply State.command_kept
    | with_reducible apply cThmSnapshotFetch_kept | with_reducible apply KeptOut.next
    | with_reducible apply KeptOut.ite | with_reducible apply Kept.ite | split | dsimp only
    | with_reducible refine Kept.put ?_ rfl rfl rfl rfl rfl rfl rfl rfl rfl rfl

theorem execEnvelopeUpdate_kept {s0 : State} (vin : Nat) (iin : Nat) (s : State) (h : Kept s0 s) :
    KeptOut s0 (execEnvelopeUpdate vin iin s) := by
  unfold execEnvelopeUpdate
  repeat' first
    | with_reducible assumption | intro _ | with_reducible apply State.fresh_kept
    | with_reducible apply State.inputTake_kept | with_reducible apply State.p_kept
    | with_reducible apply State.govern_kept | with_reducible apply KeptOut.next | with_reducible apply KeptOut.ite
    | with_reducible apply Kept.ite | split | dsimp only
    | with_reducible refine Kept.put ?_ rfl rfl rfl rfl rfl rfl rfl rfl rfl rfl

theorem execShedStep_kept {s0 : State} (s : State) (h : Kept s0 s) :
    KeptOut s0 (execShedStep s) := by
  unfold execShedStep
  repeat' first
    | with_reducible assumption | intro _ | with_reducible apply State.episodeCause_kept
    | with_reducible apply State.acqSweep_kept | with_reducible apply State.shedChan_kept
    | with_reducible apply State.failInput_kept | with_reducible apply KeptOut.next | with_reducible apply KeptOut.ite
    | with_reducible apply Kept.ite | split | dsimp only
    | with_reducible refine Kept.put ?_ rfl rfl rfl rfl rfl rfl rfl rfl rfl rfl

theorem execRestoreStep_kept {s0 : State} (s : State) (h : Kept s0 s) :
    KeptOut s0 (execRestoreStep s) := by
  unfold execRestoreStep
  repeat' first
    | with_reducible assumption | intro _ | with_reducible apply State.watchRestore_kept
    | with_reducible apply State.unshedChan_kept | with_reducible apply KeptOut.next
    | with_reducible apply KeptOut.ite | with_reducible apply Kept.ite | split | dsimp only
    | with_reducible refine Kept.put ?_ rfl rfl rfl rfl rfl rfl rfl rfl rfl rfl

theorem execInputFail_kept {s0 : State} (s : State) (h : Kept s0 s) :
    KeptOut s0 (execInputFail s) := by
  unfold execInputFail
  repeat' first
    | with_reducible assumption | intro _ | with_reducible apply State.failInput_kept
    | with_reducible apply KeptOut.next | with_reducible apply KeptOut.ite | with_reducible apply Kept.ite | split
    | dsimp only | with_reducible refine Kept.put ?_ rfl rfl rfl rfl rfl rfl rfl rfl rfl rfl

theorem execInputRecovered_kept {s0 : State} (s : State) (h : Kept s0 s) :
    KeptOut s0 (execInputRecovered s) := by
  unfold execInputRecovered
  repeat' first
    | with_reducible assumption | intro _ | with_reducible apply State.clearPending_kept
    | with_reducible apply KeptOut.next | with_reducible apply KeptOut.ite | with_reducible apply Kept.ite | split
    | dsimp only | with_reducible refine Kept.put ?_ rfl rfl rfl rfl rfl rfl rfl rfl rfl rfl

theorem execPowerOn_kept {s0 : State} (s : State) (h : Kept s0 s) :
    KeptOut s0 (execPowerOn s) := by
  unfold execPowerOn
  repeat' first
    | with_reducible assumption | intro _ | with_reducible apply State.startBegin_kept
    | with_reducible apply KeptOut.next | with_reducible apply KeptOut.ite | with_reducible apply Kept.ite | split
    | dsimp only | with_reducible refine Kept.put ?_ rfl rfl rfl rfl rfl rfl rfl rfl rfl rfl

theorem execStartupStepEnd_kept {s0 : State} (ok : Bool) (bad : List Nat) (s : State) (h : Kept s0 s) :
    KeptOut s0 (execStartupStepEnd ok bad s) := by
  unfold execStartupStepEnd
  repeat' first
    | with_reducible assumption | intro _ | with_reducible apply State.stepEffect_kept
    | with_reducible apply State.startStop_kept | with_reducible apply State.startEnd_kept
    | with_reducible apply State.stepBegin_kept | with_reducible apply KeptOut.next | with_reducible apply KeptOut.ite
    | with_reducible apply Kept.ite | split | dsimp only
    | with_reducible refine Kept.put ?_ rfl rfl rfl rfl rfl rfl rfl rfl rfl rfl

theorem execEnableInRelease_kept {s0 : State} (s : State) (h : Kept s0 s) :
    KeptOut s0 (execEnableInRelease s) := by
  unfold execEnableInRelease
  repeat' first
    | with_reducible assumption | intro _ | with_reducible apply State.startStop_kept
    | with_reducible apply State.disableStart_kept | with_reducible apply KeptOut.next
    | with_reducible apply KeptOut.ite | with_reducible apply Kept.ite | split | dsimp only
    | with_reducible refine Kept.put ?_ rfl rfl rfl rfl rfl rfl rfl rfl rfl rfl

theorem execResetNAssert_kept {s0 : State} (s : State) (h : Kept s0 s) :
    KeptOut s0 (execResetNAssert s) := by
  unfold execResetNAssert
  repeat' first
    | with_reducible assumption | intro _ | with_reducible apply State.settleMode_kept
    | with_reducible apply State.clearPending_kept | with_reducible apply State.warmReset_kept
    | with_reducible apply State.logicStop_kept | with_reducible apply KeptOut.next | with_reducible apply KeptOut.ite
    | with_reducible apply Kept.ite | split | dsimp only
    | with_reducible refine Kept.put ?_ rfl rfl rfl rfl rfl rfl rfl rfl rfl rfl

theorem execResetNRelease_kept {s0 : State} (s : State) (h : Kept s0 s) :
    KeptOut s0 (execResetNRelease s) := by
  unfold execResetNRelease
  repeat' first
    | with_reducible assumption | intro _ | with_reducible apply State.startAgain_kept
    | with_reducible apply KeptOut.next | with_reducible apply KeptOut.ite | with_reducible apply Kept.ite | split
    | dsimp only | with_reducible refine Kept.put ?_ rfl rfl rfl rfl rfl rfl rfl rfl rfl rfl

theorem execPresentBreak_kept {s0 : State} (s : State) (h : Kept s0 s) :
    KeptOut s0 (execPresentBreak s) := by
  unfold execPresentBreak
  repeat' first
    | with_reducible assumption | intro _ | with_reducible apply forEach_kept
    | with_reducible apply State.biasOff_kept | with_reducible apply State.muteStep_kept
    | with_reducible apply KeptOut.next | with_reducible apply KeptOut.ite | with_reducible apply Kept.ite | split
    | dsimp only | with_reducible refine Kept.put ?_ rfl rfl rfl rfl rfl rfl rfl rfl rfl rfl

theorem execThermalSample_kept {s0 : State} (temps : List Int) (s : State) (h : Kept s0 s) :
    KeptOut s0 (execThermalSample temps s) := by
  unfold execThermalSample
  repeat' first
    | with_reducible assumption | intro _ | with_reducible apply forEach_kept
    | with_reducible apply State.sensorsTake_kept | with_reducible apply State.classEval_kept
    | with_reducible apply State.thmShow_kept | with_reducible apply State.clearPending_kept
    | with_reducible apply KeptOut.next | with_reducible apply KeptOut.ite | with_reducible apply Kept.ite | split
    | dsimp only | with_reducible refine Kept.put ?_ rfl rfl rfl rfl rfl rfl rfl rfl rfl rfl

theorem execThmCapStep_kept {s0 : State} (s : State) (h : Kept s0 s) :
    KeptOut s0 (execThmCapStep s) := by
  unfold execThmCapStep
  repeat' first
    | with_reducible assumption | intro _ | with_reducible apply State.govern_kept | with_reducible apply State.p_kept
    | with_reducible apply KeptOut.next | with_reducible apply KeptOut.ite | with_reducible apply Kept.ite | split
    | dsimp only | with_reducible refine Kept.put ?_ rfl rfl rfl rfl rfl rfl rfl rfl rfl rfl

theorem execSecFwUpdate_kept {s0 : State} (p : Pkt) (s : State) (h : Kept s0 s) :
    KeptOut s0 (execSecFwUpdate p s) := by
  unfold execSecFwUpdate
  repeat' first
    | with_reducible assumption | intro _ | with_reducible apply State.command_kept
    | with_reducible apply cSecFwUpdate_kept | with_reducible apply KeptOut.next | with_reducible apply KeptOut.ite
    | with_reducible apply Kept.ite | split | dsimp only
    | with_reducible refine Kept.put ?_ rfl rfl rfl rfl rfl rfl rfl rfl rfl rfl

theorem execSecCalLoad_kept {s0 : State} (p : Pkt) (s : State) (h : Kept s0 s) :
    KeptOut s0 (execSecCalLoad p s) := by
  unfold execSecCalLoad
  repeat' first
    | with_reducible assumption | intro _ | with_reducible apply State.command_kept
    | with_reducible apply cSecCalLoad_kept | with_reducible apply KeptOut.next | with_reducible apply KeptOut.ite
    | with_reducible apply Kept.ite | split | dsimp only
    | with_reducible refine Kept.put ?_ rfl rfl rfl rfl rfl rfl rfl rfl rfl rfl

theorem execSecAttest_kept {s0 : State} (p : Pkt) (s : State) (h : Kept s0 s) :
    KeptOut s0 (execSecAttest p s) := by
  unfold execSecAttest
  repeat' first
    | with_reducible assumption | intro _ | with_reducible apply State.command_kept
    | with_reducible apply cSecAttest_kept | with_reducible apply KeptOut.next | with_reducible apply KeptOut.ite
    | with_reducible apply Kept.ite | split | dsimp only
    | with_reducible refine Kept.put ?_ rfl rfl rfl rfl rfl rfl rfl rfl rfl rfl

theorem execSecCertFetch_kept {s0 : State} (p : Pkt) (s : State) (h : Kept s0 s) :
    KeptOut s0 (execSecCertFetch p s) := by
  unfold execSecCertFetch
  repeat' first
    | with_reducible assumption | intro _ | with_reducible apply State.command_kept
    | with_reducible apply cSecCertFetch_kept | with_reducible apply KeptOut.next | with_reducible apply KeptOut.ite
    | with_reducible apply Kept.ite | split | dsimp only
    | with_reducible refine Kept.put ?_ rfl rfl rfl rfl rfl rfl rfl rfl rfl rfl

theorem execSecFuseProgram_kept {s0 : State} (p : Pkt) (s : State) (h : Kept s0 s) :
    KeptOut s0 (execSecFuseProgram p s) := by
  unfold execSecFuseProgram
  repeat' first
    | with_reducible assumption | intro _ | with_reducible apply State.command_kept
    | with_reducible apply cSecFuseProgram_kept | with_reducible apply KeptOut.next | with_reducible apply KeptOut.ite
    | with_reducible apply Kept.ite | split | dsimp only
    | with_reducible refine Kept.put ?_ rfl rfl rfl rfl rfl rfl rfl rfl rfl rfl

theorem execSecLcAdvance_kept {s0 : State} (p : Pkt) (s : State) (h : Kept s0 s) :
    KeptOut s0 (execSecLcAdvance p s) := by
  unfold execSecLcAdvance
  repeat' first
    | with_reducible assumption | intro _ | with_reducible apply State.command_kept
    | with_reducible apply cSecLcAdvance_kept | with_reducible apply KeptOut.next | with_reducible apply KeptOut.ite
    | with_reducible apply Kept.ite | split | dsimp only
    | with_reducible refine Kept.put ?_ rfl rfl rfl rfl rfl rfl rfl rfl rfl rfl

theorem execSecSvnCommit_kept {s0 : State} (p : Pkt) (s : State) (h : Kept s0 s) :
    KeptOut s0 (execSecSvnCommit p s) := by
  unfold execSecSvnCommit
  repeat' first
    | with_reducible assumption | intro _ | with_reducible apply State.command_kept
    | with_reducible apply cSecSvnCommit_kept | with_reducible apply KeptOut.next | with_reducible apply KeptOut.ite
    | with_reducible apply Kept.ite | split | dsimp only
    | with_reducible refine Kept.put ?_ rfl rfl rfl rfl rfl rfl rfl rfl rfl rfl

theorem execIdentityDerived_kept {s0 : State} (s : State) (h : Kept s0 s) :
    KeptOut s0 (execIdentityDerived s) := by
  unfold execIdentityDerived
  repeat' first
    | with_reducible assumption | intro _ | with_reducible apply State.attestAll_kept
    | with_reducible apply State.secEvent_kept | with_reducible apply KeptOut.next | with_reducible apply KeptOut.ite
    | with_reducible apply Kept.ite | split | dsimp only
    | with_reducible refine Kept.put ?_ rfl rfl rfl rfl rfl rfl rfl rfl rfl rfl

theorem execSmbusRead_kept {s0 : State} (addr : Nat) (s : State) (h : Kept s0 s) :
    KeptOut s0 (execSmbusRead addr s) := by
  unfold execSmbusRead
  repeat' first
    | with_reducible assumption | intro _ | with_reducible apply KeptOut.next | with_reducible apply KeptOut.ite
    | with_reducible apply Kept.ite | split | dsimp only
    | with_reducible refine Kept.put ?_ rfl rfl rfl rfl rfl rfl rfl rfl rfl rfl

theorem execStatusDatagram_kept {s0 : State} (s : State) (h : Kept s0 s) :
    KeptOut s0 (execStatusDatagram s) := by
  unfold execStatusDatagram
  repeat' first
    | with_reducible assumption | intro _ | with_reducible apply KeptOut.next | with_reducible apply KeptOut.ite
    | with_reducible apply Kept.ite | split | dsimp only
    | with_reducible refine Kept.put ?_ rfl rfl rfl rfl rfl rfl rfl rfl rfl rfl

theorem execChassisIdRead_kept {s0 : State} (code : Nat) (s : State) (h : Kept s0 s) :
    KeptOut s0 (execChassisIdRead code s) := by
  unfold execChassisIdRead
  repeat' first
    | with_reducible assumption | intro _ | with_reducible apply KeptOut.next | with_reducible apply KeptOut.ite
    | with_reducible apply Kept.ite | split | dsimp only
    | with_reducible refine Kept.put ?_ rfl rfl rfl rfl rfl rfl rfl rfl rfl rfl

theorem execMuteRelease_kept {s0 : State} (p : Nat) (s : State) (h : Kept s0 s) :
    KeptOut s0 (execMuteRelease p s) := by
  unfold execMuteRelease
  repeat' first
    | with_reducible assumption | intro _ | with_reducible apply forEach_kept | with_reducible apply State.setPrt_kept
    | with_reducible apply State.muteStep_kept | with_reducible apply KeptOut.next | with_reducible apply KeptOut.ite
    | with_reducible apply Kept.ite | split | dsimp only
    | with_reducible refine Kept.put ?_ rfl rfl rfl rfl rfl rfl rfl rfl rfl rfl

theorem execPlayEnd_kept {s0 : State} (lane : Nat) (s : State) (h : Kept s0 s) :
    KeptOut s0 (execPlayEnd lane s) := by
  unfold execPlayEnd
  repeat' first
    | with_reducible assumption | intro _ | with_reducible apply State.setPlays_kept
    | with_reducible apply KeptOut.next | with_reducible apply KeptOut.ite | with_reducible apply Kept.ite | split
    | dsimp only | with_reducible refine Kept.put ?_ rfl rfl rfl rfl rfl rfl rfl rfl rfl rfl

theorem execExtFault_kept {s0 : State} (q : Nat) (fault : Bool) (s : State) (h : Kept s0 s) :
    KeptOut s0 (execExtFault q fault s) := by
  unfold execExtFault
  repeat' first
    | with_reducible assumption | intro _ | with_reducible apply State.p_kept | with_reducible apply KeptOut.next
    | with_reducible apply KeptOut.ite | with_reducible apply Kept.ite | split | dsimp only
    | with_reducible refine Kept.put ?_ rfl rfl rfl rfl rfl rfl rfl rfl rfl rfl

theorem execPpsOut_kept {s0 : State} (s : State) (h : Kept s0 s) :
    KeptOut s0 (execPpsOut s) := by
  unfold execPpsOut
  repeat' first
    | with_reducible assumption | intro _ | with_reducible apply KeptOut.next | with_reducible apply KeptOut.ite
    | with_reducible apply Kept.ite | split | dsimp only
    | with_reducible refine Kept.put ?_ rfl rfl rfl rfl rfl rfl rfl rfl rfl rfl

theorem execHitForgotten_kept {s0 : State} (i : Nat) (s : State) (h : Kept s0 s) :
    KeptOut s0 (execHitForgotten i s) := by
  unfold execHitForgotten
  repeat' first
    | with_reducible assumption | intro _ | with_reducible apply State.locPut_kept
    | with_reducible apply State.locClear_kept | with_reducible apply KeptOut.next | with_reducible apply KeptOut.ite
    | with_reducible apply Kept.ite | split | dsimp only
    | with_reducible refine Kept.put ?_ rfl rfl rfl rfl rfl rfl rfl rfl rfl rfl

theorem execFunctionD0_kept {s0 : State} (fn : Nat) (s : State) (h : Kept s0 s) :
    KeptOut s0 (execFunctionD0 fn s) := by
  unfold execFunctionD0
  repeat' first
    | with_reducible assumption | intro _ | with_reducible apply State.msixResume_kept
    | with_reducible apply KeptOut.next | with_reducible apply KeptOut.ite | with_reducible apply Kept.ite | split
    | dsimp only | with_reducible refine Kept.put ?_ rfl rfl rfl rfl rfl rfl rfl rfl rfl rfl

theorem execConventionalReset_kept {s0 : State} (s : State) (h : Kept s0 s) :
    KeptOut s0 (execConventionalReset s) := by
  unfold execConventionalReset
  repeat' first
    | with_reducible assumption | intro _ | with_reducible apply State.linkReset_kept
    | with_reducible apply KeptOut.next | with_reducible apply KeptOut.ite | with_reducible apply Kept.ite | split
    | dsimp only | with_reducible refine Kept.put ?_ rfl rfl rfl rfl rfl rfl rfl rfl rfl rfl

theorem execBoundaryScan_kept {s0 : State} (instr : Nat) (s : State) (h : Kept s0 s) :
    KeptOut s0 (execBoundaryScan instr s) := by
  unfold execBoundaryScan
  repeat' first
    | with_reducible assumption | intro _ | with_reducible apply KeptOut.next | with_reducible apply KeptOut.ite
    | with_reducible apply Kept.ite | split | dsimp only
    | with_reducible refine Kept.put ?_ rfl rfl rfl rfl rfl rfl rfl rfl rfl rfl

theorem execDeniedRead_kept {s0 : State} (fn : Nat) (a : Nat) (s : State) (h : Kept s0 s) :
    KeptOut s0 (execDeniedRead fn a s) := by
  unfold execDeniedRead
  repeat' first
    | with_reducible assumption | intro _ | with_reducible apply State.readAt_kept
    | with_reducible apply State.answer_kept | with_reducible apply State.deny_kept
    | with_reducible apply KeptOut.next | with_reducible apply KeptOut.ite | with_reducible apply Kept.ite | split
    | dsimp only | with_reducible refine Kept.put ?_ rfl rfl rfl rfl rfl rfl rfl rfl rfl rfl

end Sys2Proof.Machine
end

