-- ==== Sys2Proof/Laws/Step.lean ====
section
/-!
SUPPORT. Laws/Step.lean: what a tick keeps, and what every command but a loss of input power keeps.
-/

namespace Sys2Proof.Machine
open Sys2Proof

/-- A state as it is 1 ns later. -/
def State.later1 (s : State) : State := { s with tim.texp := s.tim.texp + 16 }

/-- The counts of a tick: what `s` keeps, 1 ns later. -/
theorem advance_kept {s0 s : State} (h : Kept s0 s) : Kept s0.later1 s.advance := by
  have h1 : Kept s0.later1 s.later1 :=
    ⟨h.canon, h.blown, h.bounded, congrArg (· + 16) h.texp, h.queue, h.offs⟩
  unfold State.advance
  dsimp only
  split
  · exact State.ppsDrop_kept _ (State.wallAdvance_kept _ _ (Kept.put h1 rfl rfl rfl rfl rfl rfl rfl rfl rfl rfl))
  · exact h1

theorem uartStep_kept {s0 s : State} (h : Kept s0 s) : Kept s0 s.uartStep := by
  unfold State.uartStep
  refine Kept.ite h ?_
  dsimp only
  split <;> exact Kept.put h rfl rfl rfl rfl rfl rfl rfl rfl rfl rfl

/-- A tick with input power: the module count moves on by 16 (R47), and what `Kept` says. -/
theorem tick_kept {s : State} (h : s.pwr.input = true) : Kept s.later1 s.tick := by
  unfold State.tick
  simp only [h, not_true_eq_false, if_false]
  have h0 := State.acqSettle_kept _ (Kept.refl s)
  refine Kept.ite (uartStep_kept (advance_kept h0)) ?_
  have h1 := State.convTick_kept _ h0
  refine uartStep_kept (State.waitTick_kept _ (State.convLater_kept _ (State.convNext_kept _
    (Kept.ite (advance_kept h1) (Kept.ite (advance_kept h1) ?_)))))
  have h2 := advance_kept (State.cellsTickEnd_kept _ h1)
  exact State.cellsTickStart_kept _ (Kept.ite (State.cellsAoEdge_kept _ h2) h2)

/-- Without input power a tick changes nothing. -/
theorem tick_dead {s : State} (h : s.pwr.input = false) : s.tick = s := by simp [State.tick, h]

/-- What every command keeps: all that `Kept` says, but for a loss of input power (`State.coldReset_keeps`). -/
theorem exec_kept (i : Instr) (s : State) (hi : i ≠ .powerLoss) : KeptOut s (exec i s) :=
  match i with
  | .nop o => execNop_kept o s (Kept.refl s)
  | .hrtIdentify p => execHrtIdentify_kept p s (Kept.refl s)
  | .hrtPatchLoad p => execHrtPatchLoad_kept p s (Kept.refl s)
  | .hrtPatchClear p => execHrtPatchClear_kept p s (Kept.refl s)
  | .intSrcSet p => execIntSrcSet_kept p s (Kept.refl s)
  | .intTargetSet p => execIntTargetSet_kept p s (Kept.refl s)
  | .intSwi p => execIntSwi_kept p s (Kept.refl s)
  | .intSwiRegisterWrite fn sw => execIntSwiRegisterWrite_kept fn sw s (Kept.refl s)
  | .intClaimRead fn t => execIntClaimRead_kept fn t s (Kept.refl s)
  | .intCompleteWrite fn t id => execIntCompleteWrite_kept fn t id s (Kept.refl s)
  | .intDelivery t => execIntDelivery_kept t s (Kept.refl s)
  | .moderationWindowEnd t => execModerationWindowEnd_kept t s (Kept.refl s)
  | .faultTrap kind upc => execFaultTrap_kept kind upc s (Kept.refl s)
  | .interruptTrap => execInterruptTrap_kept s (Kept.refl s)
  | .tickTrap => execTickTrap_kept s (Kept.refl s)
  | .trapReturn => execTrapReturn_kept s (Kept.refl s)
  | .routineYield upc => execRoutineYield_kept upc s (Kept.refl s)
  | .groupRelease ctx grp => execGroupRelease_kept ctx grp s (Kept.refl s)
  | .evrChanSet p => execEvrChanSet_kept p s (Kept.refl s)
  | .evrCellStage p => execEvrCellStage_kept p s (Kept.refl s)
  | .evrPubStage p => execEvrPubStage_kept p s (Kept.refl s)
  | .evrCommit p => execEvrCommit_kept p s (Kept.refl s)
  | .evrCtrlCommit fn => execEvrCtrlCommit_kept fn s (Kept.refl s)
  | .evrDiscard p => execEvrDiscard_kept p s (Kept.refl s)
  | .evrCtrlDiscard fn => execEvrCtrlDiscard_kept fn s (Kept.refl s)
  | .evrPublish p => execEvrPublish_kept p s (Kept.refl s)
  | .evrSwPub fn ch => execEvrSwPub_kept fn ch s (Kept.refl s)
  | .eventPublication o => execEventPublication_kept o s (Kept.refl s)
  | .chanRateTripClear fn ch => execChanRateTripClear_kept fn ch s (Kept.refl s)
  | .cellFilterSettled c => execCellFilterSettled_kept c s (Kept.refl s)
  | .wakeEvent ch => execWakeEvent_kept ch s (Kept.refl s)
  | .timeAnchor p => execTimeAnchor_kept p s (Kept.refl s)
  | .tdCtrlAnchor fn d => execTdCtrlAnchor_kept fn d s (Kept.refl s)
  | .timePropagate p => execTimePropagate_kept p s (Kept.refl s)
  | .tdCtrlPropagate fn d => execTdCtrlPropagate_kept fn d s (Kept.refl s)
  | .timeRelease p => execTimeRelease_kept p s (Kept.refl s)
  | .tdCtrlRelease fn d => execTdCtrlRelease_kept fn d s (Kept.refl s)
  | .anchorLoad d => execAnchorLoad_kept d s
  | .anchorFrameReceive frame => execAnchorFrameReceive_kept frame s
  | .anchorFrameForward => execAnchorFrameForward_kept s (Kept.refl s)
  | .timeAlign p => execTimeAlign_kept p s (Kept.refl s)
  | .alignmentVerify ok => execAlignmentVerify_kept ok s (Kept.refl s)
  | .timeWallRelock p => execTimeWallRelock_kept p s (Kept.refl s)
  | .refLost => execRefLost_kept s (Kept.refl s)
  | .refRestored => execRefRestored_kept s (Kept.refl s)
  | .ptpSync m => execPtpSync_kept m s (Kept.refl s)
  | .wallHoldover => execWallHoldover_kept s (Kept.refl s)
  | .ttuFire n => execTtuFire_kept n s (Kept.refl s)
  | .tcuCapture n t frac => execTcuCapture_kept n t frac s (Kept.refl s)
  | .tcuTimeHiRead fn n => execTcuTimeHiRead_kept fn n s (Kept.refl s)
  | .reg64LowRead fn a => execReg64LowRead_kept fn a s (Kept.refl s)
  | .reg64HighWrite fn a v => execReg64HighWrite_kept fn a v s (Kept.refl s)
  | .registerWrite fn a v => execRegisterWrite_kept fn a v s (Kept.refl s)
  | .drvConfig p => execDrvConfig_kept p s (Kept.refl s)
  | .drvFrameSet p => execDrvFrameSet_kept p s (Kept.refl s)
  | .envLoad p => execEnvLoad_kept p s (Kept.refl s)
  | .envDescSet p => execEnvDescSet_kept p s (Kept.refl s)
  | .drvEnvDataAccess fn q wr => execDrvEnvDataAccess_kept fn q wr s (Kept.refl s)
  | .drvHeatSet p => execDrvHeatSet_kept p s (Kept.refl s)
  | .drvTripClear p => execDrvTripClear_kept p s (Kept.refl s)
  | .heatTripWrite fn ch => execHeatTripWrite_kept fn ch s (Kept.refl s)
  | .heatTrip ch => execHeatTrip_kept ch s (Kept.refl s)
  | .drvSpareSwap p => execDrvSpareSwap_kept p s (Kept.refl s)
  | .drvSpareRelease p => execDrvSpareRelease_kept p s (Kept.refl s)
  | .spareCtrlSwap fn g target => execSpareCtrlSwap_kept fn g target s (Kept.refl s)
  | .spareCtrlRelease fn g => execSpareCtrlRelease_kept fn g s (Kept.refl s)
  | .spareCopyComplete g => execSpareCopyComplete_kept g s (Kept.refl s)
  | .datapathFailure ch => execDatapathFailure_kept ch s (Kept.refl s)
  | .spareFailure g => execSpareFailure_kept g s (Kept.refl s)
  | .extMuteInput asserted => execExtMuteInput_kept asserted s (Kept.refl s)
  | .flxConfig p => execFlxConfig_kept p s (Kept.refl s)
  | .flxGainSet p => execFlxGainSet_kept p s (Kept.refl s)
  | .flxPdLoad p => execFlxPdLoad_kept p s (Kept.refl s)
  | .flxPdCommit fn ch => execFlxPdCommit_kept fn ch s (Kept.refl s)
  | .flxSpareSwap p => execFlxSpareSwap_kept p s (Kept.refl s)
  | .flxSpareRelease p => execFlxSpareRelease_kept p s (Kept.refl s)
  | .flxRampEnd ch => execFlxRampEnd_kept ch s (Kept.refl s)
  | .seqConfig p => execSeqConfig_kept p s (Kept.refl s)
  | .seqImageLoad p => execSeqImageLoad_kept p s (Kept.refl s)
  | .seqJump p => execSeqJump_kept p s (Kept.refl s)
  | .seqJumpReq fn q vec => execSeqJumpReq_kept fn q vec s (Kept.refl s)
  | .seqVectorSet p => execSeqVectorSet_kept p s (Kept.refl s)
  | .seqMarkerMap p => execSeqMarkerMap_kept p s (Kept.refl s)
  | .partArm p => execPartArm_kept p s (Kept.refl s)
  | .partCtrlArm fn p => execPartCtrlArm_kept fn p s (Kept.refl s)
  | .partStop p => execPartStop_kept p s (Kept.refl s)
  | .partCtrlStop fn p => execPartCtrlStop_kept fn p s (Kept.refl s)
  | .partAbort p => execPartAbort_kept p s (Kept.refl s)
  | .partCtrlAbort fn p => execPartCtrlAbort_kept fn p s (Kept.refl s)
  | .armingComplete p => execArmingComplete_kept p s (Kept.refl s)
  | .runStartCut p => execRunStartCut_kept p s (Kept.refl s)
  | .startTime p => execStartTime_kept p s (Kept.refl s)
  | .refillComplete q half => execRefillComplete_kept q half s (Kept.refl s)
  | .barrierNotice p => execBarrierNotice_kept p s (Kept.refl s)
  | .barrierRelease p => execBarrierRelease_kept p s (Kept.refl s)
  | .barrierTimeout p => execBarrierTimeout_kept p s (Kept.refl s)
  | .regionAbortReceive q => execRegionAbortReceive_kept q s (Kept.refl s)
  | .jumpTaken q => execJumpTaken_kept q s (Kept.refl s)
  | .markerPulseEnd q b => execMarkerPulseEnd_kept q b s (Kept.refl s)
  | .timelineEffect q => execTimelineEffect_kept q s (Kept.refl s)
  | .wait q => execWait_kept q s (Kept.refl s)
  | .segment q => execSegment_kept q s (Kept.refl s)
  | .shotStart q => execShotStart_kept q s (Kept.refl s)
  | .shotEnd q => execShotEnd_kept q s (Kept.refl s)
  | .sync q => execSync_kept q s (Kept.refl s)
  | .regionBegin q => execRegionBegin_kept q s (Kept.refl s)
  | .regionEnd q => execRegionEnd_kept q s (Kept.refl s)
  | .testwin q => execTestwin_kept q s (Kept.refl s)
  | .prefetch q => execPrefetch_kept q s (Kept.refl s)
  | .endRun q => execEndRun_kept q s (Kept.refl s)
  | .jump q => execJump_kept q s (Kept.refl s)
  | .call q => execCall_kept q s (Kept.refl s)
  | .ret q => execRet_kept q s (Kept.refl s)
  | .loop q => execLoop_kept q s (Kept.refl s)
  | .endloop q => execEndloop_kept q s (Kept.refl s)
  | .repeatN q => execRepeatN_kept q s (Kept.refl s)
  | .branchFlag q => execBranchFlag_kept q s (Kept.refl s)
  | .branchCond q => execBranchCond_kept q s (Kept.refl s)
  | .waitCond q => execWaitCond_kept q s (Kept.refl s)
  | .waitCondResolve q => execWaitCondResolve_kept q s (Kept.refl s)
  | .waitCondTimeout q => execWaitCondTimeout_kept q s (Kept.refl s)
  | .clrc q => execClrc_kept q s (Kept.refl s)
  | .getc q => execGetc_kept q s (Kept.refl s)
  | .play q => execPlay_kept q s (Kept.refl s)
  | .acquire q => execAcquire_kept q s (Kept.refl s)
  | .freq q => execFreq_kept q s (Kept.refl s)
  | .phaseAdd q => execPhaseAdd_kept q s (Kept.refl s)
  | .phaseSet q => execPhaseSet_kept q s (Kept.refl s)
  | .phaseAddV q => execPhaseAddV_kept q s (Kept.refl s)
  | .frameReset q => execFrameReset_kept q s (Kept.refl s)
  | .level q => execLevel_kept q s (Kept.refl s)
  | .ldi q => execLdi_kept q s (Kept.refl s)
  | .addv q => execAddv_kept q s (Kept.refl s)
  | .subv q => execSubv_kept q s (Kept.refl s)
  | .addi q => execAddi_kept q s (Kept.refl s)
  | .cmp q => execCmp_kept q s (Kept.refl s)
  | .mul q => execMul_kept q s (Kept.refl s)
  | .mac q => execMac_kept q s (Kept.refl s)
  | .msu q => execMsu_kept q s (Kept.refl s)
  | .accv q => execAccv_kept q s (Kept.refl s)
  | .rnd q => execRnd_kept q s (Kept.refl s)
  | .expo q => execExpo_kept q s (Kept.refl s)
  | .norm q => execNorm_kept q s (Kept.refl s)
  | .clrf q => execClrf_kept q s (Kept.refl s)
  | .rdoProbeConfig p => execRdoProbeConfig_kept p s (Kept.refl s)
  | .rdoAdcConfig p => execRdoAdcConfig_kept p s (Kept.refl s)
  | .toneSet p => execToneSet_kept p s (Kept.refl s)
  | .kernelLoad p => execKernelLoad_kept p s (Kept.refl s)
  | .rdoKernQAccess fn q wr => execRdoKernQAccess_kept fn q wr s (Kept.refl s)
  | .rdoHeatSet p => execRdoHeatSet_kept p s (Kept.refl s)
  | .rdoTripClear p => execRdoTripClear_kept p s (Kept.refl s)
  | .rdoSpareSwap p => execRdoSpareSwap_kept p s (Kept.refl s)
  | .rdoSpareRelease p => execRdoSpareRelease_kept p s (Kept.refl s)
  | .recRingSet p => execRecRingSet_kept p s (Kept.refl s)
  | .recConsWrite fn p v => execRecConsWrite_kept fn p v s (Kept.refl s)
  | .windowEnd t adc => execWindowEnd_kept t adc s (Kept.refl s)
  | .earlyDecision t adc => execEarlyDecision_kept t adc s (Kept.refl s)
  | .depletionStart t => execDepletionStart_kept t s (Kept.refl s)
  | .outcomeArrival t => execOutcomeArrival_kept t s (Kept.refl s)
  | .recordAssembled p => execRecordAssembled_kept p s (Kept.refl s)
  | .recordWrite p => execRecordWrite_kept p s (Kept.refl s)
  | .decRouteSet p => execDecRouteSet_kept p s (Kept.refl s)
  | .decGatherSet p => execDecGatherSet_kept p s (Kept.refl s)
  | .decTableLoad p => execDecTableLoad_kept p s (Kept.refl s)
  | .decTableClear p => execDecTableClear_kept p s (Kept.refl s)
  | .decEntryWrite fn key v => execDecEntryWrite_kept fn key v s (Kept.refl s)
  | .decCometSet p => execDecCometSet_kept p s (Kept.refl s)
  | .decDecoderSet p => execDecDecoderSet_kept p s (Kept.refl s)
  | .gatherComplete g => execGatherComplete_kept g s (Kept.refl s)
  | .gatherTimeout g => execGatherTimeout_kept g s (Kept.refl s)
  | .chainLookup => execChainLookup_kept s (Kept.refl s)
  | .cometReceive w => execCometReceive_kept w s (Kept.refl s)
  | .cometAckSend p node => execCometAckSend_kept p node s (Kept.refl s)
  | .cometAckReceive p node a => execCometAckReceive_kept p node a s (Kept.refl s)
  | .cometAckTimeout p node => execCometAckTimeout_kept p node s (Kept.refl s)
  | .decoderUpdate src w => execDecoderUpdate_kept src w s (Kept.refl s)
  | .frameBarrierPass g => execFrameBarrierPass_kept g s (Kept.refl s)
  | .acqConfig p => execAcqConfig_kept p s (Kept.refl s)
  | .acqArm p => execAcqArm_kept p s (Kept.refl s)
  | .acqCuArm fn u => execAcqCuArm_kept fn u s (Kept.refl s)
  | .acqStop p => execAcqStop_kept p s (Kept.refl s)
  | .acqCuStop fn u => execAcqCuStop_kept fn u s (Kept.refl s)
  | .acqTrigger p => execAcqTrigger_kept p s (Kept.refl s)
  | .acqCuSwTrig fn u => execAcqCuSwTrig_kept fn u s (Kept.refl s)
  | .acqFetch p => execAcqFetch_kept p s (Kept.refl s)
  | .acqMaskLoad p => execAcqMaskLoad_kept p s (Kept.refl s)
  | .acqMaskHiAccess fn q wr => execAcqMaskHiAccess_kept fn q wr s (Kept.refl s)
  | .acqGroupSet p => execAcqGroupSet_kept p s (Kept.refl s)
  | .acqKConfig p => execAcqKConfig_kept p s (Kept.refl s)
  | .strRingSet p => execStrRingSet_kept p s (Kept.refl s)
  | .strConsWrite fn u v => execStrConsWrite_kept fn u v s (Kept.refl s)
  | .triggerArrival u adc ts => execTriggerArrival_kept u adc ts s (Kept.refl s)
  | .captureComplete u adc => execCaptureComplete_kept u adc s (Kept.refl s)
  | .rearmEnd u adc => execRearmEnd_kept u adc s (Kept.refl s)
  | .maskViolation u adc => execMaskViolation_kept u adc s (Kept.refl s)
  | .rateChange u adc => execRateChange_kept u adc s (Kept.refl s)
  | .streamGap u adc => execStreamGap_kept u adc s (Kept.refl s)
  | .itemFlush u adc => execItemFlush_kept u adc s (Kept.refl s)
  | .itemWrite u => execItemWrite_kept u s (Kept.refl s)
  | .groupMessage w t => execGroupMessage_kept w t s (Kept.refl s)
  | .markerInputEdge k rising => execMarkerInputEdge_kept k rising s (Kept.refl s)
  | .biasConfig p => execBiasConfig_kept p s (Kept.refl s)
  | .biasSet p => execBiasSet_kept p s (Kept.refl s)
  | .biasCodeWrite fn b v => execBiasCodeWrite_kept fn b v s (Kept.refl s)
  | .biasQueueLoad p => execBiasQueueLoad_kept p s (Kept.refl s)
  | .biasQueueStart p => execBiasQueueStart_kept p s (Kept.refl s)
  | .biasQstartWrite fn q k v => execBiasQstartWrite_kept fn q k v s (Kept.refl s)
  | .biasQueueStop p => execBiasQueueStop_kept p s (Kept.refl s)
  | .biasRestore p => execBiasRestore_kept p s (Kept.refl s)
  | .biasPolicySet p => execBiasPolicySet_kept p s (Kept.refl s)
  | .biasQcmdStart fn b => execBiasQcmdStart_kept fn b s (Kept.refl s)
  | .biasQcmdStop fn b => execBiasQcmdStop_kept fn b s (Kept.refl s)
  | .biasQcmdFlush fn b => execBiasQcmdFlush_kept fn b s (Kept.refl s)
  | .biasQcmdRestore fn b => execBiasQcmdRestore_kept fn b s (Kept.refl s)
  | .queueClockRelease b => execQueueClockRelease_kept b s (Kept.refl s)
  | .paceEvent b => execPaceEvent_kept b s (Kept.refl s)
  | .paceHoldRelease b => execPaceHoldRelease_kept b s (Kept.refl s)
  | .biasSlewEnd b => execBiasSlewEnd_kept b s (Kept.refl s)
  | .spanSwitchEnd b => execSpanSwitchEnd_kept b s (Kept.refl s)
  | .biasConditionReport b comp opn => execBiasConditionReport_kept b comp opn s (Kept.refl s)
  | .complianceWindowExpire b => execComplianceWindowExpire_kept b s (Kept.refl s)
  | .monConfig p => execMonConfig_kept p s (Kept.refl s)
  | .monStart p => execMonStart_kept p s (Kept.refl s)
  | .monCmdStart fn m => execMonCmdStart_kept fn m s (Kept.refl s)
  | .monStop p => execMonStop_kept p s (Kept.refl s)
  | .monCmdStop fn m => execMonCmdStop_kept fn m s (Kept.refl s)
  | .monInject p => execMonInject_kept p s (Kept.refl s)
  | .monCmdInject fn m => execMonCmdInject_kept fn m s (Kept.refl s)
  | .monCalibrate p => execMonCalibrate_kept p s (Kept.refl s)
  | .monCalCtrlStart fn q => execMonCalCtrlStart_kept fn q s (Kept.refl s)
  | .monCalEnd q => execMonCalEnd_kept q s (Kept.refl s)
  | .monRefSet p => execMonRefSet_kept p s (Kept.refl s)
  | .monRefSettled q => execMonRefSettled_kept q s (Kept.refl s)
  | .monTdacSet p => execMonTdacSet_kept p s (Kept.refl s)
  | .monCommonSet p => execMonCommonSet_kept p s (Kept.refl s)
  | .monCommonFire p => execMonCommonFire_kept p s (Kept.refl s)
  | .monCommonCmdFire fn => execMonCommonCmdFire_kept fn s (Kept.refl s)
  | .monCommonCmdRun fn => execMonCommonCmdRun_kept fn s (Kept.refl s)
  | .monCommonCmdHalt fn => execMonCommonCmdHalt_kept fn s (Kept.refl s)
  | .monStartArrival m => execMonStartArrival_kept m s (Kept.refl s)
  | .conversionComplete m raw => execConversionComplete_kept m raw s (Kept.refl s)
  | .monDataHiRead fn m => execMonDataHiRead_kept fn m s (Kept.refl s)
  | .memWrite p => execMemWrite_kept p s (Kept.refl s)
  | .memRead p => execMemRead_kept p s (Kept.refl s)
  | .memMapSet p => execMemMapSet_kept p s (Kept.refl s)
  | .memHintSet p => execMemHintSet_kept p s (Kept.refl s)
  | .memScrubSet p => execMemScrubSet_kept p s (Kept.refl s)
  | .memMarch p => execMemMarch_kept p s (Kept.refl s)
  | .memMarchCtrlStart fn => execMemMarchCtrlStart_kept fn s (Kept.refl s)
  | .memMarchStop p => execMemMarchStop_kept p s (Kept.refl s)
  | .memMarchCtrlStop fn => execMemMarchCtrlStop_kept fn s (Kept.refl s)
  | .marchEnd fails first ops diff chk => execMarchEnd_kept fails first ops diff chk s (Kept.refl s)
  | .memRankRetire p => execMemRankRetire_kept p s (Kept.refl s)
  | .memWinDataHiAccess fn wr => execMemWinDataHiAccess_kept fn wr s (Kept.refl s)
  | .refreshDue c r made busy => execRefreshDue_kept c r made busy s (Kept.refl s)
  | .ddrAlert c r => execDdrAlert_kept c r s (Kept.refl s)
  | .scrubRead store quad err => execScrubRead_kept store quad err s (Kept.refl s)
  | .rowRepairComplete store quad => execRowRepairComplete_kept store quad s (Kept.refl s)
  | .rankMoveComplete c => execRankMoveComplete_kept c s (Kept.refl s)
  | .memoryInitComplete st => execMemoryInitComplete_kept st s (Kept.refl s)
  | .sqTailDoorbell fn n v => execSqTailDoorbell_kept fn n v s (Kept.refl s)
  | .cqHeadDoorbell fn n v => execCqHeadDoorbell_kept fn n v s (Kept.refl s)
  | .sqCtrlEnableWrite fn n v => execSqCtrlEnableWrite_kept fn n v s (Kept.refl s)
  | .packetFetch n p => execPacketFetch_kept n p s (Kept.refl s)
  | .commandStart sq tag => execCommandStart_kept sq tag s (Kept.refl s)
  | .atShotRelease p => execAtShotRelease_kept p s (Kept.refl s)
  | .completionPost n => execCompletionPost_kept n s (Kept.refl s)
  | .linkDown phys => execLinkDown_kept phys s (Kept.refl s)
  | .linkUp phys => execLinkUp_kept phys s (Kept.refl s)
  | .hotReset => execHotReset_kept s (Kept.refl s)
  | .vfFlr k => execVfFlr_kept k s (Kept.refl s)
  | .pf0Flr => execPf0Flr_kept s (Kept.refl s)
  | .functionD3hot fn => execFunctionD3hot_kept fn s (Kept.refl s)
  | .hostMemoryFail sq tag => execHostMemoryFail_kept sq tag s (Kept.refl s)
  | .hostDmaRetry => execHostDmaRetry_kept s (Kept.refl s)
  | .fabLaneConfig p => execFabLaneConfig_kept p s (Kept.refl s)
  | .fabLinkTrain p => execFabLinkTrain_kept p s (Kept.refl s)
  | .fabPortConfig p => execFabPortConfig_kept p s (Kept.refl s)
  | .fabDiscover p => execFabDiscover_kept p s (Kept.refl s)
  | .fabAddrClear p => execFabAddrClear_kept p s (Kept.refl s)
  | .fabRouteSet p => execFabRouteSet_kept p s (Kept.refl s)
  | .fabPartNodesSet p => execFabPartNodesSet_kept p s (Kept.refl s)
  | .fabTwinConfig p => execFabTwinConfig_kept p s (Kept.refl s)
  | .fabTwinHandover p => execFabTwinHandover_kept p s (Kept.refl s)
  | .fabLaneRestore p => execFabLaneRestore_kept p s (Kept.refl s)
  | .laneSlip fn l => execLaneSlip_kept fn l s (Kept.refl s)
  | .laneRetrain fn l => execLaneRetrain_kept fn l s (Kept.refl s)
  | .autoSlipStep l => execAutoSlipStep_kept l s (Kept.refl s)
  | .laneCdrLock l => execLaneCdrLock_kept l s (Kept.refl s)
  | .laneAligned l => execLaneAligned_kept l s (Kept.refl s)
  | .alignTimeout l => execAlignTimeout_kept l s (Kept.refl s)
  | .laneLoss l => execLaneLoss_kept l s (Kept.refl s)
  | .frameReceive port line => execFrameReceive_kept port line s (Kept.refl s)
  | .lackStallTimeout port => execLackStallTimeout_kept port s (Kept.refl s)
  | .wordExpire port => execWordExpire_kept port s (Kept.refl s)
  | .frameAckTimeout port => execFrameAckTimeout_kept port s (Kept.refl s)
  | .helloSend port => execHelloSend_kept port s (Kept.refl s)
  | .hello port w => execHello_kept port w s (Kept.refl s)
  | .discover port w => execDiscover_kept port w s (Kept.refl s)
  | .announce port w => execAnnounce_kept port w s (Kept.refl s)
  | .announceQuiet => execAnnounceQuiet_kept s (Kept.refl s)
  | .assign port w => execAssign_kept port w s (Kept.refl s)
  | .vectorSend => execVectorSend_kept s (Kept.refl s)
  | .vector port w => execVector_kept port w s (Kept.refl s)
  | .mirrorLookup w => execMirrorLookup_kept w s (Kept.refl s)
  | .cometApply w => execCometApply_kept w s (Kept.refl s)
  | .shotMark w d => execShotMark_kept w d s (Kept.refl s)
  | .heartbeatSend => execHeartbeatSend_kept s (Kept.refl s)
  | .heartbeat w => execHeartbeat_kept w s (Kept.refl s)
  | .heartbeatTimeout => execHeartbeatTimeout_kept s (Kept.refl s)
  | .fail w => execFail_kept w s (Kept.refl s)
  | .taken w => execTaken_kept w s (Kept.refl s)
  | .handover w => execHandover_kept w s (Kept.refl s)
  | .state w => execState_kept w s (Kept.refl s)
  | .joinImageWord w => execJoinImageWord_kept w s (Kept.refl s)
  | .twinPartnerAbsent => execTwinPartnerAbsent_kept s (Kept.refl s)
  | .takeoverBoundary p => execTakeoverBoundary_kept p s (Kept.refl s)
  | .logFetch p => execLogFetch_kept p s (Kept.refl s)
  | .logNvFetch p => execLogNvFetch_kept p s (Kept.refl s)
  | .logClear p => execLogClear_kept p s (Kept.refl s)
  | .fltSafe p => execFltSafe_kept p s (Kept.refl s)
  | .logEntryRead fn k => execLogEntryRead_kept fn k s (Kept.refl s)
  | .safeEntry cause => execSafeEntry_kept cause s (Kept.refl s)
  | .nvRecordWrite ok => execNvRecordWrite_kept ok s (Kept.refl s)
  | .bstLogicRun p => execBstLogicRun_kept p s (Kept.refl s)
  | .bstSliceTest p => execBstSliceTest_kept p s (Kept.refl s)
  | .bstConfig p => execBstConfig_kept p s (Kept.refl s)
  | .bstAnalogRun p => execBstAnalogRun_kept p s (Kept.refl s)
  | .bstProofRead p => execBstProofRead_kept p s (Kept.refl s)
  | .bstStop p => execBstStop_kept p s (Kept.refl s)
  | .domainTestEnd d sig => execDomainTestEnd_kept d sig s (Kept.refl s)
  | .sliceTurn g => execSliceTurn_kept g s (Kept.refl s)
  | .sliceTestEnd g sig => execSliceTestEnd_kept g sig s (Kept.refl s)
  | .sliceTestAbandon g => execSliceTestAbandon_kept g s (Kept.refl s)
  | .turnWaitExpire g => execTurnWaitExpire_kept g s (Kept.refl s)
  | .analogCheck kind ch stuck => execAnalogCheck_kept kind ch stuck s (Kept.refl s)
  | .proofAnomaly kind => execProofAnomaly_kept kind s (Kept.refl s)
  | .pwrBank p => execPwrBank_kept p s (Kept.refl s)
  | .pwrCtrlBank fn => execPwrCtrlBank_kept fn s (Kept.refl s)
  | .bankComplete => execBankComplete_kept s (Kept.refl s)
  | .pwrWake p => execPwrWake_kept p s (Kept.refl s)
  | .pwrCtrlWake fn => execPwrCtrlWake_kept fn s (Kept.refl s)
  | .wakeComplete => execWakeComplete_kept s (Kept.refl s)
  | .pwrSafeExit p => execPwrSafeExit_kept p s (Kept.refl s)
  | .pwrShutdown p => execPwrShutdown_kept p s (Kept.refl s)
  | .proofingPassEnd bad ranks => execProofingPassEnd_kept bad ranks s (Kept.refl s)
  | .pwrSettingsSave p => execPwrSettingsSave_kept p s (Kept.refl s)
  | .pwrCtrlSave fn => execPwrCtrlSave_kept fn s (Kept.refl s)
  | .autosave => execAutosave_kept s (Kept.refl s)
  | .pwrCapSet p => execPwrCapSet_kept p s (Kept.refl s)
  | .pwrShedRankSet p => execPwrShedRankSet_kept p s (Kept.refl s)
  | .pwrCfgSet p => execPwrCfgSet_kept p s (Kept.refl s)
  | .thmSnapshotFetch p => execThmSnapshotFetch_kept p s (Kept.refl s)
  | .envelopeUpdate vin iin => execEnvelopeUpdate_kept vin iin s (Kept.refl s)
  | .shedStep => execShedStep_kept s (Kept.refl s)
  | .restoreStep => execRestoreStep_kept s (Kept.refl s)
  | .inputFail => execInputFail_kept s (Kept.refl s)
  | .inputRecovered => execInputRecovered_kept s (Kept.refl s)
  | .powerOn => execPowerOn_kept s (Kept.refl s)
  | .startupStepEnd ok bad => execStartupStepEnd_kept ok bad s (Kept.refl s)
  | .enableInRelease => execEnableInRelease_kept s (Kept.refl s)
  | .resetNAssert => execResetNAssert_kept s (Kept.refl s)
  | .resetNRelease => execResetNRelease_kept s (Kept.refl s)
  | .powerLoss => absurd rfl hi
  | .presentBreak => execPresentBreak_kept s (Kept.refl s)
  | .bankedDoorbell fn n v => execBankedDoorbell_kept fn n v s (Kept.refl s)
  | .thermalSample temps => execThermalSample_kept temps s (Kept.refl s)
  | .thmCapStep => execThmCapStep_kept s (Kept.refl s)
  | .secFwUpdate p => execSecFwUpdate_kept p s (Kept.refl s)
  | .secCalLoad p => execSecCalLoad_kept p s (Kept.refl s)
  | .secAttest p => execSecAttest_kept p s (Kept.refl s)
  | .secCertFetch p => execSecCertFetch_kept p s (Kept.refl s)
  | .secFuseProgram p => execSecFuseProgram_kept p s (Kept.refl s)
  | .secLcAdvance p => execSecLcAdvance_kept p s (Kept.refl s)
  | .secSvnCommit p => execSecSvnCommit_kept p s (Kept.refl s)
  | .identityDerived => execIdentityDerived_kept s (Kept.refl s)
  | .smbusRead addr => execSmbusRead_kept addr s (Kept.refl s)
  | .statusDatagram => execStatusDatagram_kept s (Kept.refl s)
  | .chassisIdRead code => execChassisIdRead_kept code s (Kept.refl s)
  | .muteRelease p => execMuteRelease_kept p s (Kept.refl s)
  | .playEnd lane => execPlayEnd_kept lane s (Kept.refl s)
  | .extFault q fault => execExtFault_kept q fault s (Kept.refl s)
  | .ppsOut => execPpsOut_kept s (Kept.refl s)
  | .hitForgotten k => execHitForgotten_kept k s (Kept.refl s)
  | .functionD0 fn => execFunctionD0_kept fn s (Kept.refl s)
  | .conventionalReset => execConventionalReset_kept s (Kept.refl s)
  | .boundaryScan instr => execBoundaryScan_kept instr s (Kept.refl s)
  | .deniedRead fn a => execDeniedRead_kept fn a s (Kept.refl s)

end Sys2Proof.Machine
end

