-- ==== Sys2Proof/Machine/Ports.lean ====
section
/-!
DEFINITION. Machine/Ports.lean: where the ports stand on the connectors (R668 to R671, R674), the chassis code (R676), the
module-sensor's address (R677) and the address of the management port (R679).
-/

namespace Sys2Proof.Machine
open Sys2Proof

/-- A connector by its designator: the letters after J, and its number; none for a connector of which there is one. -/
inductive Conn
  | jd (n : Nat) | jz (n : Nat) | ja (n : Nat) | jb (n : Nat) | jk (n : Nat) | jf (n : Nat) | js
  deriving DecidableEq, Repr

/-- A port that stands where a formula places it. -/
inductive PortName
  | d (n : Nat) | z (n : Nat) | p (n : Nat) | a (n : Nat)
  | b (n : Nat) | bReturn (n : Nat) | mPos (n : Nat) | mNeg (n : Nat)
  | kPos (n : Nat) | kNeg (n : Nat)
  | fLane (n : Nat)
  deriving DecidableEq, Repr

/-- Connector and position of a port: a contact of an RF block (R668), a position of a bias connector (R669), of a marker
connector (R670), or the number of the pairs TX and RX of a cage (R671). -/
def portAt : PortName → Conn × Nat
  | .d n => (.jd (n / 16), n % 16)
  | .z n => (.jz (n / 16), n % 16)
  | .p n => (.ja (n / 8), n % 8)
  | .a n => (.ja (n / 8), 8 + n % 8)
  | .b n => (.jb (n / 64), 1 + n % 64)
  | .bReturn n => (.jb (n / 64), 65 + n % 64 / 2)
  | .mPos n => (.jb (n / 8), 97 + 2 * (n % 8))
  | .mNeg n => (.jb (n / 8), 98 + 2 * (n % 8))
  | .kPos n => (.jk (n / 32), 2 * (n % 32) + 1)
  | .kNeg n => (.jk (n / 32), 2 * (n % 32) + 2)
  | .fLane n => (.jf (n / 4), n % 4 + 1)

/-- The quadrant that owns a connector (R668, R669). -/
def connQuad : Conn → Option Nat
  | .jd n | .jz n | .jb n => some (n / 2)
  | .ja n => some n
  | _ => none

/-- Signals of the service connector (R674). -/
inductive Service
  | tck | tms | tdi | tdo | trstN | txd | rxd | resetN | alertN | smbClk | smbDat | twinMute | extMuteN
  | spareSw (n : Nat) | powerGood | enableIn | chassisId (n : Nat) | standby | ground
  deriving DecidableEq, Repr

/-- What a pin of JS carries (R674). -/
def servicePin (n : Nat) : Option Service :=
  match n with
  | 1 => some .tck | 2 => some .tms | 3 => some .tdi | 4 => some .tdo | 5 => some .trstN
  | 6 => some .txd | 7 => some .rxd | 8 => some .resetN | 9 => some .alertN | 10 => some .smbClk | 11 => some .smbDat
  | 12 => some .twinMute | 13 => some .extMuteN | 14 => some (.spareSw 0) | 15 => some (.spareSw 1) | 16 => some (.spareSw 2)
  | 17 => some (.spareSw 3) | 18 => some .powerGood | 19 => some .enableIn | 20 => some (.chassisId 0)
  | 21 => some (.chassisId 1) | 22 => some .standby
  | _ => if 23 ≤ n ∧ n ≤ 26 then some .ground else none

/-- The level of an unconnected input: the pull-ups and pull-downs of R675. -/
def openLevel : Service → Option Bool
  | .enableIn | .extMuteN | .resetN | .trstN => some true
  | _ => none

/-- The levels of the service outputs; an open-drain line is low where it is driven, and reads as 1 where it is released (R497, R577, R624). -/
def State.serviceOut (s : State) : Service → Option Bool
  | .alertN => some s.alertN
  | .twinMute => some !s.fab.twinMute
  | .spareSw n => some (s.g Page.twin F.FAB_TWIN_SW_OUT / 2 ^ n % 2 = 1)
  | .powerGood => some s.powerGood
  | _ => none

/-- The chassis code of two levels (R676). -/
def chassisCode (level0 level1 : Nat) : Nat := 16 * level1 + level0

/-- The target address of the module-sensor SMBus (R677). -/
def smbusAddress : Nat := 0x5A

/-- The MAC address of the management port (R679): MODULE_ID with the locally-administered bit, bit 1 of the first byte sent, set
and the multicast bit, bit 0 of it, clear. Which byte of MODULE_ID is sent first is the most significant one, as a MAC address
is written: DESIGN CHOICE (log entry 78). -/
def macAddress : BitVec 48 := (Config.moduleId ||| (BitVec.ofNat 48 (2 ^ 41))) &&& ~~~ (BitVec.ofNat 48 (2 ^ 40))

/-- The UDP port of the status responder (R679). -/
def statusPort : Nat := 7330

end Sys2Proof.Machine
end

