-- ==== Sys2Proof/WellFormed.lean ====
section
/-!
DEFINITION. WellFormed.lean: which terms stand for commands that the module can be given: objects that exist, and fields
that fit the places they come from. A packet may be one that the module refuses (R446).
-/

namespace Sys2Proof

/-- A packet's header fields fit R442 and it comes from a function and a queue that exist. -/
def Pkt.wf (p : Pkt) : Bool :=
  p.fn < 6 && p.sq < 64 && p.op < 65536 && p.tag < 65536 && p.len < 65536 && p.part < 16 && p.flags < 4096
    && p.target < 2 ^ 32 && p.rsv < 2 ^ 32 && p.words.length ≤ 1024
/-- A packet of the row whose opcode is `op`. -/
def Pkt.wfOp (op : Nat) (p : Pkt) : Bool := p.wf && p.op = op

/-- A row that is a packet or an instruction. -/
def NopOp.wf : NopOp → Bool
  | .packet p => p.wfOp 0x0000
  | .instr q => q < 160

/-- An event's producer: a source of the publisher table, or a partition and a channel (R546, R547). -/
def EvSrc.wf : EvSrc → Bool
  | .table n => n < 1024
  | .direct own ch => own < 5 && ch < 256

/-- Codes as an ADC gives them (R253): signed values of 12 bits at 8 GS/s. -/
def codesOk (l : List AdcCode) : Bool := l.all (fun x => x.1 % 2 = 0 && decide (-2048 ≤ x.2 ∧ x.2 ≤ 2047))

/-- A trigger of one of the four sources. -/
def Trig.wf (t : Trig) : Bool := t.src < 4 && t.t < 2 ^ 64 && t.frac < 16

/-- The well-formed commands. -/
def Instr.wf : Instr → Bool
  | .nop o => o.wf
  | .hrtIdentify p => p.wfOp 0x0001
  | .hrtPatchLoad p => p.wfOp 0x0002
  | .hrtPatchClear p => p.wfOp 0x0003
  | .intSrcSet p => p.wfOp 0x0100
  | .intTargetSet p => p.wfOp 0x0101
  | .intSwi p => p.wfOp 0x0102
  | .intSwiRegisterWrite fn sw => fn < 6 && sw < 14
  | .intClaimRead fn t => fn < 6 && t < 6
  | .intCompleteWrite fn t id => fn < 6 && t < 6 && id < 1024
  | .intDelivery t => t < 6
  | .moderationWindowEnd t => t < 6
  | .faultTrap kind upc => kind < 6 && upc < 65536
  | .interruptTrap => true
  | .tickTrap => true
  | .trapReturn => true
  | .routineYield upc => upc < 65536
  | .groupRelease ctx grp => ctx < 20 && grp < 65536
  | .evrChanSet p => p.wfOp 0x0200
  | .evrCellStage p => p.wfOp 0x0201
  | .evrPubStage p => p.wfOp 0x0202
  | .evrCommit p => p.wfOp 0x0203
  | .evrCtrlCommit fn => fn < 6
  | .evrDiscard p => p.wfOp 0x0204
  | .evrCtrlDiscard fn => fn < 6
  | .evrPublish p => p.wfOp 0x0205
  | .evrSwPub fn ch => fn < 6 && ch < 256
  | .eventPublication o => o.wf
  | .chanRateTripClear fn ch => fn < 6 && ch < 256
  | .cellFilterSettled c => c < 64
  | .wakeEvent ch => ch < 256
  | .timeAnchor p => p.wfOp 0x0300
  | .tdCtrlAnchor fn d => fn < 6 && d < 5
  | .timePropagate p => p.wfOp 0x0301
  | .tdCtrlPropagate fn d => fn < 6 && d < 5
  | .timeRelease p => p.wfOp 0x0302
  | .tdCtrlRelease fn d => fn < 6 && d < 5
  | .anchorLoad d => d < 5
  | .anchorFrameReceive _ => true
  | .anchorFrameForward => true
  | .timeAlign p => p.wfOp 0x0303
  | .alignmentVerify _ => true
  | .timeWallRelock p => p.wfOp 0x0304
  | .refLost => true
  | .refRestored => true
  | .ptpSync _ => true
  | .wallHoldover => true
  | .ttuFire n => n < 32
  | .tcuCapture n t frac => n < 16 && t < 2 ^ 64 && frac < 16
  | .tcuTimeHiRead fn n => fn < 6 && n < 16
  | .reg64LowRead fn a => fn < 6 && a < 2 ^ 26
  | .reg64HighWrite fn a _ => fn < 6 && a < 2 ^ 26
  | .registerWrite fn a _ => fn < 6 && a < 2 ^ 26
  | .drvConfig p => p.wfOp 0x1000
  | .drvFrameSet p => p.wfOp 0x1001
  | .envLoad p => p.wfOp 0x1002
  | .envDescSet p => p.wfOp 0x1003
  | .drvEnvDataAccess fn q _ => fn < 6 && q < 4
  | .drvHeatSet p => p.wfOp 0x1004
  | .drvTripClear p => p.wfOp 0x1005
  | .heatTripWrite fn ch => fn < 6 && ch < 160
  | .heatTrip ch => ch < 160
  | .drvSpareSwap p => p.wfOp 0x1006
  | .drvSpareRelease p => p.wfOp 0x1007
  | .spareCtrlSwap fn g target => fn < 6 && g < 48 && target < 8
  | .spareCtrlRelease fn g => fn < 6 && g < 48
  | .spareCopyComplete g => g < 48
  | .datapathFailure ch => ch < 320
  | .spareFailure g => g < 48
  | .extMuteInput _ => true
  | .flxConfig p => p.wfOp 0x1100
  | .flxGainSet p => p.wfOp 0x1101
  | .flxPdLoad p => p.wfOp 0x1102
  | .flxPdCommit fn ch => fn < 6 && ch < 128
  | .flxSpareSwap p => p.wfOp 0x1103
  | .flxSpareRelease p => p.wfOp 0x1104
  | .flxRampEnd ch => ch < 128
  | .seqConfig p => p.wfOp 0x1400
  | .seqImageLoad p => p.wfOp 0x1401
  | .seqJump p => p.wfOp 0x1402
  | .seqJumpReq fn q vec => fn < 6 && q < 160 && vec < 8
  | .seqVectorSet p => p.wfOp 0x1403
  | .seqMarkerMap p => p.wfOp 0x1404
  | .partArm p => p.wfOp 0x1410
  | .partCtrlArm fn p => fn < 6 && p < 5
  | .partStop p => p.wfOp 0x1411
  | .partCtrlStop fn p => fn < 6 && p < 5
  | .partAbort p => p.wfOp 0x1412
  | .partCtrlAbort fn p => fn < 6 && p < 5
  | .armingComplete p => p < 5
  | .runStartCut p => p < 5
  | .startTime p => p < 5
  | .refillComplete q half => q < 160 && half < 2
  | .barrierNotice p => p < 5
  | .barrierRelease p => p < 5
  | .barrierTimeout p => p < 5
  | .regionAbortReceive q => q < 160
  | .jumpTaken q => q < 160
  | .markerPulseEnd q b => q < 160 && b < 4
  | .timelineEffect q => q < 160
  | .wait q => q < 160
  | .segment q => q < 160
  | .shotStart q => q < 160
  | .shotEnd q => q < 160
  | .sync q => q < 160
  | .regionBegin q => q < 160
  | .regionEnd q => q < 160
  | .testwin q => q < 160
  | .prefetch q => q < 160
  | .endRun q => q < 160
  | .jump q => q < 160
  | .call q => q < 160
  | .ret q => q < 160
  | .loop q => q < 160
  | .endloop q => q < 160
  | .repeatN q => q < 160
  | .branchFlag q => q < 160
  | .branchCond q => q < 160
  | .waitCond q => q < 160
  | .waitCondResolve q => q < 160
  | .waitCondTimeout q => q < 160
  | .clrc q => q < 160
  | .getc q => q < 160
  | .play q => q < 160
  | .acquire q => q < 160
  | .freq q => q < 160
  | .phaseAdd q => q < 160
  | .phaseSet q => q < 160
  | .phaseAddV q => q < 160
  | .frameReset q => q < 160
  | .level q => q < 160
  | .ldi q => q < 160
  | .addv q => q < 160
  | .subv q => q < 160
  | .addi q => q < 160
  | .cmp q => q < 160
  | .mul q => q < 160
  | .mac q => q < 160
  | .msu q => q < 160
  | .accv q => q < 160
  | .rnd q => q < 160
  | .expo q => q < 160
  | .norm q => q < 160
  | .clrf q => q < 160
  | .rdoProbeConfig p => p.wfOp 0x1200
  | .rdoAdcConfig p => p.wfOp 0x1201
  | .toneSet p => p.wfOp 0x1202
  | .kernelLoad p => p.wfOp 0x1203
  | .rdoKernQAccess fn q _ => fn < 6 && q < 4
  | .rdoHeatSet p => p.wfOp 0x1204
  | .rdoTripClear p => p.wfOp 0x1205
  | .rdoSpareSwap p => p.wfOp 0x1206
  | .rdoSpareRelease p => p.wfOp 0x1207
  | .recRingSet p => p.wfOp 0x1210
  | .recConsWrite fn p _ => fn < 6 && p < 5
  | .windowEnd t adc => t < 1024 && codesOk adc
  | .earlyDecision t adc => t < 1024 && codesOk adc
  | .depletionStart t => t < 1024
  | .outcomeArrival t => t < 1024
  | .recordAssembled p => p < 5
  | .recordWrite p => p < 5
  | .decRouteSet p => p.wfOp 0x2000
  | .decGatherSet p => p.wfOp 0x2001
  | .decTableLoad p => p.wfOp 0x2002
  | .decTableClear p => p.wfOp 0x2003
  | .decEntryWrite fn key _ => fn < 6 && key < 65536
  | .decCometSet p => p.wfOp 0x2004
  | .decDecoderSet p => p.wfOp 0x2005
  | .gatherComplete g => g < 64
  | .gatherTimeout g => g < 64
  | .chainLookup => true
  | .cometReceive _ => true
  | .cometAckSend p node => p < 5 && node < 64
  | .cometAckReceive p node a => p < 5 && node < 64 && a < 2 ^ 16
  | .cometAckTimeout p node => p < 5 && node < 64
  | .decoderUpdate src _ => src < 64
  | .frameBarrierPass g => g < 64
  | .acqConfig p => p.wfOp 0x1300
  | .acqArm p => p.wfOp 0x1301
  | .acqCuArm fn u => fn < 6 && u < 32
  | .acqStop p => p.wfOp 0x1302
  | .acqCuStop fn u => fn < 6 && u < 32
  | .acqTrigger p => p.wfOp 0x1303
  | .acqCuSwTrig fn u => fn < 6 && u < 32
  | .acqFetch p => p.wfOp 0x1304
  | .acqMaskLoad p => p.wfOp 0x1305
  | .acqMaskHiAccess fn q _ => fn < 6 && q < 4
  | .acqGroupSet p => p.wfOp 0x1306
  | .acqKConfig p => p.wfOp 0x1307
  | .strRingSet p => p.wfOp 0x1310
  | .strConsWrite fn u _ => fn < 6 && u < 32
  | .triggerArrival u adc ts => u < 32 && codesOk adc && ts.all Trig.wf
  | .captureComplete u adc => u < 32 && codesOk adc
  | .rearmEnd u adc => u < 32 && codesOk adc
  | .maskViolation u adc => u < 32 && codesOk adc
  | .rateChange u adc => u < 32 && codesOk adc
  | .streamGap u adc => u < 32 && codesOk adc
  | .itemFlush u adc => u < 32 && codesOk adc
  | .itemWrite u => u < 32
  | .groupMessage _ _ => true
  | .markerInputEdge k _ => k < 64
  | .biasConfig p => p.wfOp 0x1600
  | .biasSet p => p.wfOp 0x1601
  | .biasCodeWrite fn b _ => fn < 6 && b < 512
  | .biasQueueLoad p => p.wfOp 0x1602
  | .biasQueueStart p => p.wfOp 0x1603
  | .biasQstartWrite fn q k _ => fn < 6 && q < 4 && k < 4
  | .biasQueueStop p => p.wfOp 0x1604
  | .biasRestore p => p.wfOp 0x1605
  | .biasPolicySet p => p.wfOp 0x1606
  | .biasQcmdStart fn b => fn < 6 && b < 512
  | .biasQcmdStop fn b => fn < 6 && b < 512
  | .biasQcmdFlush fn b => fn < 6 && b < 512
  | .biasQcmdRestore fn b => fn < 6 && b < 512
  | .queueClockRelease b => b < 512
  | .paceEvent b => b < 512
  | .paceHoldRelease b => b < 512
  | .biasSlewEnd b => b < 512
  | .spanSwitchEnd b => b < 512
  | .biasConditionReport b _ _ => b < 512
  | .complianceWindowExpire b => b < 512
  | .monConfig p => p.wfOp 0x1700
  | .monStart p => p.wfOp 0x1701
  | .monCmdStart fn m => fn < 6 && m < 64
  | .monStop p => p.wfOp 0x1702
  | .monCmdStop fn m => fn < 6 && m < 64
  | .monInject p => p.wfOp 0x1703
  | .monCmdInject fn m => fn < 6 && m < 64
  | .monCalibrate p => p.wfOp 0x1704
  | .monCalCtrlStart fn q => fn < 6 && q < 4
  | .monCalEnd q => q < 4
  | .monRefSet p => p.wfOp 0x1705
  | .monRefSettled q => q < 4
  | .monTdacSet p => p.wfOp 0x1706
  | .monCommonSet p => p.wfOp 0x1707
  | .monCommonFire p => p.wfOp 0x1708
  | .monCommonCmdFire fn => fn < 6
  | .monCommonCmdRun fn => fn < 6
  | .monCommonCmdHalt fn => fn < 6
  | .monStartArrival m => m < 64
  | .conversionComplete m raw => m < 64 && decide (-131072 ≤ raw ∧ raw < 131072)
  | .monDataHiRead fn m => fn < 6 && m < 64
  | .memWrite p => p.wfOp 0x0800
  | .memRead p => p.wfOp 0x0801
  | .memMapSet p => p.wfOp 0x0802
  | .memHintSet p => p.wfOp 0x0803
  | .memScrubSet p => p.wfOp 0x0804
  | .memMarch p => p.wfOp 0x0805
  | .memMarchCtrlStart fn => fn < 6
  | .memMarchStop p => p.wfOp 0x0806
  | .memMarchCtrlStop fn => fn < 6
  | .marchEnd _ _ _ _ _ => true
  | .memRankRetire p => p.wfOp 0x0807
  | .memWinDataHiAccess fn _ => fn < 6
  | .refreshDue c r _ _ => c < 4 && r < 2
  | .ddrAlert c r => c < 4 && r < 2
  | .scrubRead store quad _ => store < 12 && quad < 4
  | .rowRepairComplete store quad => 4 ≤ store && store < 12 && quad < 4
  | .rankMoveComplete c => c < 4
  | .memoryInitComplete st => st < 11
  | .sqTailDoorbell fn n _ => fn < 6 && n < 64
  | .cqHeadDoorbell fn n _ => fn < 6 && n < 64
  | .sqCtrlEnableWrite fn n _ => fn < 6 && n < 64
  | .packetFetch n p => n < 64 && p.wf && p.sq = n
  | .commandStart sq tag => sq < 64 && tag < 65536
  | .atShotRelease p => p < 5
  | .completionPost n => n < 64
  | .linkDown _ => true
  | .linkUp _ => true
  | .hotReset => true
  | .vfFlr k => 1 ≤ k && k < 5
  | .pf0Flr => true
  | .functionD3hot fn => fn < 6
  | .hostMemoryFail sq tag => sq < 64 && tag < 65536
  | .hostDmaRetry => true
  | .fabLaneConfig p => p.wfOp 0x0700
  | .fabLinkTrain p => p.wfOp 0x0701
  | .fabPortConfig p => p.wfOp 0x0702
  | .fabDiscover p => p.wfOp 0x0703
  | .fabAddrClear p => p.wfOp 0x0704
  | .fabRouteSet p => p.wfOp 0x0705
  | .fabPartNodesSet p => p.wfOp 0x0706
  | .fabTwinConfig p => p.wfOp 0x0707
  | .fabTwinHandover p => p.wfOp 0x0708
  | .fabLaneRestore p => p.wfOp 0x0709
  | .laneSlip fn l => fn < 6 && l < 32
  | .laneRetrain fn l => fn < 6 && l < 32
  | .autoSlipStep l => l < 32
  | .laneCdrLock l => l < 32
  | .laneAligned l => l < 32
  | .alignTimeout l => l < 32
  | .laneLoss l => l < 32
  | .frameReceive port line => port < 8 && line.length ≤ 4
  | .lackStallTimeout port => port < 8
  | .wordExpire port => port < 8
  | .frameAckTimeout port => port < 8
  | .helloSend port => port < 8
  | .hello port _ => port < 8
  | .discover port _ => port < 8
  | .announce port _ => port < 8
  | .announceQuiet => true
  | .assign port _ => port < 8
  | .vectorSend => true
  | .vector port _ => port < 8
  | .mirrorLookup _ => true
  | .cometApply _ => true
  | .shotMark _ _ => true
  | .heartbeatSend => true
  | .heartbeat _ => true
  | .heartbeatTimeout => true
  | .fail _ => true
  | .taken _ => true
  | .handover _ => true
  | .state _ => true
  | .joinImageWord _ => true
  | .twinPartnerAbsent => true
  | .takeoverBoundary p => p < 5
  | .logFetch p => p.wfOp 0x0C00
  | .logNvFetch p => p.wfOp 0x0C01
  | .logClear p => p.wfOp 0x0C02
  | .fltSafe p => p.wfOp 0x0C03
  | .logEntryRead fn k => fn < 6 && k < 16384
  | .safeEntry cause => cause < 256
  | .nvRecordWrite _ => true
  | .bstLogicRun p => p.wfOp 0x0A00
  | .bstSliceTest p => p.wfOp 0x0A01
  | .bstConfig p => p.wfOp 0x0A02
  | .bstAnalogRun p => p.wfOp 0x0A03
  | .bstProofRead p => p.wfOp 0x0A04
  | .bstStop p => p.wfOp 0x0A05
  | .domainTestEnd d _ => d < 20
  | .sliceTurn g => g < 48
  | .sliceTestEnd g _ => g < 48
  | .sliceTestAbandon g => g < 48
  | .turnWaitExpire g => g < 48
  | .analogCheck kind ch _ => kind < 5 && ch < 512
  | .proofAnomaly kind => kind < 2
  | .pwrBank p => p.wfOp 0x0400
  | .pwrCtrlBank fn => fn < 6
  | .bankComplete => true
  | .pwrWake p => p.wfOp 0x0401
  | .pwrCtrlWake fn => fn < 6
  | .wakeComplete => true
  | .pwrSafeExit p => p.wfOp 0x0402
  | .pwrShutdown p => p.wfOp 0x0403
  | .proofingPassEnd _ _ => true
  | .pwrSettingsSave p => p.wfOp 0x0404
  | .pwrCtrlSave fn => fn < 6
  | .autosave => true
  | .pwrCapSet p => p.wfOp 0x0405
  | .pwrShedRankSet p => p.wfOp 0x0406
  | .pwrCfgSet p => p.wfOp 0x0407
  | .thmSnapshotFetch p => p.wfOp 0x0408
  | .envelopeUpdate vin iin => vin < 65536 && iin < 65536
  | .shedStep => true
  | .restoreStep => true
  | .inputFail => true
  | .inputRecovered => true
  | .powerOn => true
  | .startupStepEnd _ _ => true
  | .enableInRelease => true
  | .resetNAssert => true
  | .resetNRelease => true
  | .powerLoss => true
  | .presentBreak => true
  | .bankedDoorbell fn n _ => fn < 6 && n < 128
  | .thermalSample temps => temps.length = 96
  | .thmCapStep => true
  | .secFwUpdate p => p.wfOp 0x0500
  | .secCalLoad p => p.wfOp 0x0501
  | .secAttest p => p.wfOp 0x0502
  | .secCertFetch p => p.wfOp 0x0503
  | .secFuseProgram p => p.wfOp 0x0504
  | .secLcAdvance p => p.wfOp 0x0505
  | .secSvnCommit p => p.wfOp 0x0506
  | .identityDerived => true
  | .smbusRead addr => addr < 256
  | .statusDatagram => true
  | .chassisIdRead code => code < 256
  | .muteRelease p => p < 5
  | .playEnd lane => lane < 2304
  | .extFault q _ => q < 4
  | .ppsOut => true
  | .hitForgotten k => k < 256
  | .functionD0 fn => fn < 6
  | .conventionalReset => true
  | .boundaryScan instr => instr < 256
  | .deniedRead fn a => fn < 6 && a < 2 ^ 26

end Sys2Proof
end

