-- ==== Sys2Proof/Tests/Slice0.lean ====
section
/-!
SUPPORT. Tests/Slice0.lean: the model's own tests: an ill-formed term for each check of WellFormed.lean, the spec's worked
examples, single steps, and for each statement of Certificates/Slice0/Obligations.lean that has hypotheses a state and operands
that meet them together, one for each of its clauses.
-/

namespace Sys2Proof.Tests
open Sys2Proof Sys2Proof.Machine
-- One theorem at a time: the kernel's evaluations below otherwise hold a thread each.
set_option Elab.async false

/-! ### Well-formedness: each check refuses a term that fails it alone -/

/-- A packet that is well formed for the row of opcode `op`. -/
def pk (op : Nat) : Pkt :=
  { fn := 0, sq := 0, op := op, tag := 0, len := 0, part := 0, flags := 0, target := 0, rsv := 0, words := [], host := [] }

theorem test_pkt_fields : [ { pk 0 with fn := 6 }, { pk 0 with sq := 64 }, { pk 0 with op := 65536 }, { pk 0 with tag := 65536 },
    { pk 0 with len := 65536 }, { pk 0 with part := 16 }, { pk 0 with flags := 4096 }, { pk 0 with target := 4294967296 },
    { pk 0 with rsv := 4294967296 } ].all (fun p => !p.wf) = true := by decide
theorem test_pkt_words : Pkt.wf { pk 0 with words := List.replicate 1025 0 } = false ∧
    Pkt.wf { pk 0 with words := List.replicate 1024 0 } = true := by decide +kernel
theorem test_trig_fields : [ (⟨4, 0, 0⟩ : Trig), ⟨0, 2 ^ 64, 0⟩, ⟨0, 0, 16⟩ ].all (fun t => !t.wf) = true := by decide

/-- Rows that are packets: accepted with their opcode, refused with another's or from a function that does not exist. -/
theorem test_pktRows0 : ([
    (0x0001, .hrtIdentify), (0x0002, .hrtPatchLoad), (0x0003, .hrtPatchClear), (0x0100, .intSrcSet),
    (0x0101, .intTargetSet), (0x0102, .intSwi), (0x0200, .evrChanSet), (0x0201, .evrCellStage),
    (0x0202, .evrPubStage), (0x0203, .evrCommit), (0x0204, .evrDiscard), (0x0205, .evrPublish),
    (0x0300, .timeAnchor), (0x0301, .timePropagate), (0x0302, .timeRelease), (0x0303, .timeAlign),
    (0x0304, .timeWallRelock), (0x1000, .drvConfig), (0x1001, .drvFrameSet), (0x1002, .envLoad),
    (0x1003, .envDescSet), (0x1004, .drvHeatSet), (0x1005, .drvTripClear), (0x1006, .drvSpareSwap),
    (0x1007, .drvSpareRelease), (0x1100, .flxConfig), (0x1101, .flxGainSet), (0x1102, .flxPdLoad),
    (0x1103, .flxSpareSwap), (0x1104, .flxSpareRelease), (0x1400, .seqConfig), (0x1401, .seqImageLoad),
    (0x1402, .seqJump), (0x1403, .seqVectorSet), (0x1404, .seqMarkerMap), (0x1410, .partArm), (0x1411, .partStop),
    (0x1412, .partAbort), (0x1200, .rdoProbeConfig), (0x1201, .rdoAdcConfig), (0x1202, .toneSet),
    (0x1203, .kernelLoad), (0x1204, .rdoHeatSet), (0x1205, .rdoTripClear), (0x1206, .rdoSpareSwap) ] : List (Nat × (Pkt → Instr))).all (fun x => (x.2 (pk x.1)).wf && !(x.2 (pk 65535)).wf
      && !(x.2 { pk x.1 with fn := 6 }).wf) = true := by
  decide +kernel
/-- Rows that are packets: accepted with their opcode, refused with another's or from a function that does not exist. -/
theorem test_pktRows1 : ([
    (0x1207, .rdoSpareRelease), (0x1210, .recRingSet), (0x2000, .decRouteSet), (0x2001, .decGatherSet),
    (0x2002, .decTableLoad), (0x2003, .decTableClear), (0x2004, .decCometSet), (0x2005, .decDecoderSet),
    (0x1300, .acqConfig), (0x1301, .acqArm), (0x1302, .acqStop), (0x1303, .acqTrigger), (0x1304, .acqFetch),
    (0x1305, .acqMaskLoad), (0x1306, .acqGroupSet), (0x1307, .acqKConfig), (0x1310, .strRingSet),
    (0x1600, .biasConfig), (0x1601, .biasSet), (0x1602, .biasQueueLoad), (0x1603, .biasQueueStart),
    (0x1604, .biasQueueStop), (0x1605, .biasRestore), (0x1606, .biasPolicySet), (0x1700, .monConfig),
    (0x1701, .monStart), (0x1702, .monStop), (0x1703, .monInject), (0x1704, .monCalibrate), (0x1705, .monRefSet),
    (0x1706, .monTdacSet), (0x1707, .monCommonSet), (0x1708, .monCommonFire), (0x0800, .memWrite),
    (0x0801, .memRead), (0x0802, .memMapSet), (0x0803, .memHintSet), (0x0804, .memScrubSet), (0x0805, .memMarch),
    (0x0806, .memMarchStop), (0x0807, .memRankRetire), (0x0700, .fabLaneConfig), (0x0701, .fabLinkTrain),
    (0x0702, .fabPortConfig), (0x0703, .fabDiscover) ] : List (Nat × (Pkt → Instr))).all (fun x => (x.2 (pk x.1)).wf && !(x.2 (pk 65535)).wf
      && !(x.2 { pk x.1 with fn := 6 }).wf) = true := by
  decide +kernel
/-- Rows that are packets: accepted with their opcode, refused with another's or from a function that does not exist. -/
theorem test_pktRows2 : ([
    (0x0704, .fabAddrClear), (0x0705, .fabRouteSet), (0x0706, .fabPartNodesSet), (0x0707, .fabTwinConfig),
    (0x0708, .fabTwinHandover), (0x0709, .fabLaneRestore), (0x0C00, .logFetch), (0x0C01, .logNvFetch),
    (0x0C02, .logClear), (0x0C03, .fltSafe), (0x0A00, .bstLogicRun), (0x0A01, .bstSliceTest), (0x0A02, .bstConfig),
    (0x0A03, .bstAnalogRun), (0x0A04, .bstProofRead), (0x0A05, .bstStop), (0x0400, .pwrBank), (0x0401, .pwrWake),
    (0x0402, .pwrSafeExit), (0x0403, .pwrShutdown), (0x0404, .pwrSettingsSave), (0x0405, .pwrCapSet),
    (0x0406, .pwrShedRankSet), (0x0407, .pwrCfgSet), (0x0408, .thmSnapshotFetch), (0x0500, .secFwUpdate),
    (0x0501, .secCalLoad), (0x0502, .secAttest), (0x0503, .secCertFetch), (0x0504, .secFuseProgram),
    (0x0505, .secLcAdvance), (0x0506, .secSvnCommit) ] : List (Nat × (Pkt → Instr))).all (fun x => (x.2 (pk x.1)).wf && !(x.2 (pk 65535)).wf
      && !(x.2 { pk x.1 with fn := 6 }).wf) = true := by
  decide +kernel
theorem test_illFormed0 : ([
    .intSwiRegisterWrite 6 0, .intSwiRegisterWrite 0 14, .intClaimRead 6 0, .intClaimRead 0 6,
    .intCompleteWrite 6 0 0, .intCompleteWrite 0 6 0, .intCompleteWrite 0 0 1024, .intDelivery 6,
    .moderationWindowEnd 6, .faultTrap 6 0, .faultTrap 0 65536, .routineYield 65536, .groupRelease 20 0,
    .groupRelease 0 65536, .evrCtrlCommit 6, .evrCtrlDiscard 6, .evrSwPub 6 0, .evrSwPub 0 256,
    .chanRateTripClear 6 0, .chanRateTripClear 0 256, .cellFilterSettled 64, .wakeEvent 256, .tdCtrlAnchor 6 0,
    .tdCtrlAnchor 0 5, .tdCtrlPropagate 6 0, .tdCtrlPropagate 0 5, .tdCtrlRelease 6 0, .tdCtrlRelease 0 5,
    .anchorLoad 5, .ttuFire 32, .tcuCapture 16 0 0, .tcuCapture 0 (2 ^ 64) 0, .tcuCapture 0 0 16, .tcuTimeHiRead 6 0,
    .tcuTimeHiRead 0 16, .reg64LowRead 6 0, .reg64LowRead 0 (2 ^ 26), .reg64HighWrite 6 0 0,
    .reg64HighWrite 0 (2 ^ 26) 0, .registerWrite 6 0 0, .registerWrite 0 (2 ^ 26) 0, .drvEnvDataAccess 6 0 (default),
    .drvEnvDataAccess 0 4 (default), .heatTripWrite 6 0, .heatTripWrite 0 160, .heatTrip 160, .spareCtrlSwap 6 0 0,
    .spareCtrlSwap 0 48 0, .spareCtrlSwap 0 0 8, .spareCtrlRelease 6 0 ] : List Instr).all (fun i => !i.wf) = true := by
  decide +kernel
theorem test_illFormed1 : ([
    .spareCtrlRelease 0 48, .spareCopyComplete 48, .datapathFailure 320, .spareFailure 48, .flxPdCommit 6 0,
    .flxPdCommit 0 128, .flxRampEnd 128, .seqJumpReq 6 0 0, .seqJumpReq 0 160 0, .seqJumpReq 0 0 8, .partCtrlArm 6 0,
    .partCtrlArm 0 5, .partCtrlStop 6 0, .partCtrlStop 0 5, .partCtrlAbort 6 0, .partCtrlAbort 0 5,
    .armingComplete 5, .runStartCut 5, .startTime 5, .refillComplete 160 0, .refillComplete 0 2, .barrierNotice 5,
    .barrierRelease 5, .barrierTimeout 5, .regionAbortReceive 160, .jumpTaken 160, .markerPulseEnd 160 0,
    .markerPulseEnd 0 4, .timelineEffect 160, .wait 160, .segment 160, .shotStart 160, .shotEnd 160, .sync 160,
    .regionBegin 160, .regionEnd 160, .testwin 160, .prefetch 160, .endRun 160, .jump 160, .call 160, .ret 160,
    .loop 160, .endloop 160, .repeatN 160, .branchFlag 160, .branchCond 160, .waitCond 160, .waitCondResolve 160,
    .waitCondTimeout 160 ] : List Instr).all (fun i => !i.wf) = true := by
  decide +kernel
theorem test_illFormed2 : ([
    .clrc 160, .getc 160, .play 160, .acquire 160, .freq 160, .phaseAdd 160, .phaseSet 160, .phaseAddV 160,
    .frameReset 160, .level 160, .ldi 160, .addv 160, .subv 160, .addi 160, .cmp 160, .mul 160, .mac 160, .msu 160,
    .accv 160, .rnd 160, .expo 160, .norm 160, .clrf 160, .rdoKernQAccess 6 0 (default),
    .rdoKernQAccess 0 4 (default), .recConsWrite 6 0 0, .recConsWrite 0 5 0, .windowEnd 1024 [],
    .windowEnd 0 [(1, 0)], .windowEnd 0 [(0, 2048)], .windowEnd 0 [(0, -2049)], .earlyDecision 1024 [],
    .earlyDecision 0 [(1, 0)], .earlyDecision 0 [(0, 2048)], .earlyDecision 0 [(0, -2049)], .depletionStart 1024,
    .outcomeArrival 1024, .recordAssembled 5, .recordWrite 5, .decEntryWrite 6 0 0, .decEntryWrite 0 65536 0,
    .gatherComplete 64, .gatherTimeout 64, .cometAckSend 5 0, .cometAckSend 0 64, .cometAckReceive 5 0 0,
    .cometAckReceive 0 64 0, .cometAckReceive 0 0 (2 ^ 16), .cometAckTimeout 5 0, .cometAckTimeout 0 64 ] : List Instr).all (fun i => !i.wf) = true := by
  decide +kernel
theorem test_illFormed3 : ([
    .decoderUpdate 64 0, .frameBarrierPass 64, .acqCuArm 6 0, .acqCuArm 0 32, .acqCuStop 6 0, .acqCuStop 0 32,
    .acqCuSwTrig 6 0, .acqCuSwTrig 0 32, .acqMaskHiAccess 6 0 (default), .acqMaskHiAccess 0 4 (default),
    .strConsWrite 6 0 0, .strConsWrite 0 32 0, .triggerArrival 32 [] [], .triggerArrival 0 [(1, 0)] [],
    .triggerArrival 0 [(0, 2048)] [], .triggerArrival 0 [(0, -2049)] [], .triggerArrival 0 [] [⟨4, 0, 0⟩],
    .captureComplete 32 [], .captureComplete 0 [(1, 0)], .captureComplete 0 [(0, 2048)],
    .captureComplete 0 [(0, -2049)], .rearmEnd 32 [], .rearmEnd 0 [(1, 0)], .rearmEnd 0 [(0, 2048)],
    .rearmEnd 0 [(0, -2049)], .maskViolation 32 [], .maskViolation 0 [(1, 0)], .maskViolation 0 [(0, 2048)],
    .maskViolation 0 [(0, -2049)], .rateChange 32 [], .rateChange 0 [(1, 0)], .rateChange 0 [(0, 2048)],
    .rateChange 0 [(0, -2049)], .streamGap 32 [], .streamGap 0 [(1, 0)], .streamGap 0 [(0, 2048)],
    .streamGap 0 [(0, -2049)], .itemFlush 32 [], .itemFlush 0 [(1, 0)], .itemFlush 0 [(0, 2048)],
    .itemFlush 0 [(0, -2049)], .itemWrite 32, .markerInputEdge 64 false, .biasCodeWrite 6 0 0,
    .biasCodeWrite 0 512 0, .biasQstartWrite 6 0 0 0, .biasQstartWrite 0 4 0 0, .biasQstartWrite 0 0 4 0,
    .biasQcmdStart 6 0, .biasQcmdStart 0 512 ] : List Instr).all (fun i => !i.wf) = true := by
  decide +kernel
theorem test_illFormed4 : ([
    .biasQcmdStop 6 0, .biasQcmdStop 0 512, .biasQcmdFlush 6 0, .biasQcmdFlush 0 512, .biasQcmdRestore 6 0,
    .biasQcmdRestore 0 512, .queueClockRelease 512, .paceEvent 512, .paceHoldRelease 512, .biasSlewEnd 512,
    .spanSwitchEnd 512, .biasConditionReport 512 false false, .complianceWindowExpire 512, .monCmdStart 6 0,
    .monCmdStart 0 64, .monCmdStop 6 0, .monCmdStop 0 64, .monCmdInject 6 0, .monCmdInject 0 64,
    .monCalCtrlStart 6 0, .monCalCtrlStart 0 4, .monCalEnd 4, .monRefSettled 4, .monCommonCmdFire 6,
    .monCommonCmdRun 6, .monCommonCmdHalt 6, .monStartArrival 64, .conversionComplete 64 0,
    .conversionComplete 0 131072, .conversionComplete 0 (-131073), .monDataHiRead 6 0, .monDataHiRead 0 64,
    .memMarchCtrlStart 6, .memMarchCtrlStop 6, .memWinDataHiAccess 6 (default), .refreshDue 4 0 0 false,
    .refreshDue 0 2 0 false, .ddrAlert 4 0, .ddrAlert 0 2, .scrubRead 12 0 0, .scrubRead 0 4 0,
    .rowRepairComplete 3 0, .rowRepairComplete 12 0, .rowRepairComplete 4 4, .rankMoveComplete 4,
    .memoryInitComplete 11, .sqTailDoorbell 6 0 0, .sqTailDoorbell 0 64 0, .cqHeadDoorbell 6 0 0,
    .cqHeadDoorbell 0 64 0 ] : List Instr).all (fun i => !i.wf) = true := by
  decide +kernel
theorem test_illFormed5 : ([
    .sqCtrlEnableWrite 6 0 0, .sqCtrlEnableWrite 0 64 0, .packetFetch 64 (pk 0),
    .packetFetch 0 { pk 0 with fn := 6 }, .packetFetch 0 { pk 0 with sq := 1 }, .commandStart 64 0,
    .commandStart 0 65536, .atShotRelease 5, .completionPost 64, .vfFlr 0, .vfFlr 5, .functionD3hot 6,
    .hostMemoryFail 64 0, .hostMemoryFail 0 65536, .laneSlip 6 0, .laneSlip 0 32, .laneRetrain 6 0,
    .laneRetrain 0 32, .autoSlipStep 32, .laneCdrLock 32, .laneAligned 32, .alignTimeout 32, .laneLoss 32,
    .frameReceive 8 [], .frameReceive 0 [[], [], [], [], []], .lackStallTimeout 8, .wordExpire 8, .frameAckTimeout 8,
    .helloSend 8, .hello 8 0, .discover 8 0, .announce 8 0, .assign 8 0, .vector 8 0, .takeoverBoundary 5,
    .logEntryRead 6 0, .logEntryRead 0 16384, .safeEntry 256, .domainTestEnd 20 0, .sliceTurn 48, .sliceTestEnd 48 0,
    .sliceTestAbandon 48, .turnWaitExpire 48, .analogCheck 5 0 false, .analogCheck 0 512 false, .proofAnomaly 2,
    .pwrCtrlBank 6, .pwrCtrlWake 6, .pwrCtrlSave 6, .envelopeUpdate 65536 0 ] : List Instr).all (fun i => !i.wf) = true := by
  decide +kernel
theorem test_illFormed6 : ([
    .envelopeUpdate 0 65536, .bankedDoorbell 6 0 0, .bankedDoorbell 0 128 0, .thermalSample (List.replicate 95 0),
    .smbusRead 256, .chassisIdRead 256, .muteRelease 5, .playEnd 2304, .extFault 4 false, .hitForgotten 256,
    .functionD0 6, .boundaryScan 256, .deniedRead 6 0, .deniedRead 0 (2 ^ 26), .nop (.packet { pk 0 with fn := 6 }),
    .nop (.instr 160), .eventPublication (.table 1024), .eventPublication (.direct 5 0),
    .eventPublication (.direct 0 256) ] : List Instr).all (fun i => !i.wf) = true := by
  decide +kernel
theorem test_wellFormed0 : ([
    .intSwiRegisterWrite 0 0, .intClaimRead 0 0, .intCompleteWrite 0 0 0, .intDelivery 0, .moderationWindowEnd 0,
    .faultTrap 0 0, .routineYield 0, .groupRelease 0 0, .evrCtrlCommit 0, .evrCtrlDiscard 0, .evrSwPub 0 0,
    .chanRateTripClear 0 0, .cellFilterSettled 0, .wakeEvent 0, .tdCtrlAnchor 0 0, .tdCtrlPropagate 0 0,
    .tdCtrlRelease 0 0, .anchorLoad 0, .ttuFire 0, .tcuCapture 0 0 0, .tcuTimeHiRead 0 0, .reg64LowRead 0 0,
    .reg64HighWrite 0 0 0, .registerWrite 0 0 0, .drvEnvDataAccess 0 0 (default), .heatTripWrite 0 0, .heatTrip 0,
    .spareCtrlSwap 0 0 0, .spareCtrlRelease 0 0, .spareCopyComplete 0, .datapathFailure 0, .spareFailure 0,
    .flxPdCommit 0 0, .flxRampEnd 0, .seqJumpReq 0 0 0, .partCtrlArm 0 0, .partCtrlStop 0 0, .partCtrlAbort 0 0,
    .armingComplete 0, .runStartCut 0, .startTime 0, .refillComplete 0 0, .barrierNotice 0, .barrierRelease 0,
    .barrierTimeout 0, .regionAbortReceive 0, .jumpTaken 0, .markerPulseEnd 0 0, .timelineEffect 0, .wait 0 ] : List Instr).all Instr.wf = true := by
  decide +kernel
theorem test_wellFormed1 : ([
    .segment 0, .shotStart 0, .shotEnd 0, .sync 0, .regionBegin 0, .regionEnd 0, .testwin 0, .prefetch 0, .endRun 0,
    .jump 0, .call 0, .ret 0, .loop 0, .endloop 0, .repeatN 0, .branchFlag 0, .branchCond 0, .waitCond 0,
    .waitCondResolve 0, .waitCondTimeout 0, .clrc 0, .getc 0, .play 0, .acquire 0, .freq 0, .phaseAdd 0, .phaseSet 0,
    .phaseAddV 0, .frameReset 0, .level 0, .ldi 0, .addv 0, .subv 0, .addi 0, .cmp 0, .mul 0, .mac 0, .msu 0,
    .accv 0, .rnd 0, .expo 0, .norm 0, .clrf 0, .rdoKernQAccess 0 0 (default), .recConsWrite 0 0 0, .windowEnd 0 [],
    .earlyDecision 0 [], .depletionStart 0, .outcomeArrival 0, .recordAssembled 0 ] : List Instr).all Instr.wf = true := by
  decide +kernel
theorem test_wellFormed2 : ([
    .recordWrite 0, .decEntryWrite 0 0 0, .gatherComplete 0, .gatherTimeout 0, .cometAckSend 0 0,
    .cometAckReceive 0 0 0, .cometAckTimeout 0 0, .decoderUpdate 0 0, .frameBarrierPass 0, .acqCuArm 0 0,
    .acqCuStop 0 0, .acqCuSwTrig 0 0, .acqMaskHiAccess 0 0 (default), .strConsWrite 0 0 0, .triggerArrival 0 [] [],
    .captureComplete 0 [], .rearmEnd 0 [], .maskViolation 0 [], .rateChange 0 [], .streamGap 0 [], .itemFlush 0 [],
    .itemWrite 0, .markerInputEdge 0 false, .biasCodeWrite 0 0 0, .biasQstartWrite 0 0 0 0, .biasQcmdStart 0 0,
    .biasQcmdStop 0 0, .biasQcmdFlush 0 0, .biasQcmdRestore 0 0, .queueClockRelease 0, .paceEvent 0,
    .paceHoldRelease 0, .biasSlewEnd 0, .spanSwitchEnd 0, .biasConditionReport 0 false false,
    .complianceWindowExpire 0, .monCmdStart 0 0, .monCmdStop 0 0, .monCmdInject 0 0, .monCalCtrlStart 0 0,
    .monCalEnd 0, .monRefSettled 0, .monCommonCmdFire 0, .monCommonCmdRun 0, .monCommonCmdHalt 0, .monStartArrival 0,
    .conversionComplete 0 0, .monDataHiRead 0 0, .memMarchCtrlStart 0, .memMarchCtrlStop 0 ] : List Instr).all Instr.wf = true := by
  decide +kernel
theorem test_wellFormed3 : ([
    .memWinDataHiAccess 0 (default), .refreshDue 0 0 0 false, .ddrAlert 0 0, .scrubRead 0 0 0,
    .rowRepairComplete 4 0, .rankMoveComplete 0, .memoryInitComplete 0, .sqTailDoorbell 0 0 0, .cqHeadDoorbell 0 0 0,
    .sqCtrlEnableWrite 0 0 0, .packetFetch 0 (pk 0), .commandStart 0 0, .atShotRelease 0, .completionPost 0,
    .vfFlr 1, .functionD3hot 0, .hostMemoryFail 0 0, .laneSlip 0 0, .laneRetrain 0 0, .autoSlipStep 0,
    .laneCdrLock 0, .laneAligned 0, .alignTimeout 0, .laneLoss 0, .frameReceive 0 [], .lackStallTimeout 0,
    .wordExpire 0, .frameAckTimeout 0, .helloSend 0, .hello 0 0, .discover 0 0, .announce 0 0, .assign 0 0,
    .vector 0 0, .takeoverBoundary 0, .logEntryRead 0 0, .safeEntry 0, .domainTestEnd 0 0, .sliceTurn 0,
    .sliceTestEnd 0 0, .sliceTestAbandon 0, .turnWaitExpire 0, .analogCheck 0 0 false, .proofAnomaly 0,
    .pwrCtrlBank 0, .pwrCtrlWake 0, .pwrCtrlSave 0, .envelopeUpdate 0 0, .bankedDoorbell 0 0 0,
    .thermalSample (List.replicate 96 0) ] : List Instr).all Instr.wf = true := by
  decide +kernel
theorem test_wellFormed4 : ([
    .smbusRead 0, .chassisIdRead 0, .muteRelease 0, .playEnd 0, .extFault 0 false, .hitForgotten 0, .functionD0 0,
    .boundaryScan 0, .deniedRead 0 0, .nop (.packet (pk 0)), .nop (.instr 159), .eventPublication (.direct 4 255) ] : List Instr).all Instr.wf = true := by
  decide +kernel

/-! ### States of tests -/

/-- The module in READY with input power, its settings restored. -/
def wBase : State := { State.reset with
  pwr := { State.reset.pwr with input := true, mode := .ready, restored := true, convOn := true } }
/-- A packet of PF0 with tag 0 on queue 0. -/
def wPkt (op target : Nat) (words : List Word) (host : List Byte) : Pkt :=
  { fn := 0, sq := 0, op := op, tag := 0, len := 4 * words.length, part := 0, flags := 0, target := target, rsv := 0, words := words, host := host }
/-- Its slot, under execution. -/
def wSlot (p : Pkt) : Slot :=
  { p := p, st := .executing, shot := none, head := 0, t0 := 0, status := 0, detail := 0xFF, word := 0, result := 0, drop := false, begun := false, holds := [] }
/-- A state with that command in hand. -/
def wCmd (s : State) (p : Pkt) : State := { s with hif := { s.hif with slots := [wSlot p] } }
theorem wHand (s : State) (p : Pkt) (h : s.serving = true) : (wCmd s p).InHand p.op p p := by
  refine ⟨.inl h, p, ?_, rfl⟩
  simp [State.started, wCmd, wSlot, Slot.isOf]
/-- Sequencer `q` of partition 0 in state `x`, in a run, with word `w` at its address in a resident window. -/
def wSeq (q : Nat) (x : Seq) (w : W64) : State :=
  let s := ((wBase.p (Page.seq q) F.SEQ_CTRL_ENABLE 1).p (Page.seq q) F.SEQ_IMAGE_LEN_IMAGE_LEN 100).p (Page.part 0) F.PART_STATE_STATE 3
  { s with
    sqr.seq := [(q, x)]
    sqr.part := [(0, { Part.init with cut := true, firstShot := true })]
    sqr.store := if w = 0 then [] else [(q * 2 * 8192 + x.pc, w)] }
/-- A sequencer outside a region, at address 5 and timeline tick 95, with window 0 in its store. -/
def wX : Seq := { Seq.init with st := 2, tau := 95, pc := 5, a := ⟨some 0, none, false⟩ }
theorem wIssues (q : Nat) (x : Seq) (w : W64) (op : Nat)
    (h : ((wSeq q x w).canIssue q && decide (((wSeq q x w).sqs q).pc < (wSeq q x w).imgLen q)
      && decide ((wSeq q x w).iword q ((wSeq q x w).sqs q).pc = some w) && decide (opc w = op) && wordOk (isRs q) w
      && decide (((wSeq q x w).sqs q).rep = none) && !((wSeq q x w).sqs q).vec && !((wSeq q x w).sqs q).atAbort
      && ((wSeq q x w).sqs q).leads w ((wSeq q x w).tk ((wSeq q x w).seqOwner q))
      && decide ((wSeq q x w).tk ((wSeq q x w).seqOwner q) + 92 ≤ ((wSeq q x w).sqs q).tau)) = true) :
    (wSeq q x w).Issues q op w := by
  simp only [Bool.and_eq_true, decide_eq_true_eq, Bool.not_eq_true'] at h
  obtain ⟨⟨⟨⟨⟨⟨⟨⟨⟨h1, h2⟩, h3⟩, h4⟩, h5⟩, h6⟩, h7⟩, h8⟩, h9⟩, h10⟩ := h
  exact ⟨h1, h2, h3, h4, h5, h6, h7, h8, h9, h10⟩
/-- An ASSIGN word for this module, whatever its identity. -/
theorem wAssign : bitsOf (BitVec.ofNat 64 (3 + 2 ^ 16 * modId)) 3 0 = 3
    ∧ (BitVec.ofNat 64 (3 + 2 ^ 16 * modId)).toNat / 2 ^ 16 = modId ∧ bitsOf (BitVec.ofNat 64 (3 + 2 ^ 16 * modId)) 10 10 = 0 := by
  have h : modId < 2 ^ 48 := Config.moduleId.isLt
  have hw : (BitVec.ofNat 64 (3 + 2 ^ 16 * modId)).toNat = 3 + 2 ^ 16 * modId := by
    rw [BitVec.toNat_ofNat]
    exact Nat.mod_eq_of_lt (by omega)
  unfold bitsOf
  rw [hw]
  omega
theorem wLe : Fuses.Le .factory .factory :=
  ⟨fun _ h => h, Nat.le_refl _, Nat.le_refl _, Nat.le_refl _, fun h => h, fun h => h, fun h => h, List.prefix_refl _, List.prefix_refl _⟩
/-- When the register path lets an access go on. -/
theorem wOpens (s : State) (fn a : Nat) (h : ((s.pwr.mode ≠ .off || s.recovery) && (!s.bankedLimits || bankedAddr a)
    && s.sees fn a && !s.held a) = true) : s.Opens fn a := by
  simp only [Bool.and_eq_true, Bool.or_eq_true, decide_eq_true_eq, Bool.not_eq_true'] at h
  obtain ⟨⟨⟨h1, h2⟩, h3⟩, h4⟩ := h
  unfold State.Opens State.gate
  rcases h1 with h1 | h1 <;> rcases h2 with h2 | h2 <;> simp [h1, h2, h3, h4]
theorem wAnswers (s : State) (fn a : Nat) (h : ((s.pwr.mode ≠ .off || s.recovery) && (!s.bankedLimits || bankedAddr a)
    && s.sees fn a) = true) : s.Answers fn a := by
  simp only [Bool.and_eq_true, Bool.or_eq_true, decide_eq_true_eq, Bool.not_eq_true'] at h
  obtain ⟨⟨h1, h2⟩, h3⟩ := h
  unfold State.Answers State.gate
  rcases h1 with h1 | h1 <;> rcases h2 with h2 | h2 <;> simp [h1, h2, h3]
theorem wPoison (s : State) (n a k x : Nat)
    (h : ∀ m < n + 1, (((s.fresh 32).1).bump Page.mem F.MEM_RETRY_STALLS m).firstPoison a k = some x) :
    (s.ddrIssue n).firstPoison a k = some x := h _ (Nat.mod_lt _ (Nat.succ_pos _))
/-- Port 0 UP with its first lane locked, one bit short of a whole block `v` with last bit 0, and the blocks `b` already there. -/
def wLine (v : Nat) (b : Tab (Option Nat)) : State :=
  let s := ((((wBase.p (Page.port 0) F.FAB_PORT_STATUS_STATE 2).p (Page.port 0) F.FAB_PORT_STATUS_TX_WIDTH 4).p (Page.port 0)
    F.FAB_PORT_STATUS_RX_WIDTH 4).p (Page.lane 0) F.FAB_LANE_STATUS_RX_STATE 4)
  { s with
    fab.lane := [(0, { Lane.zero with rx := ⟨0, false, 0, 0, v, 83, 0, 0⟩ })]
    fab.port := [(0, { FPort.zero with blocks := b })] }
theorem wRhu (n : Nat) : rhu 0 n = 0 := by
  unfold rhu
  split
  · rfl
  · obtain ⟨m, rfl⟩ : ∃ m, n = m + 1 := ⟨n - 1, by omega⟩
    simp only [Nat.add_sub_cancel, Int.zero_add]
    have h : (0 : Int) < 2 ^ m := Int.pow_pos (by decide)
    exact Int.ediv_eq_zero_of_lt (Int.le_of_lt h) (by rw [Int.pow_succ]; omega)
/-- An input without codes gives channelizer outputs of 0. -/
theorem wZero (s : State) (t T n m : Nat) (hn : m = n) (h : s.adcCodes (toneInput t) = []) :
    List.replicate n (0, 0) = s.toneIn t T m := by
  subst hn
  unfold State.toneIn
  rw [eq_comm, List.eq_replicate_iff]
  refine ⟨by simp, fun x hx => ?_⟩
  obtain ⟨i, -, rfl⟩ := List.mem_map.1 hx
  unfold State.chanAt chanOut
  rw [h]
  simp only [chanSum, Int.mul_zero, wRhu]
  rfl
theorem wFour {a b c d e : Prop} (h : a ∧ b ∧ c ∧ d) (k : e) : a ∧ b ∧ c ∧ d ∧ e := ⟨h.1, h.2.1, h.2.2.1, h.2.2.2, k⟩
/-! ### The spec's worked examples -/

/-- The state that a meaning answers. -/
def nextOf (o : Out) : State := match o with | .next s => s | .fault _ => State.reset | .refused _ => State.reset

/-- The example after R75: a frame at 5 GHz retuned by 1 Hz at 250 s. -/
theorem test_retune : retune 87960930222080 0 87960930239672 4000000000000 = 744177664000
    ∧ phase 87960930239672 744177664000 4000000000000 = 0 := by decide +kernel
/-- The example after R102: position, first and last output sample of a 20 ns envelope. -/
theorem test_play_position :
    let p : Play := ⟨0, 40, 8, 4000000000005, 7, 0, 0, none, false⟩
    p.pos 1 (4000000000005 + 20) = some 313 ∧ p.first 1 = 4000000000005 + 1 ∧ p.pos 1 (4000000000005 + 1) = some 9
      ∧ p.pos 1 (4000000000005 + 320) = some 5113 ∧ p.last 1 = 4000000000005 + 321 := by decide +kernel
/-- The example after R143: three samples of an IIR section's step response. -/
theorem test_iir_step : iirStep false 5242880 (-4194304) (-3145728) 2097152 (0, 0) = (2621440, false)
    ∧ iirStep false 5242880 (-4194304) (-3145728) 2097152 (2097152, 2621440) = (2490368, false)
    ∧ iirStep false 5242880 (-4194304) (-3145728) 2097152 (2097152, 2490368) = (2392064, false) := by decide +kernel
/-- The example after R226: the fields of a PLAY word. -/
theorem test_play_word : let w : W64 := 0x80028900015C32A5
    opc w = 0x20 ∧ ifld w 56 44 = 40 ∧ ifld w 43 43 = 1 ∧ ifld w 41 26 = 16384 ∧ ifld w 25 18 = 0x57 ∧ ifld w 16 12 = 3
      ∧ ifld w 11 0 = 677 ∧ wordOk false w = true := by decide +kernel
/-- The example after R243: MUL, RND, EXP and NORM of a calibration factor. -/
theorem test_mul : (((nextOf (execMul 0 (wSeq 0 { wX with v := [(1, 23170), (2, 20000)] } (0x35 * 2 ^ 58 + 0x210)))).sqs 0).acc
    = 463400000) := by decide +kernel
theorem test_rnd : ((nextOf (execRnd 0 (wSeq 0 { wX with acc := 463400000 } (0x39 * 2 ^ 58 + 0xF003)))).sqs 0).v.get 0 3
    = 14142 := by decide +kernel
theorem test_expo : ((nextOf (execExpo 0 (wSeq 0 { wX with acc := 463400000 } (0x3A * 2 ^ 58 + 4)))).sqs 0).v.get 0 4
    = 10 := by decide +kernel
theorem test_norm : ((nextOf (execNorm 0 (wSeq 0 { wX with acc := 463400000 } (0x3B * 2 ^ 58 + 4)))).sqs 0).acc
    = 474521600000 := by decide +kernel
/-- R241: the exact half goes toward positive infinity. -/
theorem test_rnd_half : rhu (-3) 1 = -1 := by decide
/-- R240: ADDV saturates and sets the sticky flag. -/
theorem test_addv_saturates :
    let t := (nextOf (execAddv 0 (wSeq 0 { wX with v := [(1, 0x7FFF), (2, 1)] } (0x31 * 2 ^ 58 + 0x213)))).sqs 0
    t.v.get 0 3 = 0x7FFF ∧ t.vSat = true := by decide +kernel
/-- The example after R265: the margin of an early decision at 188 and at 189 samples. -/
theorem test_early_margin :
    let d : Disc := ⟨fun x => match x with | 0 => (-1024, 0) | 1 => (1024, 0) | _ => (0, 1024), fun _ => 0, fun _ => 0, 0⟩
    d.best ⟨800 * 188, 0, false, false⟩ 188 = (1, 2350) ∧ d.best ⟨800 * 189, 0, false, false⟩ 189 = (1, 2363) := by
  decide +kernel
/-- The example after R404: a byte of the interleaved region. -/
theorem test_memMap : ((wBase.p Page.mem F.MEM_MAP_GRAIN_EXP 12).p Page.mem F.MEM_MAP_LOCAL 8).memMap 0x800005123
    = some (1, 0x200001123) := by decide +kernel
/-- The example after R433: registers in PF0's and in a VF's view. -/
theorem test_views : Page.drv 45 = 0x140D000 ∧ fnAddr 1 0xA0D000 = some 0x140D000 ∧ Page.tone 681 = 0x190D480
    ∧ fnAddr 1 0xC8D480 = some 0x190D480 ∧ Page.db 33 = 0x1108 ∧ fnAddr 1 0x1108 = some 0x1108 := by decide +kernel
/-- The example after R299: the route of tone 45. -/
theorem test_route : Page.route 45 = 0x20010B4 := by decide
/-- The example after R555: the LUT of a set-and-clear latch. -/
theorem test_latch_lut : (List.range 16).all (fun n => lutBit 0xBBAA (fun k => n.testBit k)
    = (n.testBit 0 || (n.testBit 3 && !n.testBit 1))) = true := by decide +kernel
/-- The example after R586: SOURCE of tone 681. -/
theorem test_gid : gid 14 681 = 0x72A9 := by decide

/-! ### One step -/

/-- R621, R627: input power starts the start-up sequence. -/
theorem test_powerOn : (nextOf (execPowerOn State.reset)).pwr.busy = .startup 1 := by decide +kernel
/-- R453: NOP completes SUCCESS. -/
theorem test_nop : (nextOf (execNop (.packet (wPkt 0 0 [] [])) (wCmd wBase (wPkt 0 0 [] [])))).hif.slots.map
    (fun sl => (sl.st, sl.status)) = [(.done, 0)] := by decide +kernel
/-- R113, R9: a register write of 0x4 to TIM_SKEW reads back. -/
theorem test_registerWrite : (nextOf (execRegisterWrite 0 0x30000C 0 wBase)).reg 0x300008 = wBase.reg 0x300008
    ∧ (nextOf (execRegisterWrite 0 0x300008 4 wBase)).reg 0x300008 = 4 := by decide +kernel
/-- R58: the CRC that closes a frame is checked. -/
theorem test_anchorCrc : afCrcOk 15311461375901225930089902024131 = true ∧ afCrcOk 15311461375901225930089918801347 = false := by
  decide +kernel
/-- The table gives no row bits. -/
theorem test_decode : decodeTableWord 16 0 = none ∧ decodeTableWord 64 0x8002 = none := ⟨rfl, rfl⟩
theorem test_withFetchWord : wBase.withFetchWord 16 0 = wBase := rfl

/-! ### Witnesses: the hypotheses of the statements can be met

A clause whose only hypothesis is that a command is in hand, or that the register path lets an access go on, is met by the first
three of these for every opcode, target, parameter and address; each other clause has its own witness, in the order of the
statement. -/

theorem witness_inHand (op target : Nat) (words : List Word) (host : List Byte) :
    ∃ (s : State) (p y : Pkt), s.InHand op p y ∧ y.target = target ∧ y.words = words ∧ y.host = host :=
  ⟨wCmd wBase (wPkt op target words host), wPkt op target words host, wPkt op target words host,
    wHand _ _ (by decide +kernel), rfl, rfl, rfl⟩
theorem witness_opens (a : Nat) : wBase.Opens 0 a := rfl
theorem witness_answers (a : Nat) : wBase.Answers 0 a := rfl
theorem witness_HearthCommands :
    (∃ (s : State) (p : Pkt) (y : Pkt), (s.InHand 0x0003 p y) ∧ ((s.inRun y).quiescent y.who = true))
    ∧ (∃ (s : State) (p : Pkt) (y : Pkt) (b : List Byte), (s.InHand 0x0002 p y) ∧ (y.data (y.n 2) = some b) ∧ ((s.inRun
      y).quiescent y.who = true)) :=
  ⟨⟨wCmd wBase (wPkt 0x0003 0 [] []), (wPkt 0x0003 0 [] []), (wPkt 0x0003 0 [] []), wHand _ _ (by decide +kernel),
    by decide +kernel⟩,
  ⟨wCmd wBase (wPkt 0x0002 0 [] []), (wPkt 0x0002 0 [] []), (wPkt 0x0002 0 [] []), [], wHand _ _ (by decide +kernel),
    by decide +kernel⟩⟩
theorem witness_InterruptControl :
    (∃ (s : State) (fn : Nat) (sw : Nat), (s.Opens fn (Page.int + 8)) ∧ (sw < 14) ∧ (s.int.pend.get false (1010 + sw) =
      false))
    ∧ (∃ (s : State) (fn : Nat) (t : Nat) (n : Nat), (s.Answers fn (Page.tgt t)) ∧ (1 ≤ t) ∧ (t < 6) ∧ (s.urgent
      (s.eligible t) = some n))
    ∧ (∃ (s : State) (fn : Nat) (t : Nat) (id : Nat), (s.Opens fn (Page.tgt t + 4)) ∧ (1 ≤ t) ∧ (t < 6) ∧ (s.intAct (id %
      1024) = t + 1))
    ∧ (∃ (s : State) (t : Nat), (t < 6) ∧ (s.intRuns = true) ∧ (s.reqRises t = true) ∧ (s.intHeld t = false))
    ∧ (∃ (s : State) (t : Nat), (t < 6) ∧ (s.intRuns = true) ∧ (s.reqRises t = true) ∧ (s.int.win.get 0 t ≤ s.now)) :=
  ⟨⟨wBase, 0, 0, wOpens _ _ _ (by decide +kernel), by decide +kernel⟩,
  ⟨{ ((wBase.p (Page.src 1010) F.INT_SRC_CFG_ENABLE 1).p (Page.src 1010) F.INT_SRC_CFG_TARGET 1).p (Page.src 1010) F.INT_SRC_CFG_PRIO 5 with int.pend := [(1010, true)] },
    0, 1, 1010, wAnswers _ _ _ (by decide +kernel), by decide +kernel⟩,
  ⟨{ wBase with int.act := [(1010, 2)] }, 0, 1, 1010, wOpens _ _ _ (by decide +kernel), by decide +kernel⟩,
  ⟨{ ((wBase.p (Page.src 1010) F.INT_SRC_CFG_ENABLE 1).p (Page.src 1010) F.INT_SRC_CFG_TARGET 1).p (Page.src 1010) F.INT_SRC_CFG_PRIO 5 with int.pend := [(1010, true)] },
    1, by decide +kernel⟩,
  ⟨{ ((wBase.p (Page.src 1010) F.INT_SRC_CFG_ENABLE 1).p (Page.src 1010) F.INT_SRC_CFG_TARGET 1).p (Page.src 1010) F.INT_SRC_CFG_PRIO 5 with int.pend := [(1010, true)] },
    1, by decide +kernel⟩⟩
theorem witness_HearthTraps :
    (∃ (s : State) (upc : Nat), (s.intRuns = true) ∧ (s.hrt.frames = []))
    ∧ (∃ (s : State) (upc : Nat) (c : Nat) (m : Micro) (cl : Option Nat) (l : List (Micro × Nat × Option Nat)), (s.intRuns
      = true) ∧ (s.hrt.frames = (m, c, cl) :: l))
    ∧ (∃ (s : State), (s.intRuns = true) ∧ (2 ∈ s.hrt.traps) ∧ (s.hrt.frames.length < 4))
    ∧ (∃ (s : State), (s.intRuns = true) ∧ (s.due s.hrt.tickAt (usecs 1) = true) ∧ (s.hrt.frames.length < 4))
    ∧ (∃ (s : State) (m : Micro) (c : Nat) (l : List (Micro × Nat × Option Nat)), (s.intRuns = true) ∧ (s.hrt.frames = (m,
      c, none) :: l) ∧ (l.length < 3) ∧ (s.hrt.quiesce = none))
    ∧ (∃ (s : State) (upc : Nat) (k : Nat) (x : Ctx), (s.hrt.ctx.find? (fun c => c.2.st = 1) = some (k, x)) ∧
      (s.hrt.quiesce = none))
    ∧ (∃ (s : State) (ctx : Nat) (grp : Nat), ((s.hctx ctx).st ≠ 0) ∧ (grp ∈ (s.hctx ctx).groups)) :=
  ⟨⟨wBase, 0, by decide +kernel⟩,
  ⟨{ wBase with hrt.frames := [(Micro.zero, 2, none)] }, 0, 2, Micro.zero, none, [], by decide +kernel⟩,
  ⟨{ wBase with hrt.traps := [2] }, by decide +kernel⟩,
  ⟨wBase, by decide +kernel⟩,
  ⟨{ wBase with hrt.frames := [(Micro.zero, 2, none)] }, Micro.zero, 2, [], by decide +kernel⟩,
  ⟨{ wBase with hrt.ctx := [(3, { Ctx.zero with st := 1 })] }, 7, 3, { Ctx.zero with st := 1 }, by decide +kernel⟩,
  ⟨{ wBase with hrt.ctx := [(3, { Ctx.zero with st := 1, groups := [5] })] }, 3, 5, by decide +kernel⟩⟩
theorem witness_EventRouterCommands :
    ∃ (s : State) (p : Pkt) (y : Pkt) (cells : List (Nat × Word × Word × Word)) (t : List Nat) (pubs : List (Nat × Word)),
      (s.InHand 0x0203 p y) ∧ ((s.inRun y).allocCells ((s.inRun y).evrConf y.fn).cells [] = some (cells, t)) ∧ ((s.inRun
      y).allocPubs ((s.inRun y).evrConf y.fn).pubs t = some pubs) ∧ (evrCycle (evrEdges cells) = none) ∧ ((s.inRun
      y).evrPermitted ⟨cells, pubs⟩ = true) :=
  ⟨wCmd wBase (wPkt 0x0203 0 [] []), (wPkt 0x0203 0 [] []), (wPkt 0x0203 0 [] []), ((List.range 64).map (fun c => (c, 0, 0,
    0))), [], ((List.range 64).map (fun e => (e, 0))), wHand _ _ (by decide +kernel), by decide +kernel⟩
theorem witness_EventRouterActions :
    (∃ (s : State) (fn : Nat) (cells : List (Nat × Word × Word × Word)) (t : List Nat) (pubs : List (Nat × Word)), (s.Opens
      fn (Page.evr + 4)) ∧ (s.allocCells (s.evrConf fn).cells [] = some (cells, t)) ∧ (s.allocPubs (s.evrConf fn).pubs t =
      some pubs) ∧ (evrCycle (evrEdges cells) = none) ∧ (s.evrPermitted ⟨cells, pubs⟩ = true))
    ∧ (∃ (s : State) (own : Nat) (ch : Nat), (ch < 256) ∧ (s.pwr.mode ≠ .off) ∧ (s.pwr.mode ≠ .banked) ∧ (s.on (Page.evch
      ch) F.EVR_CHAN_CFG_ENABLE = true) ∧ (s.mayPublish own ch = true) ∧ (s.evr.now.get false ch = false) ∧ (s.on
      (Page.evch ch) F.EVR_CHAN_STATUS_RATE_TRIP = false))
    ∧ (∃ (s : State) (fn : Nat) (ch : Nat), (ch < 256) ∧ (s.Opens fn (Page.evch ch + 4)) ∧ (full fn = true ∨ s.evOwner ch =
      fn))
    ∧ (∃ (s : State) (c : Nat), (c ∈ s.liveCells) ∧ (s.cellF c F.EVR_CELL_CFG_FILT ≠ 0) ∧ ((s.evr.cell.get Cell.zero c).out
      ≠ (s.evr.cell.get Cell.zero c).pub) ∧ (s.cellF c F.EVR_CELL_CFG_FILT ≤ (s.evr.cell.get Cell.zero c).held))
    ∧ (∃ (s : State) (u : State) (ch : Nat), (ch < 256) ∧ (s.wakes ch = true) ∧ (s.pwr.busy = .none) ∧ (s.on Page.tim
      F.TIM_STATUS_REF_OK = true) ∧ (u = ({ s.flag Page.tim F.TIM_STATUS_PLL_LOCK with pwr.busy := .wake }).convUp)) :=
  ⟨⟨wBase, 0, ((List.range 64).map (fun c => (c, 0, 0, 0))), [], ((List.range 64).map (fun e => (e, 0))), wOpens _ _ _
    (by decide +kernel), by decide +kernel⟩,
  ⟨wBase, 0, 0, by decide +kernel⟩,
  ⟨wBase, 0, 0, by decide +kernel, wOpens _ _ _ (by decide +kernel), .inl rfl⟩,
  ⟨{ (wBase.p (Page.evcell 3) F.EVR_CELL_CFG_A_EN 1).p (Page.evcell 3) F.EVR_CELL_CFG_A_FILT 2 with evr.cell := [(3, ⟨true, false, 2⟩)] },
    3, by decide +kernel⟩,
  ⟨{ ((wBase.p (Page.evch 4) F.EVR_CHAN_CFG_WAKE 1).p (Page.evch 4) F.EVR_CHAN_CFG_AO 1).p Page.tim F.TIM_STATUS_REF_OK 1 with pwr.mode := .banked },
    _, 4, by decide +kernel, by decide +kernel, by decide +kernel, by decide +kernel, rfl⟩⟩
theorem witness_TimingCommands :
    ∃ (s : State) (p : Pkt) (y : Pkt), (s.InHand 0x0302 p y) ∧ (s.anchored y.target = true) :=
  ⟨wCmd (wBase.p (Page.td 2) F.TD_STATE_ANCHORED 1) (wPkt 0x0302 2 [] []), (wPkt 0x0302 2 [] []), (wPkt 0x0302 2 [] []),
    wHand _ _ (by decide +kernel), by decide +kernel⟩
theorem witness_AnchoringActions :
    (∃ (s : State) (fn : Nat) (d : Nat), (d < 5) ∧ (s.Opens fn (tdCtrlAt d)) ∧ (s.anchorRefusal d (s.g64 (Page.td d)
      F.TD_ANCHOR_LO) = none))
    ∧ (∃ (s : State) (fn : Nat) (d : Nat), (d < 5) ∧ (s.Opens fn (tdCtrlAt d)) ∧ (s.propagateBad d = false))
    ∧ (∃ (s : State) (fn : Nat) (d : Nat), (d < 5) ∧ (s.Opens fn (tdCtrlAt d)) ∧ (s.anchored d = true) ∧ (s.idle d = true))
    ∧ (∃ (s : State) (d : Nat) (e : Nat) (v : W64), ((s.tim.doms.get Dom.zero d).pend = some (v, e)) ∧ (s.anchored d =
      false))
    ∧ (∃ (s : State) (f : BitVec 104) (d : Nat), (s.pwr.mode ≠ .off) ∧ (afPreamble f = 0xA5C3) ∧ (afCrcOk f = true) ∧
      (afDomain f = d) ∧ (d < 5) ∧ (s.anchored d = false) ∧ (s.anchoring d = false) ∧ (s.refOk = true) ∧ (s.on Page.tim
      F.TIM_CTRL_LINK_OUT_EN = false))
    ∧ (∃ (s : State) (f : AFrame) (l : List AFrame), (s.tim.fwd = f :: l))
    ∧ (∃ (s : State) (n : Nat), (s.tim.tries = some n) ∧ (s.pwr.safeExit = none) ∧ (s.pwr.mode ≠ .off)) :=
  ⟨⟨((wBase.p Page.tim F.TIM_STATUS_REF_OK 1).p Page.tim F.TIM_CTRL_MASTER 1), 0, 2, by decide +kernel, wOpens _ _ _
    (by decide +kernel), by decide +kernel⟩,
  ⟨((((wBase.p Page.tim F.TIM_STATUS_REF_OK 1).p Page.tim F.TIM_CTRL_MASTER 1).p Page.tim F.TIM_CTRL_LINK_OUT_EN 1).p
    (Page.td 2) F.TD_STATE_ANCHORED 1), 0, 2, by decide +kernel, wOpens _ _ _ (by decide +kernel), by decide +kernel⟩,
  ⟨(wBase.p (Page.td 2) F.TD_STATE_ANCHORED 1), 0, 2, by decide +kernel, wOpens _ _ _ (by decide +kernel),
    by decide +kernel⟩,
  ⟨{ wBase with tim.doms := [(2, ⟨0, some (160, 3)⟩)] }, 2, 3, 160, by decide +kernel⟩,
  ⟨(wBase.p Page.tim F.TIM_STATUS_REF_OK 1), 15311461375901225930089902024131, 2, by decide +kernel⟩,
  ⟨{ wBase with tim.fwd := [⟨0, 0⟩] }, ⟨0, 0⟩, [], by decide +kernel⟩,
  ⟨{ wBase with tim.tries := some 1 }, 1, by decide +kernel⟩⟩
theorem witness_ReferenceAndWallTime :
    (∃ (s : State) (u : State), (s.tim.refIn = true) ∧ (u = forEach [0, 1, 2, 3, 4]
      (((({ s with tim.refIn := false }).unflag Page.tim F.TIM_STATUS_REF_OK).unflag Page.tim F.TIM_STATUS_PLL_LOCK).flag
      Page.tim F.TIM_EVENTS_REF_LOST) State.unanchor))
    ∧ (∃ (s : State) (u : State), (s.refOk = false) ∧ (s.pwr.input = true) ∧ (s.pwr.deep = false) ∧ (s.pwr.mode = .safe ∨
      s.pwr.mode = .ready) ∧ (u = ({ s.flag Page.tim F.TIM_STATUS_REF_OK with tim.refIn := true }.flag Page.tim
      F.TIM_EVENTS_REF_RESTORED).clearPending 0))
    ∧ (∃ (s : State) (m : PtpSync), (s.pwr.mode ≠ .off) ∧ (s.on Page.tim F.TIM_PTP_CFG_ENABLE = true) ∧ (m.best = true) ∧
      (s.g Page.tim F.TIM_PTP_CFG_TRANSPORT = m.transport) ∧ (s.g Page.tim F.TIM_PTP_CFG_DOMAIN_NUMBER = m.domain) ∧
      (s.wallState = 0) ∧ (3 ≤ s.tim.nValid) ∧ (s.tim.stepOk = true))
    ∧ (∃ (s : State), (s.wallState = 1 ∨ s.wallState = 2)) :=
  ⟨⟨{ (wBase.p Page.tim F.TIM_STATUS_REF_OK 1) with tim.refIn := true }, _, by decide +kernel, rfl⟩,
  ⟨wBase, _, by decide +kernel, by decide +kernel, by decide +kernel, by decide +kernel, rfl⟩,
  ⟨{ wBase.p Page.tim F.TIM_PTP_CFG_ENABLE 1 with tim.nValid := 3 }, ⟨0, 0, true, 0, 0, 0, 0⟩, by decide +kernel⟩,
  ⟨(wBase.p Page.tim F.TIM_STATUS_WALL_STATE 1), .inl (by decide +kernel)⟩⟩
theorem witness_TimeUnits :
    (∃ (s : State) (u : State) (n : Nat), (n < 32) ∧ (s.ttuLive n = true) ∧ (s.ttuDue n = true) ∧ (s.tim.ttu.get 0 n = 0) ∧
      (s.on (Page.ttu n) F.TTU_CTRL_PERIODIC = false) ∧ (u =
      { (s.flag (Page.ttu n) F.TTU_STATUS_FIRED).p (Page.ttu n) F.TTU_STATUS_FIRE_COUNT ((s.g (Page.ttu n) F.TTU_STATUS_FIRE_COUNT + 1) % 65536) with tim.ttu := s.tim.ttu.set 0 n 2 }))
    ∧ (∃ (s : State) (n : Nat) (t : Nat) (frac : Nat), (n < 16) ∧ (s.on (Page.tcu n) F.TCU_CTRL_ENABLE = true) ∧ (s.serving
      = true) ∧ (s.on (Page.tcu n) F.TCU_CTRL_INPUT_KIND = false) ∧ (s.evr.now.get false (s.g (Page.tcu n)
      F.TCU_CTRL_INPUT) = true) ∧ (s.maySubscribe (tcuOwner n) (s.g (Page.tcu n) F.TCU_CTRL_INPUT) = true)) :=
  ⟨⟨(wBase.p (Page.ttu 3) F.TTU_CTRL_ENABLE 1), _, 3, by decide +kernel, by decide +kernel, by decide +kernel,
    by decide +kernel, by decide +kernel, rfl⟩,
  ⟨{ (wBase.p (Page.tcu 2) F.TCU_CTRL_ENABLE 1).p (Page.tcu 2) F.TCU_CTRL_INPUT 9 with evr.now := [(9, true)] }, 2, 0, 0,
    by decide +kernel⟩⟩
theorem witness_DriveCommands :
    (∃ (s : State) (p : Pkt) (y : Pkt) (b : List Byte), (s.InHand 0x1002 p y) ∧ (y.data (4 * y.n 1) = some b))
    ∧ (∃ (s : State) (p : Pkt) (y : Pkt), (s.InHand 0x1006 p y) ∧ (s.slSt (y.target / 8) ≠ 2))
    ∧ (∃ (s : State) (p : Pkt) (y : Pkt), (s.InHand 0x1103 p y) ∧ (s.slSt (16 + y.target / 8) ≠ 2)) :=
  ⟨⟨wCmd wBase (wPkt 0x1002 0 [] []), (wPkt 0x1002 0 [] []), (wPkt 0x1002 0 [] []), [], wHand _ _ (by decide +kernel),
    by decide +kernel⟩,
  ⟨wCmd wBase (wPkt 0x1006 0 [] []), (wPkt 0x1006 0 [] []), (wPkt 0x1006 0 [] []), wHand _ _ (by decide +kernel),
    by decide +kernel⟩,
  ⟨wCmd wBase (wPkt 0x1103 0 [] []), (wPkt 0x1103 0 [] []), (wPkt 0x1103 0 [] []), wHand _ _ (by decide +kernel),
    by decide +kernel⟩⟩
theorem witness_DriveActions :
    (∃ (s : State) (fn : Nat) (q : Nat) (w : Word), (q < 4) ∧ (s.Opens fn (Page.drvq q + 0xC)) ∧ (full fn = true ∨ inWin
      (s.sampWin q fn) (s.g (Page.drvq q) F.DRV_ENV_ADDR_ADDR) = true))
    ∧ (∃ (s : State) (fn : Nat) (q : Nat), (q < 4) ∧ (s.Answers fn (Page.drvq q + 0xC)) ∧ (full fn = true ∨ inWin
      (s.sampWin q fn) (s.g (Page.drvq q) F.DRV_ENV_ADDR_ADDR) = true))
    ∧ (∃ (s : State) (u : State) (ch : Nat), (ch < 160) ∧ (s.heatOver ch = true) ∧ (s.on (outPg ch) F.DRV_STATUS_HEAT_TRIP
      = false) ∧ (u = (s.flag (outPg ch) F.DRV_STATUS_HEAT_TRIP).logIt Cause.heatGuard (s.owner ch) (if ch < 128 then gid
      12 ch else gid 14 (ch - 128)) 0))
    ∧ (∃ (s : State) (u : State) (fn : Nat) (g : Nat) (i : Nat), (g < 48) ∧ (s.Opens fn (Page.spare g)) ∧ (i < grpSize g) ∧
      (u = s.p (Page.spare g) F.DRV_SPARE_CTRL_TARGET i) ∧ (u.swapBad g i = false) ∧ (u.slSt g ≠ 2))
    ∧ (∃ (s : State) (fn : Nat) (g : Nat), (g < 48) ∧ (s.Opens fn (Page.spare g)) ∧ (s.releaseBadSp g = false))
    ∧ (∃ (s : State) (g : Nat), (g < 48) ∧ (s.spState g = 1) ∧ ((s.spare g).waiting = []) ∧ ((s.spare g).forTest = false))
    ∧ (∃ (s : State) (u : State) (d : Nat), (d < 320) ∧ (s.pwr.mode ≠ .off) ∧ (u = s.logIt Cause.datapathError (s.chanOwner
      (grpChan (dpGroup d).1 (dpGroup d).2)) (dpGid (dpGroup d).1 (dpGroup d).2) 0) ∧ ((u.dpErr d).1.dpInUse (dpGroup d).1
      (dpGroup d).2 = true) ∧ ((u.dpErr d).1.spState (dpGroup d).1 = 0) ∧ ((u.dpErr d).2 < 3))
    ∧ (∃ (s : State) (u : State) (g : Nat), (g < 48) ∧ (s.pwr.mode ≠ .off) ∧ (s.spState g = 0) ∧ (u = (((s.retire 1
      g).logIt Cause.spareFailed 0 (spareGid g) 0).sliceAbandon g)))
    ∧ (∃ (s : State), (s.syn.extMute = false))
    ∧ (∃ (s : State), (s.syn.extMute = true))
    ∧ (∃ (s : State) (p : Nat), (p < 5) ∧ (s.pst p = 2) ∧ (16 * (s.prt p).start ≤ (s.cnt p).toNat + 4096))
    ∧ (∃ (s : State) (lane : Nat) (own : Nat), (own = (if lane < 1024 then s.owner (lane / 8) else if lane < 2048 then
      s.toneOwner (lane - 1024) else s.owner ((lane - 2048) / 2)))) :=
  ⟨⟨wBase, 0, 0, 0, by decide +kernel, wOpens _ _ _ (by decide +kernel), .inl rfl⟩,
  ⟨wBase, 0, 0, by decide +kernel, wAnswers _ _ _ (by decide +kernel), .inl rfl⟩,
  ⟨{ wBase with syn.outp := [(3, { Outp.zero with heat := 2 ^ 46 })] }, _, 3, by decide +kernel, by decide +kernel,
    by decide +kernel, rfl⟩,
  ⟨wBase, _, 0, 0, 0, by decide +kernel, wOpens _ _ _ (by decide +kernel), by decide +kernel, rfl, by decide +kernel⟩,
  ⟨(wBase.p (Page.spare 1) F.DRV_SPARE_STATUS_STATE 2), 0, 1, by decide +kernel, wOpens _ _ _ (by decide +kernel),
    by decide +kernel⟩,
  ⟨(wBase.p (Page.spare 1) F.DRV_SPARE_STATUS_STATE 1), 1, by decide +kernel⟩,
  ⟨wBase, _, 0, by decide +kernel, by decide +kernel, rfl, by decide +kernel⟩,
  ⟨wBase, _, 0, by decide +kernel, by decide +kernel, by decide +kernel, rfl⟩,
  ⟨wBase, by decide +kernel⟩,
  ⟨{ wBase with syn.extMute := true }, by decide +kernel⟩,
  ⟨(wBase.p (Page.part 0) F.PART_STATE_STATE 2), 0, by decide +kernel⟩,
  ⟨wBase, 0, _, rfl⟩⟩
theorem witness_FluxCommands :
    (∃ (s : State) (p : Pkt) (y : Pkt) (eff : State → State), (s.InHand 0x1100 p y) ∧ (eff = (fun s => (((((s.flxSpan
      y.target (wget (y.w 0) 2 1)).p (Page.flx y.target) F.FLX_CTRL_RAMP_EXP (wget (y.w 0) 12 8)).setEnable (flxChan
      y.target) (wget (y.w 0) 0 0)).flxPark y.target (wget (y.w 1) 15 0)).putImg (Page.flx y.target + 0x10) (y.w 2)))) ∧
      ((eff (s.inRun y)).on (Page.flx y.target) F.FLX_STATUS_RAMPING = false))
    ∧ (∃ (s : State) (fn : Nat) (ch : Nat), (ch < 128) ∧ (s.Opens fn (Page.flx ch + 0x14)) ∧ (s.on (Page.flx ch)
      F.FLX_STATUS_COMMIT_PENDING = false) ∧ (s.bankOk ch = true) ∧ (s.running (s.flxOwner ch) = false))
    ∧ (∃ (s : State) (fn : Nat) (ch : Nat), (ch < 128) ∧ (s.Opens fn (Page.flx ch + 0x14)) ∧ (s.on (Page.flx ch)
      F.FLX_STATUS_COMMIT_PENDING = false) ∧ (s.bankOk ch = true) ∧ (s.running (s.flxOwner ch) = true))
    ∧ (∃ (s : State) (ch : Nat) (k : Nat) (n : Nat) (x0 : Int) (x1 : Int), ((s.flx ch).ramp = some (x0, x1, n, k)) ∧ (n ≤
      k)) :=
  ⟨⟨wCmd wBase (wPkt 0x1100 0 [] []), (wPkt 0x1100 0 [] []), (wPkt 0x1100 0 [] []), _, wHand _ _ (by decide +kernel), rfl,
    by decide +kernel⟩,
  ⟨wBase, 0, 0, by decide +kernel, wOpens _ _ _ (by decide +kernel), by decide +kernel⟩,
  ⟨(wBase.p (Page.part 0) F.PART_STATE_STATE 3), 0, 0, by decide +kernel, wOpens _ _ _ (by decide +kernel),
    by decide +kernel⟩,
  ⟨{ wBase with syn.flx := [(0, { Flx.zero with ramp := some (0, 256, 8, 8) })] }, 0, 8, 8, 0, 256, by decide +kernel⟩⟩
theorem witness_ReadoutCommands :
    (∃ (s : State) (p : Pkt) (y : Pkt), (s.InHand 0x1201 p y) ∧ (wget (y.w 0) 0 0 = 0))
    ∧ (∃ (s : State) (p : Pkt) (y : Pkt) (b : List Byte), (s.InHand 0x1203 p y) ∧ (y.data (8 * y.n 1) = some b))
    ∧ (∃ (s : State) (p : Pkt) (y : Pkt) (g : Nat), (s.InHand 0x1206 p y) ∧ (g = (if y.n 0 = 0 then 32 else 40) + y.target
      / 4) ∧ (s.slSt g ≠ 2))
    ∧ (∃ (s : State) (p : Pkt) (y : Pkt) (g : Nat), (s.InHand 0x1207 p y) ∧ (g = (if y.n 0 = 0 then 32 else 40) +
      y.target))
    ∧ (∃ (s : State) (fn : Nat) (q : Nat) (w : Word), (q < 4) ∧ (s.Opens fn (Page.rdoq q + 0x10)) ∧ (full fn = true ∨
      s.owner (128 + (8 * q + s.g (Page.rdoq q) F.RDO_KERN_ADDR_INPUT)) = fn))
    ∧ (∃ (s : State) (fn : Nat) (q : Nat), (q < 4) ∧ (s.Answers fn (Page.rdoq q + 0x10)) ∧ (full fn = true ∨ s.owner (128 +
      (8 * q + s.g (Page.rdoq q) F.RDO_KERN_ADDR_INPUT)) = fn)) :=
  ⟨⟨wCmd wBase (wPkt 0x1201 0 [] []), (wPkt 0x1201 0 [] []), (wPkt 0x1201 0 [] []), wHand _ _ (by decide +kernel),
    by decide +kernel⟩,
  ⟨wCmd wBase (wPkt 0x1203 0 [] []), (wPkt 0x1203 0 [] []), (wPkt 0x1203 0 [] []), [], wHand _ _ (by decide +kernel),
    by decide +kernel⟩,
  ⟨wCmd wBase (wPkt 0x1206 0 [] []), (wPkt 0x1206 0 [] []), (wPkt 0x1206 0 [] []), _, wHand _ _ (by decide +kernel), rfl,
    by decide +kernel⟩,
  ⟨wCmd wBase (wPkt 0x1207 0 [] []), (wPkt 0x1207 0 [] []), (wPkt 0x1207 0 [] []), _, wHand _ _ (by decide +kernel), rfl⟩,
  ⟨wBase, 0, 0, 0, by decide +kernel, wOpens _ _ _ (by decide +kernel), .inl rfl⟩,
  ⟨wBase, 0, 0, by decide +kernel, wAnswers _ _ _ (by decide +kernel), .inl rfl⟩⟩
theorem witness_ReadoutEvents :
    (∃ (s : State) (v : State) (t : Nat) (now : Nat) (adc : List AdcCode) (w : Win) (u : List IQ), (t < 1024) ∧ (v =
      s.adcIn (toneInput t) adc) ∧ (v.win t = some w) ∧ (now = (v.cnt (v.toneOwner t)).toNat) ∧ (u = v.toneIn t w.topen
      (w.upTo now)) ∧ (v.winCause t w 0 = 0) ∧ ((v.evalWin t w u).2 = none) ∧ (w.endAt ≤ now))
    ∧ (∃ (s : State) (v : State) (t : Nat) (now : Nat) (adc : List AdcCode) (w : Win) (u : List IQ), (t < 1024) ∧ (v =
      s.adcIn (toneInput t) adc) ∧ (v.win t = some w) ∧ (now = (v.cnt (v.toneOwner t)).toNat) ∧ (u = v.toneIn t w.topen
      (w.upTo now)) ∧ (v.winCause t w 0 ≠ 0) ∧ (w.endAt ≤ now))
    ∧ (∃ (s : State) (v : State) (t : Nat) (now : Nat) (k : Nat) (adc : List AdcCode) (w : Win) (u : List IQ), (t < 1024) ∧
      (v = s.adcIn (toneInput t) adc) ∧ (v.win t = some w) ∧ (now = (v.cnt (v.toneOwner t)).toNat) ∧ (u = v.toneIn t
      w.topen (w.upTo now)) ∧ (v.winCause t w 0 = 0) ∧ ((v.evalWin t w u).2 = some k))
    ∧ (∃ (s : State) (t : Nat), (s.rdo.depl.get 0 t ≠ 0) ∧ (s.g (Page.tone t) F.TONE_CTRL_DEPLETE = 1))
    ∧ (∃ (s : State) (t : Nat), (s.rdo.depl.get 0 t ≠ 0) ∧ (s.g (Page.tone t) F.TONE_CTRL_DEPLETE = 0))
    ∧ (∃ (s : State) (t : Nat) (o : Outc) (l : List Outc), (s.rdo.outc.get [] t = o :: l) ∧ (s.g (Page.route t)
      F.DEC_ROUTE_MODE = 0))
    ∧ (∃ (s : State) (t : Nat) (o : Outc) (l : List Outc), (s.rdo.outc.get [] t = o :: l) ∧ (s.g (Page.route t)
      F.DEC_ROUTE_MODE = 1))
    ∧ (∃ (s : State) (p : Nat) (sh : Shot) (l : List Shot), (p < 5) ∧ ((s.prt p).asm = sh :: l) ∧ (s.outcDue p sh.num =
      false) ∧ (s.twinState = 0))
    ∧ (∃ (s : State) (p : Nat), (p < 5) ∧ (s.dma p = true) ∧ ((64 + p) ∉ s.hif.retry)) :=
  ⟨⟨{ (wBase.p (Page.rdo 0) F.RDO_ADC_CTRL_ENABLE 1) with rdo.win := [(0, some ⟨0, 2, false, 0, 0, 1, 0, true, false, []⟩)], tim.texp := 1000 },
    _, 0, _, [], ⟨0, 2, false, 0, 0, 1, 0, true, false, []⟩, (List.replicate 2 (0, 0)), by decide +kernel, rfl,
    by decide +kernel, rfl, wZero _ _ _ 2 _ (by decide +kernel) (by decide +kernel), by decide +kernel⟩,
  ⟨{ wBase with rdo.win := [(0, some ⟨0, 2, false, 0, 0, 1, 0, true, false, []⟩)], tim.texp := 1000 }, _, 0, _, [], ⟨0, 2,
    false, 0, 0, 1, 0, true, false, []⟩, _, by decide +kernel, rfl, by decide +kernel, rfl, rfl, by decide +kernel⟩,
  ⟨{ ((((wBase.p (Page.rdo 0) F.RDO_ADC_CTRL_ENABLE 1).p (Page.tone 0) F.TONE_CTRL_EARLY_EN 1).p (Page.tone 0) F.TONE_THRESH_THRESH 1).p (Page.tone 0) F.TONE_WIN_NMIN 1).setReg (Page.tone 0 + 0x34) 100 with rdo.win := [(0, some ⟨0, 2, true, 0, 0, 1, 0, true, false, []⟩)], tim.texp := 1000 },
    _, 0, _, 1, [], ⟨0, 2, true, 0, 0, 1, 0, true, false, []⟩, (List.replicate 2 (0, 0)), by decide +kernel, rfl,
    by decide +kernel, rfl, wZero _ _ _ 2 _ (by decide +kernel) (by decide +kernel), by decide +kernel⟩,
  ⟨{ wBase.p (Page.tone 0) F.TONE_CTRL_DEPLETE 1 with rdo.depl := [(0, 1)] }, 0, by decide +kernel⟩,
  ⟨{ wBase with rdo.depl := [(0, 1)] }, 0, by decide +kernel⟩,
  ⟨{ wBase with rdo.outc := [(0, [⟨1, false, 0, 0, none⟩])] }, 0, ⟨1, false, 0, 0, none⟩, [], by decide +kernel⟩,
  ⟨{ wBase.p (Page.route 0) F.DEC_ROUTE_MODE 1 with rdo.outc := [(0, [⟨1, false, 0, 0, none⟩])] }, 0, ⟨1, false, 0, 0,
    none⟩, [], by decide +kernel⟩,
  ⟨{ wBase with sqr.part := [(0, { Part.init with asm := [⟨7, 0, 0, 0, []⟩] })] }, 0, ⟨7, 0, 0, 0, []⟩, [],
    by decide +kernel⟩,
  ⟨{ wBase with hif.linkUp := true, hif.bme := true }, 0, by decide +kernel⟩⟩
theorem witness_DecisionCommands :
    (∃ (s : State) (p : Pkt) (y : Pkt) (b : List Byte), (s.InHand 0x2002 p y) ∧ (y.data (16 * y.n 0) = some b) ∧ ((chunks
      16 (y.n 0) y.host).any (fun v => entBad (BitVec.ofNat 128 v)) = false))
    ∧ (∃ (s : State) (fn : Nat) (k : Nat) (v : Word) (e : BitVec 128), (k < 65536) ∧ (s.Opens fn (0x2200000 + 32 * k + 12))
      ∧ (s.entryLocked k = false) ∧ (e = BitVec.ofNat 128 ((s.dec.held.get 0 ((fn * 65536 + k) * 4)).toNat +
      (s.dec.held.get 0 ((fn * 65536 + k) * 4 + 1)).toNat * 2 ^ 32 + (s.dec.held.get 0 ((fn * 65536 + k) * 4 + 2)).toNat *
      2 ^ 64 + v.toNat * 2 ^ 96)) ∧ (entBad e = false)) :=
  ⟨⟨wCmd wBase (wPkt 0x2002 0 [] []), (wPkt 0x2002 0 [] []), (wPkt 0x2002 0 [] []), [], wHand _ _ (by decide +kernel),
    by decide +kernel⟩,
  ⟨wBase, 0, 0, 0, _, by decide +kernel, wOpens _ _ _ (by decide +kernel), by decide +kernel, rfl, by decide +kernel⟩⟩
theorem witness_DecisionEvents :
    (∃ (s : State) (g : Nat) (G : W64) (l : List W64), (g < 64) ∧ (s.on (Page.gu g) F.GU_CTRL_EN = true) ∧ ((s.gath g).due
      = G :: l) ∧ ((s.gath g).lastAt.any (fun t => decide (s.now / 16 < t + 2)) = false))
    ∧ (∃ (s : State) (g : Nat), (g < 64) ∧ (s.on (Page.gu g) F.GU_CTRL_EN = true) ∧ (s.g (Page.gu g) F.GU_TIMEOUT_TIMEOUT ≠
      0) ∧ ((s.gath g).got ≠ []) ∧ ((s.gath g).done = false) ∧ ((s.gath g).first + s.g (Page.gu g) F.GU_TIMEOUT_TIMEOUT ≤
      s.tk (s.guPart g)))
    ∧ (∃ (s : State) (k : Nat) (d : Nat) (p : Nat) (l : List (Nat × Nat × Nat)), (s.dec.chain = (k, d, p) :: l) ∧
      (s.ownsKey p k = true))
    ∧ (∃ (s : State) (w : W64), (s.pwr.mode ≠ .off) ∧ (s.twinState = 1 ∨ s.twinState = 2))
    ∧ (∃ (s : State) (w : W64), (s.pwr.mode ≠ .off) ∧ (s.twinState ≠ 1) ∧ (s.twinState ≠ 2))
    ∧ (∃ (s : State) (p : Nat) (n : Nat), (p < 5) ∧ (n < 64) ∧ ((s.pair (pairKey p n)).unacked ≠ 0) ∧ (s.g Page.dec
      F.DEC_COMET_CFG_ACK_THRESH ≤ (s.pair (pairKey p n)).unacked) ∧ (s.speaks = true))
    ∧ (∃ (s : State) (p : Nat) (n : Nat) (a : Nat) (x : Pair), (p < 5) ∧ (n < 64) ∧ (s.pwr.mode ≠ .off) ∧ (s.pair (pairKey
      p n) = x) ∧ ((a + 4096 - x.acked) % 4096 ≤ (x.next + 4096 - x.acked) % 4096))
    ∧ (∃ (s : State) (p : Nat) (n : Nat) (x : Pair), (p < 5) ∧ (n < 64) ∧ (s.pair (pairKey p n) = x) ∧ (x.acked ≠ x.next) ∧
      (x.lastAck + 100000 ≤ s.now / 16))
    ∧ (∃ (s : State) (src : Nat) (w : W64) (v : Nat) (p : Nat) (r : Nat) (f : Nat) (g : Nat), (s.pwr.mode ≠ .off) ∧ (v =
      w.toNat) ∧ (p = v % 8) ∧ (r = v / 2 ^ 7 % 65536) ∧ (f = v / 2 ^ 29 % 1024) ∧ (g = v / 2 ^ 42 % 64) ∧ (p < 5) ∧
      (s.idle p = false) ∧ (v / 8 % 16 = s.epoch p) ∧ (src = s.g Page.dec F.DEC_DECODER_NODE) ∧ ((s.gath g).out.any (fun o
      => o.1 = r) = true) ∧ (s.frameOwner f = p) ∧ (v / 2 ^ 41 % 2 = 0))
    ∧ (∃ (s : State) (g : Nat) (r : Nat), (lateRound (s.tk (s.guPart g)) (s.gath g).out = some r) ∧ (s.on (Page.gu g)
      F.GU_CTRL_LATE_EN = false)) :=
  ⟨⟨{ (wBase.p (Page.gu 2) F.GU_CTRL_EN 1) with dec.gu := [(2, { Gath.zero with due := [5] })] }, 2, 5, [],
    by decide +kernel⟩,
  ⟨{ (wBase.p (Page.gu 2) F.GU_CTRL_EN 1).p (Page.gu 2) F.GU_TIMEOUT_TIMEOUT 1 with dec.gu := [(2, { Gath.zero with got := [5] })], tim.texp := 1000 },
    2, by decide +kernel⟩,
  ⟨{ wBase with dec.chain := [(0, 0, 0)] }, 0, 0, 0, [], by decide +kernel⟩,
  ⟨(wBase.p Page.twin F.FAB_TWIN_STATUS_STATE 1), 0, by decide +kernel, .inl (by decide +kernel)⟩,
  ⟨wBase, 0, by decide +kernel⟩,
  ⟨{ wBase with dec.pair := [(3, { Pair.zero with unacked := 2000 })] }, 0, 3, by decide +kernel⟩,
  ⟨wBase, 0, 0, 0, Pair.zero, by decide +kernel⟩,
  ⟨{ wBase with dec.pair := [(3, { Pair.zero with next := 2 })], tim.texp := 1600000 }, 0, 3, _, by decide +kernel,
    by decide +kernel, rfl, by decide +kernel⟩,
  ⟨{ (wBase.p (Page.part 0) F.PART_STATE_STATE 3) with dec.gu := [(0, { Gath.zero with out := [(0, 1)] })] }, _, 0, _, _,
    _, _, _, by decide +kernel, rfl, rfl, rfl, rfl, rfl, by decide +kernel, by decide +kernel, by decide +kernel, rfl,
    by decide +kernel⟩,
  ⟨{ wBase with dec.gu := [(2, { Gath.zero with out := [(4, 1)] })], tim.texp := 1000 }, 2, 4, by decide +kernel⟩⟩
theorem witness_SequencerCommands :
    ∃ (s : State) (p : Pkt) (y : Pkt) (b : List Byte), (s.InHand 0x1401 p y) ∧ (y.data (8 * y.n 3) = some b) :=
  ⟨wCmd wBase (wPkt 0x1401 0 [] []), (wPkt 0x1401 0 [] []), (wPkt 0x1401 0 [] []), [], wHand _ _ (by decide +kernel),
    by decide +kernel⟩
theorem witness_PartitionCommands :
    (∃ (s : State) (fn : Nat) (p : Nat), (p < 5) ∧ (s.Opens fn (Page.part p + 4)) ∧ (s.armRefusal p (s.g64 (Page.part p)
      F.PART_START_LO) (s.g (Page.part p) F.PART_BARRIER_LAT_LAT) = none))
    ∧ (∃ (s : State) (p : Pkt) (y : Pkt), (s.InHand 0x1411 p y) ∧ ((s.inRun y).pst y.target = 3) ∧ (((s.inRun y).setPst
      y.target 4).idle y.target = false))
    ∧ (∃ (s : State) (fn : Nat) (p : Nat), (p < 5) ∧ (s.Opens fn (Page.part p + 4)) ∧ (s.pst p = 3))
    ∧ (∃ (s : State) (fn : Nat) (p : Nat), (p < 5) ∧ (s.Opens fn (Page.part p + 4)) ∧ (s.pst p = 1 ∨ s.pst p = 2)) :=
  ⟨⟨((((wBase.p (Page.td 0) F.TD_STATE_ANCHORED 1).p64 (Page.part 0) F.PART_START_LO 16000).p (Page.ring 0)
    F.REC_CTRL_ENABLE 1).p (Page.ring 0) F.REC_LEN_SIZE 64), 0, 0, by decide +kernel, wOpens _ _ _ (by decide +kernel),
    by decide +kernel⟩,
  ⟨wCmd (wBase.p (Page.part 0) F.PART_STATE_STATE 3) (wPkt 0x1411 0 [] []), (wPkt 0x1411 0 [] []), (wPkt 0x1411 0 [] []),
    wHand _ _ (by decide +kernel), by decide +kernel⟩,
  ⟨(wBase.p (Page.part 0) F.PART_STATE_STATE 3), 0, 0, by decide +kernel, wOpens _ _ _ (by decide +kernel),
    by decide +kernel⟩,
  ⟨(wBase.p (Page.part 0) F.PART_STATE_STATE 2), 0, 0, by decide +kernel, wOpens _ _ _ (by decide +kernel), .inr
    (by decide +kernel)⟩⟩
theorem witness_RunOfAPartition :
    (∃ (s : State) (p : Nat), (p < 5) ∧ (s.pst p = 1) ∧ (s.armedReady p = true) ∧ (s.tk p < (s.prt p).start))
    ∧ (∃ (s : State) (p : Nat), (p < 5) ∧ (s.pst p = 2) ∧ ((s.prt p).cut = false) ∧ ((s.prt p).start ≤ s.tk p + 1024))
    ∧ (∃ (s : State) (u : State) (p : Nat), (p < 5) ∧ (s.pst p = 2) ∧ ((s.prt p).cut = true) ∧ ((s.prt p).start ≤ s.tk p) ∧
      (u = (((s.p (Page.td p) F.TD_STATE_EPOCH ((s.epoch p + 1) % 16)).pairsRestart p).setPst p 3).publishSrc (643 + p)))
    ∧ (∃ (s : State) (p : Nat), (p < 5) ∧ (s.pst p = 1) ∧ ((s.prt p).start ≤ s.tk p))
    ∧ (∃ (s : State) (q : Nat) (h : Nat) (w : Nat), (((s.sqs q).half h).fill = some w) ∧ (((s.sqs q).half h).susp = false)
      ∧ (s.winBad q w = false) ∧ ((s.sqs q).st ≠ 7) ∧ ((s.sqs q).entering = false) ∧ ((s.loadWin q h w).pst (s.seqOwner q)
      < 2))
    ∧ (∃ (s : State) (p : Nat), (p < 5) ∧ (s.running p = true))
    ∧ (∃ (s : State) (p : Nat) (t : Nat) (b : Bar), (p < 5) ∧ (s.running p = true) ∧ (s.dueBars p = [(b, t)]))
    ∧ (∃ (s : State) (p : Nat), (p < 5) ∧ (s.running p = true) ∧ (s.barTimedOut p = true))
    ∧ (∃ (s : State) (q : Nat) (r : Nat), ((s.sqs q).abortIn = some r) ∧ ((s.sqs q).rep = none) ∧ (r ≤ s.tk (s.seqOwner
      q)))
    ∧ (∃ (s : State) (u : State) (q : Nat) (v : Nat) (t : Nat) (l : Nat) (a : Nat) (w : W64) (y : Seq), (s.Issues q 0x02 w)
      ∧ ((s.sqs q).seg = some (l, some t)) ∧ ((s.sqs q).tau ≤ t) ∧ ((s.sqs q).first = false) ∧ ((s.sqs q).jumpDue t = some
      v) ∧ (y = { s.seqOn q with tau := t, jump := none, loops := [], sub := [], seg := none, vec := true }) ∧ (u =
      (s.setSq q y).bump (Page.seq q) F.SEQ_JUMPS) ∧ (a = u.g (Page.seq q + 4 * v) F.SEQ_JUMP_VEC_VECTOR))
    ∧ (∃ (s : State) (q : Nat) (b : Nat), ((s.sqs q).mark.get 0 b ≠ 0) ∧ ((s.sqs q).mark.get 0 b ≤ s.tk (s.seqOwner q)))
    ∧ (∃ (s : State) (q : Nat) (t : Nat) (slot : Nat) (off : Nat) (v : Nat) (k : Nat), ((s.sqs q).eff = [(t, .phaseAdd slot
      off v)]) ∧ (t ≤ s.tk (s.seqOwner q)) ∧ (k = slotKey q slot))
    ∧ (∃ (s : State) (q : Nat) (c : Wc), ((s.sqs q).wc = some c) ∧ ((s.sqs q).allSet c.mask = true) ∧ (∀ t, c.tmo = some t
      → (s.sqs q).raisedAt c.mask + 100 ≤ c.tw + t))
    ∧ (∃ (s : State) (q : Nat) (t : Nat) (c : Wc), ((s.sqs q).wc = some c) ∧ (c.tmo = some t) ∧ (c.tw + t ≤ s.tk
      (s.seqOwner q) + 100) ∧ ((s.sqs q).allSet c.mask = false ∨ c.tw + t < (s.sqs q).raisedAt c.mask + 100)) :=
  ⟨⟨{ (wBase.p (Page.part 0) F.PART_STATE_STATE 1) with sqr.part := [(0, { Part.init with start := 5000 })] }, 0,
    by decide +kernel⟩,
  ⟨{ (wBase.p (Page.part 0) F.PART_STATE_STATE 2) with sqr.part := [(0, { Part.init with start := 1000 })], tim.texp := 8000 },
    0, by decide +kernel⟩,
  ⟨{ (wBase.p (Page.part 0) F.PART_STATE_STATE 2) with sqr.part := [(0, { Part.init with start := 1000, cut := true })], tim.texp := 16000 },
    _, 0, by decide +kernel, by decide +kernel, by decide +kernel, by decide +kernel, rfl⟩,
  ⟨{ (wBase.p (Page.part 0) F.PART_STATE_STATE 1) with sqr.part := [(0, { Part.init with start := 1000 })], tim.texp := 16000 },
    0, by decide +kernel⟩,
  ⟨{ ((wBase.p (Page.part 0) F.PART_STATE_STATE 1).p (Page.seq 0) F.SEQ_IMAGE_LEN_IMAGE_LEN 100) with sqr.seq := [(0, { Seq.init with a := ⟨none, some 0, false⟩ })] },
    0, 0, 0, by decide +kernel⟩,
  ⟨(wBase.p (Page.part 0) F.PART_STATE_STATE 3), 0, by decide +kernel⟩,
  ⟨{ (wBase.p (Page.part 0) F.PART_STATE_STATE 3) with sqr.part := [(0, { Part.init with bars := [⟨2, 0, [], [], [], none, 0, some 1, none, true, true⟩] })], tim.texp := 1600 },
    0, 1, ⟨2, 0, [], [], [], none, 0, some 1, none, true, true⟩, by decide +kernel⟩,
  ⟨{ (wBase.p (Page.part 0) F.PART_STATE_STATE 3).p (Page.part 0) F.PART_BARRIER_TIMEOUT_TIMEOUT 1 with sqr.part := [(0, { Part.init with bars := [⟨2, 0, [], [], [], none, 0, none, none, true, true⟩] })], tim.texp := 16000 },
    0, by decide +kernel⟩,
  ⟨{ wBase with sqr.seq := [(0, { Seq.init with abortIn := some 0 })] }, 0, 0, by decide +kernel⟩,
  ⟨(wSeq 0 { wX with seg := some (0, some 100), jump := some (3, 10) } (0x02 * 2 ^ 58 + 0)), _, 0, 3, 100, 0, _, (0x02 * 2
    ^ 58 + 0), _, wIssues _ _ _ _ (by decide +kernel), by decide +kernel, by decide +kernel, by decide +kernel,
    by decide +kernel, rfl, rfl, rfl⟩,
  ⟨{ { wBase with sqr.seq := [(0, { Seq.init with mark := [(0, 5)] })] } with tim.texp := 1600 }, 0, 0, by decide +kernel⟩,
  ⟨{ wBase with sqr.seq := [(0, { Seq.init with eff := [(0, .phaseAdd 1 0 7)] })] }, 0, 0, 1, 0, 7, _, by decide +kernel,
    by decide +kernel, rfl⟩,
  ⟨{ wBase with sqr.seq := [(0, { Seq.init with wc := some ⟨0, 0, 9, true, 0, none, 6⟩ })] }, 0, ⟨0, 0, 9, true, 0, none,
    6⟩, by decide +kernel, by decide +kernel, (fun t h => nomatch h)⟩,
  ⟨{ { wBase with sqr.seq := [(0, { Seq.init with wc := some ⟨1, 1, 9, true, 0, some 128, 6⟩ })] } with tim.texp := 16000 },
    0, 128, ⟨1, 1, 9, true, 0, some 128, 6⟩, by decide +kernel⟩⟩
theorem witness_InstructionControl :
    (∃ (s : State) (q : Nat) (w : W64), (s.Issues q 0x00 w))
    ∧ (∃ (s : State) (q : Nat) (n : Nat) (w : W64), (s.Issues q 0x01 w) ∧ ((s.sqs q).first = false) ∧ (n = ifld w 23 0 +
      (if fVsel w then ((s.sqs q).v.get 0 (fVidx w)).toNat else 0)))
    ∧ (∃ (s : State) (q : Nat) (l : Nat) (t : Nat) (w : W64) (y : Seq), (s.Issues q 0x02 w) ∧ (l = ifld w 19 0) ∧ (t = max
      (s.sqs q).tau (s.sqs q).segEnd) ∧ (∀ b d, (s.sqs q).seg = some (b, some d) → (s.sqs q).tau ≤ d ∧ ((s.sqs q).first =
      false ∨ d = (s.sqs q).tau)) ∧ ((s.sqs q).jump = none) ∧ (y =
      { s.seqOn q with tau := t, left := (s.sqs q).left.filter (fun g => s.tk (s.seqOwner q) < g.fin), reps := (s.sqs q).reps.filter (fun r => s.tk (s.seqOwner q) < r.2) }))
    ∧ (∃ (s : State) (q : Nat) (w : W64), (s.Issues q 0x03 w) ∧ ((s.sqs q).first = true))
    ∧ (∃ (s : State) (q : Nat) (w : W64), (s.Issues q 0x03 w) ∧ ((s.sqs q).first = false))
    ∧ (∃ (s : State) (q : Nat) (w : W64), (s.Issues q 0x04 w) ∧ ((s.sqs q).first = false) ∧ ((s.sqs q).region = none))
    ∧ (∃ (s : State) (q : Nat) (w : W64), (s.Issues q 0x05 w) ∧ ((s.sqs q).first = false))
    ∧ (∃ (s : State) (q : Nat) (n : Nat) (w : W64) (r : Region) (y : Seq), (s.Issues q 0x06 w) ∧ ((s.sqs q).first = false)
      ∧ ((s.sqs q).region = none) ∧ (r = ⟨(s.sqs q).pc, n, ifld w 23 0⟩) ∧ (n = ifld w 38 24) ∧ (1 ≤ n) ∧ (n ≤ 16384) ∧
      ((s.sqs q).pc % 8192 + n ≤ 16384) ∧ ((s.regionWins q r).all (s.sqs q).holds = true) ∧ (y =
      { s.seqOn q with region := some r, regNo := s.barInst (s.seqOwner q) 3 (s.g (Page.seq q) F.SEQ_CTRL_GROUP), entering := true, eff := (s.sqs q).eff ++ [((s.sqs q).tau, .arrive 3)], st := 3, ready := s.tk (s.seqOwner q) + 1 }))
    ∧ (∃ (s : State) (q : Nat) (w : W64), (s.Issues q 0x07 w) ∧ ((s.sqs q).inside = true))
    ∧ (∃ (s : State) (q : Nat) (n : Nat) (w : W64), (s.Issues q 0x08 w) ∧ ((s.sqs q).first = false) ∧ (n = ifld w 19 0) ∧
      ((s.sqs q).inside = false) ∧ (2048 ≤ n))
    ∧ (∃ (s : State) (q : Nat) (n : Nat) (w : W64), (s.Issues q 0x09 w) ∧ (n = ifld w 10 0) ∧ (8192 * n < s.imgLen q))
    ∧ (∃ (s : State) (q : Nat) (p : Nat) (w : W64), (s.Issues q 0x0A w) ∧ (p = s.seqOwner q))
    ∧ (∃ (s : State) (q : Nat) (w : W64), (s.Issues q 0x10 w) ∧ (fTarget w < s.imgLen q))
    ∧ (∃ (s : State) (q : Nat) (w : W64), (s.Issues q 0x11 w) ∧ ((s.sqs q).sub.length < 8) ∧ (fTarget w < s.imgLen q))
    ∧ (∃ (s : State) (q : Nat) (a : Nat) (w : W64) (l : List Nat), (s.Issues q 0x12 w) ∧ ((s.sqs q).sub = a :: l) ∧ (a <
      s.imgLen q))
    ∧ (∃ (s : State) (q : Nat) (c : Nat) (w : W64), (s.Issues q 0x13 w) ∧ (c = (if fVsel w then ((s.sqs q).v.get 0 (fVidx
      w)).toNat else fTarget w)) ∧ (c ≠ 0) ∧ ((s.sqs q).loops.length < 8))
    ∧ (∃ (s : State) (q : Nat) (w : W64), (s.Issues q 0x13 w) ∧ ((if fVsel w then ((s.sqs q).v.get 0 (fVidx w)).toNat else
      fTarget w) = 0) ∧ ((s.sqs q).pc + ifld w 44 29 + 1 < s.imgLen q))
    ∧ (∃ (s : State) (q : Nat) (c : Nat) (a : Nat) (w : W64) (l : List (Nat × Nat)), (s.Issues q 0x14 w) ∧ ((s.sqs q).loops
      = (c + 2, a) :: l) ∧ (a < s.imgLen q))
    ∧ (∃ (s : State) (q : Nat) (a : Nat) (w : W64) (l : List (Nat × Nat)), (s.Issues q 0x14 w) ∧ ((s.sqs q).loops = (1, a)
      :: l))
    ∧ (∃ (s : State) (q : Nat) (w : W64), (s.Issues q 0x15 w))
    ∧ (∃ (s : State) (q : Nat) (a : Nat) (w : W64), (s.Issues q 0x16 w) ∧ ((s.sqs q).cond (ifld w 3 0) = true) ∧ (((s.sqs
      q).pc : Int) + fOffset w = a) ∧ (a < s.imgLen q))
    ∧ (∃ (s : State) (q : Nat) (w : W64), (s.Issues q 0x16 w) ∧ ((s.sqs q).cond (ifld w 3 0) = false))
    ∧ (∃ (s : State) (q : Nat) (a : Nat) (w : W64) (y : Seq) (hit : Bool), (s.Issues q 0x17 w) ∧ (hit = (s.sqs q).matches_
      (fMask w) (fPattern w)) ∧ (y = (if fConsume w then Seq.consume { s.seqOn q with mtch := hit } (fMask w) else
      { s.seqOn q with mtch := hit })) ∧ (((s.sqs q).pc : Int) + fOffset w = a) ∧ (a < s.imgLen q))
    ∧ (∃ (s : State) (q : Nat) (w : W64) (c : Wc), (s.Issues q 0x18 w) ∧ (c = ⟨fMask w, fPattern w, (relTarget (s.sqs q).pc
      (fOffset w)).getD (2 ^ 30), fConsume w, (s.sqs q).tau, condTimeout w, (s.sqs q).pc + 1⟩) ∧ ((s.sqs q).allSet c.mask =
      true) ∧ ((s.sqs q).first = false))
    ∧ (∃ (s : State) (q : Nat) (w : W64) (c : Wc), (s.Issues q 0x18 w) ∧ (c = ⟨fMask w, fPattern w, (relTarget (s.sqs q).pc
      (fOffset w)).getD (2 ^ 30), fConsume w, (s.sqs q).tau, condTimeout w, (s.sqs q).pc + 1⟩) ∧ ((s.sqs q).allSet c.mask =
      false) ∧ ((s.sqs q).first = false))
    ∧ (∃ (s : State) (q : Nat) (w : W64), (s.Issues q 0x19 w))
    ∧ (∃ (s : State) (q : Nat) (w : W64), (s.Issues q 0x3C w)) :=
  ⟨⟨(wSeq 0 wX (0x00 * 2 ^ 58 + 0)), 0, (0x00 * 2 ^ 58 + 0), wIssues _ _ _ _ (by decide +kernel)⟩,
  ⟨(wSeq 0 wX (0x01 * 2 ^ 58 + 0)), 0, _, (0x01 * 2 ^ 58 + 0), wIssues _ _ _ _ (by decide +kernel), by decide +kernel,
    rfl⟩,
  ⟨(wSeq 0 wX (0x02 * 2 ^ 58 + 0)), 0, _, _, (0x02 * 2 ^ 58 + 0), _, wIssues _ _ _ _ (by decide +kernel), rfl, rfl, (fun _
    _ h => nomatch (h.symm.trans (by decide +kernel : _ = none))), by decide +kernel, rfl⟩,
  ⟨(wSeq 0 { wX with first := true } (0x03 * 2 ^ 58 + 0)), 0, (0x03 * 2 ^ 58 + 0), wIssues _ _ _ _ (by decide +kernel),
    by decide +kernel⟩,
  ⟨(wSeq 0 wX (0x03 * 2 ^ 58 + 0)), 0, (0x03 * 2 ^ 58 + 0), wIssues _ _ _ _ (by decide +kernel), by decide +kernel⟩,
  ⟨(wSeq 0 wX (0x04 * 2 ^ 58 + 0)), 0, (0x04 * 2 ^ 58 + 0), wIssues _ _ _ _ (by decide +kernel), by decide +kernel⟩,
  ⟨(wSeq 0 wX (0x05 * 2 ^ 58 + 0)), 0, (0x05 * 2 ^ 58 + 0), wIssues _ _ _ _ (by decide +kernel), by decide +kernel⟩,
  ⟨(wSeq 0 wX (0x06 * 2 ^ 58 + (1 * 2 ^ 24))), 0, 1, (0x06 * 2 ^ 58 + (1 * 2 ^ 24)), _, _, wIssues _ _ _ _
    (by decide +kernel), by decide +kernel, by decide +kernel, rfl, by decide +kernel, by decide +kernel,
    by decide +kernel, by decide +kernel, by decide +kernel, rfl⟩,
  ⟨(wSeq 0 { wX with region := some ⟨0, 10, 20⟩ } (0x07 * 2 ^ 58 + 0)), 0, (0x07 * 2 ^ 58 + 0), wIssues _ _ _ _
    (by decide +kernel), by decide +kernel⟩,
  ⟨(wSeq 0 wX (0x08 * 2 ^ 58 + 2048)), 0, _, (0x08 * 2 ^ 58 + 2048), wIssues _ _ _ _ (by decide +kernel),
    by decide +kernel, rfl, by decide +kernel⟩,
  ⟨(wSeq 0 wX (0x09 * 2 ^ 58 + 0)), 0, _, (0x09 * 2 ^ 58 + 0), wIssues _ _ _ _ (by decide +kernel), rfl,
    by decide +kernel⟩,
  ⟨(wSeq 0 wX (0x0A * 2 ^ 58 + 0)), 0, _, (0x0A * 2 ^ 58 + 0), wIssues _ _ _ _ (by decide +kernel), rfl⟩,
  ⟨(wSeq 0 wX (0x10 * 2 ^ 58 + 0)), 0, (0x10 * 2 ^ 58 + 0), wIssues _ _ _ _ (by decide +kernel), by decide +kernel⟩,
  ⟨(wSeq 0 wX (0x11 * 2 ^ 58 + 0)), 0, (0x11 * 2 ^ 58 + 0), wIssues _ _ _ _ (by decide +kernel), by decide +kernel⟩,
  ⟨(wSeq 0 { wX with sub := [7] } (0x12 * 2 ^ 58 + 0)), 0, 7, (0x12 * 2 ^ 58 + 0), [], wIssues _ _ _ _ (by decide +kernel),
    by decide +kernel⟩,
  ⟨(wSeq 0 wX (0x13 * 2 ^ 58 + (1 * 2 ^ 29 + 3))), 0, _, (0x13 * 2 ^ 58 + (1 * 2 ^ 29 + 3)), wIssues _ _ _ _
    (by decide +kernel), rfl, by decide +kernel⟩,
  ⟨(wSeq 0 wX (0x13 * 2 ^ 58 + (1 * 2 ^ 29))), 0, (0x13 * 2 ^ 58 + (1 * 2 ^ 29)), wIssues _ _ _ _ (by decide +kernel),
    by decide +kernel⟩,
  ⟨(wSeq 0 { wX with loops := [(3, 2)] } (0x14 * 2 ^ 58 + 0)), 0, 1, 2, (0x14 * 2 ^ 58 + 0), [], wIssues _ _ _ _
    (by decide +kernel), by decide +kernel⟩,
  ⟨(wSeq 0 { wX with loops := [(1, 2)] } (0x14 * 2 ^ 58 + 0)), 0, 2, (0x14 * 2 ^ 58 + 0), [], wIssues _ _ _ _
    (by decide +kernel), by decide +kernel⟩,
  ⟨(wSeq 0 wX (0x15 * 2 ^ 58 + 0)), 0, (0x15 * 2 ^ 58 + 0), wIssues _ _ _ _ (by decide +kernel)⟩,
  ⟨(wSeq 0 { wX with timeout := true } (0x16 * 2 ^ 58 + (1 * 2 ^ 32 + 7))), 0, 6, (0x16 * 2 ^ 58 + (1 * 2 ^ 32 + 7)),
    wIssues _ _ _ _ (by decide +kernel), by decide +kernel⟩,
  ⟨(wSeq 0 wX (0x16 * 2 ^ 58 + 1)), 0, (0x16 * 2 ^ 58 + 1), wIssues _ _ _ _ (by decide +kernel), by decide +kernel⟩,
  ⟨(wSeq 0 wX (0x17 * 2 ^ 58 + (1 * 2 ^ 32))), 0, 6, (0x17 * 2 ^ 58 + (1 * 2 ^ 32)), _, _, wIssues _ _ _ _
    (by decide +kernel), rfl, rfl, by decide +kernel⟩,
  ⟨(wSeq 0 wX (0x18 * 2 ^ 58 + 0)), 0, (0x18 * 2 ^ 58 + 0), _, wIssues _ _ _ _ (by decide +kernel), rfl,
    by decide +kernel⟩,
  ⟨(wSeq 0 wX (0x18 * 2 ^ 58 + 1)), 0, (0x18 * 2 ^ 58 + 1), _, wIssues _ _ _ _ (by decide +kernel), rfl,
    by decide +kernel⟩,
  ⟨(wSeq 0 wX (0x19 * 2 ^ 58 + 0)), 0, (0x19 * 2 ^ 58 + 0), wIssues _ _ _ _ (by decide +kernel)⟩,
  ⟨(wSeq 0 wX (0x3C * 2 ^ 58 + 0)), 0, (0x3C * 2 ^ 58 + 0), wIssues _ _ _ _ (by decide +kernel)⟩⟩
theorem witness_InstructionOutputs :
    (∃ (s : State) (q : Nat) (k : Nat) (w : W64) (amp : Int), (s.Issues q 0x20 w) ∧ ((s.sqs q).first = false) ∧ (k = (if ¬
      isRs q ∧ ifld w 17 17 = 1 then 2048 + 2 * q + ifld w 16 12 % 2 else slotKey q (ifld w 16 12))) ∧ (amp = (if ifld w 42
      42 = 1 then ((s.sqs q).v.get 0 (ifld w 29 26)).toInt else sext 16 (ifld w 41 26))))
    ∧ (∃ (s : State) (q : Nat) (w : W64) (i : Instr) (op : Nat) (f : Eff), (s.Issues q op w) ∧ ((i, op, f) ∈ [(.acquire q,
      0x21, Eff.acquire (ifld w 31 0) (ifld w 44 32) (ifld w 45 45 = 1)), (.freq q, 0x22, Eff.freq (fSlot w) (fOff w)
      (fValue w)), (.phaseAdd q, 0x23, Eff.phaseAdd (fSlot w) (fOff w) (fValue w)), (.phaseSet q, 0x24, Eff.phaseSet (fSlot
      w) (fOff w) (fValue w)), (.phaseAddV q, 0x25, Eff.phaseAdd (fSlot w) (fOff w) (((s.sqs q).v.get 0 (ifld w 12
      9)).toNat * 2 ^ 32)), (.frameReset q, 0x26, Eff.frameReset (ifld w 31 0) (ifld w 35 32))]))
    ∧ (∃ (s : State) (q : Nat) (w : W64) (h : Int), (s.Issues q 0x27 w) ∧ ((s.sqs q).first = false) ∧ (h = (if ifld w 17 17
      = 1 then ((s.sqs q).v.get 0 (ifld w 21 18)).toInt else sext 16 (ifld w 15 0)))) :=
  ⟨⟨(wSeq 0 wX (0x20 * 2 ^ 58 + 0)), 0, _, (0x20 * 2 ^ 58 + 0), _, wIssues _ _ _ _ (by decide +kernel), by decide +kernel,
    rfl, rfl⟩,
  ⟨(wSeq 128 wX (0x21 * 2 ^ 58 + 0)), 128, (0x21 * 2 ^ 58 + 0), .acquire 128, 0x21, _, wIssues _ _ _ _ (by decide +kernel),
    .head _⟩,
  ⟨(wSeq 0 wX (0x27 * 2 ^ 58 + 0)), 0, (0x27 * 2 ^ 58 + 0), _, wIssues _ _ _ _ (by decide +kernel), by decide +kernel,
    rfl⟩⟩
theorem witness_InstructionArithmetic :
    (∃ (s : State) (q : Nat) (w : W64) (i : Instr) (op : Nat) (x : Seq) (y : Seq), (s.Issues q op w) ∧ (x = s.seqOn q) ∧
      ((i, op, y) ∈ [(.ldi q, 0x30, x.res (fD w) (fImm w)), (.addv q, 0x31, x.resSat (fD w) (x.vi (fA w) + x.vi (fB w))),
      (.subv q, 0x32, x.resSat (fD w) (x.vi (fA w) - x.vi (fB w))), (.addi q, 0x33, x.resSat (fD w) (x.vi (fA w) + fImm
      w)), (.cmp q, 0x34, x.zn (x.vi (fA w) - x.vi (fB w))), (.mul q, 0x35, x.resAcc (x.vi (fA w) * x.vi (fB w))), (.accv
      q, 0x38, x.resAcc (x.vi (fA w) * 2 ^ fS w)), (.rnd q, 0x39, x.resSat (fD w) (rhu x.acc.toInt (fS w))), (.expo q,
      0x3A, x.res (fD w) (exponent x.acc)), (.norm q, 0x3B, (x.setV (fD w) (exponent x.acc)).resAcc (if exponent x.acc = 39
      then x.acc.toInt else x.acc.toInt * 2 ^ exponent x.acc)), (.clrf q, 0x3D,
      { x with accSat := false, vSat := false })]))
    ∧ (∃ (s : State) (t : State) (q : Nat) (w : W64) (i : Instr) (op : Nat) (v : Int) (x : Seq), (s.Issues q op w) ∧ (x =
      s.seqOn q) ∧ ((i, op, v) ∈ [(.mac q, 0x36, x.acc.toInt + x.vi (fA w) * x.vi (fB w)), (.msu q, 0x37, x.acc.toInt -
      x.vi (fA w) * x.vi (fB w))]) ∧ (t = (s.setSq q x).when (v ≠ sat 40 v) (·.logIt Cause.overflow (s.seqOwner q) (gid 16
      q) 0))) :=
  ⟨⟨(wSeq 0 wX (0x30 * 2 ^ 58 + 0)), 0, (0x30 * 2 ^ 58 + 0), .ldi 0, 0x30, _, _, wIssues _ _ _ _ (by decide +kernel), rfl,
    .head _⟩,
  ⟨(wSeq 0 wX (0x36 * 2 ^ 58 + 0)), _, 0, (0x36 * 2 ^ 58 + 0), .mac 0, 0x36, _, _, wIssues _ _ _ _ (by decide +kernel),
    rfl, .head _, rfl⟩⟩
theorem witness_CaptureCommands :
    (∃ (s : State) (fn : Nat) (u : Nat), (u < 32) ∧ (s.Opens fn (Page.cu u)) ∧ (s.cuArmRefusal u = none))
    ∧ (∃ (s : State) (p : Pkt) (y : Pkt) (b : List Byte), (s.InHand 0x1305 p y) ∧ (y.data (8 * y.n 1) = some b))
    ∧ (∃ (s : State) (fn : Nat) (q : Nat) (w : Word), (q < 4) ∧ (s.Opens fn (Page.acqq q + 0x208)) ∧ (s.maskUsed q (s.g
      (Page.acqq q) F.ACQ_MASK_ADDR_ADDR) = false)) :=
  ⟨⟨(((((wBase.p (Page.td 0) F.TD_STATE_ANCHORED 1).p (Page.rdo 0) F.RDO_ADC_CTRL_ENABLE 1).p (Page.cu 0)
    F.ACQ_CU_CTRL_MODE 1).p (Page.cu 0) F.ACQ_CU_SRC_K_MIN 12).p (Page.cu 0) F.ACQ_CU_SRC_K_MAX 12), 0, 0,
    by decide +kernel, wOpens _ _ _ (by decide +kernel), by decide +kernel⟩,
  ⟨wCmd wBase (wPkt 0x1305 0 [] []), (wPkt 0x1305 0 [] []), (wPkt 0x1305 0 [] []), [], wHand _ _ (by decide +kernel),
    by decide +kernel⟩,
  ⟨wBase, 0, 0, 0, by decide +kernel, wOpens _ _ _ (by decide +kernel), by decide +kernel⟩⟩
theorem witness_CaptureEvents :
    (∃ (s : State) (u : Nat) (smp : List AdcCode) (ts : List Trig), (u < 32) ∧ (s.serving = true))
    ∧ (∃ (s : State) (f : State) (u : Nat) (smp : List AdcCode), (u < 32) ∧ (s.serving = true) ∧ (f = s.fed u smp) ∧
      (f.cuState u = 2) ∧ (f.capWhole u = true))
    ∧ (∃ (s : State) (f : State) (u : Nat) (t : Nat) (st : Nat) (smp : List AdcCode), (u < 32) ∧ (s.serving = true) ∧ (f =
      s.fed u smp) ∧ ((f.cu u).rearm = some (t, st)) ∧ (t ≤ (f.cnt (f.cuPart u)).toNat))
    ∧ (∃ (s : State) (f : State) (u : Nat) (t : Nat) (g : Nat) (first : Bool) (l : List (Nat × Nat × Bool)) (smp : List
      AdcCode), (u < 32) ∧ (s.serving = true) ∧ (f = s.fed u smp) ∧ ((f.cu u).viols = (t, g, first) :: l))
    ∧ (∃ (s : State) (f : State) (u : Nat) (smp : List AdcCode), (u < 32) ∧ (s.serving = true) ∧ (f = s.fed u smp) ∧
      (f.cuState u = 5) ∧ (f.on (Page.cu u) F.ACQ_CU_SRC_AUTO = true) ∧ ((f.cu u).kNew = none) ∧ (3 * f.cuRoom u < 4 *
      f.fifoFill u) ∧ ((f.cu u).k < f.g (Page.cu u) F.ACQ_CU_SRC_K_MAX) ∧ ((f.cu u).changed + usecs 10 ≤ f.now))
    ∧ (∃ (s : State) (u : Nat) (smp : List AdcCode), (u < 32) ∧ (s.serving = true))
    ∧ (∃ (s : State) (f : State) (u : Nat) (smp : List AdcCode) (o : OpenItem), (u < 32) ∧ (s.serving = true) ∧ (f = s.fed
      u smp) ∧ ((f.cu u).opn = some o) ∧ (o.first + usecs (max 1 (f.g (Page.cu u) F.STR_FLUSH_FLUSH)) ≤ (f.cnt (f.cuPart
      u)).toNat))
    ∧ (∃ (s : State) (w : BitVec 64) (t : BitVec 64), (s.serving = true) ∧ (nPart w < 5) ∧ (gmEpoch w ≠ (s.takeWord 4
      w).epoch (nPart w)))
    ∧ (∃ (s : State) (v : State) (w : BitVec 64) (t : BitVec 64), (s.serving = true) ∧ (v = s.takeWord 4 w) ∧ (nPart w < 5)
      ∧ (gmEpoch w = v.epoch (nPart w)) ∧ (v.grpPart (gmGroup w) = nPart w) ∧ (v.on (Page.grp (gmGroup w))
      F.ACQ_GRP_CTRL_EN = true) ∧ (gmNode w ∈ v.grpNodes (gmGroup w)))
    ∧ (∃ (s : State) (v : State) (k : Nat) (c : Word), (k < 64) ∧ (s.kIsInput k = true) ∧ (v =
      { s with acq.kin := s.acq.kin.set false k true }) ∧ (s.serving = true) ∧ (c = s.reg (kCfgAt k)) ∧ (wget c 2 2 = 1) ∧
      (wget c 4 3 = 0 ∨ wget c 4 3 = 2)) :=
  ⟨⟨wBase, 0, [], [], by decide +kernel⟩,
  ⟨{ (wBase.p (Page.cu 0) F.ACQ_CU_STATUS_STATE 2) with acq.cu := [(0, { Cu.zero with shoot := some ⟨0, 0, false, false, 0, 0⟩, hist := [(1, 1)] })] },
    _, 0, [], by decide +kernel, by decide +kernel, rfl, by decide +kernel⟩,
  ⟨{ (wBase.p (Page.cu 0) F.ACQ_CU_STATUS_STATE 3) with acq.cu := [(0, { Cu.zero with rearm := some (0, 0) })] }, _, 0, 0,
    0, [], by decide +kernel, by decide +kernel, rfl, by decide +kernel⟩,
  ⟨{ (wBase.p (Page.cu 0) F.ACQ_CU_STATUS_STATE 1) with acq.cu := [(0, { Cu.zero with viols := [(0, 0, true)] })] }, _, 0,
    0, 0, true, [], [], by decide +kernel, by decide +kernel, rfl, by decide +kernel⟩,
  ⟨{ (((((wBase.p (Page.cu 0) F.ACQ_CU_STATUS_STATE 5).p (Page.cu 0) F.ACQ_CU_SRC_KIND 3).p (Page.cu 0) F.ACQ_CU_SRC_AUTO 1).p (Page.cu 0) F.ACQ_CU_SRC_K_MAX 5).p (Page.cu 0) F.ACQ_CU_BUF_LEN 0) with acq.cu := [(0, { Cu.zero with fifo := [⟨0, 0, 0, [], 0, 0, 0, 0, false, 0⟩] })], tim.texp := 160000 },
    _, 0, [], by decide +kernel, by decide +kernel, rfl, by decide +kernel⟩,
  ⟨wBase, 0, [], by decide +kernel⟩,
  ⟨{ ((wBase.p (Page.cu 0) F.ACQ_CU_STATUS_STATE 5).p (Page.cu 0) F.ACQ_CU_SRC_KIND 3) with acq.cu := [(0, { Cu.zero with opn := some ⟨0, [(1, 1)]⟩ })], tim.texp := 16000000 },
    _, 0, [], ⟨0, [(1, 1)]⟩, by decide +kernel, by decide +kernel, rfl, by decide +kernel⟩,
  ⟨wBase, 8, 0, by decide +kernel⟩,
  ⟨((wBase.p (Page.grp 0) F.ACQ_GRP_CTRL_EN 1).p64 (Page.grp 0) F.ACQ_GRP_NODES_LO 2), _, (2 ^ 14), 0, by decide +kernel,
    rfl, by decide +kernel⟩,
  ⟨(wBase.setReg (kCfgAt 0) 4), _, 0, _, by decide +kernel, by decide +kernel, rfl, by decide +kernel, rfl,
    by decide +kernel, .inl (by decide +kernel)⟩⟩
theorem witness_BiasCommands :
    ∃ (s : State) (t : State) (p : Pkt) (y : Pkt) (pg : Nat), (s.InHand 0x1600 p y) ∧ (pg = Page.bias y.target) ∧ (t =
      (((((((s.inRun y).p pg F.BIAS_CTRL_LIMIT_ALL (wget (y.w 0) 4 4)).p pg F.BIAS_CTRL_QMODE (wget (y.w 0) 8 7)).putImg
      (pg + 0x10) (y.w 1)).putImg (pg + 0x14) (y.w 2)).biasSlewSet y.target (y.w 3)).biasCtrl y.target (wget (y.w 0) 3 1)
      (wget (y.w 0) 0 0))) :=
  ⟨wCmd wBase (wPkt 0x1600 0 [] []), _, (wPkt 0x1600 0 [] []), (wPkt 0x1600 0 [] []), _, wHand _ _ (by decide +kernel),
    rfl, rfl⟩
theorem witness_BiasEvents :
    (∃ (s : State) (v : State) (b : Nat) (t : Nat), (b < 512) ∧ (s.g (Page.bias b) F.BIAS_CTRL_QMODE = 1) ∧ ((s.bias
      b).clock = some t) ∧ (t ≤ s.now) ∧ (v = s.setBias b { s.bias b with clock := some (t + s.biasPeriod b) }))
    ∧ (∃ (s : State) (b : Nat), (b < 512) ∧ (s.g (Page.bias b) F.BIAS_CTRL_QMODE = 2) ∧ (s.evr.now.get false (s.g
      (Page.bias b) F.BIAS_QEVT_PACE_CHAN) = true) ∧ (s.maySubscribe (s.biasOwner b) (s.g (Page.bias b)
      F.BIAS_QEVT_PACE_CHAN) = true) ∧ ((s.bias b).held = false) ∧ (∀ t, (s.bias b).lastRel = some t → t + usecs 10 ≤
      s.now))
    ∧ (∃ (s : State) (b : Nat) (t : Nat), (b < 512) ∧ ((s.bias b).held = true) ∧ ((s.bias b).lastRel = some t) ∧ (t + usecs
      10 ≤ s.now))
    ∧ (∃ (s : State) (b : Nat), (b < 512) ∧ ((s.bias b).slewing = true) ∧ ((s.bias b).out = (s.bias b).dest) ∧ ((s.bias
      b).next = 0))
    ∧ (∃ (s : State) (b : Nat) (t : Nat), (b < 512) ∧ ((s.bias b).holdTo = some t) ∧ (t ≤ s.now))
    ∧ (∃ (s : State) (u : State) (b : Nat), (b < 512) ∧ ((s.bias b).conn = true) ∧ (s.on (Page.bias b)
      F.BIAS_STATUS_OPEN_LOOP = false) ∧ ((s.bias b).comp = false) ∧ (s.on (Page.bias b) F.BIAS_STATUS_COMPLIANCE = false)
      ∧ (u = s.setBias b { s.bias b with comp := true, open_ := false, compAt := s.now - usecs 100 }))
    ∧ (∃ (s : State) (b : Nat), (b < 512) ∧ ((s.bias b).comp = true) ∧ ((s.bias b).compAt + msecs (max 1 (s.g (Page.bias b)
      F.BIAS_COMP_WINDOW_WINDOW)) ≤ s.now)) :=
  ⟨⟨{ wBase.p (Page.bias 0) F.BIAS_CTRL_QMODE 1 with bm.bias := [(0, { Bias.zero with clock := some 0 })] }, _, 0, 0,
    by decide +kernel, by decide +kernel, by decide +kernel, by decide +kernel, rfl⟩,
  ⟨{ (wBase.p (Page.bias 0) F.BIAS_CTRL_QMODE 2).p (Page.bias 0) F.BIAS_QEVT_PACE_CHAN 9 with evr.now := [(9, true)] }, 0,
    by decide +kernel, by decide +kernel, by decide +kernel, by decide +kernel, by decide +kernel, (fun t h => nomatch h)⟩,
  ⟨{ wBase with bm.bias := [(0, { Bias.zero with held := true, lastRel := some 0 })], tim.texp := 160000 }, 0, 0,
    by decide +kernel⟩,
  ⟨{ wBase with bm.bias := [(0, { Bias.zero with slewing := true })] }, 0, by decide +kernel⟩,
  ⟨{ wBase with bm.bias := [(0, { Bias.zero with holdTo := some 0 })] }, 0, 0, by decide +kernel⟩,
  ⟨{ wBase with bm.bias := [(0, { Bias.zero with conn := true })] }, _, 0, by decide +kernel, by decide +kernel,
    by decide +kernel, by decide +kernel, by decide +kernel, rfl⟩,
  ⟨{ wBase with bm.bias := [(0, { Bias.zero with comp := true })], tim.texp := 1099511627776 }, 0, by decide +kernel⟩⟩
theorem witness_MonitorCommands :
    (∃ (s : State) (t : State) (p : Pkt) (y : Pkt), (s.InHand 0x1700 p y) ∧ (t = ((((s.inRun y).putBits (Page.mon y.target)
      (fldMask monCtrlFlds) (y.w 0)).putImgs y (monImgs y.target)).setEnable y.target (wget (y.w 0) 0 0))))
    ∧ (∃ (s : State) (t : State) (p : Pkt) (y : Pkt), (s.InHand 0x1707 p y) ∧ (t = (s.inRun y).putImgs y [(0, Page.monc),
      (1, Page.monc + 4)]))
    ∧ (∃ (s : State) (p : Pkt) (y : Pkt), (s.InHand 0x1708 p y) ∧ (s.g Page.monc F.MON_COMMON_CTRL_SRC = 0))
    ∧ (∃ (s : State) (fn : Nat), (s.Opens fn (Page.monc + 8)) ∧ (s.g Page.monc F.MON_COMMON_CTRL_SRC = 0))
    ∧ (∃ (s : State) (t : State) (p : Pkt) (y : Pkt), (s.InHand 0x1705 p y) ∧ (s.on (Page.monq y.target)
      F.MON_CAL_STATUS_BUSY = false) ∧ (s.g (Page.monq y.target) F.MON_REF_SEL ≠ wget (y.w 0) 1 0) ∧ (t = (s.inRun
      y).monRef y.target (wget (y.w 0) 1 0)) ∧ (t.on (Page.monq y.target) F.MON_REF_STATUS_SETTLING = true))
    ∧ (∃ (s : State) (p : Pkt) (y : Pkt), (s.InHand 0x1704 p y) ∧ (s.on (Page.monq y.target) F.MON_CAL_STATUS_BUSY =
      false))
    ∧ (∃ (s : State) (p : Pkt) (y : Pkt), (s.InHand 0x1704 p y) ∧ (s.on (Page.monq y.target) F.MON_CAL_STATUS_BUSY = true))
      :=
  ⟨⟨wCmd wBase (wPkt 0x1700 0 [] []), _, (wPkt 0x1700 0 [] []), (wPkt 0x1700 0 [] []), wHand _ _ (by decide +kernel), rfl⟩,
  ⟨wCmd wBase (wPkt 0x1707 0 [] []), _, (wPkt 0x1707 0 [] []), (wPkt 0x1707 0 [] []), wHand _ _ (by decide +kernel), rfl⟩,
  ⟨wCmd wBase (wPkt 0x1708 0 [] []), (wPkt 0x1708 0 [] []), (wPkt 0x1708 0 [] []), wHand _ _ (by decide +kernel),
    by decide +kernel⟩,
  ⟨wBase, 0, wOpens _ _ _ (by decide +kernel), by decide +kernel⟩,
  ⟨wCmd wBase (wPkt 0x1705 0 [1] []), _, (wPkt 0x1705 0 [1] []), (wPkt 0x1705 0 [1] []), wHand _ _ (by decide +kernel),
    by decide +kernel, by decide +kernel, rfl, by decide +kernel⟩,
  ⟨wCmd wBase (wPkt 0x1704 0 [] []), (wPkt 0x1704 0 [] []), (wPkt 0x1704 0 [] []), wHand _ _ (by decide +kernel),
    by decide +kernel⟩,
  ⟨wCmd (wBase.p (Page.monq 0) F.MON_CAL_STATUS_BUSY 1) (wPkt 0x1704 0 [] []), (wPkt 0x1704 0 [] []), (wPkt 0x1704 0 []
    []), wHand _ _ (by decide +kernel), by decide +kernel⟩⟩
theorem witness_MonitorEvents :
    (∃ (s : State) (m : Nat), (m < 64) ∧ (s.startDue m = true))
    ∧ (∃ (s : State) (q : Nat), (q < 4) ∧ (s.on (Page.monq q) F.MON_REF_STATUS_SETTLING = true) ∧ (s.bm.refAt.get 0 q ≤
      s.now))
    ∧ (∃ (s : State) (q : Nat) (fault : Bool), (q < 4) ∧ (s.pwr.convOn = true) ∧ (s.g (Page.monq q) F.MON_REF_SEL = 1))
    ∧ (∃ (s : State) (v : State) (q : Nat), (q < 4) ∧ (s.calRuns q = true) ∧ (s.bm.calAt.get 0 q + msecs 18 ≤ s.now) ∧ (v =
      ((forEach (monsOf q) s State.calFactors).flag (Page.monq q) F.MON_CAL_STATUS_CAL_VALID).unflag (Page.monq q)
      F.MON_CAL_STATUS_BUSY))
    ∧ (∃ (s : State) (v : State) (m : Nat) (raw : Int), (m < 64) ∧ (s.pwr.convOn = true) ∧ ((s.mon m).injNow = false) ∧
      ((s.mon m).run = true) ∧ ((s.mon m).held = false) ∧ ((s.mon m).at_ + 8000 ≤ s.now) ∧ (v = s.monDone m raw false
      (s.mon m).at_ (s.mon m).pos))
    ∧ (∃ (s : State) (v : State) (fn : Nat) (m : Nat), (m < 64) ∧ (s.Answers fn (Page.mon m + 0x48)) ∧ ((s.mon m).loRead =
      true) ∧ (v = { s with pins.rdata := s.heldRd.get 0 (holdKey fn (Page.mon m + 0x48)) })) :=
  ⟨⟨{ (wBase.p (Page.mon 0) F.MON_CTRL_START_SRC 2).p (Page.mon 0) F.MON_CTRL_START_CHAN 9 with evr.now := [(9, true)] },
    0, by decide +kernel⟩,
  ⟨(wBase.p (Page.monq 0) F.MON_REF_STATUS_SETTLING 1), 0, by decide +kernel⟩,
  ⟨(wBase.p (Page.monq 0) F.MON_REF_SEL 1), 0, false, by decide +kernel⟩,
  ⟨{ wBase.p (Page.monq 0) F.MON_CAL_STATUS_BUSY 1 with tim.texp := 2 ^ 30 }, _, 0, by decide +kernel, by decide +kernel,
    by decide +kernel, rfl⟩,
  ⟨{ wBase with bm.mon := [(0, { Mon.zero with run := true })], tim.texp := 16000 }, _, 0, 0, by decide +kernel,
    by decide +kernel, by decide +kernel, by decide +kernel, by decide +kernel, by decide +kernel, rfl⟩,
  ⟨{ wBase with bm.mon := [(0, { Mon.zero with loRead := true })], tim.texp := 16000 }, _, 0, 0, by decide +kernel,
    wAnswers _ _ _ (by decide +kernel), by decide +kernel, rfl⟩⟩
theorem witness_MemoryCommands :
    (∃ (s : State) (p : Pkt) (y : Pkt) (b : List Byte), (s.InHand 0x0800 p y) ∧ (y.data (y.n 2) = some b))
    ∧ (∃ (s : State) (u : State) (p : Pkt) (y : Pkt), (s.InHand 0x0801 p y) ∧ (u = (s.inRun y).ddrIssue (y.n 2 / 8)) ∧
      (u.firstPoison (y.w64 0) (y.n 2) = none))
    ∧ (∃ (s : State) (u : State) (p : Pkt) (y : Pkt) (x : Nat), (s.InHand 0x0801 p y) ∧ (u = (s.inRun y).ddrIssue (y.n 2 /
      8)) ∧ (u.firstPoison (y.w64 0) (y.n 2) = some x))
    ∧ (∃ (s : State) (p : Pkt) (y : Pkt) (op : Nat) (a : Nat) (i : Instr), (s.InHand op p y) ∧ ((op, a, i) ∈ [(0x0802,
      Page.mem + 4, .memMapSet p), (0x0803, Page.mem + 8, .memHintSet p), (0x0804, Page.mem + 0x10, .memScrubSet p)]))
    ∧ (∃ (s : State) (fn : Nat) (w : Word), (s.Opens fn (Page.mem + 0x10C)) ∧ (s.memMapped s.winAddr 8 = true))
    ∧ (∃ (s : State) (t : State) (p : Pkt) (y : Pkt), (s.InHand 0x0805 p y) ∧ (t = (s.inRun y).putImgs y [(0, Page.mem +
      0x200), (1, Page.mem + 0x204), (2, Page.mem + 0x208), (3, Page.mem + 0x20C), (4, Page.mem + 0x210)]) ∧ (t.marchBusy
      (wget (y.w 0) 3 0) (wget (y.w 0) 5 4) = false))
    ∧ (∃ (s : State) (fn : Nat) (w : Word), (s.Opens fn (Page.mem + 0x200)) ∧ (w = s.reg (Page.mem + 0x200)) ∧ (wget w 3 0
      < 11) ∧ (marchRange (wget w 3 0) (s.g64 Page.mem F.MEM_MARCH_FIRST_LO) (s.g64 Page.mem F.MEM_MARCH_COUNT_LO) = true)
      ∧ (s.marchBusy (wget w 3 0) (wget w 5 4) = false))
    ∧ (∃ (s : State) (p : Pkt) (y : Pkt), (s.InHand 0x0806 p y) ∧ (s.mem.march.run = true))
    ∧ (∃ (s : State) (fn : Nat), (s.Opens fn (Page.mem + 0x200)) ∧ (s.mem.march.run = true)) :=
  ⟨⟨wCmd wBase (wPkt 0x0800 0 [] []), (wPkt 0x0800 0 [] []), (wPkt 0x0800 0 [] []), [], wHand _ _ (by decide +kernel),
    by decide +kernel⟩,
  ⟨wCmd wBase (wPkt 0x0801 0 [] []), _, (wPkt 0x0801 0 [] []), (wPkt 0x0801 0 [] []), wHand _ _ (by decide +kernel), rfl,
    by decide +kernel⟩,
  ⟨wCmd { wBase with mem.poison := [(0, true)] } (wPkt 0x0801 0 [0, 0, 8] []), _, (wPkt 0x0801 0 [0, 0, 8] []), (wPkt
    0x0801 0 [0, 0, 8] []), 0, wHand _ _ (by decide +kernel), rfl, wPoison _ _ _ _ _ (by decide +kernel)⟩,
  ⟨wCmd wBase (wPkt 0x0802 0 [] []), (wPkt 0x0802 0 [] []), (wPkt 0x0802 0 [] []), 0x0802, _, _, wHand _ _
    (by decide +kernel), .head _⟩,
  ⟨wBase, 0, 0, wOpens _ _ _ (by decide +kernel), by decide +kernel⟩,
  ⟨wCmd wBase (wPkt 0x0805 0 [] []), _, (wPkt 0x0805 0 [] []), (wPkt 0x0805 0 [] []), wHand _ _ (by decide +kernel), rfl,
    by decide +kernel⟩,
  ⟨wBase, 0, _, wOpens _ _ _ (by decide +kernel), rfl, by decide +kernel⟩,
  ⟨wCmd { wBase with mem.march := { March.zero with run := true } } (wPkt 0x0806 0 [] []), (wPkt 0x0806 0 [] []), (wPkt
    0x0806 0 [] []), wHand _ _ (by decide +kernel), by decide +kernel⟩,
  ⟨{ wBase with mem.march := { March.zero with run := true } }, 0, wOpens _ _ _ (by decide +kernel), by decide +kernel⟩⟩
theorem witness_MemoryEvents :
    (∃ (s : State) (v : State) (c : Nat) (r : Nat) (made : Nat) (n : Nat), (c < 4) ∧ (r < 2) ∧ (s.serving = true) ∧
      (s.mem.refAt.get 0 (2 * c + r) + s.refInterval ≤ s.now) ∧ (n = s.mem.postponed.get 0 (2 * c + r) - made) ∧ (v =
      { s with mem.refAt := s.mem.refAt.set 0 (2 * c + r) s.now }))
    ∧ (∃ (s : State) (v : State) (c : Nat) (r : Nat) (made : Nat) (n : Nat), (c < 4) ∧ (r < 2) ∧ (s.serving = true) ∧
      (s.mem.refAt.get 0 (2 * c + r) + s.refInterval ≤ s.now) ∧ (n = s.mem.postponed.get 0 (2 * c + r) - made) ∧ (v =
      { s with mem.refAt := s.mem.refAt.set 0 (2 * c + r) s.now }) ∧ (n < max 1 (s.g Page.mem F.MEM_REF_CFG_POSTPONE) * 2 ^
      s.g Page.mem F.MEM_REF_CFG_FGR))
    ∧ (∃ (s : State) (v : State) (c : Nat) (r : Nat) (made : Nat) (n : Nat), (c < 4) ∧ (r < 2) ∧ (s.serving = true) ∧
      (s.mem.refAt.get 0 (2 * c + r) + s.refInterval ≤ s.now) ∧ (n = s.mem.postponed.get 0 (2 * c + r) - made) ∧ (v =
      { s with mem.refAt := s.mem.refAt.set 0 (2 * c + r) s.now }) ∧ (max 1 (s.g Page.mem F.MEM_REF_CFG_POSTPONE) * 2 ^ s.g
      Page.mem F.MEM_REF_CFG_FGR ≤ n))
    ∧ (∃ (s : State) (c : Nat) (r : Nat) (n : Nat) (t0 : Nat), (c < 4) ∧ (r < 2) ∧ (s.serving = true) ∧ (s.mem.replays.get
      (0, 0, 0) c = (n, t0, 2 ^ r)) ∧ (n < 4))
    ∧ (∃ (s : State) (q : Nat), (q < 4) ∧ (s.serving = true) ∧ (s.on Page.mem F.MEM_SCRUB_CFG_EN = true) ∧ (s.scrubDue 9
      (36 + q) = true))
    ∧ (∃ (s : State) (i : Nat), (i < 256) ∧ (s.locValid i = true) ∧ ((s.mem.hits.get (0, 0) i).1 + day <
      s.log.mtime.toNat))
    ∧ (∃ (s : State) (c : Nat), (c < 4) ∧ (s.g (Page.memCh c) F.MEM_CH_STATUS_RANK0 = 1))
    ∧ (∃ (s : State) (st : Nat), (st ∈ s.mem.initLeft) ∧ (s.mem.initLeft.filter (· ≠ st) ≠ []))
    ∧ (∃ (s : State) (first : Nat) (ops : Nat) (chk : Nat) (d : BitVec 64), (s.mem.march.run = true))
    ∧ (∃ (s : State) (n : Nat) (first : Nat) (ops : Nat) (chk : Nat) (d : BitVec 64), (s.mem.march.run = true) ∧
      (s.mem.march.stopOnFail = false) ∧ (0 < n) ∧ (n ≤ 0xFFFFFFFF)) :=
  ⟨⟨{ wBase with tim.texp := 2 ^ 40 }, _, 0, 0, 0, _, by decide +kernel, by decide +kernel, by decide +kernel,
    by decide +kernel, rfl, rfl⟩,
  ⟨{ wBase with tim.texp := 2 ^ 40 }, _, 0, 0, 0, _, by decide +kernel, by decide +kernel, by decide +kernel,
    by decide +kernel, rfl, rfl, by decide +kernel⟩,
  ⟨{ wBase with tim.texp := 2 ^ 40, mem.postponed := [(0, 100)] }, _, 0, 0, 0, _, by decide +kernel, by decide +kernel,
    by decide +kernel, by decide +kernel, rfl, rfl, by decide +kernel⟩,
  ⟨{ wBase with mem.replays := [(0, 1, 0, 1)] }, 0, 0, 1, 0, by decide +kernel⟩,
  ⟨wBase, 0, by decide +kernel⟩,
  ⟨{ wBase.p (Page.loc 3) F.MEM_LOC_WHERE_VALID 1 with log.mtime := 2 ^ 60 }, 3, by decide +kernel⟩,
  ⟨(wBase.p (Page.memCh 0) F.MEM_CH_STATUS_RANK0 1), 0, by decide +kernel⟩,
  ⟨{ wBase with mem.initLeft := [3, 4] }, 3, by decide +kernel⟩,
  ⟨{ wBase with mem.march := { March.zero with run := true } }, 0, 0, 0, 0, by decide +kernel⟩,
  ⟨{ wBase with mem.march := { March.zero with run := true } }, 1, 0, 0, 0, 0, by decide +kernel⟩⟩
theorem witness_RegisterAccesses :
    (∃ (s : State) (fn : Nat) (o : Nat) (a : Nat) (r : RegDesc) (ix : List Nat) (v : Word), (fn < 6) ∧ (fnAddr fn o = some
      a) ∧ (s.Opens fn a) ∧ (regAt a = some (r, ix)))
    ∧ (∃ (s : State) (fn : Nat) (o : Nat) (a : Nat) (r : RegDesc) (ix : List Nat) (v : Word), (fn < 6) ∧ (fnAddr fn o =
      some a) ∧ (s.Opens fn a) ∧ (regAt a = some (r, ix)) ∧ (isHigh r.base = true))
    ∧ (∃ (s : State) (fn : Nat) (o : Nat) (v : Word), (fn < 6) ∧ (fnAddr fn o = none))
    ∧ (∃ (s : State) (fn : Nat) (o : Nat) (a : Nat) (r : RegDesc) (ix : List Nat), (fn < 6) ∧ (fnAddr fn o = some a) ∧
      (s.Answers fn a) ∧ (regAt a = some (r, ix)) ∧ (rowRead fn r ix = none))
    ∧ (∃ (s : State) (fn : Nat) (o : Nat) (a : Nat) (r : RegDesc) (ix : List Nat) (f : State → Out), (fn < 6) ∧ (fnAddr fn
      o = some a) ∧ (regAt a = some (r, ix)) ∧ (rowRead fn r ix = some f))
    ∧ (∃ (s : State) (fn : Nat) (o : Nat), (fn < 6) ∧ (fnAddr fn o = none))
    ∧ (∃ (s : State) (fn : Nat) (o : Nat) (a : Nat), (fn < 6) ∧ (fnAddr fn o = some a) ∧ (∀ r ix, regAt a = some (r, ix) →
      rowRead fn r ix = none) ∧ (s.pwr.mode ≠ .off) ∧ (s.bankedLimits = false) ∧ (s.sees fn a = false)) :=
  ⟨⟨wBase, 0, 0, 0, _, _, 0, by decide +kernel, by decide +kernel, wOpens _ _ _ (by decide +kernel), rfl⟩,
  ⟨wBase, 0, 0x300110, _, _, _, 0, by decide +kernel, rfl, wOpens _ _ _ (by decide +kernel), rfl, by decide +kernel⟩,
  ⟨wBase, 0, (2 ^ 26), 0, by decide +kernel⟩,
  ⟨wBase, 0, 0, 0, _, _, by decide +kernel, by decide +kernel, wAnswers _ _ _ (by decide +kernel), rfl, by decide +kernel⟩,
  ⟨wBase, 0, 16908300, 16908300, _, _, _, by decide +kernel, by decide +kernel, rfl, rfl⟩,
  ⟨wBase, 0, (2 ^ 26), by decide +kernel⟩,
  ⟨wBase, 1, 1152, 1152, by decide +kernel, by decide +kernel, (fun _ _ h => nomatch (h.symm.trans (by decide +kernel : _ =
    none))), by decide +kernel⟩⟩
theorem witness_PacketsAndCompletions :
    (∃ (s : State) (n : Nat) (p : Pkt), (s.serving = true) ∧ (s.nextSq = some n) ∧ (s.hif.slots.length < 64))
    ∧ (∃ (s : State) (sq : Nat) (tag : Nat) (sl : Slot) (c : Cmd), (s.hif.slots.find? (fun sl => sl.isOf sq tag && sl.st =
      .waiting) = some sl) ∧ (cmdOf sl.p.op = some c) ∧ (s.mayStart c sl.p = true))
    ∧ (∃ (s : State) (p : Nat) (sl : Slot) (c : Cmd), (s.hif.slots.filter (fun sl => sl.st = .waiting && sl.shot.isSome &&
      sl.p.part = p) = [sl]) ∧ (cmdOf sl.p.op = some c) ∧ (s.mayStart c sl.p = true))
    ∧ (∃ (s : State) (n : Nat), (n < 64) ∧ (n ∉ s.hif.retry)) :=
  ⟨⟨{ (((wBase.p (Page.sq 0) F.SQ_CTRL_ENABLE 1).p (Page.db 0) ⟨0, 15, 0⟩ 1).p (Page.cq 0) F.CQ_SIZE_LOG2 4) with hif.linkUp := true, hif.bme := true },
    0, (wPkt 0 0 [] []), by decide +kernel⟩,
  ⟨{ wBase with hif.slots := [{ wSlot (wPkt 0 0 [] []) with st := .waiting }], hif.linkUp := true }, 0, 0,
    { wSlot (wPkt 0 0 [] []) with st := .waiting }, _, by decide +kernel, rfl, by decide +kernel⟩,
  ⟨{ wBase with hif.slots := [{ wSlot (wPkt 0 0 [] []) with st := .waiting, shot := some 0 }], hif.linkUp := true }, 0,
    { wSlot (wPkt 0 0 [] []) with st := .waiting, shot := some 0 }, _, by decide +kernel, rfl, by decide +kernel⟩,
  ⟨wBase, 0, by decide +kernel⟩⟩
theorem witness_LinkAndResets :
    (∃ (s : State), (s.hif.linkUp = true))
    ∧ (∃ (s : State), (s.hif.bme = true))
    ∧ (∃ (s : State) (v : State) (w : State) (a : Nat) (b : Nat), (s.pwr.mode ≠ .off) ∧ (s.hif.linkUp = false) ∧ (s.fresh 8
      = (v, a)) ∧ (v.fresh 8 = (w, b)))
    ∧ (∃ (s : State), (s.pwr.mode ≠ .off) ∧ (s.hif.bme = false))
    ∧ (∃ (s : State) (i : Nat), (1 ≤ i) ∧ (i ≤ 4) ∧ (s.idle i = true))
    ∧ (∃ (s : State) (sq : Nat) (tag : Nat) (sl : Slot), (s.hif.linkUp = true) ∧ (sq < 64) ∧ (s.hif.slots.find? (fun sl =>
      sl.p.sq = sq && sl.p.tag = tag && sl.st ≠ .waiting) = some sl) ∧ (sl.st = .executing))
    ∧ (∃ (s : State) (r : Nat), (s.hif.retry = [r]) ∧ (r < 64)) :=
  ⟨⟨{ wBase with hif.linkUp := true }, by decide +kernel⟩,
  ⟨{ wBase with hif.bme := true }, by decide +kernel⟩,
  ⟨wBase, _, _, _, _, by decide +kernel, by decide +kernel, rfl, rfl⟩,
  ⟨wBase, by decide +kernel⟩,
  ⟨wBase, 1, by decide +kernel⟩,
  ⟨{ wBase with hif.slots := [{ wSlot (wPkt 0 0 [] []) with st := .executing }], hif.linkUp := true }, 0, 0,
    { wSlot (wPkt 0 0 [] []) with st := .executing }, by decide +kernel⟩,
  ⟨{ wBase with hif.retry := [3] }, 3, by decide +kernel⟩⟩
theorem witness_FabricCommands :
    (∃ (s : State) (t : State) (p : Pkt) (y : Pkt), (s.InHand 0x0701 p y) ∧ (t = forEach ((portLanes y.target).filter (fun
      l => (s.inRun y).rxState l = 3)) (s.inRun y) (fun s l => s.setLane l { s.lane l with search := some 0 })) ∧ (t.portUp
      y.target = false))
    ∧ (∃ (s : State) (t : State) (p : Pkt) (y : Pkt), (s.InHand 0x0701 p y) ∧ (t = forEach ((portLanes y.target).filter
      (fun l => (s.inRun y).rxState l = 3)) (s.inRun y) (fun s l => s.setLane l { s.lane l with search := some 0 })) ∧
      (t.portUp y.target = true))
    ∧ (∃ (s : State) (p : Pkt) (y : Pkt) (n : Nat), (s.InHand 0x0703 p y) ∧ (s.on Page.fab F.FAB_STATUS_ADDR_VALID = true)
      ∧ (n = (s.fab.discNo + 1) % 16)) :=
  ⟨⟨wCmd wBase (wPkt 0x0701 0 [] []), _, (wPkt 0x0701 0 [] []), (wPkt 0x0701 0 [] []), wHand _ _ (by decide +kernel), rfl,
    by decide +kernel⟩,
  ⟨wCmd (((wBase.p (Page.port 0) F.FAB_PORT_STATUS_STATE 2).p (Page.port 0) F.FAB_PORT_STATUS_TX_WIDTH 4).p (Page.port 0)
    F.FAB_PORT_STATUS_RX_WIDTH 4) (wPkt 0x0701 0 [] []), _, (wPkt 0x0701 0 [] []), (wPkt 0x0701 0 [] []), wHand _ _
    (by decide +kernel), rfl, by decide +kernel⟩,
  ⟨wCmd (wBase.p Page.fab F.FAB_STATUS_ADDR_VALID 1) (wPkt 0x0703 0 [] []), (wPkt 0x0703 0 [] []), (wPkt 0x0703 0 [] []),
    _, wHand _ _ (by decide +kernel), by decide +kernel, rfl⟩⟩
theorem witness_FabricLanes :
    (∃ (s : State) (fn : Nat) (l : Nat), (l < 32) ∧ (s.Opens fn (Page.lane l + 4)) ∧ (s.rxState l = 3))
    ∧ (∃ (s : State) (fn : Nat) (l : Nat), (l < 32) ∧ (s.Opens fn (Page.lane l + 4)) ∧ (s.rxState l = 4))
    ∧ (∃ (s : State) (u : State) (l : Nat) (n : Nat), (l < 32) ∧ (s.rxState l = 3) ∧ ((s.lane l).search = some n) ∧ (n <
      168) ∧ (s.on (Page.lane l) F.FAB_LANE_STATUS_MARK_OK = false) ∧ (u = (s.setLane l (s.lane l).slip).p (Page.lane l)
      F.FAB_LANE_STATUS_SLIP_POS ((s.g (Page.lane l) F.FAB_LANE_STATUS_SLIP_POS + 1) % 84)))
    ∧ (∃ (s : State) (v : State) (l : Nat), (l < 32) ∧ (s.rxState l = 2) ∧ (v = ((s.unflag (Page.lane l)
      F.FAB_LANE_STATUS_LOS).unflag (Page.lane l) F.FAB_LANE_STATUS_LOL).p (Page.lane l) F.FAB_LANE_STATUS_SLIP_POS 0))
    ∧ (∃ (s : State) (l : Nat), (l < 32) ∧ (s.rxState l = 3) ∧ (64 ≤ (s.lane l).rx.good))
    ∧ (∃ (s : State) (l : Nat), (l < 32) ∧ (s.rxState l = 3) ∧ ((s.lane l).search = some 168 ∨ (s.lane l).alignAt + msecs
      10 ≤ s.now))
    ∧ (∃ (s : State) (l : Nat), (l < 32) ∧ (s.rxState l = 4) ∧ (8 ≤ (s.lane l).rx.bad))
    ∧ (∃ (s : State) (v : State) (l : Nat) (m : Nat), (l < 32) ∧ (s.rxState l = 4) ∧ ((s.lane l).rx.bad < 8) ∧ (s.fresh 1 =
      (v, m)))
    ∧ (∃ (s : State) (v : State) (l : Nat) (m : Nat), (l < 32) ∧ (s.rxState l = 2 ∨ s.rxState l = 3) ∧ (s.fresh 1 = (v,
      m))) :=
  ⟨⟨(wBase.p (Page.lane 0) F.FAB_LANE_STATUS_RX_STATE 3), 0, 0, by decide +kernel, wOpens _ _ _ (by decide +kernel),
    by decide +kernel⟩,
  ⟨(wBase.p (Page.lane 0) F.FAB_LANE_STATUS_RX_STATE 4), 0, 0, by decide +kernel, wOpens _ _ _ (by decide +kernel),
    by decide +kernel⟩,
  ⟨{ (wBase.p (Page.lane 0) F.FAB_LANE_STATUS_RX_STATE 3) with fab.lane := [(0, { Lane.zero with search := some 3 })] }, _,
    0, 3, by decide +kernel, by decide +kernel, by decide +kernel, by decide +kernel, by decide +kernel, rfl⟩,
  ⟨(wBase.p (Page.lane 0) F.FAB_LANE_STATUS_RX_STATE 2), _, 0, by decide +kernel, by decide +kernel, rfl⟩,
  ⟨{ (wBase.p (Page.lane 0) F.FAB_LANE_STATUS_RX_STATE 3) with fab.lane := [(0, { Lane.zero with rx := { LineRx.zero with good := 64 } })] },
    0, by decide +kernel⟩,
  ⟨{ (wBase.p (Page.lane 0) F.FAB_LANE_STATUS_RX_STATE 3) with fab.lane := [(0, { Lane.zero with search := some 168 })] },
    0, by decide +kernel, by decide +kernel, .inl (by decide +kernel)⟩,
  ⟨{ (wBase.p (Page.lane 0) F.FAB_LANE_STATUS_RX_STATE 4) with fab.lane := [(0, { Lane.zero with rx := { LineRx.zero with bad := 8 } })] },
    0, by decide +kernel⟩,
  ⟨(wBase.p (Page.lane 0) F.FAB_LANE_STATUS_RX_STATE 4), _, 0, _, by decide +kernel, by decide +kernel, by decide +kernel,
    rfl⟩,
  ⟨(wBase.p (Page.lane 0) F.FAB_LANE_STATUS_RX_STATE 2), _, 0, _, by decide +kernel, .inl (by decide +kernel), rfl⟩⟩
theorem witness_FabricPorts :
    (∃ (s : State) (u : State) (w : State) (p : Nat) (v : Nat) (c : Nat) (b : Bool) (d : Bool) (r : LineRx) (g : LineRx)
      (bl : Tab (Option Nat)), (p < 8) ∧ (s.rxState (4 * p) = 4) ∧ ((s.lane (4 * p)).rx.stuffed = false) ∧ ((s.lane (4 *
      p)).rx.bit (b ^^ s.on (Page.lane (4 * p)) F.FAB_LANE_CFG_RX_INVERT) = (r, some d)) ∧ (r.gather d = (g, some v)) ∧
      (markOk v = true) ∧ (u = (s.setLane (4 * p) { s.lane (4 * p) with rx := g.marked v }).p (Page.lane (4 * p))
      F.FAB_LANE_STATUS_MARK_OK (if 16 ≤ (g.marked v).good then 1 else 0)) ∧ ((u.port p).blocks.get none (v % 4) = none) ∧
      (bl = (u.port p).blocks.set none (v % 4) (some (v / 16))) ∧ (bl.get none 0 = none ∨ bl.get none 1 = none ∨ bl.get
      none 2 = none ∨ bl.get none 3 = none))
    ∧ (∃ (s : State) (u : State) (w : State) (p : Nat) (v : Nat) (c : Nat) (b : Bool) (d : Bool) (r : LineRx) (g : LineRx)
      (bl : Tab (Option Nat)), (p < 8) ∧ (s.rxState (4 * p) = 4) ∧ ((s.lane (4 * p)).rx.stuffed = false) ∧ ((s.lane (4 *
      p)).rx.bit (b ^^ s.on (Page.lane (4 * p)) F.FAB_LANE_CFG_RX_INVERT) = (r, some d)) ∧ (r.gather d = (g, some v)) ∧
      (markOk v = true) ∧ (u = (s.setLane (4 * p) { s.lane (4 * p) with rx := g.marked v }).p (Page.lane (4 * p))
      F.FAB_LANE_STATUS_MARK_OK (if 16 ≤ (g.marked v).good then 1 else 0)) ∧ ((u.port p).blocks.get none (v % 4) = none) ∧
      (bl = (u.port p).blocks.set none (v % 4) (some (v / 16))) ∧ (w = u.setPort p { u.port p with blocks := [] }) ∧ (∀ i <
      4, bl.get none i = some (c / 2 ^ (80 * i) % 2 ^ 80)) ∧ (c < 2 ^ 320) ∧ (w.portState p ≠ 0) ∧ ((frameOf c).crcOk =
      false))
    ∧ (∃ (s : State) (u : State) (w : State) (p : Nat) (v : Nat) (c : Nat) (b : Bool) (d : Bool) (r : LineRx) (g : LineRx)
      (bl : Tab (Option Nat)), (p < 8) ∧ (s.rxState (4 * p) = 4) ∧ ((s.lane (4 * p)).rx.stuffed = false) ∧ ((s.lane (4 *
      p)).rx.bit (b ^^ s.on (Page.lane (4 * p)) F.FAB_LANE_CFG_RX_INVERT) = (r, some d)) ∧ (r.gather d = (g, some v)) ∧
      (markOk v = true) ∧ (u = (s.setLane (4 * p) { s.lane (4 * p) with rx := g.marked v }).p (Page.lane (4 * p))
      F.FAB_LANE_STATUS_MARK_OK (if 16 ≤ (g.marked v).good then 1 else 0)) ∧ ((u.port p).blocks.get none (v % 4) = none) ∧
      (bl = (u.port p).blocks.set none (v % 4) (some (v / 16))) ∧ (w = u.setPort p { u.port p with blocks := [] }) ∧ (∀ i <
      4, bl.get none i = some (c / 2 ^ (80 * i) % 2 ^ 80)) ∧ (c < 2 ^ 320) ∧ (w.portState p ≠ 0) ∧ ((frameOf c).crcOk =
      true) ∧ ((frameOf c).data = true) ∧ ((frameOf c).nak = false))
    ∧ (∃ (s : State) (p : Nat), (p < 8) ∧ ((s.port p).replay ≠ []) ∧ ((s.port p).lastAckAt + 1000 ≤ s.now / 16))
    ∧ (∃ (s : State) (p : Nat), (p < 8) ∧ ((s.port p).replay.any (fun f => f.words.any s.expired) = false) ∧ ((s.port
      p).queue.any s.expired = true))
    ∧ (∃ (s : State) (p : Nat), (p < 8) ∧ (s.portUp p = true) ∧ ((s.port p).replay.any (fun f => f.sent + 4096 ≤ s.now /
      16) = true))
    ∧ (∃ (s : State) (p : Nat), (p < 8) ∧ (s.portState p ≠ 0) ∧ ((s.port p).hello = 0 ∨ (s.port p).hello - 1 + (if s.portUp
      p then 1000000 else 10000) ≤ s.now / 16))
    ∧ (∃ (s : State) (v : State) (p : Nat) (w : BitVec 64), (p < 8) ∧ (s.linkFlows p = true) ∧ (bitsOf w 3 0 = 0) ∧ (v =
      s.takeWord 8 w) ∧ (v.portUp p = true) ∧ (w.toNat / 2 ^ 16 ≠ v.g64 (Page.port p) F.FAB_PORT_PEER_LO))
    ∧ (∃ (s : State) (v : State) (p : Nat) (w : BitVec 64), (p < 8) ∧ (s.linkFlows p = true) ∧ (bitsOf w 3 0 = 0) ∧ (v =
      s.takeWord 8 w) ∧ (v.portUp p = true) ∧ (w.toNat / 2 ^ 16 = v.g64 (Page.port p) F.FAB_PORT_PEER_LO)) :=
  ⟨⟨(wLine 8 []), _, wBase, 0, 8, 0, false, false, ⟨0, false, 1, 0, 8, 83, 0, 0⟩, ⟨0, false, 1, 0, 0, 0, 0, 0⟩, _,
    by decide +kernel, by decide +kernel, by decide +kernel, by decide +kernel, by decide +kernel, by decide +kernel, rfl,
    by decide +kernel, rfl, by decide +kernel⟩,
  ⟨(wLine 8 [(1, some 0), (2, some 0), (3, some 0)]), _, _, 0, 8, 0, false, false, ⟨0, false, 1, 0, 8, 83, 0, 0⟩, ⟨0,
    false, 1, 0, 0, 0, 0, 0⟩, _, by decide +kernel, by decide +kernel, by decide +kernel, by decide +kernel,
    by decide +kernel, by decide +kernel, rfl, by decide +kernel, rfl, rfl, by decide +kernel⟩,
  ⟨(wLine 4026531864 [(1, some 0), (2, some 0), (3, some 1196372825753593543917568)]), _, _, 0, 4026531864,
    2113807815563358200425996188060174453260322340011506349904239769835167951312589675655373162283009, false, false, ⟨0,
    false, 1, 0, 4026531864, 83, 0, 0⟩, ⟨0, false, 1, 0, 0, 0, 0, 0⟩, _, by decide +kernel, by decide +kernel,
    by decide +kernel, by decide +kernel, by decide +kernel, by decide +kernel, rfl, by decide +kernel, rfl, rfl,
    by decide +kernel⟩,
  ⟨{ wBase with fab.port := [(0, { FPort.zero with replay := [⟨0, [], 0⟩] })], tim.texp := 160000 }, 0, by decide +kernel⟩,
  ⟨{ wBase with fab.port := [(0, { FPort.zero with queue := [⟨0, 0, 0, [], 0⟩] })], tim.texp := 160000 }, 0,
    by decide +kernel⟩,
  ⟨{ ((wBase.p (Page.port 0) F.FAB_PORT_STATUS_STATE 2).p (Page.port 0) F.FAB_PORT_STATUS_TX_WIDTH 4).p (Page.port 0) F.FAB_PORT_STATUS_RX_WIDTH 4 with fab.port := [(0, { FPort.zero with replay := [⟨0, [], 0⟩] })], tim.texp := 160000 },
    0, by decide +kernel⟩,
  ⟨(((wBase.p (Page.port 0) F.FAB_PORT_STATUS_STATE 2).p (Page.port 0) F.FAB_PORT_STATUS_TX_WIDTH 4).p (Page.port 0)
    F.FAB_PORT_STATUS_RX_WIDTH 4), 0, by decide +kernel, by decide +kernel, .inl rfl⟩,
  ⟨(((wBase.p (Page.port 0) F.FAB_PORT_STATUS_STATE 2).p (Page.port 0) F.FAB_PORT_STATUS_TX_WIDTH 4).p (Page.port 0)
    F.FAB_PORT_STATUS_RX_WIDTH 4), _, 0, (7 * 2 ^ 16), by decide +kernel, by decide +kernel, by decide +kernel, rfl,
    by decide +kernel⟩,
  ⟨(((wBase.p (Page.port 0) F.FAB_PORT_STATUS_STATE 2).p (Page.port 0) F.FAB_PORT_STATUS_TX_WIDTH 4).p (Page.port 0)
    F.FAB_PORT_STATUS_RX_WIDTH 4), _, 0, 0, by decide +kernel, by decide +kernel, by decide +kernel, rfl,
    by decide +kernel⟩⟩
theorem witness_DiscoveryAndRoutes :
    (∃ (s : State) (v : State) (t : State) (p : Nat) (n : Nat) (w : BitVec 64), (p < 8) ∧ (s.portUp p = true) ∧ (bitsOf w 3
      0 = 1) ∧ (v = s.takeWord 8 w) ∧ (n = bitsOf w 11 8) ∧ (n ≠ v.fab.discNo) ∧ (t =
      { v with fab.discNo := n, fab.parent := some p, fab.discUntil := v.now / 16 + 164000 }.sendDiscover (bitsOf w 7 4 +
      1) n (w.toNat / 2 ^ 16) (some p)) ∧ (t.isMemberB = false))
    ∧ (∃ (s : State) (v : State) (p : Nat) (q : Nat) (w : BitVec 64), (p < 8) ∧ (s.portUp p = true) ∧ (bitsOf w 3 0 = 2) ∧
      (v = s.takeWord 8 w) ∧ (v.fab.discOwed = none) ∧ (v.fab.parent = some q) ∧ (q ≠ p))
    ∧ (∃ (s : State) (x : Nat × Nat), (s.fab.discOwed = some x) ∧ (s.fab.discEnd = none) ∧ (s.fab.lastAnn + 100000 ≤ s.now
      / 16) ∧ (s.fab.claims = []))
    ∧ (∃ (s : State) (t : State) (u : State) (v : State) (p : Nat) (w : BitVec 64), (p < 8) ∧ (s.portUp p = true) ∧ (bitsOf
      w 3 0 = 3) ∧ (t = s.takeWord 8 w) ∧ (t.fab.parent = some p) ∧ (u = { t with fab.discUntil := t.now / 16 + 64000 }) ∧
      (v = forEach (u.upPorts.filter (· ≠ p)) u (fun s p => s.linkWord p w.toNat)) ∧ (w.toNat / 2 ^ 16 = modId) ∧
      (v.isMemberB = false) ∧ (bitsOf w 10 10 = 0))
    ∧ (∃ (s : State), (s.on Page.fab F.FAB_STATUS_ADDR_VALID = true) ∧ (s.now / 16 % vectorTicks = 0))
    ∧ (∃ (s : State) (v : State) (p : Nat) (w : BitVec 64), (p < 8) ∧ (s.portUp p = true) ∧ (bitsOf w 3 0 = 4) ∧ (v =
      s.takeWord 8 w)) :=
  ⟨⟨(((wBase.p (Page.port 0) F.FAB_PORT_STATUS_STATE 2).p (Page.port 0) F.FAB_PORT_STATUS_TX_WIDTH 4).p (Page.port 0)
    F.FAB_PORT_STATUS_RX_WIDTH 4), _, _, 0, _, (1 + 3 * 2 ^ 8), by decide +kernel, by decide +kernel, by decide +kernel,
    rfl, rfl, by decide +kernel, rfl, by decide +kernel⟩,
  ⟨{ ((wBase.p (Page.port 0) F.FAB_PORT_STATUS_STATE 2).p (Page.port 0) F.FAB_PORT_STATUS_TX_WIDTH 4).p (Page.port 0) F.FAB_PORT_STATUS_RX_WIDTH 4 with fab.parent := some 1 },
    _, 0, 1, 2, by decide +kernel, by decide +kernel, by decide +kernel, rfl, by decide +kernel⟩,
  ⟨{ wBase with fab.discOwed := some (0, 0), tim.texp := 1600000 }, (0, 0), by decide +kernel⟩,
  ⟨{ ((wBase.p (Page.port 0) F.FAB_PORT_STATUS_STATE 2).p (Page.port 0) F.FAB_PORT_STATUS_TX_WIDTH 4).p (Page.port 0) F.FAB_PORT_STATUS_RX_WIDTH 4 with fab.parent := some 0 },
    _, _, _, 0, (BitVec.ofNat 64 (3 + 2 ^ 16 * modId)), by decide +kernel, by decide +kernel, wAssign.1, rfl,
    by decide +kernel, rfl, rfl, wAssign.2.1, by decide +kernel, wAssign.2.2⟩,
  ⟨(wBase.p Page.fab F.FAB_STATUS_ADDR_VALID 1), by decide +kernel⟩,
  ⟨(((wBase.p (Page.port 0) F.FAB_PORT_STATUS_STATE 2).p (Page.port 0) F.FAB_PORT_STATUS_TX_WIDTH 4).p (Page.port 0)
    F.FAB_PORT_STATUS_RX_WIDTH 4), _, 0, 4, by decide +kernel, by decide +kernel, by decide +kernel, rfl⟩⟩
theorem witness_TwinWords :
    (∃ (s : State) (h : State) (w : BitVec 64) (d : BitVec 64), (s.pwr.mode ≠ .off) ∧ (s.twinEn = true) ∧ (h = (s.takeWord
      7 w).hear) ∧ (mwType w = 0))
    ∧ (∃ (s : State) (h : State) (w : BitVec 64) (d : BitVec 64), (s.pwr.mode ≠ .off) ∧ (s.twinEn = true) ∧ (h =
      (s.takeWord 7 w).hear) ∧ (mwType w = 1))
    ∧ (∃ (s : State) (h : State) (w : BitVec 64) (d : BitVec 64), (s.pwr.mode ≠ .off) ∧ (s.twinEn = true) ∧ (h =
      (s.takeWord 7 w).hear) ∧ (mwType w = 2) ∧ (mwPart w < 5))
    ∧ (∃ (s : State) (h : State) (w : BitVec 64) (d : BitVec 64), (s.pwr.mode ≠ .off) ∧ (s.twinEn = true) ∧ (h =
      (s.takeWord 7 w).hear) ∧ (mwType w = 4))
    ∧ (∃ (s : State) (h : State) (w : BitVec 64) (d : BitVec 64), (s.pwr.mode ≠ .off) ∧ (s.twinEn = true) ∧ (h =
      (s.takeWord 7 w).hear) ∧ (mwType w = 5) ∧ (h.twinState = 1) ∧ (0 < bitsOf w 42 11))
    ∧ (∃ (s : State) (h : State) (w : BitVec 64) (d : BitVec 64), (s.pwr.mode ≠ .off) ∧ (s.twinEn = true) ∧ (h =
      (s.takeWord 7 w).hear) ∧ (mwType w = 6) ∧ (h.twinState = 2) ∧ (mwPart w < 5))
    ∧ (∃ (s : State) (h : State) (w : BitVec 64) (d : BitVec 64), (s.pwr.mode ≠ .off) ∧ (s.twinEn = true) ∧ (h =
      (s.takeWord 7 w).hear) ∧ (mwType w = 7) ∧ (h.twinState = 5))
    ∧ (∃ (s : State), (s.pwr.mode ≠ .off) ∧ (s.twinEn = true) ∧ (s.fab.beatAt + 256 ≤ s.now / 16))
    ∧ (∃ (s : State) (w : BitVec 64), (s.pwr.mode ≠ .off) ∧ (s.twinEn = true) ∧ (mwType w = 3))
    ∧ (∃ (s : State) (v : State), (s.pwr.mode ≠ .off) ∧ (s.twinEn = true) ∧ (s.silentFrom + s.hbTicks ≤ s.now / 16) ∧ (v =
      s.unflag Page.twin F.FAB_TWIN_STATUS_PARTNER_SEEN))
    ∧ (∃ (s : State) (v : State) (w : BitVec 64) (n : Nat), (s.pwr.mode ≠ .off) ∧ (v = s.takeWord 9 w) ∧ (v.twinState = 1)
      ∧ (v.fab.joinLeft = n + 2))
    ∧ (∃ (s : State), (s.pwr.mode ≠ .off) ∧ (s.twinEn = true) ∧ (s.twinState = 0) ∧ (s.partnerSeen = false) ∧
      (s.fab.enabledAt + 10000 ≤ s.now / 16)) :=
  ⟨⟨((wBase.p Page.twin F.FAB_TWIN_CTRL_EN 1).p Page.twin F.FAB_TWIN_STATUS_STATE 0), _, (0 + 2 ^ 11), 0,
    by decide +kernel, by decide +kernel, rfl, by decide +kernel⟩,
  ⟨((wBase.p Page.twin F.FAB_TWIN_CTRL_EN 1).p Page.twin F.FAB_TWIN_STATUS_STATE 0), _, (1 + 2 ^ 11), 0, by decide +kernel,
    by decide +kernel, rfl, by decide +kernel⟩,
  ⟨((wBase.p Page.twin F.FAB_TWIN_CTRL_EN 1).p Page.twin F.FAB_TWIN_STATUS_STATE 0), _, (2 + 2 ^ 11), 0, by decide +kernel,
    by decide +kernel, rfl, by decide +kernel⟩,
  ⟨((wBase.p Page.twin F.FAB_TWIN_CTRL_EN 1).p Page.twin F.FAB_TWIN_STATUS_STATE 0), _, (4 + 2 ^ 11), 0, by decide +kernel,
    by decide +kernel, rfl, by decide +kernel⟩,
  ⟨((wBase.p Page.twin F.FAB_TWIN_CTRL_EN 1).p Page.twin F.FAB_TWIN_STATUS_STATE 1), _, (5 + 2 ^ 11), 0, by decide +kernel,
    by decide +kernel, rfl, by decide +kernel⟩,
  ⟨((wBase.p Page.twin F.FAB_TWIN_CTRL_EN 1).p Page.twin F.FAB_TWIN_STATUS_STATE 2), _, (6 + 2 ^ 11), 0, by decide +kernel,
    by decide +kernel, rfl, by decide +kernel⟩,
  ⟨((wBase.p Page.twin F.FAB_TWIN_CTRL_EN 1).p Page.twin F.FAB_TWIN_STATUS_STATE 5), _, (7 + 2 ^ 11), 0, by decide +kernel,
    by decide +kernel, rfl, by decide +kernel⟩,
  ⟨{ ((wBase.p Page.twin F.FAB_TWIN_CTRL_EN 1).p Page.twin F.FAB_TWIN_STATUS_STATE 1) with tim.texp := 160000 },
    by decide +kernel⟩,
  ⟨((wBase.p Page.twin F.FAB_TWIN_CTRL_EN 1).p Page.twin F.FAB_TWIN_STATUS_STATE 1), 3, by decide +kernel⟩,
  ⟨{ ((wBase.p Page.twin F.FAB_TWIN_CTRL_EN 1).p Page.twin F.FAB_TWIN_STATUS_STATE 1) with tim.texp := 1600000000 }, _,
    by decide +kernel, by decide +kernel, by decide +kernel, rfl⟩,
  ⟨{ ((wBase.p Page.twin F.FAB_TWIN_CTRL_EN 1).p Page.twin F.FAB_TWIN_STATUS_STATE 1) with fab.joinLeft := 5 }, _, 0, 3,
    by decide +kernel, rfl, by decide +kernel⟩,
  ⟨{ ((wBase.p Page.twin F.FAB_TWIN_CTRL_EN 1).p Page.twin F.FAB_TWIN_STATUS_STATE 0) with tim.texp := 1600000 },
    by decide +kernel⟩⟩
theorem witness_LogCommands :
    (∃ (s : State) (p : Pkt) (y : Pkt) (l : List LogEnt), (s.InHand 0x0C00 p y) ∧ (l = s.logEnts y.fn (y.n 0) (y.n 1)))
    ∧ (∃ (s : State) (p : Pkt) (y : Pkt) (l : List LogEnt), (s.InHand 0x0C01 p y) ∧ (l = (s.nvEnts.drop (y.n 0)).take (y.n
      1)))
    ∧ (∃ (s : State) (e : LogEnt) (l : List (Retired ⊕ LogEnt)), (s.pwr.input = true) ∧ (s.log.flashQ = .inr e :: l))
    ∧ (∃ (s : State) (x : Retired) (l : List (Retired ⊕ LogEnt)), (s.pwr.input = true) ∧ (s.log.flashQ = .inl x :: l)) :=
  ⟨⟨wCmd wBase (wPkt 0x0C00 0 [] []), (wPkt 0x0C00 0 [] []), (wPkt 0x0C00 0 [] []), _, wHand _ _ (by decide +kernel), rfl⟩,
  ⟨wCmd wBase (wPkt 0x0C01 0 [] []), (wPkt 0x0C01 0 [] []), (wPkt 0x0C01 0 [] []), _, wHand _ _ (by decide +kernel), rfl⟩,
  ⟨{ wBase with log.flashQ := [.inr LogEnt.zero] }, LogEnt.zero, [], by decide +kernel⟩,
  ⟨{ wBase with log.flashQ := [.inl ⟨1, 2⟩] }, ⟨1, 2⟩, [], by decide +kernel⟩⟩
theorem witness_SelfTestCommands :
    ∃ (s : State) (v : State) (p : Pkt) (y : Pkt) (r : Nat), (s.InHand 0x0A03 p y) ∧ ((s.inRun y).fresh 1 = (v, r)) :=
  ⟨wCmd wBase (wPkt 0x0A03 0 [] []), _, (wPkt 0x0A03 0 [] []), (wPkt 0x0A03 0 [] []), _, wHand _ _ (by decide +kernel),
    rfl⟩
theorem witness_SelfTestEvents :
    (∃ (s : State) (d : Nat) (t0 : Nat) (sig : BitVec 64), (s.bst.now.find? (fun x => x.1 = d) = some (d, t0)) ∧ (t0 +
      domTime d ≤ s.log.mtime.toNat))
    ∧ (∃ (s : State) (g : Nat), (g < 48) ∧ (s.pwr.mode = .ready) ∧ (s.pwr.busy = .none) ∧ (s.logicRuns = false) ∧ (s.on
      Page.bst F.BST_CFG_PERIODIC = true) ∧ (s.slSt g = 0) ∧ (s.turnDue g = true) ∧ (s.turnNext g < grpSize g) ∧
      (s.dpRetired g (s.turnNext g) = false))
    ∧ (∃ (s : State) (g : Nat), (g < 48) ∧ (s.slSt g = 1) ∧ (s.spState g ≠ 1) ∧ ((s.slice g).until_ ≤ s.log.mtime.toNat))
    ∧ (∃ (s : State) (g : Nat) (sig : BitVec 64), (g < 48) ∧ (s.slSt g = 2) ∧ ((s.slice g).t0 + 8192 * patUnits g ≤ s.now))
    ∧ (∃ (s : State) (g : Nat), (g < 48) ∧ (s.slSt g = 2) ∧ ((s.slice g).member ∉ (s.spare g).held) ∧ ((s.slice g).member =
      grpSize g))
    ∧ (∃ (s : State) (kind : Nat) (ch : Nat) (stuck : Bool), (checkOk kind ch = true) ∧ (kind ≠ 5) ∧ (s.pwr.mode = .ready)
      ∧ (s.on Page.bst F.BST_CFG_ANALOG_EN = true) ∧ (s.chanDark (checkChan kind ch) = false) ∧ (s.checkNow kind ch = true)
      ∧ (s.periodOver (s.bst.checks.get 0 (checkChan kind ch)) = true))
    ∧ (∃ (s : State) (v : State) (kind : Nat) (n : Nat) (r : Proof) (l : List Proof), (s.bst.after = true) ∧ (s.pwr.input =
      true) ∧ (kind < 2) ∧ (s.bst.proofs = r :: l) ∧ (s.fresh 32 = (v, n)))
    ∧ (∃ (s : State) (bad : List Nat) (ranks : List Nat), (s.pwr.busy = .proofing true) ∧ (s.logicRuns = false) ∧
      (s.pwr.again = false) ∧ ((s.proofEnd bad ranks).pwr.again = false))
    ∧ (∃ (s : State) (bad : List Nat) (ranks : List Nat), (s.pwr.busy = .proofing false) ∧ (s.logicRuns = false) ∧
      (s.pwr.again = false)) :=
  ⟨⟨{ wBase with bst.now := [(3, 0)], log.mtime := 2 ^ 60 }, 3, 0, 0, by decide +kernel⟩,
  ⟨{ wBase with log.mtime := 2000000000000 }, 40, by decide +kernel⟩,
  ⟨wBase.p (Page.grpS 1) F.BST_GRP_STATE_STATE 1, 1, by decide +kernel⟩,
  ⟨{ wBase.p (Page.grpS 1) F.BST_GRP_STATE_STATE 2 with tim.texp := 2 ^ 40 }, 1, 0, by decide +kernel⟩,
  ⟨{ wBase.p (Page.grpS 1) F.BST_GRP_STATE_STATE 2 with bst.slice := [(1, { Slice.zero with member := 8 })] }, 1,
    by decide +kernel⟩,
  ⟨{ (wBase.p Page.bst F.BST_CFG_ANALOG_EN 1) with tim.texp := 2 ^ 40, log.mtime := 2 ^ 60 }, 4, 3, false,
    by decide +kernel⟩,
  ⟨{ wBase with bst.after := true, bst.proofs := [⟨[], false, false, 0, 0⟩] }, _, 0, _, ⟨[], false, false, 0, 0⟩, [],
    by decide +kernel, by decide +kernel, by decide +kernel, by decide +kernel, rfl⟩,
  ⟨{ wBase with pwr.busy := .proofing true }, [], [], by decide +kernel⟩,
  ⟨{ wBase with pwr.busy := .proofing false }, [], [], by decide +kernel⟩⟩
theorem witness_PowerCommands :
    (∃ (s : State) (fn : Nat), (s.Opens fn (Page.pwr + 0x28)) ∧ (s.bankRefused = true))
    ∧ (∃ (s : State) (fn : Nat) (k : _), (s.Opens fn (Page.pwr + 0x28)) ∧ (s.bankRefused = false) ∧ (s.freeSlot 16 4 = some
      k))
    ∧ (∃ (s : State) (p : Pkt) (y : Pkt), (s.InHand 0x0401 p y) ∧ (s.pwr.mode ≠ .safe))
    ∧ (∃ (s : State) (p : Pkt) (y : Pkt), (s.InHand 0x0402 p y) ∧ (s.pwr.mode = .safe))
    ∧ (∃ (s : State) (p : Pkt) (y : Pkt) (l : List (List Word)), (s.InHand 0x0408 p y) ∧ (l = (s.thm.snaps.drop (y.n
      0)).take (y.n 1))) :=
  ⟨⟨{ wBase with pwr.busy := .wake }, 0, wOpens _ _ _ (by decide +kernel), by decide +kernel⟩,
  ⟨wBase, 0, 16, wOpens _ _ _ (by decide +kernel), by decide +kernel⟩,
  ⟨wCmd wBase (wPkt 0x0401 0 [] []), (wPkt 0x0401 0 [] []), (wPkt 0x0401 0 [] []), wHand _ _ (by decide +kernel),
    by decide +kernel⟩,
  ⟨wCmd { wBase with pwr.mode := .safe } (wPkt 0x0402 0 [] []), (wPkt 0x0402 0 [] []), (wPkt 0x0402 0 [] []), wHand _ _
    (by decide +kernel), by decide +kernel⟩,
  ⟨wCmd wBase (wPkt 0x0408 0 [] []), (wPkt 0x0408 0 [] []), (wPkt 0x0408 0 [] []), _, wHand _ _ (by decide +kernel), rfl⟩⟩
theorem witness_PowerGovernor :
    (∃ (s : State) (v : State) (vin : Nat) (iin : Nat) (m : Nat), (s.pwr.input = true) ∧ (s.due s.pwr.takenAt (usecs 10) =
      true) ∧ ((s.inputTake vin).fresh 16 = (v, m)) ∧ (vin ≤ 6000))
    ∧ (∃ (s : State) (t : Nat), (s.pwr.input = true) ∧ (s.pwr.outRange = some t) ∧ (t + msecs 1 ≤ s.now) ∧ (s.safePending /
      2 ^ 4 % 2 ≠ 1))
    ∧ (∃ (s : State) (t : Nat), (s.pwr.input = true) ∧ (s.pwr.inRange = some t) ∧ (t + msecs 100 ≤ s.now))
    ∧ (∃ (s : State) (v : State) (c : Nat), (s.governs = true) ∧ (s.limitE < s.committed) ∧ (s.stepDue = true) ∧
      (s.pwr.episode = true) ∧ (v = { s with pwr.stepAt := some s.now, pwr.restoring := false, pwr.okAt := none }) ∧
      (v.nextShed = some c))
    ∧ (∃ (s : State) (c : Nat) (l : List Nat), (s.governs = true) ∧ (s.committed ≤ s.limitE) ∧ (s.stepDue = true) ∧
      (s.pwr.shed = c :: l) ∧ (s.restoreOk c = true) ∧ (s.pwr.restoring = true))
    ∧ (∃ (s : State) (t : Nat), (s.pwr.mode ≠ .off) ∧ (s.pwr.changedAt = some t) ∧ (s.g Page.pwr F.PWR_CFG_AUTOSAVE ≠ 0) ∧
      (t + secs (60 * s.g Page.pwr F.PWR_CFG_AUTOSAVE) ≤ s.log.mtime.toNat))
    ∧ (∃ (s : State) (a : State) (b : State) (t : State) (l : List Int), (s.pwr.input = true) ∧ (s.due s.thm.readAt
      s.samplePace = true) ∧ (a = { s with thm.readAt := some s.now }.sensorsTake 0 l) ∧ (b = forEach [0, 1, 2, 3, 4] a
      State.classEval) ∧ (t = (if a.throttled ∧ ¬ b.throttled then { b with thm.capAt := b.now } else b).thmShow))
    ∧ (∃ (s : State) (c : Nat), (s.pwr.input = true) ∧ (c = s.g Page.thm F.THM_CAP_CAP) ∧ ([0, 1, 2, 3, 4].any (fun k => 2
      ≤ s.levelOf k) = true) ∧ (s.thm.capAt + msecs 100 ≤ s.now))
    ∧ (∃ (s : State) (c : Nat), (s.pwr.input = true) ∧ (c = s.g Page.thm F.THM_CAP_CAP) ∧ ([0, 1, 2, 3, 4].any (fun k => 2
      ≤ s.levelOf k) = false) ∧ (c < 5600) ∧ (s.thm.capAt + secs 1 ≤ s.now)) :=
  ⟨⟨wBase, _, 0, 0, _, by decide +kernel, by decide +kernel, rfl, by decide +kernel⟩,
  ⟨{ wBase with pwr.outRange := some 0, tim.texp := 2 ^ 40 }, 0, by decide +kernel⟩,
  ⟨{ wBase with pwr.inRange := some 0, tim.texp := 2 ^ 40 }, 0, by decide +kernel⟩,
  ⟨{ ((wBase.p (Page.drv 0) F.DRV_CTRL_ENABLE 1).p Page.pwr F.PWR_ENVELOPE_ENVELOPE 0) with pwr.episode := true }, _, 3072,
    by decide +kernel, by decide +kernel, by decide +kernel, by decide +kernel, rfl, by decide +kernel⟩,
  ⟨{ wBase.p Page.pwr F.PWR_ENVELOPE_ENVELOPE 5600 with pwr.shed := [3072], pwr.restoring := true }, 3072, [],
    by decide +kernel⟩,
  ⟨{ wBase.p Page.pwr F.PWR_CFG_AUTOSAVE 1 with pwr.changedAt := some 0, log.mtime := 2 ^ 60 }, 0, by decide +kernel⟩,
  ⟨wBase, _, _, _, [], by decide +kernel, by decide +kernel, rfl, rfl, rfl⟩,
  ⟨{ wBase with thm.level := [(0, 2)], tim.texp := 2 ^ 40 }, _, by decide +kernel, rfl, by decide +kernel⟩,
  ⟨{ (wBase.p Page.thm F.THM_CAP_CAP 5000) with tim.texp := 2 ^ 40 }, _, by decide +kernel, rfl, by decide +kernel⟩⟩
theorem witness_SafeAndBanked :
    (∃ (s : State), (s.pwr.input = true))
    ∧ (∃ (s : State) (v : State) (w : State) (x : State), (s.pwr.busy = .bank) ∧ (s.rampsOver = true) ∧ (s.monsOver = true)
      ∧ (s.copiesOver = true) ∧ (v = (match s.bankOff.bankCtx with | some c => s.bankOff.freeCtx c | none => s.bankOff)) ∧
      (w = ({ v with pwr.busy := .none, pwr.owed := [] }).settleAll v.pwr.owed St.success) ∧ (x =
      { w with pwr.mode := .banked }.settleMode.wakesWaiting))
    ∧ (∃ (s : State) (fn : Nat) (n : Nat) (v : Word), (n < 64) ∧ (s.pwr.mode = .banked) ∧ (s.Opens fn (Page.db n)))
    ∧ (∃ (s : State), (s.pwr.busy = .wake) ∧ (s.tim.tries = none) ∧ (s.mem.initLeft = []) ∧ (s.refOk = true) ∧ (s.on
      Page.tim F.TIM_STATUS_ALIGNED = true) ∧ (s.pwr.safeExit = none))
    ∧ (∃ (s : State) (x : Nat × Nat), (s.pwr.busy = .wake) ∧ (s.tim.tries = none) ∧ (s.mem.initLeft = []) ∧ (s.refOk =
      true) ∧ (s.on Page.tim F.TIM_STATUS_ALIGNED = true) ∧ (s.pwr.safeExit = some x)) :=
  ⟨⟨wBase, by decide +kernel⟩,
  ⟨{ wBase with pwr.busy := .bank }, _, _, _, by decide +kernel, by decide +kernel, by decide +kernel, by decide +kernel,
    rfl, rfl, rfl⟩,
  ⟨{ wBase with pwr.mode := .banked }, 0, 0, 0, by decide +kernel, by decide +kernel, wOpens _ _ _ (by decide +kernel)⟩,
  ⟨{ (wBase.p Page.tim F.TIM_STATUS_REF_OK 1).p Page.tim F.TIM_STATUS_ALIGNED 1 with pwr.mode := .banked, pwr.busy := .wake },
    by decide +kernel⟩,
  ⟨{ (wBase.p Page.tim F.TIM_STATUS_REF_OK 1).p Page.tim F.TIM_STATUS_ALIGNED 1 with pwr.mode := .banked, pwr.busy := .wake, pwr.safeExit := some (0, 0) },
    (0, 0), by decide +kernel⟩⟩
theorem witness_PowerAndReset :
    (∃ (s : State) (c : Nat), (s.pwr.input = true) ∧ (s.due s.pins.chassisAt (secs 1) = true))
    ∧ (∃ (s : State) (c : Nat), (s.pwr.mode ≠ .off))
    ∧ (∃ (s : State), (s.pwr.mode ≠ .off))
    ∧ (∃ (s : State), (s.pwr.input = false) ∧ (s.pwr.resetN = true) ∧ (s.pwr.mode = .off))
    ∧ (∃ (s : State), (s.pwr.input = true) ∧ (s.pwr.enableIn = false) ∧ (s.pwr.resetN = true) ∧ (s.pwr.mode = .off) ∧
      (s.pwr.busy = .none))
    ∧ (∃ (s : State), (s.pwr.input = true))
    ∧ (∃ (s : State), (s.pwr.input = true) ∧ (s.pwr.resetN = false) ∧ (s.pwr.enableIn = true) ∧ (900 ≤ s.pwr.vin) ∧
      (s.pwr.vin ≤ 6000) ∧ (s.pins.present = true))
    ∧ (∃ (s : State), (s.pwr.input = true) ∧ (s.pwr.enableIn = true) ∧ (s.pwr.busy = .none) ∧ (s.pwr.mode ≠ .off))
    ∧ (∃ (s : State) (v : State) (n : Nat) (ok : Bool) (bad : List Nat), (s.pwr.busy = .startup n) ∧ (s.pwr.resetN = true)
      ∧ (s.stepReady n = true) ∧ (v = s.stepEffect n ok bad) ∧ (v.pwr.stopping = false) ∧ (v.recovery = false)) :=
  ⟨⟨wBase, 0, by decide +kernel⟩,
  ⟨wBase, 0, by decide +kernel⟩,
  ⟨wBase, by decide +kernel⟩,
  ⟨State.reset, by decide +kernel⟩,
  ⟨{ State.reset with pwr.input := true }, by decide +kernel⟩,
  ⟨wBase, by decide +kernel⟩,
  ⟨{ wBase with pwr.resetN := false, pwr.enableIn := true, pwr.vin := 4800, pins.present := true }, by decide +kernel⟩,
  ⟨{ wBase with pwr.enableIn := true }, by decide +kernel⟩,
  ⟨{ wBase with pwr.busy := .startup 1 }, _, 1, false, [], by decide +kernel, by decide +kernel, by decide +kernel, rfl,
    by decide +kernel⟩⟩
theorem witness_SecurityCommands :
    (∃ (s : State) (p : Pkt) (y : Pkt) (b : List Byte), (s.InHand 0x0500 p y) ∧ (y.data (y.n 2) = some b))
    ∧ (∃ (s : State) (p : Pkt) (y : Pkt) (b : List Byte), (s.InHand 0x0501 p y) ∧ (y.data (y.n 2) = some b))
    ∧ (∃ (s : State) (p : Pkt) (y : Pkt), (s.InHand 0x0502 p y) ∧ (s.sec.keyValid = true))
    ∧ (∃ (s : State) (p : Pkt) (y : Pkt), (s.InHand 0x0502 p y) ∧ (s.sec.keyValid = false))
    ∧ (∃ (s : State) (v : State) (p : Pkt) (y : Pkt) (b : List Byte) (r : Nat), (s.InHand 0x0504 p y) ∧ (y.data (fuseLen
      (y.n 0)) = some b) ∧ (2 ≤ y.n 0 ∨ b.all (mapValueOk (y.n 0)) = true) ∧ ((s.inRun y).fresh 1 = (v, r)))
    ∧ (∃ (s : State), (s.fwRuns = true) ∧ (s.sec.keyValid = false) ∧ (s.sec.fuses.lc ≠ 7)) :=
  ⟨⟨wCmd wBase (wPkt 0x0500 0 [] []), (wPkt 0x0500 0 [] []), (wPkt 0x0500 0 [] []), [], wHand _ _ (by decide +kernel),
    by decide +kernel⟩,
  ⟨wCmd wBase (wPkt 0x0501 0 [] []), (wPkt 0x0501 0 [] []), (wPkt 0x0501 0 [] []), [], wHand _ _ (by decide +kernel),
    by decide +kernel⟩,
  ⟨wCmd { wBase with sec.keyValid := true } (wPkt 0x0502 0 [] []), (wPkt 0x0502 0 [] []), (wPkt 0x0502 0 [] []), wHand _ _
    (by decide +kernel), by decide +kernel⟩,
  ⟨wCmd wBase (wPkt 0x0502 0 [] []), (wPkt 0x0502 0 [] []), (wPkt 0x0502 0 [] []), wHand _ _ (by decide +kernel),
    by decide +kernel⟩,
  ⟨wCmd wBase (wPkt 0x0504 0 [] (List.replicate 736 0)), _, (wPkt 0x0504 0 [] (List.replicate 736 0)), (wPkt 0x0504 0 []
    (List.replicate 736 0)), (List.replicate 736 0), _, wHand _ _ (by decide +kernel), by decide +kernel, .inr
    (by decide +kernel), rfl⟩,
  ⟨wBase, by decide +kernel⟩⟩
theorem witness_StepTakesTheFrontCommand :
    ∃ (s : State) (c : Instr) (rest : List Instr), (s.pending = c :: rest) :=
  ⟨{ wBase with pending := [.powerLoss] }, .powerLoss, [], by decide +kernel⟩
theorem witness_StepOnAnEmptyQueuePassesATick :
    (∃ (s : State), (s.pending = []))
    ∧ (∃ (s : State), (s.pending = []) ∧ (s.pwr.input = true))
    ∧ (∃ (s : State), (s.pending = []) ∧ (s.pwr.input = false)) :=
  ⟨⟨wBase, by decide +kernel⟩,
  ⟨wBase, by decide +kernel⟩,
  ⟨State.reset, by decide +kernel⟩⟩
theorem witness_CommandsLeaveTheQueue :
    ∃ (i : Instr) (s : State) (t : State), (exec i s = .next t) :=
  ⟨.refLost, wBase, _, rfl⟩
theorem witness_StepKeepsTheForms :
    ∃ (s : State) (t : State), (s.Canonical ∧ s.Bounded) ∧ (step s = .next t) :=
  ⟨wBase, _, ⟨by unfold State.Canonical; decide +kernel, by unfold State.Bounded; decide +kernel⟩, rfl⟩
theorem witness_NoStepClearsAFuse :
    ∃ (f : Fuses) (s : State) (t : State), (State.Blown f s) ∧ (step s = .next t) :=
  ⟨.factory, wBase, _, (by unfold State.Blown; exact ⟨wLe, wLe⟩), rfl⟩
theorem witness_AnchoredCountOnlyCounts :
    (∃ (i : Instr) (s : State) (t : State) (d : Nat), (exec i s = .next t) ∧ (d < 5) ∧ (i ≠ .powerLoss) ∧ (s.anchored d =
      true))
    ∧ (∃ (i : Instr) (s : State) (t : State) (d : Nat), (exec i s = .next t) ∧ (d < 5) ∧ (s.anchored d = true) ∧
      (t.anchored d = true))
    ∧ (∃ (s : State) (d : Nat), (d < 5) ∧ (s.anchored d = true) ∧ (s.pwr.input = true))
    ∧ (∃ (s : State) (d : Nat), (d < 5) ∧ (s.anchored d = true) ∧ (s.pwr.input = false)) :=
  ⟨⟨.refRestored, (wBase.p (Page.td 0) F.TD_STATE_ANCHORED 1), _, 0, rfl, by decide +kernel⟩,
  ⟨.refRestored, (wBase.p (Page.td 0) F.TD_STATE_ANCHORED 1), _, 0, rfl, by decide +kernel⟩,
  ⟨(wBase.p (Page.td 0) F.TD_STATE_ANCHORED 1), 0, by decide +kernel⟩,
  ⟨{ (wBase.p (Page.td 0) F.TD_STATE_ANCHORED 1) with pwr.input := false }, 0, by decide +kernel⟩⟩
theorem witness_RegisterPath :
    (∃ (s : State) (fn : Nat) (a : Nat) (f : State → State), (s.pwr.mode = .off) ∧ (s.recovery = false))
    ∧ (∃ (s : State) (fn : Nat) (a : Nat) (f : State → State), (s.pwr.mode ≠ .off) ∧ (s.bankedLimits = true) ∧ (bankedAddr
      a = false))
    ∧ (∃ (s : State) (fn : Nat) (a : Nat) (f : State → State), (s.pwr.mode ≠ .off) ∧ (s.bankedLimits = false) ∧ (s.sees fn
      a = false))
    ∧ (∃ (s : State) (fn : Nat) (a : Nat) (f : State → State), (s.pwr.mode ≠ .off) ∧ (s.bankedLimits = false) ∧ (s.sees fn
      a = true))
    ∧ (∃ (s : State) (fn : Nat) (a : Nat) (f : State → State), (s.pwr.mode ≠ .off) ∧ (s.bankedLimits = false) ∧ (s.sees fn
      a = true) ∧ (s.held a = false ∨ fn = 5))
    ∧ (∃ (s : State) (fn : Nat) (a : Nat) (f : State → State), (s.pwr.mode ≠ .off) ∧ (s.bankedLimits = false) ∧ (s.sees fn
      a = true) ∧ (s.held a = true) ∧ (fn ≠ 5)) :=
  ⟨⟨State.reset, 0, 0, id, by decide +kernel⟩,
  ⟨{ wBase with pwr.mode := .banked }, 0, 0x1000000, id, by decide +kernel⟩,
  ⟨wBase, 1, 0x400, id, by decide +kernel⟩,
  ⟨wBase, 0, 0, id, by decide +kernel⟩,
  ⟨wBase, 0, 0, id, by decide +kernel⟩,
  ⟨{ wBase with hrt.ctx := [(0, { Ctx.zero with st := 1, holds := [(0, 4)] })] }, 0, 0, id, by decide +kernel⟩⟩
theorem witness_RegistersReadBack :
    (∃ (s : State) (pg : Nat) (v : Nat) (f : Fld), (f.lo ≤ f.hi) ∧ (f.hi < 32) ∧ (v < 2 ^ (f.hi + 1 - f.lo)) ∧
      (s.pwr.restored = true))
    ∧ (∃ (s : State) (pg : Nat) (pg' : Nat) (v : Nat) (f : Fld) (f' : Fld), (f.lo ≤ f.hi) ∧ (f.hi < 32) ∧ (f'.lo ≤ f'.hi) ∧
      (f'.hi < 32) ∧ (s.pwr.restored = true) ∧ (pg' + f'.off ≠ pg + f.off ∨ f'.hi < f.lo ∨ f.hi < f'.lo)) :=
  ⟨⟨wBase, 0, 1, ⟨4, 3, 2⟩, by decide +kernel⟩,
  ⟨wBase, 0, 0, 1, ⟨4, 3, 2⟩, ⟨4, 7, 4⟩, by decide +kernel⟩⟩
theorem witness_OscillatorPhase :
    (∃ (o : Osc) (t0 : Nat) (f : Nat) (p : Nat) (t : Nat), (∀ x ∈ o.old, x.1 ≤ t0) ∧ (t0 ≤ t))
    ∧ (∃ (o : Osc) (t0 : Nat) (f : Nat) (p : Nat) (t : Nat), (∀ x ∈ o.old, x.1 ≤ t0) ∧ (t < t0)) :=
  ⟨⟨⟨0, 0, [(3, 0, 0)]⟩, 5, 0, 0, 7, by decide, by decide +kernel⟩,
  ⟨⟨0, 0, [(3, 0, 0)]⟩, 5, 0, 0, 4, by decide, by decide +kernel⟩⟩
theorem witness_MemoryAddressMap :
    (∃ (s : State), (s.g Page.mem F.MEM_MAP_LOCAL ≤ 16) ∧ (8 ≤ s.g Page.mem F.MEM_MAP_GRAIN_EXP) ∧ (s.g Page.mem
      F.MEM_MAP_GRAIN_EXP ≤ 16))
    ∧ (∃ (s : State) (c : Nat) (a : Nat), (s.g Page.mem F.MEM_MAP_LOCAL ≤ 16) ∧ (8 ≤ s.g Page.mem F.MEM_MAP_GRAIN_EXP) ∧
      (s.g Page.mem F.MEM_MAP_GRAIN_EXP ≤ 16) ∧ (c < 4) ∧ (c * s.memL ≤ a) ∧ (a < (c + 1) * s.memL))
    ∧ (∃ (s : State) (a : _), (s.g Page.mem F.MEM_MAP_LOCAL ≤ 16) ∧ (8 ≤ s.g Page.mem F.MEM_MAP_GRAIN_EXP) ∧ (s.g Page.mem
      F.MEM_MAP_GRAIN_EXP ≤ 16) ∧ (4 * s.memL ≤ a) ∧ (a < 4 * s.memL + 4 * (s.memC - s.memL)))
    ∧ (∃ (s : State) (a : _), (s.g Page.mem F.MEM_MAP_LOCAL ≤ 16) ∧ (8 ≤ s.g Page.mem F.MEM_MAP_GRAIN_EXP) ∧ (s.g Page.mem
      F.MEM_MAP_GRAIN_EXP ≤ 16) ∧ (4 * s.memL + 4 * (s.memC - s.memL) ≤ a))
    ∧ (∃ (s : State) (a : _) (c : _) (o : _), (s.g Page.mem F.MEM_MAP_LOCAL ≤ 16) ∧ (8 ≤ s.g Page.mem F.MEM_MAP_GRAIN_EXP)
      ∧ (s.g Page.mem F.MEM_MAP_GRAIN_EXP ≤ 16) ∧ (s.memMap a = some (c, o)))
    ∧ (∃ (s : State) (a : _) (b : _) (x : _), (s.g Page.mem F.MEM_MAP_LOCAL ≤ 16) ∧ (8 ≤ s.g Page.mem F.MEM_MAP_GRAIN_EXP)
      ∧ (s.g Page.mem F.MEM_MAP_GRAIN_EXP ≤ 16) ∧ (s.memMap a = some x) ∧ (s.memMap b = some x)) :=
  ⟨⟨wBase, by decide +kernel⟩,
  ⟨wBase, 0, 0, by decide +kernel⟩,
  ⟨((wBase.p Page.mem F.MEM_MAP_GRAIN_EXP 12).p Page.mem F.MEM_MAP_LOCAL 0), 5000, by decide +kernel⟩,
  ⟨((wBase.p Page.mem F.MEM_MAP_GRAIN_EXP 12).p Page.mem F.MEM_MAP_LOCAL 0), (2 ^ 37), by decide +kernel⟩,
  ⟨((wBase.p Page.mem F.MEM_MAP_GRAIN_EXP 12).p Page.mem F.MEM_MAP_LOCAL 0), 5000, 1, 904, by decide +kernel⟩,
  ⟨((wBase.p Page.mem F.MEM_MAP_GRAIN_EXP 12).p Page.mem F.MEM_MAP_LOCAL 0), 5000, 5000, (1, 904), by decide +kernel⟩⟩
theorem witness_MemoryReadAfterWrite :
    ∃ (s : State) (a : Nat) (n : Nat) (b : List Byte), (s.g Page.mem F.MEM_MAP_LOCAL ≤ 16) ∧ (8 ≤ s.g Page.mem
      F.MEM_MAP_GRAIN_EXP) ∧ (s.g Page.mem F.MEM_MAP_GRAIN_EXP ≤ 16) :=
  ⟨wBase, 0, 0, [], by decide +kernel⟩
theorem witness_InstructionIssue :
    (∃ (s : State) (q : Nat) (op : Nat) (body : State → W64 → Nat → Nat → Res), (s.canIssue q = false))
    ∧ (∃ (s : State) (q : Nat) (op : Nat) (body : State → W64 → Nat → Nat → Res), (s.canIssue q = true) ∧ ((s.sqs q).rep =
      none) ∧ (s.imgLen q ≤ (s.sqs q).pc))
    ∧ (∃ (s : State) (q : Nat) (op : Nat) (body : State → W64 → Nat → Nat → Res), (s.canIssue q = true) ∧ ((s.sqs q).rep =
      none) ∧ ((s.sqs q).pc < s.imgLen q) ∧ (s.iword q (s.sqs q).pc = none) ∧ ((s.sqs q).inside = false))
    ∧ (∃ (s : State) (q : Nat) (op : Nat) (body : State → W64 → Nat → Nat → Res), (s.canIssue q = true) ∧ ((s.sqs q).rep =
      none) ∧ ((s.sqs q).pc < s.imgLen q) ∧ (s.iword q (s.sqs q).pc = none) ∧ ((s.sqs q).inside = true))
    ∧ (∃ (s : State) (q : Nat) (op : Nat) (body : State → W64 → Nat → Nat → Res) (w : _), (s.canIssue q = true) ∧ ((s.sqs
      q).rep = none) ∧ ((s.sqs q).pc < s.imgLen q) ∧ (s.iword q (s.sqs q).pc = some w) ∧ ((s.sqs q).vec = true → opc w = 2)
      ∧ ((s.sqs q).leads w (s.tk (s.seqOwner q)) = true) ∧ (wordOk (isRs q) w = false))
    ∧ (∃ (s : State) (q : Nat) (op : Nat) (body : State → W64 → Nat → Nat → Res) (w : _), (s.canIssue q = true) ∧ ((s.sqs
      q).rep = none) ∧ ((s.sqs q).pc < s.imgLen q) ∧ (s.iword q (s.sqs q).pc = some w) ∧ ((s.sqs q).vec = true → opc w = 2)
      ∧ ((s.sqs q).leads w (s.tk (s.seqOwner q)) = false))
    ∧ (∃ (s : State) (q : Nat) (op : Nat) (body : State → W64 → Nat → Nat → Res) (w : _), (s.canIssue q = true) ∧ ((s.sqs
      q).rep = none) ∧ ((s.sqs q).pc < s.imgLen q) ∧ (s.iword q (s.sqs q).pc = some w) ∧ ((s.sqs q).vec = true) ∧ (opc w ≠
      2))
    ∧ (∃ (s : State) (q : Nat) (op : Nat) (w : W64) (body : State → W64 → Nat → Nat → Res) (y : _), (s.canIssue q = true) ∧
      ((s.sqs q).pc < s.imgLen q) ∧ (s.iword q (s.sqs q).pc = some w) ∧ (opc w = op) ∧ (op ≠ 2) ∧ (wordOk (isRs q) w =
      true) ∧ ((s.sqs q).rep = none) ∧ ((s.sqs q).vec = false) ∧ ((s.sqs q).atAbort = false) ∧ ((s.sqs q).leads w (s.tk
      (s.seqOwner q)) = true) ∧ ((s.sqs q).tau < s.tk (s.seqOwner q) + 92) ∧ (y =
      { ((s.slip q).seqOn q).shift (s.sqs q).tau (s.tk (s.seqOwner q) + 92 - (s.sqs q).tau) with tau := s.tk (s.seqOwner q) + 92 }))
      :=
  ⟨⟨wBase, 0, 0, (fun s _ _ _ => .bad s), by decide +kernel⟩,
  ⟨(wSeq 0 { wX with pc := 100 } 0), 0, 0, (fun s _ _ _ => .bad s), by decide +kernel⟩,
  ⟨(wSeq 0 { wX with a := ⟨none, none, false⟩ } 0), 0, 0, (fun s _ _ _ => .bad s), by decide +kernel⟩,
  ⟨(wSeq 0 { wX with a := ⟨none, none, false⟩, region := some ⟨0, 10, 20⟩ } 0), 0, 0, (fun s _ _ _ => .bad s),
    by decide +kernel⟩,
  ⟨(wSeq 0 wX (2 ^ 64 - 1)), 0, 0, (fun s _ _ _ => .bad s), (2 ^ 64 - 1), by decide +kernel⟩,
  ⟨(wSeq 0 { wX with tau := 5000 } 0), 0, 0, (fun s _ _ _ => .bad s), 0, by decide +kernel⟩,
  ⟨(wSeq 0 { wX with vec := true } 0), 0, 0, (fun s _ _ _ => .bad s), 0, by decide +kernel⟩,
  ⟨(wSeq 0 { wX with tau := 50 } 0), 0, 0, 0, (fun s _ _ _ => .bad s), _, wFour (by decide +kernel) (wFour
    (by decide +kernel) ⟨by decide +kernel, by decide +kernel, by decide +kernel, rfl⟩)⟩⟩
theorem witness_LogRing :
    (∃ (s : State) (cause : Nat) (kind : Nat) (part : Nat) (source : Nat) (detail : Nat) (r : Nat), (s.Bounded))
    ∧ (∃ (s : State) (cause : Nat) (kind : Nat) (part : Nat) (source : Nat) (detail : Nat) (r : Nat) (k : _), (s.Bounded) ∧
      (k ≠ s.g Page.log F.LOG_HEAD_INDEX))
    ∧ (∃ (s : State) (cause : Nat) (kind : Nat) (part : Nat) (source : Nat) (detail : Nat) (r : Nat), (s.Bounded) ∧
      (s.log.count < 16384))
    ∧ (∃ (s : State) (cause : Nat) (kind : Nat) (part : Nat) (source : Nat) (detail : Nat) (r : Nat), (s.Bounded) ∧
      (s.log.count = 16384)) :=
  ⟨⟨wBase, 0, 0, 0, 0, 0, 0, by unfold State.Bounded; decide +kernel⟩,
  ⟨wBase, 0, 0, 0, 0, 0, 0, 5, by unfold State.Bounded; decide +kernel, by decide +kernel⟩,
  ⟨wBase, 0, 0, 0, 0, 0, 0, by unfold State.Bounded; decide +kernel, by decide +kernel⟩,
  ⟨{ wBase with log.count := 16384 }, 0, 0, 0, 0, 0, 0, by unfold State.Bounded; decide +kernel, by decide +kernel⟩⟩

end Sys2Proof.Tests
end

section
/-!
PROOFS. The bits of a word that hold a field: what `wput` and `wget` do bit by bit, and with it what a field of a
register reads after a write of the same field and of another one (R8, R14).
-/

namespace Sys2Proof.Machine
open Sys2Proof

/-- The mask of a field has its ones exactly at the bits of the field. -/
theorem wmask_getLsbD {hi : Nat} (h : hi < 32) (lo i : Nat) :
    (wmask hi lo).getLsbD i = decide (lo ≤ i ∧ i ≤ hi) := by
  rw [wmask, BitVec.getLsbD_ofNat, Nat.testBit_mul_two_pow, Nat.testBit_two_pow_sub_one, Bool.eq_iff_iff]
  simp only [Bool.and_eq_true, decide_eq_true_eq]
  omega

/-- A field read from a word has the word's bits from its lowest on. -/
theorem wget_testBit (w : Word) (hi lo i : Nat) :
    (wget w hi lo).testBit i = (decide (i < hi + 1 - lo) && w.getLsbD (lo + i)) := by
  rw [wget, Nat.testBit_mod_two_pow, Nat.testBit_div_two_pow, Nat.add_comm i lo, BitVec.testBit_toNat]

/-- A field put into a word replaces the bits of the field and no other. -/
theorem wput_getLsbD {hi : Nat} (h : hi < 32) (w : Word) (lo v i : Nat) :
    (wput w hi lo v).getLsbD i = if lo ≤ i ∧ i ≤ hi then v.testBit (i - lo) else w.getLsbD i := by
  simp only [wput, BitVec.getLsbD_or, BitVec.getLsbD_and, BitVec.getLsbD_not, BitVec.getLsbD_ofNat,
    Nat.testBit_mul_two_pow, wmask_getLsbD h]
  split
  next hin =>
    have hlt : i < 32 := by omega
    simp [hin, hlt]
  next hin =>
    by_cases hlt : i < 32
    · simp [hin, hlt]
    · simp [hin, BitVec.getLsbD_of_ge w i (by omega)]

/-- A field reads back the value put into it, where the value fits. -/
theorem wget_wput_self {hi lo v : Nat} (h : hi < 32) (hv : v < 2 ^ (hi + 1 - lo)) (w : Word) :
    wget (wput w hi lo v) hi lo = v := by
  refine Nat.eq_of_testBit_eq fun i => ?_
  rw [wget_testBit, wput_getLsbD h, Nat.add_sub_cancel_left]
  by_cases hin : i < hi + 1 - lo
  · have : lo ≤ lo + i ∧ lo + i ≤ hi := by omega
    simp [hin, this]
  · have hz : v.testBit i = false :=
      Nat.testBit_lt_two_pow (Nat.lt_of_lt_of_le hv (Nat.pow_le_pow_right Nat.two_pos (Nat.le_of_not_lt hin)))
    simp [hin, hz]

/-- A field put into a word leaves every field that shares no bit with it. -/
theorem wget_wput_disjoint {hi lo hi' lo' : Nat} (h : hi < 32) (hd : hi' < lo ∨ hi < lo') (w : Word) (v : Nat) :
    wget (wput w hi lo v) hi' lo' = wget w hi' lo' := by
  refine Nat.eq_of_testBit_eq fun i => ?_
  rw [wget_testBit, wget_testBit, wput_getLsbD h]
  by_cases hin : i < hi' + 1 - lo'
  · have : ¬ (lo ≤ lo' + i ∧ lo' + i ≤ hi) := by omega
    rw [if_neg this]
  · simp [hin]

/-- A register after a write, whichever register was written. -/
theorem State.reg_setReg (s : State) (a b : Nat) (w : Word) :
    (s.setReg a w).reg b
      = if b = a then (if s.pwr.restored then w else w &&& ~~~ retMask a) else s.reg b := by
  by_cases hb : b = a
  · subst hb
    rw [if_pos rfl]
    cases hr : s.pwr.restored with
    | true => simp [State.reg_setReg_restored hr]
    | false => simp [State.reg_setReg_self, hr]
  · rw [if_neg hb, State.reg_setReg_ne s w hb]

/-- Once the settings are restored, a field reads back the value written to it. -/
theorem State.g_p_self {s : State} (hr : s.pwr.restored = true) {f : Fld} {v : Nat} (hf : f.hi < 32)
    (hv : v < 2 ^ (f.hi + 1 - f.lo)) (pg : Nat) : (s.p pg f v).g pg f = v := by
  rw [State.g, State.p, State.reg_setReg_restored hr, wget_wput_self hf hv]

/-- A write of a field leaves the fields of every other register. -/
theorem State.g_p_of_reg_ne (s : State) {pg pg' : Nat} {f f' : Fld} (h : pg' + f'.off ≠ pg + f.off) (v : Nat) :
    (s.p pg f v).g pg' f' = s.g pg' f' := by
  rw [State.g, State.p, State.reg_setReg_ne s _ h, State.g]

/-- Once the settings are restored, a write of a field leaves the other fields of its register. -/
theorem State.g_p_of_disjoint {s : State} (hr : s.pwr.restored = true) {pg pg' : Nat} {f f' : Fld}
    (ha : pg' + f'.off = pg + f.off) (hf : f.hi < 32) (hd : f'.hi < f.lo ∨ f.hi < f'.lo) (v : Nat) :
    (s.p pg f v).g pg' f' = s.g pg' f' := by
  rw [State.g, ha, State.p, State.reg_setReg_restored hr, wget_wput_disjoint hf hd, State.g, ha]

/-- Settles O55: the three clauses are the register, the same field and another field after a write. -/
theorem registersReadBack : Obligations.RegistersReadBack := by
  unfold Obligations.RegistersReadBack
  refine ⟨State.reg_setReg, ?same, ?other⟩
  case same =>
    intro s pg v f _ hf hv hr
    exact State.g_p_self hr hf hv pg
  case other =>
    intro s pg pg' v f f' _ hf _ _ hr h
    by_cases ha : pg' + f'.off = pg + f.off
    · exact State.g_p_of_disjoint hr ha hf (h.resolve_left (absurd ha)) v
    · exact State.g_p_of_reg_ne s ha v

end Sys2Proof.Machine
end

section
/-!
PROOFS. What the register path answers, case by case (R17, R19, R432, R448, R622), and what a write or a read that goes
through it comes to.
-/

namespace Sys2Proof.Machine
open Sys2Proof

/-! ### The cases of the gate, in their order -/

/-- In OFF, without a recovery hold, no access goes on. -/
theorem State.gate_of_off {s : State} (hm : s.pwr.mode = .off) (hr : s.recovery = false) (fn a : Nat) (write : Bool) :
    s.gate fn a write = (s, false) := by
  simp [State.gate, hm, hr]

/-- The limits of BANKED stop an access outside them, and count a write. -/
theorem State.gate_of_banked {s : State} (hm : s.pwr.mode ≠ .off) (hb : s.bankedLimits = true) {a : Nat}
    (ha : bankedAddr a = false) (fn : Nat) (write : Bool) :
    s.gate fn a write = (if write then s.bump Page.pwr F.PWR_BANKED_ACCESSES else s, false) := by
  simp [State.gate, hm, hb, ha]

/-- An access outside the function's view stops and counts as denied. -/
theorem State.gate_of_unseen {s : State} (hm : s.pwr.mode ≠ .off) (hb : s.bankedLimits = false) {fn a : Nat}
    (hs : s.sees fn a = false) (write : Bool) : s.gate fn a write = (s.deny fn, false) := by
  simp [State.gate, hm, hb, hs]

/-- A host's write to a register that a command holds is rejected. -/
theorem State.gate_of_held {s : State} (hm : s.pwr.mode ≠ .off) (hb : s.bankedLimits = false) {fn a : Nat}
    (hs : s.sees fn a = true) (hh : s.held a = true) (hf : fn ≠ 5) :
    s.gate fn a true = (s.busyReject fn a, false) := by
  simp [State.gate, hm, hb, hs, hh, hf]

/-- A read within the function's view goes on. -/
theorem State.answers_of_seen {s : State} (hm : s.pwr.mode ≠ .off) (hb : s.bankedLimits = false) {fn a : Nat}
    (hs : s.sees fn a = true) : s.Answers fn a := by
  simp [State.Answers, State.gate, hm, hb, hs]

/-- A write within the function's view goes on where no command holds the register, and where it is Hearth's own. -/
theorem State.opens_of_seen {s : State} (hm : s.pwr.mode ≠ .off) (hb : s.bankedLimits = false) {fn a : Nat}
    (hs : s.sees fn a = true) (hh : s.held a = false ∨ fn = 5) : s.Opens fn a := by
  rcases hh with hh | rfl
  · simp [State.Opens, State.gate, hm, hb, hs, hh]
  · simp [State.Opens, State.gate, hm, hb, hs]

/-! ### A write and a read through the gate -/

theorem State.onWrite_of_stopped {s t : State} {fn a : Nat} (h : s.gate fn a true = (t, false)) (f : State → State) :
    s.onWrite fn a f = t := by
  simp [State.onWrite, h]

theorem State.onWrite_of_opens {s : State} {fn a : Nat} (h : s.Opens fn a) (f : State → State) :
    s.onWrite fn a f = f s := by
  unfold State.Opens at h
  simp [State.onWrite, h]

theorem State.onRead_of_stopped {s t : State} {fn a : Nat} (h : s.gate fn a false = (t, false)) (f : State → State) :
    s.onRead fn a f = { t with pins.rdata := 0 } := by
  simp [State.onRead, h]

theorem State.onRead_of_answers {s : State} {fn a : Nat} (h : s.Answers fn a) (f : State → State) :
    s.onRead fn a f = f s := by
  unfold State.Answers at h
  simp [State.onRead, h]

/-- A function that does not see an address is a VF, so its denied access counts (R19, R432). -/
theorem State.deny_of_unseen {s : State} {fn a : Nat} (h : s.sees fn a = false) :
    s.deny fn = s.bump (Page.fn fn) F.HIF_FN_DENIED := by
  have hf : full fn = false := by
    rw [State.sees, Bool.or_eq_false_iff] at h
    exact h.1
  simp [State.deny, State.when, hf]

/-- Settles O54: each clause is one case of the gate, read and written through. -/
theorem registerPath : Obligations.RegisterPath := by
  unfold Obligations.RegisterPath
  refine ⟨?off, ?banked, ?unseen, ?seen⟩
  case off =>
    intro s fn a f hm hr
    have hg := State.gate_of_off hm hr fn a
    exact ⟨State.onWrite_of_stopped (hg true) f, State.onRead_of_stopped (hg false) f⟩
  case banked =>
    intro s fn a f hm hb ha
    have hg := State.gate_of_banked hm hb ha fn
    exact ⟨State.onWrite_of_stopped (hg true) f, State.onRead_of_stopped (hg false) f⟩
  case unseen =>
    intro s fn a f hm hb hs
    have hg := State.gate_of_unseen hm hb hs
    rw [State.deny_of_unseen hs] at hg
    exact ⟨State.onWrite_of_stopped (hg true) f, State.onRead_of_stopped (hg false) f⟩
  case seen =>
    intro s fn a f hm hb hs
    exact ⟨State.onRead_of_answers (State.answers_of_seen hm hb hs) f,
      fun hh => State.onWrite_of_opens (State.opens_of_seen hm hb hs hh) f,
      fun hh hf => State.onWrite_of_stopped (State.gate_of_held hm hb hs hh hf) f⟩

end Sys2Proof.Machine
end

section
/-!
PROOFS. Register writes, reads, doorbells and denied reads: the access at a PF0 address, and the rows that make it
(R9, R15, R16, R19, R436, R438, R440).
-/

namespace Sys2Proof.Machine
open Sys2Proof

/-! ### An access at a PF0 address -/

/-- A write that goes on, of a register of the map, is that register's write. -/
theorem State.writeAt_of_opens {s : State} {fn a : Nat} {r : RegDesc} {ix : List Nat} (ho : s.Opens fn a)
    (hr : regAt a = some (r, ix)) (w : Word) : s.writeAt fn a w = s.regWrite fn a r ix w := by
  simp [State.writeAt, State.onWrite_of_opens ho, hr]

/-- A read of a register without a row of its own takes the register path to `lowRead`. -/
theorem State.readAt_of_plain {fn a : Nat} {r : RegDesc} {ix : List Nat} (hr : regAt a = some (r, ix))
    (hp : rowRead fn r ix = none) (s : State) : s.readAt fn a = s.onRead fn a (·.lowRead fn a r ix) := by
  simp [State.readAt, hr, hp]

/-- A read of a register that has a row of its own is that row. -/
theorem State.readAt_of_row {fn a : Nat} {r : RegDesc} {ix : List Nat} {f : State → Out}
    (hr : regAt a = some (r, ix)) (hp : rowRead fn r ix = some f) (s : State) : s.readAt fn a = s.via f := by
  simp [State.readAt, hr, hp]

/-- A read that the register path stops returns zero, at an address whose reads have no row of their own. -/
theorem State.readAt_of_stopped {s t : State} {fn a : Nat} (hg : s.gate fn a false = (t, false))
    (hp : ∀ r ix, regAt a = some (r, ix) → rowRead fn r ix = none) :
    s.readAt fn a = { t with pins.rdata := 0 } := by
  cases hr : regAt a with
  | none => simp [State.readAt, hr, State.onRead_of_stopped hg]
  | some x =>
    obtain ⟨r, ix⟩ := x
    rw [State.readAt_of_plain hr (hp r ix hr), State.onRead_of_stopped hg]

/-! ### The rows, by the address that the function's offset names -/

section
variable {fn o a : Nat} (hn : fn < 6)
include hn

theorem exec_registerWrite (ha : fnAddr fn o = some a) (v : Word) (s : State) :
    exec (.registerWrite fn o v) s = .next (s.writeAt fn a v) := by
  change execRegisterWrite fn o v s = _
  rw [execRegisterWrite, if_neg (Nat.not_le.2 hn), ha]

theorem exec_reg64HighWrite (ha : fnAddr fn o = some a) {r : RegDesc} {ix : List Nat} (hr : regAt a = some (r, ix))
    (hh : isHigh r.base = true) (v : Word) (s : State) :
    exec (.reg64HighWrite fn o v) s = .next (s.writeAt fn a v) := by
  change execReg64HighWrite fn o v s = _
  simp [execReg64HighWrite, Nat.not_le.2 hn, ha, hr, hh]

theorem exec_reg64LowRead (ha : fnAddr fn o = some a) (s : State) :
    exec (.reg64LowRead fn o) s = .next (s.readAt fn a) := by
  change execReg64LowRead fn o s = _
  rw [execReg64LowRead, if_neg (Nat.not_le.2 hn), ha]

theorem exec_deniedRead (ha : fnAddr fn o = some a) (s : State) :
    exec (.deniedRead fn o) s = .next (s.readAt fn a) := by
  change execDeniedRead fn o s = _
  rw [execDeniedRead, if_neg (Nat.not_le.2 hn), ha]

/-- Outside the function's BAR a write of either kind only counts as denied. -/
theorem exec_writes_outside (ha : fnAddr fn o = none) (v : Word) (s : State) :
    exec (.registerWrite fn o v) s = .next (s.deny fn) ∧ exec (.reg64HighWrite fn o v) s = .next (s.deny fn) := by
  change execRegisterWrite fn o v s = _ ∧ execReg64HighWrite fn o v s = _
  simp [execRegisterWrite, execReg64HighWrite, Nat.not_le.2 hn, ha]

/-- Outside the function's BAR a read of either kind counts as denied and returns zero. -/
theorem exec_reads_outside (ha : fnAddr fn o = none) (s : State) :
    exec (.deniedRead fn o) s = .next ((s.deny fn).answer 0)
      ∧ exec (.reg64LowRead fn o) s = .next ((s.deny fn).answer 0) := by
  change execDeniedRead fn o s = _ ∧ execReg64LowRead fn o s = _
  simp [execDeniedRead, execReg64LowRead, Nat.not_le.2 hn, ha]

end

/-! ### Doorbells and the enable of a submission queue -/

theorem exec_sqTailDoorbell {fn n : Nat} (hn : n < 64) {s : State} (ho : s.Opens fn (Page.db n)) (v : Word) :
    exec (.sqTailDoorbell fn n v) s = .next (s.ringSq n (wget v 15 0)) := by
  change execSqTailDoorbell fn n v s = _
  rw [execSqTailDoorbell, if_pos hn, State.onWrite_of_opens ho]

theorem exec_cqHeadDoorbell {fn n : Nat} (hn : n < 64) {s : State} (ho : s.Opens fn (Page.db n + 4)) (v : Word) :
    exec (.cqHeadDoorbell fn n v) s = .next (s.ringCq n (wget v 15 0)) := by
  change execCqHeadDoorbell fn n v s = _
  rw [execCqHeadDoorbell, if_pos hn, State.onWrite_of_opens ho]

theorem exec_sqCtrlEnableWrite {fn n : Nat} (hn : n < 64) {s : State} (ho : s.Opens fn (Page.sq n + 0xC)) (v : Word) :
    exec (.sqCtrlEnableWrite fn n v) s = .next (s.sqCtrl fn n v) := by
  change execSqCtrlEnableWrite fn n v s = _
  rw [execSqCtrlEnableWrite, if_pos hn, State.onWrite_of_opens ho]

/-! ### The obligation, row group by row group -/

/-- Both write rows reach the register's own write where the register path lets them. -/
theorem exec_writes_of_opens {s : State} {fn o a : Nat} {r : RegDesc} {ix : List Nat} (hn : fn < 6)
    (ha : fnAddr fn o = some a) (ho : s.Opens fn a) (hr : regAt a = some (r, ix)) (v : Word) :
    exec (.registerWrite fn o v) s = .next (s.regWrite fn a r ix v)
      ∧ (isHigh r.base = true → exec (.reg64HighWrite fn o v) s = .next (s.regWrite fn a r ix v)) := by
  rw [← State.writeAt_of_opens ho hr v]
  exact ⟨exec_registerWrite hn ha v s, fun hh => exec_reg64HighWrite hn ha hr hh v s⟩

/-- Both read rows come to the read at the address. -/
theorem exec_reads {s t : State} {fn o a : Nat} (hn : fn < 6) (ha : fnAddr fn o = some a) (ht : s.readAt fn a = t) :
    exec (.reg64LowRead fn o) s = .next t ∧ exec (.deniedRead fn o) s = .next t :=
  ⟨ht ▸ exec_reg64LowRead hn ha s, ht ▸ exec_deniedRead hn ha s⟩

/-- Settles O32: the writes, the four cases of a read, the doorbells, and the enable of a queue. -/
theorem registerAccesses : Obligations.RegisterAccesses := by
  unfold Obligations.RegisterAccesses
  refine ⟨⟨?write, ?writeOutside⟩, ⟨?readPlain, ?readRow, ?readOutside, ?readUnseen⟩, ?doorbells, ?enable⟩
  case write =>
    intro s fn o a r ix v hn ha ho hr
    exact exec_writes_of_opens hn ha ho hr v
  case writeOutside =>
    intro s fn o v hn ha
    exact exec_writes_outside hn ha v s
  case readPlain =>
    intro s fn o a r ix hn ha hs hr hp
    exact exec_reads hn ha ((State.readAt_of_plain hr hp s).trans (State.onRead_of_answers hs _))
  case readRow =>
    intro s fn o a r ix f hn ha hr hp
    exact exec_reads hn ha (State.readAt_of_row hr hp s)
  case readOutside =>
    intro s fn o hn ha
    exact exec_reads_outside hn ha s
  case readUnseen =>
    intro s fn o a hn ha hp hm hb hs
    exact (exec_reads hn ha (State.readAt_of_stopped (State.gate_of_unseen hm hb hs false) hp)).2
  case doorbells =>
    intro s fn n v hn
    exact ⟨fun ho => exec_sqTailDoorbell hn ho v, fun ho => exec_cqHeadDoorbell hn ho v⟩
  case enable =>
    intro s fn n v hn ho
    exact exec_sqCtrlEnableWrite hn ho v

end Sys2Proof.Machine
end

section
/-!
PROOFS. The state at reset: its registers (R14, log entries 7 and 8), and the invariants of Safety.
-/

namespace Sys2Proof.Machine
open Sys2Proof

/-- At reset nothing is written and no setting restored: a register reads its reset word without its retained bits. -/
theorem State.reset_reg (a : Nat) : State.reset.reg a = resetWord a &&& ~~~ retMask a :=
  BitVec.or_zero

/-- A field at reset is a field of its register's reset word. -/
theorem State.reset_g (pg : Nat) (f : Fld) :
    State.reset.g pg f = wget (resetWord (pg + f.off) &&& ~~~ retMask (pg + f.off)) f.hi f.lo := by
  rw [State.g, State.reset_reg]

/-- No time domain is ANCHORED at reset (R52). -/
theorem State.reset_anchored {d : Nat} (hd : d < 5) : State.reset.anchored d = false := by
  rw [State.anchored, State.on, State.reset_g]
  revert d
  decide +kernel

/-- Every partition is IDLE at reset (R171). -/
theorem State.reset_pst {p : Nat} (hp : p < 5) : State.reset.pst p = 0 := by
  rw [State.pst, State.reset_g]
  revert p
  decide +kernel

/-- The empty byte memories are in canonical form. -/
theorem State.reset_canonical : State.reset.Canonical := ⟨rfl, rfl, rfl⟩

theorem State.reset_bounded : State.reset.Bounded := ⟨Nat.zero_le _, Nat.two_pow_pos 44⟩

/-- The fuses at reset are the factory's, in effect and waiting. -/
theorem State.reset_blown : State.Blown Fuses.factory State.reset :=
  ⟨Fuses.Le.refl _, Fuses.Le.refl _⟩

/-- Settles O53: what the reset state lists, its registers, and the invariants. -/
theorem resetState : Obligations.ResetState := by
  unfold Obligations.ResetState
  exact ⟨rfl, rfl, rfl, rfl, State.reset_canonical, State.reset_bounded, State.reset_blown, fun _ => rfl,
    fun _ => State.reset_anchored, fun _ => State.reset_pst, fun _ => rfl, State.reset_reg⟩

end Sys2Proof.Machine
end

section
/-!
PROOFS. A byte read after a write: the DDR4 address map loses no address (R403), so what is written to one mapped
byte of DDR4 reaches no other (R44, R404), and the byte tables of host memory and of the acquisition buffer.
-/

namespace Sys2Proof.Machine
open Sys2Proof

/-! ### The DDR4 address map, and back -/

/-- The fields of MEM_MAP are in the ranges of R403. -/
structure State.MapLegal (s : State) : Prop where
  local_le : s.g Page.mem F.MEM_MAP_LOCAL ≤ 16
  le_grain : 8 ≤ s.g Page.mem F.MEM_MAP_GRAIN_EXP
  grain_le : s.g Page.mem F.MEM_MAP_GRAIN_EXP ≤ 16

/-- The module address that the map takes to channel `x.1` and offset `x.2`: the table of R403 read backwards. -/
def State.memAddr (s : State) (x : Nat × Nat) : Nat :=
  if x.2 < s.memL then x.1 * s.memL + x.2
  else 4 * s.memL + ((x.2 - s.memL) / s.memG * 4 + x.1) * s.memG + (x.2 - s.memL) % s.memG

theorem State.memG_pos (s : State) : 0 < s.memG := Nat.two_pow_pos _

theorem State.memC_le (s : State) : s.memC ≤ 2 ^ 35 := by
  unfold State.memC
  split <;> omega

/-- The interleaved share of a channel is a whole number of grains. -/
theorem State.MapLegal.memG_dvd {s : State} (h : s.MapLegal) : s.memG ∣ s.memC - s.memL := by
  have hGiB : s.memG ∣ 2 ^ 30 := Nat.pow_dvd_pow 2 (Nat.le_trans h.grain_le (by omega))
  have hC : 2 ^ 30 ∣ s.memC := by
    unfold State.memC
    split <;> exact Nat.pow_dvd_pow 2 (by omega)
  exact Nat.dvd_trans hGiB (Nat.dvd_sub hC (Nat.dvd_mul_left _ _))

theorem State.MapLegal.memL_le {s : State} (h : s.MapLegal) : s.memL ≤ s.memC := by
  have := h.local_le
  unfold State.memL State.memC
  split <;> omega

/-- A mapped address lies in a channel-local region or in the interleaved one. -/
theorem State.memMap_cases {s : State} {a : Nat} {x : Nat × Nat} (h : s.memMap a = some x) :
    (a < 4 * s.memL ∧ x = (a / s.memL, a % s.memL))
    ∨ ∃ b, a = 4 * s.memL + b ∧ b < 4 * (s.memC - s.memL)
        ∧ x = (b / s.memG % 4, s.memL + b / (4 * s.memG) * s.memG + b % s.memG) := by
  simp only [State.memMap] at h
  split at h
  case isTrue hlo => exact .inl ⟨hlo, (Option.some.inj h).symm⟩
  case isFalse hlo =>
    split at h
    case isTrue hhi => exact .inr ⟨a - 4 * s.memL, by omega, by omega, (Option.some.inj h).symm⟩
    case isFalse => cases h

/-- A mapped byte lies on one of the four channels, within the capacity of a channel. -/
theorem State.MapLegal.memMap_bounds {s : State} (hs : s.MapLegal) {a : Nat} {x : Nat × Nat}
    (h : s.memMap a = some x) : x.1 < 4 ∧ x.2 < s.memC := by
  have hle := hs.memL_le
  rcases State.memMap_cases h with ⟨hlo, rfl⟩ | ⟨b, -, hb, rfl⟩
  · have hL : 0 < s.memL := by omega
    exact ⟨Nat.div_lt_of_lt_mul (by rwa [Nat.mul_comm]), Nat.lt_of_lt_of_le (Nat.mod_lt a hL) hle⟩
  · obtain ⟨k, hk⟩ := hs.memG_dvd
    have hrow : b / (4 * s.memG) < k := Nat.div_lt_of_lt_mul (by rw [hk] at hb; rwa [Nat.mul_assoc])
    have hgrain : b % s.memG < s.memG := Nat.mod_lt b s.memG_pos
    have hend : (b / (4 * s.memG) + 1) * s.memG ≤ s.memG * k := by
      rw [Nat.mul_comm s.memG]
      exact Nat.mul_le_mul_right _ hrow
    rw [Nat.succ_mul] at hend
    exact ⟨Nat.mod_lt _ (by omega), by dsimp only; omega⟩

/-- The way back from where a mapped address lies leads to that address. -/
theorem State.memAddr_memMap {s : State} {a : Nat} {x : Nat × Nat} (h : s.memMap a = some x) : s.memAddr x = a := by
  rcases State.memMap_cases h with ⟨hlo, rfl⟩ | ⟨b, rfl, -, rfl⟩
  · have hL : 0 < s.memL := by omega
    rw [State.memAddr, if_pos (Nat.mod_lt a hL)]
    exact Nat.div_add_mod' a s.memL
  · have hoff : s.memL + b / (4 * s.memG) * s.memG + b % s.memG - s.memL
        = b % s.memG + b / (4 * s.memG) * s.memG := by omega
    have hrow : (b % s.memG + b / (4 * s.memG) * s.memG) / s.memG = b / s.memG / 4 := by
      rw [Nat.add_mul_div_right _ _ s.memG_pos, Nat.div_eq_of_lt (Nat.mod_lt b s.memG_pos), Nat.zero_add,
        Nat.mul_comm 4, Nat.div_div_eq_div_mul]
    have hgrain : (b % s.memG + b / (4 * s.memG) * s.memG) % s.memG = b % s.memG := by
      rw [Nat.add_mul_mod_self_right, Nat.mod_mod]
    rw [State.memAddr, if_neg (by dsimp only; omega), hoff, hrow, hgrain, Nat.div_add_mod', Nat.add_assoc,
      Nat.div_add_mod']

/-- No two module addresses share a byte, also not as the model numbers the bytes. -/
theorem State.MapLegal.eq_of_ddrKey_eq {s : State} (hs : s.MapLegal) {a n : Nat} {x y : Nat × Nat}
    (ha : s.memMap a = some x) (hn : s.memMap n = some y) (h : ddrKey x = ddrKey y) : a = n := by
  have hC := s.memC_le
  obtain ⟨-, hx⟩ := hs.memMap_bounds ha
  obtain ⟨-, hy⟩ := hs.memMap_bounds hn
  have hxy : x = y := by
    unfold ddrKey at h
    exact Prod.ext (by omega) (by omega)
  rw [← State.memAddr_memMap ha, hxy, State.memAddr_memMap hn]

/-! ### DDR4 bytes -/

@[simp] theorem State.ddrPut_g (s : State) (x : Nat × Nat) (v : Byte) (pg : Nat) (f : Fld) :
    (s.ddrPut x v).g pg f = s.g pg f := by
  have hreg : (s.ddrPut x v).reg (pg + f.off) = s.reg (pg + f.off) := State.reg_congr rfl rfl rfl _
  rw [State.g, State.g, hreg]

@[simp] theorem State.ddrPut_memMap (s : State) (x : Nat × Nat) (v : Byte) (a : Nat) :
    (s.ddrPut x v).memMap a = s.memMap a := by
  have hg : (s.ddrPut x v).g = s.g := funext fun pg => funext (s.ddrPut_g x v pg)
  unfold State.memMap State.memL State.memG State.memC
  rw [hg]

theorem State.MapLegal.ddrPut {s : State} (h : s.MapLegal) (x : Nat × Nat) (v : Byte) : (s.ddrPut x v).MapLegal := by
  obtain ⟨hlocal, hmin, hmax⟩ := h
  constructor <;> rwa [State.ddrPut_g]

/-- A byte by what the map answers. The definition is opened before it is applied: on the applied form the kernel would
run the map on an address that is not a numeral. -/
theorem State.ddrByte_eq_elim (s : State) (a : Nat) :
    s.ddrByte a = (s.memMap a).elim 0 fun x => s.mem.ddr.get 0 (ddrKey x) := by
  have hdef : State.ddrByte = State.ddrByte := rfl
  conv at hdef => rhs; delta State.ddrByte
  rw [hdef]
  dsimp only
  cases s.memMap a <;> rfl

theorem State.ddrByte_of_mapped {s : State} {a : Nat} {x : Nat × Nat} (h : s.memMap a = some x) :
    s.ddrByte a = s.mem.ddr.get 0 (ddrKey x) := by
  rw [State.ddrByte_eq_elim, h, Option.elim_some]

theorem State.ddrByte_of_unmapped {s : State} {a : Nat} (h : s.memMap a = none) : s.ddrByte a = 0 := by
  rw [State.ddrByte_eq_elim, h, Option.elim_none]

theorem State.ddrWrite_cons_mapped {s : State} {a : Nat} {x : Nat × Nat} (h : s.memMap a = some x) (v : Byte)
    (b : List Byte) : s.ddrWrite a (v :: b) = (s.ddrPut x v).ddrWrite (a + 1) b := by
  simp [State.ddrWrite, h]

theorem State.ddrWrite_cons_unmapped {s : State} {a : Nat} (h : s.memMap a = none) (v : Byte) (b : List Byte) :
    s.ddrWrite a (v :: b) = s.ddrWrite (a + 1) b := by
  simp [State.ddrWrite, h]

/-- A write leaves the map. -/
@[simp] theorem State.ddrWrite_memMap (s : State) (a : Nat) (b : List Byte) (n : Nat) :
    (s.ddrWrite a b).memMap n = s.memMap n := by
  induction b generalizing s a with
  | nil => rfl
  | cons v b ih =>
    cases h : s.memMap a with
    | none => rw [State.ddrWrite_cons_unmapped h, ih]
    | some x => rw [State.ddrWrite_cons_mapped h, ih, State.ddrPut_memMap]

/-- A byte put where a mapped address lies is read at that address. -/
theorem State.ddrByte_ddrPut_self {s : State} {a : Nat} {x : Nat × Nat} (h : s.memMap a = some x) (v : Byte) :
    (s.ddrPut x v).ddrByte a = v := by
  rw [State.ddrByte_of_mapped (s.ddrPut_memMap x v a ▸ h)]
  exact Tab.get_set_self 0 s.mem.ddr (ddrKey x) v

/-- A byte put where a mapped address lies is read at no other address. -/
theorem State.MapLegal.ddrByte_ddrPut_ne {s : State} (hs : s.MapLegal) {a n : Nat} {x : Nat × Nat}
    (h : s.memMap a = some x) (hne : n ≠ a) (v : Byte) : (s.ddrPut x v).ddrByte n = s.ddrByte n := by
  cases hn : s.memMap n with
  | none => rw [State.ddrByte_of_unmapped hn, State.ddrByte_of_unmapped (s.ddrPut_memMap x v n ▸ hn)]
  | some y =>
    rw [State.ddrByte_of_mapped hn, State.ddrByte_of_mapped (s.ddrPut_memMap x v n ▸ hn)]
    exact Tab.get_set_ne 0 s.mem.ddr v fun e => hne (hs.eq_of_ddrKey_eq hn h e)

/-- Bytes written leave every address outside them alone. -/
theorem State.MapLegal.ddrByte_ddrWrite_out {s : State} (hs : s.MapLegal) {a n : Nat} {b : List Byte}
    (h : n < a ∨ a + b.length ≤ n) : (s.ddrWrite a b).ddrByte n = s.ddrByte n := by
  induction b generalizing s a with
  | nil => rfl
  | cons v b ih =>
    rw [List.length_cons] at h
    have hrest : n < a + 1 ∨ a + 1 + b.length ≤ n := by omega
    cases ha : s.memMap a with
    | none => rw [State.ddrWrite_cons_unmapped ha, ih hs hrest]
    | some x =>
      rw [State.ddrWrite_cons_mapped ha, ih (hs.ddrPut x v) hrest, hs.ddrByte_ddrPut_ne ha (by omega)]

/-- Each byte written that is mapped reads back. -/
theorem State.MapLegal.ddrByte_ddrWrite_in {s : State} (hs : s.MapLegal) {a i : Nat} {b : List Byte}
    (hi : i < b.length) (hm : (s.memMap (a + i)).isSome) : (s.ddrWrite a b).ddrByte (a + i) = b[i] := by
  induction b generalizing s a i with
  | nil => cases hi
  | cons v b ih =>
    cases i with
    | zero =>
      obtain ⟨x, hx⟩ : ∃ x, s.memMap a = some x := Option.isSome_iff_exists.1 hm
      rw [State.ddrWrite_cons_mapped hx, Nat.add_zero a,
        (hs.ddrPut x v).ddrByte_ddrWrite_out (.inl (Nat.lt_add_one a))]
      exact State.ddrByte_ddrPut_self hx v
    | succ i =>
      have hi : i < b.length := Nat.lt_of_succ_lt_succ hi
      have hnext : a + (i + 1) = a + 1 + i := by omega
      rw [hnext] at hm ⊢
      rw [List.getElem_cons_succ]
      cases ha : s.memMap a with
      | none =>
        rw [State.ddrWrite_cons_unmapped ha]
        exact ih hs hi hm
      | some x =>
        rw [State.ddrWrite_cons_mapped ha]
        exact ih (hs.ddrPut x v) hi ((congrArg _ (s.ddrPut_memMap x v _)).trans hm)

/-! ### The statement -/

/-- DDR4 after a write, whichever address is read. -/
theorem State.MapLegal.ddrByte_ddrWrite {s : State} (hs : s.MapLegal) (a n : Nat) (b : List Byte) :
    (s.ddrWrite a b).ddrByte n
      = if h : a ≤ n ∧ n < a + b.length ∧ (s.memMap n).isSome then b[n - a]'(by omega) else s.ddrByte n := by
  split
  case isTrue h =>
    obtain ⟨hlo, hhi, hm⟩ := h
    obtain ⟨i, rfl⟩ := Nat.exists_eq_add_of_le hlo
    simpa using hs.ddrByte_ddrWrite_in (Nat.lt_of_add_lt_add_left hhi) hm
  case isFalse h =>
    cases hm : s.memMap n with
    | none => rw [State.ddrByte_of_unmapped hm, State.ddrByte_of_unmapped ((s.ddrWrite_memMap a b n).trans hm)]
    | some x =>
      have hout : n < a ∨ a + b.length ≤ n := by
        simp only [hm, Option.isSome_some, and_true] at h
        omega
      exact hs.ddrByte_ddrWrite_out hout

/-- A byte table after a write, whichever address is read. -/
theorem get_writeBytes (m : Tab Byte) (a n : Nat) (b : List Byte) :
    (writeBytes m a b).get 0 n = if h : a ≤ n ∧ n < a + b.length then b[n - a]'(by omega) else m.get 0 n := by
  split
  case isTrue h =>
    obtain ⟨hlo, hhi⟩ := h
    obtain ⟨i, rfl⟩ := Nat.exists_eq_add_of_le hlo
    simpa using writeBytes_get m a b (Nat.lt_of_add_lt_add_left hhi)
  case isFalse h => exact writeBytes_get_out m a b (by omega)

/-- Settles O58: DDR4 through its map, host memory and the acquisition buffer as byte tables. -/
theorem memoryReadAfterWrite : Obligations.MemoryReadAfterWrite := by
  unfold Obligations.MemoryReadAfterWrite
  refine ⟨?ddr, ?host, ?buffer⟩
  case ddr =>
    intro s a n b hlocal hmin hmax
    exact State.MapLegal.ddrByte_ddrWrite ⟨hlocal, hmin, hmax⟩ a n b
  case host =>
    intro s a n b
    exact get_writeBytes s.hif.hostMem a n b
  case buffer =>
    intro s a n b
    exact get_writeBytes s.acq.buf a n b

end Sys2Proof.Machine
end

section
/-!
PROOFS. What a step keeps: the forms of Safety, the queue, and the counts of the time domains. A command keeps what `Kept` says
(`exec_kept`), a tick the same of the state 1 ns later (`tick_kept`); a loss of input power starts the registers and the counts
again.
-/

namespace Sys2Proof.Machine
open Sys2Proof

/-! ### A loss of input power -/

/-- After a loss of input power a register reads as at reset. -/
theorem State.coldReset_reg (s : State) (a : Nat) : s.coldReset.reg a = State.reset.reg a :=
  State.reg_congr rfl rfl rfl a

/-- A loss of input power leaves no time domain ANCHORED (R52). -/
theorem State.coldReset_anchored (s : State) {d : Nat} (hd : d < 5) : s.coldReset.anchored d = false := by
  have hg : s.coldReset.g (Page.td d) F.TD_STATE_ANCHORED = State.reset.g (Page.td d) F.TD_STATE_ANCHORED := by
    rw [State.g, State.coldReset_reg, State.g]
  exact (congrArg (fun n => decide (n ≠ 0)) hg).trans (State.reset_anchored hd)

/-- A loss of input power answers the module that has lost it. -/
theorem exec_powerLoss (s : State) : exec .powerLoss s = .next s.coldReset := rfl

/-! ### One command -/

/-- A command that answers a next state keeps what `Kept` says, but for a loss of input power. -/
theorem kept_of_exec {i : Instr} {s t : State} (hi : i ≠ .powerLoss) (h : exec i s = .next t) : Kept s t := by
  have hk := exec_kept i s hi
  rw [h] at hk
  exact hk

/-- Every command keeps the byte memories canonical, and the log ring and the fraction of wall time bounded. -/
theorem exec_keeps_forms {i : Instr} {s t : State} (h : exec i s = .next t) (hs : s.Canonical ∧ s.Bounded) :
    t.Canonical ∧ t.Bounded := by
  obtain ⟨hc, hb⟩ := hs
  by_cases hi : i = .powerLoss
  · rw [hi, exec_powerLoss] at h
    cases h
    obtain ⟨canon, -, bounded, -⟩ := s.coldReset_keeps
    exact ⟨canon hc, bounded hb⟩
  · have hk := kept_of_exec hi h
    exact ⟨hk.canon hc, hk.bounded hb⟩

/-! ### One tick -/

/-- A tick keeps the byte memories canonical, and the log ring and the fraction of wall time bounded. -/
theorem tick_keeps_forms {s : State} (hs : s.Canonical ∧ s.Bounded) : s.tick.Canonical ∧ s.tick.Bounded := by
  cases hp : s.pwr.input with
  | false => rwa [tick_dead hp]
  | true => exact ⟨(tick_kept hp).canon hs.1, (tick_kept hp).bounded hs.2⟩

/-- A tick leaves the queue of waiting commands. -/
theorem tick_pending (s : State) : s.tick.pending = s.pending := by
  cases hp : s.pwr.input with
  | false => rw [tick_dead hp]
  | true => exact (tick_kept hp).queue

/-! ### One step -/

/-- A step on an empty queue is a tick. -/
theorem step_of_empty {s : State} (h : s.pending = []) : step s = .next s.tick := by
  rw [step, h]

/-- A step takes the command at the front of the queue. -/
theorem step_of_front {s : State} {c : Instr} {rest : List Instr} (h : s.pending = c :: rest) :
    step s = exec c { s with pending := rest } := by
  rw [step, h]

/-- Settles O50: a step is a tick or a command, and each keeps the forms. -/
theorem stepKeepsTheForms : Obligations.StepKeepsTheForms := by
  unfold Obligations.StepKeepsTheForms
  intro s t hs h
  cases hq : s.pending with
  | nil =>
    rw [step_of_empty hq] at h
    cases h
    exact tick_keeps_forms hs
  | cons c rest =>
    rw [step_of_front hq] at h
    exact exec_keeps_forms h hs

/-- Settles O48: the tick's own laws, with and without input power. -/
theorem stepOnAnEmptyQueuePassesATick : Obligations.StepOnAnEmptyQueuePassesATick := by
  unfold Obligations.StepOnAnEmptyQueuePassesATick
  intro s hq
  exact ⟨step_of_empty hq, (tick_pending s).trans hq, fun hp => (tick_kept hp).texp, tick_dead⟩

/-! ### The count of a domain -/

/-- Where the module count and the offset of a domain are kept, its count is (R50). -/
theorem Kept.cnt {s t : State} (h : Kept s t) {d : Nat} (ha : s.anchored d = true) : t.cnt d = s.cnt d := by
  rw [State.cnt, h.texp, h.offs d ha, State.cnt]

/-- 1 ns later a domain's count stands 16 units on. -/
theorem State.later1_cnt (s : State) (d : Nat) : s.later1.cnt d = s.cnt d + 16 := by
  simp only [State.cnt, State.later1, BitVec.ofNat_add]
  rw [BitVec.add_assoc, BitVec.add_comm (BitVec.ofNat 64 16), ← BitVec.add_assoc]
  rfl

/-- The offset of a domain that is ANCHORED before and after a command (R53). -/
theorem exec_keeps_offset {i : Instr} {s t : State} {d : Nat} (h : exec i s = .next t) (hd : d < 5)
    (hs : s.anchored d = true) (ht : t.anchored d = true) :
    (t.tim.doms.get Dom.zero d).off = (s.tim.doms.get Dom.zero d).off := by
  by_cases hi : i = .powerLoss
  · rw [hi, exec_powerLoss] at h
    cases h
    rw [State.coldReset_anchored s hd] at ht
    cases ht
  · exact (kept_of_exec hi h).offs d hs

/-- Settles O52: a command keeps the count, a command after which the domain is still ANCHORED the offset, and a tick
counts. -/
theorem anchoredCountOnlyCounts : Obligations.AnchoredCountOnlyCounts := by
  unfold Obligations.AnchoredCountOnlyCounts
  refine ⟨?count, ?offset, ?tick⟩
  case count =>
    intro i s t d h _ hi ha
    exact (kept_of_exec hi h).cnt ha
  case offset =>
    intro i s t d h hd hs ht
    exact exec_keeps_offset h hd hs ht
  case tick =>
    intro s d _ ha
    exact ⟨fun hp => ((tick_kept hp).cnt ha).trans (s.later1_cnt d), fun hp => by rw [tick_dead hp]⟩

end Sys2Proof.Machine
end

section
/-!
PROOFS. An oscillator: its phase (R72, R73), its change by a new frequency (R74) and by an update (R75), and the samples that the
new values govern.
-/

namespace Sys2Proof.Machine
open Sys2Proof

/-- P′ of R74, as an integer. -/
theorem retune_cast (f p f' t0 : Nat) : (retune f p f' t0 : Int) = (p + ((f : Int) - f') * t0) % 2 ^ 48 :=
  Int.toNat_of_nonneg (Int.emod_nonneg _ (by decide))

/-- A frequency change leaves the phase at its own sample (R74). -/
theorem phase_retune (f p f' t0 : Nat) : phase f' (retune f p f' t0) t0 = phase f p t0 := by
  have h : ((f' * t0 + retune f p f' t0 : Nat) : Int) % 2 ^ 48 = ((f * t0 + p : Nat) : Int) % 2 ^ 48 := by
    push_cast [retune_cast]
    have hsum : (f' * t0 + (p + (f - f') * t0) : Int) = f * t0 + p := by
      rw [Int.sub_mul]
      omega
    rw [Int.add_emod_emod, hsum]
  simp only [phase]
  exact_mod_cast h

/-- An update moves the phase of every sample by its amount (R75). -/
theorem phase_addPhase (f p z t : Nat) : phase f (addPhase p z) t = (phase f p t + z) % 2 ^ 48 := by
  rw [phase, addPhase, phase, Nat.add_mod_mod, Nat.mod_add_mod, Nat.add_assoc]

/-- Only the count modulo 2^48 matters to the phase (R73). -/
theorem phase_mod (f p t : Nat) : phase f p (t % 2 ^ 48) = phase f p t := by
  simp only [phase, Nat.add_mod (f * _), Nat.mul_mod_mod]

/-- From the sample of a change on the new values govern, where no change stands later. -/
theorem Osc.change_at_of_le {o : Osc} {t0 t : Nat} (ho : ∀ x ∈ o.old, x.1 ≤ t0) (h : t0 ≤ t) (f p : Nat) :
    (o.change t0 f p).at t = (f, p) := by
  have hn : (o.change t0 f p).old.find? (fun x => t < x.1) = none := by
    rw [List.find?_eq_none]
    intro x hx
    have hle : x.1 ≤ t0 := by
      rcases List.mem_append.1 hx with hx | hx
      · exact ho x hx
      · exact Nat.le_of_eq (congrArg Prod.fst (List.mem_singleton.1 hx))
    simpa using Nat.le_trans hle h
  rw [Osc.at, hn]
  rfl

/-- Before the sample of a change the old values govern. -/
theorem Osc.change_at_of_lt {o : Osc} {t0 t : Nat} (h : t < t0) (f p : Nat) : (o.change t0 f p).at t = o.at t := by
  have hf : (o.change t0 f p).old.find? (fun x => t < x.1)
      = (o.old.find? (fun x => t < x.1)).or (some (t0, o.f, o.p)) := by
    simp [Osc.change, List.find?_append, h]
  rw [Osc.at, hf, Osc.at]
  cases o.old.find? (fun x => t < x.1) <;> rfl

/-- Of a phase update and a frequency change on one sample the frequency change comes first (R75, R211). -/
theorem effSort_freq_first (t k j o v z : Nat) :
    effSort [(t, .phaseAdd k o z), (t, .freq j o v)] = [(t, .freq j o v), (t, .phaseAdd k o z)] := by
  have hk : effKey (t, .freq j o v) < effKey (t, .phaseAdd k o z) :=
    Nat.add_lt_add_left (by decide : (2 : Nat) < 4) _
  simp [effSort, effIns, hk]

/-- Settles O56: the change of frequency, the update, the count's period, the samples that a change governs, the two
effects, and their order. -/
theorem oscillatorPhase : Obligations.OscillatorPhase := by
  unfold Obligations.OscillatorPhase
  exact ⟨fun f p f' t0 => ⟨retune_cast f p f' t0, phase_retune f p f' t0⟩,
    fun f p z t => ⟨rfl, phase_addPhase f p z t⟩,
    phase_mod,
    fun _ _ f p _ ho => ⟨fun h => Osc.change_at_of_le ho h f p, fun h => Osc.change_at_of_lt h f p⟩,
    fun _ _ _ _ _ _ => ⟨rfl, rfl⟩,
    effSort_freq_first⟩

end Sys2Proof.Machine
end

section
/-!
PROOFS. The timing block's commands, register requests and anchor frames: anchoring, releases and frames (R52, R59, R60, R87,
R693), and the alignment of the converters (R69, R71).
-/

namespace Sys2Proof.Machine
open Sys2Proof

/-! ### A command that runs, and one that ends -/

/-- A command that begins to run changes nothing but the slots of the host interface. -/
theorem State.inRun_eq (s : State) (p : Pkt) : ∃ l, s.inRun p = { s with hif.slots := l } := by
  unfold State.inRun
  split
  · exact ⟨_, rfl⟩
  · exact ⟨s.hif.slots, rfl⟩

@[simp] theorem State.inRun_reg (s : State) (p : Pkt) (a : Nat) : (s.inRun p).reg a = s.reg a := by
  obtain ⟨l, h⟩ := s.inRun_eq p
  rw [h]
  rfl

@[simp] theorem State.inRun_g (s : State) (p : Pkt) (pg : Nat) (f : Fld) : (s.inRun p).g pg f = s.g pg f := by
  rw [State.g, State.inRun_reg, State.g]

@[simp] theorem State.inRun_anchored (s : State) (p : Pkt) (d : Nat) : (s.inRun p).anchored d = s.anchored d := by
  simp [State.anchored, State.on]

@[simp] theorem State.inRun_skewSet (s : State) (p : Pkt) : (s.inRun p).skewSet = s.skewSet :=
  s.inRun_g p _ _

section
variable {α : Type} {π : State → α}

theorem forEach_field {f : State → Nat → State} (hf : ∀ s n, π (f s n) = π s) (l : List Nat) (s : State) :
    π (forEach l s f) = π s := by
  induction l generalizing s with
  | nil => rfl
  | cons n l ih => rw [forEach, ih, hf]

variable (hreg : ∀ s a w, π (State.setReg s a w) = π s) (hhrt : ∀ (s : State) x, π { s with hrt := x } = π s)
include hreg hhrt

theorem applyDefers_field (s : State) (g : Nat) : π (s.applyDefers g) = π s := by
  have hl : ∀ (l : List DeferOp) (s : State), π (l.foldl State.applyDefer s) = π s := by
    intro l
    induction l with
    | nil => exact fun _ => rfl
    | cons x l ih => exact fun s => (ih _).trans (hreg s _ _)
  exact (hl _ _).trans (hhrt s _)

theorem freeCtx_field (s : State) (c : Nat) : π (s.freeCtx c) = π s := by
  have hs : ∀ s : State, π (s.switchCtx c) = π s := by
    intro s
    unfold State.switchCtx
    split
    · rfl
    · split
      · exact hhrt s _
      · rfl
  have hd : π (forEach (s.hctx c).groups (s.setHctx c Ctx.zero) State.applyDefers) = π s :=
    (forEach_field (applyDefers_field hreg hhrt) _ _).trans (hhrt s _)
  unfold State.freeCtx
  dsimp only
  split
  · exact (hs _).trans hd
  · exact hd

/-- The end of a waiting command leaves what depends neither on registers, nor on Hearth's contexts, nor on the slots. -/
theorem settle_field (hhif : ∀ (s : State) x, π { s with hif := x } = π s) (s : State) (w : Option (Nat × Nat))
    (st r : Nat) : π (s.settle w st r) = π s := by
  cases w with
  | none => rfl
  | some w =>
    have he : π (s.endCtx w.1 w.2) = π s := by
      unfold State.endCtx
      split
      · exact freeCtx_field hreg hhrt s _
      · rfl
    unfold State.settle
    dsimp only
    split
    · exact (hhif _ _).trans he
    · exact he

end

@[simp] theorem State.settle_mode (s : State) (w : Option (Nat × Nat)) (st r : Nat) :
    (s.settle w st r).pwr.mode = s.pwr.mode :=
  settle_field (π := fun s => s.pwr.mode) (fun _ _ _ => rfl) (fun _ _ => rfl) (fun _ _ => rfl) s w st r

@[simp] theorem State.settle_safeExit (s : State) (w : Option (Nat × Nat)) (st r : Nat) :
    (s.settle w st r).pwr.safeExit = s.pwr.safeExit :=
  settle_field (π := fun s => s.pwr.safeExit) (fun _ _ _ => rfl) (fun _ _ => rfl) (fun _ _ => rfl) s w st r

/-! ### The requests of a domain, accepted -/

/-- A release of an ANCHORED domain drops its pending load, clears ANCHORED and logs it (R52). -/
theorem State.unanchor_of_anchored {s : State} {d : Nat} (h : s.anchored d = true) :
    s.unanchor d = (({ s with
        tim.doms := s.tim.doms.set Dom.zero d { s.tim.doms.get Dom.zero d with pend := none } }).unflag
      (Page.td d) F.TD_STATE_ANCHORED).logIt Cause.stateDomain d (gid 3 d) 1 :=
  if_pos h

theorem State.tdAnchor_of_accepted {s : State} {d : Nat}
    (h : s.anchorRefusal d (s.g64 (Page.td d) F.TD_ANCHOR_LO) = none) :
    s.tdAnchor d = s.anchorAccept d (s.g64 (Page.td d) F.TD_ANCHOR_LO) := by
  simp [State.tdAnchor, h]

theorem State.tdPropagate_of_accepted {s : State} {d : Nat} (h : s.propagateBad d = false) :
    s.tdPropagate d = s.propagate d := by
  simp [State.tdPropagate, h]

theorem State.tdRelease_of_accepted {s : State} {d : Nat} (ha : s.anchored d = true) (hi : s.idle d = true) :
    s.tdRelease d = s.unanchor d := by
  simp [State.tdRelease, State.releaseBad, ha, hi]

/-- Settles O7: each command runs to its completion, TIME_ALIGN to the start of the alignment that completes it. -/
theorem timingCommands : Obligations.TimingCommands := by
  unfold Obligations.TimingCommands
  refine ⟨?anchor, ?propagate, ?release, ?align, ?relock⟩
  case anchor =>
    intro s p y h
    exact runs_of_plain (c := cTimeAnchor) rfl h rfl
  case propagate =>
    intro s p y h
    exact runs_of_plain (c := cTimePropagate) rfl h rfl
  case release =>
    intro s p y h ha
    refine runs_of_plain (c := cTimeRelease) rfl h ?_
    have hr := State.unanchor_of_anchored ((s.inRun_anchored y _).trans ha)
    exact congrArg (State.succeed · y) hr
  case align =>
    intro s p y h
    have hc := command_inHand (c := cTimeAlign) h
    rw [← s.inRun_skewSet y]
    exact congrArg Host.Outcome.next hc
  case relock =>
    intro s p y h
    exact runs_of_plain (c := cTimeWallRelock) rfl h rfl

/-! ### Register requests, loads and frames -/

section
variable {s : State} {fn d : Nat} (hd : d < 5) (ho : s.Opens fn (tdCtrlAt d))
include hd ho

theorem exec_tdCtrlAnchor : exec (.tdCtrlAnchor fn d) s = .next (s.tdAnchor d) := by
  change execTdCtrlAnchor fn d s = _
  rw [execTdCtrlAnchor, if_pos hd, State.onWrite_of_opens ho]

theorem exec_tdCtrlPropagate : exec (.tdCtrlPropagate fn d) s = .next (s.tdPropagate d) := by
  change execTdCtrlPropagate fn d s = _
  rw [execTdCtrlPropagate, if_pos hd, State.onWrite_of_opens ho]

theorem exec_tdCtrlRelease : exec (.tdCtrlRelease fn d) s = .next (s.tdRelease d) := by
  change execTdCtrlRelease fn d s = _
  rw [execTdCtrlRelease, if_pos hd, State.onWrite_of_opens ho]

end

/-- The load of a domain that waits for it and is not ANCHORED takes its value and epoch (R693). -/
theorem exec_anchorLoad {s : State} {d e : Nat} {v : W64} (hp : (s.tim.doms.get Dom.zero d).pend = some (v, e))
    (ha : s.anchored d = false) : exec (.anchorLoad d) s = .next (s.anchorTake d v e) := by
  change execAnchorLoad d s = _
  simp [execAnchorLoad, hp, ha]

/-- A good frame for a domain that neither is ANCHORED nor waits for a load anchors it, at a module that does not forward
frames (R52, R59). -/
theorem exec_anchorFrameReceive {s : State} {f : BitVec 104} (hm : s.pwr.mode ≠ .off) (hp : afPreamble f = 0xA5C3)
    (hc : afCrcOk f = true) (hd : afDomain f < 5) (ha : s.anchored (afDomain f) = false)
    (hw : s.anchoring (afDomain f) = false) (hr : s.refOk = true) (hl : s.on Page.tim F.TIM_CTRL_LINK_OUT_EN = false) :
    exec (.anchorFrameReceive f) s = .next (s.anchorTake (afDomain f)
      (BitVec.ofNat 64 (afValue f + 160 * s.g Page.tim F.TIM_CTRL_LINK_COMP)) (afEpoch f)) := by
  change execAnchorFrameReceive f s = _
  simp [execAnchorFrameReceive, State.when, hm, hp, hc, Nat.not_le.2 hd, ha, hw, hr, hl]

/-- The oldest frame to forward leaves TIMING LINK OUT (R60). -/
theorem exec_anchorFrameForward {s : State} {f : AFrame} {l : List AFrame} (h : s.tim.fwd = f :: l) :
    exec .anchorFrameForward s = .next { s with tim.fwd := l, tim.linkOut := s.tim.linkOut ++ [f] } := by
  change execAnchorFrameForward s = _
  rw [execAnchorFrameForward, h]

/-- An alignment that succeeds, with no PWR_SAFE_EXIT in progress and outside OFF, sets ALIGNED and completes the command that
waits for it (R71). -/
theorem State.alignGood_of_plain {s : State} (hx : s.pwr.safeExit = none) (hm : s.pwr.mode ≠ .off) :
    s.alignGood = ({ s with tim.tries := none, tim.alignOwed := none }.flag Page.tim F.TIM_STATUS_ALIGNED).settle
      s.tim.alignOwed St.success := by
  simp [State.alignGood, State.when, hx, hm]

theorem exec_alignmentVerify_good {s : State} {n : Nat} (ht : s.tim.tries = some n) :
    exec (.alignmentVerify true) s = .next s.alignGood := by
  change execAlignmentVerify true s = _
  simp [execAlignmentVerify, ht]

/-- Settles O8: each request, load, frame and check comes to the operation that it names. -/
theorem anchoringActions : Obligations.AnchoringActions := by
  unfold Obligations.AnchoringActions
  refine ⟨?anchor, ?propagate, ?release, ?load, ?receive, ?forward, ?verify⟩
  case anchor =>
    intro s fn d hd ho hr
    rw [exec_tdCtrlAnchor hd ho, State.tdAnchor_of_accepted hr]
    rfl
  case propagate =>
    intro s fn d hd ho hb
    rw [exec_tdCtrlPropagate hd ho, State.tdPropagate_of_accepted hb]
    rfl
  case release =>
    intro s fn d hd ho ha hi
    rw [exec_tdCtrlRelease hd ho, State.tdRelease_of_accepted ha hi, State.unanchor_of_anchored ha]
  case load =>
    intro s d e v hp ha
    exact exec_anchorLoad hp ha
  case receive =>
    rintro s f d hm hp hc rfl hd ha hw hr hl
    exact exec_anchorFrameReceive hm hp hc hd ha hw hr hl
  case forward =>
    intro s f l h
    exact exec_anchorFrameForward h
  case verify =>
    intro s n ht hx hm
    rw [exec_alignmentVerify_good ht, State.alignGood_of_plain hx hm]

end Sys2Proof.Machine
end

section
/-!
PROOFS. The reference, wall time and the time units: loss and return of the reference (R62, R63), the measured step of wall time
and its holdover (R66), PPS OUT (R68), the firing of timers (R76) and the captures (R79, R80).
-/

namespace Sys2Proof.Machine
open Sys2Proof

/-! ### What the log leaves -/

theorem State.when_tim (s : State) (c : Prop) [Decidable c] {f : State → State} (hf : ∀ s, (f s).tim = s.tim) :
    (s.when c f).tim = s.tim := by
  unfold State.when
  split
  · exact hf s
  · rfl

/-- An entry of the log leaves the time state. -/
theorem State.logWrite_tim (s : State) (cause kind part source detail n : Nat) :
    (s.logWrite cause kind part source detail n).tim = s.tim := by
  have hw := s.when_tim (s.log.count = 16384)
    (f := fun s => (s.bump Page.log F.LOG_OVERWRITES).flag Page.log F.LOG_STATUS_WRAPPED) fun _ => rfl
  unfold State.logWrite
  dsimp only
  split <;> exact hw

/-- An occurrence of a cause leaves the time state. -/
theorem State.logAs_tim (s : State) (cause kind part source detail : Nat) :
    (s.logAs cause kind part source detail).tim = s.tim := by
  have hw : (((s.bump (Page.cause cause) F.LOG_CAUSE_COUNT).when (kind = 0) (·.bump64 Page.log F.LOG_TRANSIENTS_LO)).when
      (kind = 1) (fun s => (s.bump Page.log F.LOG_PERMANENTS).flag Page.log F.LOG_STATUS_PERM_UNACK)).tim = s.tim := by
    simp [State.when_tim]
  unfold State.logAs
  dsimp only
  split
  · simpa only [State.bump_tim] using hw
  · rw [State.logWrite_tim]
    exact hw

theorem State.logIt_tim (s : State) (cause part source detail : Nat) :
    (s.logIt cause part source detail).tim = s.tim :=
  s.logAs_tim cause _ part source detail

/-! ### The reference -/

/-- The loss of a reference that was present: in `u` its flags and its domains are cleared; wall time then enters HOLDOVER, and
the module SAFE (R62). -/
theorem State.refFall_of_present {s u : State} (h : s.tim.refIn = true)
    (hu : u = forEach [0, 1, 2, 3, 4] (((({ s with tim.refIn := false }).unflag Page.tim F.TIM_STATUS_REF_OK).unflag
      Page.tim F.TIM_STATUS_PLL_LOCK).flag Page.tim F.TIM_EVENTS_REF_LOST) State.unanchor) :
    s.refFall = (u.when (u.g Page.tim F.TIM_STATUS_WALL_STATE ≠ 3)
      (fun s => (s.p Page.tim F.TIM_STATUS_WALL_STATE 3).flag Page.tim F.TIM_EVENTS_WALL_HOLDOVER)).raiseSafe
      Cause.refLost 0 (gid 3 2047) 0 := by
  subst hu
  exact if_neg (by simp [h])

/-- The reference returns in SAFE or READY, with the converters powered: the PLL relocks and the converters realign (R63). -/
theorem exec_refRestored {s : State} (hr : s.refOk = false) (hp : s.pwr.input = true) (hd : s.pwr.deep = false)
    (hm : s.pwr.mode = .safe ∨ s.pwr.mode = .ready) :
    exec .refRestored s = .next ((({ s.flag Page.tim F.TIM_STATUS_REF_OK with tim.refIn := true }.flag Page.tim
      F.TIM_EVENTS_REF_RESTORED).clearPending 0).flag Page.tim F.TIM_STATUS_PLL_LOCK).alignStart := by
  change execRefRestored s = _
  have hb : s.pwr.mode ≠ .banked := by rcases hm with h | h <;> simp [h]
  have ho : s.pwr.mode ≠ .off := by rcases hm with h | h <;> simp [h]
  simp [execRefRestored, State.clearPending, hr, hp, hd, hb, ho]

/-! ### Wall time -/

/-- Where wall time steps and goes on in state `v`, its step is spent and the count of measurements starts again (R66). -/
theorem State.setWall_wallStep_tim (s : State) (off : Int) (v : Nat) :
    ∃ b, ((s.wallStep off).setWall v).tim
      = { s.tim with wallNs := ((s.tim.wallNs : Int) - off).toNat, stepOk := false, nValid := 0, ppsOut := b } := by
  have hs : (s.wallStep off).tim = { s.tim with wallNs := ((s.tim.wallNs : Int) - off).toNat, stepOk := false } :=
    State.logIt_tim _ _ _ _ _
  exact ⟨_, congrArg (fun t : Tim => { t with nValid := 0, ppsOut := ((s.wallStep off).setWall v).tim.ppsOut }) hs⟩

/-- The fourth measurement of a master that is heard, in the state FREE with the step permitted: wall time steps by the
offset (R66). -/
theorem exec_ptpSync_step {s : State} {m : PtpSync} (hm : s.pwr.mode ≠ .off) (hh : s.ptpHeard m = true)
    (hw : s.wallState = 0) (hn : 3 ≤ s.tim.nValid) (hs : s.tim.stepOk = true) :
    exec (.ptpSync m) s = .next
      (((s.p Page.tim F.TIM_WALL_OFFSET (sat32 (ptpOffset m))).wallCount.wallStep (ptpOffset m)).setWall 1) := by
  have hw' : (s.p Page.tim F.TIM_WALL_OFFSET (sat32 (ptpOffset m))).wallState = 0 :=
    (s.g_p_of_reg_ne (by decide) _).trans hw
  have hn' : ¬ s.tim.nValid + 1 < 4 := by omega
  change execPtpSync m s = _
  simp [execPtpSync, State.when, State.wallCount, hm, hh, hw', hn', hs]

/-- No Sync for three announce intervals takes wall time from ACQUIRING or LOCKED to HOLDOVER (R66). -/
theorem exec_wallHoldover {s : State} (h : s.wallState = 1 ∨ s.wallState = 2) :
    exec .wallHoldover s = .next ((s.setWall 3).flag Page.tim F.TIM_EVENTS_WALL_HOLDOVER) := by
  change execWallHoldover s = _
  rw [execWallHoldover, if_pos (by simpa using h)]

/-- Settles O9: the loss and the return of the reference, the measured step, the holdover and the pulse. -/
theorem referenceAndWallTime : Obligations.ReferenceAndWallTime := by
  unfold Obligations.ReferenceAndWallTime
  refine ⟨?lost, ?restored, ?step, ?holdover, ?pps⟩
  case lost =>
    intro s u h hu
    exact congrArg Host.Outcome.next (State.refFall_of_present h hu)
  case restored =>
    rintro s u hr hp hd hm rfl
    exact exec_refRestored hr hp hd hm
  case step =>
    intro s m hm hen hb ht hdom hw hn hs
    have hh : s.ptpHeard m = true := by simp [State.ptpHeard, hen, hb, ht, hdom]
    obtain ⟨b, htim⟩ := State.setWall_wallStep_tim
      (s.p Page.tim F.TIM_WALL_OFFSET (sat32 (ptpOffset m))).wallCount (ptpOffset m) 1
    refine ⟨_, exec_ptpSync_step hm hh hw hn hs, ?_⟩
    rw [htim]
    exact ⟨rfl, rfl, rfl, rfl, rfl⟩
  case holdover =>
    intro s h
    exact exec_wallHoldover h
  case pps =>
    intro s
    rfl

/-! ### Timers and captures -/

/-- Timer `n` has set FIRED and counted the firing (R76). -/
def State.ttuCounted (s : State) (n : Nat) : State :=
  (s.flag (Page.ttu n) F.TTU_STATUS_FIRED).p (Page.ttu n) F.TTU_STATUS_FIRE_COUNT
    ((s.g (Page.ttu n) F.TTU_STATUS_FIRE_COUNT + 1) % 65536)

/-- The firing of a timer leaves its TTU_CTRL. -/
theorem State.ttuCounted_ctrl (s : State) (n : Nat) {f : Fld} (hf : f.off = 0) :
    (s.ttuCounted n).g (Page.ttu n) f = s.g (Page.ttu n) f := by
  have hne : ∀ k : Fld, k.off = 0x14 → Page.ttu n + f.off ≠ Page.ttu n + k.off := by omega
  rw [State.ttuCounted, State.g_p_of_reg_ne _ (hne _ rfl), State.flag, State.g_p_of_reg_ne _ (hne _ rfl)]

theorem State.ttuCounted_ctrl_on (s : State) (n : Nat) {f : Fld} (hf : f.off = 0) :
    (s.ttuCounted n).on (Page.ttu n) f = s.on (Page.ttu n) f := by
  simp [State.on, s.ttuCounted_ctrl n hf]

/-- A timer that is not late and not periodic fires once, and publishes on its channel (R76). -/
theorem State.ttuFire_of_once {s : State} {n : Nat} (ht : s.tim.ttu.get 0 n = 0)
    (hp : s.on (Page.ttu n) F.TTU_CTRL_PERIODIC = false) :
    s.ttuFire n = State.publish { s.ttuCounted n with tim.ttu := s.tim.ttu.set 0 n 2 } (ttuOwner n)
      (s.g (Page.ttu n) F.TTU_CTRL_CHANNEL) (s.on (Page.ttu n) F.TTU_CTRL_WAKE) := by
  have hl : s.when (s.tim.ttu.get 0 n = 1) (·.flag (Page.ttu n) F.TTU_STATUS_LATE) = s := if_neg (by omega)
  have hp' : ¬ (s.ttuCounted n).on (Page.ttu n) F.TTU_CTRL_PERIODIC = true := by
    simp [s.ttuCounted_ctrl_on n (f := F.TTU_CTRL_PERIODIC) rfl, hp]
  unfold State.ttuFire
  dsimp only
  rw [hl, ← State.ttuCounted, if_neg hp']
  change State.publish _ _ ((s.ttuCounted n).g _ _) ((s.ttuCounted n).on _ _) = _
  rw [s.ttuCounted_ctrl n rfl, s.ttuCounted_ctrl_on n rfl]
  rfl

theorem exec_ttuFire {s : State} {n : Nat} (hn : n < 32) (hl : s.ttuLive n = true) (hd : s.ttuDue n = true) :
    exec (.ttuFire n) s = .next (s.ttuFire n) := by
  change execTtuFire n s = _
  simp [execTtuFire, hn, hl, hd]

/-- A unit whose input is an event channel captures its source's present value at an event of the channel (R79). -/
theorem exec_tcuCapture_event {s : State} {n : Nat} (hn : n < 16) (he : s.on (Page.tcu n) F.TCU_CTRL_ENABLE = true)
    (hs : s.serving = true) (hk : s.on (Page.tcu n) F.TCU_CTRL_INPUT_KIND = false)
    (hv : s.evr.now.get false (s.g (Page.tcu n) F.TCU_CTRL_INPUT) = true)
    (hm : s.maySubscribe (tcuOwner n) (s.g (Page.tcu n) F.TCU_CTRL_INPUT) = true) (t frac : Nat) :
    exec (.tcuCapture n t frac) s = .next (s.tcuTake n (s.tcuTick (s.g (Page.tcu n) F.TCU_CTRL_SOURCE)
        (s.srcNow (s.g (Page.tcu n) F.TCU_CTRL_SOURCE)))
      (s.srcNow (s.g (Page.tcu n) F.TCU_CTRL_SOURCE) / srcTick (s.g (Page.tcu n) F.TCU_CTRL_SOURCE)
        * srcTick (s.g (Page.tcu n) F.TCU_CTRL_SOURCE)) none) := by
  change execTcuCapture n t frac s = _
  simp [execTcuCapture, Nat.not_le.2 hn, he, hs, hk, hv, hm]

/-- The read of a captured time's high half gives what the read of the low half held, and clears VALID (R80). -/
theorem exec_tcuTimeHiRead {s : State} {fn n : Nat} (hn : n < 16) (ha : s.Answers fn (Page.tcu n + 8)) :
    exec (.tcuTimeHiRead fn n) s = .next { s.unflag (Page.tcu n) F.TCU_STATUS_VALID with
      pins.rdata := s.heldRd.get 0 (holdKey fn (Page.tcu n + 8)) } := by
  change execTcuTimeHiRead fn n s = _
  rw [execTcuTimeHiRead, if_pos hn, State.onRead_of_answers ha]

/-- Settles O10: the one firing, the capture of an event, and the read of a captured time. -/
theorem timeUnits : Obligations.TimeUnits := by
  unfold Obligations.TimeUnits
  refine ⟨?fire, ?capture, ?read⟩
  case fire =>
    rintro s u n hn hl hd ht hp rfl
    exact (exec_ttuFire hn hl hd).trans (congrArg Host.Outcome.next (State.ttuFire_of_once ht hp))
  case capture =>
    intro s n t frac hn he hs hk hv hm
    exact exec_tcuCapture_event hn he hs hk hv hm t frac
  case read =>
    intro s fn n hn ha
    exact exec_tcuTimeHiRead hn ha

end Sys2Proof.Machine
end

section
/-!
PROOFS. SAFE entry (R573), the end of the bank sequence (R623), a doorbell held in BANKED (R622), and the end of the wake (R70).
-/

namespace Sys2Proof.Machine
open Sys2Proof

theorem exec_safeEntry (c : Nat) (s : State) : exec (.safeEntry c) s = execSafeEntry c s := rfl

/-- Once its ramps, conversions and copies are over, the bank sequence ends and a wake asked for meanwhile begins (R623). -/
theorem exec_bankComplete {s : State} (hb : s.pwr.busy = .bank) (hr : s.rampsOver = true) (hm : s.monsOver = true)
    (hc : s.copiesOver = true) : exec .bankComplete s = .next s.bankDone.bankWakes := by
  change execBankComplete s = _
  simp [execBankComplete, hb, hr, hm, hc]

/-- A wake follows the bank sequence where a command waits for it. -/
theorem State.bankWakes_eq (s : State) :
    s.bankWakes = if s.wakesWaiting.pwr.owed = [] then s.wakesWaiting else s.wakesWaiting.startWake :=
  ite_not _ _ _

/-- In BANKED a doorbell of a submission queue is held, and asks for a wake (R622). -/
theorem exec_bankedDoorbell {s : State} {fn n : Nat} (hn : n < 64) (hm : s.pwr.mode = .banked)
    (ho : s.Opens fn (Page.db n)) (v : Word) :
    exec (.bankedDoorbell fn n v) s
      = .next ({ s with pwr.doorbells := s.pwr.doorbells ++ [(fn, n, wget v 15 0)] }).startWake := by
  change execBankedDoorbell fn n v s = _
  rw [execBankedDoorbell, if_pos ⟨by omega, hm⟩, if_pos hn, State.onWrite_of_opens ho]

/-- Once the stores are initialised and the converters aligned the wake ends, in the exit from SAFE that asked for it or in
READY (R70, R576). -/
theorem exec_wakeComplete {s : State} (hb : s.pwr.busy = .wake) (ht : s.tim.tries = none) (hi : s.mem.initLeft = [])
    (hr : s.refOk = true) (ha : s.on Page.tim F.TIM_STATUS_ALIGNED = true) :
    exec .wakeComplete s = .next (if s.pwr.safeExit.isSome then s.exitSafe else s.wakeDone) := by
  change execWakeComplete s = _
  simp [execWakeComplete, hb, ht, hi, hr, ha]

/-- Settles O45: the causes of SAFE one by one, the end of the bank sequence, the held doorbell and the two ends of a wake. -/
theorem safeAndBanked : Obligations.SafeAndBanked := by
  unfold Obligations.SafeAndBanked
  refine ⟨?entry, ?bank, ?doorbell, ?wake, ?safeExit⟩
  case entry =>
    intro s h
    simp [exec_safeEntry, execSafeEntry, h, Cause.hostRequest, Cause.alignFail, Cause.thermalShutdown,
      Cause.twinNotInStep, Cause.refLost, Cause.inputFail]
  case bank =>
    rintro s v w x hb hr hm hc rfl rfl rfl
    rw [exec_bankComplete hb hr hm hc, State.bankWakes_eq]
    rfl
  case doorbell =>
    intro s fn n v hn hm ho
    exact exec_bankedDoorbell hn hm ho v
  case wake =>
    intro s hb ht hi hr ha hx
    simp [exec_wakeComplete hb ht hi hr ha, hx]
  case safeExit =>
    intro s x hb ht hi hr ha hx
    simp [exec_wakeComplete hb ht hi hr ha, hx]

end Sys2Proof.Machine
end

section
/-!
PROOFS. The drive chapter: its commands (R127) with the planned swaps and releases of spares (R122, R156), the envelope access
(R131), the heat-load guard (R112, R113), the spares' copies and failures (R123, R126), the mutes (R116, R117) and the ends of
plays (R100).
-/

namespace Sys2Proof.Machine
open Sys2Proof

/-! ### Planned swaps -/

@[simp] theorem State.inRun_slSt (s : State) (p : Pkt) (g : Nat) : (s.inRun p).slSt g = s.slSt g :=
  s.inRun_g p _ _

/-- A planned swap of a spare that is not under its own test is the copy that begins, and nothing besides (R122). -/
theorem State.spareGo_of_untested {s : State} {g : Nat} (h : s.slSt g ≠ 2) (i : Nat) (owed : Option (Nat × Nat))
    (test : Bool) : s.spareGo g i owed test
      = ((s.setSpare g { s.spare g with copyTo := some i, forTest := test, owed := owed }).p (Page.spare g)
        F.DRV_SPARE_STATUS_SERVING i).setSp g 1 := by
  rw [State.spareGo, if_neg h]

/-- A started command whose body begins a planned swap leaves it in progress, with the packet owed its completion. -/
theorem command_spareGo {s : State} {c : Cmd} {p y : Pkt} {g i : Nat} (h : s.InHand c.op p y)
    (hr : c.run (s.inRun y) y = (s.inRun y).spareGo g i y.who false) (hs : s.slSt g ≠ 2) :
    s.command c p = (((s.inRun y).setSpare g { (s.inRun y).spare g with
      copyTo := some i, forTest := false, owed := y.who }).p (Page.spare g) F.DRV_SPARE_STATUS_SERVING i).setSp g 1 := by
  have hs' : (s.inRun y).slSt g ≠ 2 := by rwa [State.inRun_slSt]
  rw [command_inHand h, hr, State.spareGo_of_untested hs']

/-- A command to whose copy the host answers runs on the bytes, and succeeds (R457). -/
theorem State.withData_of_data {p : Pkt} {n : Nat} {b : List Byte} (h : p.data n = some b) (s : State)
    (f : State → List Byte → State) : s.withData p n f = (f s b).succeed p := by
  rw [State.withData, h]

theorem cEnvLoad_run (s : State) (p : Pkt) : cEnvLoad.run s p
    = s.withData p (4 * p.n 1) (fun s b => s.envWrite p.target (p.n 0) (chunks 4 (p.n 1) b)) := rfl

/-- Settles O11: each command runs to its completion, and the swaps and releases of spares to the start of the copy that
completes them. -/
theorem driveCommands : Obligations.DriveCommands := by
  unfold Obligations.DriveCommands
  refine ⟨?config, ?frame, ?load, ?desc, ?heat, ?trip, ⟨?swapDrv, ?swapFlx⟩, ⟨?releaseDrv, ?releaseFlx⟩⟩
  case config =>
    rintro s p y eff h rfl
    exact runs_of_plain (c := cDrvConfig) rfl h rfl
  case frame =>
    intro s p y h
    exact runs_of_plain (c := cDrvFrameSet) rfl h rfl
  case load =>
    intro s p y b h hb
    refine runs_of_plain (c := cEnvLoad) rfl h ?_
    rw [cEnvLoad_run, State.withData_of_data hb]
    rfl
  case desc =>
    intro s p y h
    exact runs_of_plain (c := cEnvDescSet) rfl h rfl
  case heat =>
    intro s p y h
    exact runs_of_plain (c := cDrvHeatSet) rfl h rfl
  case trip =>
    intro s p y h
    exact runs_of_plain (c := cDrvTripClear) rfl h rfl
  case swapDrv =>
    intro s p y h hs
    exact congrArg Host.Outcome.next (command_spareGo (c := cDrvSpareSwap) h rfl hs)
  case swapFlx =>
    intro s p y h hs
    exact congrArg Host.Outcome.next (command_spareGo (c := cFlxSpareSwap) h rfl hs)
  case releaseDrv =>
    intro s p y h
    exact congrArg Host.Outcome.next (command_inHand (c := cDrvSpareRelease) h)
  case releaseFlx =>
    intro s p y h
    exact congrArg Host.Outcome.next (command_inHand (c := cFlxSpareRelease) h)

/-! ### Envelope access and the heat-load guard -/

section
variable {s : State} {fn q : Nat}
  (h : full fn = true ∨ inWin (s.sampWin q fn) (s.g (Page.drvq q) F.DRV_ENV_ADDR_ADDR) = true)
include h

/-- A function whose window holds ADDR is not denied at DRV_ENV_DATA (R98). -/
theorem State.not_envDenied :
    ¬ (¬ full fn = true ∧ ¬ inWin (s.sampWin q fn) (s.g (Page.drvq q) F.DRV_ENV_ADDR_ADDR) = true) :=
  fun ⟨hf, hw⟩ => h.elim hf hw

/-- Its write sets the sample at ADDR, which then advances (R131). -/
theorem State.envData_write (w : Word) : s.envData fn q (some w)
    = (s.setEnv q (s.g (Page.drvq q) F.DRV_ENV_ADDR_ADDR) w).p (Page.drvq q) F.DRV_ENV_ADDR_ADDR
      ((s.g (Page.drvq q) F.DRV_ENV_ADDR_ADDR + 1) % 2097152) :=
  if_neg (State.not_envDenied h)

/-- Its read returns the sample at ADDR, which then advances (R131). -/
theorem State.envData_read : s.envData fn q none
    = { s with pins.rdata := s.env q (s.g (Page.drvq q) F.DRV_ENV_ADDR_ADDR) }.p (Page.drvq q) F.DRV_ENV_ADDR_ADDR
      ((s.g (Page.drvq q) F.DRV_ENV_ADDR_ADDR + 1) % 2097152) :=
  if_neg (State.not_envDenied h)

end

theorem exec_drvEnvDataAccess_write {s : State} {fn q : Nat} (hq : q < 4) (ho : s.Opens fn (Page.drvq q + 0xC)) (w : Word) :
    exec (.drvEnvDataAccess fn q (some w)) s = .next (s.envData fn q (some w)) := by
  change execDrvEnvDataAccess fn q (some w) s = _
  rw [execDrvEnvDataAccess, if_pos hq, State.onWrite_of_opens ho]

theorem exec_drvEnvDataAccess_read {s : State} {fn q : Nat} (hq : q < 4) (ha : s.Answers fn (Page.drvq q + 0xC)) :
    exec (.drvEnvDataAccess fn q none) s = .next (s.envData fn q none) := by
  change execDrvEnvDataAccess fn q none s = _
  rw [execDrvEnvDataAccess, if_pos hq, State.onRead_of_answers ha]

theorem exec_heatTripWrite {s : State} {fn ch : Nat} (hc : ch < 160) (ho : s.Opens fn (outPg ch + 4)) :
    exec (.heatTripWrite fn ch) s = .next (s.tripClear ch) := by
  change execHeatTripWrite fn ch s = _
  rw [execHeatTripWrite, if_pos hc, State.onWrite_of_opens ho]

/-- A mean beyond the limit trips an output that has not tripped: it is flagged and logged, a run of its owner is marked, and
its mute follows (R112). -/
theorem exec_heatTrip {s u : State} {ch : Nat} (hc : ch < 160) (hh : s.heatOver ch = true)
    (ht : s.on (outPg ch) F.DRV_STATUS_HEAT_TRIP = false)
    (hu : u = (s.flag (outPg ch) F.DRV_STATUS_HEAT_TRIP).logIt Cause.heatGuard (s.owner ch)
      (if ch < 128 then gid 12 ch else gid 14 (ch - 128)) 0) :
    exec (.heatTrip ch) s = .next ((u.when (u.running (s.owner ch) = true) (·.mark (s.owner ch) 8)).muteStep ch) := by
  subst hu
  change execHeatTrip ch s = _
  rw [execHeatTrip, if_pos ⟨hc, hh, by simp [ht]⟩]

/-! ### Spares -/

section
variable {s : State} {fn g : Nat} (hg : g < 48) (ho : s.Opens fn (Page.spare g))
include hg ho

/-- SWAP of a member of the group writes TARGET and begins the copy, where the spare is free of its own test (R126, R132). -/
theorem exec_spareCtrlSwap {u : State} {i : Nat} (hi : i < grpSize g)
    (hu : u = s.p (Page.spare g) F.DRV_SPARE_CTRL_TARGET i) (hb : u.swapBad g i = false) (hs : u.slSt g ≠ 2) :
    exec (.spareCtrlSwap fn g i) s = .next (((u.setSpare g { u.spare g with
      copyTo := some i, forTest := false, owed := none }).p (Page.spare g) F.DRV_SPARE_STATUS_SERVING i).setSp g 1) := by
  subst hu
  have hb' : ¬ (s.p (Page.spare g) F.DRV_SPARE_CTRL_TARGET i).swapBad g i = true := by simp [hb]
  change execSpareCtrlSwap fn g i s = _
  rw [execSpareCtrlSwap, if_pos hg, State.onWrite_of_opens ho]
  dsimp only
  rw [Nat.mod_eq_of_lt hi, State.spareSwapReg, if_neg hb', State.spareGo_of_untested hs]

theorem exec_spareCtrlRelease (hr : s.releaseBadSp g = false) :
    exec (.spareCtrlRelease fn g) s = .next (s.spareReturn g none) := by
  change execSpareCtrlRelease fn g s = _
  rw [execSpareCtrlRelease, if_pos hg, State.onWrite_of_opens ho, State.spareReleaseReg, if_neg (by simp [hr])]

end

/-- The copy to a spare that nothing waits for ends with the switch, and completes the command that asked for it (R122). -/
theorem State.spareCopied_of_swap {s : State} {g : Nat} (hs : s.spState g = 1) (hw : (s.spare g).waiting = [])
    (ht : (s.spare g).forTest = false) :
    s.spareCopied g = (((s.setSpare g { s.spare g with owed := none }).crossbar g (s.serves g) true).setSp g 2).settle
      (s.spare g).owed St.success := by
  simp [State.spareCopied, hs, hw, ht]

/-- A failed datapath in use gives way to its group's free spare; fewer than three errors do not retire it (R123, R569). -/
theorem State.dpFail_of_free {s u : State} {d : Nat}
    (hu : u = s.logIt Cause.datapathError (s.chanOwner (grpChan (dpGroup d).1 (dpGroup d).2))
      (dpGid (dpGroup d).1 (dpGroup d).2) 0)
    (hi : (u.dpErr d).1.dpInUse (dpGroup d).1 (dpGroup d).2 = true) (hs : (u.dpErr d).1.spState (dpGroup d).1 = 0)
    (he : (u.dpErr d).2 < 3) : s.dpFail d = (u.dpErr d).1.spareTake (dpGroup d).1 (dpGroup d).2 := by
  subst hu
  unfold State.dpFail
  dsimp only
  rw [if_neg (Nat.not_le.2 he), if_pos hi, State.dpReplace]
  exact if_pos hs

/-- A spare that fails while it is free serves no channel: it is retired and its state FAILED, and those that wait for it stay
DARK (R126, R570). -/
theorem State.spareFail_of_free {s u : State} {g : Nat} (hs : s.spState g = 0)
    (hu : u = ((s.retire 1 g).logIt Cause.spareFailed 0 (spareGid g) 0).sliceAbandon g) :
    s.spareFail g = (((u.setSpare g { u.spare g with owed := none, copyTo := none, held := [] }).setSp g 6).settle
      (u.spare g).owed St.internalError).loseWaiting g := by
  subst hu
  simp [State.spareFail, hs]

/-! ### Mutes -/

/-- The external mute moves every output's mute, and a change of it is an event (R116, R547). -/
theorem exec_extMuteInput (s : State) (b : Bool) :
    exec (.extMuteInput b) s = .next ((forEach (List.range 160) { s with syn.extMute := b } State.muteStep).when
      (s.syn.extMute ≠ b) (·.publishSrc (if b then 641 else 642))) := rfl

theorem exec_extMuteInput_same (s : State) :
    exec (.extMuteInput s.syn.extMute) s = .next (forEach (List.range 160) s State.muteStep) := by
  rw [exec_extMuteInput, State.when, if_neg (fun hne => hne rfl)]

theorem exec_extMuteInput_change {s : State} {b : Bool} (h : s.syn.extMute = !b) :
    exec (.extMuteInput b) s = .next ((forEach (List.range 160) { s with syn.extMute := b } State.muteStep).publishSrc
      (if b then 641 else 642)) := by
  rw [exec_extMuteInput, State.when, if_pos (by simp [h])]

/-- From 256 ns before the start of its run a partition's outputs are released from their mutes (R117). -/
theorem exec_muteRelease {s : State} {p : Nat} (hp : p < 5) (hs : s.pst p = 2)
    (ht : 16 * (s.prt p).start ≤ (s.cnt p).toNat + 4096) :
    exec (.muteRelease p) s = .next (forEach ((List.range 160).filter (fun n => s.owner n = p))
      (s.setPrt p { s.prt p with unmuted := true }) State.muteStep) := by
  change execMuteRelease p s = _
  rw [execMuteRelease, if_pos ⟨hp, hs, ht⟩]
  rfl

/-- Settles O12: each access, trip, request, copy, failure and mute comes to the operation that it names. -/
theorem driveActions : Obligations.DriveActions := by
  unfold Obligations.DriveActions
  refine ⟨⟨?envWrite, ?envRead⟩, ?tripWrite, ?trip, ?swap, ?release, ?copied, ?dpFailure, ?spFailure,
    ⟨exec_extMuteInput_same, ?muteOn, ?muteOff⟩, ?muteRelease, ?playEnd⟩
  case envWrite =>
    intro s fn q w hq ho hw
    rw [exec_drvEnvDataAccess_write hq ho, State.envData_write hw]
  case envRead =>
    intro s fn q hq ha hw
    rw [exec_drvEnvDataAccess_read hq ha, State.envData_read hw]
  case tripWrite =>
    intro s fn ch hc ho
    exact exec_heatTripWrite hc ho
  case trip =>
    intro s u ch hc hh ht hu
    exact exec_heatTrip hc hh ht hu
  case swap =>
    intro s u fn g i hg ho hi hu hb hs
    exact exec_spareCtrlSwap hg ho hi hu hb hs
  case release =>
    intro s fn g hg ho hr
    exact exec_spareCtrlRelease hg ho hr
  case copied =>
    intro s g hg hs hw ht
    rw [← State.spareCopied_of_swap hs hw ht]
    exact congrArg Host.Outcome.next (if_pos hg)
  case dpFailure =>
    intro s u d hd hm hu hi hs he
    rw [← State.dpFail_of_free hu hi hs he]
    exact congrArg Host.Outcome.next (if_pos ⟨hd, hm⟩)
  case spFailure =>
    intro s u g hg hm hs hu
    rw [← State.spareFail_of_free hs hu]
    exact congrArg Host.Outcome.next (if_pos ⟨hg, hm⟩)
  case muteOn =>
    intro s h
    exact exec_extMuteInput_change h
  case muteOff =>
    intro s h
    exact exec_extMuteInput_change h
  case muteRelease =>
    intro s p hp hs ht
    exact exec_muteRelease hp hs ht
  case playEnd =>
    rintro s lane own rfl
    rfl

end Sys2Proof.Machine
end

section
/-!
PROOFS. The flux chapter: its commands (R147, R150, R151, R158), the commit of a channel's predistortion bank (R148, R159) and
the end of a ramp (R150).
-/

namespace Sys2Proof.Machine
open Sys2Proof

/-! ### The configuration of a channel -/

/-- FLX_CONFIG up to its completion: SPAN, RAMP_EXP, ENABLE, PARK and DELAY are written (R150, R151, R153, R158). -/
def State.flxConfigured (s : State) (p : Pkt) : State :=
  ((((s.flxSpan p.target (wget (p.w 0) 2 1)).p (Page.flx p.target) F.FLX_CTRL_RAMP_EXP (wget (p.w 0) 12 8)).setEnable
    (flxChan p.target) (wget (p.w 0) 0 0)).flxPark p.target (wget (p.w 1) 15 0)).putImg (Page.flx p.target + 0x10) (p.w 2)

/-- A configuration that leaves no ramp in hand completes at once, TARGET_DARK on a dark channel (R158). -/
theorem cFlxConfig_run_of_still {s : State} {p : Pkt}
    (h : (s.flxConfigured p).on (Page.flx p.target) F.FLX_STATUS_RAMPING = false) :
    cFlxConfig.run s p = (s.flxConfigured p).finishDark p ((s.flxConfigured p).chanDark (flxChan p.target)) :=
  if_neg (ne_true_of_eq_false h)

/-! ### The commit of a bank -/

section
variable {s : State} {ch : Nat} (hp : s.on (Page.flx ch) F.FLX_STATUS_COMMIT_PENDING = false) (hb : s.bankOk ch = true)
include hp hb

/-- A valid bank of a channel whose owner does not run takes effect at once (R148). -/
theorem State.bankCommit_of_stopped (hr : s.running (s.flxOwner ch) = false) : s.bankCommit ch = s.bankSwap ch := by
  simp [State.bankCommit, hp, hb, hr]

/-- A valid bank of a channel whose owner runs waits (R148). -/
theorem State.bankCommit_of_running (hr : s.running (s.flxOwner ch) = true) :
    s.bankCommit ch = s.flag (Page.flx ch) F.FLX_STATUS_COMMIT_PENDING := by
  simp [State.bankCommit, hp, hb, hr]

end

theorem exec_flxPdCommit {s : State} {fn ch : Nat} (hc : ch < 128) (ho : s.Opens fn (Page.flx ch + 0x14)) :
    exec (.flxPdCommit fn ch) s = .next (s.bankCommit ch) := by
  change execFlxPdCommit fn ch s = _
  rw [execFlxPdCommit, if_pos hc, State.onWrite_of_opens ho]

/-! ### The end of a ramp -/

/-- A ramp that has made its samples ends at its last value, and completes the command that asked for it (R150). -/
theorem exec_flxRampEnd {s : State} {ch k n : Nat} {x0 x1 : Int} (hr : (s.flx ch).ramp = some (x0, x1, n, k))
    (hn : n ≤ k) :
    exec (.flxRampEnd ch) s = .next (((s.setFlx ch { s.flx ch with ramp := none, x := x1, owed := none }).unflag
      (Page.flx ch) F.FLX_STATUS_RAMPING).settle (s.flx ch).owed
        (if (s.setFlx ch { s.flx ch with ramp := none, x := x1, owed := none }).chanDark (flxChan ch)
          then St.targetDark else St.success)) := by
  change execFlxRampEnd ch s = _
  rw [execFlxRampEnd, hr]
  exact congrArg Host.Outcome.next (if_pos hn)

/-- Settles O13: each command runs to its completion, the commit of a bank takes effect or waits, and a ramp ends. -/
theorem fluxCommands : Obligations.FluxCommands := by
  unfold Obligations.FluxCommands
  refine ⟨?config, ?gain, ?load, ⟨?swap, ?pending⟩, ?rampEnd⟩
  case config =>
    rintro s p y eff h rfl hr
    exact runs_of_plain (c := cFlxConfig) rfl h (cFlxConfig_run_of_still hr)
  case gain =>
    intro s p y h
    exact runs_of_plain (c := cFlxGainSet) rfl h rfl
  case load =>
    intro s p y h
    exact runs_of_plain (c := cFlxPdLoad) rfl h rfl
  case swap =>
    intro s fn ch hc ho hp hb hr
    rw [exec_flxPdCommit hc ho, State.bankCommit_of_stopped hp hb hr]
  case pending =>
    intro s fn ch hc ho hp hb hr
    rw [exec_flxPdCommit hc ho, State.bankCommit_of_running hp hb hr]
  case rampEnd =>
    intro s ch k n x0 x1 hr hn
    exact exec_flxRampEnd hr hn

end Sys2Proof.Machine
end

section
/-!
PROOFS. When an instruction issues (R183, R187, R193, R207, R209, R244), and the slip of one that is late (R210).
-/

namespace Sys2Proof.Machine
open Sys2Proof

/-! ### What a mark and a slip leave -/

/-- A mark changes the partition that it marks, and nothing else. -/
theorem State.markAdd_cases (s : State) (p b n : Nat) :
    s.markAdd p b n = s ∨ ∃ x, s.markAdd p b n = s.setPrt p x := by
  unfold State.markAdd
  dsimp only
  split
  · exact .inr ⟨_, rfl⟩
  · split
    · exact .inr ⟨_, rfl⟩
    · split
      · exact .inr ⟨_, rfl⟩
      · exact .inl rfl

@[simp] theorem State.mark_sqs (s : State) (p b q : Nat) : (s.mark p b).sqs q = s.sqs q := by
  obtain h | ⟨x, h⟩ := s.markAdd_cases p b 0
  · rw [State.mark, h]
  · rw [State.mark, h]
    rfl

@[simp] theorem State.slip_sqs (s : State) (q : Nat) : (s.slip q).sqs q = s.sqs q :=
  (State.mark_sqs _ _ _ _).trans rfl

/-! ### The cases of an attempt, in their order -/

section
variable {s : State} {q : Nat} {w : W64}

theorem State.issue_of_cannot (hc : s.canIssue q = false) (op : Nat) (body : State → W64 → Nat → Nat → Res) :
    s.issue q op body = s := by
  simp [State.issue, hc]

/-- A sequencer under no REPEAT attempts the instruction at its address. -/
theorem State.issue_of_can (hc : s.canIssue q = true) (hr : (s.sqs q).rep = none) (op : Nat)
    (body : State → W64 → Nat → Nat → Res) : s.issue q op body = s.issue1 q op body := by
  simp [State.issue, hc, hr]

theorem State.issue1_of_beyond (hi : s.imgLen q ≤ (s.sqs q).pc) (op : Nat) (body : State → W64 → Nat → Nat → Res) :
    s.issue1 q op body = s.seqError q (s.sqs q).pc (s.tk (s.seqOwner q)) :=
  if_pos hi

/-- A word that is not resident: a fetch outside a region (R183), a miss inside one (R187). -/
theorem State.issue1_of_absent (hi : (s.sqs q).pc < s.imgLen q) (hw : s.iword q (s.sqs q).pc = none) (op : Nat)
    (body : State → W64 → Nat → Nat → Res) :
    s.issue1 q op body = if (s.sqs q).inside then s.regionMiss q (s.tk (s.seqOwner q))
      else s.fetchWait q (s.tk (s.seqOwner q)) := by
  simp [State.issue1, Nat.not_le.2 hi, hw]

section
variable (hi : (s.sqs q).pc < s.imgLen q) (hw : s.iword q (s.sqs q).pc = some w) (hr : (s.sqs q).rep = none)
include hi hw

/-- The target of a taken jump request must be a SEGMENT (R193). -/
theorem State.issue1_of_badVector (hv : (s.sqs q).vec = true) (ho : opc w ≠ 2) (op : Nat)
    (body : State → W64 → Nat → Nat → Res) :
    s.issue1 q op body = s.seqError q (s.sqs q).pc (s.tk (s.seqOwner q)) := by
  simp [State.issue1, Nat.not_le.2 hi, hw, hv, ho]

include hr
variable (hv : (s.sqs q).vec = true → opc w = 2)
include hv

/-- Beyond the lead the sequencer waits (R209). -/
theorem State.issue1_of_early (hl : (s.sqs q).leads w (s.tk (s.seqOwner q)) = false) (op : Nat)
    (body : State → W64 → Nat → Nat → Res) : s.issue1 q op body = s := by
  have hv' : ¬ ((s.sqs q).vec = true ∧ opc w ≠ 2) := fun ⟨h, hn⟩ => hn (hv h)
  simp only [State.issue1, if_neg (Nat.not_le.2 hi), hw, if_neg hv', hr, hl]
  rfl

/-- An ill-formed word is an instruction error (R244). -/
theorem State.issue1_of_illFormed (hl : (s.sqs q).leads w (s.tk (s.seqOwner q)) = true)
    (hf : wordOk (isRs q) w = false) (op : Nat) (body : State → W64 → Nat → Nat → Res) :
    s.issue1 q op body = s.seqError q (s.sqs q).pc (s.tk (s.seqOwner q)) := by
  have hv' : ¬ ((s.sqs q).vec = true ∧ opc w ≠ 2) := fun ⟨h, hn⟩ => hn (hv h)
  simp only [State.issue1, if_neg (Nat.not_le.2 hi), hw, if_neg hv', hr, hl, hf]
  rfl

end

/-- An instruction after its latest tick slips: it executes now, and its timeline tick is 92 ticks later (R210). -/
theorem State.issue1_of_late {op : Nat} {y : Seq} (hi : (s.sqs q).pc < s.imgLen q)
    (hw : s.iword q (s.sqs q).pc = some w) (ho : opc w = op) (h2 : op ≠ 2) (hf : wordOk (isRs q) w = true)
    (hr : (s.sqs q).rep = none) (hv : (s.sqs q).vec = false) (ha : (s.sqs q).atAbort = false)
    (hl : (s.sqs q).leads w (s.tk (s.seqOwner q)) = true) (ht : (s.sqs q).tau < s.tk (s.seqOwner q) + 92)
    (hy : y = { ((s.slip q).seqOn q).shift (s.sqs q).tau (s.tk (s.seqOwner q) + 92 - (s.sqs q).tau) with
      tau := s.tk (s.seqOwner q) + 92 }) (body : State → W64 → Nat → Nat → Res) :
    s.issue1 q op body = ((s.slip q).setSq q y).after q (s.sqs q).pc (s.tk (s.seqOwner q)) none
      (body ((s.slip q).setSq q y) w (s.tk (s.seqOwner q)) (s.tk (s.seqOwner q) + 92)) := by
  subst hy
  simp [State.issue1, Nat.not_le.2 hi, hw, ho, h2, hf, hr, hv, ha, hl, ht, State.seqOn, Seq.shift]

end

/-- Settles O59: the cases in which nothing executes, each by the check that stops it, and the slip. -/
theorem instructionIssue : Obligations.InstructionIssue := by
  unfold Obligations.InstructionIssue
  refine ⟨?cannot, ?stops, ?slips⟩
  case cannot =>
    intro s q op body hc
    exact State.issue_of_cannot hc op body
  case stops =>
    intro s q op body hc hr
    rw [State.issue_of_can hc hr]
    refine ⟨?beyond, ?fetch, ?miss, ?illFormed, ?early, ?badVector⟩
    case beyond =>
      intro hi
      exact State.issue1_of_beyond hi op body
    case fetch =>
      intro hi hw hx
      rw [State.issue1_of_absent hi hw, hx, if_neg Bool.false_ne_true]
    case miss =>
      intro hi hw hx
      rw [State.issue1_of_absent hi hw, if_pos hx]
    case illFormed =>
      intro w hi hw hv hl hf
      exact State.issue1_of_illFormed hi hw hr hv hl hf op body
    case early =>
      intro w hi hw hv hl
      exact State.issue1_of_early hi hw hr hv hl op body
    case badVector =>
      intro w hi hw hv ho
      exact State.issue1_of_badVector hi hw hv ho op body
  case slips =>
    intro s q op w body hc hi hw ho h2 hf hr hv ha hl ht y hy
    rw [State.issue_of_can hc hr]
    exact State.issue1_of_late hi hw ho h2 hf hr hv ha hl ht hy body

end Sys2Proof.Machine
end

section
/-!
PROOFS. Sequencer commands (R199), jump requests (R192), and the arm, stop and abort of a partition (R171, R697).
-/

namespace Sys2Proof.Machine
open Sys2Proof

/-! ### Sequencer commands and jump requests -/

theorem cSeqImageLoad_run (s : State) (p : Pkt) : cSeqImageLoad.run s p
    = s.withData p (8 * p.n 3) (fun s b => s.memWrite (s.imgAddr p.target + 8 * p.n 2) b) := rfl

theorem exec_seqJumpReq {s : State} {fn q vec : Nat} (hq : q < 160) (hv : vec < 8) (ho : s.Opens fn (Page.seq q + 0x60)) :
    exec (.seqJumpReq fn q vec) s = .next (s.jumpRequest q vec) := by
  change execSeqJumpReq fn q vec s = _
  rw [execSeqJumpReq, if_pos hq, State.onWrite_of_opens ho, Nat.mod_eq_of_lt hv]

/-- Settles O18: each command runs to its completion, and a jump request by register reaches its sequencer. -/
theorem sequencerCommands : Obligations.SequencerCommands := by
  unfold Obligations.SequencerCommands
  refine ⟨?config, ?image, ⟨?jump, ?jumpReq⟩, ?vector, ?marker⟩
  case config =>
    intro s p y h
    exact runs_of_plain (c := cSeqConfig) rfl h rfl
  case image =>
    intro s p y b h hb
    refine runs_of_plain (c := cSeqImageLoad) rfl h ?_
    rw [cSeqImageLoad_run, State.withData_of_data hb]
    rfl
  case jump =>
    intro s p y h
    exact runs_of_plain (c := cSeqJump) rfl h rfl
  case jumpReq =>
    intro s fn q vec hq hv ho
    exact exec_seqJumpReq hq hv ho
  case vector =>
    intro s p y h
    exact runs_of_plain (c := cSeqVectorSet) rfl h rfl
  case marker =>
    intro s p y h
    exact runs_of_plain (c := cSeqMarkerMap) rfl h rfl

/-! ### Requests to a partition -/

theorem State.partArmReg_of_accepted {s : State} {p : Nat}
    (h : s.armRefusal p (s.g64 (Page.part p) F.PART_START_LO) (s.g (Page.part p) F.PART_BARRIER_LAT_LAT) = none) :
    s.partArmReg p = s.arm p (s.g64 (Page.part p) F.PART_START_LO) none := by
  simp [State.partArmReg, h]

/-- A stop of a RUNNING partition drains it (R171). -/
theorem State.partStop_of_running {s : State} {p : Nat} (h : s.pst p = 3) : s.partStop p = s.setPst p 4 := by
  simp [State.partStop, h]

/-- A stop before the start of the run ends the arming (R171). -/
theorem State.partStop_of_arming {s : State} {p : Nat} (h : s.pst p = 1 ∨ s.pst p = 2) :
    s.partStop p = s.toIdle p St.aborted := by
  rcases h with h | h <;> simp [State.partStop, h]

/-- PART_STOP of a partition that drains is owed its completion (R199). -/
theorem cPartStop_run_of_draining {s u : State} {p : Pkt} (hs : s.pst p.target = 3) (hu : u = s.setPst p.target 4)
    (hi : u.idle p.target = false) :
    cPartStop.run s p = u.setPrt p.target { u.prt p.target with
      stopOwed := (u.prt p.target).stopOwed ++ [(p.sq, p.tag)] } := by
  subst hu
  rw [← State.partStop_of_running hs] at hi ⊢
  exact if_neg (by simp [hi])

section
variable {s : State} {fn p : Nat} (hp : p < 5) (ho : s.Opens fn (Page.part p + 4))
include hp ho

theorem exec_partCtrlArm : exec (.partCtrlArm fn p) s = .next (s.partArmReg p) := by
  change execPartCtrlArm fn p s = _
  rw [execPartCtrlArm, if_pos hp, State.onWrite_of_opens ho]

theorem exec_partCtrlStop : exec (.partCtrlStop fn p) s = .next (s.partStop p) := by
  change execPartCtrlStop fn p s = _
  rw [execPartCtrlStop, if_pos hp, State.onWrite_of_opens ho]

theorem exec_partCtrlAbort : exec (.partCtrlAbort fn p) s = .next (s.partAbort p) := by
  change execPartCtrlAbort fn p s = _
  rw [execPartCtrlAbort, if_pos hp, State.onWrite_of_opens ho]

end

/-- Settles O19: PART_ABORT runs to its completion, PART_ARM and PART_STOP to the request that completes them later, and the
requests by register to the operation that they name. -/
theorem partitionCommands : Obligations.PartitionCommands := by
  unfold Obligations.PartitionCommands
  refine ⟨⟨?arm, ?ctrlArm⟩, ⟨?stop, ?ctrlStopRunning, ?ctrlStopArming⟩, ?abort, ?ctrlAbort⟩
  case arm =>
    intro s p y h
    exact congrArg Host.Outcome.next (command_inHand (c := cPartArm) h)
  case ctrlArm =>
    intro s fn p hp ho hr
    rw [exec_partCtrlArm hp ho, State.partArmReg_of_accepted hr]
  case stop =>
    intro s p y h hs hi
    rw [← cPartStop_run_of_draining hs rfl hi]
    exact congrArg Host.Outcome.next (command_inHand (c := cPartStop) h)
  case ctrlStopRunning =>
    intro s fn p hp ho hs
    rw [exec_partCtrlStop hp ho, State.partStop_of_running hs]
  case ctrlStopArming =>
    intro s fn p hp ho hs
    rw [exec_partCtrlStop hp ho, State.partStop_of_arming hs]
  case abort =>
    intro s p y h
    exact runs_of_plain (c := cPartAbort) rfl h rfl
  case ctrlAbort =>
    intro s fn p hp ho
    exact exec_partCtrlAbort hp ho

end Sys2Proof.Machine
end

section
/-!
PROOFS. The run of a partition: its arming, cut and start (R171, R173, R696), refills (R181, R183), barriers (R174, R178),
region aborts (R189), taken jumps (R193), marker pulses (R195), timeline effects (R207, R211) and waits on conditions (R236).
-/

namespace Sys2Proof.Machine
open Sys2Proof

/-! ### Arming and start -/

theorem exec_armingComplete {s : State} {p : Nat} (hp : p < 5) (hs : s.pst p = 1) (ha : s.armedReady p = true)
    (ht : s.tk p < (s.prt p).start) :
    exec (.armingComplete p) s = .next (((forEach (s.members p) (s.setPrt p { s.prt p with armOwed := none })
      (fun s q => s.setSq q { s.sqs q with st := 1 })).setPst p 2).settle (s.prt p).armOwed St.success) := by
  change execArmingComplete p s = _
  exact congrArg Host.Outcome.next (if_pos (by simp [hp, hs, ha, ht]))

theorem exec_runStartCut {s : State} {p : Nat} (hp : p < 5) (hs : s.pst p = 2) (hc : (s.prt p).cut = false)
    (ht : (s.prt p).start ≤ s.tk p + 1024) : exec (.runStartCut p) s = .next (s.runCut p) := by
  change execRunStartCut p s = _
  exact congrArg Host.Outcome.next (if_pos (by simp [hp, hs, hc, ht]))

/-- On the start tick an arming that is not complete fails (R171). -/
theorem State.runStart_of_arming {s : State} {p : Nat} (hs : s.pst p = 1) :
    s.runStart p = (s.toIdle p St.startMissed).flag (Page.part p) F.PART_STATE_START_MISSED :=
  if_pos hs

/-- On the start tick an ARMED partition whose run has been cut starts its run, in `u`, and its first shot (R171, R174). -/
theorem State.runStart_of_armed {s u : State} {p : Nat} (hs : s.pst p = 2) (hc : (s.prt p).cut = true)
    (hu : u = (((s.p (Page.td p) F.TD_STATE_EPOCH ((s.epoch p + 1) % 16)).pairsRestart p).setPst p 3).publishSrc (643 + p)) :
    s.runStart p = (u.setPrt p { u.prt p with firstShot := false, bcnt := (u.prt p).bcnt.set 0 0 1 }).shotBegin
      p (s.prt p).start := by
  subst hu
  have h1 : ¬ s.pst p = 1 := by omega
  unfold State.runStart
  dsimp only
  rw [if_neg h1, if_pos hs, if_pos hc]

theorem exec_startTime_arming {s : State} {p : Nat} (hp : p < 5) (hs : s.pst p = 1) (ht : (s.prt p).start ≤ s.tk p) :
    exec (.startTime p) s = .next (s.runStart p) := by
  change execStartTime p s = _
  simp [execStartTime, hp, hs, ht]

theorem exec_startTime_armed {s : State} {p : Nat} (hp : p < 5) (hs : s.pst p = 2) (ht : (s.prt p).start ≤ s.tk p) :
    exec (.startTime p) s = .next ((s.runStart p).acqEpoch p) := by
  change execStartTime p s = _
  simp [execStartTime, hp, hs, ht]

/-! ### Refills -/

/-- A window that comes into a half changes the halves of its sequencer only. -/
theorem State.loadWin_sqs (s : State) (q h w : Nat) :
    (s.loadWin q h w).sqs q = (s.sqs q).setHalf h ⟨some w, none, false⟩ := by
  simp only [State.loadWin, State.sqs, State.bump_sqr]
  exact State.setSq_sqs _ q _

@[simp] theorem Seq.setHalf_st (x : Seq) (h : Nat) (v : Half) : (x.setHalf h v).st = x.st := by
  unfold Seq.setHalf
  split <;> rfl

@[simp] theorem Seq.setHalf_entering (x : Seq) (h : Nat) (v : Half) : (x.setHalf h v).entering = x.entering := by
  unfold Seq.setHalf
  split <;> rfl

/-- A refill for which neither a fetch nor a region entry waits, of a partition that has not been cut, brings the window
(R181). -/
theorem exec_refillComplete {s : State} {q h w : Nat} (hf : ((s.sqs q).half h).fill = some w)
    (hu : ((s.sqs q).half h).susp = false) (hb : s.winBad q w = false) (hs : (s.sqs q).st ≠ 7)
    (he : (s.sqs q).entering = false) (hp : (s.loadWin q h w).pst (s.seqOwner q) < 2) :
    exec (.refillComplete q h) s = .next (s.loadWin q h w) := by
  change execRefillComplete q h s = _
  simp [execRefillComplete, hf, hu, hb, State.loadWin_sqs, hs, he, Nat.not_le.2 hp]

/-! ### Barriers and aborts -/

theorem exec_barrierNotice {s : State} {p : Nat} (hp : p < 5) (hr : s.running p = true) :
    exec (.barrierNotice p) s = .next (s.learnAll p) := by
  change execBarrierNotice p s = _
  simp [execBarrierNotice, hp, hr]

/-- The one barrier that is due releases. -/
theorem exec_barrierRelease {s : State} {p t : Nat} {b : Bar} (hp : p < 5) (hr : s.running p = true)
    (hd : s.dueBars p = [(b, t)]) : exec (.barrierRelease p) s = .next (s.barGo p b t) := by
  change execBarrierRelease p s = _
  simp [execBarrierRelease, hp, hr, hd]

theorem exec_barrierTimeout {s : State} {p : Nat} (hp : p < 5) (hr : s.running p = true) (ht : s.barTimedOut p = true) :
    exec (.barrierTimeout p) s = .next (((s.flag (Page.part p) F.PART_STATE_BARRIER_TIMEOUT).logIt Cause.barrierTimeout p
      (gid 16 (1024 + p)) 0).runAbort p 4 6 St.aborted) := by
  change execBarrierTimeout p s = _
  simp [execBarrierTimeout, hp, hr, ht]

theorem exec_regionAbortReceive {s : State} {q r : Nat} (ha : (s.sqs q).abortIn = some r) (hr : (s.sqs q).rep = none)
    (ht : r ≤ s.tk (s.seqOwner q)) :
    exec (.regionAbortReceive q) s = .next (s.regionAbort q (s.tk (s.seqOwner q))) := by
  change execRegionAbortReceive q s = _
  simp [execRegionAbortReceive, ha, hr, ht]

/-! ### A taken jump -/

/-- What a decision point samples is settled by the request latched, the regions and the REPEATs. -/
theorem Seq.jumpDue_congr {x y : Seq} (hj : x.jump = y.jump) (hr : x.region = y.region) (he : x.entering = y.entering)
    (hb : x.regBeg = y.regBeg) (hl : x.left = y.left) (hp : x.reps = y.reps) (t : Nat) : x.jumpDue t = y.jumpDue t := by
  unfold Seq.jumpDue Seq.inRegionAt Seq.inRepeat
  rw [hj, hr, he, hb, hl, hp]

/-- A SEGMENT met at the declared end of the segment in progress takes the request that its decision point sampled (R193). -/
theorem State.segment_of_jumpDue {s : State} {q l t v : Nat} (hs : (s.sqs q).seg = some (l, some t))
    (hj : (s.sqs q).jumpDue t = some v) (e : Nat) (w : W64) : s.segment q e t w = s.takeJump q v := by
  simp [State.segment, State.when, State.jumpNow, hs, hj]

/-- The sequencer goes on to the vector of the request, where a SEGMENT must stand (R193). -/
theorem exec_jumpTaken {s u : State} {q v t l : Nat} {w : W64} {y : Seq} (h : s.Issues q 0x02 w)
    (hs : (s.sqs q).seg = some (l, some t)) (ht : (s.sqs q).tau ≤ t) (hf : (s.sqs q).first = false)
    (hj : (s.sqs q).jumpDue t = some v)
    (hy : y = { s.seqOn q with tau := t, jump := none, loops := [], sub := [], seg := none, vec := true })
    (hu : u = (s.setSq q y).bump (Page.seq q) F.SEQ_JUMPS) :
    exec (.jumpTaken q) s = .next ((u.setSq q { y with ready := s.tk (s.seqOwner q) + 3 }).goto q
      (u.g (Page.seq q + 4 * v) F.SEQ_JUMP_VEC_VECTOR)) := by
  have hn : (s.jumpNow q).isSome = true := by simp [State.jumpNow, hs, hj]
  have hb : (s.setSq q { s.seqOn q with tau := t }).segment q (s.tk (s.seqOwner q)) t w
      = .go u (some (u.g (Page.seq q + 4 * v) F.SEQ_JUMP_VEC_VECTOR)) 3 0 := by
    have hs' : ((s.setSq q { s.seqOn q with tau := t }).sqs q).seg = some (l, some t) := by rw [State.setSq_sqs]; exact hs
    have hj' : ((s.setSq q { s.seqOn q with tau := t }).sqs q).jumpDue t = some v := by
      rw [State.setSq_sqs]
      exact (Seq.jumpDue_congr rfl rfl rfl rfl rfl rfl t).trans hj
    rw [State.segment_of_jumpDue hs' hj', hu, hy]
    unfold State.takeJump
    dsimp only
    rw [State.setSq_sqs, State.setSq_setSq _ _ _ _ (show (2 : Nat) ≠ 0 by decide)]
  have hx : u.sqs q = y := by
    rw [hu]
    exact State.setSq_sqs s q y
  change execJumpTaken q s = _
  rw [execJumpTaken, if_pos hn, issue_segment h hs ht hf, hb]
  simp [State.after, hx]

/-! ### Marker pulses and timeline effects -/

theorem exec_markerPulseEnd {s : State} {q b : Nat} (hm : (s.sqs q).mark.get 0 b ≠ 0)
    (ht : (s.sqs q).mark.get 0 b ≤ s.tk (s.seqOwner q)) :
    exec (.markerPulseEnd q b) s = .next (s.setSq q { s.sqs q with mark := (s.sqs q).mark.set 0 b 0 }) := by
  change execMarkerPulseEnd q b s = _
  exact congrArg Host.Outcome.next (if_pos ⟨hm, ht⟩)

/-- Where no effect waits, none takes place. -/
theorem State.applyDue_of_nil {s : State} {q : Nat} (h : (s.sqs q).eff = []) :
    s.applyDue q = s.setSq q { s.sqs q with eff := [] } := by
  simp [State.applyDue, h, effSort]

/-- The one effect that waits, due by now, takes place. -/
theorem State.applyDue_of_single {s : State} {q t : Nat} {f : Eff} (h : (s.sqs q).eff = [(t, f)])
    (ht : t ≤ s.tk (s.seqOwner q)) : s.applyDue q = (s.setSq q { s.sqs q with eff := [] }).applyEff q t f := by
  simp [State.applyDue, h, ht, Nat.not_lt.2 ht, effSort, effIns]

/-- A phase update that is the one effect waiting changes its oscillator, and no other and no register (R75, R207). -/
theorem exec_timelineEffect_phaseAdd {s : State} {q t slot off v : Nat}
    (h : (s.sqs q).eff = [(t, .phaseAdd slot off v)]) (ht : t ≤ s.tk (s.seqOwner q)) :
    ∃ x, x.eff = [] ∧ exec (.timelineEffect q) s = .next (((s.setSq q { s.sqs q with eff := [] }).setOsc (slotKey q slot)
      ((s.osc (slotKey q slot)).change (16 * t + off) (s.osc (slotKey q slot)).f
        (addPhase (s.osc (slotKey q slot)).p v))).setSq q x) := by
  refine ⟨{ s.sqs q with eff := [] }, rfl, ?_⟩
  have hx : ((s.applyDue q).sqs q) = { s.sqs q with eff := [] } := by
    rw [State.applyDue_of_single h ht]
    exact State.setSq_sqs s q _
  change Host.Outcome.next ((s.applyDue q).applyDue q) = _
  rw [State.applyDue_of_nil (congrArg Seq.eff hx), hx, State.applyDue_of_single h ht]
  rfl

/-! ### Waits on conditions -/

theorem exec_waitCondResolve {s : State} {q : Nat} {c : Wc} (hc : (s.sqs q).wc = some c)
    (ha : (s.sqs q).allSet c.mask = true)
    (ht : ∀ t, c.tmo = some t → (s.sqs q).raisedAt c.mask + 100 ≤ c.tw + t) :
    exec (.waitCondResolve q) s
      = .next (s.condResolve q c ((s.sqs q).condTick c) (s.tk (s.seqOwner q))) := by
  change execWaitCondResolve q s = _
  cases hm : c.tmo with
  | none => simp [execWaitCondResolve, hc, ha, hm]
  | some t => simp [execWaitCondResolve, hc, ha, hm, ht t hm]

theorem exec_waitCondTimeout {s : State} {q t : Nat} {c : Wc} (hc : (s.sqs q).wc = some c) (hm : c.tmo = some t)
    (hd : c.tw + t ≤ s.tk (s.seqOwner q) + 100)
    (hn : (s.sqs q).allSet c.mask = false ∨ c.tw + t < (s.sqs q).raisedAt c.mask + 100) :
    exec (.waitCondTimeout q) s = .next ((s.setSq q { s.sqs q with
      wc := none, st := 2, timeout := true, mtch := false, tau := c.tw + t
      ready := max (s.sqs q).ready (s.tk (s.seqOwner q)) }).goto q c.next) := by
  have hn' : ¬ ((s.sqs q).allSet c.mask = true ∧ (s.sqs q).raisedAt c.mask + 100 ≤ c.tw + t) := by
    rintro ⟨ha, hr⟩
    rcases hn with hn | hn
    · rw [hn] at ha
      cases ha
    · omega
  change execWaitCondTimeout q s = _
  simp only [execWaitCondTimeout, hc, hm]
  exact congrArg Host.Outcome.next (if_pos ⟨hd, hn'⟩)

/-- Settles O20: each event of a run comes to the operation that it names. -/
theorem runOfAPartition : Obligations.RunOfAPartition := by
  unfold Obligations.RunOfAPartition
  refine ⟨?arming, ?cut, ⟨?start, ?missed⟩, ?refill, ?notice, ?release, ?timeout, ?regionAbort, ?jump, ?marker,
    ⟨fun s q => rfl, ?phaseAdd⟩, ?resolve, ?condTimeout⟩
  case arming =>
    intro s p hp hs ha ht
    exact exec_armingComplete hp hs ha ht
  case cut =>
    intro s p hp hs hc ht
    exact exec_runStartCut hp hs hc ht
  case start =>
    intro s u p hp hs hc ht hu
    rw [exec_startTime_armed hp hs ht, State.runStart_of_armed hs hc hu]
  case missed =>
    intro s p hp hs ht
    rw [exec_startTime_arming hp hs ht, State.runStart_of_arming hs]
  case refill =>
    intro s q h w hf hu hb hs he hp
    exact exec_refillComplete hf hu hb hs he hp
  case notice =>
    intro s p hp hr
    exact exec_barrierNotice hp hr
  case release =>
    intro s p t b hp hr hd
    exact exec_barrierRelease hp hr hd
  case timeout =>
    intro s p hp hr ht
    exact exec_barrierTimeout hp hr ht
  case regionAbort =>
    intro s q r ha hr ht
    exact exec_regionAbortReceive ha hr ht
  case jump =>
    rintro s u q v t l a w y h hs ht hf hj hy hu rfl
    exact exec_jumpTaken h hs ht hf hj hy hu
  case marker =>
    intro s q b hm ht
    exact exec_markerPulseEnd hm ht
  case phaseAdd =>
    rintro s q t slot off v k h ht rfl
    obtain ⟨x, hx, he⟩ := exec_timelineEffect_phaseAdd h ht
    refine ⟨_, he, State.setOsc_osc_self _ _ _, ?_, rfl, fun j hj => State.setOsc_osc_ne _ _ hj⟩
    rw [State.setSq_sqs, hx]
  case resolve =>
    intro s q c hc ha ht
    exact exec_waitCondResolve hc ha ht
  case condTimeout =>
    intro s q t c hc hm hd hn
    exact exec_waitCondTimeout hc hm hd hn

end Sys2Proof.Machine
end

section
/-!
PROOFS. The timeline, barrier, region and control-flow instructions (R216 to R221, R227 to R232, R235, R236, R238): what the body
of each gives on a sequencer that stands in a known state, and with `Laws/Issue.lean` what its execution comes to.
-/

namespace Sys2Proof.Machine
open Sys2Proof

/-! ### The sequencer in which an instruction executes -/

/-- RUNNING of SEQ_STATUS.STATE is not IDLE. -/
theorem running_ne_idle : (2 : Nat) ≠ 0 := Nat.succ_ne_zero 1

section
variable (s : State) (q : Nat)

@[simp] theorem State.seqOn_pc : (s.seqOn q).pc = (s.sqs q).pc := rfl
@[simp] theorem State.seqOn_first : (s.seqOn q).first = (s.sqs q).first := rfl
@[simp] theorem State.seqOn_inside : (s.seqOn q).inside = (s.sqs q).inside := rfl
@[simp] theorem State.seqOn_sub : (s.seqOn q).sub = (s.sqs q).sub := rfl
@[simp] theorem State.seqOn_loops : (s.seqOn q).loops = (s.sqs q).loops := rfl
@[simp] theorem State.seqOn_vu (i : Nat) : (s.seqOn q).vu i = ((s.sqs q).v.get 0 i).toNat := rfl
@[simp] theorem State.seqOn_cond (c : Nat) : (s.seqOn q).cond c = (s.sqs q).cond c := rfl
@[simp] theorem State.seqOn_allSet (m : Nat) : (s.seqOn q).allSet m = (s.sqs q).allSet m := rfl
@[simp] theorem State.seqOn_matches (m p : Nat) : (s.seqOn q).matches_ m p = (s.sqs q).matches_ m p := rfl

@[simp] theorem State.setSq_seqOn_setSq (y : Seq) : (s.setSq q (s.seqOn q)).setSq q y = s.setSq q y :=
  s.setSq_setSq q _ y running_ne_idle

end

/-! ### How an execution ends -/

/-- An instruction that goes on moves the timeline and the execution tick of the state it leaves, and the PC (R207). -/
theorem after_goto {s0 : State} {q : Nat} {dur : Nat} (hd : (s0.sqs q).first = false ∨ dur = 0) (t : State)
    (a e n cost : Nat) : s0.after q a e none (.go t (some n) cost dur)
      = (t.setSq q { t.sqs q with tau := (t.sqs q).tau + dur, ready := e + cost }).goto q n := by
  have hd' : ¬ ((s0.sqs q).first = true ∧ dur ≠ 0) := by
    rcases hd with hd | hd <;> simp [hd]
  exact if_neg hd'

/-- An instruction after which its sequencer waits. -/
theorem issue_held {s t : State} {q op : Nat} {w : W64} {body : State → W64 → Nat → Nat → Res} (h : s.Issues q op w)
    (h2 : op ≠ 2) (hb : body (s.setSq q (s.seqOn q)) w (s.tk (s.seqOwner q)) (s.sqs q).tau = .held t) :
    s.issue q op body = t := by
  rw [issue_eq h h2, hb]
  rfl

/-! ### The next address -/

@[simp] theorem State.setSq_nextA (s : State) (q : Nat) (x : Seq) : (s.setSq q x).nextA q = some (x.pc + 1) := by
  simp [State.nextA]

@[simp] theorem State.setSq_target (s : State) (q : Nat) (x : Seq) (a : Nat) : (s.setSq q x).target q a = s.target q a :=
  rfl

theorem State.target_of_lt {s : State} {q a : Nat} (h : a < s.imgLen q) : s.target q a = some a :=
  if_neg (Nat.not_le.2 h)

/-- A relative target within the image (R213). -/
theorem relTarget_target {s : State} {q pc a : Nat} {off : Int} (ha : (pc : Int) + off = a) (h : a < s.imgLen q) :
    (relTarget pc off).bind (s.target q) = some a := by
  have hr : relTarget pc off = some a := by
    rw [relTarget, ha, if_neg (by omega), Int.toNat_natCast]
  rw [hr]
  exact State.target_of_lt h

/-- The body of an instruction that changes only its sequencer. -/
theorem State.setSq_alu (s : State) (q : Nat) {x : Seq} (hx : x.st ≠ 0) (f : Seq → Seq) :
    (s.setSq q x).alu q f = .go (s.setSq q (f x)) (some ((f x).pc + 1)) 1 0 := by
  unfold State.alu
  dsimp only
  rw [State.setSq_sqs, State.setSq_setSq _ _ _ _ hx, State.setSq_nextA]

/-! ### Segments -/

theorem State.when_of_not {c : Prop} [Decidable c] (h : ¬ c) (s : State) (f : State → State) : s.when c f = s :=
  if_neg h

/-- A flag of a register and the state of a sequencer are set in either order. -/
theorem State.when_flag_setSq (s : State) (c : Prop) [Decidable c] (pg : Nat) (f : Fld) (q : Nat) (x : Seq) :
    (s.setSq q x).when c (·.flag pg f) = (s.when c (·.flag pg f)).setSq q x := by
  unfold State.when
  split <;> rfl

/-- SEGMENT within the declared end of the segment before it, with no jump request latched: a new segment begins
(R166, R217). -/
theorem State.segment_of_noJump (s : State) {q τ : Nat} {x : Seq} (hx : x.st ≠ 0) (hj : x.jump = none)
    (hs : ∀ b d, x.seg = some (b, some d) → τ ≤ d) (e : Nat) (w : W64) : (s.setSq q x).segment q e τ w
      = .go ((s.when (ifld w 19 0 ≠ 0 ∧ ifld w 19 0 < 16) (·.flag (Page.seq q) F.SEQ_STATUS_SEG_SHORT)).setSq q
        { x.forget e with
          seg := some (τ, if ifld w 19 0 = 0 then none else some (τ + max 16 (ifld w 19 0)))
          eff := x.eff ++ [(τ, .seg (ifld w 23 20))] }) (some (x.pc + 1)) 1 0 := by
  have hnow : (s.setSq q x).jumpNow q = none := by
    unfold State.jumpNow
    rw [State.setSq_sqs]
    split
    · simp [Seq.jumpDue, hj]
    · rfl
  unfold State.segment
  dsimp only
  rw [State.setSq_sqs, State.when_of_not (c := _ = true) ?past, hnow]
  · dsimp only
    rw [State.when_flag_setSq, State.setSq_sqs, State.setSq_setSq _ _ _ _ hx, setSq_later _ _ _ _ _ ?st,
      State.setSq_nextA]
    · rfl
    case st => exact hx
  case past =>
    split
    next b d h => simpa using hs b d h
    next => exact Bool.false_ne_true

/-- The execution of such a SEGMENT, at the later of its stream's tick and the declared end before it. -/
theorem issue_segment_begin {s : State} {q l t : Nat} {w : W64} (h : s.Issues q 2 w) (hl : l = ifld w 19 0)
    (ht : t = max (s.sqs q).tau (s.sqs q).segEnd)
    (hs : ∀ b d, (s.sqs q).seg = some (b, some d) → (s.sqs q).tau ≤ d ∧ ((s.sqs q).first = false ∨ d = (s.sqs q).tau))
    (hj : (s.sqs q).jump = none) :
    s.issue q 2 (fun s w e τ => s.segment q e τ w)
      = ((s.when (l ≠ 0 ∧ l < 16) (·.flag (Page.seq q) F.SEQ_STATUS_SEG_SHORT)).setSq q
        { s.seqOn q with
          tau := t, left := (s.sqs q).left.filter (fun g => s.tk (s.seqOwner q) < g.fin)
          reps := (s.sqs q).reps.filter (fun r => s.tk (s.seqOwner q) < r.2)
          seg := some (t, if l = 0 then none else some (t + max 16 l))
          eff := (s.sqs q).eff ++ [(t, .seg (ifld w 23 20))], ready := s.tk (s.seqOwner q) + 1 }).goto q
        ((s.sqs q).pc + 1) := by
  have hend : ∀ b d, (s.sqs q).seg = some (b, some d) → (s.sqs q).segEnd = d := by
    intro b d hseg
    simp [Seq.segEnd, hseg]
  have hfirst : (s.sqs q).first = false ∨ (s.sqs q).segEnd ≤ (s.sqs q).tau := by
    match hseg : (s.sqs q).seg with
    | none => simp [Seq.segEnd, hseg]
    | some (b, none) => simp [Seq.segEnd, hseg]
    | some (b, some d) => exact (hs b d hseg).2.imp_right fun hd => Nat.le_of_eq ((hend b d hseg).trans hd)
  have hle : ∀ b d, (s.sqs q).seg = some (b, some d) → t ≤ d := by
    intro b d hseg
    rw [ht, hend b d hseg]
    exact Nat.max_le.2 ⟨(hs b d hseg).1, Nat.le_refl d⟩
  subst hl
  rw [issue_segment_at h ht.symm hfirst,
    State.segment_of_noJump s (x := { s.seqOn q with tau := t }) running_ne_idle hj hle, after_goto (.inr rfl),
    State.setSq_sqs, State.setSq_setSq _ _ _ _ running_ne_idle]
  rfl

/-! ### Barriers and regions -/

/-- A barrier instruction after the first SHOT_START arrives at its barrier and waits there (R218). -/
theorem State.barrier_of_started (s : State) {q : Nat} {x : Seq} (hx : x.st ≠ 0) (hf : x.first = false)
    (k e τ : Nat) (ready : Bool) : (s.setSq q x).barrier q k e τ ready
      = .held (((s.setSq q { x with st := 3, ready := e + 1 }).arrive q k τ ready).goto q (x.pc + 1)) := by
  unfold State.barrier
  dsimp only
  rw [State.setSq_sqs, if_neg (by simp [hf]), State.setSq_setSq _ _ _ _ hx]

theorem State.closeRegion_of_outside (s : State) {q : Nat} {x : Seq} (hr : x.region = none) (τ : Nat) :
    (s.setSq q x).closeRegion q τ = s.setSq q x := by
  simp [State.closeRegion, Seq.inside, hr]

/-- Windows that the store holds are not fetched (R183). -/
theorem forEach_wantWin_of_held {s : State} {q : Nat} {l : List Nat} (h : l.all (s.sqs q).holds = true) :
    forEach l s (fun s v => s.wantWin q v) = s := by
  induction l with
  | nil => rfl
  | cons v l ih =>
    rw [List.all_cons, Bool.and_eq_true] at h
    obtain ⟨hv, hl⟩ := h
    have hw : s.wantWin q v = s := by simp [State.wantWin, hv]
    rw [forEach, hw, ih hl]

/-- A well-formed region all of whose windows are resident is entered ready (R186 to R188). -/
theorem exec_regionBegin {s : State} {q n : Nat} {w : W64} {r : Region} {y : Seq} (h : s.Issues q 0x06 w)
    (hf : (s.sqs q).first = false) (hr : (s.sqs q).region = none) (hreg : r = ⟨(s.sqs q).pc, n, ifld w 23 0⟩)
    (hn : n = ifld w 38 24) (hpos : 1 ≤ n) (hmax : n ≤ 16384) (hfit : (s.sqs q).pc % 8192 + n ≤ 16384)
    (hw : (s.regionWins q r).all (s.sqs q).holds = true)
    (hy : y = { s.seqOn q with
      region := some r, regNo := s.barInst (s.seqOwner q) 3 (s.g (Page.seq q) F.SEQ_CTRL_GROUP), entering := true
      eff := (s.sqs q).eff ++ [((s.sqs q).tau, .arrive 3)], st := 3, ready := s.tk (s.seqOwner q) + 1 }) :
    exec (.regionBegin q) s
      = .next (((s.setSq q y).arrive q 3 (s.sqs q).tau true).goto q ((s.sqs q).pc + 1)) := by
  have hok : ¬ (n = 0 ∨ 16384 < n ∨ 16384 < (s.sqs q).pc % 8192 + n ∨ (s.sqs q).inside = true) := by
    have hin : (s.sqs q).inside = false := by simp [Seq.inside, hr]
    simp only [hin, Bool.false_eq_true, or_false]
    omega
  have hfirst : ¬ (s.sqs q).first = true := by simp [hf]
  subst hy hreg hn
  refine congrArg Host.Outcome.next (issue_held h (by decide) ?_)
  dsimp only
  rw [State.setSq_sqs, State.seqOn_first, State.seqOn_pc, State.seqOn_inside, if_neg hfirst, if_neg hok,
    State.setSq_seqOn_setSq, forEach_wantWin_of_held (by rw [State.setSq_sqs]; exact hw), setSq_later _ _ _ _ _ running_ne_idle,
    State.barrier_of_started _ ?st ?first, State.regionReady, State.setSq_sqs]
  · exact congrArg (fun b => Res.held ((State.arrive _ q 3 _ b).goto q _)) hw
  case st => exact running_ne_idle
  case first => exact hf

/-! ### Instructions that go on -/

theorem State.setSq_setPrt (s : State) (q p : Nat) (x : Seq) (y : Part) :
    (s.setSq q x).setPrt p y = (s.setPrt p y).setSq q x :=
  rfl

section
variable {s : State} {q : Nat} {w : W64}

/-- WAIT: the next instruction stands N ticks later (R216). -/
theorem exec_wait {n : Nat} (h : s.Issues q 0x01 w) (hf : (s.sqs q).first = false)
    (hn : n = ifld w 23 0 + (if fVsel w then ((s.sqs q).v.get 0 (fVidx w)).toNat else 0)) :
    exec (.wait q) s
      = .next (s.seqGo q { s.seqOn q with st := if n = 0 then 2 else 5 } ((s.sqs q).pc + 1) 1 n) := by
  refine congrArg Host.Outcome.next (issue_go _ _ 1 n h (by decide) ?_ (.inl hf) ?_)
  · dsimp only
    split <;> decide
  · dsimp only
    rw [State.setSq_sqs, State.seqOn_vu, ← hn]
    split
    · exact congrArg (Res.go _ · 1 n) (State.setSq_nextA _ _ _)
    · rw [State.setSq_seqOn_setSq]
      exact congrArg (Res.go _ · 1 n) (State.setSq_nextA _ _ _)

/-- The first SHOT_START of a run releases on the start tick (R174). -/
theorem exec_shotStart_first (h : s.Issues q 0x03 w) (hf : (s.sqs q).first = true) :
    exec (.shotStart q) s = .next (s.seqNext q { s.seqOn q with
      first := false, tau := (s.prt (s.seqOwner q)).start, seg := none }) := by
  refine congrArg Host.Outcome.next (issue_go _ _ 1 0 h (by decide) running_ne_idle (.inr rfl) ?_)
  dsimp only
  rw [State.setSq_sqs, State.seqOn_first, if_pos hf, State.setSq_seqOn_setSq, State.setSq_nextA]
  rfl

/-- REGION_END inside a region ends it on its timeline tick (R186). -/
theorem exec_regionEnd (h : s.Issues q 0x07 w) (hi : (s.sqs q).inside = true) :
    exec (.regionEnd q) s = .next (s.seqNext q ((s.seqOn q).leave (s.sqs q).tau)) := by
  refine congrArg Host.Outcome.next (issue_go _ _ 1 0 h (by decide) running_ne_idle (.inr rfl) ?_)
  dsimp only
  rw [State.setSq_sqs, State.seqOn_inside, if_pos hi, State.setSq_seqOn_setSq, State.setSq_nextA]
  rfl

/-- TESTWIN outside a region opens a window of N ticks (R197). -/
theorem exec_testwin {n : Nat} (h : s.Issues q 0x08 w) (hf : (s.sqs q).first = false) (hn : n = ifld w 19 0)
    (hi : (s.sqs q).inside = false) (hmin : 2048 ≤ n) :
    exec (.testwin q) s = .next (s.seqGo q { s.seqOn q with
      st := 6, eff := (s.sqs q).eff ++ [((s.sqs q).tau, .testwin n)] } ((s.sqs q).pc + 1) 1 n) := by
  have hok : ¬ ((s.sqs q).inside = true ∨ n < 2048) := by simp [hi, hmin]
  subst hn
  refine congrArg Host.Outcome.next (issue_go _ _ 1 _ h (by decide) (Nat.succ_ne_zero 5) (.inl hf) ?_)
  dsimp only
  rw [State.setSq_sqs, State.seqOn_inside, if_neg hok, State.setSq_seqOn_setSq,
    setSq_later _ _ _ _ _ (Nat.succ_ne_zero 5), State.setSq_nextA]
  rfl

/-- END_RUN requests the end of the run on its timeline tick (R221). -/
theorem exec_endRun {p : Nat} (h : s.Issues q 0x0A w) (hp : p = s.seqOwner q) :
    exec (.endRun q) s = .next ((s.setPrt p { s.prt p with
      endReqs := (s.prt p).endReqs ++ [(q, (s.sqs q).tau)] }).seqNext q (s.seqOn q)) := by
  subst hp
  refine congrArg Host.Outcome.next ((issue_eq h (by decide) _).trans ?_)
  dsimp only
  rw [State.setSq_setPrt, State.setSq_nextA, after_goto (.inr rfl), State.setSq_sqs,
    State.setSq_setSq _ _ _ _ running_ne_idle]
  rfl

/-- PREFETCH of a window within the image (R220). -/
theorem exec_prefetch {n : Nat} (h : s.Issues q 0x09 w) (hn : n = ifld w 10 0) (hi : 8192 * n < s.imgLen q) :
    exec (.prefetch q) s = .next (s.seqNext q { s.seqOn q with pref := some n }) := by
  have hok : ¬ (s.imgLen q - 1) / 8192 < n := by omega
  subst hn
  refine congrArg Host.Outcome.next (issue_go _ _ 1 0 h (by decide) running_ne_idle (.inr rfl) ?_)
  exact (if_neg hok).trans (State.setSq_alu _ _ running_ne_idle _)

/-! ### Transfers -/

theorem exec_jump (h : s.Issues q 0x10 w) (ht : fTarget w < s.imgLen q) :
    exec (.jump q) s = .next (s.seqGo q (s.seqOn q) (fTarget w) 3 0) := by
  refine congrArg Host.Outcome.next (issue_go _ _ 3 0 h (by decide) running_ne_idle (.inr rfl) ?_)
  rw [State.setSq_target, State.target_of_lt ht]

/-- CALL pushes its return address (R228). -/
theorem exec_call (h : s.Issues q 0x11 w) (hd : (s.sqs q).sub.length < 8) (ht : fTarget w < s.imgLen q) :
    exec (.call q) s = .next (s.seqGo q { s.seqOn q with sub := ((s.sqs q).pc + 1) :: (s.sqs q).sub } (fTarget w) 3 0) := by
  refine congrArg Host.Outcome.next (issue_go _ _ 3 0 h (by decide) running_ne_idle (.inr rfl) ?_)
  dsimp only
  rw [State.setSq_sqs, State.seqOn_sub, if_neg (Nat.not_le.2 hd), State.setSq_seqOn_setSq,
    State.setSq_target, State.target_of_lt ht]
  rfl

/-- RET pops the address to which it goes (R228). -/
theorem exec_ret {a : Nat} {l : List Nat} (h : s.Issues q 0x12 w) (hs : (s.sqs q).sub = a :: l) :
    exec (.ret q) s = .next (s.seqGo q { s.seqOn q with sub := l } a 3 0) := by
  refine congrArg Host.Outcome.next (issue_go _ _ 3 0 h (by decide) running_ne_idle (.inr rfl) ?_)
  dsimp only
  rw [State.setSq_sqs, State.seqOn_sub, hs]
  exact congrArg (Res.go · (some a) 3 0) (State.setSq_seqOn_setSq _ _ _)

/-- A LOOP of a count other than 0 pushes it, with the address of its body (R229). -/
theorem exec_loop_push {c : Nat} (h : s.Issues q 0x13 w)
    (hc : c = (if fVsel w then ((s.sqs q).v.get 0 (fVidx w)).toNat else fTarget w)) (h0 : c ≠ 0)
    (hd : (s.sqs q).loops.length < 8) :
    exec (.loop q) s = .next (s.seqNext q { s.seqOn q with loops := (c, (s.sqs q).pc + 1) :: (s.sqs q).loops }) := by
  refine congrArg Host.Outcome.next (issue_go _ _ 1 0 h (by decide) running_ne_idle (.inr rfl) ?_)
  dsimp only
  rw [State.setSq_sqs, State.seqOn_vu, ← hc, if_neg h0, State.seqOn_loops, if_neg (Nat.not_le.2 hd),
    State.setSq_alu _ _ running_ne_idle]
  rfl

/-- A LOOP of count 0 skips its body (R229). -/
theorem exec_loop_skip (h : s.Issues q 0x13 w)
    (hc : (if fVsel w then ((s.sqs q).v.get 0 (fVidx w)).toNat else fTarget w) = 0)
    (ht : (s.sqs q).pc + ifld w 44 29 + 1 < s.imgLen q) :
    exec (.loop q) s = .next (s.seqGo q (s.seqOn q) ((s.sqs q).pc + ifld w 44 29 + 1) 3 0) := by
  refine congrArg Host.Outcome.next (issue_go _ _ 3 0 h (by decide) running_ne_idle (.inr rfl) ?_)
  dsimp only
  rw [State.setSq_sqs, State.seqOn_vu, hc, if_pos rfl, State.setSq_target]
  exact congrArg (Res.go _ · 3 0) (State.target_of_lt ht)

/-- ENDLOOP with passes left goes back to the body (R229). -/
theorem exec_endloop_back {c a : Nat} {l : List (Nat × Nat)} (h : s.Issues q 0x14 w)
    (hs : (s.sqs q).loops = (c + 2, a) :: l) :
    exec (.endloop q) s = .next (s.seqGo q { s.seqOn q with loops := (c + 1, a) :: l } a 3 0) := by
  have hc : ¬ c + 2 ≤ 1 := by omega
  refine congrArg Host.Outcome.next (issue_go _ _ 3 0 h (by decide) running_ne_idle (.inr rfl) ?_)
  dsimp only
  rw [State.setSq_sqs, State.seqOn_loops, hs]
  dsimp only
  rw [if_neg hc]
  exact congrArg (Res.go · (some a) 3 0) (State.setSq_seqOn_setSq _ _ _)

/-- ENDLOOP of the last pass pops the loop (R229). -/
theorem exec_endloop_pop {a : Nat} {l : List (Nat × Nat)} (h : s.Issues q 0x14 w) (hs : (s.sqs q).loops = (1, a) :: l) :
    exec (.endloop q) s = .next (s.seqNext q { s.seqOn q with loops := l }) := by
  refine congrArg Host.Outcome.next (issue_go _ _ 1 0 h (by decide) running_ne_idle (.inr rfl) ?_)
  dsimp only
  rw [State.setSq_sqs, State.seqOn_loops, hs]
  dsimp only
  rw [if_pos (Nat.le_refl 1)]
  exact State.setSq_alu _ _ running_ne_idle _

/-- REPEAT remembers its count and the timeline tick on which it begins (R230, R231). -/
theorem exec_repeatN (h : s.Issues q 0x15 w) :
    exec (.repeatN q) s = .next (s.seqNext q { s.seqOn q with rep := some (fTarget w), repBeg := (s.sqs q).tau }) :=
  congrArg Host.Outcome.next
    (issue_go _ _ 1 0 h (by decide) running_ne_idle (.inr rfl) (State.setSq_alu _ _ running_ne_idle _))

theorem exec_branchFlag_taken {a : Nat} (h : s.Issues q 0x16 w) (hc : (s.sqs q).cond (ifld w 3 0) = true)
    (ha : ((s.sqs q).pc : Int) + fOffset w = a) (ht : a < s.imgLen q) :
    exec (.branchFlag q) s = .next (s.seqGo q (s.seqOn q) a 3 0) := by
  refine congrArg Host.Outcome.next (issue_go _ _ 3 0 h (by decide) running_ne_idle (.inr rfl) ?_)
  dsimp only
  rw [State.setSq_sqs, State.seqOn_cond, if_pos hc]
  exact congrArg (Res.go _ · 3 0) (relTarget_target ha ht)

theorem exec_branchFlag_not (h : s.Issues q 0x16 w) (hc : (s.sqs q).cond (ifld w 3 0) = false) :
    exec (.branchFlag q) s = .next (s.seqNext q (s.seqOn q)) := by
  refine congrArg Host.Outcome.next (issue_go _ _ 1 0 h (by decide) running_ne_idle (.inr rfl) ?_)
  dsimp only
  rw [State.setSq_sqs, State.seqOn_cond, hc, if_neg Bool.false_ne_true, State.setSq_nextA]
  rfl

/-- BRANCH_COND shows its match, consumes the flags if told to, and branches on the match (R235). -/
theorem exec_branchCond {a : Nat} {y : Seq} {hit : Bool} (h : s.Issues q 0x17 w)
    (hh : hit = (s.sqs q).matches_ (fMask w) (fPattern w))
    (hy : y = (if fConsume w then Seq.consume { s.seqOn q with mtch := hit } (fMask w) else { s.seqOn q with mtch := hit }))
    (ha : ((s.sqs q).pc : Int) + fOffset w = a) (ht : a < s.imgLen q) :
    exec (.branchCond q) s = .next (if hit then s.seqGo q y a 3 0 else s.seqNext q y) := by
  have hst : y.st ≠ 0 := by
    rw [hy]
    split <;> exact running_ne_idle
  have hpc : y.pc = (s.sqs q).pc := by
    rw [hy]
    split <;> rfl
  refine congrArg Host.Outcome.next ?_
  cases hit with
  | true =>
    refine issue_go y a 3 0 h (by decide) hst (.inr rfl) ?_
    dsimp only
    rw [State.setSq_sqs, State.seqOn_matches, ← hh, if_pos rfl, ← hy, State.setSq_seqOn_setSq]
    exact congrArg (Res.go _ · 3 0) (relTarget_target ha ht)
  | false =>
    refine issue_go y _ 1 0 h (by decide) hst (.inr rfl) ?_
    dsimp only
    rw [State.setSq_sqs, State.seqOn_matches, ← hh, if_neg Bool.false_ne_true, ← hy, State.setSq_seqOn_setSq,
      State.setSq_nextA, hpc]

end

/-! ### Waits on conditions -/

section
variable {s : State} {q : Nat} {w : W64} {c : Wc} (h : s.Issues q 0x18 w)
  (hc : c = ⟨fMask w, fPattern w, (relTarget (s.sqs q).pc (fOffset w)).getD (2 ^ 30), fConsume w, (s.sqs q).tau, condTimeout w,
    (s.sqs q).pc + 1⟩) (hf : (s.sqs q).first = false)
include h hc hf

/-- WAIT_COND whose flags are all set resolves on the tick on which it executes (R236). -/
theorem exec_waitCond_now (ha : (s.sqs q).allSet c.mask = true) :
    exec (.waitCond q) s = .next ((s.setSq q (s.seqOn q)).condResolve q c ((s.sqs q).condTick c)
      (s.tk (s.seqOwner q) + 1)) := by
  subst hc
  refine congrArg Host.Outcome.next (issue_held h (by decide) ?_)
  dsimp only
  rw [State.setSq_sqs, State.seqOn_first, State.seqOn_pc, State.seqOn_allSet, if_pos ⟨ha, by simp [hf]⟩]
  rfl

/-- WAIT_COND with a flag to come waits (R236). -/
theorem exec_waitCond_later (ha : (s.sqs q).allSet c.mask = false) :
    exec (.waitCond q) s
      = .next (s.setSq q { s.seqOn q with wc := some c, st := 5, ready := s.tk (s.seqOwner q) + 1 }) := by
  subst hc
  refine congrArg Host.Outcome.next (issue_held h (by decide) ?_)
  dsimp only
  rw [State.setSq_sqs, State.seqOn_first, State.seqOn_pc, State.seqOn_allSet, if_neg (by simp [ha]), if_neg (by simp [hf]),
    State.setSq_seqOn_setSq]

end

/-- Settles O21: each instruction, as the lemma about its body and the rule of its execution give it. -/
theorem instructionControl : Obligations.InstructionControl := by
  unfold Obligations.InstructionControl
  refine ⟨?nop, ?wait, ?segment, ⟨?shotStartFirst, ?shotStart⟩, ⟨?shotEnd, ?sync⟩, ?regionBegin, ?regionEnd, ?testwin,
    ?prefetch, ?endRun, ?jump, ⟨?call, ?ret⟩, ⟨?loopPush, ?loopSkip, ?endloopBack, ?endloopPop⟩, ?repeatN,
    ⟨?branchTaken, ?branchNot⟩, ?branchCond, ⟨?waitCondNow, ?waitCondLater⟩, ?clrc, ?getc⟩
  case nop =>
    intro s q w h
    exact congrArg Host.Outcome.next (issue_go (s.seqOn q) _ 1 0 h (by decide) running_ne_idle (.inr rfl)
      (congrArg (Res.go _ · 1 0) (State.setSq_nextA _ _ _)))
  case wait =>
    intro s q n w h hf hn
    exact exec_wait h hf hn
  case segment =>
    rintro s q l t w y h hl ht hs hj rfl
    exact congrArg Host.Outcome.next (issue_segment_begin h hl ht hs hj)
  case shotStartFirst =>
    intro s q w h hf
    exact exec_shotStart_first h hf
  case shotStart =>
    intro s q w h hf
    refine congrArg Host.Outcome.next (issue_held h (by decide) ?_)
    dsimp only
    rw [State.setSq_sqs, State.seqOn_first, if_neg (by simp [hf])]
    exact State.barrier_of_started s (x := s.seqOn q) running_ne_idle hf _ _ _ _
  case shotEnd =>
    intro s q w h hf hr
    refine congrArg Host.Outcome.next (issue_held h (by decide) ?_)
    rw [State.closeRegion_of_outside s (x := s.seqOn q) hr]
    exact State.barrier_of_started s (x := s.seqOn q) running_ne_idle hf _ _ _ _
  case sync =>
    intro s q w h hf
    exact congrArg Host.Outcome.next
      (issue_held h (by decide) (State.barrier_of_started s (x := s.seqOn q) running_ne_idle hf _ _ _ _))
  case regionBegin =>
    intro s q n w r y h hf hr hreg hn hpos hmax hfit hw hy
    exact exec_regionBegin h hf hr hreg hn hpos hmax hfit hw hy
  case regionEnd =>
    intro s q w h hi
    exact exec_regionEnd h hi
  case testwin =>
    intro s q n w h hf hn hi hmin
    exact exec_testwin h hf hn hi hmin
  case prefetch =>
    intro s q n w h hn hi
    exact exec_prefetch h hn hi
  case endRun =>
    intro s q p w h hp
    exact exec_endRun h hp
  case jump =>
    intro s q w h ht
    exact exec_jump h ht
  case call =>
    intro s q w h hd ht
    exact exec_call h hd ht
  case ret =>
    intro s q a w l h hs _
    exact exec_ret h hs
  case loopPush =>
    intro s q c w h hc h0 hd
    exact exec_loop_push h hc h0 hd
  case loopSkip =>
    intro s q w h hc ht
    exact exec_loop_skip h hc ht
  case endloopBack =>
    intro s q c a w l h hs _
    exact exec_endloop_back h hs
  case endloopPop =>
    intro s q a w l h hs
    exact exec_endloop_pop h hs
  case repeatN =>
    intro s q w h
    exact exec_repeatN h
  case branchTaken =>
    intro s q a w h hc ha ht
    exact exec_branchFlag_taken h hc ha ht
  case branchNot =>
    intro s q w h hc
    exact exec_branchFlag_not h hc
  case branchCond =>
    intro s q a w y hit h hh hy ha ht
    exact exec_branchCond h hh hy ha ht
  case waitCondNow =>
    intro s q w c h hc ha hf
    exact exec_waitCond_now h hc hf ha
  case waitCondLater =>
    intro s q w c h hc ha hf
    exact exec_waitCond_later h hc hf ha
  case clrc =>
    intro s q w h
    exact congrArg Host.Outcome.next
      (issue_alu (·.consume (fMask w)) h (by decide) running_ne_idle rfl fun _ _ _ => rfl)
  case getc =>
    intro s q w h
    exact congrArg Host.Outcome.next
      (issue_alu (fun x => x.res (ifld w 19 16) (x.value &&& x.set &&& BitVec.ofNat 16 (fMask w)).toInt) h (by decide)
        running_ne_idle rfl fun _ _ _ => rfl)

end Sys2Proof.Machine
end

section
/-!
PROOFS. The output instructions (R222 to R226), each of which leaves one effect for a tick of its timeline, and the arithmetic
instructions (R240 to R242), each of which changes only its sequencer, but for the fault that a saturated accumulation logs.
-/

namespace Sys2Proof.Machine
open Sys2Proof

/-! ### Instructions that leave one effect -/

@[simp] theorem State.seqOn_vi (s : State) (q i : Nat) : (s.seqOn q).vi i = ((s.sqs q).v.get 0 i).toInt := rfl

/-- An instruction that leaves effect `f` for tick `t` and goes on after `dur` ticks of its timeline. -/
theorem issue_effect {s : State} {q op : Nat} {w : W64} {body : State → W64 → Nat → Nat → Res} (t : Nat) (f : Eff) (dur : Nat)
    (h : s.Issues q op w) (h2 : op ≠ 2) (hd : (s.sqs q).first = false ∨ dur = 0)
    (hb : body (s.setSq q (s.seqOn q)) w (s.tk (s.seqOwner q)) (s.sqs q).tau
      = .go ((s.setSq q (s.seqOn q)).later q t f) (((s.setSq q (s.seqOn q)).later q t f).nextA q) 1 dur) :
    s.issue q op body
      = s.seqGo q { s.seqOn q with eff := (s.sqs q).eff ++ [(t, f)] } ((s.sqs q).pc + 1) 1 dur := by
  refine issue_go _ _ 1 dur h h2 running_ne_idle hd ?_
  rw [hb, setSq_later _ _ _ _ _ running_ne_idle, State.setSq_nextA]
  rfl

section
variable {s : State} {q : Nat} {w : W64}

/-- PLAY issues its request 76 ticks before its timeline tick (R223). -/
theorem exec_play {k : Nat} {amp : Int} (h : s.Issues q 0x20 w) (hf : (s.sqs q).first = false)
    (hk : k = (if ¬ isRs q ∧ ifld w 17 17 = 1 then 2048 + 2 * q + ifld w 16 12 % 2 else slotKey q (ifld w 16 12)))
    (ha : amp = (if ifld w 42 42 = 1 then ((s.sqs q).v.get 0 (ifld w 29 26)).toInt else sext 16 (ifld w 41 26))) :
    exec (.play q) s = .next (s.seqGo q { s.seqOn q with
      eff := (s.sqs q).eff ++ [((s.sqs q).tau - 76, .playReq k (ifld w 11 0) (ifld w 25 18) amp (ifld w 43 43 = 1))] }
      ((s.sqs q).pc + 1) 1 (ifld w 56 44)) := by
  subst hk ha
  refine congrArg Host.Outcome.next (issue_effect _ _ _ h (by decide) (.inl hf) ?_)
  dsimp only
  rw [State.setSq_sqs, State.seqOn_vi]

/-- LEVEL sets its level on its timeline tick, and dwells (R226). -/
theorem exec_level {v : Int} (h : s.Issues q 0x27 w) (hf : (s.sqs q).first = false)
    (hv : v = (if ifld w 17 17 = 1 then ((s.sqs q).v.get 0 (ifld w 21 18)).toInt else sext 16 (ifld w 15 0))) :
    exec (.level q) s = .next (s.seqGo q { s.seqOn q with
      eff := (s.sqs q).eff ++ [((s.sqs q).tau, .level v (ifld w 16 16))] } ((s.sqs q).pc + 1) 1 (ifld w 34 22)) := by
  subst hv
  refine congrArg Host.Outcome.next (issue_effect _ _ _ h (by decide) (.inl hf) ?_)
  dsimp only
  rw [State.setSq_sqs, State.seqOn_vi]

/-- PHASE_ADD_V adds the fraction of a turn that its value register holds (R225). -/
theorem exec_phaseAddV (h : s.Issues q 0x25 w) :
    exec (.phaseAddV q) s = .next (s.seqNext q { s.seqOn q with eff := (s.sqs q).eff ++
      [((s.sqs q).tau, .phaseAdd (fSlot w) (fOff w) (((s.sqs q).v.get 0 (ifld w 12 9)).toNat * 2 ^ 32))] }) := by
  refine congrArg Host.Outcome.next (issue_effect _ _ 0 h (by decide) (.inr rfl) ?_)
  dsimp only
  rw [State.setSq_sqs, State.seqOn_vu]

end

/-- Settles O22: each instruction leaves the effect that its fields spell (R223 to R226). -/
theorem instructionOutputs : Obligations.InstructionOutputs := by
  unfold Obligations.InstructionOutputs
  refine ⟨?play, ?atTick, ?level⟩
  case play =>
    intro s q k w amp h hf hk ha
    exact exec_play h hf hk ha
  case atTick =>
    intro s q w i op f h hm
    simp only [List.mem_cons, List.not_mem_nil, or_false, Prod.mk.injEq] at hm
    rcases hm with ⟨rfl, rfl, rfl⟩ | ⟨rfl, rfl, rfl⟩ | ⟨rfl, rfl, rfl⟩ | ⟨rfl, rfl, rfl⟩ | ⟨rfl, rfl, rfl⟩ | ⟨rfl, rfl, rfl⟩
    case inr.inr.inr.inr.inl => exact exec_phaseAddV h
    -- ACQUIRE, FREQ, PHASE_ADD, PHASE_SET and FRAME_RESET read no register of their sequencer.
    all_goals exact congrArg Host.Outcome.next (issue_effect _ _ 0 h (by decide) (.inr rfl) rfl)
  case level =>
    intro s q w v h hf hv
    exact exec_level h hf hv

/-! ### Instructions of the arithmetic unit -/

/-- An occurrence of a cause writes registers and the log only: on every branch it leaves the sequencers (R564 to R566). -/
theorem State.logIt_sqr (s : State) (cause part source detail : Nat) : (s.logIt cause part source detail).sqr = s.sqr := by
  simp [State.logIt, State.logAs, State.logWrite, State.when, apply_ite State.sqr]

/-- A saturated accumulation is an occurrence of its cause, and another one is none (R242). -/
theorem State.accFault_cases (s : State) (q : Nat) (v : Int) :
    s.accFault q v = s.logIt Cause.overflow (s.seqOwner q) (gid 16 q) 0 ∨ s.accFault q v = s := by
  unfold State.accFault State.when
  split
  · exact .inl rfl
  · exact .inr rfl

theorem State.accFault_sqs (s : State) (q : Nat) (v : Int) (k : Nat) : (s.accFault q v).sqs k = s.sqs k := by
  obtain h | h := s.accFault_cases q v
  · rw [h, State.sqs, State.logIt_sqr, State.sqs]
  · rw [h]

/-- The body of an instruction of the arithmetic unit, on sequencer state `x`. -/
theorem State.alu_eq {s : State} {q : Nat} {x : Seq} (hx : s.sqs q = x) (f : Seq → Seq) :
    s.alu q f = .go (s.setSq q (f x)) (some ((f x).pc + 1)) 1 0 := by
  unfold State.alu
  dsimp only
  rw [hx, State.setSq_nextA]

/-- An instruction that accumulates `v` in ACC, saturated, and logs the fault of a saturation (R242). -/
theorem issue_accumulate {s t : State} {q op : Nat} {w : W64} {v : Int} {x : Seq} {body : State → W64 → Nat → Nat → Res}
    (h : s.Issues q op w) (h2 : op ≠ 2) (hx : x = s.seqOn q) (ht : t = (s.setSq q x).accFault q v)
    (hb : body (s.setSq q x) w (s.tk (s.seqOwner q)) (s.sqs q).tau
      = ((s.setSq q x).accFault q v).alu q (·.resAccSat v)) :
    s.issue q op body
      = (t.setSq q { x.resAccSat v with ready := s.tk (s.seqOwner q) + 1 }).goto q ((s.sqs q).pc + 1) := by
  have hs : t.sqs q = x := by rw [ht, State.accFault_sqs, State.setSq_sqs]
  rw [issue_eq h h2, ← hx, hb, ← ht, State.alu_eq hs, after_goto (.inr rfl), State.setSq_sqs,
    State.setSq_setSq _ _ _ _ (hx ▸ running_ne_idle)]
  subst hx
  rfl

/-- Settles O23: an instruction of the arithmetic unit changes its sequencer as its operation says; MAC and MSU log the fault of
a saturation besides (R240 to R242). -/
theorem instructionArithmetic : Obligations.InstructionArithmetic := by
  unfold Obligations.InstructionArithmetic
  refine ⟨?unit, ?accumulate⟩
  case unit =>
    rintro s q w i op _ y h rfl hm
    simp only [List.mem_cons, List.not_mem_nil, or_false, Prod.mk.injEq] at hm
    rcases hm with ⟨rfl, rfl, rfl⟩ | ⟨rfl, rfl, rfl⟩ | ⟨rfl, rfl, rfl⟩ | ⟨rfl, rfl, rfl⟩ | ⟨rfl, rfl, rfl⟩ | ⟨rfl, rfl, rfl⟩ |
      ⟨rfl, rfl, rfl⟩ | ⟨rfl, rfl, rfl⟩ | ⟨rfl, rfl, rfl⟩ | ⟨rfl, rfl, rfl⟩ | ⟨rfl, rfl, rfl⟩
    all_goals
      refine congrArg Host.Outcome.next (issue_go _ _ 1 0 h (by decide) running_ne_idle (.inr rfl) ?_)
      exact State.setSq_alu _ _ running_ne_idle _
  case accumulate =>
    intro s t q w i op v x h hx hm ht
    simp only [List.mem_cons, List.not_mem_nil, or_false, Prod.mk.injEq] at hm
    have hs : (s.setSq q x).sqs q = x := State.setSq_sqs s q x
    rcases hm with ⟨rfl, rfl, rfl⟩ | ⟨rfl, rfl, rfl⟩
    all_goals
      refine congrArg Host.Outcome.next (issue_accumulate h (by decide) hx ht ?_)
      dsimp only
      rw [hs]
      rfl

end Sys2Proof.Machine
end

section
/-!
PROOFS. The read-out chapter: its commands (R280) with the planned swaps and releases of spares (R278), the kernel store (R283),
the result rings' consumer (R272), the ends of windows (R263, R264), depletion (R265), outcomes at the decision engine (R288)
and records (R268, R274).
-/

namespace Sys2Proof.Machine
open Sys2Proof

/-! ### Commands -/

/-- RDO_ADC_CONFIG that disables its input waits for no samples: it completes at once, TARGET_DARK on a dark input (R280). -/
theorem cRdoAdcConfig_run_of_disable {s : State} {p : Pkt} (h : wget (p.w 0) 0 0 = 0) :
    cRdoAdcConfig.run s p = (s.setEnable (adcChan p.target) 0).finishDark p
      ((s.setEnable (adcChan p.target) 0).chanDark (adcChan p.target)) := by
  dsimp only [cRdoAdcConfig]
  rw [h, if_neg (fun hc => absurd hc.left (by decide))]

theorem cKernelLoad_run (s : State) (p : Pkt) : cKernelLoad.run s p
    = s.withData p (8 * p.n 1) (fun s b => s.kernWrite p.target (p.n 0) (chunks 8 (p.n 1) b)) := rfl

/-! ### The kernel store and the consumer of a ring -/

section
variable {s : State} {fn q : Nat}
  (h : full fn = true ∨ s.owner (128 + (8 * q + s.g (Page.rdoq q) F.RDO_KERN_ADDR_INPUT)) = fn)
include h

/-- A function that owns the input of RDO_KERN_ADDR is not denied at RDO_KERN_Q (R286). -/
theorem State.not_kernDenied :
    ¬ (¬ full fn = true ∧ s.owner (128 + (8 * q + s.g (Page.rdoq q) F.RDO_KERN_ADDR_INPUT)) ≠ fn) :=
  fun ⟨hf, ho⟩ => h.elim hf ho

/-- Its write stores the weight with the half held for it, and ADDR advances (R283). -/
theorem State.kernQ_write (w : Word) : s.kernQ fn q (some w)
    = (s.weightSet (8 * q + s.g (Page.rdoq q) F.RDO_KERN_ADDR_INPUT) (s.g (Page.rdoq q) F.RDO_KERN_ADDR_ADDR)
        (BitVec.ofNat 48 ((s.rdo.kernHeld.get 0 (fn * 4 + q)).toNat % 2 ^ 24 + w.toNat % 2 ^ 24 * 2 ^ 24))).p (Page.rdoq q)
      F.RDO_KERN_ADDR_ADDR ((s.g (Page.rdoq q) F.RDO_KERN_ADDR_ADDR + 1) % 32768) :=
  if_neg (State.not_kernDenied h)

/-- Its read returns the half that its read of RDO_KERN_I has held, and ADDR advances (R283). -/
theorem State.kernQ_read : s.kernQ fn q none
    = { s with pins.rdata := s.heldRd.get 0 (holdKey fn (Page.rdoq q + 0x10)) }.p (Page.rdoq q)
      F.RDO_KERN_ADDR_ADDR ((s.g (Page.rdoq q) F.RDO_KERN_ADDR_ADDR + 1) % 32768) :=
  if_neg (State.not_kernDenied h)

end

theorem exec_rdoKernQAccess_write {s : State} {fn q : Nat} (hq : q < 4) (ho : s.Opens fn (Page.rdoq q + 0x10)) (w : Word) :
    exec (.rdoKernQAccess fn q (some w)) s = .next (s.kernQ fn q (some w)) := by
  change execRdoKernQAccess fn q (some w) s = _
  rw [execRdoKernQAccess, if_pos hq, State.onWrite_of_opens ho]

theorem exec_rdoKernQAccess_read {s : State} {fn q : Nat} (hq : q < 4) (ha : s.Answers fn (Page.rdoq q + 0x10)) :
    exec (.rdoKernQAccess fn q none) s = .next (s.kernQ fn q none) := by
  change execRdoKernQAccess fn q none s = _
  rw [execRdoKernQAccess, if_pos hq, State.onRead_of_answers ha]

theorem exec_recConsWrite {s : State} {fn p : Nat} (hp : p < 5) (ho : s.Opens fn (Page.ring p + 0x1C)) (v : Word) :
    exec (.recConsWrite fn p v) s = .next (s.recConsume p v.toNat) := by
  change execRecConsWrite fn p v s = _
  rw [execRecConsWrite, if_pos hp, State.onWrite_of_opens ho]

/-- Settles O14: each command runs to its completion, the swaps and releases of spares to the start of the copy that completes
them, and each access comes to the operation that it names. -/
theorem readoutCommands : Obligations.ReadoutCommands := by
  unfold Obligations.ReadoutCommands
  refine ⟨?probe, ?adc, ?tone, ?kernel, ?heat, ?trip, ?swap, ?release, ?ring, ⟨?kernWrite, ?kernRead⟩, ?consume⟩
  case probe =>
    rintro s p y eff h rfl
    exact runs_of_plain (c := cRdoProbeConfig) rfl h rfl
  case adc =>
    intro s p y h hd
    exact runs_of_plain (c := cRdoAdcConfig) rfl h (cRdoAdcConfig_run_of_disable hd)
  case tone =>
    intro s p y h
    exact runs_of_plain (c := cToneSet) rfl h rfl
  case kernel =>
    intro s p y b h hb
    refine runs_of_plain (c := cKernelLoad) rfl h ?_
    rw [cKernelLoad_run, State.withData_of_data hb]
    rfl
  case heat =>
    intro s p y h
    exact runs_of_plain (c := cRdoHeatSet) rfl h rfl
  case trip =>
    intro s p y h
    exact runs_of_plain (c := cRdoTripClear) rfl h rfl
  case swap =>
    rintro s p y g h rfl hs
    exact congrArg Host.Outcome.next (command_spareGo (c := cRdoSpareSwap) h rfl hs)
  case release =>
    rintro s p y g h rfl
    exact congrArg Host.Outcome.next (command_inHand (c := cRdoSpareRelease) h)
  case ring =>
    intro s p y h
    exact runs_of_plain (c := cRecRingSet) rfl h rfl
  case kernWrite =>
    intro s fn q w hq ho hf
    rw [exec_rdoKernQAccess_write hq ho, State.kernQ_write hf]
  case kernRead =>
    intro s fn q hq ha hf
    rw [exec_rdoKernQAccess_read hq ha, State.kernQ_read hf]
  case consume =>
    intro s fn p v hp ho
    exact exec_recConsWrite hp ho v

/-! ### The ends of windows -/

section
variable {v : State} {t now : Nat} {w : Win} {u : List IQ} (hw : v.win t = some w)
  (hn : now = (v.cnt (v.toneOwner t)).toNat) (hu : u = v.toneIn t w.topen (w.upTo now))
include hw hn hu

/-- A window whose margin has not ended it, or that has an INVALID cause, closes at its declared end (R263, R267). -/
theorem State.windowOf_of_end (hc : v.winCause t w 0 = 0 → (v.evalWin t w u).2 = none) (he : w.endAt ≤ now) :
    v.windowOf t true = v.endWin t w u := by
  subst hn hu
  have hd : (if v.winCause t w 0 = 0 then
      (v.evalWin t w (v.toneIn t w.topen (w.upTo (v.cnt (v.toneOwner t)).toNat))).2 else none) = none :=
    ite_eq_right_iff.2 hc
  simp only [State.windowOf, hw, hd]
  exact if_pos ⟨trivial, he⟩

/-- A window whose margin has reached THRESH after `k` samples, with no INVALID cause, ends there (R264). -/
theorem State.windowOf_of_early {k : Nat} (hc : v.winCause t w 0 = 0) (hk : (v.evalWin t w u).2 = some k) (whole : Bool) :
    v.windowOf t whole = v.endEarly t w (u.take k) := by
  subst hn hu
  simp only [State.windowOf, hw, if_pos hc, hk]

end

theorem exec_windowEnd {t : Nat} (ht : t < 1024) (adc : List AdcCode) (s : State) :
    exec (.windowEnd t adc) s = .next ((s.adcIn (toneInput t) adc).windowOf t true) :=
  congrArg Host.Outcome.next (if_pos ht)

theorem exec_earlyDecision {t : Nat} (ht : t < 1024) (adc : List AdcCode) (s : State) :
    exec (.earlyDecision t adc) s = .next ((s.adcIn (toneInput t) adc).windowOf t false) :=
  congrArg Host.Outcome.next (if_pos ht)

/-! ### Depletion and outcomes

What the read-out keeps of windows, outcomes and depletion is no register, so a change of it leaves every field, and with the
fields the owner of a tone and the effective state of an outcome.
-/

@[simp] theorem State.g_rdo (s : State) (r : Rdo) (pg : Nat) (f : Fld) : State.g { s with rdo := r } pg f = s.g pg f := rfl
@[simp] theorem State.tk_rdo (s : State) (r : Rdo) (p : Nat) : State.tk { s with rdo := r } p = s.tk p := rfl
@[simp] theorem State.toneOwner_rdo (s : State) (r : Rdo) (t : Nat) : State.toneOwner { s with rdo := r } t = s.toneOwner t := rfl
@[simp] theorem State.effState_rdo (s : State) (r : Rdo) (t : Nat) (o : Outc) :
    State.effState { s with rdo := r } t o = s.effState t o := rfl

section
variable {s : State} {t : Nat} (hd : s.rdo.depl.get 0 t ≠ 0)
include hd

/-- DEPLETE 1 cuts the tone's lane from the action at the P connector on, and plays nothing (R265, R277). -/
theorem exec_depletionStart_cut (hm : s.g (Page.tone t) F.TONE_CTRL_DEPLETE = 1) :
    exec (.depletionStart t) s = .next ({ s with rdo.depl := s.rdo.depl.set 0 t 0 }.laneCut (128 + t / 32) (toneLane t)
      (s.tk (s.toneOwner t) + 76)) := by
  change execDepletionStart t s = _
  rw [execDepletionStart, if_neg hd]
  dsimp only
  rw [State.g_rdo, hm, if_pos (.inl rfl), if_neg (fun h2 => absurd h2.left (by decide)), State.tk_rdo,
    State.toneOwner_rdo]

/-- DEPLETE 0 only drops the decision (R265). -/
theorem exec_depletionStart_off (hm : s.g (Page.tone t) F.TONE_CTRL_DEPLETE = 0) :
    exec (.depletionStart t) s = .next { s with rdo.depl := s.rdo.depl.set 0 t 0 } := by
  change execDepletionStart t s = _
  rw [execDepletionStart, if_neg hd]
  dsimp only
  rw [State.g_rdo, hm, if_neg (by decide)]

end

theorem State.when_of {c : Prop} [Decidable c] (h : c) (s : State) (f : State → State) : s.when c f = f s := if_pos h

/-- A tone of MODE 0 routes its outcome nowhere (R287). -/
theorem State.routeOutc_of_off {s : State} {t : Nat} (hm : s.g (Page.route t) F.DEC_ROUTE_MODE = 0) (o : Outc) :
    s.routeOutc t o = s.eccReads := by
  rw [State.routeOutc, hm, State.when_of_not (by decide), State.when_of_not (by decide)]

/-- A tone of MODE 1 looks up the action of its effective state, and gathers nothing (R288, R289). -/
theorem State.routeOutc_of_lookup {s : State} {t : Nat} (hm : s.g (Page.route t) F.DEC_ROUTE_MODE = 1) (o : Outc) :
    s.routeOutc t o = (s.lookup (s.toneOwner t) (4 * t + s.effState t o) t).eccReads := by
  rw [State.routeOutc, hm, State.when_of_not (by decide), State.when_of (.inl rfl)]

/-- The oldest outcome on its way arrives. -/
theorem exec_outcomeArrival {s : State} {t : Nat} {o : Outc} {l : List Outc} (h : s.rdo.outc.get [] t = o :: l) :
    exec (.outcomeArrival t) s = .next ({ s with rdo.outc := s.rdo.outc.set [] t l }.routeOutc t o) := by
  change execOutcomeArrival t s = _
  rw [execOutcomeArrival, h]

/-! ### Records -/

/-- Outside twin pairs the oldest shot whose outcomes are all delivered is assembled, and its digest starts again (R268). -/
theorem exec_recordAssembled {s : State} {p : Nat} {sh : Shot} {l : List Shot} (hp : p < 5) (ha : (s.prt p).asm = sh :: l)
    (ho : s.outcDue p sh.num = false) (ht : s.twinState = 0) :
    exec (.recordAssembled p) s
      = .next ({ s with fab.digest := s.fab.digest.set 0 (digKey p sh.num) 0 }.assemble p) := by
  change execRecordAssembled p s = _
  have h2 : s.twinState ≠ 2 := by rw [ht]; decide
  have h3 : s.twinState ≠ 3 := by rw [ht]; decide
  rw [execRecordAssembled, if_neg (Nat.not_le.2 hp), ha]
  dsimp only
  rw [if_neg (ne_true_of_eq_false ho), State.when_of_not h3, if_neg h2]

/-- Settles O15: each window ends at its declared end or early, each outcome is routed by its mode, and a record is assembled and
written. -/
theorem readoutEvents : Obligations.ReadoutEvents := by
  unfold Obligations.ReadoutEvents
  refine ⟨⟨?windowEnd, ?windowVoid⟩, ?early, ⟨?cut, ?deplOff⟩, ⟨?unrouted, ?lookup⟩, ?assembled, ?written⟩
  case windowEnd =>
    rintro s v t now adc w u ht rfl hw hn hu hc hk he
    rw [exec_windowEnd ht, State.windowOf_of_end hw hn hu (fun _ => hk) he]
  case windowVoid =>
    rintro s v t now adc w u ht rfl hw hn hu hc he
    rw [exec_windowEnd ht, State.windowOf_of_end hw hn hu (fun h0 => absurd h0 hc) he]
  case early =>
    rintro s v t now k adc w u ht rfl hw hn hu hc hk
    rw [exec_earlyDecision ht, State.windowOf_of_early hw hn hu hc hk]
  case cut =>
    intro s t hd hm
    exact exec_depletionStart_cut hd hm
  case deplOff =>
    intro s t hd hm
    exact exec_depletionStart_off hd hm
  case unrouted =>
    intro s t o l h hm
    rw [exec_outcomeArrival h, State.routeOutc_of_off ((s.g_rdo _ _ _).trans hm)]
  case lookup =>
    intro s t o l h hm
    rw [exec_outcomeArrival h, State.routeOutc_of_lookup ((s.g_rdo _ _ _).trans hm), s.toneOwner_rdo, s.effState_rdo]
  case assembled =>
    intro s p sh l hp ha ho ht
    exact exec_recordAssembled hp ha ho ht
  case written =>
    intro s p hp hd hr
    exact congrArg Host.Outcome.next (if_pos ⟨hp, hd, hr⟩)

end Sys2Proof.Machine
end

section
/-!
PROOFS. The decision chapter: its commands (R316) and the writes of table entries (R300, R322), gathers (R291, R292, R298), the
chain port (R297), Comet messages and their acknowledgements (R306 to R308), the external decoder's updates (R311, R312) and
frame barriers (R313).
-/

namespace Sys2Proof.Machine
open Sys2Proof

/-! ### Commands and table entries -/

/-- DEC_TABLE_LOAD of entries of which none has a reserved bit set writes what the host answers (R300, R316). -/
theorem cDecTableLoad_run_of_good {s : State} {p : Pkt}
    (h : (chunks 16 (p.n 0) p.host).any (fun v => entBad (BitVec.ofNat 128 v)) = false) :
    cDecTableLoad.run s p
      = s.withData p (16 * p.n 0) (fun s b => s.entryWrite p.target (chunks 16 (p.n 0) b)) :=
  if_neg (ne_true_of_eq_false h)

/-- An entry that may be written now, and has no reserved bit set, is stored with the words held for it (R300, R322). -/
theorem State.entryDone_of_good {s : State} {fn k : Nat} {v : Word} {e : BitVec 128} (hl : s.entryLocked k = false)
    (he : e = BitVec.ofNat 128 ((s.dec.held.get 0 (entHeld fn k 0)).toNat + (s.dec.held.get 0 (entHeld fn k 1)).toNat * 2 ^ 32
      + (s.dec.held.get 0 (entHeld fn k 2)).toNat * 2 ^ 64 + v.toNat * 2 ^ 96)) (hb : entBad e = false) :
    s.entryDone fn k v = s.setEntry k e := by
  subst he
  rw [State.entryDone, if_neg (ne_true_of_eq_false hl)]
  exact if_neg (ne_true_of_eq_false hb)

theorem exec_decEntryWrite {s : State} {fn k : Nat} (hk : k < 65536) (ho : s.Opens fn (0x2200000 + 32 * k + 12)) (v : Word) :
    exec (.decEntryWrite fn k v) s = .next (s.entryDone fn k v) := by
  change execDecEntryWrite fn k v s = _
  rw [execDecEntryWrite, if_pos hk, State.onWrite_of_opens ho]

/-- Settles O16: each command runs to its completion, and the write of an entry's last word stores the entry. -/
theorem decisionCommands : Obligations.DecisionCommands := by
  unfold Obligations.DecisionCommands
  refine ⟨?route, ?gather, ?load, ?clear, ?entry, ?comet, ?decoder⟩
  case route =>
    intro s p y h
    exact runs_of_plain (c := cDecRouteSet) rfl h rfl
  case gather =>
    intro s p y h
    exact runs_of_plain (c := cDecGatherSet) rfl h rfl
  case load =>
    intro s p y b h hb hg
    refine runs_of_plain (c := cDecTableLoad) rfl h ?_
    rw [cDecTableLoad_run_of_good hg, State.withData_of_data hb]
    rfl
  case clear =>
    intro s p y h
    exact runs_of_plain (c := cDecTableClear) rfl h rfl
  case entry =>
    intro s fn k v e hk ho hl he hb
    rw [exec_decEntryWrite hk ho, State.entryDone_of_good hl he hb, State.setEntry]
  case comet =>
    intro s p y h
    exact runs_of_plain (c := cDecCometSet) rfl h rfl
  case decoder =>
    intro s p y h
    exact runs_of_plain (c := cDecDecoderSet) rfl h rfl

/-! ### Gathers and the chain port -/

/-- The oldest completion that has fallen due takes place, 2 ns after the one before it at the earliest (R298). -/
theorem State.guServe_of_due {s : State} {g : Nat} {G : W64} {l : List W64} (hd : (s.gath g).due = G :: l)
    (ht : (s.gath g).lastAt.any (fun t => decide (s.now / 16 < t + 2)) = false) :
    s.guServe g = (s.setGath g { s.gath g with due := l }).guComplete g G := by
  rw [State.guServe, hd]
  exact if_neg (ne_true_of_eq_false ht)

section
variable {s : State} {g : Nat} (hg : g < 64) (he : s.on (Page.gu g) F.GU_CTRL_EN = true)
include hg he

theorem exec_gatherComplete : exec (.gatherComplete g) s = .next (s.guServe g).eccReads :=
  congrArg Host.Outcome.next (if_pos ⟨hg, he⟩)

/-- A gather under way that is TIMEOUT ticks old completes with the missing members' defaults (R291). -/
theorem exec_gatherTimeout (hn : s.g (Page.gu g) F.GU_TIMEOUT_TIMEOUT ≠ 0) (hm : (s.gath g).got ≠ [])
    (hd : (s.gath g).done = false) (ht : (s.gath g).first + s.g (Page.gu g) F.GU_TIMEOUT_TIMEOUT ≤ s.tk (s.guPart g)) :
    exec (.gatherTimeout g) s = .next (((s.guDefaults g).guDue g).guServe g).eccReads :=
  congrArg Host.Outcome.next (if_pos ⟨hg, he, hn, hm, ne_true_of_eq_false hd, ht⟩)

end

@[simp] theorem State.ownsKey_dec (s : State) (d : Dec) (p k : Nat) :
    State.ownsKey { s with dec := d } p k = s.ownsKey p k := rfl

/-- The chain port reads the oldest request's entry, where the request's partition owns it (R297, R299). -/
theorem exec_chainLookup_of_owned {s : State} {k d p : Nat} {l : List (Nat × Nat × Nat)}
    (hc : s.dec.chain = (k, d, p) :: l) (ho : s.ownsKey p k = true) :
    exec .chainLookup s = .next (({ s with dec.chain := l }.bump Page.dec F.DEC_CHAIN_LOOKUPS).readEntry p k d
      rankChain).eccReads := by
  change execChainLookup s = _
  rw [execChainLookup, hc]
  exact congrArg Host.Outcome.next (if_pos ((s.ownsKey_dec _ p k).trans ho))

/-! ### Comet messages -/

theorem exec_cometReceive_of_powered {s : State} (hm : s.pwr.mode ≠ .off) (w : W64) :
    exec (.cometReceive w) s = .next (if s.twinState ∈ [1, 2] then
      { s with fab.inbox := dropWord 1 w s.fab.inbox, fab.comets := s.fab.comets ++ [w] }
      else (s.takeWord 1 w).cometIn w) :=
  congrArg Host.Outcome.next (if_neg hm)

/-- A joining or standby member holds the message for the active one's COMET_APPLY (R491). -/
theorem exec_cometReceive_of_standby {s : State} (hm : s.pwr.mode ≠ .off) (ht : s.twinState = 1 ∨ s.twinState = 2)
    (w : W64) : exec (.cometReceive w) s
      = .next { s with fab.inbox := dropWord 1 w s.fab.inbox, fab.comets := s.fab.comets ++ [w] } := by
  rw [exec_cometReceive_of_powered hm, if_pos (by simpa using ht)]

/-- Any other module treats the message at once (R307). -/
theorem exec_cometReceive_of_acting {s : State} (hm : s.pwr.mode ≠ .off) (h1 : s.twinState ≠ 1) (h2 : s.twinState ≠ 2)
    (w : W64) : exec (.cometReceive w) s = .next ((s.takeWord 1 w).cometIn w) := by
  rw [exec_cometReceive_of_powered hm, if_neg (by simp [h1, h2])]

@[simp] theorem State.setPair_speaks (s : State) (k : Nat) (x : Pair) : (s.setPair k x).speaks = s.speaks := rfl

section
variable {s : State} {p n : Nat} (hp : p < 5) (hn : n < 64)
include hp hn

/-- An acknowledgement is due when as many messages as ACK_THRESH wait for it, and returns the next expected SEQ (R306). -/
theorem exec_cometAckSend_of_count (hu : (s.pair (pairKey p n)).unacked ≠ 0)
    (ha : s.g Page.dec F.DEC_COMET_CFG_ACK_THRESH ≤ (s.pair (pairKey p n)).unacked) (hs : s.speaks = true) :
    exec (.cometAckSend p n) s = .next ((s.setPair (pairKey p n) { s.pair (pairKey p n) with unacked := 0 }).fabSend 1 n 3
      [Config.ackWord p (s.epoch p) s.node s.myTwin (s.pair (pairKey p n)).expected]) := by
  change execCometAckSend p n s = _
  rw [execCometAckSend, if_pos ⟨hp, hn, hu, .inl ha⟩]
  exact congrArg Host.Outcome.next (if_pos ((s.setPair_speaks _ _).trans hs))

/-- An acknowledgement within what has been sent frees the window up to it (R306). -/
theorem exec_cometAckReceive_of_sent {a : Nat} (hm : s.pwr.mode ≠ .off)
    (ha : (a + 4096 - (s.pair (pairKey p n)).acked) % 4096
      ≤ ((s.pair (pairKey p n)).next + 4096 - (s.pair (pairKey p n)).acked) % 4096) :
    exec (.cometAckReceive p n a) s = .next ((s.setPair (pairKey p n) { s.pair (pairKey p n) with
      acked := a % 4096, lastAck := s.now / 16 }).cometDrain p n (s.pair (pairKey p n)).wait.length) := by
  have hok : ¬ (5 ≤ p ∨ 64 ≤ n ∨ s.pwr.mode = .off) := by simp [hp, hn, hm]
  change execCometAckReceive p n a s = _
  rw [execCometAckReceive, if_neg hok, if_pos ha]

/-- After 100 µs without an acknowledgement the messages sent are given up (R308). -/
theorem exec_cometAckTimeout {u : State} (hx : (s.pair (pairKey p n)).acked ≠ (s.pair (pairKey p n)).next)
    (ht : (s.pair (pairKey p n)).lastAck + 100000 ≤ s.now / 16)
    (hu : u = (s.flag Page.dec F.DEC_STATUS_ACK_TIMEOUT).logIt Cause.cometAckTimeout p (gid 11 2047) 0) :
    exec (.cometAckTimeout p n) s = .next ((u.setPair (pairKey p n) { s.pair (pairKey p n) with
      acked := (s.pair (pairKey p n)).next, lastAck := u.now / 16 }).cometDrain p n (s.pair (pairKey p n)).wait.length) := by
  subst hu
  exact congrArg Host.Outcome.next (if_pos ⟨hp, hn, hx, ht⟩)

end

/-! ### The external decoder -/

/-- A frame update that meets R312: its partition runs in the update's epoch, and the decoder's node sends it for an
outstanding round and a frame of that partition. -/
structure State.UpdateGood (s : State) (src v : Nat) : Prop where
  part : v % 8 < 5
  live : s.idle (v % 8) = false
  epoch : v / 8 % 16 = s.epoch (v % 8)
  node : src = s.g Page.dec F.DEC_DECODER_NODE
  round : (s.gath (v / 2 ^ 42 % 64)).out.any (fun o => o.1 = v / 2 ^ 7 % 65536) = true
  frame : s.frameOwner (v / 2 ^ 29 % 1024) = v % 8

/-- A word taken from those that wait changes no register, no gather unit and no fuse, so an update stays good. -/
theorem State.UpdateGood.takeWord {s : State} {src v : Nat} (h : s.UpdateGood src v) (typ : Nat) (w : W64) :
    (s.takeWord typ w).UpdateGood src v :=
  ⟨h.part, h.live, h.epoch, h.node, h.round, h.frame⟩

/-- A good update that does not end its round toggles its frame, and no more (R312). -/
theorem State.update_of_good {s : State} {src : Nat} {w : W64} (h : s.UpdateGood src w.toNat)
    (hl : w.toNat / 2 ^ 41 % 2 = 0) :
    s.update src w = s.toggle (w.toNat / 2 ^ 29 % 1024) (w.toNat / 2 ^ 39 % 4) := by
  obtain ⟨hp, hi, he, hn, hr, hf⟩ := h
  have hlive : ¬ (5 ≤ w.toNat % 8 ∨ s.idle (w.toNat % 8) = true ∨ w.toNat / 8 % 16 ≠ s.epoch (w.toNat % 8)) := by
    simp [hp, hi, he]
  have hours : ¬ (src ≠ s.g Page.dec F.DEC_DECODER_NODE
      ∨ ¬ (s.gath (w.toNat / 2 ^ 42 % 64)).out.any (fun o => o.1 = w.toNat / 2 ^ 7 % 65536) = true
      ∨ s.frameOwner (w.toNat / 2 ^ 29 % 1024) ≠ w.toNat % 8) :=
    fun h => h.elim (· hn) (·.elim (· hr) (· hf))
  rw [State.update]
  dsimp only
  rw [if_neg hlive, if_neg hours, if_neg (by rw [hl]; decide)]

theorem exec_decoderUpdate {s : State} (hm : s.pwr.mode ≠ .off) (src : Nat) (w : W64) :
    exec (.decoderUpdate src w) s = .next ((s.takeWord 2 w).update src w) :=
  congrArg Host.Outcome.next (if_neg hm)

/-- A round unresolved at its barrier marks its shot; without LATE_EN it asks for no entry (R313). -/
theorem exec_frameBarrierPass_quiet {s : State} {g r : Nat} (hr : lateRound (s.tk (s.guPart g)) (s.gath g).out = some r)
    (he : s.on (Page.gu g) F.GU_CTRL_LATE_EN = false) :
    exec (.frameBarrierPass g) s = .next ((s.setGath g { s.gath g with
      out := (s.gath g).out.map (fun o => if o.1 = r then (r, 0) else o) }).mark (s.guPart g) 16) := by
  change execFrameBarrierPass g s = _
  rw [execFrameBarrierPass, hr]
  dsimp only
  rw [State.setGath_on, State.when_of_not (ne_true_of_eq_false he)]

/-- Settles O17: a gather completes or times out, the chain port reads an entry, Comet messages and their acknowledgements come
and go, an update toggles its frame, and a barrier passes. -/
theorem decisionEvents : Obligations.DecisionEvents := by
  unfold Obligations.DecisionEvents
  refine ⟨?complete, ?timeout, ?chain, ⟨?held, ?received⟩, ?ackSend, ?ackReceive, ?ackTimeout, ?update, ?barrier⟩
  case complete =>
    intro s g G l hg he hd ht
    rw [exec_gatherComplete hg he, State.guServe_of_due hd ht]
  case timeout =>
    intro s g hg he hn hm hd ht
    exact exec_gatherTimeout hg he hn hm hd ht
  case chain =>
    intro s k d p l hc ho
    exact exec_chainLookup_of_owned hc ho
  case held =>
    intro s w hm ht
    exact exec_cometReceive_of_standby hm ht w
  case received =>
    intro s w hm h1 h2
    exact exec_cometReceive_of_acting hm h1 h2 w
  case ackSend =>
    intro s p n hp hn hu ha hs
    exact exec_cometAckSend_of_count hp hn hu ha hs
  case ackReceive =>
    rintro s p n a _ hp hn hm rfl ha
    exact exec_cometAckReceive_of_sent hp hn hm ha
  case ackTimeout =>
    rintro s p n _ hp hn rfl hx ht
    exact ⟨_, rfl, exec_cometAckTimeout hp hn hx ht rfl⟩
  case update =>
    rintro s src w _ _ _ _ _ hm rfl rfl rfl rfl rfl hp hi he hn hr hf hl
    have hgood : s.UpdateGood src w.toNat := ⟨hp, hi, he, hn, hr, hf⟩
    rw [exec_decoderUpdate hm, State.update_of_good (hgood.takeWord 2 w) hl, State.takeWord]
  case barrier =>
    intro s g r hr he
    exact exec_frameBarrierPass_quiet hr he

end Sys2Proof.Machine
end

section
/-!
PROOFS. The acquisition chapter: its commands and register requests (R353, R354, R356), the mask memory (R344), and the events of
a capture unit, of its stream and of a group (R328 to R350), with the marker inputs (R351).
-/

namespace Sys2Proof.Machine
open Sys2Proof

/-! ### Commands and the requests of ACQ_CU_CTRL -/

theorem cAcqConfig_run (s : State) (p : Pkt) : cAcqConfig.run s p = (s.putImgs p (cuWords p.target)).succeed p := rfl

theorem cAcqMaskLoad_run (s : State) (p : Pkt) : cAcqMaskLoad.run s p
    = s.withData p (8 * p.n 1) (fun s b => s.maskWrite p.target (p.n 0) (chunks 8 (p.n 1) b)) := rfl

section
variable {s : State} {fn u : Nat} (hu : u < 32) (ho : s.Opens fn (Page.cu u))
include hu ho

/-- A unit that may arm arms for a request by register, with no packet owed its completion (R333, R354). -/
theorem exec_acqCuArm_of_ready (ha : s.cuArmRefusal u = none) : exec (.acqCuArm fn u) s = .next (s.cuArm u none) := by
  change execAcqCuArm fn u s = _
  rw [execAcqCuArm, if_pos hu, State.onWrite_of_opens ho, State.when_of ha]

theorem exec_acqCuStop : exec (.acqCuStop fn u) s = .next (s.cuStop u) := by
  change execAcqCuStop fn u s = _
  rw [execAcqCuStop, if_pos hu, State.onWrite_of_opens ho]

theorem exec_acqCuSwTrig : exec (.acqCuSwTrig fn u) s = .next (s.cuTrigger u (s.cuNow u) 0 false) := by
  change execAcqCuSwTrig fn u s = _
  rw [execAcqCuSwTrig, if_pos hu, State.onWrite_of_opens ho]

end

/-! ### The mask memory by its window -/

theorem State.maskWrite_one (s : State) (q e v : Nat) : s.maskWrite q e [v]
    = { s with acq.mask := s.acq.mask.set 0 (q * 2048 + e) (BitVec.ofNat 64 v) } := rfl

/-- A write of ACQ_MASK_HI stores the entry with the low half held for it, where no unit that runs uses it, and ADDR
advances (R15, R344). -/
theorem exec_acqMaskHiAccess_write {s : State} {fn q : Nat} (hq : q < 4) (ho : s.Opens fn (Page.acqq q + 0x208))
    (hm : s.maskUsed q (s.g (Page.acqq q) F.ACQ_MASK_ADDR_ADDR) = false) (w : Word) :
    exec (.acqMaskHiAccess fn q (some w)) s = .next ((s.maskWrite q (s.g (Page.acqq q) F.ACQ_MASK_ADDR_ADDR)
      [(s.heldWr.get 0 (holdKey fn (Page.acqq q + 0x208 - 4))).toNat + w.toNat * 2 ^ 32]).maskNext q) := by
  change execAcqMaskHiAccess fn q (some w) s = _
  rw [execAcqMaskHiAccess, if_neg (Nat.not_le.2 hq)]
  dsimp only
  rw [State.onWrite_of_opens ho, if_neg (ne_true_of_eq_false hm)]

/-- A read of ACQ_MASK_HI returns the half that the read of the low one has held, and ADDR advances (R15, R344). -/
theorem exec_acqMaskHiAccess_read {s : State} {fn q : Nat} (hq : q < 4) (ha : s.Answers fn (Page.acqq q + 0x208)) :
    exec (.acqMaskHiAccess fn q none) s
      = .next ({ s with pins.rdata := s.heldRd.get 0 (holdKey fn (Page.acqq q + 0x208)) }.maskNext q) := by
  change execAcqMaskHiAccess fn q none s = _
  rw [execAcqMaskHiAccess, if_neg (Nat.not_le.2 hq)]
  dsimp only
  rw [State.onRead_of_answers ha]

/-- Settles O24: each command runs to its completion, ACQ_ARM to the arming that completes it, and each access of a unit or of
the mask window comes to the operation that it names. -/
theorem captureCommands : Obligations.CaptureCommands := by
  unfold Obligations.CaptureCommands
  refine ⟨?config, ?group, ?marker, ?ring, ⟨?arm, ?armReg⟩, ⟨?stop, ?stopReg⟩, ⟨?trigger, ?triggerReg⟩, ?fetch, ?load,
    ⟨?maskWrite, ?maskRead⟩⟩
  case config =>
    intro s p y h
    exact runs_of_plain (c := cAcqConfig) (eff := (·.putImgs y (cuWords y.target))) rfl h (cAcqConfig_run _ y)
  case group =>
    intro s p y h
    exact runs_of_plain (c := cAcqGroupSet) rfl h rfl
  case marker =>
    intro s p y h
    exact runs_of_plain (c := cAcqKConfig) rfl h rfl
  case ring =>
    intro s p y h
    exact runs_of_plain (c := cStrRingSet) rfl h rfl
  case arm =>
    intro s p y h
    exact congrArg Host.Outcome.next (command_inHand (c := cAcqArm) h)
  case armReg =>
    intro s fn u hu ho ha
    exact exec_acqCuArm_of_ready hu ho ha
  case stop =>
    intro s p y h
    exact runs_of_plain (c := cAcqStop) rfl h rfl
  case stopReg =>
    intro s fn u hu ho
    exact exec_acqCuStop hu ho
  case trigger =>
    intro s p y h
    exact runs_of_plain (c := cAcqTrigger) rfl h rfl
  case triggerReg =>
    intro s fn u hu ho
    exact exec_acqCuSwTrig hu ho
  case fetch =>
    intro s p y h
    exact runs_of_plain (c := cAcqFetch) rfl h rfl
  case load =>
    intro s p y b h hb
    refine runs_of_plain (c := cAcqMaskLoad) rfl h ?_
    rw [cAcqMaskLoad_run, State.withData_of_data hb]
    rfl
  case maskWrite =>
    intro s fn q w hq ho hm
    rw [exec_acqMaskHiAccess_write hq ho hm, State.maskWrite_one]
  case maskRead =>
    intro s fn q hq ha
    exact exec_acqMaskHiAccess_read hq ha

/-! ### Events of a unit whose module runs

Each comes after the samples of the unit have come up to the present.
-/

section
variable {s : State} {u : Nat} (hu : u < 32) (hs : s.serving = true)
include hu hs

theorem State.cuLive_of_serving : s.cuLive u = true := by simp [State.cuLive, hu, hs]

theorem exec_triggerArrival (smp : List AdcCode) (ts : List Trig) :
    exec (.triggerArrival u smp ts) s = .next ((s.fed u smp).cuTriggers u ts) :=
  congrArg Host.Outcome.next (if_pos (State.cuLive_of_serving hu hs))

theorem exec_streamGap (smp : List AdcCode) : exec (.streamGap u smp) s = .next (s.fed u smp) :=
  congrArg Host.Outcome.next (if_pos (State.cuLive_of_serving hu hs))

variable {f : State} {smp : List AdcCode} (hf : f = s.fed u smp)
include hf

/-- A triggered unit whose samples are all in has captured (R333). -/
theorem exec_captureComplete_of_whole (h2 : f.cuState u = 2) (hw : f.capWhole u = true) :
    exec (.captureComplete u smp) s = .next (f.capDone u) := by
  change execCaptureComplete u smp s = _
  rw [execCaptureComplete, if_pos (State.cuLive_of_serving hu hs), ← hf]
  exact congrArg Host.Outcome.next (if_pos ⟨h2, hw⟩)

/-- The dead time of a trigger ends once the count of the unit's partition has come to its end (R335). -/
theorem exec_rearmEnd_of_due {t st : Nat} (hr : (f.cu u).rearm = some (t, st)) (ht : t ≤ (f.cnt (f.cuPart u)).toNat) :
    exec (.rearmEnd u smp) s = .next (f.deadOver u) := by
  change execRearmEnd u smp s = _
  rw [execRearmEnd, if_pos (State.cuLive_of_serving hu hs), ← hf]
  dsimp only
  rw [hr]
  exact congrArg Host.Outcome.next (if_pos ht)

/-- The oldest violation found is taken from those that wait, and acts (R345, R346). -/
theorem exec_maskViolation_of_found {t g : Nat} {first : Bool} {l : List (Nat × Nat × Bool)}
    (hv : (f.cu u).viols = (t, g, first) :: l) : exec (.maskViolation u smp) s
      = .next (((f.setCu u { f.cu u with viols := l }).violate u t g first).cuStopCheck u) := by
  change execMaskViolation u smp s = _
  rw [execMaskViolation, if_pos (State.cuLive_of_serving hu hs), ← hf]
  dsimp only
  rw [hv]

/-- A stream under AUTO whose FIFO is more than three quarters full, and whose k has stood for 10 µs, goes to the next k, up to
K_MAX (R340). -/
theorem exec_rateChange_of_full (h5 : f.cuState u = 5) (ha : f.on (Page.cu u) F.ACQ_CU_SRC_AUTO = true)
    (hn : (f.cu u).kNew = none) (hroom : 3 * f.cuRoom u < 4 * f.fifoFill u)
    (hk : (f.cu u).k < f.g (Page.cu u) F.ACQ_CU_SRC_K_MAX) (ht : (f.cu u).changed + usecs 10 ≤ f.now) :
    exec (.rateChange u smp) s = .next (f.rateTo u ((f.cu u).k + 1)) := by
  have hidle : ¬ (f.cuState u ≠ 5 ∨ ¬ f.on (Page.cu u) F.ACQ_CU_SRC_AUTO = true ∨ (f.cu u).kNew.isSome = true) := by
    simp [h5, ha, hn]
  change execRateChange u smp s = _
  rw [execRateChange, if_pos (State.cuLive_of_serving hu hs), ← hf]
  dsimp only
  rw [if_neg hidle, if_pos hroom, if_pos ⟨hk, ht⟩]

/-- The open item closes FLUSH µs after its first sample (R338). -/
theorem exec_itemFlush_of_due {o : OpenItem} (ho : (f.cu u).opn = some o)
    (ht : o.first + usecs (max 1 (f.g (Page.cu u) F.STR_FLUSH_FLUSH)) ≤ (f.cnt (f.cuPart u)).toNat) :
    exec (.itemFlush u smp) s = .next (f.closeItem u) := by
  change execItemFlush u smp s = _
  rw [execItemFlush, if_pos (State.cuLive_of_serving hu hs), ← hf]
  dsimp only
  rw [ho]
  exact congrArg Host.Outcome.next (if_pos ht)

end

/-! ### The consumer of a stream ring -/

theorem exec_strConsWrite {s : State} {fn u : Nat} (hu : u < 32) (ho : s.Opens fn (Page.cu u + 0x94)) (v : Word) :
    exec (.strConsWrite fn u v) s = .next (s.strConsume u v.toNat) := by
  change execStrConsWrite fn u v s = _
  rw [execStrConsWrite, if_pos hu, State.onWrite_of_opens ho]

/-! ### Group messages -/

section
variable {s v : State} {w : W64} (hs : s.serving = true) (hv : v = s.takeWord 4 w) (hp : nPart w < 5)
include hs hv hp

/-- A message of another epoch is discarded and counted (R348). -/
theorem exec_groupMessage_of_stale (he : gmEpoch w ≠ v.epoch (nPart w)) (t : W64) :
    exec (.groupMessage w t) s = .next (v.bump (Page.grp 0) F.ACQ_FIRE_STALE) := by
  change execGroupMessage w t s = _
  rw [execGroupMessage, if_neg (not_not_intro hs), ← hv]
  dsimp only
  rw [if_neg (Nat.not_le.2 hp), if_pos he]

/-- A message of the present epoch, from a node of an enabled group of its partition, acts (R348 to R350). -/
theorem exec_groupMessage_of_member (he : gmEpoch w = v.epoch (nPart w)) (hg : v.grpPart (gmGroup w) = nPart w)
    (hen : v.on (Page.grp (gmGroup w)) F.ACQ_GRP_CTRL_EN = true) (hn : gmNode w ∈ v.grpNodes (gmGroup w)) (t : W64) :
    exec (.groupMessage w t) s
      = .next (v.grpIn (gmGroup w) (gmNode w) (gmType w) t.toNat (gmFrac w) (gmFv w)) := by
  have hours : ¬ (v.grpPart (gmGroup w) ≠ nPart w ∨ ¬ v.on (Page.grp (gmGroup w)) F.ACQ_GRP_CTRL_EN = true
      ∨ gmNode w ∉ v.grpNodes (gmGroup w)) :=
    fun h => h.elim (· hg) (·.elim (· hen) (· hn))
  change execGroupMessage w t s = _
  rw [execGroupMessage, if_neg (not_not_intro hs), ← hv]
  dsimp only
  rw [if_neg (Nat.not_le.2 hp), if_neg (not_not_intro he), if_neg hours]

end

/-! ### Marker inputs -/

/-- A rising edge at a port that is an input publishes on its channel, where EV_EN and EDGE select it (R351). -/
theorem exec_markerInputEdge_rising {s : State} {k : Nat} (hk : k < 64) (hi : s.kIsInput k = true) (hs : s.serving = true)
    (hen : wget (s.reg (kCfgAt k)) 2 2 = 1)
    (he : wget (s.reg (kCfgAt k)) 4 3 = 0 ∨ wget (s.reg (kCfgAt k)) 4 3 = 2) :
    exec (.markerInputEdge k true) s
      = .next (State.publish { s with acq.kin := s.acq.kin.set false k true } 0 (wget (s.reg (kCfgAt k)) 15 8)) := by
  have hport : ¬ (64 ≤ k ∨ ¬ s.kIsInput k = true) := by simp [hk, hi]
  change execMarkerInputEdge k true s = _
  rw [execMarkerInputEdge, if_neg hport]
  exact congrArg Host.Outcome.next (if_pos ⟨hs, hen, he.elim (fun h0 => .inr (.inl ⟨h0, rfl⟩)) .inl⟩)

/-- Settles O25: the events of a unit come to the operation that they name, once its samples are in; a ring's consumer moves, an
item is written, a group message is counted or acts, and an edge at a marker input publishes. -/
theorem captureEvents : Obligations.CaptureEvents := by
  unfold Obligations.CaptureEvents
  refine ⟨?trigger, ?complete, ?rearm, ?violation, ?rate, ?gap, ?flush, ?consume, ?write, ⟨?stale, ?member⟩, ?marker⟩
  case trigger =>
    intro s u smp ts hu hs
    exact exec_triggerArrival hu hs smp ts
  case complete =>
    intro s f u smp hu hs hf h2 hw
    exact exec_captureComplete_of_whole hu hs hf h2 hw
  case rearm =>
    intro s f u t st smp hu hs hf hr ht
    exact exec_rearmEnd_of_due hu hs hf hr ht
  case violation =>
    intro s f u t g first l smp hu hs hf hv
    exact exec_maskViolation_of_found hu hs hf hv
  case rate =>
    intro s f u smp hu hs hf h5 ha hn hroom hk ht
    exact exec_rateChange_of_full hu hs hf h5 ha hn hroom hk ht
  case gap =>
    intro s u smp hu hs
    exact exec_streamGap hu hs smp
  case flush =>
    intro s f u smp o hu hs hf ho ht
    exact exec_itemFlush_of_due hu hs hf ho ht
  case consume =>
    intro s fn u v hu ho
    exact exec_strConsWrite hu ho v
  case write =>
    intro s u hu
    exact congrArg Host.Outcome.next (if_pos hu)
  case stale =>
    intro s w t hs hp he
    exact exec_groupMessage_of_stale hs rfl hp he t
  case member =>
    intro s v w t hs hv hp he hg hen hn
    exact exec_groupMessage_of_member hs hv hp he hg hen hn t
  case marker =>
    rintro s _ k _ hk hi rfl hs rfl hen he
    exact exec_markerInputEdge_rising hk hi hs hen he

end Sys2Proof.Machine
end

section
/-!
PROOFS. The bias chapter: its commands and register requests (R363 to R365, R374, R393 to R396), and the releases of its queues,
the ends of its slews and span changes, and its conditions (R361, R364, R365, R368 to R371).
-/

namespace Sys2Proof.Machine
open Sys2Proof

/-! ### Register requests -/

theorem exec_biasCodeWrite {s : State} {fn b : Nat} (hb : b < 512) (ho : s.Opens fn (Page.bias b + 4)) (v : Word) :
    exec (.biasCodeWrite fn b v) s = .next (s.biasWrite b (codeOf v)) := by
  change execBiasCodeWrite fn b v s = _
  rw [execBiasCodeWrite, if_pos hb, State.onWrite_of_opens ho]

section
variable {s : State} {fn b : Nat} (hb : b < 512) (ho : s.Opens fn (qcmdAt b))
include hb ho

theorem exec_biasQcmdStart : exec (.biasQcmdStart fn b) s = .next (s.biasClockStart b) := by
  change execBiasQcmdStart fn b s = _
  rw [execBiasQcmdStart, if_pos hb, State.onWrite_of_opens ho]

theorem exec_biasQcmdStop : exec (.biasQcmdStop fn b) s = .next (s.biasClockStop b) := by
  change execBiasQcmdStop fn b s = _
  rw [execBiasQcmdStop, if_pos hb, State.onWrite_of_opens ho]

theorem exec_biasQcmdFlush : exec (.biasQcmdFlush fn b) s = .next (s.biasFlush b) := by
  change execBiasQcmdFlush fn b s = _
  rw [execBiasQcmdFlush, if_pos hb, State.onWrite_of_opens ho]

theorem exec_biasQcmdRestore : exec (.biasQcmdRestore fn b) s = .next (s.biasRestore b) := by
  change execBiasQcmdRestore fn b s = _
  rw [execBiasQcmdRestore, if_pos hb, State.onWrite_of_opens ho]

end

/-- A write of BIAS_QSTART starts the queue clocks of the outputs whose bits it sets (R364, R396). -/
theorem exec_biasQstartWrite {s : State} {fn q i : Nat} (hq : q < 4) (hi : i < 4)
    (ho : s.Opens fn (Page.biasq q + 0x10 + 4 * i)) (v : Word) :
    exec (.biasQstartWrite fn q i v) s = .next (forEach (((List.range 32).filter (fun k => v.getLsbD k)).map
      (128 * q + 32 * i + ·)) s State.biasClockStart) := by
  change execBiasQstartWrite fn q i v s = _
  rw [execBiasQstartWrite, if_pos ⟨hq, hi⟩, State.onWrite_of_opens ho]

/-- Settles O26: each command runs to its completion, BIAS_CONFIG to its completion or its wait for a span change, and each
register request comes to the operation that it names. -/
theorem biasCommands : Obligations.BiasCommands := by
  unfold Obligations.BiasCommands
  refine ⟨?config, ⟨?set, ?codeWrite⟩, ?load, ?start, ?stop, ?restore, ?policy, ⟨?qcmd, ?qstart⟩⟩
  case config =>
    rintro s t p y pg h rfl rfl
    exact congrArg Host.Outcome.next (command_inHand (c := cBiasConfig) h)
  case set =>
    intro s p y h
    exact runs_of_plain (c := cBiasSet) rfl h rfl
  case codeWrite =>
    intro s fn b v hb ho
    exact exec_biasCodeWrite hb ho v
  case load =>
    intro s p y h
    exact runs_of_plain (c := cBiasQueueLoad) rfl h rfl
  case start =>
    intro s p y h
    exact runs_of_plain (c := cBiasQueueStart) rfl h rfl
  case stop =>
    intro s p y h
    exact runs_of_plain (c := cBiasQueueStop) rfl h rfl
  case restore =>
    intro s p y h
    exact runs_of_plain (c := cBiasRestore) rfl h rfl
  case policy =>
    intro s p y h
    exact runs_of_plain (c := cBiasPolicySet) rfl h rfl
  case qcmd =>
    intro s fn b hb ho
    exact ⟨exec_biasQcmdStart hb ho, exec_biasQcmdStop hb ho, exec_biasQcmdFlush hb ho, exec_biasQcmdRestore hb ho⟩
  case qstart =>
    intro s fn q i v hq hi ho
    exact exec_biasQstartWrite hq hi ho v

/-! ### Releases, ramps and span changes -/

/-- A ramp that nothing follows leaves the output at rest (R361). -/
theorem State.rampEnd_of_last {s : State} {b : Nat} (hn : (s.bias b).next = 0) :
    s.rampEnd b = (s.unflag (Page.bias b) F.BIAS_STATUS_RAMPING).setBias b
      { s.bias b with slewing := false, still := s.now } := by
  simp [State.rampEnd, State.now, hn]

section
variable {s : State} {b : Nat} (hb : b < 512)
include hb

/-- A release by the queue clock moves the clock on, and takes the oldest entry or counts an underrun (R364, R365). -/
theorem exec_queueClockRelease_of_due {t : Nat} (hq : s.g (Page.bias b) F.BIAS_CTRL_QMODE = 1)
    (hc : (s.bias b).clock = some t) (ht : t ≤ s.now) {v : State}
    (hv : v = s.setBias b { s.bias b with clock := some (t + s.biasPeriod b) }) :
    exec (.queueClockRelease b) s = .next (if (s.bias b).queue = []
      then (v.flag (Page.bias b) F.BIAS_STATUS_UNDERRUN).bump (Page.bias b) F.BIAS_UNDERRUNS else v.biasPop b) := by
  subst hv
  have hmode : ¬ (512 ≤ b ∨ s.g (Page.bias b) F.BIAS_CTRL_QMODE ≠ 1) := by simp [hb, hq]
  change execQueueClockRelease b s = _
  rw [execQueueClockRelease, if_neg hmode]
  dsimp only
  rw [hc]
  exact congrArg Host.Outcome.next (if_neg (Nat.not_lt.2 ht))

/-- An event of the pacing channel releases an entry where none is held and the last release is 10 µs past (R365). -/
theorem exec_paceEvent_of_free (hq : s.g (Page.bias b) F.BIAS_CTRL_QMODE = 2)
    (he : s.evr.now.get false (s.g (Page.bias b) F.BIAS_QEVT_PACE_CHAN) = true)
    (hm : s.maySubscribe (s.biasOwner b) (s.g (Page.bias b) F.BIAS_QEVT_PACE_CHAN) = true)
    (hh : (s.bias b).held = false) (hl : ∀ t, (s.bias b).lastRel = some t → t + usecs 10 ≤ s.now) :
    exec (.paceEvent b) s = .next (s.paceGo b) := by
  have hheard : ¬ (s.g (Page.bias b) F.BIAS_CTRL_QMODE ≠ 2
      ∨ ¬ s.evr.now.get false (s.g (Page.bias b) F.BIAS_QEVT_PACE_CHAN) = true
      ∨ ¬ s.maySubscribe (s.biasOwner b) (s.g (Page.bias b) F.BIAS_QEVT_PACE_CHAN) = true) := by
    simp [hq, he, hm]
  change execPaceEvent b s = _
  rw [execPaceEvent, if_neg (Nat.not_le.2 hb)]
  dsimp only
  rw [if_neg hheard, if_neg (ne_true_of_eq_false hh)]
  cases hr : (s.bias b).lastRel with
  | none => rfl
  | some t =>
    have ht := hl t hr
    have hpast : t ≠ s.now := (Nat.lt_of_lt_of_le (Nat.lt_add_of_pos_right (by decide)) ht).ne
    exact congrArg Host.Outcome.next ((if_neg hpast).trans (if_neg (Nat.not_lt.2 ht)))

/-- A held event releases an entry 10 µs after the release before it (R365). -/
theorem exec_paceHoldRelease_of_due {t : Nat} (hh : (s.bias b).held = true) (hl : (s.bias b).lastRel = some t)
    (ht : t + usecs 10 ≤ s.now) : exec (.paceHoldRelease b) s = .next (s.paceGo b) := by
  change execPaceHoldRelease b s = _
  rw [execPaceHoldRelease, if_neg (Nat.not_le.2 hb)]
  dsimp only
  rw [hh, hl]
  exact congrArg Host.Outcome.next (if_pos ht)

theorem exec_biasSlewEnd (hs : (s.bias b).slewing = true) (hd : (s.bias b).out = (s.bias b).dest) :
    exec (.biasSlewEnd b) s = .next (s.rampEnd b) :=
  congrArg Host.Outcome.next (if_pos ⟨hb, hs, hd⟩)

/-- The range has switched: the output stands at zero in its new span, and the commands that wait for it end (R368). -/
theorem exec_spanSwitchEnd_of_due {t : Nat} (hh : (s.bias b).holdTo = some t) (ht : t ≤ s.now) :
    exec (.spanSwitchEnd b) s
      = .next ((((s.setBias b { s.bias b with holdTo := none, out := 0, dest := 0 }).setBiasCode b 0).unflag
        (Page.bias b) F.BIAS_STATUS_SPAN_CHANGING).biasSettle b
          (if s.on (Page.bias b) F.BIAS_STATUS_DARK then St.targetDark else St.success)) := by
  change execSpanSwitchEnd b s = _
  rw [execSpanSwitchEnd, if_neg (Nat.not_le.2 hb)]
  dsimp only
  rw [hh]
  exact congrArg Host.Outcome.next (if_neg (Nat.not_lt.2 ht))

end

/-! ### Conditions -/

/-- A condition reported as it stands changes nothing (R370). -/
theorem State.condIs_of_same {s : State} {b : Nat} {live : Fld} {v : Bool} (h : s.on (Page.bias b) live = v) (cause : Nat)
    (seen : Fld) : s.condIs b cause live seen v = s :=
  if_pos h.symm

/-- A condition that arises is reported (R370). -/
theorem State.condIs_of_rise {s : State} {b : Nat} {live : Fld} (h : s.on (Page.bias b) live = false) (cause : Nat)
    (seen : Fld) : s.condIs b cause live seen true = s.condSet b cause live seen := by
  simp [State.condIs, h]

section
variable {s : State} {b : Nat} (hb : b < 512)
include hb

/-- Compliance that has held for 100 µs without an open loop, at a connected output, is reported (R369, R370). -/
theorem exec_biasConditionReport_compliance {u : State} (hc : (s.bias b).conn = true)
    (ho : s.on (Page.bias b) F.BIAS_STATUS_OPEN_LOOP = false) (hn : (s.bias b).comp = false)
    (hl : s.on (Page.bias b) F.BIAS_STATUS_COMPLIANCE = false)
    (hu : u = s.setBias b { s.bias b with comp := true, open_ := false, compAt := s.now - usecs 100 }) :
    exec (.biasConditionReport b true false) s
      = .next (u.condSet b Cause.biasCompliance F.BIAS_STATUS_COMPLIANCE F.BIAS_STATUS_COMP_SEEN) := by
  have hou : u.on (Page.bias b) F.BIAS_STATUS_OPEN_LOOP = false := hu ▸ ho
  have hlu : u.on (Page.bias b) F.BIAS_STATUS_COMPLIANCE = false := hu ▸ hl
  rw [← State.condIs_of_rise hlu]
  conv_rhs => rw [← State.condIs_of_same hou Cause.biasOpenLoop F.BIAS_STATUS_OPEN_SEEN]
  subst hu
  change execBiasConditionReport b true false s = _
  rw [execBiasConditionReport, if_neg (Nat.not_le.2 hb)]
  simp [hc, hn]

/-- Compliance that outlasts its window loses the output (R371). -/
theorem exec_complianceWindowExpire_of_due (hc : (s.bias b).comp = true)
    (ht : (s.bias b).compAt + msecs (max 1 (s.g (Page.bias b) F.BIAS_COMP_WINDOW_WINDOW)) ≤ s.now) :
    exec (.complianceWindowExpire b) s = .next (s.biasLost b Cause.biasCompliance) :=
  congrArg Host.Outcome.next (if_pos ⟨hb, hc, ht⟩)

end

/-- Settles O27: each release, end and condition comes to the operation that it names. -/
theorem biasEvents : Obligations.BiasEvents := by
  unfold Obligations.BiasEvents
  refine ⟨?clock, ?pace, ?hold, ?slew, ?span, ?condition, ?window⟩
  case clock =>
    intro s v b t hb hq hc ht hv
    exact exec_queueClockRelease_of_due hb hq hc ht hv
  case pace =>
    intro s b hb hq he hm hh hl
    rw [exec_paceEvent_of_free hb hq he hm hh hl, State.paceGo]
  case hold =>
    intro s b t hb hh hl ht
    rw [exec_paceHoldRelease_of_due hb hh hl ht, State.paceGo]
  case slew =>
    intro s b hb hs hd hn
    rw [exec_biasSlewEnd hb hs hd, State.rampEnd_of_last hn]
  case span =>
    intro s b t hb hh ht
    exact exec_spanSwitchEnd_of_due hb hh ht
  case condition =>
    rintro s _ b hb hc ho hn hl rfl
    exact exec_biasConditionReport_compliance hb hc ho hn hl rfl
  case window =>
    intro s b hb hc ht
    rw [exec_complianceWindowExpire_of_due hb hc ht, State.biasLost]

end Sys2Proof.Machine
end

section
/-!
PROOFS. The monitor chapter: its commands and register requests (R380 to R385, R389, R391, R393, R397 to R400), the starts of its
converters, their references and self-calibration, and the results that they give and that are read (R379 to R390).
-/

namespace Sys2Proof.Machine
open Sys2Proof

/-! ### Register requests -/

section
variable {s : State} {fn m : Nat} (hm : m < 64) (ho : s.Opens fn (monCmdAt m))
include hm ho

theorem exec_monCmdStart : exec (.monCmdStart fn m) s = .next (s.monSoftStart m) := by
  change execMonCmdStart fn m s = _
  rw [execMonCmdStart, if_pos hm, State.onWrite_of_opens ho]

theorem exec_monCmdStop : exec (.monCmdStop fn m) s = .next (s.monStop m) := by
  change execMonCmdStop fn m s = _
  rw [execMonCmdStop, if_pos hm, State.onWrite_of_opens ho]

theorem exec_monCmdInject : exec (.monCmdInject fn m) s = .next (s.monInject m) := by
  change execMonCmdInject fn m s = _
  rw [execMonCmdInject, if_pos hm, State.onWrite_of_opens ho]

end

/-- Software fires the common trigger where software is its source (R383). -/
theorem State.commonFire_of_software {s : State} (h : s.g Page.monc F.MON_COMMON_CTRL_SRC = 0) :
    s.commonFire = s.monCommon :=
  if_pos h

section
variable {s : State} {fn : Nat} (ho : s.Opens fn (Page.monc + 8))
include ho

theorem exec_monCommonCmdFire : exec (.monCommonCmdFire fn) s = .next s.commonFire := by
  change execMonCommonCmdFire fn s = _
  rw [execMonCommonCmdFire, State.onWrite_of_opens ho]

theorem exec_monCommonCmdRun : exec (.monCommonCmdRun fn) s = .next { s with bm.commonRun := some s.now } := by
  change execMonCommonCmdRun fn s = _
  rw [execMonCommonCmdRun, State.onWrite_of_opens ho]

theorem exec_monCommonCmdHalt : exec (.monCommonCmdHalt fn) s = .next { s with bm.commonRun := none } := by
  change execMonCommonCmdHalt fn s = _
  rw [execMonCommonCmdHalt, State.onWrite_of_opens ho]

end

theorem exec_monCalCtrlStart {s : State} {fn q : Nat} (hq : q < 4) (ho : s.Opens fn (Page.monq q + 0x10)) :
    exec (.monCalCtrlStart fn q) s = .next (s.calStart q) := by
  change execMonCalCtrlStart fn q s = _
  rw [execMonCalCtrlStart, if_pos hq, State.onWrite_of_opens ho]

/-! ### Commands on the test DAC, on a reference and on a calibration -/

theorem cMonTdacSet_run (s : State) (p : Pkt) :
    cMonTdacSet.run s p = (s.putImg (Page.monq p.target + 0x18) (p.w 0)).succeed p := by
  rw [cMonTdacSet]

@[simp] theorem State.inRun_on (s : State) (p : Pkt) (pg : Nat) (f : Fld) : (s.inRun p).on pg f = s.on pg f := by
  rw [State.on, State.inRun_g, State.on]

/-- MON_REF_SET outside a calibration, of a reference that then settles, waits for its settling (R380, R389). -/
theorem cMonRefSet_run_of_settling {s t : State} {p : Pkt}
    (hb : s.on (Page.monq p.target) F.MON_CAL_STATUS_BUSY = false) (ht : t = s.monRef p.target (wget (p.w 0) 1 0))
    (hs : t.on (Page.monq p.target) F.MON_REF_STATUS_SETTLING = true) :
    cMonRefSet.run s p = { t with
      bm.refOwed := t.bm.refOwed.set [] p.target (t.bm.refOwed.get [] p.target ++ [(p.sq, p.tag)]) } := by
  subst ht
  exact (if_neg (ne_true_of_eq_false hb)).trans (if_pos hs)

/-- MON_CALIBRATE where no calibration runs starts one, which completes it (R389). -/
theorem cMonCalibrate_run_of_idle {s : State} {p : Pkt} (hb : s.on (Page.monq p.target) F.MON_CAL_STATUS_BUSY = false) :
    cMonCalibrate.run s p = { s.calStart p.target with
      bm.calOwed := (s.calStart p.target).bm.calOwed.set none p.target p.who } :=
  if_neg (ne_true_of_eq_false hb)

/-- MON_CALIBRATE where a calibration runs has no effect (R389). -/
theorem cMonCalibrate_run_of_busy {s : State} {p : Pkt} (hb : s.on (Page.monq p.target) F.MON_CAL_STATUS_BUSY = true) :
    cMonCalibrate.run s p = s.succeed p :=
  if_pos hb

/-- Settles O28: each command runs to its completion, MON_REF_SET and MON_CALIBRATE to the settling and the calibration that
complete them, and each register request comes to the operation that it names. -/
theorem monitorCommands : Obligations.MonitorCommands := by
  unfold Obligations.MonitorCommands
  refine ⟨?config, ⟨?start, ?stop, ?inject⟩, ?cmd, ?commonSet, ?commonFire, ?commonCmd, ?ref, ?tdac,
    ⟨?calibrate, ?calibrating, ?calStart⟩⟩
  case config =>
    rintro s _ p y h rfl
    exact runs_of_plain (c := cMonConfig) rfl h rfl
  case start =>
    intro s p y h
    exact runs_of_plain (c := cMonStart) rfl h rfl
  case stop =>
    intro s p y h
    exact runs_of_plain (c := cMonStop) rfl h rfl
  case inject =>
    intro s p y h
    exact runs_of_plain (c := cMonInject) rfl h rfl
  case cmd =>
    intro s fn m hm ho
    exact ⟨exec_monCmdStart hm ho, exec_monCmdStop hm ho, exec_monCmdInject hm ho⟩
  case commonSet =>
    rintro s _ p y h rfl
    exact runs_of_plain (c := cMonCommonSet) rfl h rfl
  case commonFire =>
    intro s p y h hs
    refine runs_of_plain (c := cMonCommonFire) rfl h ?_
    exact congrArg (State.succeed · y) (State.commonFire_of_software ((s.inRun_g y _ _).trans hs))
  case commonCmd =>
    intro s fn ho
    refine ⟨fun hs => ?_, exec_monCommonCmdRun ho, exec_monCommonCmdHalt ho⟩
    rw [exec_monCommonCmdFire ho, State.commonFire_of_software hs]
  case ref =>
    intro s t p y h hb _ ht hs
    rw [← cMonRefSet_run_of_settling ((s.inRun_on y _ _).trans hb) ht hs]
    exact congrArg Host.Outcome.next (command_inHand (c := cMonRefSet) h)
  case tdac =>
    intro s p y h
    exact runs_of_plain (c := cMonTdacSet) rfl h (cMonTdacSet_run _ y)
  case calibrate =>
    intro s p y h hb
    rw [← cMonCalibrate_run_of_idle ((s.inRun_on y _ _).trans hb)]
    exact congrArg Host.Outcome.next (command_inHand (c := cMonCalibrate) h)
  case calibrating =>
    intro s p y h hb
    exact runs_of_plain (c := cMonCalibrate) rfl h (cMonCalibrate_run_of_busy ((s.inRun_on y _ _).trans hb))
  case calStart =>
    intro s fn q hq ho
    exact exec_monCalCtrlStart hq ho

/-! ### References and calibration -/

section
variable {s : State} {q : Nat} (hq : q < 4)
include hq

/-- A reference that has settled completes the commands that wait for it (R379, R380). -/
theorem exec_monRefSettled_of_due (hs : s.on (Page.monq q) F.MON_REF_STATUS_SETTLING = true)
    (ht : s.bm.refAt.get 0 q ≤ s.now) :
    exec (.monRefSettled q) s = .next (({ s.unflag (Page.monq q) F.MON_REF_STATUS_SETTLING with
      bm.refOwed := s.bm.refOwed.set [] q [] }).settleAll (s.bm.refOwed.get [] q) St.success) :=
  congrArg Host.Outcome.next (if_pos ⟨hq, hs, ht⟩)

/-- A quadrant on the external reference shows whether it is within its range (R379). -/
theorem exec_extFault_of_external (hc : s.pwr.convOn = true) (hr : s.g (Page.monq q) F.MON_REF_SEL = 1) (fault : Bool) :
    exec (.extFault q fault) s = .next (s.p (Page.monq q) F.MON_REF_STATUS_EXT_FAULT (if fault then 1 else 0)) :=
  congrArg Host.Outcome.next (if_pos ⟨hq, hc, hr⟩)

/-- A calibration that has run for 18 ms leaves its factors, completes the command that waits for it, and lets held conversions
resume (R389). -/
theorem exec_monCalEnd_of_due {v : State} (hr : s.calRuns q = true) (ht : s.bm.calAt.get 0 q + msecs 18 ≤ s.now)
    (hv : v = ((forEach (monsOf q) s State.calFactors).flag (Page.monq q) F.MON_CAL_STATUS_CAL_VALID).unflag (Page.monq q)
      F.MON_CAL_STATUS_BUSY) :
    exec (.monCalEnd q) s = .next (forEach (monsOf q) (({ v with bm.calOwed := v.bm.calOwed.set none q none }).settle
      (s.bm.calOwed.get none q) St.success) State.calResume) := by
  subst hv
  exact congrArg Host.Outcome.next (if_pos ⟨hq, hr, ht⟩)

end

/-! ### Starts and results -/

section
variable {s : State} {m : Nat} (hm : m < 64)
include hm

theorem exec_monStartArrival_of_due (hd : s.startDue m = true) : exec (.monStartArrival m) s = .next (s.monStart m) :=
  congrArg Host.Outcome.next (if_pos ⟨hm, hd⟩)

/-- A regular conversion ends 500 ns after its sampling instant, and its burst goes on (R382, R385, R389). -/
theorem exec_conversionComplete_regular {v : State} {raw : Int} (hc : s.pwr.convOn = true) (hi : (s.mon m).injNow = false)
    (hr : (s.mon m).run = true) (hh : (s.mon m).held = false) (ht : (s.mon m).at_ + 8000 ≤ s.now)
    (hv : v = s.monDone m raw false (s.mon m).at_ (s.mon m).pos) :
    exec (.conversionComplete m raw) s = .next ((v.setMon m (v.monNext m)).calSettle (m / 16)) := by
  subst hv
  have hon : ¬ (64 ≤ m ∨ s.pwr.convOn = false) := by simp [hm, hc]
  change execConversionComplete m raw s = _
  rw [execConversionComplete, if_neg hon]
  dsimp only
  rw [if_neg (ne_true_of_eq_false hi)]
  exact congrArg Host.Outcome.next (if_pos ⟨hr, ne_true_of_eq_false hh, ht⟩)

/-- The read of a stamp whose code has been read gives what that read held for it, and the result becomes read (R15, R387). -/
theorem exec_monDataHiRead_of_loRead {v : State} {fn : Nat} (ha : s.Answers fn (Page.mon m + 0x48))
    (hl : (s.mon m).loRead = true)
    (hv : v = { s with pins.rdata := s.heldRd.get 0 (holdKey fn (Page.mon m + 0x48)) }) :
    exec (.monDataHiRead fn m) s
      = .next ((v.unflag (Page.mon m) F.MON_DATA_LO_VALID).setMon m { s.mon m with loRead := false }) := by
  subst hv
  change execMonDataHiRead fn m s = _
  rw [execMonDataHiRead, if_neg (Nat.not_le.2 hm), State.onRead_of_answers ha]
  exact congrArg Host.Outcome.next (if_pos hl)

end

/-- Settles O29: each start, settling, fault, end of a calibration and of a conversion, and each read of a stamp comes to the
operation that it names. -/
theorem monitorEvents : Obligations.MonitorEvents := by
  unfold Obligations.MonitorEvents
  refine ⟨?start, ?settled, ?fault, ?calEnd, ?complete, ?read⟩
  case start =>
    intro s m hm hd
    exact exec_monStartArrival_of_due hm hd
  case settled =>
    intro s q hq hs ht
    exact exec_monRefSettled_of_due hq hs ht
  case fault =>
    intro s q fault hq hc hr
    exact exec_extFault_of_external hq hc hr fault
  case calEnd =>
    intro s v q hq hr ht hv
    exact exec_monCalEnd_of_due hq hr ht hv
  case complete =>
    intro s v m raw hm hc hi hr hh ht hv
    exact exec_conversionComplete_regular hm hc hi hr hh ht hv
  case read =>
    intro s v fn m hm ha hl hv
    exact exec_monDataHiRead_of_loRead hm ha hl hv

end Sys2Proof.Machine
end

section
/-!
PROOFS. The queue of waiting commands and the front of it: no command touches it, and a step takes its front (log entry 1).
-/

namespace Sys2Proof.Machine
open Sys2Proof

/-- Settles O1: the step on a queue with a front. -/
theorem stepTakesTheFrontCommand : Obligations.StepTakesTheFrontCommand := by
  unfold Obligations.StepTakesTheFrontCommand
  exact fun _ _ _ => step_of_front

/-- A loss of input power leaves the queue of waiting commands. -/
theorem State.coldReset_pending (s : State) : s.coldReset.pending = s.pending := by
  obtain ⟨-, -, -, queue⟩ := s.coldReset_keeps
  exact queue

/-- Settles O49: what every command keeps has the queue in it, and a loss of input power keeps it too. -/
theorem commandsLeaveTheQueue : Obligations.CommandsLeaveTheQueue := by
  unfold Obligations.CommandsLeaveTheQueue
  intro i s t h
  by_cases hi : i = .powerLoss
  · rw [hi, exec_powerLoss] at h
    cases h
    exact s.coldReset_pending
  · exact (kept_of_exec hi h).queue

end Sys2Proof.Machine
end

section
/-!
PROOFS. The DDR4 address map of R403, read from its table: the channel-local regions, the interleaved region, and what lies
beyond them.
-/

namespace Sys2Proof.Machine
open Sys2Proof

/-- The capacity of a channel in service is 16 GiB from the first rank retired or moving on, and 32 GiB before (R403, R417). -/
theorem State.memC_eq_half_iff (s : State) : s.memC = 2 ^ 34 ↔ ∃ c < 4,
    s.g (Page.memCh c) F.MEM_CH_STATUS_RANK0 ≠ 0 ∨ s.g (Page.memCh c) F.MEM_CH_STATUS_RANK1 ≠ 0 := by
  simp [State.memC, imp_iff_not_or]

theorem State.memC_whole_or_half (s : State) : s.memC = 2 ^ 35 ∨ s.memC = 2 ^ 34 := by
  unfold State.memC
  split
  · exact .inr rfl
  · exact .inl rfl

/-- An address of channel `c`'s local region lies on that channel, at its distance from the region's start. -/
theorem State.memMap_local {s : State} {c a : Nat} (hc : c < 4) (hlo : c * s.memL ≤ a) (hhi : a < (c + 1) * s.memL) :
    s.memMap a = some (c, a - c * s.memL) := by
  obtain ⟨o, rfl⟩ := Nat.exists_eq_add_of_le hlo
  rw [Nat.succ_mul] at hhi
  have ho : o < s.memL := by omega
  have hL : 0 < s.memL := by omega
  have htop : (c + 1) * s.memL ≤ 4 * s.memL := Nat.mul_le_mul_right _ hc
  rw [Nat.succ_mul] at htop
  have hreg : c * s.memL + o < 4 * s.memL := by omega
  have hdiv : (c * s.memL + o) / s.memL = c := by
    rw [Nat.add_comm, Nat.add_mul_div_right _ _ hL, Nat.div_eq_of_lt ho, Nat.zero_add]
  have hmod : (c * s.memL + o) % s.memL = o := by
    rw [Nat.add_comm, Nat.add_mul_mod_self_right, Nat.mod_eq_of_lt ho]
  simp only [State.memMap, if_pos hreg, hdiv, hmod, Nat.add_sub_cancel_left]

/-- An address of the interleaved region lies on the channel and offset that its grain gives. -/
theorem State.memMap_interleaved {s : State} {a : Nat} (hlo : 4 * s.memL ≤ a)
    (hhi : a < 4 * s.memL + 4 * (s.memC - s.memL)) : s.memMap a
      = some ((a - 4 * s.memL) / s.memG % 4,
          s.memL + (a - 4 * s.memL) / (4 * s.memG) * s.memG + (a - 4 * s.memL) % s.memG) := by
  simp only [State.memMap, if_neg (Nat.not_lt.2 hlo), if_pos hhi]

/-- An address beyond both regions is unmapped. -/
theorem State.memMap_beyond {s : State} {a : Nat} (h : 4 * s.memL + 4 * (s.memC - s.memL) ≤ a) : s.memMap a = none := by
  have hlo : ¬ a < 4 * s.memL := by omega
  simp only [State.memMap, if_neg hlo, if_neg (Nat.not_lt.2 h)]

/-- Settles O57: the three sizes, the three regions, the bounds of what is mapped, and the way back from it. -/
theorem memoryAddressMap : Obligations.MemoryAddressMap := by
  unfold Obligations.MemoryAddressMap
  intro s hlocal hmin hmax
  have hs : s.MapLegal := ⟨hlocal, hmin, hmax⟩
  refine ⟨rfl, rfl, s.memC_whole_or_half, s.memC_eq_half_iff, ?channel, ?interleaved, ?beyond, ?bounds, ?injective⟩
  case channel =>
    intro c a
    exact State.memMap_local
  case interleaved =>
    intro a
    exact State.memMap_interleaved
  case beyond =>
    intro a
    exact State.memMap_beyond
  case bounds =>
    intro a c o h
    exact hs.memMap_bounds h
  case injective =>
    intro a b x ha hb
    rw [← State.memAddr_memMap ha, State.memAddr_memMap hb]

end Sys2Proof.Machine
end

section
/-!
PROOFS. The log: an entry goes to the head of the ring (R581, R582), and what LOG_HEAD, LOG_OVERWRITES and LOG_STATUS show then.
-/

namespace Sys2Proof.Machine
open Sys2Proof

/-! ### Fields of a register that holds no retained setting -/

theorem State.reg_setReg_of_unretained (s : State) {a : Nat} (h : retMask a = 0) (w : Word) : (s.setReg a w).reg a = w := by
  have hw : w &&& ~~~ (0 : Word) = w := BitVec.and_allOnes
  rw [State.reg_setReg, if_pos rfl, h, hw, ite_self]

theorem State.g_p_of_unretained (s : State) {pg v : Nat} {f : Fld} (h : retMask (pg + f.off) = 0) (hf : f.hi < 32)
    (hv : v < 2 ^ (f.hi + 1 - f.lo)) : (s.p pg f v).g pg f = v := by
  rw [State.g, State.p, State.reg_setReg_of_unretained s h, wget_wput_self hf hv]

/-- A field of a register without retained settings keeps its value under a write of another of its fields. -/
theorem State.g_p_other_of_unretained (s : State) {pg : Nat} {f f' : Fld} (h : retMask (pg + f.off) = 0)
    (ha : f'.off = f.off) (hf : f.hi < 32) (hd : f'.hi < f.lo ∨ f.hi < f'.lo) (v : Nat) :
    (s.p pg f v).g pg f' = s.g pg f' := by
  rw [State.g, ha, State.p, State.reg_setReg_of_unretained s h, wget_wput_disjoint hf hd, State.g, ha]

/-- A count leaves the fields of every other register. -/
theorem State.g_bumpW_of_reg_ne (s : State) {pg pg' n : Nat} {f f' : Fld} (h : pg' + f'.off ≠ pg + f.off) :
    (s.bumpW pg f n).g pg' f' = s.g pg' f' := by
  rw [State.g, State.bumpW, State.reg_setReg_ne s _ h, State.g]

/-- A saturating counter that fills a register without retained settings shows its count. -/
theorem State.g_bump_of_unretained (s : State) {pg n : Nat} {f : Fld} (h : retMask (pg + f.off) = 0) (hhi : f.hi = 31)
    (hlo : f.lo = 0) : (s.bump pg f n).g pg f = satAdd32 (s.g pg f) n := by
  have hword : ∀ w : Word, wget w 31 0 = w.toNat := fun w => by
    rw [wget, Nat.pow_zero, Nat.div_one, Nat.mod_eq_of_lt w.isLt]
  have hsat : satAdd32 (s.reg (pg + f.off)).toNat n < 2 ^ 32 := Nat.lt_of_le_of_lt (Nat.min_le_right _ _) (by decide)
  rw [State.g, State.bump, State.reg_setReg_of_unretained s h, hhi, hlo, hword, BitVec.toNat_ofNat, Nat.mod_eq_of_lt hsat,
    State.g, hhi, hlo, hword]

theorem retMask_logHead : retMask (Page.log + F.LOG_HEAD_INDEX.off) = 0 := by decide +kernel
theorem retMask_logStatus : retMask (Page.log + F.LOG_STATUS_WRAPPED.off) = 0 := by decide +kernel
theorem retMask_logOverwrites : retMask (Page.log + F.LOG_OVERWRITES.off) = 0 := by decide +kernel


/-! ### The entry, and the parts of a write -/

/-- The entry that a write leaves in the ring (R582). -/
def State.logEntry (s : State) (cause kind part source detail r : Nat) : LogEnt :=
  { mtime := s.log.mtime, ns := s.wallNs, sec := s.wallSec % 2 ^ 34, seq := s.g Page.log F.LOG_SEQ, cause := cause
    kind := kind, part := part, wallValid := s.g Page.tim F.TIM_STATUS_WALL_STATE ≠ 0
    nv := kind = 1 ∨ cause = Cause.thermalShutdown, source := source, detail := detail % 2 ^ 48, repeat_ := r }

/-- What a write to a full ring counts and shows. -/
def State.logOver (s : State) : State :=
  s.when (s.log.count = 16384) fun s => (s.bump Page.log F.LOG_OVERWRITES).flag Page.log F.LOG_STATUS_WRAPPED

theorem State.logOver_of_full {s : State} (h : s.log.count = 16384) :
    s.logOver = (s.bump Page.log F.LOG_OVERWRITES).flag Page.log F.LOG_STATUS_WRAPPED := if_pos h

theorem State.logOver_of_room {s : State} (h : s.log.count < 16384) : s.logOver = s := if_neg (Nat.ne_of_lt h)

@[simp] theorem State.logOver_log (s : State) : s.logOver.log = s.log := by
  unfold State.logOver State.when
  split <;> simp

theorem State.when_field {α : Type} {π : State → α} {c : Prop} [Decidable c] {f : State → State}
    (hf : ∀ s, π (f s) = π s) (s : State) : π (s.when c f) = π s := by
  unfold State.when
  split
  · exact hf s
  · rfl

section
variable (s : State) (cause kind part source detail r : Nat)

/-- A write puts its entry at the head of the ring, moves the head, and counts (R581, R582). -/
theorem State.logWrite_eq : ∃ l : Log,
    l.ring = s.log.ring.set LogEnt.zero (s.g Page.log F.LOG_HEAD_INDEX) (s.logEntry cause kind part source detail r)
      ∧ l.count = min (s.log.count + 1) 16384
      ∧ s.logWrite cause kind part source detail r
        = ((({ s.logOver with log := l } : State).p Page.log F.LOG_HEAD_INDEX
            ((s.g Page.log F.LOG_HEAD_INDEX + 1) % 16384)).bumpW Page.log F.LOG_SEQ).when
          (kind = 1 ∨ cause = Cause.thermalShutdown) (·.flag Page.log F.LOG_STATUS_NV_BUSY) :=
  ⟨_, congrArg (fun l : Log => l.ring.set LogEnt.zero _ _) s.logOver_log,
    congrArg (fun l : Log => min (l.count + 1) 16384) s.logOver_log, rfl⟩

theorem State.logWrite_log : ∃ l : Log, (s.logWrite cause kind part source detail r).log = l
    ∧ l.ring = s.log.ring.set LogEnt.zero (s.g Page.log F.LOG_HEAD_INDEX) (s.logEntry cause kind part source detail r)
    ∧ l.count = min (s.log.count + 1) 16384 := by
  obtain ⟨l, hring, hcount, heq⟩ := s.logWrite_eq cause kind part source detail r
  refine ⟨l, ?_, hring, hcount⟩
  rw [heq, State.when_field (π := State.log) (fun s => s.flag_log _ _), State.bumpW_log, State.p_log]

/-- A write leaves the fields of LOG_HEAD as the move of the head leaves them. -/
theorem State.logWrite_g_head : (s.logWrite cause kind part source detail r).g Page.log F.LOG_HEAD_INDEX
    = (s.g Page.log F.LOG_HEAD_INDEX + 1) % 16384 := by
  obtain ⟨l, -, -, heq⟩ := s.logWrite_eq cause kind part source detail r
  have hbusy : ∀ s : State, (s.flag Page.log F.LOG_STATUS_NV_BUSY).g Page.log F.LOG_HEAD_INDEX
      = s.g Page.log F.LOG_HEAD_INDEX := fun s => s.g_p_of_reg_ne (by decide) 1
  rw [heq, State.when_field (π := (·.g Page.log F.LOG_HEAD_INDEX)) hbusy,
    State.g_bumpW_of_reg_ne _ (by decide)]
  exact State.g_p_of_unretained _ retMask_logHead (by decide) (Nat.mod_lt _ (by decide))

/-- A write leaves every field outside LOG_HEAD, LOG_SEQ and NV_BUSY as the count of overwritten entries leaves it. -/
theorem State.logWrite_g_other {f : Fld} (hh : f.off ≠ F.LOG_HEAD_INDEX.off) (hs : f.off ≠ F.LOG_SEQ.off)
    (hn : f.off ≠ F.LOG_STATUS_NV_BUSY.off ∨ f.off = F.LOG_STATUS_NV_BUSY.off ∧ F.LOG_STATUS_NV_BUSY.hi < f.lo) :
    (s.logWrite cause kind part source detail r).g Page.log f = s.logOver.g Page.log f := by
  obtain ⟨l, -, -, heq⟩ := s.logWrite_eq cause kind part source detail r
  have hbusy : ∀ s : State, (s.flag Page.log F.LOG_STATUS_NV_BUSY).g Page.log f = s.g Page.log f := by
    intro s
    rcases hn with hn | ⟨ha, hd⟩
    · exact s.g_p_of_reg_ne (fun h => hn (Nat.add_left_cancel h)) 1
    · exact s.g_p_other_of_unretained (f := F.LOG_STATUS_NV_BUSY) retMask_logStatus ha (by decide) (.inr hd) 1
  rw [heq, State.when_field (π := (·.g Page.log f)) hbusy,
    State.g_bumpW_of_reg_ne _ (fun h => hs (Nat.add_left_cancel h)),
    State.g_p_of_reg_ne _ (fun h => hh (Nat.add_left_cancel h))]
  rfl

end

/-- Settles O60: the entry in the ring, the head, the other places, and the two cases of the ring's fill. -/
theorem logRing : Obligations.LogRing := by
  unfold Obligations.LogRing
  intro s cause kind part source detail r _
  obtain ⟨l, hlog, hring, hcount⟩ := s.logWrite_log cause kind part source detail r
  have hover := s.logWrite_g_other cause kind part source detail r (f := F.LOG_OVERWRITES) (by decide) (by decide)
    (.inl (by decide))
  have hwrapped := s.logWrite_g_other cause kind part source detail r (f := F.LOG_STATUS_WRAPPED) (by decide) (by decide)
    (.inr (by decide))
  rw [hlog, hring, hcount, hover]
  refine ⟨Tab.get_set_self .., s.logWrite_g_head .., fun k hk => Tab.get_set_ne _ _ _ hk, fun hroom => ⟨?_, ?_⟩,
    fun hfull => ⟨?_, ?_, ?_⟩⟩
  · omega
  · rw [State.logOver_of_room hroom]
  · omega
  · rw [State.logOver_of_full hfull, State.flag, State.g_p_of_reg_ne _ (by decide)]
    exact State.g_bump_of_unretained s retMask_logOverwrites rfl rfl
  · rw [State.on, hwrapped, State.logOver_of_full hfull, State.flag,
      State.g_p_of_unretained _ retMask_logStatus (by decide) (by decide)]
    rfl

end Sys2Proof.Machine
end

section
/-!
PROOFS. The memory chapter: its commands, the register window and the marches (R404, R413, R417, R421 to R425, R428), and the
events of refresh, replay, scrubbing, repair, move and initialisation (R409 to R411, R414 to R416, R418, R420, R423).
-/

namespace Sys2Proof.Machine
open Sys2Proof

/-! ### Copies between host memory and DDR4 -/

theorem cMemWrite_run (s : State) (p : Pkt) : cMemWrite.run s p
    = (s.ddrIssue (p.n 2 / 8)).withData p (p.n 2) (fun s b => s.ddrWrite (p.w64 0) b) := rfl

/-- MEM_READ of words that are all correctable copies them to the host. -/
theorem cMemRead_run_of_clean {s u : State} {p : Pkt} (hu : u = s.ddrIssue (p.n 2 / 8))
    (hp : u.firstPoison (p.w64 0) (p.n 2) = none) :
    cMemRead.run s p = (u.hostWrite (p.w64 3) (u.ddrRead (p.w64 0) (p.n 2))).succeed p := by
  subst hu
  rw [cMemRead]
  dsimp only [ddrAddr]
  rw [hp]

/-- MEM_READ stops at the first uncorrectable word, which goes to no output (R413). -/
theorem cMemRead_run_of_poison {s u : State} {p : Pkt} {x : Nat} (hu : u = s.ddrIssue (p.n 2 / 8))
    (hp : u.firstPoison (p.w64 0) (p.n 2) = some x) :
    cMemRead.run s p = ((u.hostWrite (p.w64 3) (u.ddrRead (p.w64 0) (x - p.w64 0))).memBad 0 (u.addrLoc x)).finish p
      (.plain St.internalError) := by
  subst hu
  rw [cMemRead]
  dsimp only [ddrAddr]
  rw [hp]

/-! ### The register window -/

/-- A write of MEM_WIN_DATA_HI stores the word with the low half held for it, at a mapped address, which then advances
(R404, R428). -/
theorem exec_memWinDataHiAccess_write {s : State} {fn : Nat} (ho : s.Opens fn (Page.mem + 0x10C))
    (hm : s.memMapped s.winAddr 8 = true) (w : Word) :
    exec (.memWinDataHiAccess fn (some w)) s = .next (((s.ddrIssue 1).ddrWrite s.winAddr (leBytes 8
      ((s.heldWr.get 0 (holdKey fn (Page.mem + 0x10C - 4))).toNat + w.toNat * 2 ^ 32))).winNext) := by
  change execMemWinDataHiAccess fn (some w) s = _
  rw [execMemWinDataHiAccess]
  dsimp only
  rw [State.onWrite_of_opens ho, if_pos hm]

/-- A read of MEM_WIN_DATA_HI returns the half that the read of the low one has held, and the address advances. -/
theorem exec_memWinDataHiAccess_read {s : State} {fn : Nat} (ha : s.Answers fn (Page.mem + 0x10C)) :
    exec (.memWinDataHiAccess fn none) s
      = .next ({ s with pins.rdata := s.heldRd.get 0 (holdKey fn (Page.mem + 0x10C)) }.winNext) := by
  change execMemWinDataHiAccess fn none s = _
  rw [execMemWinDataHiAccess]
  dsimp only
  rw [State.onRead_of_answers ha]

/-! ### March tests by command and by register -/

/-- MEM_MARCH on stores that nothing uses starts the march that its words describe (R424, R425). -/
theorem cMemMarch_run_of_free {s t : State} {p : Pkt}
    (ht : t = s.putImgs p [(0, Page.mem + 0x200), (1, Page.mem + 0x204), (2, Page.mem + 0x208), (3, Page.mem + 0x20C),
      (4, Page.mem + 0x210)])
    (hb : t.marchBusy (wget (p.w 0) 3 0) (wget (p.w 0) 5 4) = false) :
    cMemMarch.run s p = t.marchStart (p.w 0) (p.w64 1) (p.w64 3) p.who := by
  subst ht
  exact if_neg (ne_true_of_eq_false hb)

/-- MEM_MARCH_CTRL.START of a march within its store, on stores that nothing uses, starts the march of MEM_MARCH
(R424, R429). -/
theorem State.marchReg_of_free {s : State} (hst : wget (s.reg (Page.mem + 0x200)) 3 0 < 11)
    (hr : marchRange (wget (s.reg (Page.mem + 0x200)) 3 0) (s.g64 Page.mem F.MEM_MARCH_FIRST_LO)
      (s.g64 Page.mem F.MEM_MARCH_COUNT_LO) = true)
    (hb : s.marchBusy (wget (s.reg (Page.mem + 0x200)) 3 0) (wget (s.reg (Page.mem + 0x200)) 5 4) = false) :
    s.marchReg = s.marchStart (s.reg (Page.mem + 0x200)) (s.g64 Page.mem F.MEM_MARCH_FIRST_LO)
      (s.g64 Page.mem F.MEM_MARCH_COUNT_LO) none := by
  refine if_neg ?_
  rw [hr, hb]
  simp only [not_true_eq_false, Bool.false_eq_true, or_false]
  omega

theorem exec_memMarchCtrlStart {s : State} {fn : Nat} (ho : s.Opens fn (Page.mem + 0x200)) :
    exec (.memMarchCtrlStart fn) s = .next s.marchReg := by
  change execMemMarchCtrlStart fn s = _
  rw [execMemMarchCtrlStart, State.onWrite_of_opens ho]

theorem exec_memMarchCtrlStop {s : State} {fn : Nat} (ho : s.Opens fn (Page.mem + 0x200)) :
    exec (.memMarchCtrlStop fn) s = .next (s.when (s.mem.march.run = true) (·.marchStop)) := by
  change execMemMarchCtrlStop fn s = _
  rw [execMemMarchCtrlStop, State.onWrite_of_opens ho]

@[simp] theorem State.inRun_mem (s : State) (p : Pkt) : (s.inRun p).mem = s.mem := by
  obtain ⟨l, h⟩ := s.inRun_eq p
  rw [h]

/-- Settles O30: each command runs to its completion, MEM_MARCH to the start of the march that completes it, and each access of
the window and of MEM_MARCH_CTRL comes to the operation that it names. -/
theorem memoryCommands : Obligations.MemoryCommands := by
  unfold Obligations.MemoryCommands
  refine ⟨?write, ⟨?read, ?readBad⟩, ?config, ?retire, ⟨?winWrite, ?winRead⟩, ⟨?march, ?marchReg⟩, ⟨?stop, ?stopReg⟩⟩
  case write =>
    intro s p y b h hb
    refine runs_of_plain (c := cMemWrite) rfl h ?_
    rw [cMemWrite_run, State.withData_of_data hb]
    rfl
  case read =>
    intro s u p y h hu hp
    exact runs_of_plain (c := cMemRead) rfl h (cMemRead_run_of_clean hu hp)
  case readBad =>
    intro s u p y x h hu hp
    exact runs_of_plain (c := cMemRead) rfl h (cMemRead_run_of_poison hu hp)
  case config =>
    intro s p y op a i h hi
    simp only [List.mem_cons, Prod.mk.injEq, List.not_mem_nil, or_false] at hi
    rcases hi with ⟨rfl, rfl, rfl⟩ | ⟨rfl, rfl, rfl⟩ | ⟨rfl, rfl, rfl⟩
    · exact runs_of_plain (c := cMemMapSet) rfl h rfl
    · exact runs_of_plain (c := cMemHintSet) rfl h rfl
    · exact runs_of_plain (c := cMemScrubSet) rfl h rfl
  case retire =>
    intro s p y h
    exact runs_of_plain (c := cMemRankRetire) rfl h rfl
  case winWrite =>
    intro s fn w ho hm
    exact exec_memWinDataHiAccess_write ho hm w
  case winRead =>
    intro s fn ha
    exact exec_memWinDataHiAccess_read ha
  case march =>
    intro s t p y h ht hb
    rw [← cMemMarch_run_of_free ht hb]
    exact congrArg Host.Outcome.next (command_inHand (c := cMemMarch) h)
  case marchReg =>
    rintro s fn _ ho rfl hst hr hb
    rw [exec_memMarchCtrlStart ho, State.marchReg_of_free hst hr hb]
  case stop =>
    intro s p y h hr
    refine runs_of_plain (c := cMemMarchStop) rfl h ?_
    exact congrArg (State.succeed · y) (State.when_of ((congrArg (·.march.run) (s.inRun_mem y)).trans hr) _ _)
  case stopReg =>
    intro s fn ho hr
    rw [exec_memMarchCtrlStop ho, State.when_of hr]

end Sys2Proof.Machine
end

section
/-!
PROOFS. The host interface: the fetch and start of packets, releases at a shot and completions (R439, R441, R443, R446, R447),
and the events of the link, of its resets, of function states and of host memory (R431, R455, R457).
-/

namespace Sys2Proof.Machine
open Sys2Proof

/-! ### Packets and completions -/

theorem exec_packetFetch_of_served {s : State} {n : Nat} (hs : s.serving = true) (hn : s.nextSq = some n)
    (hl : s.hif.slots.length < 64) (p : Pkt) : exec (.packetFetch n p) s = .next (s.fetchPkt n p) := by
  refine congrArg Host.Outcome.next (if_pos ?_)
  simp [hs, hn, hl]

/-- A packet whose waits have ended begins (R447). -/
theorem State.tryStart_of_ready {s : State} {p : Pkt} {c : Cmd} (hc : cmdOf p.op = some c) (hm : s.mayStart c p = true) :
    s.tryStart p = s.begin c p := by
  simp only [State.tryStart, hc, hm, if_true]

theorem exec_commandStart_of_waiting {s : State} {sq tag : Nat} {sl : Slot}
    (h : s.hif.slots.find? (fun sl => sl.isOf sq tag && sl.st = .waiting) = some sl) :
    exec (.commandStart sq tag) s = .next (s.tryStart sl.p) := by
  change execCommandStart sq tag s = _
  simp only [execCommandStart, h]

theorem exec_atShotRelease_of_one {s : State} {p : Nat} {sl : Slot}
    (h : s.hif.slots.filter (fun sl => sl.st = .waiting && sl.shot.isSome && sl.p.part = p) = [sl]) :
    exec (.atShotRelease p) s = .next (s.tryStart sl.p) := by
  change execAtShotRelease p s = _
  simp only [execAtShotRelease, h, List.foldl_cons, List.foldl_nil]

theorem exec_completionPost {s : State} {n : Nat} (hn : n < 64) (hr : n ∉ s.hif.retry) :
    exec (.completionPost n) s = .next (s.post n) :=
  congrArg Host.Outcome.next (if_pos ⟨hn, hr⟩)

/-- Settles O33: the fetch, the two starts, and the post come to the operation that they name. -/
theorem packetsAndCompletions : Obligations.PacketsAndCompletions := by
  unfold Obligations.PacketsAndCompletions
  refine ⟨?fetch, ?start, ?release, ?post⟩
  case fetch =>
    intro s n p hs hn hl
    exact exec_packetFetch_of_served hs hn hl p
  case start =>
    intro s sq tag sl c hf hc hm
    rw [exec_commandStart_of_waiting hf, State.tryStart_of_ready hc hm]
  case release =>
    intro s p sl c hf hc hm
    rw [exec_atShotRelease_of_one hf, State.tryStart_of_ready hc hm]
  case post =>
    intro s n hn hr
    exact exec_completionPost hn hr

/-! ### The link and bus mastering -/

/-- A link that is up goes down (R457, R458). -/
theorem State.linkFall_of_up {s : State} (h : s.hif.linkUp = true) :
    s.linkFall = (((({ s with hif.linkUp := false }.p Page.hif F.HIF_LINK_SPEED 0).p Page.hif F.HIF_LINK_WIDTH 0).unflag
      Page.hif F.HIF_LINK_DL_UP).linkLost) :=
  if_neg (not_not_intro h)

theorem State.bmeClear_of_on {s : State} (h : s.hif.bme = true) : s.bmeClear = { s with hif.bme := false }.linkLost :=
  if_neg (not_not_intro h)

theorem exec_linkDown (phys : Bool) (s : State) :
    exec (.linkDown phys) s = .next (if phys then s.linkFall else s.bmeClear) := rfl

/-- The speed and the width to which the link trains are the partner's (R431, R457). -/
theorem State.linkTrain_eq {s v w : State} {a b : Nat} (hv : s.fresh 8 = (v, a)) (hw : v.fresh 8 = (w, b)) :
    s.linkTrain = (({ w with hif.linkUp := true }.p Page.hif F.HIF_LINK_SPEED (1 + a % 5)).p Page.hif F.HIF_LINK_WIDTH
      (2 ^ (b % 4))).flag Page.hif F.HIF_LINK_DL_UP := by
  simp only [State.linkTrain, hv, hw]

section
variable {s : State} (hm : s.pwr.mode ≠ .off)
include hm

theorem exec_linkUp_of_down (h : s.hif.linkUp = false) : exec (.linkUp true) s = .next s.linkTrain.msixResume := by
  change execLinkUp true s = _
  rw [execLinkUp, if_neg (fun hoff => hm hoff.1), if_pos rfl, if_neg (ne_true_of_eq_false h)]

theorem exec_linkUp_of_unmastered (h : s.hif.bme = false) :
    exec (.linkUp false) s = .next ({ s with hif.bme := true }.msixResume) := by
  change execLinkUp false s = _
  rw [execLinkUp, if_neg (fun hoff => hm hoff.1), if_neg Bool.false_ne_true, if_neg (ne_true_of_eq_false h)]

end

/-! ### Resets and host memory -/

theorem exec_hotReset (s : State) : exec .hotReset s = .next s.linkReset := rfl

theorem exec_conventionalReset (s : State) : exec .conventionalReset s = .next s.linkReset := rfl

/-- A partition that is not IDLE aborts (R457). -/
theorem State.when_not_idle (s : State) (p : Nat) :
    s.when (¬ s.idle p = true) (·.partAbort p) = if s.idle p then s else s.partAbort p :=
  ite_not ..

theorem exec_pf0Flr (s : State) : exec .pf0Flr s
    = .next (forEach [0, 1, 2, 3, 4] s.linkReset (fun s p => if s.idle p then s else s.partAbort p)) := by
  change execPf0Flr s = _
  simp only [execPf0Flr, State.when_not_idle]

theorem exec_vfFlr_of_idle {s : State} {i : Nat} (h1 : 1 ≤ i) (h4 : i ≤ 4) (hi : s.idle i = true) : exec (.vfFlr i) s
    = .next ((({ s with hif.d3 := s.hif.d3.set false i false }.dropQueues i).msixReset i).intReset (i + 1)) := by
  change execVfFlr i s = _
  rw [execVfFlr, if_pos ⟨h1, h4⟩, State.when_not_idle, if_pos hi]

/-- A failed request of a command that executes completes it with HOST_MEMORY (R457). -/
theorem exec_hostMemoryFail_of_executing {s : State} {sq tag : Nat} {sl : Slot} (hl : s.hif.linkUp = true) (hq : sq < 64)
    (hf : s.hif.slots.find? (fun sl => sl.p.sq = sq && sl.p.tag = tag && sl.st ≠ .waiting) = some sl)
    (he : sl.st = .executing) : exec (.hostMemoryFail sq tag) s
      = .next ((s.bump Page.hif F.HIF_DMA_ERRORS).finish sl.p (.plain St.hostMemory)) := by
  have hdone : sl.st ≠ .done := by rw [he]; decide
  change execHostMemoryFail sq tag s = _
  rw [execHostMemoryFail, if_neg (not_not_intro hl), if_pos hq]
  rw [hf]
  exact congrArg Host.Outcome.next (if_neg hdone)

/-- The retry of a completion queue's ring write posts again (R457). -/
theorem exec_hostDmaRetry_of_queue {s : State} {r : Nat} (hr : s.hif.retry = [r]) (hq : r < 64) :
    exec .hostDmaRetry s = .next ({ s with hif.retry := [] }.post r) := by
  change execHostDmaRetry s = _
  rw [execHostDmaRetry, hr, List.foldl_cons, List.foldl_nil, State.ringRetry, if_pos hq]

/-- Settles O34: each event of the link, of a reset, of a function's state and of host memory comes to what its row says. -/
theorem linkAndResets : Obligations.LinkAndResets := by
  unfold Obligations.LinkAndResets
  refine ⟨⟨?linkDown, ?bmeDown⟩, ⟨?linkUp, ?bmeUp⟩, ?hotReset, ?pf0Flr, ?vfFlr, ?function, ?memoryFail, ?retry⟩
  case linkDown =>
    intro s h
    rw [exec_linkDown, if_pos rfl, State.linkFall_of_up h]
  case bmeDown =>
    intro s h
    rw [exec_linkDown, if_neg Bool.false_ne_true, State.bmeClear_of_on h]
  case linkUp =>
    intro s v w a b hm h hv hw
    rw [exec_linkUp_of_down hm h, State.linkTrain_eq hv hw]
  case bmeUp =>
    intro s hm h
    exact exec_linkUp_of_unmastered hm h
  case hotReset =>
    intro s
    rw [exec_hotReset, exec_conventionalReset]
    exact ⟨rfl, rfl⟩
  case pf0Flr => exact exec_pf0Flr
  case vfFlr =>
    intro s i h1 h4 hi
    exact exec_vfFlr_of_idle h1 h4 hi
  case function =>
    intro s fn hf
    exact ⟨congrArg Host.Outcome.next (if_pos hf), congrArg Host.Outcome.next (if_pos hf)⟩
  case memoryFail =>
    intro s sq tag sl hl hq hf he
    exact exec_hostMemoryFail_of_executing hl hq hf he
  case retry =>
    intro s r hr hq
    exact exec_hostDmaRetry_of_queue hr hq

end Sys2Proof.Machine
end

section
/-!
PROOFS. Hearth and the interrupt controller: patches at a quiescent point and the interrupt sources' commands (R509, R521,
R534), claims, completions and deliveries (R526, R528, R530, R531, R538), traps and routines (R511 to R518).
-/

namespace Sys2Proof.Machine
open Sys2Proof

/-! ### Patches at a quiescent point -/

/-- What keeps the slots keeps a live packet. -/
theorem State.Live.of_hif {s t : State} {p : Pkt} (h : s.Live p) (he : t.hif = s.hif) : t.Live p := by
  rw [State.Live, he]
  exact h

/-- Without a patch change that waits, a quiescent point changes nothing. -/
theorem State.tryQuiesce_of_none {s : State} (h : s.hrt.quiesce = none) : s.tryQuiesce = s := by
  rw [State.tryQuiesce, h]

theorem State.patchOff_hif (s : State) : s.patchOff.hif = s.hif := by
  rw [State.patchOff, forEach_hif]
  exact fun s n => s.unflag_hif _ _

theorem State.patchIn_hif (s : State) (im : Image) : (s.patchIn im).hif = s.hif := by
  unfold State.patchIn
  dsimp only
  rw [State.p_hif, forEach_hif]
  exact fun s n => s.setReg_hif _ _

theorem State.patchCleared_hif (s : State) : { ({ s with hrt.quiesce := none }.patchOff).p Page.hrt
    F.HRT_VERSION_PATCH_PATCH 0 with sec.inPatch := none }.hif = s.hif := by
  have hkeep : ∀ t : State, { t with sec.inPatch := none }.hif = t.hif := fun _ => rfl
  rw [hkeep, State.p_hif, State.patchOff_hif]

theorem State.patchLoaded_hif (s : State) (im : Image) :
    ({ s with hrt.quiesce := none, sec.patch := some im }.patchIn im).hif = s.hif := by
  rw [State.patchIn_hif]

theorem cHrtPatchClear_run (s : State) (p : Pkt) :
    cHrtPatchClear.run s p = { s with hrt.quiesce := some ([], p.who) }.tryQuiesce := rfl

theorem cHrtPatchLoad_run (s : State) (p : Pkt) : cHrtPatchLoad.run s p = s.loadImage p 2 (p.n 2) (fun s im =>
    { s with sec.patch := some im, hrt.quiesce := some ([1], p.who) }.tryQuiesce) := rfl

section
variable {s : State} {who : Option (Nat × Nat)} (hq : s.quiescent who = true)
include hq

/-- A patch is cleared at once where Hearth is quiescent (R509). -/
theorem State.tryQuiesce_clear : { s with hrt.quiesce := some ([], who) }.tryQuiesce
    = { ({ s with hrt.quiesce := none }.patchOff).p Page.hrt F.HRT_VERSION_PATCH_PATCH 0 with
        sec.inPatch := none }.settle who St.success := by
  have hquiet : ¬ ¬ { s with hrt.quiesce := some (([] : List Byte), who) }.quiescent who = true := not_not_intro hq
  rw [State.tryQuiesce]
  dsimp only
  rw [if_neg hquiet]

/-- A patch is loaded at once where Hearth is quiescent (R509). -/
theorem State.tryQuiesce_load (im : Image) : { s with sec.patch := some im, hrt.quiesce := some ([1], who) }.tryQuiesce
    = ({ s with hrt.quiesce := none, sec.patch := some im }.patchIn im).settle who St.success := by
  have hquiet : ¬ ¬ { s with sec.patch := some im, hrt.quiesce := some (([1] : List Byte), who) }.quiescent who = true :=
    not_not_intro hq
  rw [State.tryQuiesce]
  dsimp only
  rw [if_neg hquiet]

end

/-- An image that passes its checks goes to its use (R651). -/
theorem State.loadImage_of_passed {s : State} {p : Pkt} {t n : Nat} {b : List Byte} (hb : p.data n = some b)
    (h : s.checkImage t b = 0) (f : State → Image → State) : s.loadImage p t n f = f s (imgOf b) := by
  simp only [State.loadImage, hb, h, ne_eq, not_true_eq_false, if_false]

/-- An image that fails a check is refused with that check's status (R651). -/
theorem State.loadImage_of_failed {s : State} {p : Pkt} {t n : Nat} {b : List Byte} (hb : p.data n = some b)
    (h : s.checkImage t b ≠ 0) (f : State → Image → State) : s.loadImage p t n f
      = (s.imgRefused t (imgVersion b) (s.checkImage t b)).finish p (.plain (s.checkImage t b)) := by
  simp only [State.loadImage, hb, if_pos h]

/-- The checks of an image read nothing that a command's start changes. -/
@[simp] theorem State.inRun_checkImage (s : State) (p : Pkt) (t : Nat) (b : List Byte) :
    (s.inRun p).checkImage t b = s.checkImage t b := by
  obtain ⟨l, h⟩ := s.inRun_eq p
  rw [h]
  rfl

/-- Settles O2: each command runs to its completion; a patch change settles its own packet at the quiescent point. -/
theorem hearthCommands : Obligations.HearthCommands := by
  unfold Obligations.HearthCommands
  refine ⟨?nop, ?identify, ?clear, ?load, ?source, ?target, ?software⟩
  case nop =>
    intro s p y h
    exact runs_of_plain (c := cNop) rfl h rfl
  case identify =>
    intro s p y h
    refine runs_of_plain (c := cHrtIdentify) rfl h ?_
    simp only [cHrtIdentify, State.inRun_g, State.succeed, id]
  case clear =>
    intro s p y h hq
    refine runs_of_settle (c := cHrtPatchClear) rfl h ?_ ?_
    · exact (inRun_live h).of_hif (s.inRun y).patchCleared_hif
    · rw [cHrtPatchClear_run, State.tryQuiesce_clear hq]
  case load =>
    intro s p y b h hb hq
    rw [← s.inRun_checkImage y]
    split
    next hpass =>
      refine runs_of_settle (c := cHrtPatchLoad) rfl h ?_ ?_
      · exact (inRun_live h).of_hif ((s.inRun y).patchLoaded_hif (imgOf b))
      · rw [cHrtPatchLoad_run, State.loadImage_of_passed hb hpass, State.tryQuiesce_load hq]
    next hfail =>
      refine runs_of_plain (c := cHrtPatchLoad) rfl h ?_
      rw [cHrtPatchLoad_run, State.loadImage_of_failed hb hfail]
  case source =>
    intro s p y h
    exact runs_of_plain (c := cIntSrcSet) rfl h rfl
  case target =>
    intro s p y h
    exact runs_of_plain (c := cIntTargetSet) rfl h rfl
  case software =>
    intro s p y h
    exact runs_of_plain (c := cIntSwi) rfl h rfl

/-! ### Claims, completions and deliveries -/

/-- The end of a request changes only what the controller has sent. -/
theorem State.reqFall_eq (s : State) (t : Nat) : ∃ x, s.reqFall t = { s with int.sent := x } := by
  unfold State.reqFall
  split
  · exact ⟨_, rfl⟩
  · exact ⟨s.int.sent, rfl⟩

/-- A request that has risen is not one that has been delivered. -/
theorem State.reqFall_of_rises {s : State} {t : Nat} (h : s.reqRises t = true) : s.reqFall t = s := by
  refine if_neg ?_
  simp only [State.reqRises, Bool.and_eq_true] at h
  simp [h.1]

theorem State.intEdge_of_clear {s : State} {n : Nat} (h : s.int.pend.get false n = false) :
    s.intEdge n = { s with int.pend := s.int.pend.set false n true } :=
  if_neg (ne_true_of_eq_false h)

theorem State.claim_of_urgent {s : State} {t n : Nat} (h : s.urgent (s.eligible t) = some n) : s.claim t
    = ({ s with int.act := s.int.act.set 0 n (t + 1), int.pend := s.int.pend.set false n false }.reqFall t, some n) := by
  rw [State.claim, h]

theorem State.claim_of_none {s : State} {t : Nat} (h : s.urgent (s.eligible t) = none) :
    s.claim t = (s.bump (Page.tgt t) F.INT_SPURIOUS, none) := by
  rw [State.claim, h]

theorem State.complete_of_active {s : State} {t n : Nat} (h : s.intAct n = t + 1) :
    s.complete t n = { s with int.act := s.int.act.set 0 n 0 }.reqFall t :=
  if_pos h

/-- A claim makes the most urgent source active on its target, no longer pending, and returns its word (R526). -/
theorem State.claimRead_of_urgent {s : State} {t n : Nat} (ht : t ≠ 0) (h : s.urgent (s.eligible t) = some n) :
    ∃ x, s.claimRead t = { s with
      int.act := s.int.act.set 0 n (t + 1)
      int.pend := s.int.pend.set false n false
      int.sent := x
      pins.rdata := BitVec.ofNat 32 (n + s.intPrio n * 2 ^ 16 + 2 ^ 31) } := by
  obtain ⟨x, hx⟩ := State.reqFall_eq
    { s with int.act := s.int.act.set 0 n (t + 1), int.pend := s.int.pend.set false n false } t
  refine ⟨x, ?_⟩
  rw [State.claimRead, if_neg ht, State.claim_of_urgent h, hx]
  rfl

/-- A message touches the host interface only, and reads nothing else. -/
theorem State.msixSend_of_hif {s t : State} (h : t.hif = s.hif) (fn v : Nat) :
    t.msixSend fn v = { t with hif := (s.msixSend fn v).hif } := by
  cases t
  subst h
  by_cases hm : (s.hif.msix.get Msix.zero (fn * 32 + v)).masked = true ∨ ¬ s.dma fn = true
  · have hs : s.msixSend fn v = { s with hif.pba := s.hif.pba.set false (fn * 32 + v) true } := if_pos hm
    rw [hs]
    exact if_pos hm
  · have hs : s.msixSend fn v = s.hostWrite _ _ := if_neg hm
    rw [hs]
    exact if_neg hm

/-- A delivery to target `t` that module `s` makes, seen in the next state `u` (R530, R531). -/
def State.Delivered (s : State) (t : Nat) (u : State) : Prop :=
  u.int.sent.get false t = true ∧ u.int.act = s.int.act
    ∧ u.int.win.get 0 t = s.now + 4000 * s.g (Page.tgt t) F.INT_MOD_MOD ∧ (t = 0 → 2 ∈ u.hrt.traps)
    ∧ (t ≠ 0 → u.hif = (s.msixSend (t - 1) 0).hif)
    ∧ u.reg (Page.tgt t + F.INT_DELIVERIES.off)
      = (s.bump (Page.tgt t) F.INT_DELIVERIES).reg (Page.tgt t + F.INT_DELIVERIES.off)

/-- The moderation setting stands apart from the count of deliveries. -/
theorem State.g_mod_bump_deliveries (s : State) (t : Nat) :
    (s.bump (Page.tgt t) F.INT_DELIVERIES).g (Page.tgt t) F.INT_MOD_MOD = s.g (Page.tgt t) F.INT_MOD_MOD := by
  have hne : Page.tgt t + F.INT_MOD_MOD.off ≠ Page.tgt t + F.INT_DELIVERIES.off :=
    fun h => absurd (Nat.add_left_cancel h) (by decide)
  rw [State.g, State.bump, State.reg_setReg_ne _ _ hne, State.g]

theorem State.deliverReq_delivered (s : State) (t : Nat) : s.Delivered t (s.deliverReq t) := by
  unfold State.Delivered State.deliverReq
  dsimp only
  rw [s.g_mod_bump_deliveries]
  split
  next ht =>
    refine ⟨by simp [Tab.get_set_self], by simp, by simp [Tab.get_set_self, State.now], fun _ => ?_, fun h => absurd ht h, rfl⟩
    dsimp only
    split <;> simp_all
  next ht =>
    rw [State.msixSend_of_hif (s := s) (h := by simp)]
    exact ⟨by simp [Tab.get_set_self], by simp, by simp [Tab.get_set_self, State.now], fun h => absurd h ht, fun _ => rfl, rfl⟩

theorem exec_intSwiRegisterWrite {s : State} {fn sw : Nat} (ho : s.Opens fn (Page.int + 8)) (hsw : sw < 14) :
    exec (.intSwiRegisterWrite fn sw) s = .next (s.intEdge (1010 + sw)) := by
  change execIntSwiRegisterWrite fn sw s = _
  rw [execIntSwiRegisterWrite, State.onWrite_of_opens ho, if_pos hsw]

theorem exec_intClaimRead {s : State} {fn t : Nat} (ha : s.Answers fn (Page.tgt t)) (ht : t < 6) :
    exec (.intClaimRead fn t) s = .next (s.claimRead t) := by
  change execIntClaimRead fn t s = _
  rw [execIntClaimRead, if_pos ht, State.onRead_of_answers ha]

theorem exec_intCompleteWrite {s : State} {fn t id : Nat} (ho : s.Opens fn (Page.tgt t + 4)) (h1 : 1 ≤ t) (ht : t < 6) :
    exec (.intCompleteWrite fn t id) s = .next (s.complete t (id % 1024)) := by
  change execIntCompleteWrite fn t id s = _
  rw [execIntCompleteWrite, if_pos ht, State.onWrite_of_opens ho, if_neg (Nat.ne_of_gt h1)]

section
variable {s : State} {t : Nat} (ht : t < 6) (hr : s.intRuns = true) (hu : s.reqRises t = true)
include ht hr hu

theorem exec_intDelivery_of_free (hh : s.intHeld t = false) : exec (.intDelivery t) s = .next (s.deliverReq t) := by
  change execIntDelivery t s = _
  rw [execIntDelivery, if_pos ⟨ht, hr⟩, State.reqFall_of_rises hu]
  exact congrArg Host.Outcome.next (if_pos ⟨hu, ne_true_of_eq_false hh⟩)

theorem exec_moderationWindowEnd (hw : s.int.win.get 0 t ≤ s.now) :
    exec (.moderationWindowEnd t) s = .next (s.deliverReq t) :=
  congrArg Host.Outcome.next (if_pos ⟨ht, hr, hw, hu⟩)

end

/-- Settles O3: each row comes to an edge, a claim, a completion or a delivery, and its fields are read off. -/
theorem interruptControl : Obligations.InterruptControl := by
  unfold Obligations.InterruptControl
  refine ⟨?software, ?claim, ?complete, ?delivery, ?window⟩
  case software =>
    intro s fn sw ho hsw hp
    rw [exec_intSwiRegisterWrite ho hsw, State.intEdge_of_clear hp]
  case claim =>
    intro s fn t n ha h1 h6 hn
    obtain ⟨x, hx⟩ := State.claimRead_of_urgent (Nat.ne_of_gt h1) hn
    rw [exec_intClaimRead ha h6, hx]
    exact ⟨_, rfl, by simp [Tab.get_set_self], by simp [Tab.get_set_self], rfl, rfl, rfl⟩
  case complete =>
    intro s fn t id ho h1 h6 hact
    obtain ⟨x, hx⟩ := State.reqFall_eq { s with int.act := s.int.act.set 0 (id % 1024) 0 } t
    rw [exec_intCompleteWrite ho h1 h6, State.complete_of_active hact, hx]
    exact ⟨_, rfl, rfl, rfl⟩
  case delivery =>
    intro s t h6 hr hu hh
    exact ⟨_, exec_intDelivery_of_free h6 hr hu hh, s.deliverReq_delivered t⟩
  case window =>
    intro s t h6 hr hu hw
    exact ⟨_, exec_moderationWindowEnd h6 hr hu hw, s.deliverReq_delivered t⟩

/-! ### Traps -/

theorem exec_faultTrap_unused {s : State} (hr : s.intRuns = true) (upc : Nat) :
    exec (.faultTrap 1 upc) s
      = .next ({ s with hrt.cur := { s.hrt.cur with upc := upc % 65536 } }.takeFault) :=
  congrArg Host.Outcome.next (if_pos hr)

/-- A fault outside a handler takes a trap of its own (R517). -/
theorem State.takeFault_of_none {s : State} (h : s.hrt.frames = []) : s.takeFault = s.takeTrap 1 none := by
  rw [State.takeFault, h]

/-- A fault inside a handler reuses its frame (R517). -/
theorem State.takeFault_of_frame {s : State} {m : Micro} {c : Nat} {cl : Option Nat}
    {l : List (Micro × Nat × Option Nat)} (h : s.hrt.frames = (m, c, cl) :: l) : s.takeFault
      = ({ s.bump Page.hrt F.HRT_TRAPS with hrt.frames := (m, 1, cl) :: l }).vectorTo 1 := by
  rw [State.takeFault, h]

theorem exec_interruptTrap_of_room {s : State} (hr : s.intRuns = true) (h2 : 2 ∈ s.hrt.traps)
    (hd : s.hrt.frames.length < 4) : exec .interruptTrap s = .next s.serviceInt := by
  change execInterruptTrap s = _
  rw [execInterruptTrap, if_pos ⟨hr, h2⟩]
  exact congrArg Host.Outcome.next (if_pos hd)

theorem State.logWrite_hrt (s : State) (cause kind part source detail r : Nat) :
    (s.logWrite cause kind part source detail r).hrt = s.hrt := by
  obtain ⟨l, -, -, h⟩ := s.logWrite_eq cause kind part source detail r
  have hover : s.logOver.hrt = s.hrt := by
    unfold State.logOver
    exact State.when_field (π := State.hrt) (fun s => by simp) s
  rw [h, State.when_field (π := State.hrt) (fun s => s.flag_hrt _ _), State.bumpW_hrt, State.p_hrt, hover]

theorem State.reqFall_hrt (s : State) (t : Nat) : (s.reqFall t).hrt = s.hrt := by
  obtain ⟨x, hx⟩ := s.reqFall_eq t
  rw [hx]

theorem State.claim_hrt (s : State) (t : Nat) : (s.claim t).1.hrt = s.hrt := by
  unfold State.claim
  split
  · exact State.bump_hrt _ _ _ _
  · exact State.reqFall_hrt _ _

theorem State.urgent_of_hrt (s : State) (h : Hrt) (l : List Nat) : { s with hrt := h }.urgent l = s.urgent l := by
  induction l with
  | nil => rfl
  | cons n l ih =>
    rw [State.urgent, ih]
    rfl

theorem State.claim_source (s : State) (t : Nat) : (s.claim t).2 = s.urgent (s.eligible t) := by
  unfold State.claim
  split <;> simp [*]

/-- The INTERRUPT handler's entry: the request is taken, its frame pushed, and its vector run (R517, R518). -/
theorem State.serviceInt_hrt (s : State) : s.serviceInt.hrt = { s.hrt with
    traps := s.hrt.traps.filter (· ≠ 2)
    frames := (s.hrt.cur, 2, s.urgent (s.eligible 0)) :: s.hrt.frames
    cur := { s.hrt.cur with upc := Config.trapVector 2 % 65536 } } := by
  have hsource : ({ s with hrt.traps := s.hrt.traps.filter (· ≠ 2) }.claim 0).2 = s.urgent (s.eligible 0) :=
    (State.claim_source _ 0).trans (s.urgent_of_hrt _ (s.eligible 0))
  have htrap : ∀ c : Option Nat,
      (({ s with hrt.traps := s.hrt.traps.filter (· ≠ 2) }.claim 0).1.takeTrap 2 c).hrt = { s.hrt with
        traps := s.hrt.traps.filter (· ≠ 2)
        frames := (s.hrt.cur, 2, c) :: s.hrt.frames
        cur := { s.hrt.cur with upc := Config.trapVector 2 % 65536 } } := by
    intro c
    simp only [State.takeTrap, State.vectorTo, State.bump_hrt, State.claim_hrt]
  unfold State.serviceInt
  dsimp only
  split
  next hnone =>
    rw [htrap, hsource]
  next n hsome =>
    rw [State.logWrite_hrt]
    exact (htrap _).trans (by rw [hsource])

theorem exec_tickTrap_of_room {s : State} (hr : s.intRuns = true) (hd : s.due s.hrt.tickAt (usecs 1) = true)
    (hf : s.hrt.frames.length < 4) : exec .tickTrap s = .next { s with hrt.tickAt := some s.now }.serviceTick := by
  change execTickTrap s = _
  rw [execTickTrap, if_pos ⟨hr, hd⟩]
  exact congrArg Host.Outcome.next (if_pos hf)

/-! ### Returns, yields and releases -/

theorem State.switchCtx_quiesce (s : State) (c : Nat) : (s.switchCtx c).hrt.quiesce = s.hrt.quiesce := by
  unfold State.switchCtx
  split
  · rfl
  · split <;> rfl

/-- A handler that claimed nothing returns to the routine that it interrupted, or to the next ready one (R517). -/
theorem exec_trapReturn_of_unclaimed {s : State} {m : Micro} {c : Nat} {l : List (Micro × Nat × Option Nat)}
    (hr : s.intRuns = true) (hf : s.hrt.frames = (m, c, none) :: l) (hl : l.length < 3) (hq : s.hrt.quiesce = none) :
    exec .trapReturn s = .next (if s.ctxRuns = true then { s with hrt.frames := l, hrt.cur := m }
      else { s with hrt.frames := l, hrt.cur := m }.switchCtx m.ctx) := by
  have hdeep : ¬ s.depth = 4 := by
    rw [State.depth, hf, List.length_cons]
    omega
  have hquiet : ∀ t : State, t = (if s.ctxRuns = true then { s with hrt.frames := l, hrt.cur := m }
      else { s with hrt.frames := l, hrt.cur := m }.switchCtx m.ctx) → t.tryQuiesce = t := by
    rintro _ rfl
    refine State.tryQuiesce_of_none ?_
    split
    · exact hq
    · exact (State.switchCtx_quiesce _ _).trans hq
  change execTrapReturn s = _
  rw [execTrapReturn, hf]
  dsimp only
  rw [if_neg (not_not_intro hr)]
  simp only [decide_eq_true_eq, if_neg hdeep]
  exact congrArg Host.Outcome.next (hquiet _ rfl)

/-- The switch after context `c` leaves a context that is not ready as it is. -/
theorem State.switchCtx_hctx_of_unready {s : State} {k : Nat} (h : (s.hctx k).st ≠ 2) (c : Nat) :
    (s.switchCtx c).hctx k = s.hctx k := by
  unfold State.switchCtx
  split
  · rfl
  · split
    next k' hk' =>
      have hready : (s.hctx k').st = 2 := by simpa using List.find?_some hk'
      have hne : k ≠ k' := fun he => h (he ▸ hready)
      exact State.setHctx_hctx_ne s { s.hctx k' with st := 1 } hne
    next => rfl

/-- The executing context stands yielded at the micro-address where its routine goes on (R511). -/
theorem State.yieldAt_hctx {s : State} {k : Nat} {x : Ctx} (hf : s.hrt.ctx.find? (fun c => c.2.st = 1) = some (k, x))
    (hq : s.hrt.quiesce = none) (upc : Nat) :
    (s.yieldAt upc).hctx k = { x with st := 3, micro := { s.hrt.cur with upc := upc % 65536 } } := by
  generalize hx : ({ x with st := 3, micro := { s.hrt.cur with upc := upc % 65536 } } : Ctx) = x'
  have hunready : x'.st ≠ 2 := by
    rw [← hx]
    exact Nat.succ_ne_self 2
  have hyield : s.yieldAt upc = ({ s.setHctx k x' with hrt.cur := { s.hrt.cur with upc := upc % 65536 } }.switchCtx
      k).tryQuiesce := by
    rw [State.yieldAt, hf, ← hx]
  generalize hu : ({ s.setHctx k x' with hrt.cur := { s.hrt.cur with upc := upc % 65536 } } : State) = u at hyield
  have hquiet : u.hrt.quiesce = none := by
    rw [← hu]
    exact hq
  have hctx : u.hctx k = x' := by
    rw [← hu]
    exact s.setHctx_hctx_self k x'
  rw [hyield, State.tryQuiesce_of_none ((u.switchCtx_quiesce k).trans hquiet),
    State.switchCtx_hctx_of_unready (hctx ▸ hunready), hctx]

theorem State.applyDefers_hrt (s : State) (g : Nat) :
    (s.applyDefers g).hrt = { s.hrt with defer := s.hrt.defer.set [] g [] } := by
  have hl : ∀ (l : List DeferOp) (s : State), (l.foldl State.applyDefer s).hrt = s.hrt := by
    intro l
    induction l with
    | nil => exact fun _ => rfl
    | cons d l ih => exact fun s => (ih _).trans (State.setReg_hrt _ _ _)
  exact hl _ _

theorem State.releaseGroup_of_held {s : State} {c grp : Nat} (hs : (s.hctx c).st ≠ 0) (hg : grp ∈ (s.hctx c).groups) :
    ∃ h, s.releaseGroup c grp = (s.setHctx c { s.hctx c with groups := (s.hctx c).groups.filter (· ≠ grp), holds := h
      }).applyDefers grp :=
  ⟨_, if_pos ⟨hs, hg⟩⟩

/-- Settles O4: each trap pushes or reuses its frame, a return takes it off, a yield and a release write their context. -/
theorem hearthTraps : Obligations.HearthTraps := by
  unfold Obligations.HearthTraps
  refine ⟨⟨?fault, ?faultInside⟩, ?interrupt, ?tick, ?ret, ?yield, ?release⟩
  case fault =>
    intro s upc hr hf
    refine ⟨_, (exec_faultTrap_unused hr upc).trans (congrArg Host.Outcome.next (State.takeFault_of_none hf)), ?_, rfl, rfl⟩
    exact congrArg (List.cons _) hf
  case faultInside =>
    intro s upc c m cl l hr hf
    exact ⟨_, (exec_faultTrap_unused hr upc).trans (congrArg Host.Outcome.next (State.takeFault_of_frame hf)), rfl, rfl, rfl⟩
  case interrupt =>
    intro s hr h2 hd
    refine ⟨_, exec_interruptTrap_of_room hr h2 hd, ?_⟩
    rw [State.serviceInt_hrt]
    exact ⟨by simp, rfl, rfl⟩
  case tick =>
    intro s hr hd hf
    rw [exec_tickTrap_of_room hr hd hf]
    rfl
  case ret =>
    intro s m c l hr hf hl hq
    exact exec_trapReturn_of_unclaimed hr hf hl hq
  case yield =>
    intro s upc k x hf hq
    exact ⟨_, rfl, State.yieldAt_hctx hf hq upc⟩
  case release =>
    intro s ctx grp hs hg
    obtain ⟨h, hx⟩ := State.releaseGroup_of_held hs hg
    refine ⟨_, rfl, ?_⟩
    rw [hx, State.hctx, State.applyDefers_hrt]
    refine ⟨?_, by simp [Tab.get_set_self]⟩
    dsimp only
    rw [← State.hctx, State.setHctx_hctx_self]
    simp

end Sys2Proof.Machine
end

section
/-!
PROOFS. The event router: its commands (R553, R559) and its register requests, publications, filters and wakes (R548, R550,
R552, R555, R557, R560).
-/

namespace Sys2Proof.Machine
open Sys2Proof

/-! ### Commits -/

/-- A configuration that allocates, has no loop and is permitted is applied and counted (R553). -/
theorem State.evrCommit_of_permitted {s : State} {fn : Nat} {cells : List (Nat × Word × Word × Word)} {t : List Nat}
    {pubs : List (Nat × Word)} (hc : s.allocCells (s.evrConf fn).cells [] = some (cells, t))
    (hp : s.allocPubs (s.evrConf fn).pubs t = some pubs) (hl : evrCycle (evrEdges cells) = none)
    (ha : s.evrPermitted ⟨cells, pubs⟩ = true) : s.evrCommit fn
      = ((((s.applyConf fn ⟨cells, pubs⟩).bump Page.evr F.EVR_COMMITS).p Page.evr F.EVR_COMMIT_RESULT_STATUS St.success).p
          Page.evr F.EVR_COMMIT_RESULT_CHANNEL 0, St.success, 0) := by
  have hpermitted : ¬ ¬ s.evrPermitted ⟨cells, pubs⟩ = true := not_not_intro ha
  unfold State.evrCommit
  simp only [hc, hp, hl, if_neg hpermitted]

theorem cEvrCommit_run (s : State) (p : Pkt) :
    cEvrCommit.run s p = (s.evrCommit p.fn).1.finish p (.plain (s.evrCommit p.fn).2.1) (s.evrCommit p.fn).2.2 := rfl

/-- Settles O5: each command runs to its completion, EVR_COMMIT with what a permitted commit answers. -/
theorem eventRouterCommands : Obligations.EventRouterCommands := by
  unfold Obligations.EventRouterCommands
  refine ⟨?channel, ?cell, ?publisher, ?commit, ?discard, ?publish⟩
  case channel =>
    intro s p y h
    exact runs_of_plain (c := cEvrChanSet) rfl h rfl
  case cell =>
    intro s p y h
    exact runs_of_plain (c := cEvrCellStage) rfl h rfl
  case publisher =>
    intro s p y h
    exact runs_of_plain (c := cEvrPubStage) rfl h rfl
  case commit =>
    intro s p y cells t pubs h hc hp hl ha
    refine runs_of_plain (c := cEvrCommit) rfl h ?_
    rw [cEvrCommit_run, State.evrCommit_of_permitted hc hp hl ha]
  case discard =>
    intro s p y h
    exact runs_of_plain (c := cEvrDiscard) rfl h rfl
  case publish =>
    intro s p y h
    exact runs_of_plain (c := cEvrPublish) rfl h rfl

/-! ### Register requests -/

section
variable {s : State} {fn : Nat}

theorem exec_evrCtrlCommit (ho : s.Opens fn (Page.evr + 4)) : exec (.evrCtrlCommit fn) s = .next (s.evrCommit fn).1 := by
  change execEvrCtrlCommit fn s = _
  rw [execEvrCtrlCommit, State.onWrite_of_opens ho]

theorem exec_evrCtrlDiscard (ho : s.Opens fn (Page.evr + 4)) : exec (.evrCtrlDiscard fn) s = .next (s.evrDiscard fn) := by
  change execEvrCtrlDiscard fn s = _
  rw [execEvrCtrlDiscard, State.onWrite_of_opens ho]

theorem exec_evrSwPub (ho : s.Opens fn (Page.evr + 0xC)) {ch : Nat} (hch : ch < 256) :
    exec (.evrSwPub fn ch) s = .next (s.publish fn ch) := by
  change execEvrSwPub fn ch s = _
  rw [execEvrSwPub, State.onWrite_of_opens ho, Nat.mod_eq_of_lt hch]

/-- A function with the full view, or one that owns the channel, writes its registers (R561). -/
theorem State.evchWrite_of_owner {ch : Nat} (h : full fn = true ∨ s.evOwner ch = fn) (f : State → State) :
    s.evchWrite fn ch f = f s := by
  refine if_neg ?_
  rw [not_and_or, not_not, ne_eq, not_not]
  exact h

theorem exec_chanRateTripClear {ch : Nat} (hch : ch < 256) (ho : s.Opens fn (Page.evch ch + 4))
    (hw : full fn = true ∨ s.evOwner ch = fn) :
    exec (.chanRateTripClear fn ch) s = .next (s.unflag (Page.evch ch) F.EVR_CHAN_STATUS_RATE_TRIP) := by
  change execChanRateTripClear fn ch s = _
  rw [execChanRateTripClear, if_pos hch, State.onWrite_of_opens ho, State.evchWrite_of_owner hw]

end

/-! ### Publications, filters and wakes -/

/-- A permitted event on an enabled channel, the first of its tick, is carried (R543, R544, R548). -/
theorem State.publish_of_free {s : State} {own ch : Nat} (hoff : s.pwr.mode ≠ .off) (hbanked : s.pwr.mode ≠ .banked)
    (he : s.on (Page.evch ch) F.EVR_CHAN_CFG_ENABLE = true) (hm : s.mayPublish own ch = true)
    (hn : s.evr.now.get false ch = false) (ht : s.on (Page.evch ch) F.EVR_CHAN_STATUS_RATE_TRIP = false) :
    s.publish own ch = s.carry ch := by
  have hmode : ¬ (s.pwr.mode = .off ∨ (s.pwr.mode = .banked ∧ ¬ (false = true ∧ s.on (Page.evch ch) F.EVR_CHAN_CFG_AO))) :=
    fun h => h.elim hoff (fun h => hbanked h.1)
  unfold State.publish
  dsimp only
  rw [if_neg hmode, if_neg (not_not_intro he), if_neg (not_not_intro hm), if_neg (ne_true_of_eq_false hn),
    if_neg (ne_true_of_eq_false ht)]

theorem exec_eventPublication_direct {s : State} {own ch : Nat} (hch : ch < 256) :
    exec (.eventPublication (.direct own ch)) s = .next (s.publish own ch) :=
  congrArg Host.Outcome.next (if_pos hch)

theorem exec_eventPublication_table (s : State) (n : Nat) :
    exec (.eventPublication (.table n)) s = .next (s.publishSrc n) := rfl

theorem exec_cellFilterSettled_of_held {s : State} {c : Nat} (hc : c ∈ s.liveCells)
    (hf : s.cellF c F.EVR_CELL_CFG_FILT ≠ 0) (ho : (s.evr.cell.get Cell.zero c).out ≠ (s.evr.cell.get Cell.zero c).pub)
    (hh : s.cellF c F.EVR_CELL_CFG_FILT ≤ (s.evr.cell.get Cell.zero c).held) :
    exec (.cellFilterSettled c) s = .next (s.cellSettle c) :=
  congrArg Host.Outcome.next (if_pos ⟨hc, hf, ho, hh⟩)

/-- A channel that may wake the module finds it BANKED (R557). -/
theorem State.wakes_mode {s : State} {ch : Nat} (h : s.wakes ch = true) : s.pwr.mode = .banked := by
  simp only [State.wakes, Bool.and_eq_true, decide_eq_true_eq] at h
  exact h.1.1

/-- A wake that nothing holds up begins with the steps of R70 (R621). -/
theorem State.startWake_of_ref {s : State} (hm : s.pwr.mode = .banked) (hb : s.pwr.busy = .none)
    (hr : s.on Page.tim F.TIM_STATUS_REF_OK = true) :
    s.startWake = ({ s.flag Page.tim F.TIM_STATUS_PLL_LOCK with pwr.busy := .wake }).convUp.alignStart := by
  have hfree : ¬ (s.pwr.mode ≠ .banked ∨ s.pwr.busy ≠ .none) := by simp [hm, hb]
  rw [State.startWake, if_neg hfree, if_neg (not_not_intro hr), State.wakeSteps]

theorem exec_wakeEvent {s : State} {ch : Nat} (hch : ch < 256) (hw : s.wakes ch = true) :
    exec (.wakeEvent ch) s = .next s.startWake :=
  congrArg Host.Outcome.next (if_pos ⟨hch, hw⟩)

/-- Settles O6: each row comes to the operation that it names, and that to the branch that its conditions choose. -/
theorem eventRouterActions : Obligations.EventRouterActions := by
  unfold Obligations.EventRouterActions
  refine ⟨?commit, ?discard, ?software, ⟨?direct, ?table⟩, ?clear, ?filter, ?wake⟩
  case commit =>
    intro s fn cells t pubs ho hc hp hl ha
    rw [exec_evrCtrlCommit ho, State.evrCommit_of_permitted hc hp hl ha]
  case discard =>
    intro s fn ho
    exact exec_evrCtrlDiscard ho
  case software =>
    intro s fn ch ho hch
    exact exec_evrSwPub ho hch
  case direct =>
    intro s own ch hch hoff hbanked he hm hn ht
    rw [exec_eventPublication_direct hch, State.publish_of_free hoff hbanked he hm hn ht]
  case table =>
    intro s n
    rw [exec_eventPublication_table, State.publishSrc]
  case clear =>
    intro s fn ch hch ho hw
    exact exec_chanRateTripClear hch ho hw
  case filter =>
    intro s c hc hf ho hh
    exact exec_cellFilterSettled_of_held hc hf ho hh
  case wake =>
    intro s u ch hch hw hb hr hu
    rw [hu]
    exact (exec_wakeEvent hch hw).trans (congrArg Host.Outcome.next (State.startWake_of_ref (State.wakes_mode hw) hb hr))

end Sys2Proof.Machine
end

section
/-!
PROOFS. The fabric's commands (R472, R483, R496, R499), its lanes (R469 to R471), its ports and the frames that come in (R473 to
R479), and discovery and routes (R483, R484).
-/

namespace Sys2Proof.Machine
open Sys2Proof

/-! ### Commands -/

@[simp] theorem State.inRun_fab (s : State) (p : Pkt) : (s.inRun p).fab = s.fab := by
  obtain ⟨l, h⟩ := s.inRun_eq p
  rw [h]

@[simp] theorem State.inRun_now (s : State) (p : Pkt) : (s.inRun p).now = s.now := by
  obtain ⟨l, h⟩ := s.inRun_eq p
  rw [h]
  rfl

section
variable {s t : State} {p : Pkt} (ht : t = forEach ((portLanes p.target).filter (fun l => s.rxState l = 3)) s
  (fun s l => s.setLane l { s.lane l with search := some 0 }))
include ht

/-- Training begins the search of every lane in ALIGN and waits for the port (R470, R499). -/
theorem cFabLinkTrain_run_of_down (h : t.portUp p.target = false) :
    cFabLinkTrain.run s p = t.setPort p.target { t.port p.target with owed := p.who } := by
  subst ht
  exact if_neg (ne_true_of_eq_false h)

/-- A port that is UP has trained (R499). -/
theorem cFabLinkTrain_run_of_up (h : t.portUp p.target = true) :
    cFabLinkTrain.run s p = t.succeed p (t.trainResult p.target) := by
  subst ht
  exact if_pos h

end

/-- A root with an address keeps it and begins a discovery with the next number (R483). -/
theorem State.discover_of_addressed {s : State} {n t : Nat} (h : s.on Page.fab F.FAB_STATUS_ADDR_VALID = true)
    (hn : n = (s.fab.discNo + 1) % 16) (ht : t = s.now / 16) (who : Option (Nat × Nat)) : s.discover who = { s with
      fab.discNo := n, fab.parent := none, fab.claims := [], fab.lastAnn := t
      fab.discOwed := who, fab.discEnd := none }.sendDiscover 0 n modId none := by
  rw [State.discover, if_pos h, hn, ht]

theorem cFabDiscover_run (s : State) (p : Pkt) : cFabDiscover.run s p = s.discover p.who := rfl

/-- Settles O35: each command runs to its completion; training, discovery and handover leave it to an event. -/
theorem fabricCommands : Obligations.FabricCommands := by
  unfold Obligations.FabricCommands
  refine ⟨?lane, ⟨?train, ?trained⟩, ?port, ?discover, ?clear, ?route, ?nodes, ?twin, ?handover, ?restore⟩
  case lane =>
    intro s p y h
    exact runs_of_plain (c := cFabLaneConfig) rfl h rfl
  case train =>
    intro s t p y h ht hup
    rw [← cFabLinkTrain_run_of_down ht hup]
    exact congrArg Host.Outcome.next (command_inHand (c := cFabLinkTrain) h)
  case trained =>
    intro s t p y h ht hup
    exact runs_of_plain (c := cFabLinkTrain) rfl h (cFabLinkTrain_run_of_up ht hup)
  case port =>
    intro s p y h
    exact runs_of_plain (c := cFabPortConfig) rfl h rfl
  case discover =>
    intro s p y n h ha hn
    have hrun := State.discover_of_addressed (n := n) (t := s.now / 16) ((s.inRun_on y _ _).trans ha) (by simp [hn]) (by simp)
      y.who
    exact congrArg Host.Outcome.next ((command_inHand (c := cFabDiscover) h).trans hrun)
  case clear =>
    intro s p y h
    exact runs_of_plain (c := cFabAddrClear) rfl h rfl
  case route =>
    intro s p y h
    exact runs_of_plain (c := cFabRouteSet) rfl h rfl
  case nodes =>
    intro s p y h
    exact runs_of_plain (c := cFabPartNodesSet) rfl h rfl
  case twin =>
    intro s p y h
    exact runs_of_plain (c := cFabTwinConfig) rfl h rfl
  case handover =>
    intro s p y h
    exact congrArg Host.Outcome.next (command_inHand (c := cFabTwinHandover) h)
  case restore =>
    intro s p y h
    exact runs_of_plain (c := cFabLaneRestore) rfl h rfl

/-! ### Lanes -/

/-- The block boundary of a lane in ALIGN moves one bit later (R469). -/
theorem State.laneSlip_of_align {s : State} {l : Nat} (h : s.rxState l = 3) : s.laneSlip l
    = (s.setLane l (s.lane l).slip).p (Page.lane l) F.FAB_LANE_STATUS_SLIP_POS
      ((s.g (Page.lane l) F.FAB_LANE_STATUS_SLIP_POS + 1) % 84) :=
  if_pos h

theorem State.laneRetrain_of_aligned {s : State} {l : Nat} (h : s.rxState l = 4) : s.laneRetrain l = s.setLaneRx l 2 :=
  if_pos h

/-- Eight invalid markers in a row are a loss of lock (R467). -/
theorem State.laneDetect_of_markers {s : State} {l : Nat} (h4 : s.rxState l = 4) (hb : 8 ≤ (s.lane l).rx.bad) :
    s.laneDetect l = s.flag (Page.lane l) F.FAB_LANE_STATUS_LOL :=
  if_pos ⟨h4, hb⟩

/-- Which detector fires otherwise is the line's (R467). -/
theorem State.laneDetect_of_line {s v : State} {l m : Nat} (h : ¬ (s.rxState l = 4 ∧ 8 ≤ (s.lane l).rx.bad))
    (hv : s.fresh 1 = (v, m)) :
    s.laneDetect l = v.flag (Page.lane l) (if m = 0 then F.FAB_LANE_STATUS_LOS else F.FAB_LANE_STATUS_LOL) := by
  rw [State.laneDetect, if_neg h, hv]

section
variable {s : State} {l : Nat} (hl : l < 32)
include hl

theorem exec_laneSlip {fn : Nat} (ho : s.Opens fn (Page.lane l + 4)) : exec (.laneSlip fn l) s = .next (s.laneSlip l) := by
  change execLaneSlip fn l s = _
  rw [execLaneSlip, if_pos hl, laneCtrlAt, State.onWrite_of_opens ho]

theorem exec_laneRetrain {fn : Nat} (ho : s.Opens fn (Page.lane l + 4)) :
    exec (.laneRetrain fn l) s = .next (s.laneRetrain l) := by
  change execLaneRetrain fn l s = _
  rw [execLaneRetrain, if_pos hl, laneCtrlAt, State.onWrite_of_opens ho]

/-- A step of the search of R470. -/
theorem exec_autoSlipStep {n : Nat} (h3 : s.rxState l = 3) (hs : (s.lane l).search = some n) (hn : n < 168)
    (hm : s.on (Page.lane l) F.FAB_LANE_STATUS_MARK_OK = false) : exec (.autoSlipStep l) s
      = .next ((s.laneSlip l).setLane l { (s.laneSlip l).lane l with search := some (n + 1) }) := by
  have hlive : ¬ (32 ≤ l ∨ s.rxState l ≠ 3) := by omega
  have hgoes : ¬ (searchSteps ≤ n ∨ s.on (Page.lane l) F.FAB_LANE_STATUS_MARK_OK = true) := by
    rw [searchSteps, hm]
    simp only [Bool.false_eq_true, or_false]
    omega
  change execAutoSlipStep l s = _
  rw [execAutoSlipStep, if_neg hlive, hs]
  exact congrArg Host.Outcome.next (if_neg hgoes)

theorem exec_laneCdrLock {v : State} (h2 : s.rxState l = 2)
    (hv : v = ((s.unflag (Page.lane l) F.FAB_LANE_STATUS_LOS).unflag (Page.lane l) F.FAB_LANE_STATUS_LOL).p (Page.lane l)
      F.FAB_LANE_STATUS_SLIP_POS 0) :
    exec (.laneCdrLock l) s = .next ((v.setLane l { v.lane l with
      search := if v.on (Page.lane l) F.FAB_LANE_CFG_AUTO_SLIP then some 0 else none, rx := .zero }).setLaneRx l 3) := by
  have hlive : ¬ (32 ≤ l ∨ s.rxState l ≠ 2) := by omega
  subst hv
  exact congrArg Host.Outcome.next (if_neg hlive)

theorem exec_laneAligned (h3 : s.rxState l = 3) (hg : 64 ≤ (s.lane l).rx.good) :
    exec (.laneAligned l) s = .next ((s.setLane l { s.lane l with fails := 0 }).setLaneRx l 4) := by
  have hlive : ¬ (32 ≤ l ∨ s.rxState l ≠ 3 ∨ (s.lane l).rx.good < 64) := by omega
  exact congrArg Host.Outcome.next (if_neg hlive)

theorem exec_alignTimeout (h3 : s.rxState l = 3)
    (he : (s.lane l).search = some 168 ∨ (s.lane l).alignAt + msecs 10 ≤ s.now) :
    exec (.alignTimeout l) s = .next (s.alignFail l) := by
  have hlive : ¬ (32 ≤ l ∨ s.rxState l ≠ 3) := by omega
  change execAlignTimeout l s = _
  rw [execAlignTimeout, if_neg hlive, if_pos]
  exact he

theorem exec_laneLoss_of_aligned (h4 : s.rxState l = 4) : exec (.laneLoss l) s = .next ((s.laneDetect l).lockLoss l) := by
  have hlive : ¬ (32 ≤ l ∨ s.rxState l < 2 ∨ 4 < s.rxState l) := by omega
  change execLaneLoss l s = _
  rw [execLaneLoss, if_neg hlive, if_pos h4]

theorem exec_laneLoss_of_unaligned (h : s.rxState l = 2 ∨ s.rxState l = 3) :
    exec (.laneLoss l) s = .next (s.laneDetect l) := by
  have hlive : ¬ (32 ≤ l ∨ s.rxState l < 2 ∨ 4 < s.rxState l) := by omega
  have h4 : s.rxState l ≠ 4 := by omega
  change execLaneLoss l s = _
  rw [execLaneLoss, if_neg hlive, if_neg h4]

end

/-- Settles O36: each row comes to the operation that its lane's state chooses. -/
theorem fabricLanes : Obligations.FabricLanes := by
  unfold Obligations.FabricLanes
  refine ⟨?slip, ?search, ?lock, ?aligned, ?timeout, ⟨?markers, ?line, ?unaligned⟩⟩
  case slip =>
    intro s fn l hl ho
    refine ⟨fun h3 => ?_, fun h4 => ?_⟩
    · rw [exec_laneSlip hl ho, State.laneSlip_of_align h3]
    · rw [exec_laneRetrain hl ho, State.laneRetrain_of_aligned h4]
  case search =>
    intro s u l n hl h3 hs hn hm hu
    rw [exec_autoSlipStep hl h3 hs hn hm, State.laneSlip_of_align h3, ← hu]
  case lock =>
    intro s v l hl h2 hv
    exact exec_laneCdrLock hl h2 hv
  case aligned =>
    intro s l hl h3 hg
    exact exec_laneAligned hl h3 hg
  case timeout =>
    intro s l hl h3 he
    exact exec_alignTimeout hl h3 he
  case markers =>
    intro s l hl h4 hb
    rw [exec_laneLoss_of_aligned hl h4, State.laneDetect_of_markers h4 hb]
  case line =>
    intro s v l m hl h4 hb hv
    rw [exec_laneLoss_of_aligned hl h4, State.laneDetect_of_line (fun h => Nat.not_le.2 hb h.2) hv]
  case unaligned =>
    intro s v l m hl h hv
    rw [exec_laneLoss_of_unaligned hl h, State.laneDetect_of_line (by omega) hv]

/-! ### Bits, blocks and frames that come in -/

/-- The marker state of a port's first lane is not a retained setting. -/
theorem retMask_laneStatus {p : Nat} (hp : p < 8) :
    retMask (Page.lane (4 * p) + F.FAB_LANE_STATUS_MARK_OK.off) = 0 := by
  revert p
  decide +kernel

/-- One bit on the first lane of a port is the whole of what comes in. -/
theorem State.lineIn_bit (s : State) (p : Nat) (b : Bool) : s.lineIn p [[b]] = s.laneBit (4 * p) b := by
  simp [State.lineIn, forEach, List.range_succ]

/-- The last of two writes to one lane stands alone, where the first was no lane at rest. -/
theorem State.setLane_setLane (s : State) (l : Nat) {x : Lane} (hx : x ≠ Lane.zero) (y : Lane) :
    (s.setLane l x).setLane l y = s.setLane l y := by
  simp only [State.setLane, Tab.set_set _ _ hx]

/-- A line bit that is not a stuffed one leaves a run of at least one bit (R465). -/
theorem LineRx.bit_run {c r : LineRx} {b d : Bool} (h : c.bit b = (r, some d)) : r.run ≠ 0 := by
  unfold LineRx.bit at h
  split at h
  · cases h
  · cases h
    dsimp only
    split
    · exact Nat.succ_ne_zero _
    · exact Nat.one_ne_zero

theorem LineRx.gather_run (c : LineRx) (d : Bool) : (c.gather d).1.run = c.run := by
  unfold LineRx.gather
  dsimp only
  split
  · rfl
  · split <;> rfl

/-- A valid marker on an ALIGNED lane takes its block to the port (R467, R469). -/
theorem State.laneBlock_of_marker {s u : State} {p v : Nat} (hp : p < 8) (h4 : s.rxState (4 * p) = 4)
    (hm : markOk v = true)
    (hu : u = (s.setLane (4 * p) { s.lane (4 * p) with rx := (s.lane (4 * p)).rx.marked v }).p (Page.lane (4 * p))
      F.FAB_LANE_STATUS_MARK_OK (if 16 ≤ ((s.lane (4 * p)).rx.marked v).good then 1 else 0)) :
    s.laneBlock (4 * p) v = u.blockIn p v := by
  have haligned : u.rxState (4 * p) = 4 := by
    rw [hu, State.rxState, State.g_p_other_of_unretained _ (f' := F.FAB_LANE_STATUS_RX_STATE) (retMask_laneStatus hp) rfl
      (by decide) (by decide)]
    exact h4
  have hport : 4 * p / 4 = p := Nat.mul_div_cancel_left p (by decide)
  rw [State.laneBlock]
  dsimp only
  rw [← hu, if_neg (not_not_intro haligned), if_pos hm, hport]

/-- A bit that ends a block with a valid marker on an ALIGNED lane (R464 to R466, R469). -/
theorem State.laneBit_of_block {s u : State} {p v : Nat} {b d : Bool} {r g : LineRx} (hp : p < 8)
    (h4 : s.rxState (4 * p) = 4) (hs : (s.lane (4 * p)).rx.stuffed = false)
    (hr : (s.lane (4 * p)).rx.bit (b ^^ s.on (Page.lane (4 * p)) F.FAB_LANE_CFG_RX_INVERT) = (r, some d))
    (hg : r.gather d = (g, some v)) (hm : markOk v = true)
    (hu : u = (s.setLane (4 * p) { s.lane (4 * p) with rx := g.marked v }).p (Page.lane (4 * p)) F.FAB_LANE_STATUS_MARK_OK
      (if 16 ≤ (g.marked v).good then 1 else 0)) :
    s.laneBit (4 * p) b = u.blockIn p v := by
  have hbusy : ({ s.lane (4 * p) with rx := g } : Lane) ≠ Lane.zero := by
    intro he
    have hrun : g.run = 0 := congrArg (fun x : Lane => x.rx.run) he
    have hkept := LineRx.gather_run r d
    rw [hg] at hkept
    exact LineRx.bit_run hr (hkept.symm.trans hrun)
  have hlive : ¬ (s.rxState (4 * p) ≠ 3 ∧ s.rxState (4 * p) ≠ 4) := fun h => h.2 h4
  have hblock := State.laneBlock_of_marker (s := s.setLane (4 * p) { s.lane (4 * p) with rx := g }) (u := u) hp h4 hm (by
    rw [State.setLane_lane_self, State.setLane_setLane _ _ hbusy]
    exact hu)
  rw [State.laneBit, if_neg hlive]
  dsimp only
  rw [hr, State.when_of_not (by simp [hs])]
  dsimp only
  rw [hg]
  exact hblock

/-- A block whose frame lacks others is kept (R476). -/
theorem State.blockIn_of_partial {s : State} {p v : Nat} {bl : Tab (Option Nat)}
    (hn : (s.port p).blocks.get none (v % 4) = none) (hb : bl = (s.port p).blocks.set none (v % 4) (some (v / 16)))
    (hmiss : bl.get none 0 = none ∨ bl.get none 1 = none ∨ bl.get none 2 = none ∨ bl.get none 3 = none) :
    s.blockIn p v = s.setPort p { s.port p with blocks := bl } := by
  have hfree : ¬ ((s.port p).blocks.get none (v % 4)).isSome = true := by simp [hn]
  subst hb
  rw [State.blockIn]
  dsimp only
  rw [if_neg hfree]
  split
  next h0 h1 h2 h3 => simp_all
  next => rfl

/-- 320 bits are the four blocks of 80 that they hold. -/
theorem blocks_sum {c : Nat} (hc : c < 2 ^ 320) : c / 2 ^ (80 * 0) % 2 ^ 80 + c / 2 ^ (80 * 1) % 2 ^ 80 * 2 ^ 80
    + c / 2 ^ (80 * 2) % 2 ^ 80 * 2 ^ 160 + c / 2 ^ (80 * 3) % 2 ^ 80 * 2 ^ 240 = c := by
  omega

/-- The fourth block of a frame completes it (R476). -/
theorem State.blockIn_of_whole {s : State} {p v c : Nat} {bl : Tab (Option Nat)}
    (hn : (s.port p).blocks.get none (v % 4) = none) (hb : bl = (s.port p).blocks.set none (v % 4) (some (v / 16)))
    (hall : ∀ i < 4, bl.get none i = some (c / 2 ^ (80 * i) % 2 ^ 80)) (hc : c < 2 ^ 320) :
    s.blockIn p v = (s.setPort p { s.port p with blocks := [] }).frameIn p (frameOf c) := by
  have hfree : ¬ ((s.port p).blocks.get none (v % 4)).isSome = true := by simp [hn]
  subst hb
  rw [State.blockIn]
  dsimp only
  rw [if_neg hfree, hall 0 (by decide), hall 1 (by decide), hall 2 (by decide), hall 3 (by decide)]
  dsimp only
  rw [blocks_sum hc]

/-- A frame with a bad CRC is counted, and the peer is told (R477). -/
theorem State.frameIn_of_bad {s : State} {p : Nat} {f : FabFrame} (hs : s.portState p ≠ 0) (hf : f.crcOk = false) :
    s.frameIn p f = s.frameBad p := by
  rw [State.frameIn, if_neg hs, if_pos (ne_true_of_eq_false hf)]

/-- A good DATA frame that asks for nothing again (R474, R477). -/
theorem State.frameIn_of_data {s : State} {p : Nat} {f : FabFrame} (hs : s.portState p ≠ 0) (hf : f.crcOk = true)
    (hd : f.data = true) (hn : f.nak = false) : s.frameIn p f
      = ((((s.setPort p { s.port p with peerLanes := f.rxLanes % 16 }).portWidths p).portGone p).lackIn p
          (f.lack % 1024)).dataIn p f := by
  rw [State.frameIn, if_neg hs, if_neg (not_not_intro hf)]
  dsimp only
  rw [if_neg (ne_true_of_eq_false hn), if_pos hd]

theorem exec_frameReceive_bit {p : Nat} (hp : p < 8) (s : State) (b : Bool) :
    exec (.frameReceive p [[b]]) s = .next (s.laneBit (4 * p) b) := by
  change execFrameReceive p [[b]] s = _
  rw [execFrameReceive, if_pos hp, State.lineIn_bit]

/-! ### Ports -/

section
variable {s : State} {p : Nat} (hp : p < 8)
include hp

theorem exec_lackStallTimeout (hr : (s.port p).replay ≠ []) (ht : (s.port p).lastAckAt + 1000 ≤ s.now / 16) :
    exec (.lackStallTimeout p) s = .next (s.resend p) :=
  congrArg Host.Outcome.next (if_pos ⟨hp, hr, ht⟩)

/-- A word that expires before its frame was sent leaves the queue (R478). -/
theorem exec_wordExpire_of_queue (hr : (s.port p).replay.any (fun f => f.words.any s.expired) = false)
    (hq : (s.port p).queue.any s.expired = true) : exec (.wordExpire p) s
      = .next ((s.setPort p { s.port p with queue := s.dropOld (s.port p).queue }).wordGone p 1) := by
  change execWordExpire p s = _
  rw [execWordExpire, if_neg (Nat.not_le.2 hp)]
  dsimp only
  rw [if_neg (ne_true_of_eq_false hr), if_pos hq]

theorem exec_frameAckTimeout (hu : s.portUp p = true)
    (ht : (s.port p).replay.any (fun f => f.sent + 4096 ≤ s.now / 16) = true) :
    exec (.frameAckTimeout p) s = .next (((s.dropReplay p).portFall p).portGone p) :=
  congrArg Host.Outcome.next (if_pos ⟨hp, hu, ht⟩)

theorem exec_helloSend (hs : s.portState p ≠ 0)
    (ht : (s.port p).hello = 0 ∨ (s.port p).hello - 1 + (if s.portUp p then 1000000 else 10000) ≤ s.now / 16) :
    exec (.helloSend p) s
      = .next ((s.setPort p { s.port p with hello := s.now / 16 + 1 }).linkWord p (s.helloWord p)) := by
  have hlive : ¬ (8 ≤ p ∨ s.portState p = 0) := not_or.2 ⟨Nat.not_le.2 hp, hs⟩
  change execHelloSend p s = _
  rw [execHelloSend, if_neg hlive]
  exact congrArg Host.Outcome.next (if_pos ht)

section
variable {v : State} {w : BitVec 64} (hf : s.linkFlows p = true) (hw : bitsOf w 3 0 = 0) (hv : v = s.takeWord 8 w)
  (hu : v.portUp p = true)
include hf hw hv hu

/-- A HELLO on an UP port: one from the known peer, or from another (R479). -/
theorem exec_hello_of_up : exec (.hello p w) s
    = .next (if w.toNat / 2 ^ 16 ≠ v.g64 (Page.port p) F.FAB_PORT_PEER_LO then v.peerChanged p else v.peerIs p w) := by
  have hlive : ¬ (8 ≤ p ∨ ¬ s.linkFlows p = true ∨ bitsOf w 3 0 ≠ 0) :=
    not_or.2 ⟨Nat.not_le.2 hp, not_or.2 ⟨not_not_intro hf, not_not_intro hw⟩⟩
  subst hv
  change execHello p w s = _
  rw [execHello, if_neg hlive]
  exact congrArg Host.Outcome.next (if_pos hu)

end

end

/-- Settles O37: a bit that ends a block takes it to its port's frame, and each other row comes to its port's operation. -/
theorem fabricPorts : Obligations.FabricPorts := by
  unfold Obligations.FabricPorts
  refine ⟨?frame, ?stall, ?expire, ?ack, ?send, ⟨?changed, ?known⟩⟩
  case frame =>
    intro s u w p v c b d r g bl hp h4 hs hr hg hm hu hn hb
    rw [exec_frameReceive_bit hp, State.laneBit_of_block hp h4 hs hr hg hm hu]
    refine ⟨fun hmiss => ?_, fun hw hall hc hport => ⟨fun hbad => ?_, fun hok hd hnak => ?_⟩⟩
    · rw [State.blockIn_of_partial hn hb hmiss]
    · rw [State.blockIn_of_whole hn hb hall hc, ← hw, State.frameIn_of_bad hport hbad]
    · rw [State.blockIn_of_whole hn hb hall hc, ← hw, State.frameIn_of_data hport hok hd hnak]
  case stall =>
    intro s p hp hr ht
    exact exec_lackStallTimeout hp hr ht
  case expire =>
    intro s p hp hr hq
    exact exec_wordExpire_of_queue hp hr hq
  case ack =>
    intro s p hp hu ht
    exact exec_frameAckTimeout hp hu ht
  case send =>
    intro s p hp hs ht
    exact exec_helloSend hp hs ht
  case changed =>
    intro s v p w hp hf hw hv hu hne
    rw [exec_hello_of_up hp hf hw hv hu, if_pos hne]
  case known =>
    intro s v p w hp hf hw hv hu heq
    rw [exec_hello_of_up hp hf hw hv hu, if_neg (not_not_intro heq)]

/-! ### Discovery and routes -/

section
variable {s v : State} {p : Nat} {w : BitVec 64} (hp : p < 8) (hu : s.portUp p = true) (hv : v = s.takeWord 8 w)
include hp hu hv

/-- The first DISCOVER of a number makes its port the parent, goes on, and is answered (R483 steps 2 and 3). -/
theorem exec_discover_of_new {t : State} {n : Nat} (hw : bitsOf w 3 0 = 1) (hn : n = bitsOf w 11 8) (hne : n ≠ v.fab.discNo)
    (ht : t = { v with fab.discNo := n, fab.parent := some p, fab.discUntil := v.now / 16 + 164000 }.sendDiscover
      (bitsOf w 7 4 + 1) n (w.toNat / 2 ^ 16) (some p)) (hb : t.isMemberB = false) :
    exec (.discover p w) s = .next (t.linkWord p t.announceWord) := by
  have hlive : ¬ (8 ≤ p ∨ ¬ s.portUp p = true ∨ bitsOf w 3 0 ≠ 1) :=
    not_or.2 ⟨Nat.not_le.2 hp, not_or.2 ⟨not_not_intro hu, not_not_intro hw⟩⟩
  subst hv hn
  change execDiscover p w s = _
  rw [execDiscover, if_neg hlive]
  dsimp only
  rw [if_neg hne, ← ht, if_neg (ne_true_of_eq_false hb)]

/-- An ANNOUNCE goes on to the parent (R483 step 3). -/
theorem exec_announce_of_parent {q : Nat} (hw : bitsOf w 3 0 = 2) (ho : v.fab.discOwed = none)
    (hq : v.fab.parent = some q) (hne : q ≠ p) : exec (.announce p w) s = .next (v.linkWord q w.toNat) := by
  have hlive : ¬ (8 ≤ p ∨ ¬ s.portUp p = true ∨ bitsOf w 3 0 ≠ 2) :=
    not_or.2 ⟨Nat.not_le.2 hp, not_or.2 ⟨not_not_intro hu, not_not_intro hw⟩⟩
  subst hv
  change execAnnounce p w s = _
  rw [execAnnounce, if_neg hlive]
  dsimp only
  rw [ho, hq]
  exact congrArg Host.Outcome.next (if_neg hne)

/-- An ASSIGN that names this module gives it its address (R483 step 5). -/
theorem exec_assign_of_named {u x : State} (hw : bitsOf w 3 0 = 3) (hq : v.fab.parent = some p)
    (hun : u = { v with fab.discUntil := v.now / 16 + 64000 })
    (hx : x = forEach (u.upPorts.filter (· ≠ p)) u (fun s p => s.linkWord p w.toNat)) (hid : w.toNat / 2 ^ 16 = modId)
    (hb : x.isMemberB = false) (hr : bitsOf w 10 10 = 0) :
    exec (.assign p w) s = .next ((((x.p Page.fab F.FAB_STATUS_NODE (bitsOf w 9 4)).flag Page.fab
      F.FAB_STATUS_ADDR_VALID).unflag Page.fab F.FAB_STATUS_REFUSED).reroute) := by
  have hlive : ¬ (8 ≤ p ∨ ¬ s.portUp p = true ∨ bitsOf w 3 0 ≠ 3) :=
    not_or.2 ⟨Nat.not_le.2 hp, not_or.2 ⟨not_not_intro hu, not_not_intro hw⟩⟩
  have hmine : ¬ (w.toNat / 2 ^ 16 ≠ modId ∨ x.isMemberB = true) :=
    not_or.2 ⟨not_not_intro hid, ne_true_of_eq_false hb⟩
  have hgiven : ¬ bitsOf w 10 10 = 1 := by omega
  subst hv hun
  change execAssign p w s = _
  rw [execAssign, if_neg hlive]
  dsimp only
  rw [if_neg (not_not_intro hq), ← hx, if_neg hmine, if_neg hgiven]

theorem exec_vector (hw : bitsOf w 3 0 = 4) : exec (.vector p w) s
    = .next ({ v with fab.vec := v.fab.vec.set [] p ((List.range 4).foldl (fun t j =>
        Tab.set 15 (Tab.set 15 t (2 * (4 * bitsOf w 7 4 + j)) (w.toNat / 2 ^ (8 + 8 * j) % 16)) (2 * (4 * bitsOf w 7 4 + j) + 1)
          (w.toNat / 2 ^ (12 + 8 * j) % 16)) (v.fab.vec.get [] p)) }.reroute) := by
  have hlive : ¬ (8 ≤ p ∨ ¬ s.portUp p = true ∨ bitsOf w 3 0 ≠ 4) :=
    not_or.2 ⟨Nat.not_le.2 hp, not_or.2 ⟨not_not_intro hu, not_not_intro hw⟩⟩
  subst hv
  change execVector p w s = _
  rw [execVector, if_neg hlive]

end

/-- Without a claim the root alone has an address. -/
theorem assignAll_nil (root addr : Nat) : assignAll root addr [] = [(root, addr)] := rfl

/-- A discovery in which no module claims ends with the root's own address (R483 steps 4, 5 and 7). -/
theorem exec_announceQuiet_of_alone {s : State} {x : Nat × Nat} (ho : s.fab.discOwed = some x) (he : s.fab.discEnd = none)
    (ht : s.fab.lastAnn + 100000 ≤ s.now / 16) (hc : s.fab.claims = []) : exec .announceQuiet s
      = .next ({ s with fab.discEnd := some (s.now / 16 + 64000, St.success, 1) }.reroute) := by
  have hlive : ¬ (s.fab.discOwed.isNone = true ∨ s.fab.discEnd.isSome = true ∨ s.now / 16 < s.fab.lastAnn + 100000) := by
    simp only [ho, he, Option.isNone_some, Option.isSome_none, Bool.false_eq_true, false_or]
    omega
  have hlone : decide (1 < s.fab.claims.length + 1) = false := by rw [hc]; rfl
  change execAnnounceQuiet s = _
  rw [execAnnounceQuiet, if_neg hlive, hc, assignAll_nil]
  dsimp only [List.foldl_nil, List.length_singleton]
  simp only [hlone, Bool.false_eq_true, if_false]

theorem exec_vectorSend {s : State} (ha : s.on Page.fab F.FAB_STATUS_ADDR_VALID = true)
    (ht : s.now / 16 % vectorTicks = 0) : exec .vectorSend s
      = .next (forEach s.reroute.upPorts s.reroute (fun t p =>
          ((List.range 16).map s.reroute.vectorWord).foldl (fun t w => t.linkWord p w) t)) := by
  have hlive : ¬ (¬ s.on Page.fab F.FAB_STATUS_ADDR_VALID = true ∨ s.now / 16 % vectorTicks ≠ 0) :=
    not_or.2 ⟨not_not_intro ha, not_not_intro ht⟩
  change execVectorSend s = _
  rw [execVectorSend, if_neg hlive]

/-- Settles O38: each word that comes in on an UP port, and each that is sent, does what its row says. -/
theorem discoveryAndRoutes : Obligations.DiscoveryAndRoutes := by
  unfold Obligations.DiscoveryAndRoutes
  refine ⟨?discover, ?announce, ?quiet, ?assign, ?send, ?vector⟩
  case discover =>
    intro s v t p n w hp hu hw hv hn hne ht hb
    exact exec_discover_of_new hp hu hv hw hn hne ht hb
  case announce =>
    intro s v p q w hp hu hw hv ho hq hne
    exact exec_announce_of_parent hp hu hv hw ho hq hne
  case quiet =>
    intro s x ho he ht hc
    exact exec_announceQuiet_of_alone ho he ht hc
  case assign =>
    intro s t u v p w hp hu hw ht hq hun hv hid hb hr
    exact exec_assign_of_named hp hu ht hw hq hun hv hid hb hr
  case send =>
    intro s ha ht
    exact exec_vectorSend ha ht
  case vector =>
    intro s v p w hp hu hw hv
    exact exec_vector hp hu hv hw

end Sys2Proof.Machine
end

section
/-!
PROOFS. The words of a twin pair, its heartbeats and timeouts, the join image and the takeover (R490 to R498).
-/

namespace Sys2Proof.Machine
open Sys2Proof

section
variable {s : State} (hm : s.pwr.mode ≠ .off)
include hm

/-- An image word that is not the last joins those that wait (R498). -/
theorem exec_joinImageWord_of_more {v : State} {w : BitVec 64} {n : Nat} (hv : v = s.takeWord 9 w) (h1 : v.twinState = 1)
    (hn : v.fab.joinLeft = n + 2) : exec (.joinImageWord w) s
      = .next { v with fab.joinLeft := n + 1, fab.joinWords := v.fab.joinWords ++ [w] } := by
  have hlive : ¬ (v.twinState ≠ 1 ∨ v.fab.joinLeft = 0) := by omega
  have hleft : v.fab.joinLeft - 1 = n + 1 := by omega
  subst hv
  change execJoinImageWord w s = _
  rw [execJoinImageWord, if_neg hm]
  dsimp only
  rw [if_neg hlive, hleft, if_neg (Nat.succ_ne_zero n)]

section
variable (he : s.twinEn = true)
include he

/-- A mirror word of its type is taken, heard, and has its effect (R490, R493). -/
theorem State.heard_of_enabled {t : Nat} {w : W64} (hw : mwType w = t) (f : State → State) :
    s.heard t w f = f (s.takeWord 7 w).hear :=
  if_neg (not_or.2 ⟨hm, not_or.2 ⟨not_not_intro he, not_not_intro hw⟩⟩)

section
variable {h : State} {w : BitVec 64} (hh : h = (s.takeWord 7 w).hear)
include hh

theorem exec_mirrorLookup (hw : mwType w = 0) : exec (.mirrorLookup w) s = .next (h.mirrored w) := by
  rw [hh]
  exact congrArg Host.Outcome.next (State.heard_of_enabled hm he hw _)

theorem exec_cometApply (hw : mwType w = 1) : exec (.cometApply w) s = .next (h.mirrored w) := by
  rw [hh]
  exact congrArg Host.Outcome.next (State.heard_of_enabled hm he hw _)

theorem exec_shotMark {d : BitVec 64} (hw : mwType w = 2) (hp : mwPart w < 5) :
    exec (.shotMark w d) s = .next (h.shotMark (mwPart w) (mwShot w) d) := by
  change execShotMark w d s = _
  rw [execShotMark, State.heard_of_enabled hm he hw, if_neg (Nat.not_le.2 hp), hh]

theorem exec_fail (hw : mwType w = 4) : exec (.fail w) s = .next (h.partnerFailed (bitsOf w 18 11)) := by
  rw [hh]
  exact congrArg Host.Outcome.next (State.heard_of_enabled hm he hw _)

/-- A joiner learns how many image words follow (R498). -/
theorem exec_state_of_joining (hw : mwType w = 5) (h1 : h.twinState = 1) (hn : 0 < bitsOf w 42 11) : exec (.state w) s
    = .next { h with fab.joinLeft := bitsOf w 42 11, fab.joinWords := [], fab.joinHeld := [] } := by
  subst hh
  change execState w s = _
  rw [execState, State.heard_of_enabled hm he hw, if_pos h1]
  exact congrArg Host.Outcome.next (if_neg (Nat.ne_of_gt hn))

theorem exec_handover_of_standby (hw : mwType w = 6) (h2 : h.twinState = 2) (hp : mwPart w < 5) : exec (.handover w) s
    = .next ({ h with fab.handShot := some (mwPart w, mwShot w) }).handDue := by
  subst hh
  change execHandover w s = _
  rw [execHandover, State.heard_of_enabled hm he hw, if_pos ⟨h2, hp⟩]

theorem exec_taken_of_failed (hw : mwType w = 7) (h5 : h.twinState = 5) : exec (.taken w) s
    = .next { h with fab.withheld := h.fab.withheld.filter (fun x => decide (x.1 ≠ mwPart w)) } := by
  subst hh
  change execTaken w s = _
  rw [execTaken, State.heard_of_enabled hm he hw, if_pos h5]

end

theorem exec_heartbeat {w : BitVec 64} (hw : mwType w = 3) :
    exec (.heartbeat w) s = .next ((s.takeWord 7 w).hear.beat (bitsOf w 51 51 = 1)) :=
  congrArg Host.Outcome.next (State.heard_of_enabled hm he hw _)

/-- Which member a mirror word comes from is in the registers, so the time of the last beat does not tell in it. -/
theorem exec_heartbeatSend_of_due (ht : s.fab.beatAt + 256 ≤ s.now / 16) : exec .heartbeatSend s
    = .next (({ s with fab.beatAt := s.now / 16 }).mirrorAll [({ s with fab.beatAt := s.now / 16 } : State).mirrorWord 3 0
        (s.tk 0 % 2 ^ 40 + (if s.inStep then 2 ^ 40 else 0))]) := by
  have hlive : ¬ (s.pwr.mode = .off ∨ ¬ s.twinEn = true ∨ s.now / 16 < s.fab.beatAt + 256) :=
    not_or.2 ⟨hm, not_or.2 ⟨not_not_intro he, Nat.not_lt.2 ht⟩⟩
  change execHeartbeatSend s = _
  rw [execHeartbeatSend, if_neg hlive]
  rfl

theorem exec_heartbeatTimeout_of_due {v : State} (ht : s.silentFrom + s.hbTicks ≤ s.now / 16)
    (hv : v = s.unflag Page.twin F.FAB_TWIN_STATUS_PARTNER_SEEN) : exec .heartbeatTimeout s
      = .next (if v.twinState = 3
          then ((v.flag Page.fab F.FAB_EVENTS_TWIN_LOST).logIt Cause.twinLost 0 (gid 7 40) 0).twinSet 4
          else v.partnerFailed 0) := by
  have hlive : ¬ (s.pwr.mode = .off ∨ ¬ s.twinEn = true ∨ s.now / 16 < s.silentFrom + s.hbTicks) :=
    not_or.2 ⟨hm, not_or.2 ⟨not_not_intro he, Nat.not_lt.2 ht⟩⟩
  subst hv
  change execHeartbeatTimeout s = _
  rw [execHeartbeatTimeout, if_neg hlive]

theorem exec_twinPartnerAbsent (h0 : s.twinState = 0) (hs : s.partnerSeen = false)
    (ht : s.fab.enabledAt + 10000 ≤ s.now / 16) : exec .twinPartnerAbsent s = .next (s.twinSet 4) :=
  congrArg Host.Outcome.next (if_pos ⟨hm, he, h0, ne_true_of_eq_false hs, ht⟩)

end

end

theorem exec_takeoverBoundary {p : Nat} (hp : p < 5) (s : State) :
    exec (.takeoverBoundary p) s = .next (s.takeBoundary p) :=
  congrArg Host.Outcome.next (if_pos hp)

/-- Settles O39: a mirror word of its type has its effect once it is heard, and each timeout its own once it is due. -/
theorem twinWords : Obligations.TwinWords := by
  unfold Obligations.TwinWords
  refine ⟨?words, ?send, ?beat, ?timeout, ?image, ?absent, ?boundary⟩
  case words =>
    intro s h w d hm he hh
    exact ⟨exec_mirrorLookup hm he hh, exec_cometApply hm he hh, exec_shotMark hm he hh, exec_fail hm he hh,
      exec_state_of_joining hm he hh, exec_handover_of_standby hm he hh, exec_taken_of_failed hm he hh⟩
  case send =>
    intro s hm he ht
    exact exec_heartbeatSend_of_due hm he ht
  case beat =>
    intro s w hm he hw
    exact exec_heartbeat hm he hw
  case timeout =>
    intro s v hm he ht hv
    exact exec_heartbeatTimeout_of_due hm he ht hv
  case image =>
    intro s v w n hm hv h1 hn
    exact exec_joinImageWord_of_more hm hv h1 hn
  case absent =>
    intro s hm he h0 hs ht
    exact exec_twinPartnerAbsent hm he h0 hs ht
  case boundary =>
    intro s p hp
    exact exec_takeoverBoundary hp s

end Sys2Proof.Machine
end

section
/-!
PROOFS. The log's commands, its ring window and its records in flash (R571, R586, R588, R591), and self-test: its commands
(R595, R603, R605, R606, R608), the ends of its tests, its turns, the analogue checks and the proofing pass (R594, R599 to R606).
-/

namespace Sys2Proof.Machine
open Sys2Proof

/-! ### The log -/

@[simp] theorem State.inRun_log (s : State) (p : Pkt) : (s.inRun p).log = s.log := by
  obtain ⟨l, h⟩ := s.inRun_eq p
  rw [h]

/-- The entries that a fetch reads are the ring's. -/
theorem State.logEnts_inRun (s : State) (p : Pkt) (fn i n : Nat) : (s.inRun p).logEnts fn i n = s.logEnts fn i n := by
  rw [State.logEnts, s.inRun_log, State.logEnts]

theorem State.nvEnts_inRun (s : State) (p : Pkt) : (s.inRun p).nvEnts = s.nvEnts := by
  rw [State.nvEnts, s.inRun_log, State.nvEnts]

theorem cLogFetch_run {s : State} {p : Pkt} {l : List LogEnt} (hl : l = s.logEnts p.fn (p.n 0) (p.n 1)) :
    cLogFetch.run s p = (s.putEnts (p.w64 2) l).succeed p
      (l.length + (match l with | e :: _ => e.seq | [] => 0) * 2 ^ 32) := by
  simp only [cLogFetch, ← hl]
  cases l <;> rfl

theorem cLogNvFetch_run {s : State} {p : Pkt} {l : List LogEnt} (hl : l = (s.nvEnts.drop (p.n 0)).take (p.n 1)) :
    cLogNvFetch.run s p = (s.putEnts (p.w64 2) l).succeed p l.length := by
  subst hl
  rfl

theorem exec_logEntryRead {s : State} {fn i : Nat} (hi : i < 16384) (ha : s.Answers fn (0xC80000 + i * 32 + 0 * 4)) :
    exec (.logEntryRead fn i) s = .next (s.logRead fn i) := by
  change execLogEntryRead fn i s = _
  rw [execLogEntryRead, if_pos hi, logAddr, State.onRead_of_answers ha]

/-- The flash write at the head of those that wait succeeds (R571, R586). -/
theorem exec_nvRecordWrite_of_powered {s : State} (h : s.pwr.input = true) :
    exec (.nvRecordWrite true) s = .next (s.flashWrite true) :=
  congrArg Host.Outcome.next (if_pos h)

theorem State.flashWrite_of_record {s : State} {e : LogEnt} {l : List (Retired ⊕ LogEnt)} (h : s.log.flashQ = .inr e :: l) :
    s.flashWrite true = (s.nvStore e).flashPop := by
  rw [State.flashWrite, h]
  exact if_pos rfl

theorem State.flashWrite_of_retirement {s : State} {x : Retired} {l : List (Retired ⊕ LogEnt)}
    (h : s.log.flashQ = .inl x :: l) :
    s.flashWrite true = ({ s with log.retired := s.log.retired ++ [x] }).flashPop := by
  rw [State.flashWrite, h]
  exact if_pos rfl

/-- Settles O40: each command runs to its completion, a read of word 0 to the held words, and a flash write to its store. -/
theorem logCommands : Obligations.LogCommands := by
  unfold Obligations.LogCommands
  refine ⟨?fetch, ?nvFetch, ?clear, ?safe, ?read, ⟨?record, ?retired⟩⟩
  case fetch =>
    intro s p y l h hl
    refine runs_of_plain (c := cLogFetch) rfl h ?_
    rw [cLogFetch_run (hl.trans (s.logEnts_inRun y _ _ _).symm)]
    cases l <;> rfl
  case nvFetch =>
    intro s p y l h hl
    refine runs_of_plain (c := cLogNvFetch) rfl h (cLogNvFetch_run ?_)
    rw [s.nvEnts_inRun y]
    exact hl
  case clear =>
    intro s p y h
    exact runs_of_plain (c := cLogClear) rfl h rfl
  case safe =>
    intro s p y h
    exact runs_of_plain (c := cFltSafe) rfl h rfl
  case read =>
    intro s fn i hi ha
    exact exec_logEntryRead hi ha
  case record =>
    intro s e l hp hq
    rw [exec_nvRecordWrite_of_powered hp, State.flashWrite_of_record hq]
  case retired =>
    intro s x l hp hq
    rw [exec_nvRecordWrite_of_powered hp, State.flashWrite_of_retirement hq]

/-! ### Self-test commands -/

theorem cBstAnalogRun_run {s v : State} {p : Pkt} {r : Nat} (hv : s.fresh 1 = (v, r)) :
    cBstAnalogRun.run s p = (v.checkJudge (checkChan (p.n 0) p.target) (r = 0)).succeed p r := by
  simp only [cBstAnalogRun, hv]

/-- Settles O41: each command runs to its completion; a logic run and a slice test leave it to their end. -/
theorem selfTestCommands : Obligations.SelfTestCommands := by
  unfold Obligations.SelfTestCommands
  refine ⟨?logic, ?slice, ?config, ?analog, ?proof, ?stop⟩
  case logic =>
    intro s p y h
    exact congrArg Host.Outcome.next (command_inHand (c := cBstLogicRun) h)
  case slice =>
    intro s p y h
    exact congrArg Host.Outcome.next (command_inHand (c := cBstSliceTest) h)
  case config =>
    intro s p y h
    exact runs_of_plain (c := cBstConfig) rfl h rfl
  case analog =>
    intro s v p y r h hv
    exact runs_of_plain (c := cBstAnalogRun) rfl h (cBstAnalogRun_run hv)
  case proof =>
    intro s p y h
    exact runs_of_plain (c := cBstProofRead) rfl h rfl
  case stop =>
    intro s p y h
    exact runs_of_plain (c := cBstStop) rfl h rfl

/-! ### The ends of tests -/

theorem exec_domainTestEnd_of_over {s : State} {d t0 : Nat} (sig : BitVec 64)
    (hf : s.bst.now.find? (fun x => x.1 = d) = some (d, t0)) (ht : t0 + domTime d ≤ s.log.mtime.toNat) :
    exec (.domainTestEnd d sig) s = .next (s.domainEnd d sig) := by
  change execDomainTestEnd d sig s = _
  rw [execDomainTestEnd, hf]
  exact congrArg Host.Outcome.next (if_pos ht)

section
variable {s : State} {g : Nat} (hg : g < 48)
include hg

/-- A turn that has come waits for its window (R603). -/
theorem exec_sliceTurn_of_due (hm : s.pwr.mode = .ready) (hb : s.pwr.busy = .none) (hl : s.logicRuns = false)
    (hp : s.on Page.bst F.BST_CFG_PERIODIC = true) (h0 : s.slSt g = 0) (hd : s.turnDue g = true)
    (hn : s.turnNext g < grpSize g) (hr : s.dpRetired g (s.turnNext g) = false) : exec (.sliceTurn g) s
      = .next ({ s with bst.turns := s.bst.turns.set 0 g (s.log.mtime.toNat + 1) }.turnWait g (s.turnNext g) none) := by
  have hlive : ¬ (48 ≤ g ∨ s.pwr.mode ≠ .ready ∨ s.pwr.busy ≠ .none ∨ s.logicRuns = true
      ∨ ¬ s.on Page.bst F.BST_CFG_PERIODIC = true ∨ s.slSt g ≠ 0 ∨ ¬ s.turnDue g = true) := by
    simp [hm, hb, hl, hp, h0, hd, hg]
  have hin : ¬ (s.turnNext g < grpSize g ∧ s.dpRetired g (s.turnNext g) = true) := by simp [hr]
  have hdp : ¬ (s.turnNext g = grpSize g ∧ (s.spState g = 5 ∨ s.spState g = 6)) := fun h => Nat.ne_of_lt hn h.1
  change execSliceTurn g s = _
  rw [execSliceTurn, if_neg hlive]
  exact congrArg Host.Outcome.next ((if_neg hin).trans (if_neg hdp))

theorem exec_turnWaitExpire (h1 : s.slSt g = 1) (hs : s.spState g ≠ 1) (ht : (s.slice g).until_ ≤ s.log.mtime.toNat) :
    exec (.turnWaitExpire g) s = .next (s.turnSkip g) :=
  congrArg Host.Outcome.next (if_pos ⟨hg, h1, hs, ht⟩)

theorem exec_sliceTestEnd (sig : BitVec 64) (h2 : s.slSt g = 2) (ht : (s.slice g).t0 + 8192 * patUnits g ≤ s.now) :
    exec (.sliceTestEnd g sig) s = .next (s.sliceDone g sig) :=
  congrArg Host.Outcome.next (if_pos ⟨hg, h2, ht⟩)

/-- The test of the spare itself gives way, or is repeated (R605). -/
theorem exec_sliceTestAbandon_of_spare (h2 : s.slSt g = 2) (hm : (s.slice g).member = grpSize g) :
    exec (.sliceTestAbandon g) s
      = .next (if (s.slice g).member ∈ (s.sliceAbandon g |>.spare g).held
          then (s.sliceAbandon g).sliceBegin g (s.slice g).member true else s.sliceAbandon g) := by
  have hself : ¬ ((s.slice g).member ≠ grpSize g ∧ (s.sliceAbandon g).spState g = 4) := fun h => h.1 hm
  change execSliceTestAbandon g s = _
  rw [execSliceTestAbandon, if_pos hg, State.sliceGiveUp]
  dsimp only
  rw [if_neg (not_not_intro h2), if_neg hself]

end

/-! ### Checks, anomalies and the proofing pass -/

theorem exec_analogCheck_of_due {s : State} {kind ch : Nat} (stuck : Bool) (hk : checkOk kind ch = true) (h5 : kind ≠ 5)
    (hm : s.pwr.mode = .ready) (he : s.on Page.bst F.BST_CFG_ANALOG_EN = true)
    (hd : s.chanDark (checkChan kind ch) = false) (hn : s.checkNow kind ch = true)
    (ho : s.periodOver (s.bst.checks.get 0 (checkChan kind ch)) = true) : exec (.analogCheck kind ch stuck) s
      = .next ({ s with bst.checks := s.bst.checks.set 0 (checkChan kind ch) (s.log.mtime.toNat + 1) }.checkJudge
          (checkChan kind ch) stuck) := by
  have hlive : ¬ (¬ checkOk kind ch = true ∨ kind = 5 ∨ s.pwr.mode ≠ .ready ∨ ¬ s.on Page.bst F.BST_CFG_ANALOG_EN = true
      ∨ s.chanDark (checkChan kind ch) = true ∨ ¬ s.checkNow kind ch = true
      ∨ ¬ s.periodOver (s.bst.checks.get 0 (checkChan kind ch)) = true) := by
    simp [hk, h5, hm, he, hd, hn, ho]
  exact congrArg Host.Outcome.next (if_neg hlive)

/-- An anomaly is kept in the newest record (R601). -/
theorem exec_proofAnomaly_of_record {s v : State} {kind n : Nat} {r : Proof} {l : List Proof} (ha : s.bst.after = true)
    (hp : s.pwr.input = true) (hk : kind < 2) (hr : s.bst.proofs = r :: l) (hv : s.fresh 32 = (v, n)) :
    exec (.proofAnomaly kind) s
      = .next { v with bst.proofs := { r with anomaly := true, anomWord := BitVec.ofNat 32 n } :: l } := by
  have hlive : ¬ (¬ s.bst.after = true ∨ ¬ s.pwr.input = true ∨ 2 ≤ kind) := by simp [ha, hp, hk]
  change execProofAnomaly kind s = _
  rw [execProofAnomaly, if_neg hlive, hr]
  dsimp only
  rw [hv]

theorem State.saveSettings_again (s : State) : s.saveSettings.pwr.again = s.pwr.again := by
  unfold State.saveSettings
  simp

section
variable {s : State} {bad ranks : List Nat} (hl : s.logicRuns = false)
include hl

/-- The proofing pass ends with its record, and no start waits for it (R600, R631). -/
theorem exec_proofingPassEnd_of_pass (hb : s.pwr.busy = .proofing true) (ha : (s.proofEnd bad ranks).pwr.again = false) :
    exec (.proofingPassEnd bad ranks) s = .next { s.proofEnd bad ranks with pwr.busy := .none } := by
  change execProofingPassEnd bad ranks s = _
  rw [execProofingPassEnd, hb]
  dsimp only
  rw [if_neg (ne_true_of_eq_false hl), if_pos rfl, if_neg (ne_true_of_eq_false ha)]

/-- Without a pass the settings copy ends it (R624). -/
theorem exec_proofingPassEnd_of_copy (hb : s.pwr.busy = .proofing false) (ha : s.pwr.again = false) :
    exec (.proofingPassEnd bad ranks) s = .next { s.saveSettings with pwr.busy := .none } := by
  have hagain : ¬ s.saveSettings.pwr.again = true := ne_true_of_eq_false ((State.saveSettings_again s).trans ha)
  change execProofingPassEnd bad ranks s = _
  rw [execProofingPassEnd, hb]
  dsimp only
  rw [if_neg (ne_true_of_eq_false hl), if_neg Bool.false_ne_true, if_neg hagain]

end

/-- Settles O42: each end, turn, check and anomaly that is due comes to the operation that its row names. -/
theorem selfTestEvents : Obligations.SelfTestEvents := by
  unfold Obligations.SelfTestEvents
  refine ⟨?domain, ?turn, ?expire, ?slice, ?abandon, ?check, ?anomaly, ⟨?pass, ?copy⟩⟩
  case domain =>
    intro s d t0 sig hf ht
    exact exec_domainTestEnd_of_over sig hf ht
  case turn =>
    intro s g hg hm hb hl hp h0 hd hn hr
    exact exec_sliceTurn_of_due hg hm hb hl hp h0 hd hn hr
  case expire =>
    intro s g hg h1 hs ht
    exact exec_turnWaitExpire hg h1 hs ht
  case slice =>
    intro s g sig hg h2 ht
    exact exec_sliceTestEnd hg sig h2 ht
  case abandon =>
    intro s g hg h2 _ hm
    exact exec_sliceTestAbandon_of_spare hg h2 hm
  case check =>
    intro s kind ch stuck hk h5 hm he hd hn ho
    exact exec_analogCheck_of_due stuck hk h5 hm he hd hn ho
  case anomaly =>
    intro s v kind n r l ha hp hk hr hv
    exact exec_proofAnomaly_of_record ha hp hk hr hv
  case pass =>
    intro s bad ranks hb hl _ ha
    exact exec_proofingPassEnd_of_pass hl hb ha
  case copy =>
    intro s bad ranks hb hl ha
    exact exec_proofingPassEnd_of_copy hl hb ha

end Sys2Proof.Machine
end

section
/-!
PROOFS. Power and temperature: the commands and requests of R621 to R638, and the governor's events (R612 to R620), the autosave
(R628), the sensors (R633 to R637) and THM_CAP (R636).
-/

namespace Sys2Proof.Machine
open Sys2Proof

/-! ### Commands and requests -/

@[simp] theorem State.inRun_mode (s : State) (p : Pkt) : (s.inRun p).pwr.mode = s.pwr.mode := by
  obtain ⟨l, h⟩ := s.inRun_eq p
  rw [h]

@[simp] theorem State.inRun_thm (s : State) (p : Pkt) : (s.inRun p).thm = s.thm := by
  obtain ⟨l, h⟩ := s.inRun_eq p
  rw [h]

theorem cPwrWake_run_of_not_safe {s : State} {p : Pkt} (h : s.pwr.mode ≠ .safe) : cPwrWake.run s p = s.succeed p :=
  if_neg h

theorem cPwrSafeExit_run_of_safe {s : State} {p : Pkt} (h : s.pwr.mode = .safe) :
    cPwrSafeExit.run s p = s.safeExitGo p.who :=
  if_pos h

theorem cThmSnapshotFetch_run {s : State} {p : Pkt} {l : List (List Word)}
    (hl : l = (s.thm.snaps.drop (p.n 0)).take (p.n 1)) :
    cThmSnapshotFetch.run s p = (s.hostWrite (p.w64 2) (wordBytes (l.flatMap id))).succeed p l.length := by
  subst hl
  rfl

theorem State.bankReg_of_refused {s : State} (h : s.bankRefused = true) :
    s.bankReg = s.flag Page.pwr F.PWR_EVENTS_BANK_REFUSED :=
  if_pos h

/-- PWR_CTRL.BANK runs in an internal context (R621). -/
theorem State.bankReg_of_free {s : State} {k : Nat} (h : s.bankRefused = false) (hk : s.freeSlot 16 4 = some k) :
    s.bankReg = (s.takeCtx k
      { st := 1, internal := true, op := 0x0400, tag := 0, sq := 0
        groups := [gid 4 2047], holds := [(Page.pwr, 0x100), (Page.thm, 0x300)] }).bankStart [] := by
  rw [State.bankReg, if_neg (ne_true_of_eq_false h), hk, pwrHolds]

section
variable {s : State} {fn : Nat} (ho : s.Opens fn (Page.pwr + 0x28))
include ho

theorem exec_pwrCtrlBank : exec (.pwrCtrlBank fn) s = .next s.bankReg :=
  congrArg Host.Outcome.next (State.onWrite_of_opens ho _)

theorem exec_pwrCtrlWake : exec (.pwrCtrlWake fn) s = .next s.startWake :=
  congrArg Host.Outcome.next (State.onWrite_of_opens ho _)

theorem exec_pwrCtrlSave : exec (.pwrCtrlSave fn) s = .next s.saveSettings :=
  congrArg Host.Outcome.next (State.onWrite_of_opens ho _)

end

/-- Settles O43: each command runs to its completion; a bank, a SAFE exit and a shutdown leave it to their end. -/
theorem powerCommands : Obligations.PowerCommands := by
  unfold Obligations.PowerCommands
  refine ⟨⟨?bank, ?bankReg⟩, ⟨?wake, ?wakeReg⟩, ?safeExit, ?shutdown, ⟨?save, ?saveReg⟩, ⟨?cap, ?rank, ?config⟩, ?fetch⟩
  case bank =>
    intro s p y h
    exact congrArg Host.Outcome.next (command_inHand (c := cPwrBank) h)
  case bankReg =>
    intro s fn ho
    refine ⟨fun hr => ?_, fun k hr hk => ?_⟩
    · rw [exec_pwrCtrlBank ho, State.bankReg_of_refused hr]
    · rw [exec_pwrCtrlBank ho, State.bankReg_of_free hr hk]
  case wake =>
    intro s p y h hm
    exact runs_of_plain (c := cPwrWake) rfl h (cPwrWake_run_of_not_safe (ne_of_eq_of_ne (s.inRun_mode y) hm))
  case wakeReg =>
    intro s fn ho
    exact exec_pwrCtrlWake ho
  case safeExit =>
    intro s p y h hm
    rw [← cPwrSafeExit_run_of_safe ((s.inRun_mode y).trans hm)]
    exact congrArg Host.Outcome.next (command_inHand (c := cPwrSafeExit) h)
  case shutdown =>
    intro s p y h
    exact congrArg Host.Outcome.next (command_inHand (c := cPwrShutdown) h)
  case save =>
    intro s p y h
    exact runs_of_plain (c := cPwrSettingsSave) rfl h rfl
  case saveReg =>
    intro s fn ho
    exact exec_pwrCtrlSave ho
  case cap =>
    intro s p y h
    exact runs_of_plain (c := cPwrCapSet) rfl h rfl
  case rank =>
    intro s p y h
    exact runs_of_plain (c := cPwrRankSet) rfl h rfl
  case config =>
    intro s p y h
    exact runs_of_plain (c := cPwrCfgSet) rfl h rfl
  case fetch =>
    intro s p y l h hl
    refine runs_of_plain (c := cThmSnapshotFetch) rfl h (cThmSnapshotFetch_run ?_)
    rw [s.inRun_thm y]
    exact hl

/-! ### The envelope and the input -/

/-- A measured input within range updates the envelope (R612, R613). -/
theorem exec_envelopeUpdate_of_due {s v : State} {vin iin m : Nat} (hp : s.pwr.input = true)
    (hd : s.due s.pwr.takenAt (usecs 10) = true) (hv : (s.inputTake vin).fresh 16 = (v, m)) (hr : vin ≤ 6000) :
    exec (.envelopeUpdate vin iin) s
      = .next (((((v.p Page.pwr F.PWR_VIN_VIN vin).p Page.pwr F.PWR_IIN_IIN iin).p Page.pwr F.PWR_MEASURED_MEASURED m).p Page.pwr
          F.PWR_STATUS_OVER_RANGE 0).govern) := by
  have hlive : ¬ (¬ s.pwr.input = true ∨ ¬ s.due s.pwr.takenAt (usecs 10) = true) := by simp [hp, hd]
  have hin : ¬ (6000 < vin ∧ vin ≤ 6100) := fun h => Nat.not_lt.2 hr h.1
  change execEnvelopeUpdate vin iin s = _
  rw [execEnvelopeUpdate, if_neg hlive]
  dsimp only
  rw [hv, if_neg hin]

theorem State.heldFor_some {s : State} {t n : Nat} {held : Option Nat} (h : held = some t) (ht : t + n ≤ s.now) :
    s.heldFor held n = true := by
  rw [h]
  exact decide_eq_true ht

theorem State.failInput_of_new {s : State} (h : s.safePending / 2 ^ 4 % 2 ≠ 1) : s.failInput
    = ((s.flag Page.pwr F.PWR_EVENTS_INPUT_FAIL).raiseSafe Cause.inputFail 0 (gid 4 2047) 0).convShut :=
  if_neg h

section
variable {s : State} (hp : s.pwr.input = true)
include hp

theorem exec_inputFail_of_held {t : Nat} (h : s.pwr.outRange = some t) (ht : t + msecs 1 ≤ s.now) :
    exec .inputFail s = .next s.failInput :=
  congrArg Host.Outcome.next (if_pos ⟨hp, State.heldFor_some h ht⟩)

theorem exec_inputRecovered_of_held {t : Nat} (h : s.pwr.inRange = some t) (ht : t + msecs 100 ≤ s.now) :
    exec .inputRecovered s = .next (s.clearPending 4) :=
  congrArg Host.Outcome.next (if_pos ⟨hp, State.heldFor_some h ht⟩)

end

/-! ### Shedding, restoring and saving -/

section
variable {s : State} (hg : s.governs = true) (hd : s.stepDue = true)
include hg hd

/-- A step of an episode sheds the next channel (R616 to R618). -/
theorem exec_shedStep_of_episode {v : State} {c : Nat} (hl : s.limitE < s.committed) (he : s.pwr.episode = true)
    (hv : v = { s with pwr.stepAt := some s.now, pwr.restoring := false, pwr.okAt := none }) (hn : v.nextShed = some c) :
    exec .shedStep s = .next (v.shedChan c).acqSweep := by
  have hlive : ¬ (¬ s.governs = true ∨ s.committed ≤ s.limitE ∨ ¬ s.stepDue = true) := by simp [hg, hd, hl]
  change execShedStep s = _
  rw [execShedStep, if_neg hlive, if_pos he]
  dsimp only
  rw [← hv, hn]

/-- A step restores the first shed channel while it fits (R619). -/
theorem exec_restoreStep_of_restoring {c : Nat} {l : List Nat} (hl : s.committed ≤ s.limitE) (hs : s.pwr.shed = c :: l)
    (ho : s.restoreOk c = true) (hr : s.pwr.restoring = true) : exec .restoreStep s
      = .next ({ s.unshedChan c with pwr.stepAt := some s.now, pwr.restoring := true }).watchRestore := by
  have hlive : ¬ (¬ s.governs = true ∨ s.limitE < s.committed ∨ ¬ s.stepDue = true) := by
    simp only [hg, hd, not_true_eq_false, false_or, or_false]
    exact Nat.not_lt.2 hl
  change execRestoreStep s = _
  rw [execRestoreStep, if_neg hlive, hs]
  dsimp only
  rw [if_neg (not_not_intro ho), if_pos (.inl hr)]

end

theorem exec_autosave_of_due {s : State} {t : Nat} (hm : s.pwr.mode ≠ .off) (hc : s.pwr.changedAt = some t)
    (hn : s.g Page.pwr F.PWR_CFG_AUTOSAVE ≠ 0)
    (ht : t + secs (60 * s.g Page.pwr F.PWR_CFG_AUTOSAVE) ≤ s.log.mtime.toNat) :
    exec .autosave s = .next s.saveSettings := by
  change execAutosave s = _
  rw [execAutosave, if_neg hm]
  dsimp only
  rw [hc]
  exact congrArg Host.Outcome.next (if_pos ⟨hn, ht⟩)

/-! ### Temperature -/

/-- The sensors are read, each class is evaluated, and what they show follows (R633 to R637). -/
theorem exec_thermalSample_of_due {s a b t : State} {l : List Int} (hp : s.pwr.input = true)
    (hd : s.due s.thm.readAt s.samplePace = true) (ha : a = { s with thm.readAt := some s.now }.sensorsTake 0 l)
    (hb : b = forEach [0, 1, 2, 3, 4] a State.classEval)
    (ht : t = (if a.throttled ∧ ¬ b.throttled then { b with thm.capAt := b.now } else b).thmShow) :
    exec (.thermalSample l) s
      = .next (if (classSensors 0).all (fun n => decide (t.tempOf n < 1100)) then t.clearPending 3 else t) := by
  have hlive : ¬ (¬ s.pwr.input = true ∨ ¬ s.due s.thm.readAt s.samplePace = true) := by simp [hp, hd]
  change execThermalSample l s = _
  rw [execThermalSample, if_neg hlive]
  dsimp only
  rw [← ha, ← hb, ← ht]

section
variable {s : State} {c : Nat} (hp : s.pwr.input = true) (hc : c = s.g Page.thm F.THM_CAP_CAP)
include hp hc

/-- A throttled class lowers THM_CAP every 100 ms (R636). -/
theorem exec_thmCapStep_of_throttled (ht : s.throttled = true) (hd : s.thm.capAt + msecs 100 ≤ s.now) : exec .thmCapStep s
    = .next ({ s.p Page.thm F.THM_CAP_CAP (max 1400 (c - 560)) with thm.capAt := s.now }).govern := by
  subst hc
  change execThmCapStep s = _
  rw [execThmCapStep, if_neg (not_not_intro hp)]
  dsimp only
  rw [if_pos ht, if_pos hd]

/-- With no class throttled THM_CAP rises every second (R636). -/
theorem exec_thmCapStep_of_cool (ht : s.throttled = false) (hm : c < 5600) (hd : s.thm.capAt + secs 1 ≤ s.now) :
    exec .thmCapStep s
      = .next ({ s.p Page.thm F.THM_CAP_CAP (min 5600 (c + 560)) with thm.capAt := s.now }).govern := by
  subst hc
  change execThmCapStep s = _
  rw [execThmCapStep, if_neg (not_not_intro hp)]
  dsimp only
  rw [if_neg (ne_true_of_eq_false ht), if_pos ⟨hm, hd⟩]

end

/-- Settles O44: each event that is due does what its row says. -/
theorem powerGovernor : Obligations.PowerGovernor := by
  unfold Obligations.PowerGovernor
  refine ⟨?envelope, ?input, ?shed, ?restore, ?save, ?sample, ?cap⟩
  case envelope =>
    intro s v vin iin m hp hd hv hr
    exact exec_envelopeUpdate_of_due hp hd hv hr
  case input =>
    intro s t hp
    refine ⟨fun h ht hn => ?_, fun h ht => exec_inputRecovered_of_held hp h ht⟩
    rw [exec_inputFail_of_held hp h ht, State.failInput_of_new hn]
  case shed =>
    intro s v c hg hl hd he hv hn
    exact exec_shedStep_of_episode hg hd hl he hv hn
  case restore =>
    intro s c l hg hl hd hs ho hr
    exact exec_restoreStep_of_restoring hg hd hl hs ho hr
  case save =>
    intro s t hm hc hn ht
    exact exec_autosave_of_due hm hc hn ht
  case sample =>
    intro s a b t l hp hd ha hb ht
    exact exec_thermalSample_of_due hp hd ha hb ht
  case cap =>
    intro s c hp hc
    exact ⟨exec_thmCapStep_of_throttled hp hc, exec_thmCapStep_of_cool hp hc⟩

end Sys2Proof.Machine
end

section
/-!
PROOFS. Input power, RESET_N, ENABLE_IN, the start-up steps and the service ports (R621, R624, R627, R660, R667, R676 to R679),
and security: images, fuses, life cycle, attestation and identity (R644, R651 to R658, R662).
-/

namespace Sys2Proof.Machine
open Sys2Proof

/-! ### Service ports -/

theorem exec_chassisIdRead_of_due {s : State} (hp : s.pwr.input = true) (hd : s.due s.pins.chassisAt (secs 1) = true)
    (c : Nat) :
    exec (.chassisIdRead c) s = .next { s with pins.chassis := c % 256, pins.chassisAt := some s.now } :=
  congrArg Host.Outcome.next (if_pos ⟨hp, hd⟩)

theorem exec_smbusRead_of_on {s : State} (hm : s.pwr.mode ≠ .off) (c : Nat) :
    exec (.smbusRead c) s = .next { s with pins.smbus := s.statusBytes c } :=
  congrArg Host.Outcome.next (if_neg hm)

theorem exec_statusDatagram_of_on {s : State} (hm : s.pwr.mode ≠ .off) :
    exec .statusDatagram s = .next { s with pins.udp := [1, 2, 3, 4, 5, 6].flatMap s.statusBytes } :=
  congrArg Host.Outcome.next (if_neg hm)

theorem exec_boundaryScan (s : State) (i : Nat) :
    exec (.boundaryScan i) s = .next { s with sec.jtag := s.jtagAs i } := rfl

/-! ### Power and resets -/

section
variable {s : State} (hr : s.pwr.resetN = true) (hm : s.pwr.mode = .off)
include hr hm

/-- Input power on an OFF module begins a cold start (R621). -/
theorem exec_powerOn_of_cold (hp : s.pwr.input = false) : exec .powerOn s
    = .next ({ s with pins.present := true, pwr.input := true, pwr.enableIn := true }.startBegin true) := by
  have hfree : ¬ (¬ s.pwr.resetN = true ∨ s.pwr.mode ≠ .off) := by simp [hr, hm]
  have hcold : ¬ s.pwr.input = true := ne_true_of_eq_false hp
  exact congrArg Host.Outcome.next ((if_neg hfree).trans (if_pos hcold))

/-- ENABLE_IN asserted on a powered module that is OFF begins a start without credit (R624). -/
theorem exec_powerOn_of_enable (hp : s.pwr.input = true) (he : s.pwr.enableIn = false) (hb : s.pwr.busy = .none) :
    exec .powerOn s
      = .next ({ s with pins.present := true, pwr.input := true, pwr.enableIn := true }.startBegin false) := by
  have hfree : ¬ (¬ s.pwr.resetN = true ∨ s.pwr.mode ≠ .off) := by simp [hr, hm]
  have hwarm : ¬ ¬ s.pwr.input = true := not_not_intro hp
  have hoff : ¬ s.pwr.enableIn = true := ne_true_of_eq_false he
  exact congrArg Host.Outcome.next ((if_neg hfree).trans ((if_neg hwarm).trans ((if_neg hoff).trans (if_pos hb))))

end

section
variable {s : State} (hp : s.pwr.input = true)
include hp

/-- RESET_N takes a powered module to OFF (R14, R578, R621). -/
theorem exec_resetNAssert_of_powered : exec .resetNAssert s
    = .next (((({ s with pwr.resetN := false } : State).logicStop.warmReset.clearPending 2).clearPending 6).settleMode) :=
  congrArg Host.Outcome.next (if_neg (not_not_intro hp))

/-- Released, RESET_N lets a module start again whose input and PRESENT permit it (R621). -/
theorem exec_resetNRelease_of_ready (hr : s.pwr.resetN = false) (he : s.pwr.enableIn = true) (hlo : 900 ≤ s.pwr.vin)
    (hhi : s.pwr.vin ≤ 6000) (hx : s.pins.present = true) :
    exec .resetNRelease s = .next ({ s with pwr.resetN := true }.startBegin false) := by
  have hready : ¬ ((s.pwr.vin ≠ 0 ∧ ¬ (900 ≤ s.pwr.vin ∧ s.pwr.vin ≤ 6000)) ∨ ¬ s.pins.present = true) := by
    simp [hlo, hhi, hx]
  change execResetNRelease s = _
  rw [execResetNRelease, if_neg (ne_true_of_eq_false hr)]
  exact congrArg Host.Outcome.next ((if_pos ⟨hp, he⟩).trans (if_neg hready))

/-- ENABLE_IN released while nothing else is in progress begins the disable sequence (R624). -/
theorem exec_enableInRelease_of_idle (he : s.pwr.enableIn = true) (hb : s.pwr.busy = .none) (hm : s.pwr.mode ≠ .off) :
    exec .enableInRelease s = .next { s with pwr.enableIn := false, pwr.again := false }.disableStart := by
  have hon : ¬ (¬ s.pwr.enableIn = true ∨ ¬ s.pwr.input = true) := by simp [he, hp]
  change execEnableInRelease s = _
  rw [execEnableInRelease, if_neg hon]
  dsimp only
  rw [hb]
  exact congrArg Host.Outcome.next (if_neg hm)

end

/-- A start-up step that ends is followed by the next one, or by the end of the sequence (R627). -/
theorem exec_startupStepEnd_of_ready {s v : State} {n : Nat} {ok : Bool} {bad : List Nat} (hb : s.pwr.busy = .startup n)
    (hr : s.pwr.resetN = true) (hs : s.stepReady n = true) (hv : v = s.stepEffect n ok bad)
    (hstop : v.pwr.stopping = false) (hrec : v.recovery = false) :
    exec (.startupStepEnd ok bad) s = .next (if n = 12 then v.startEnd else v.stepBegin (n + 1)) := by
  have hlive : ¬ (¬ s.pwr.resetN = true ∨ ¬ s.stepReady n = true) := by simp [hr, hs]
  change execStartupStepEnd ok bad s = _
  rw [execStartupStepEnd, hb]
  dsimp only
  rw [if_neg hlive, ← hv, if_neg (ne_true_of_eq_false hstop), if_neg (ne_true_of_eq_false hrec)]

theorem exec_presentBreak (s : State) : exec .presentBreak s = .next (forEach
    ((forEach ({ s with pins.present := false } : State).biasList { s with pins.present := false } State.biasOff).syn.outp.map (·.1))
    (forEach ({ s with pins.present := false } : State).biasList { s with pins.present := false } State.biasOff)
    State.muteStep) := rfl

/-- Settles O46: each event comes to what its row says under the conditions given. -/
theorem powerAndReset : Obligations.PowerAndReset := by
  unfold Obligations.PowerAndReset
  refine ⟨⟨?chassis, ?smbus, ?datagram, ?scan⟩, ⟨?cold, ?enable⟩, ?loss, ?reset, ?release, ?step, ?present⟩
  case chassis =>
    intro s c hp hd
    exact exec_chassisIdRead_of_due hp hd c
  case smbus =>
    intro s c hm
    exact exec_smbusRead_of_on hm c
  case datagram =>
    intro s hm
    exact exec_statusDatagram_of_on hm
  case scan => exact exec_boundaryScan
  case cold =>
    intro s hp hr hm
    exact exec_powerOn_of_cold hr hm hp
  case enable =>
    intro s hp he hr hm hb
    exact exec_powerOn_of_enable hr hm hp he hb
  case loss => exact exec_powerLoss
  case reset =>
    intro s hp
    exact ⟨exec_resetNAssert_of_powered hp, exec_resetNRelease_of_ready hp⟩
  case release =>
    intro s hp he hb hm
    exact exec_enableInRelease_of_idle hp he hb hm
  case step =>
    intro s v n ok bad hb hr hs hv hstop hrec
    exact exec_startupStepEnd_of_ready hb hr hs hv hstop hrec
  case present => exact exec_presentBreak

/-! ### Security -/

@[simp] theorem State.inRun_sec (s : State) (p : Pkt) : (s.inRun p).sec = s.sec := by
  obtain ⟨l, h⟩ := s.inRun_eq p
  rw [h]

theorem cSecFwUpdate_run (s : State) (p : Pkt) :
    cSecFwUpdate.run s p = s.loadImage p 1 (p.n 2) (fun s im => (s.fwWrite im).succeed p) := rfl

theorem cSecCalLoad_run (s : State) (p : Pkt) :
    cSecCalLoad.run s p = s.loadImage p 3 (p.n 2) (fun s im => { s with sec.cal := some im }.succeed p) := rfl

/-- A load ends with its image's status: in use where it passes, refused where it fails (R651). -/
theorem State.loadImage_finish {s : State} {p : Pkt} {t n : Nat} {b : List Byte} (hb : p.data n = some b)
    (f : State → Image → State) : s.loadImage p t n (fun s im => (f s im).succeed p)
      = (if s.checkImage t b = 0 then f s (imgOf b) else s.imgRefused t (imgVersion b) (s.checkImage t b)).finish p
          (.plain (s.checkImage t b)) := by
  by_cases h : s.checkImage t b = 0
  · rw [State.loadImage_of_passed hb h, if_pos h, h]
    rfl
  · rw [State.loadImage_of_failed hb h, if_neg h]

theorem cSecAttest_run_of_key {s : State} {p : Pkt} (h : s.sec.keyValid = true) : cSecAttest.run s p = s.attest p :=
  if_pos h

theorem cSecAttest_run_of_no_key {s : State} {p : Pkt} {l : List (Nat × Nat)} (h : s.sec.keyValid = false)
    (hl : s.sec.owed = l) : cSecAttest.run s p = { s with sec.owed := l ++ [(p.sq, p.tag)] } := by
  subst hl
  exact if_neg (ne_true_of_eq_false h)

theorem cSecFuseProgram_run_of_data {s : State} {p : Pkt} {b : List Byte} (h : p.data (fuseLen (p.n 0)) = some b) :
    cSecFuseProgram.run s p = s.fuseProgram p b := by
  simp only [cSecFuseProgram, h]

/-- A permitted burn ends with what the fuses read back (R645, R646). -/
theorem State.fuseProgram_of_permitted {s v : State} {p : Pkt} {b : List Byte} {r : Nat}
    (h : 2 ≤ p.n 0 ∨ b.all (mapValueOk (p.n 0)) = true) (hv : s.fresh 1 = (v, r)) : s.fuseProgram p b
      = (if r = 0 then v.fuseBurn (p.n 0) b true
          else (v.fuseBurn (p.n 0) b false).flag Page.sec F.SEC_STATUS_BURN_FAIL).finish p
            (.plain (if r = 0 then St.success else St.internalError)) := by
  have hok : ¬ (p.n 0 ≤ 1 ∧ ¬ b.all (mapValueOk (p.n 0)) = true) := by
    rintro ⟨hlow, hbad⟩
    rcases h with h | h
    · omega
    · exact hbad h
  rw [State.fuseProgram, if_neg hok, hv]
  by_cases hr : r = 0
  · simp only [if_pos hr, State.succeed]
  · simp only [if_neg hr]

/-- The firmware derives the identity where it may (R657). -/
theorem exec_identityDerived_of_firmware {s : State} (hf : s.fwRuns = true) (hk : s.sec.keyValid = false)
    (hl : s.sec.fuses.lc ≠ 7) :
    exec .identityDerived s = .next (({ s with sec.keyValid := true }.secEvent 9 0 0).attestAll) :=
  congrArg Host.Outcome.next (if_pos ⟨hf, ne_true_of_eq_false hk, hl⟩)

/-- Settles O47: each command runs to its completion, an attestation without a key waits for it, and the key ends the wait. -/
theorem securityCommands : Obligations.SecurityCommands := by
  unfold Obligations.SecurityCommands
  refine ⟨?firmware, ?calibration, ⟨?attest, ?wait⟩, ?certificate, ?fuse, ?advance, ?commit, ?identity⟩
  case firmware =>
    intro s p y b h hb
    refine runs_of_plain (c := cSecFwUpdate) rfl h ?_
    rw [cSecFwUpdate_run, State.loadImage_finish hb, s.inRun_checkImage]
  case calibration =>
    intro s p y b h hb
    refine runs_of_plain (c := cSecCalLoad) rfl h ?_
    rw [cSecCalLoad_run, State.loadImage_finish hb, s.inRun_checkImage]
  case attest =>
    intro s p y h hk
    rw [← cSecAttest_run_of_key ((congrArg (·.keyValid) (s.inRun_sec y)).trans hk)]
    exact congrArg Host.Outcome.next (command_inHand (c := cSecAttest) h)
  case wait =>
    intro s p y h hk
    have hsec := s.inRun_sec y
    have hrun := cSecAttest_run_of_no_key (p := y) ((congrArg (·.keyValid) hsec).trans hk) (congrArg (·.owed) hsec)
    exact congrArg Host.Outcome.next ((command_inHand (c := cSecAttest) h).trans hrun)
  case certificate =>
    intro s p y h
    exact runs_of_plain (c := cSecCertFetch) rfl h rfl
  case fuse =>
    intro s v p y b r h hb hok hv
    exact runs_of_plain (c := cSecFuseProgram) rfl h
      ((cSecFuseProgram_run_of_data hb).trans (State.fuseProgram_of_permitted hok hv))
  case advance =>
    intro s p y h
    exact runs_of_plain (c := cSecLcAdvance) rfl h rfl
  case commit =>
    intro s p y h
    exact runs_of_plain (c := cSecSvnCommit) rfl h rfl
  case identity =>
    intro s hf hk hl
    exact exec_identityDerived_of_firmware hf hk hl

end Sys2Proof.Machine
end

section
/-!
PROOFS. Whether the settings have been restored from the retained registers: no operation that an uncorrectable error in
memory leads to (a log entry, an abort, an entry into SAFE) says otherwise.
-/

namespace Sys2Proof.Machine
open Sys2Proof

/-! ### Choices and repetitions -/

theorem State.ite_restored {c : Prop} [Decidable c] {s t u : State} (ht : t.pwr.restored = s.pwr.restored)
    (hu : u.pwr.restored = s.pwr.restored) : (if c then t else u).pwr.restored = s.pwr.restored := by
  split
  · exact ht
  · exact hu

@[simp] theorem State.when_restored {c : Prop} [Decidable c] {f : State → State}
    (hf : ∀ s, (f s).pwr.restored = s.pwr.restored) (s : State) :
    (s.when c f).pwr.restored = s.pwr.restored :=
  State.when_field (π := fun s => s.pwr.restored) hf s

@[simp] theorem forEach_restored {f : State → Nat → State}
    (hf : ∀ s n, (f s n).pwr.restored = s.pwr.restored) (l : List Nat) (s : State) :
    (forEach l s f).pwr.restored = s.pwr.restored :=
  forEach_field (π := fun s => s.pwr.restored) hf l s

@[simp] theorem foldl_restored {α : Type} {f : State → α → State}
    (hf : ∀ s x, (f s x).pwr.restored = s.pwr.restored) (l : List α) (s : State) :
    (l.foldl f s).pwr.restored = s.pwr.restored := by
  induction l generalizing s with
  | nil => rfl
  | cons x l ih => exact (ih _).trans (hf s x)

/-! ### The operations, each after those that it calls -/

@[simp] theorem State.locPut_restored (s : State) (i d h o n : Nat) :
    (s.locPut i d h o n).pwr.restored = s.pwr.restored := by
  simp [State.locPut]

@[simp] theorem State.logWrite_restored (s : State) (cause kind part source detail repeat_ : Nat) :
    (s.logWrite cause kind part source detail repeat_).pwr.restored = s.pwr.restored := by
  unfold State.logWrite
  dsimp only
  split <;> simp

@[simp] theorem State.logAs_restored (s : State) (cause kind part source detail : Nat) :
    (s.logAs cause kind part source detail).pwr.restored = s.pwr.restored := by
  unfold State.logAs
  dsimp only
  split <;> simp

@[simp] theorem State.logIt_restored (s : State) (cause part source detail : Nat) :
    (s.logIt cause part source detail).pwr.restored = s.pwr.restored := by
  simp [State.logIt]

@[simp] theorem State.setPending_restored (s : State) (b : Nat) :
    (s.setPending b).pwr.restored = s.pwr.restored := by
  simp [State.setPending]

@[simp] theorem State.firstCause_restored (s : State) (c : Nat) :
    (s.firstCause c).pwr.restored = s.pwr.restored := by
  simp [State.firstCause]

@[simp] theorem State.biasCut_restored (s : State) (b : Nat) :
    (s.biasCut b).pwr.restored = s.pwr.restored := by
  simp [State.biasCut]

@[simp] theorem State.biasOff_restored (s : State) (b : Nat) :
    (s.biasOff b).pwr.restored = s.pwr.restored := by
  unfold State.biasOff
  split <;> simp

@[simp] theorem State.applyDefer_restored (s : State) (d : DeferOp) :
    (s.applyDefer d).pwr.restored = s.pwr.restored := by
  simp [State.applyDefer]

@[simp] theorem State.applyDefers_restored (s : State) (g : Nat) :
    (s.applyDefers g).pwr.restored = s.pwr.restored := by
  simp [State.applyDefers]

@[simp] theorem State.switchCtx_restored (s : State) (c : Nat) :
    (s.switchCtx c).pwr.restored = s.pwr.restored := by
  unfold State.switchCtx
  dsimp only
  (repeat' split) <;> simp

@[simp] theorem State.freeCtx_restored (s : State) (c : Nat) :
    (s.freeCtx c).pwr.restored = s.pwr.restored := by
  unfold State.freeCtx
  dsimp only
  split <;> simp

@[simp] theorem State.endCtx_restored (s : State) (sq tag : Nat) :
    (s.endCtx sq tag).pwr.restored = s.pwr.restored := by
  unfold State.endCtx
  split <;> simp

@[simp] theorem State.settle_restored (s : State) (w : Option (Nat × Nat)) (status result : Nat) :
    (s.settle w status result).pwr.restored = s.pwr.restored := by
  unfold State.settle
  dsimp only
  (repeat' split) <;> simp

@[simp] theorem State.settleAll_restored (s : State) (l : List (Nat × Nat)) (status result : Nat) :
    (s.settleAll l status result).pwr.restored = s.pwr.restored := by
  simp [State.settleAll]

@[simp] theorem State.endBusy_restored (s : State) :
    s.endBusy.pwr.restored = s.pwr.restored := by
  unfold State.endBusy
  split
  · rfl
  · refine (State.settleAll_restored ..).trans ((forEach_restored (fun s c => ?_) _ _).trans
      (State.when_restored (fun s => ?_) s))
    · split <;> simp
    · simp

@[simp] theorem State.fresh_restored (s : State) (bits : Nat) :
    (s.fresh bits).1.pwr.restored = s.pwr.restored := by
  simp [State.fresh]

@[simp] theorem State.setSl_restored (s : State) (g v : Nat) :
    (s.setSl g v).pwr.restored = s.pwr.restored := by
  simp [State.setSl]

@[simp] theorem State.sliceEnd_restored (s : State) (g r n : Nat) (sig : W64) :
    (s.sliceEnd g r n sig).pwr.restored = s.pwr.restored := by
  unfold State.sliceEnd
  split <;> simp

@[simp] theorem State.sliceAbandon_restored (s : State) (g : Nat) :
    (s.sliceAbandon g).pwr.restored = s.pwr.restored := by
  unfold State.sliceAbandon
  split <;> simp

@[simp] theorem State.setSp_restored (s : State) (g v : Nat) :
    (s.setSp g v).pwr.restored = s.pwr.restored := by
  simp [State.setSp]

@[simp] theorem State.crossbar_restored (s : State) (g i : Nat) (on : Bool) :
    (s.crossbar g i on).pwr.restored = s.pwr.restored := by
  simp [State.crossbar]

@[simp] theorem State.sliceSafe_restored (s : State) (g : Nat) :
    (s.sliceSafe g).pwr.restored = s.pwr.restored := by
  unfold State.sliceSafe
  dsimp only
  (repeat' split) <;> simp

@[simp] theorem State.dropShots_restored (s : State) (p status : Nat) :
    (s.dropShots p status).pwr.restored = s.pwr.restored := by
  simp [State.dropShots]

@[simp] theorem State.laneClear_restored (s : State) (k : Nat) :
    (s.laneClear k).pwr.restored = s.pwr.restored := by
  simp [State.laneClear]

@[simp] theorem State.levelPark_restored (s : State) (n : Nat) :
    (s.levelPark n).pwr.restored = s.pwr.restored := by
  simp [State.levelPark]

@[simp] theorem State.seqSilence_restored (s : State) (q : Nat) :
    (s.seqSilence q).pwr.restored = s.pwr.restored := by
  unfold State.seqSilence
  split <;> simp

@[simp] theorem State.cancelEff_restored (s : State) (q r : Nat) :
    (s.cancelEff q r).pwr.restored = s.pwr.restored := by
  simp [State.cancelEff]

@[simp] theorem State.setWin_restored (s : State) (t : Nat) (w : Option Win) :
    (s.setWin t w).pwr.restored = s.pwr.restored := by
  simp [State.setWin]

@[simp] theorem State.closeWin_restored (s : State) (t stamp : Nat) (w : Win) (o : Outc) (clip : Bool) (m : Int) (sv : IQ) :
    (s.closeWin t stamp w o clip m sv).pwr.restored = s.pwr.restored := by
  have hput (u : State) x : ({ u with rdo.outc := x } : State).pwr.restored = u.pwr.restored := rfl
  have hopen (x) : (if w.inShot = true then s.setPrt (s.toneOwner t) x else s).pwr.restored = s.pwr.restored :=
    State.ite_restored (by simp) rfl
  have hclosed (u : State) (pg a b : Nat) : ((((((u.setWin t none).bump pg F.TONE_WINDOWS).bump64 (Page.rdo (toneInput t))
      F.RDO_WINDOWS_LO).p pg F.TONE_STATUS_LAST_STATE a).p pg F.TONE_STATUS_LAST_EARLY b).unflag pg
      F.TONE_STATUS_WIN_OPEN).pwr.restored = u.pwr.restored := by simp
  have hreg (u : State) (a b : Nat) (x y : Word) : ((u.setReg a x).setReg b y).pwr.restored = u.pwr.restored := rfl
  unfold State.closeWin
  refine (hput _ _).trans (State.ite_restored ((hclosed _ _ _ _).trans (hopen _))
    ((hreg _ _ _ _ _).trans ((hclosed _ _ _ _).trans (hopen _))))

@[simp] theorem State.toneOverflow_restored (s : State) (t : Nat) :
    (s.toneOverflow t).pwr.restored = s.pwr.restored := by
  simp [State.toneOverflow]

@[simp] theorem State.voidWin_restored (s : State) (t stamp : Nat) (w : Win) (n c : Nat) :
    (s.voidWin t stamp w n c).pwr.restored = s.pwr.restored := by
  have hwhen (b : Bool) : s.when (b = true) (·.toneOverflow t) = if b = true then s.toneOverflow t else s := rfl
  rw [State.voidWin, State.closeWin_restored, hwhen]
  exact State.ite_restored (s.toneOverflow_restored t) rfl

@[simp] theorem State.cutWin_restored (s : State) (c t : Nat) :
    (s.cutWin c t).pwr.restored = s.pwr.restored := by
  unfold State.cutWin
  split <;> simp

@[simp] theorem State.markAdd_restored (s : State) (p b n : Nat) :
    (s.markAdd p b n).pwr.restored = s.pwr.restored := by
  unfold State.markAdd
  dsimp only
  (repeat' split) <;> simp

@[simp] theorem State.mark_restored (s : State) (p b : Nat) :
    (s.mark p b).pwr.restored = s.pwr.restored := by
  simp [State.mark]

@[simp] theorem State.shotOver_restored (s : State) (p : Nat) :
    (s.shotOver p).pwr.restored = s.pwr.restored := by
  simp [State.shotOver]

@[simp] theorem State.endFetch_restored (s : State) (q : Nat) :
    (s.endFetch q).pwr.restored = s.pwr.restored := by
  unfold State.endFetch
  split <;> simp

@[simp] theorem State.withhold_restored (s : State) :
    s.withhold.pwr.restored = s.pwr.restored := by
  simp [State.withhold]

@[simp] theorem State.denyPub_restored (s : State) :
    s.denyPub.pwr.restored = s.pwr.restored := by
  simp [State.denyPub]

@[simp] theorem State.rateCount_restored (s : State) (ch : Nat) :
    (s.rateCount ch).pwr.restored = s.pwr.restored := by
  unfold State.rateCount
  dsimp only
  (repeat' split) <;> simp

@[simp] theorem State.intEdge_restored (s : State) (n : Nat) :
    (s.intEdge n).pwr.restored = s.pwr.restored := by
  unfold State.intEdge
  split <;> simp

@[simp] theorem State.consume_restored (s : State) (ch p : Nat) (f : State → State) (hf : ∀ s, (f s).pwr.restored = s.pwr.restored) :
    (s.consume ch p f).pwr.restored = s.pwr.restored := by
  unfold State.consume
  split
  · exact hf s
  · simp

@[simp] theorem State.jumpRequest_restored (s : State) (q v : Nat) :
    (s.jumpRequest q v).pwr.restored = s.pwr.restored := by
  unfold State.jumpRequest
  dsimp only
  (repeat' split) <;> simp

@[simp] theorem State.biasClockStart_restored (s : State) (b : Nat) :
    (s.biasClockStart b).pwr.restored = s.pwr.restored := by
  unfold State.biasClockStart
  dsimp only
  split <;> simp

@[simp] theorem State.monInject_restored (s : State) (m : Nat) :
    (s.monInject m).pwr.restored = s.pwr.restored := by
  unfold State.monInject
  dsimp only
  (repeat' split) <;> simp

@[simp] theorem State.deliver_restored (s : State) (ch : Nat) :
    (s.deliver ch).pwr.restored = s.pwr.restored := by
  simp [State.deliver]

@[simp] theorem State.carry_restored (s : State) (ch : Nat) :
    (s.carry ch).pwr.restored = s.pwr.restored := by
  unfold State.carry
  dsimp only
  split <;> simp

@[simp] theorem State.publish_restored (s : State) (own ch : Nat) (ao : Bool) :
    (s.publish own ch ao).pwr.restored = s.pwr.restored := by
  unfold State.publish
  dsimp only
  (repeat' split) <;> simp

@[simp] theorem State.publishSrc_restored (s : State) (n : Nat) :
    (s.publishSrc n).pwr.restored = s.pwr.restored := by
  simp [State.publishSrc]

@[simp] theorem State.settleMode_restored (s : State) :
    s.settleMode.pwr.restored = s.pwr.restored := by
  unfold State.settleMode
  dsimp only
  (repeat' split) <;> simp

@[simp] theorem State.setPst_restored (s : State) (p v : Nat) :
    (s.setPst p v).pwr.restored = s.pwr.restored := by
  unfold State.setPst
  dsimp only
  split <;> simp

@[simp] theorem State.toIdle_restored (s : State) (p arm shots : Nat) :
    (s.toIdle p arm shots).pwr.restored = s.pwr.restored := by
  unfold State.toIdle
  split <;> simp

@[simp] theorem State.runAbort_restored (s : State) (p c m arm shots : Nat) :
    (s.runAbort p c m arm shots).pwr.restored = s.pwr.restored := by
  unfold State.runAbort
  dsimp only
  (repeat' split) <;> simp

@[simp] theorem State.bufWrite_restored (s : State) (a : Nat) (b : List Byte) :
    (s.bufWrite a b).pwr.restored = s.pwr.restored := by
  simp [State.bufWrite]

@[simp] theorem State.capStore_restored (s : State) (u : Nat) (incomplete : Bool) :
    (s.capStore u incomplete).pwr.restored = s.pwr.restored := by
  unfold State.capStore
  split <;> simp

@[simp] theorem State.putMark_restored (s : State) (u : Nat) (m : SItem) :
    (s.putMark u m).pwr.restored = s.pwr.restored := by
  unfold State.putMark
  dsimp only
  (repeat' split) <;> simp

@[simp] theorem State.endGap_restored (s : State) (u : Nat) :
    (s.endGap u).pwr.restored = s.pwr.restored := by
  unfold State.endGap
  split <;> simp

@[simp] theorem State.closeItem_restored (s : State) (u : Nat) :
    (s.closeItem u).pwr.restored = s.pwr.restored := by
  simp [State.closeItem]

@[simp] theorem State.cuMark_restored (s : State) (u sub t count arg frac : Nat) (fv : Bool) (dead : Nat) :
    (s.cuMark u sub t count arg frac fv dead).pwr.restored = s.pwr.restored := by
  unfold State.cuMark
  dsimp only
  (repeat' split) <;> simp

@[simp] theorem State.trigMark_restored (s : State) (u : Nat) :
    (s.trigMark u).pwr.restored = s.pwr.restored := by
  unfold State.trigMark
  dsimp only
  (repeat' split) <;> simp

@[simp] theorem State.streamEnd_restored (s : State) (u cause : Nat) :
    (s.streamEnd u cause).pwr.restored = s.pwr.restored := by
  simp [State.streamEnd]

@[simp] theorem State.setCuState_restored (s : State) (u v : Nat) :
    (s.setCuState u v).pwr.restored = s.pwr.restored := by
  simp [State.setCuState]

@[simp] theorem State.cuEnd_restored (s : State) (u cause v : Nat) :
    (s.cuEnd u cause v).pwr.restored = s.pwr.restored := by
  unfold State.cuEnd
  dsimp only
  (repeat' split) <;> simp

@[simp] theorem State.acqSafe_restored (s : State) :
    s.acqSafe.pwr.restored = s.pwr.restored := by
  simp [State.acqSafe]

@[simp] theorem State.biasFlush_restored (s : State) (b : Nat) :
    (s.biasFlush b).pwr.restored = s.pwr.restored := by
  simp [State.biasFlush]

@[simp] theorem State.biasClockStop_restored (s : State) (b : Nat) :
    (s.biasClockStop b).pwr.restored = s.pwr.restored := by
  simp [State.biasClockStop]

@[simp] theorem State.biasRamp_restored (s : State) (b : Nat) (d : Int) (next : Nat) :
    (s.biasRamp b d next).pwr.restored = s.pwr.restored := by
  simp [State.biasRamp]

@[simp] theorem State.biasToSafe_restored (s : State) (b : Nat) :
    (s.biasToSafe b).pwr.restored = s.pwr.restored := by
  unfold State.biasToSafe
  split <;> simp

@[simp] theorem State.biasSafe_restored (s : State) (b : Nat) :
    (s.biasSafe b).pwr.restored = s.pwr.restored := by
  unfold State.biasSafe
  dsimp only
  (repeat' split) <;> simp

@[simp] theorem State.twinPat_restored (s : State) :
    s.twinPat.pwr.restored = s.pwr.restored := by
  simp [State.twinPat]

@[simp] theorem State.twinSet_restored (s : State) (v : Nat) :
    (s.twinSet v).pwr.restored = s.pwr.restored := by
  unfold State.twinSet
  dsimp only
  split <;> simp

@[simp] theorem State.fabQueue_restored (s : State) (p : Nat) (w : FWord) :
    (s.fabQueue p w).pwr.restored = s.pwr.restored := by
  unfold State.fabQueue
  dsimp only
  split <;> simp

@[simp] theorem State.mirror_restored (s : State) (ws : List W64) :
    (s.mirror ws).pwr.restored = s.pwr.restored := by
  simp [State.mirror]

@[simp] theorem State.mirrorAll_restored (s : State) (ws : List W64) :
    (s.mirrorAll ws).pwr.restored = s.pwr.restored := by
  unfold State.mirrorAll
  dsimp only
  (repeat' split) <;> simp

@[simp] theorem State.twinFail_restored (s : State) (cause : Nat) :
    (s.twinFail cause).pwr.restored = s.pwr.restored := by
  simp [State.twinFail]

@[simp] theorem State.ringSq_restored (s : State) (n v : Nat) :
    (s.ringSq n v).pwr.restored = s.pwr.restored := by
  unfold State.ringSq
  (repeat' split) <;> simp

@[simp] theorem State.ringCq_restored (s : State) (n v : Nat) :
    (s.ringCq n v).pwr.restored = s.pwr.restored := by
  unfold State.ringCq
  (repeat' split) <;> simp

@[simp] theorem State.ringHeld_restored (s : State) :
    s.ringHeld.pwr.restored = s.pwr.restored := by
  unfold State.ringHeld
  refine foldl_restored (fun s d => ?_) _ _
  split <;> simp

@[simp] theorem State.enterSafe_restored (s : State) (cause : Nat) :
    (s.enterSafe cause).pwr.restored = s.pwr.restored := by
  unfold State.enterSafe
  dsimp only
  split <;> simp

@[simp] theorem State.safeFor_restored (s : State) (cause : Nat) :
    (s.safeFor cause).pwr.restored = s.pwr.restored := by
  unfold State.safeFor
  dsimp only
  split <;> simp

@[simp] theorem State.raiseSafe_restored (s : State) (cause part source detail : Nat) :
    (s.raiseSafe cause part source detail).pwr.restored = s.pwr.restored := by
  simp [State.raiseSafe]

@[simp] theorem State.retire_restored (s : State) (kind num : Nat) :
    (s.retire kind num).pwr.restored = s.pwr.restored := by
  unfold State.retire
  dsimp only
  split <;> simp

@[simp] theorem State.moduleFault_restored (s : State) (cause source detail : Nat) :
    (s.moduleFault cause source detail).pwr.restored = s.pwr.restored := by
  simp [State.moduleFault]

@[simp] theorem State.chanFail_restored (s : State) (c r n : Nat) :
    (s.chanFail c r n).pwr.restored = s.pwr.restored := by
  simp [State.chanFail]

@[simp] theorem State.memShrink_restored (s : State) :
    s.memShrink.pwr.restored = s.pwr.restored := by
  simp [State.memShrink]

@[simp] theorem State.rankRetire_restored (s : State) (c r n : Nat) :
    (s.rankRetire c r n).pwr.restored = s.pwr.restored := by
  unfold State.rankRetire
  dsimp only
  (repeat' split) <;> simp

@[simp] theorem State.rowRepair_restored (s : State) (store quad row : Nat) :
    (s.rowRepair store quad row).pwr.restored = s.pwr.restored := by
  unfold State.rowRepair
  dsimp only
  split <;> simp

@[simp] theorem State.locLost_restored (s : State) (d : Nat) :
    (s.locLost d).pwr.restored = s.pwr.restored := by
  unfold State.locLost
  dsimp only
  split <;> simp

@[simp] theorem State.locClear_restored (s : State) (i : Nat) :
    (s.locClear i).pwr.restored = s.pwr.restored := by
  simp [State.locClear]

@[simp] theorem State.locSlot_restored (s : State) :
    (s.locSlot).1.pwr.restored = s.pwr.restored := by
  unfold State.locSlot
  split <;> simp

@[simp] theorem State.locHit_restored (s : State) (d source : Nat) :
    (s.locHit d source).pwr.restored = s.pwr.restored := by
  unfold State.locHit
  dsimp only
  (repeat' split) <;> simp

@[simp] theorem State.memBad_restored (s : State) (p d : Nat) :
    (s.memBad p d).pwr.restored = s.pwr.restored := by
  simp [State.memBad]

end Sys2Proof.Machine
end

section
/-!
PROOFS. The events of the memory chapter: refresh, alerts, the scrubber, forgotten hits, repairs, rank moves, initialisation
and the end of a march (R409 to R423).
-/

namespace Sys2Proof.Machine
open Sys2Proof

/-! ### Refresh and replay -/

section
variable {s v : State} {c r made n : Nat} (hc : c < 4) (hr : r < 2) (hs : s.serving = true)
include hc hr hs

/-- A refresh that is due is made, or postponed while its rank is in use, up to the limit of POSTPONE (R409, R410). -/
theorem exec_refreshDue (ht : s.mem.refAt.get 0 (2 * c + r) + s.refInterval ≤ s.now)
    (hn : n = s.mem.postponed.get 0 (2 * c + r) - made)
    (hv : v = { s with mem.refAt := s.mem.refAt.set 0 (2 * c + r) s.now }) (busy : Bool) :
    exec (.refreshDue c r made busy) s = .next
      (if ¬ busy = true then { v with mem.postponed := s.mem.postponed.set 0 (2 * c + r) n }
      else if max 1 (s.g Page.mem F.MEM_REF_CFG_POSTPONE) * 2 ^ s.g Page.mem F.MEM_REF_CFG_FGR ≤ n then
        { v.bump Page.mem F.MEM_REFRESH_FORCED with mem.postponed := s.mem.postponed.set 0 (2 * c + r) n }
      else { v with mem.postponed := s.mem.postponed.set 0 (2 * c + r) (n + 1) }) := by
  subst hn hv
  refine congrArg Host.Outcome.next (if_neg ?_)
  simp only [hs, not_true_eq_false, false_or]
  omega

/-- An alert below the limit of replays is one replay more of its rank's incident (R411). -/
theorem exec_ddrAlert_below {t0 : Nat} (hx : s.mem.replays.get (0, 0, 0) c = (n, t0, 2 ^ r)) (hn : n < 4) :
    exec (.ddrAlert c r) s = .next { s with mem.replays := s.mem.replays.set (0, 0, 0) c (n + 1, s.now, 2 ^ r) } := by
  have hlive : ¬ (4 ≤ c ∨ 2 ≤ r ∨ ¬ s.serving = true) := by
    simp only [hs, not_true_eq_false, or_false]
    omega
  have hrank : 2 ^ r / 2 ^ r % 2 = 1 := by rw [Nat.div_self (Nat.two_pow_pos r)]
  change execDdrAlert c r s = _
  rw [execDdrAlert, if_neg hlive]
  simp only [hx, if_pos hrank, if_neg (Nat.not_le.2 hn)]

end

/-! ### Scrubbing and locations -/

/-- A read of the acquisition buffer's scrubber that meets no error goes on to the next word (R416). -/
theorem exec_scrubRead_buffer {s : State} {q : Nat} (hq : q < 4) (hs : s.serving = true)
    (he : s.on Page.mem F.MEM_SCRUB_CFG_EN = true) (hd : s.scrubDue 9 (36 + q) = true) :
    exec (.scrubRead 9 q 0) s = .next { s with
      mem.scrub := s.mem.scrub.set 0 (36 + q) ((s.mem.scrub.get 0 (36 + q) + 1) % 2097152)
      mem.scrubAt := s.mem.scrubAt.set (0, 0) (36 + q) (s.now + 1, s.scrubHours (36 + q)) } := by
  have hkey : scrubKey 9 q = 36 + q := rfl
  have hquad : (36 + q) % 4 = q := by omega
  have hlive : ¬ (12 ≤ 9 ∨ 4 ≤ q ∨ ¬ s.on Page.mem F.MEM_SCRUB_CFG_EN = true ∨ ¬ s.scrubDue 9 (36 + q) = true) := by
    simp only [he, hd, not_true_eq_false, or_false]
    omega
  change execScrubRead 9 q 0 s = _
  rw [execScrubRead, hkey]
  dsimp only
  rw [if_neg hlive, if_pos (.inl hs), if_neg (by decide), hquad]
  rfl

/-- A hit that lies more than 24 h back is forgotten: the other one stays, or the entry goes (R414). -/
theorem exec_hitForgotten_of_old {s : State} {i : Nat} (hi : i < 256) (hv : s.locValid i = true)
    (ho : (s.mem.hits.get (0, 0) i).1 + day < s.log.mtime.toNat) :
    exec (.hitForgotten i) s = .next (if s.g (Page.loc i) F.MEM_LOC_HITS_HITS = 2
      then s.locPut i (s.locOf i) 1 (s.mem.hits.get (0, 0) i).2 (s.mem.hits.get (0, 0) i).2 else s.locClear i) := by
  have hlive : ¬ (256 ≤ i ∨ ¬ s.locValid i = true) := by simp [hv, hi]
  change execHitForgotten i s = _
  rw [execHitForgotten, if_neg hlive]
  dsimp only
  rw [if_neg (Nat.not_le.2 ho)]

/-! ### The end of a rank move -/

@[simp] theorem State.moveRead_restored (s : State) (c p q : Nat) :
    (s.moveRead c p q).pwr.restored = s.pwr.restored := by
  have hreads (f : State → Nat → State) (hf : ∀ s k, f s k = s.memBad 0 (locNum c c 0 (k % 2 ^ 32 / 8)))
      (l : List Nat) : (forEach l s f).pwr.restored = s.pwr.restored :=
    forEach_restored (fun s k => by rw [hf, State.memBad_restored]) l s
  exact hreads _ (fun _ _ => rfl) _

/-- Bits 0 to 4 of a channel's MEM_CH_STATUS, RANK0 among them, are retained. -/
theorem retMask_memChStatus {c : Nat} (hc : c < 4) : retMask (Page.memCh c + F.MEM_CH_STATUS_RANK0.off) = 31#32 := by
  revert c
  decide +kernel

/-- A retained field reads as zero until the settings are restored, so a rank that moves tells that they are. -/
theorem State.restored_of_rankMoves {s : State} {c : Nat} (hc : c < 4)
    (hm : s.g (Page.memCh c) F.MEM_CH_STATUS_RANK0 = 1) : s.pwr.restored = true := by
  by_contra hr
  have hzero : s.g (Page.memCh c) F.MEM_CH_STATUS_RANK0 = 0 := by
    rw [State.g, State.reg, retMask_memChStatus hc, if_neg hr]
    refine Nat.eq_of_testBit_eq fun i => ?_
    rw [wget_testBit]
    rcases i with _ | _ | i <;> simp [F.MEM_CH_STATUS_RANK0]
  omega

/-- A move that completes leaves rank 0 of its channel retired (R418). -/
theorem exec_rankMoveComplete {s : State} {c : Nat} (hc : c < 4) (hm : s.g (Page.memCh c) F.MEM_CH_STATUS_RANK0 = 1) :
    ∃ t, exec (.rankMoveComplete c) s = .next t ∧ t.g (Page.memCh c) F.MEM_CH_STATUS_RANK0 = 2 := by
  have hlive : ¬ (4 ≤ c ∨ s.g (Page.memCh c) F.MEM_CH_STATUS_RANK0 ≠ 1) := by simp [hm, hc]
  have hmoved : ∀ (u : State) (n : Nat), u.pwr.restored = true → ((u.p (Page.memCh c) F.MEM_CH_STATUS_RANK0 2).p
      (Page.memCh c) F.MEM_CH_MOVE_MOVE_PTR n).g (Page.memCh c) F.MEM_CH_STATUS_RANK0 = 2 := by
    intro u n hu
    rw [State.g_p_of_reg_ne _ (fun h => absurd (Nat.add_left_cancel h) (by decide))]
    exact State.g_p_self hu (by decide) (by decide) _
  have hread : ((s.moveRead c (s.g (Page.memCh c) F.MEM_CH_MOVE_MOVE_PTR) (2 ^ 18)).fresh 18).1.pwr.restored = true := by
    rw [State.fresh_restored, State.moveRead_restored, State.restored_of_rankMoves hc hm]
  have hother : Page.memCh c + F.MEM_CH_STATUS_RANK0.off ≠ Page.mem + F.MEM_STATUS_MOVING.off := by
    change 0x800000 + c * 0x20 + 0x400 ≠ 0x800000 + 0
    omega
  refine ⟨_, congrArg Host.Outcome.next (if_neg hlive), ?_⟩
  dsimp only
  split
  · exact hmoved _ _ hread
  · exact (State.g_p_of_reg_ne _ hother 0).trans (hmoved _ _ hread)

/-! ### Initialisation -/

theorem State.storeZero_initLeft (s : State) (st : Nat) : (s.storeZero st).mem.initLeft = s.mem.initLeft := by
  unfold State.storeZero
  split <;> rfl

/-- A store that is not the last to be initialised reads as zero and no longer waits (R420). -/
theorem exec_memoryInitComplete_of_others {s : State} {st : Nat} (hst : st ∈ s.mem.initLeft)
    (hl : s.mem.initLeft.filter (· ≠ st) ≠ []) : exec (.memoryInitComplete st) s
      = .next { s.storeZero st with mem.initLeft := (s.storeZero st).mem.initLeft.filter (· ≠ st) } := by
  have hlast : ¬ (s.storeZero st).mem.initLeft.filter (· ≠ st) = [] := by rwa [State.storeZero_initLeft]
  change execMemoryInitComplete st s = _
  rw [execMemoryInitComplete, if_neg (not_not_intro hst)]
  exact congrArg Host.Outcome.next (if_neg hlast)

/-! ### The end of a march -/

section
variable {s : State} (hr : s.mem.march.run = true)
include hr

/-- A march without a mismatch passes, with all its operations done (R423). -/
theorem exec_marchEnd_pass (first ops chk : Nat) (d : W64) : exec (.marchEnd 0 first ops d chk) s
    = .next ((s.marchFill s.mem.march true).marchReport 1 0 0 (marchOps s.mem.march.alg * s.mem.march.count) 0 0) :=
  congrArg Host.Outcome.next (if_neg (not_not_intro hr))

/-- A march with mismatches that does not stop at the first reports their number and the first of them (R423). -/
theorem exec_marchEnd_fail {n : Nat} (hs : s.mem.march.stopOnFail = false) (h0 : 0 < n) (hn : n ≤ 0xFFFFFFFF)
    (first ops chk : Nat) (d : W64) : exec (.marchEnd n first ops d chk) s
      = .next ((s.marchFill s.mem.march true).marchReport 2 n first (marchOps s.mem.march.alg * s.mem.march.count) d chk) := by
  change execMarchEnd n first ops d chk s = _
  rw [execMarchEnd, if_neg (not_not_intro hr)]
  dsimp only
  rw [if_neg (Nat.ne_of_gt h0), if_neg (ne_true_of_eq_false hs), Nat.min_eq_left hn]

end

/-- Settles O31: each event that is due comes to the operation that it names. -/
theorem memoryEvents : Obligations.MemoryEvents := by
  unfold Obligations.MemoryEvents
  refine ⟨?refresh, ?alert, ?scrub, ?forget, ?repair, ?move, ?init, ⟨?marchPass, ?marchFail⟩⟩
  case refresh =>
    intro s v c r made n hc hr hs ht hn hv
    have hdue := exec_refreshDue hc hr hs ht hn hv
    refine ⟨(hdue false).trans (congrArg _ (if_pos (by decide))), fun hlim => (hdue true).trans (congrArg _ ?_),
      fun hlim => (hdue true).trans (congrArg _ ?_)⟩
    · rw [if_neg (not_not_intro rfl), if_neg (Nat.not_le.2 hlim)]
    · rw [if_neg (not_not_intro rfl), if_pos hlim]
  case alert =>
    intro s c r n t0 hc hr hs hx hn
    exact exec_ddrAlert_below hc hr hs hx hn
  case scrub =>
    intro s q hq hs he hd
    exact exec_scrubRead_buffer hq hs he hd
  case forget =>
    intro s i hi hv ho
    exact exec_hitForgotten_of_old hi hv ho
  case repair =>
    intro s store quad
    rfl
  case move =>
    intro s c hc hm
    exact exec_rankMoveComplete hc hm
  case init =>
    intro s st hst hl
    exact exec_memoryInitComplete_of_others hst hl
  case marchPass =>
    intro s first ops chk d hr
    exact exec_marchEnd_pass hr first ops chk d
  case marchFail =>
    intro s n first ops chk d hr hs h0 hn
    exact exec_marchEnd_fail hr hs h0 hn first ops chk d

end Sys2Proof.Machine
end
